-- ==== Sys2Proof/Word.lean ====
section
/-! DEFINITION. The words of the EXG-M1 block and the operand types of its commands (00_scope.md R3;
01_architecture.md R18 to R21). -/

namespace Sys2Proof

/-- One byte; multi-byte fields are little-endian lists of bytes (R3). -/
abbrev Byte := BitVec 8

/-- A string of bytes, lowest address first. -/
abbrev Bytes := List (BitVec 8)

/-- A global core ID (R21). -/
abbrev CoreId := Fin 192

/-- A context number (R208). -/
abbrev CtxId := Fin 256

/-- A submission queue of a context (R208). -/
abbrev QueueId := Fin 8

/-- A sparse table: keys strictly rising, an unlisted key holds the table's default. -/
abbrev SMap (α : Type) := List (Nat × α)

/-- The three units of a core that fetch from a ring (R88, R118, R157). -/
inductive UnitKind
  | engine
  | vector
  | dma
deriving DecidableEq, Repr

/-- The port classes of the rights columns (R7). -/
inductive PortClass
  | host
  | fabric
  | mgmt
  | debug
  | metro
deriving DecidableEq, Repr

/-- Who makes a dictionary access: its port class, and for FABRIC its source module (R344). -/
structure Accessor where
  cls : PortClass
  src : BitVec 14
deriving DecidableEq, Repr

/-- A detection that meets a command while it runs (R378). `pos` counts beats, rows, elements or runs of
the command from 0; `cacheUe` is an uncorrectable error in the line of the shared cache that holds an address (R164). -/
inductive Detect
  | clean
  | parity (pos : Nat)
  | residue (pos : Nat)
  | memUe (addr : Nat)
  | memCe (addr : Nat)
  | cacheUe (addr : Nat)
deriving DecidableEq, Repr

/-- An exact value handed between units: a whole multiple `m` of `2^e`, or a special value. -/
inductive ExactVal
  | fin (m : Int) (e : Int)
  | posInf
  | negInf
  | nan
deriving DecidableEq, Repr

/-- A fabric packet as it reaches the module (R270, R271, R275). `units` is the header field; the payload is
as long as it came over the wire. `symbols` says how many symbols the FEC of the port corrected in it as it arrived (R283);
it is 0 in a packet that the module sends. -/
structure Packet where
  port       : Fin 64
  typ        : BitVec 6
  vc         : BitVec 2
  tail       : Bool
  retransmit : Bool
  units      : BitVec 6
  dst        : BitVec 14
  src        : BitVec 14
  tag        : BitVec 32
  address    : BitVec 48
  payload    : Bytes
  crc        : BitVec 32
  symbols    : Nat
  /-- the truncated flag of the chunk that the packet ends: it travels with the chunk in a place that spec/ does not give (R300;
  log entry 21) -/
  trunc      : Bool := false
deriving DecidableEq, Repr

/-- What a switch gives a port in training beside its own identity: the module's ID, and the credits of the four virtual channels
(R267, R269). -/
structure SwitchSays where
  moduleId : BitVec 14
  credits  : List Nat
deriving DecidableEq, Repr

/-- A Transit frame (R305). -/
structure Frame where
  typ        : BitVec 6
  retransmit : Bool
  round      : BitVec 3
  dst        : BitVec 14
  src        : BitVec 14
  comm       : BitVec 32
  seq        : BitVec 32
  stage      : BitVec 2
  tree       : BitVec 1
  attempt    : BitVec 2
  index      : BitVec 3
  last       : Bool
  payload    : Bytes
  crc        : BitVec 32
deriving DecidableEq, Repr

/-- The common part of a Drinex transaction header (R326). `reserved` says that some reserved field is non-zero. -/
structure TxnHdr where
  cls      : BitVec 2
  tag      : BitVec 8
  length   : BitVec 13
  reserved : Bool
deriving DecidableEq, Repr

/-- A Drinex flit header (R323); the transactions in its slots arrive as commands of their own, so whether its CRC held comes
with it. `symbols` and `badCodewords` count what the FEC corrected in its codewords, and the ones it could not correct (R337). -/
structure Flit where
  crcOk    : Bool
  kind     : BitVec 4
  seq      : BitVec 12
  ackSeq   : BitVec 12
  ackValid : Bool
  creditP  : BitVec 8
  creditN  : BitVec 8
  creditC  : BitVec 8
  creditE  : BitVec 8
  slots    : BitVec 4
  reserved : Bool
  symbols  : Nat
  badCodewords : Nat
deriving DecidableEq, Repr

/-- The key of an Ephemeris history (R386). -/
structure EphKey where
  unit    : BitVec 64
  cls     : BitVec 8
  key     : BitVec 16
  granule : Option Nat
deriving DecidableEq, Repr

/-- A part whose loss R234 describes. -/
inductive Part
  | computeDie (d : Fin 2)
  | ioDie (d : Fin 2)
  | stack (h : Fin 12)
  | ddr (m : Fin 8)
  | adapter
deriving DecidableEq, Repr

/-- What one DDR5 socket's SPD reports at start-up step 4 (R142, R466). -/
structure DdrSpd where
  mrdimm : Bool
  gib    : Nat
  mts    : Nat
  ecc    : Bool
  x4     : Bool
deriving DecidableEq, Repr

/-- What the work of a start-up step found (R451, R452): failed physical slots (cluster, slot), failed stacks, the
sockets' SPDs, and the identity each stack reported. -/
structure BootReport where
  failedSlots  : List (Fin 24 × Fin 9)
  failedStacks : List (Fin 12)
  spd          : List (Option DdrSpd)
  millis       : BitVec 32
deriving DecidableEq, Repr

/-- A unit of a core, as a waiter or the source of a signal; or a host descriptor (R193). -/
inductive Actor
  | core (u : UnitKind) (g : CoreId) (seq : BitVec 64)
  | host (x : CtxId) (q : QueueId) (seq : BitVec 64)
  | command
  | fabricAgent (src : BitVec 14) (tag : BitVec 32)
deriving DecidableEq, Repr

/-- The path a USDO session runs over (R355, R360, R361). -/
inductive UsdoPath
  | can
  | fabric (src : BitVec 14) (tag : BitVec 32)
  | tap
deriving DecidableEq, Repr

/-- What a USDO request asks (R355): the data field of CiA 1301 is outside spec/. -/
inductive UsdoRequest
  /-- a service that the module does not support, remote access among them -/
  | other
  | upload (index : BitVec 16) (sub : BitVec 8)
  | download (index : BitVec 16) (sub : BitVec 8) (expedited : Option (List (BitVec 8)))
  | segment (data : List (BitVec 8)) (last : Bool)
deriving DecidableEq, Repr, Inhabited

/-- The target of a register write without a row of its own (R340): an object of the dictionary, or a register of a
core-private page (R145). -/
inductive RegTarget
  | object (acc : Accessor) (index : BitVec 16) (sub : BitVec 8) (value : Bytes)
  | core (g : CoreId) (offset : BitVec 16) (value : BitVec 64)
deriving DecidableEq, Repr

/-- Activity of one context in an attribution interval, by kind (R433). -/
structure Activity where
  ctx         : CtxId
  engineBeats : Nat
  vectorBeats : Nat
  dmaBytes    : Nat
  hbmBytes    : Nat
  ddrBytes    : Nat
  fabricBytes : Nat
deriving DecidableEq, Repr

/-- What a link-control frame carries (R269). -/
inductive LinkControl
  | credits (vc : Fin 4) (units : Nat)
  | resend (count : Nat)
deriving DecidableEq, Repr

/-- Why a fabric port leaves UP or fails training (R268). -/
inductive PortLoss
  | signal
  | codewords
  | retryLimit
  | trainFail
deriving DecidableEq, Repr

/-- What triggers a pin-scope, warm or power-on reset, as ResetCause counts them (R453). -/
inductive ResetWhy
  | powerOn
  | pin
  | warmNmt
  | warmCommand
  | warmFirmware
  | thermal
  | inputReset
  | refLoss
  | railPin
deriving DecidableEq, Repr

/-- The dynamic content of a metering mirror frame or one item of the static rotation (R431). -/
inductive MirrorItem
  | dynamic
  | identity
  | firmware
  | manifest
  | blob (n : Fin 4)
  | event (n : Nat)
  | rotationEnd
deriving DecidableEq, Repr

/-- A reduced gradient element as another module's combiner sends it to an update stage: its linear index, its partial field
or compact skein, and its block's anchor byte (R297). -/
structure SentSum where
  lin    : Nat
  field  : Bytes
  anchor : BitVec 8
deriving DecidableEq, Repr

end Sys2Proof
end

