-- ==== Sys2Proof/Config.lean ====
section
/-! DEFINITION. What an implementation of the module fixes and the free values of the model: opaque constants and
functions without a body, so that no proof rests on a value of theirs. -/

namespace Sys2Proof.Config

/-- The printed and fused serial number, 0x1018.04 (R362). Open: measured. -/
opaque serialNumber : BitVec 32
/-- ModuleSerial, 0x2000.01, byte i (R417). Open: printed. -/
opaque moduleSerialByte : Nat → BitVec 8
/-- Spare slot that fuses name for a cluster (R21). Open: any of the nine. -/
opaque fusedSpare : Nat → Fin 9
/-- The other half of a byte whose FP4 element a PERMUTE range ends on: draw, byte offset (R316; log entry 104). Open. -/
opaque neighbourNibble : Nat → Nat → BitVec 4
/-- Byte i of the lot, wafer and position part of the identity record of sub-index s (R397). Open: fused. -/
opaque dieIdentityByte : Nat → Nat → BitVec 8
/-- Random bits drawn from the entropy source, draw n, byte i (R398, R403). Open: random. -/
opaque entropyByte : Nat → Nat → BitVec 8
/-- Class-dependent syndrome detail of a detection, draw n (R381). Open: the hardware's checkpoint and syndrome. -/
opaque syndromeBits : Nat → BitVec 112
/-- ML-DSA-87 public key byte i of a seed (FIPS 204 KeyGen_internal; R398). Uninterpreted. -/
opaque mldsaPublicByte : List (BitVec 8) → Nat → BitVec 8
/-- ML-DSA-87 hedged signature byte i over a message under a seed and context, draw n (R398, R423). Uninterpreted. -/
opaque mldsaSignByte : List (BitVec 8) → String → List (BitVec 8) → Nat → Nat → BitVec 8
/-- ML-DSA.Verify of a public key, context, message and signature (R398, R407). Uninterpreted. -/
opaque mldsaVerify : List (BitVec 8) → String → List (BitVec 8) → List (BitVec 8) → Bool
/-- Byte i of the public key of the Nelsala key slots 0 to 3 held in the boot ROM (R407). Open. -/
opaque romKeyByte : Nat → Nat → BitVec 8
/-- Byte i of the metering die's ROM key for images (R434). Open. -/
opaque meterRomKeyByte : Nat → BitVec 8
/-- The metering key pair's seed byte i, made at manufacture (R423). Open. -/
opaque meterSeedByte : Nat → BitVec 8
/-- The boot ROM's measurement byte i (R414). Open. -/
opaque bootRomMeasurementByte : Nat → BitVec 8
/-- Byte i of the metering certificate (R423). Open. -/
opaque meterCertByte : Nat → BitVec 8
/-- A correctly rounded elementary result (opcode, argument words, mode) that the enclosure search of the model did not
separate within its fuel (R123). Open to the model only. -/
opaque elementaryFallback : Nat → BitVec 32 → BitVec 32 → Nat → BitVec 32
/-- Voltage of a rail at event n, in mV (R380, R440). Open: measured. -/
opaque railMillivolts : Nat → Nat → BitVec 16
/-- Response of the RISC-V debug module to a dmi access, n accesses after power-on, at the selected core (R416). Open. -/
opaque dmiResponse : Nat → BitVec 8 → BitVec 41 → BitVec 41
/-- Image bytes of the test that firmware built in runs; length of a scheduled test (R389). Open. -/
opaque builtInTestCount : Nat
/-- Internal firmware code and detail of a record of class 0x0E, draw n (R381). Open. -/
opaque firmwareCode : Nat → BitVec 16
/-- The cell of the boundary register that drives pin i is cell i of this order (R416). Open: in the boundary-scan file. -/
opaque boundaryOrder : Nat → Nat
/-- Current sampled by the metering die at sample n, in mA; voltage in units of 10 mV; power in mW (R418, R430). Open. -/
opaque meterCurrent : Nat → BitVec 32
/-- Input voltage sampled by the metering die at sample n, units of 10 mV. Open: measured. -/
opaque meterVoltage : Nat → BitVec 16
/-- Input power sampled by the metering die at sample n, mW. Open: measured. -/
opaque meterPower : Nat → BitVec 32
/-- Energy integrated between commits n and n + 1, in whole millijoules (R421). Open: measured. -/
opaque meterEnergyStep : Nat → BitVec 64

/-- The set of a shared-cache slice that a line falls in, of the given number of sets (R148). Open. -/
opaque cacheSet : Nat → Nat → Nat

/-- Header address of the destination of a member that owns a range without a shard entry: module, communicator, call
(R286, R297 do not say how the root learns it). Open. -/
opaque memberDestination : Nat → Nat → Nat → BitVec 48

/-- The saved form of a SKEIN_ADD packet's elements at a target address, a choice among the forms its length admits (R271 does not
say how the target tells them apart). -/
opaque skeinForm : Nat → Nat → Nat

/-- The retry_after that a NACK of reason 5 names, in µs, draw n: R271 and R279 give it a place and no value. -/
opaque retryAfterUs : Nat → BitVec 32

/-- Set and way of the cached line that a shared-cache cell belongs to, for a number of sets (R148, R387). Open. -/
opaque cacheCellWay : Nat → Nat → Nat × Nat

/-- Unit tests that pass in a scheduled run, draw n: which units and tests a run meets is not given in full (R390, R396). Open. -/
opaque scheduledPasses : Nat → Nat
/-- Detail of an Almanac run summary, draw n, byte i: R384 names the entry and gives it no content. Open. -/
opaque runSummaryByte : Nat → Nat → BitVec 8
/-- Content of the firmware flash at manufacture: image type, bank (0 A, 1 B), byte i (R408). Open. -/
opaque flashByte : Nat → Nat → Nat → BitVec 8
/-- Bytes of the firmware flash that hold a manifest and an image, by image type and bank. Open. -/
opaque flashLength : Nat → Nat → Nat
/-- Byte i of the identity seed fused at PROVISION of a module as shipped (R398). Open. -/
opaque fusedSeedByte : Nat → BitVec 8
/-- Byte i of the certificate stored in a module as shipped (R399). Open. -/
opaque certificateByte : Nat → BitVec 8

/-- What the data field of a USDO request asks (CiA 1301; R360, R361). Uninterpreted: spec/ gives no layout. -/
opaque usdoRequest : List (BitVec 8) → UsdoRequest
/-- The data field of a USDO response that carries an abort code, or 0 and value bytes (CiA 1301). Uninterpreted. -/
opaque usdoResponse : Nat → List (BitVec 8) → List (BitVec 8)
/-- Bytes of a value that one USDO response carries, less one (CiA 1301). Open. -/
opaque usdoChunk : Nat

end Sys2Proof.Config
end

