-- ==== Sys2Proof/Syntax.lean ====
section
/-! DEFINITION. The commands of the EXG-M1 block: one constructor for each row of spec/opcode_table.json, in the
table's order. A command's sender and operands are those of the rule its row names. -/

namespace Sys2Proof

/-- The commands the block takes, one per row of the opcode table. -/
inductive Instr
  -- tensor engine (03, 04)
  | ringTailWrite (u : UnitKind) (g : CoreId) (tail : BitVec 32) (descs : List Bytes)
  | ringReleaseWrite (u : UnitKind) (g : CoreId) (release : BitVec 32)
  | descriptorFetch (u : UnitKind) (g : CoreId) (det : Detect)
  | tzro (g : CoreId) (seq : BitVec 64) (det : Detect)
  | tpre (g : CoreId) (seq : BitVec 64) (det : Detect)
  | trst (g : CoreId) (seq : BitVec 64) (det : Detect)
  | tmul (g : CoreId) (seq : BitVec 64) (beats : Option Nat) (det : Detect)
  | tdrn (g : CoreId) (seq : BitVec 64) (det : Detect)
  | tsav (g : CoreId) (seq : BitVec 64) (det : Detect)
  | tatm (g : CoreId) (seq : BitVec 64) (det : Detect)
  | tmov (g : CoreId) (seq : BitVec 64) (det : Detect)
  | tsig (g : CoreId) (seq : BitVec 64)
  | rowFenceRelease (g : CoreId) (group : Fin 16)
  | engineRetire (u : UnitKind) (g : CoreId) (seq : BitVec 64)
  | captureRead (u : UnitKind) (g : CoreId)
  | numericsClearCounters (acc : Accessor)
  | numericsClearFlags (acc : Accessor)
  | vecNumericsClear (acc : Accessor)
  | skeinAtomicApply (index : Nat) (det : Detect)
  | headerMerge (header : BitVec 48) (tag : BitVec 16) (presence : BitVec 3)
  | contextSwitch (x : CtxId) (g : CoreId)
  | contextRestore (x : CtxId) (g : CoreId)
  | sealedSaveSlotsWrite (acc : Accessor) (slots : BitVec 16)
  -- vector unit (05)
  | vadd (g : CoreId) (seq : BitVec 64) (det : Detect)
  | vsub (g : CoreId) (seq : BitVec 64) (det : Detect)
  | vmul (g : CoreId) (seq : BitVec 64) (det : Detect)
  | vfma (g : CoreId) (seq : BitVec 64) (det : Detect)
  | vmin (g : CoreId) (seq : BitVec 64) (det : Detect)
  | vmax (g : CoreId) (seq : BitVec 64) (det : Detect)
  | vabs (g : CoreId) (seq : BitVec 64) (det : Detect)
  | vneg (g : CoreId) (seq : BitVec 64) (det : Detect)
  | vcmplt (g : CoreId) (seq : BitVec 64) (det : Detect)
  | vsel (g : CoreId) (seq : BitVec 64) (det : Detect)
  | vcvt (g : CoreId) (seq : BitVec 64) (det : Detect)
  | vexp (g : CoreId) (seq : BitVec 64) (det : Detect)
  | vlog (g : CoreId) (seq : BitVec 64) (det : Detect)
  | vtanh (g : CoreId) (seq : BitVec 64) (det : Detect)
  | vsigm (g : CoreId) (seq : BitVec 64) (det : Detect)
  | vrsqrt (g : CoreId) (seq : BitVec 64) (det : Detect)
  | verf (g : CoreId) (seq : BitVec 64) (det : Detect)
  | vdiv (g : CoreId) (seq : BitVec 64) (det : Detect)
  | vsqrt (g : CoreId) (seq : BitVec 64) (det : Detect)
  | vexpd (g : CoreId) (seq : BitVec 64) (det : Detect)
  | vrsum (g : CoreId) (seq : BitVec 64) (det : Detect)
  | vrssq (g : CoreId) (seq : BitVec 64) (det : Detect)
  | vrdot (g : CoreId) (seq : BitVec 64) (det : Detect)
  | vrsexp (g : CoreId) (seq : BitVec 64) (det : Detect)
  | vrmax (g : CoreId) (seq : BitVec 64) (det : Detect)
  | vrdrn (g : CoreId) (seq : BitVec 64) (det : Detect)
  | vrsav (g : CoreId) (seq : BitVec 64) (det : Detect)
  | vrrst (g : CoreId) (seq : BitVec 64) (det : Detect)
  | vratm (g : CoreId) (seq : BitVec 64) (det : Detect)
  | vrng (g : CoreId) (seq : BitVec 64) (det : Detect)
  | vuni (g : CoreId) (seq : BitVec 64) (det : Detect)
  | vdrop (g : CoreId) (seq : BitVec 64) (det : Detect)
  -- DMA and memory (06)
  | dcopy (g : CoreId) (seq : BitVec 64) (det : Detect)
  | dfill (g : CoreId) (seq : BitVec 64) (det : Detect)
  | dhinit (g : CoreId) (seq : BitVec 64) (det : Detect)
  | dhash (g : CoreId) (seq : BitVec 64) (det : Detect)
  | dinval (g : CoreId) (seq : BitVec 64) (det : Detect)
  | dhalo (g : CoreId) (seq : BitVec 64) (det : Detect)
  | patrolScrub (det : Detect)
  -- contexts and queues (09)
  | create (acc : Accessor) (sealed peerOpen : Bool) (queues : Fin 8)
  | destroy (acc : Accessor)
  | stop (acc : Accessor)
  | start (acc : Accessor)
  | reset (acc : Accessor)
  | contextResetFinish (x : CtxId)
  | peerOpen (acc : Accessor)
  | peerClose (acc : Accessor)
  | queueConfig (acc : Accessor) (config : Bytes)
  | queueReset (acc : Accessor)
  | accept (x : CtxId) (q : QueueId)
  | acceptAdvance (x : CtxId) (q : QueueId)
  | run (x : CtxId) (q : QueueId)
  | planLoad (x : CtxId) (q : QueueId)
  | planUnload (x : CtxId) (q : QueueId)
  | planUnloadTakeEffect (x : CtxId)
  | sync (x : CtxId) (q : QueueId)
  | vtSet (x : CtxId) (q : QueueId)
  | commit (x : CtxId) (q : QueueId)
  | commitComplete (x : CtxId) (q : QueueId)
  | replay (x : CtxId)
  | cancelCascade (x : CtxId) (q : QueueId) (seq : BitVec 64)
  | snapshotCommand (acc : Accessor)
  | snapshotDone
  | journalRelocate (lost : Fin 8)
  | partLost (part : Part)
  -- counters and barriers (08)
  | counterSignal (p : Fin 65536) (amount : BitVec 32) (src : Actor)
  | counterWait (p : Fin 65536) (waiter : Actor)
  | counterGrant (p : Fin 65536)
  | cancelMark (p : Fin 65536)
  | barrierEnter (x : CtxId) (slot : Fin 256) (member : Nat) (src : Actor)
  | signalCmd (acc : Accessor) (amount : BitVec 64)
  | debit (acc : Accessor) (amount : BitVec 64)
  | setProduced (acc : Accessor) (p : BitVec 64)
  | setConsumed (acc : Accessor) (c : BitVec 64)
  | setMode (acc : Accessor) (mode : BitVec 64)
  | clear (acc : Accessor)
  | cancel (acc : Accessor)
  -- training support (10)
  | upd (x : CtxId) (q : QueueId) (sums : List SentSum) (det : Detect)
  | upda (x : CtxId) (q : QueueId) (sums : List SentSum) (det : Detect)
  | phaseFlip (x : CtxId)
  | watchRecompute (g : CoreId) (seq : BitVec 64) (det : Detect)
  | watchClearCounts (acc : Accessor)
  | watchClearEvents (acc : Accessor)
  -- fabric (11)
  | portTrainStart (p : Fin 64)
  | portTrained (p : Fin 64) (plane : Nat) (switchId : BitVec 32) (switchPort : BitVec 16) (said : SwitchSays)
  | moduleIdAdopt
  | portDown (p : Fin 64) (why : PortLoss)
  | portEnable (acc : Accessor)
  | portDisable (acc : Accessor)
  | portRetrain (acc : Accessor)
  | linkControlFrame (p : Fin 64) (ctl : LinkControl)
  | loadReq (pkt : Packet)
  | loadRsp (pkt : Packet)
  | store (pkt : Packet)
  | storeBytes (pkt : Packet)
  | skeinAdd (pkt : Packet)
  | intAtomic (pkt : Packet)
  | atomicRsp (pkt : Packet)
  | signal (pkt : Packet)
  | tailSignalApply (src : BitVec 14)
  | fabricDoorbell (pkt : Packet)
  | dictReq (pkt : Packet)
  | dictRsp (pkt : Packet)
  | ack (pkt : Packet)
  | nack (pkt : Packet)
  | resync (pkt : Packet)
  | routeFail (pkt : Packet)
  | retransmitTimeout (dst : BitVec 14) (tag : BitVec 32)
  | fabricDeadline (dst : BitVec 14) (tag : BitVec 32)
  | resyncRetryTimer (dst : BitVec 14)
  | ackTimer (src : BitVec 14)
  | trackerEvict (src : BitVec 14)
  | planeProbe (dst : BitVec 14) (plane : Fin 8)
  -- collectives (12)
  | transitUp (f : Frame)
  | transitDown (f : Frame)
  | abort (f : Frame)
  | rerun (f : Frame)
  | credit (f : Frame)
  | chunkCombine (comm seq : BitVec 32) (chunk : Nat) (det : Detect)
  | slotWaitTimeout (comm seq : BitVec 32)
  | transitTimeout (comm seq : BitVec 32) (round : BitVec 3) (index : BitVec 3)
  | collectiveDeadline (comm seq : BitVec 32)
  -- Drinex (13)
  | drinexTrainStart
  | drinexTrained (lanes : BitVec 8) (peerEpoch : BitVec 32) (peerLast : BitVec 12) (peerResume : Bool)
      (credP credC credE : Nat)
  | drinexLaneFail (lane : Fin 8)
  | drinexDown
  | drinexRetryLimit
  | dataFlit (f : Flit)
  | retryRequest (f : Flit)
  | idleFlitTimer
  | drinexEnable (acc : Accessor)
  | drinexDisable (acc : Accessor)
  | drinexRetrain (acc : Accessor)
  | mwr (h : TxnHdr) (address : BitVec 48) (data : Bytes) (det : Detect)
  | mrd (h : TxnHdr) (address : BitVec 48) (det : Detect)
  | doorbell (h : TxnHdr) (x : CtxId) (q : QueueId) (newTail newRelease : BitVec 64)
  | dictRd (h : TxnHdr) (index : BitVec 16) (sub : BitVec 8)
  | dictWr (h : TxnHdr) (index : BitVec 16) (sub : BitVec 8) (data : Bytes)
  | echoAck (h : TxnHdr) (x : CtxId) (q : QueueId) (commitKind : Bool) (seq : BitVec 64)
  -- dictionary and management bus (14)
  | accessLevelWrite (acc : Accessor) (value : BitVec 8)
  | accessLevelTimeout
  | registerWrite (target : RegTarget)
  | usdoUpload (path : UsdoPath) (index : BitVec 16) (sub : BitVec 8)
  | usdoDownload (path : UsdoPath) (index : BitVec 16) (sub : BitVec 8) (expedited : Option Bytes)
  | usdoSegment (path : UsdoPath) (data : Bytes) (last : Bool)
  | usdoTimeout (path : UsdoPath)
  | tapDict (length : BitVec 8) (request : Bytes)
  | switchStateGlobal (configuration : Bool)
  | switchStateSelective (vendor product revision serial : BitVec 32)
  | configureNodeId (node : BitVec 8)
  | configureBitTiming (table index : BitVec 8)
  | storeConfiguration
  | inquireIdentity (which : Fin 5)
  | fastscan (idNumber : BitVec 32) (bitCheck lssSub lssNext : BitVec 8)
  | startRemoteNode (node : BitVec 8)
  | stopRemoteNode (node : BitVec 8)
  | enterPreOperational (node : BitVec 8)
  | resetNode (node : BitVec 8)
  | resetCommunication (node : BitVec 8)
  | heartbeat
  | emcyInhibitTimer
  | errorHistoryClear (acc : Accessor) (value : BitVec 8)
  | tpdoSample
  | tpdoEventTimer (n : Fin 8)
  | busOffRecovery
  -- interrupts (15)
  | irqPendingClear (acc : Accessor) (bits : Bytes)
  | irqPendingSet (acc : Accessor) (bits : Bytes)
  | irqSourceRoute (acc : Accessor) (value : BitVec 32)
  | coalesceLimitWrite (acc : Accessor) (time : Bool) (value : BitVec 16)
  | coalesceTimer (dest : BitVec 16)
  | lineAck (g : CoreId) (value : BitVec 1)
  -- reliability (16)
  | retest (key : EphKey) (pass : Bool)
  | retestDeadline (key : EphKey) (pass : Bool)
  | ephemerisCompact
  | hoursCheckpoint
  | almanacLoad (acc : Accessor) (address : BitVec 64)
  | almanacIdleOn (acc : Accessor)
  | almanacIdleOff (acc : Accessor)
  | runScheduled (acc : Accessor) (scope : BitVec 64) (failures : List (EphKey × Nat))
  | almanacUnload (acc : Accessor)
  | almanacIdleStep (g : CoreId) (test : Nat) (pass : Bool)
  | dipBegin (die : Fin 4) (millivolts : BitVec 16)
  | dipEnd (die : Fin 4) (minMv : BitVec 16) (nanos : BitVec 32)
  | dipWindowEnd (die : Fin 2)
  -- identity, security, firmware, TAP (17)
  | provision (acc : Accessor)
  | deploy (acc : Accessor)
  | debugEnter (acc : Accessor)
  | debugExit (acc : Accessor)
  | decommission (acc : Accessor) (operand : BitVec 64)
  | debugNonceRead (acc : Accessor)
  | stageChunkWrite (acc : Accessor) (chunk : Bytes)
  | keyStore (acc : Accessor) (slot : BitVec 8)
  | certStore (acc : Accessor)
  | fwBegin (acc : Accessor) (image : BitVec 8) (total : BitVec 32)
  | fwEraseDone
  | fwUpdateData (acc : Accessor) (data : Bytes)
  | fwVerify (acc : Accessor)
  | fwActivate (acc : Accessor) (mask : BitVec 8)
  | fwAbort (acc : Accessor)
  | commitVersion (acc : Accessor) (mask : BitVec 8)
  | revert (acc : Accessor) (mask : BitVec 8)
  | overrideArm (acc : Accessor)
  | overrideDisarm (acc : Accessor)
  | attestNonce (acc : Accessor) (nonce : Bytes)
  | attestDone
  | extest (cells : BitVec 1184)
  | samplePreload (pins cells : BitVec 1184)
  | clamp
  | highz
  | idcode
  | dmiSelect (value : BitVec 8)
  | dmi (value : BitVec 41)
  | sealedRead (value : BitVec 112)
  | bypass (code : BitVec 8) (bit : BitVec 1)
  -- sealed metering (18)
  | registerCommit
  | referenceDeviation (away : Bool) (ppm : BitVec 32)
  | meterConditionChange (power away : Bool) (value : BitVec 32)
  | readingNonce (acc : Accessor) (nonce : Bytes)
  | readingDone
  | periodicReading
  | mirrorFrame (crcOk : Bool) (item : MirrorItem)
  | mirrorTimeout
  | meterNmtCommand (command : BitVec 8) (node : BitVec 8)
  | meterFwBegin (acc : Accessor) (bytes : BitVec 32)
  | meterFwData (acc : Accessor) (data : Bytes)
  | meterFwActivate (acc : Accessor)
  | meterFwAbort (acc : Accessor)
  | attributionInterval (activity : List Activity)
  | attributionClear (acc : Accessor)
  -- clocks, power, reset (19)
  | powerSample (milliwatts : BitVec 32)
  | thermalSample (temps : List (BitVec 16))
  | referenceLoss
  | inputWarning (away : Bool) (millivolts : BitVec 16)
  | railResetLevel (rail : Fin 15)
  | railDip (rail : Fin 15) (minMv : BitVec 16) (nanos : BitVec 32)
  | warmResetCommand (acc : Accessor)
  | dieResetCommand (acc : Accessor) (die : Fin 2)
  | warmReset (why : ResetWhy)
  | warmResetDrainEnd
  | dieReset (die : Fin 2)
  | powerOnReset (why : ResetWhy)
  | bootStepComplete (report : BootReport)
  | bootStepTimeout
  | journalSweep
  | moduleResetPin
  | powerEnableHigh
  | powerEnableLow
  -- rows added at the end of the table
  | uncorrectableCodeword (p : Fin 64) (packets : Nat)
  | nackRetryAfter (dst : BitVec 14) (tag : BitVec 32)
  | controlCoreParityError (g : CoreId)
  | referenceWithinLimits
  | moduleResetNRise
  | lifecycleCommandFinish
  | journalRelocationComplete
  | nodeErrorPassive (busOff : Bool) (tx rx : BitVec 8)
  | canReceiveOverrun
  | meteringPowerOn (selfTest : Option Nat)
deriving DecidableEq, Repr

end Sys2Proof
end

