-- ==== Sys2Proof/Machine/State.lean ====
section
/-! DEFINITION. The state of the EXG-M1 block: every register, ring, table, buffer, counter, mode and pin that spec/
gives the module, as plain data, and the queue of waiting commands. Each field's comment gives its width, its rule, and
its value at reset where that is not the Default of its object. -/

namespace Sys2Proof.Machine

/-- No meaning of this block stops in a fault; the type is closed for the host's interface. -/
inductive Fault
  /-- Raised by no meaning: a command whose condition does not hold changes nothing. Safe. -/
  | never
deriving DecidableEq, Repr

/-- Why a command has no meaning. -/
inductive Refusal
  /-- Raised by exec for a row without a meaning yet; carries the row's mnemonic. Safe. -/
  | notModelled (mnemonic : String)
deriving DecidableEq, Repr

/-! ### Engine, vector unit and DMA (03, 04, 05, 06) -/

/-- One 136-bit skein entry (R54): value bits, class, cause, truncated, overflow. -/
structure Entry where
  value : BitVec 128 := 0
  cls   : BitVec 2 := 0
  cause : BitVec 4 := 0
  trunc : Bool := false
  ovf   : Bool := false
deriving DecidableEq, Repr, Inhabited

/-- The exception capture (R65, R111), 32 bytes. -/
structure Capture where
  sequence    : BitVec 64 := 0
  row         : BitVec 32 := 0
  column      : BitVec 32 := 0
  batch       : BitVec 32 := 0
  k           : BitVec 32 := 0
  cause       : BitVec 4 := 0
  valid       : Bool := false
  overwritten : BitVec 8 := 0
deriving DecidableEq, Repr, Inhabited

/-- Where a fetched descriptor stands (R106, R107). -/
inductive Phase
  /-- fetched from the ring, not yet dispatched -/
  | fetched
  /-- dispatched and held by its wait (R186) -/
  | waiting
  /-- a TMUL part of whose beats have issued (R82) -/
  | running
  /-- every effect done or refused; to be retired -/
  | executed
  /-- retired; its completion record waits for earlier instructions (R107) -/
  | retired
deriving DecidableEq, Repr, Inhabited

/-- A fetched instruction of a unit. -/
structure WinEntry where
  /-- sequence number the slot consumed (R88) -/
  seq        : BitVec 64 := 0
  /-- ring index of its descriptor -/
  index      : BitVec 32 := 0
  /-- the 128 descriptor bytes -/
  desc       : Bytes := []
  phase      : Phase := .fetched
  /-- its wait has been granted (R193) -/
  granted    : Bool := false
  /-- it became a waiter at its counter -/
  queued     : Bool := false
  /-- it holds reserved_credit under R189 -/
  reserved   : Bool := false
  /-- its wait met a cancel mark while it was held (R194) -/
  cancelled  : Bool := false
  /-- a remote header was asked for at dispatch, and its answer (R78) -/
  asked      : Bool := false
  /-- its signal rides in the tail of its last data packet (R195, R275) -/
  tailed     : Bool := false
  answer     : Option Bytes := none
  status     : BitVec 16 := 0
  flags      : BitVec 16 := 0
  opcode     : BitVec 8 := 0
  /-- beats issued so far, TMUL (R82) -/
  beats      : Nat := 0
  issueTime  : BitVec 64 := 0
  retireTime : BitVec 64 := 0
  /-- first invalid event, written at retirement (R65) -/
  event      : Option Capture := none
  /-- elements flushed by a drain (R53) -/
  flushed    : Nat := 0
  /-- division by zero elements (R130) -/
  divZero    : Nat := 0
  /-- the numeric sticky truncated bit was set (R38) -/
  held       : Bool := false
deriving DecidableEq, Repr, Inhabited

/-- The ring registers and window of one unit (R87, R118, R146, R157). -/
structure UnitRing where
  /-- ring base, 24 bits -/
  base     : BitVec 24 := 0
  /-- log2 of the ring size, 4 bits, reset 6 -/
  log2     : BitVec 4 := 6
  /-- tail, 32 bits -/
  tail     : BitVec 32 := 0
  /-- head, 32 bits -/
  head     : BitVec 32 := 0
  /-- completion ring base, 24 bits -/
  cbase    : BitVec 24 := 0
  /-- next sequence number, 64 bits -/
  nextSeq  : BitVec 64 := 0
  /-- completion release index, 32 bits (R146) -/
  release  : BitVec 32 := 0
  /-- next completion record to be written; the unit's next completion index (R146) -/
  compHead : BitVec 32 := 0
  /-- stopped for a context switch; state register 0x04 -/
  stopped  : Bool := false
  /-- fetched instructions without a completion record, oldest first -/
  window   : List WinEntry := []
  /-- EngineRetiredSequence (R113), 64 bits -/
  retired  : BitVec 64 := 0
  /-- EngineRefusedCount (R113), 32 bits saturating -/
  refused  : BitVec 32 := 0
deriving DecidableEq, Repr, Inhabited

/-- One core: engine, vector unit, DMA engine and interrupt line (R18). -/
structure Core where
  engine       : UnitRing := {}
  vector       : UnitRing := {}
  dma          : UnitRing := {}
  /-- skein entries, key row x 512 + column (R54); zeroed by start-up (R451) -/
  skein        : SMap Entry := []
  /-- 256 row tags of 32 bits (R59); valid bits clear at reset -/
  tags         : SMap (BitVec 32) := []
  /-- 16 row-group fence counters (R71) -/
  fences       : SMap Nat := []
  /-- engine exception capture (R111) -/
  capture      : Capture := {}
  /-- vector exception capture (R118) -/
  vcapture     : Capture := {}
  /-- InvalidCount, OverflowCount, TruncatedCount, FlushCount, 32 bits saturating (R53) -/
  invalid      : BitVec 32 := 0
  overflow     : BitVec 32 := 0
  truncated    : BitVec 32 := 0
  flush        : BitVec 32 := 0
  /-- EngineStickyFlags [3:0] (R53) -/
  sticky       : BitVec 4 := 0
  /-- VecInvalidCount, VecOverflowCount, VecDivZeroCount, 32 bits saturating (R136) -/
  vecInvalid   : BitVec 32 := 0
  vecOverflow  : BitVec 32 := 0
  vecDivZero   : BitVec 32 := 0
  /-- reduction registers, key register x 5 + j (R125) -/
  red          : SMap Entry := []
  /-- 256 reduction register tags of 32 bits (R125) -/
  redTags      : SMap (BitVec 32) := []
  /-- line_status (R369) -/
  line         : Bool := false
  /-- TMUL progress restored with a context: seq, iteration, next tile row, next K offset (R82, R83) -/
  progress     : Option (BitVec 64 × Nat × Nat × Nat) := none
  /-- the context whose state the engine holds (R84) -/
  owner        : Option CtxId := none
  /-- the host descriptor whose instructions the core runs (R220, R231) -/
  job          : Option (QueueId × BitVec 64) := none
  /-- the sampled TDRN whose tile the numerics watch recomputes next: seq and descriptor (R260, R261) -/
  watch        : Option (BitVec 64 × Bytes) := none
  /-- descriptors that firmware has still to put into the core's rings, in order (R172, R173, R217) -/
  work         : List (UnitKind × Bytes) := []
  /-- retired instructions of tiles and reduction chains that have not ended: unit, seq, descriptor (R393) -/
  open_        : List (UnitKind × BitVec 64 × Bytes) := []
deriving DecidableEq, Repr, Inhabited

/-! ### Synchronisation (08) -/

/-- A physical counter (R185). -/
structure Counter where
  /-- P in monotonic mode, n in service mode, 64 bits -/
  produced  : BitVec 64 := 0
  /-- C, 64 bits -/
  consumed  : BitVec 64 := 0
  /-- limit, 32 bits -/
  buffers   : BitVec 32 := 0
  /-- reserved_credit, 32 bits (R189) -/
  reserved  : BitVec 32 := 0
  monotonic : Bool := false
  frozen    : Bool := false
  cancelled : Bool := false
  allocated : Bool := false
  /-- 0 none, 1 underflow, 2 overflow -/
  cause     : BitVec 2 := 0
  /-- owning context -/
  owner     : BitVec 8 := 0
  /-- virtual ID in the owner's table -/
  vid       : BitVec 12 := 0
  /-- credits granted so far: the consumer's position, which firmware keeps for replay (R191, R232) -/
  grants    : Nat := 0
  /-- the waiters, in order of arrival (R193) -/
  waiters   : List Actor := []
deriving DecidableEq, Repr, Inhabited

/-- A barrier slot (R198). -/
structure Barrier where
  /-- generation, 32 bits -/
  gen      : BitVec 32 := 0
  e0       : List Nat := []
  e1       : List Nat := []
  members  : List Nat := []
  poisoned : Bool := false
  /-- poisoned by a poisoned multi-module DOWN (R315) -/
  mismatch : Bool := false
  /-- poisoned by an overrun, not by a cancel mark (R194, R201) -/
  overrun  : Bool := false
  /-- communicator of a multi-module barrier (R315) -/
  comm     : Option (BitVec 32) := none
deriving DecidableEq, Repr, Inhabited

/-- A signal or cancel mark on its way to a counter or barrier entry (R195). -/
structure SignalMsg where
  ctx    : CtxId
  vid    : BitVec 12
  amount : BitVec 8
  cancel : Bool
  /-- it releases the reservation of R189 when applied -/
  reserved : Bool
  src    : Actor
  member : Nat
deriving DecidableEq, Repr

/-- A skein addend on its way to a skein atomic unit (R78). -/
structure Addend where
  /-- module address of the target element -/
  target : Nat
  ply    : Nat
  cls    : BitVec 2
  lsb    : BitVec 16
  elem   : Bytes
  src    : Actor
deriving DecidableEq, Repr

/-! ### Plans (07, 12) -/

/-- Tensor record (R471). -/
structure TensorRec where
  tensorId   : BitVec 32
  format     : BitVec 8
  rank       : Nat
  blockDim   : Nat
  cls        : BitVec 2
  ply        : Nat
  windowRule : Nat
  lsb        : BitVec 16
  mode       : BitVec 3
  scale      : BitVec 8
  anchorA    : BitVec 32
  anchorB    : BitVec 32
  dims       : List Nat
deriving DecidableEq, Repr

/-- Operation record (R471, R285). -/
structure OpRec where
  opId       : BitVec 16
  kind       : BitVec 8
  sign       : Bool
  inputs     : List (BitVec 32)
  preloads   : List (BitVec 32)
  outputs    : List (BitVec 32)
  subOp      : BitVec 8
  partialTo  : BitVec 32
  kTotal     : Nat
  encoding   : BitVec 8
  reduceOp   : BitVec 8
  units      : Nat
  count      : Nat
  rootUnit   : Nat
deriving DecidableEq, Repr

/-- Placement record (R170). -/
structure Placement where
  opId    : BitVec 16
  group   : BitVec 8
  policy  : Nat
  slot    : Nat
  bufBase : Nat
  bufBytes : Nat
  hFixed  : Nat
  kcFixed : Nat
  kFirst  : Nat
  kCount  : Nat
deriving DecidableEq, Repr

/-- Resource record (R176). -/
structure ResourceRec where
  kind   : Nat
  scope  : Nat
  amount : Nat
  base   : Nat
deriving DecidableEq, Repr

/-- Counter-translation record (R183). -/
structure TransRec where
  vid      : BitVec 12
  kind     : Nat
  mono     : Bool
  buffers  : BitVec 32
  group    : BitVec 8
  mask     : BitVec 4
  peerCtx  : BitVec 8
  slot     : Nat
  peerMod  : BitVec 14
  peerVid  : BitVec 12
deriving DecidableEq, Repr

/-- Communicator with its call counter (R287, R289). -/
structure Comm where
  commId  : BitVec 32
  flip    : Bool
  members : List Nat
  /-- call counter, 32 bits (R289) -/
  next    : BitVec 32
deriving DecidableEq, Repr

/-- Call record (R287). -/
structure CallRec where
  opId      : BitVec 16
  vid       : BitVec 16
  commId    : BitVec 32
  unitFirst : Nat
  unitHeld  : Nat
  staging   : Nat
deriving DecidableEq, Repr

/-- Phase-map entry (R254). -/
structure PhaseEntry where
  phase  : Nat
  kind   : Nat
  opId   : BitVec 16
  stage  : Nat
  modId  : Nat
  queue  : Nat
  group  : Nat
  header : Nat
  tensor : BitVec 32
  first  : Nat
  count  : Nat
deriving DecidableEq, Repr

/-- An admitted plan (R166 to R171, R175). -/
structure Plan where
  planId     : BitVec 64 := 0
  logical    : Bytes := []
  mapping    : Bytes := []
  tensors    : List TensorRec := []
  ops        : List OpRec := []
  /-- random streams: tensor, seed, stream; the seed table of R240 -/
  seeds      : List (BitVec 32 × BitVec 64 × BitVec 16) := []
  /-- contribution units: op, unit, source tensor (R286) -/
  contribs   : List (BitVec 16 × Nat × BitVec 32) := []
  /-- engine groups: group_id and cores (R170) -/
  groups     : List (BitVec 8 × List Nat) := []
  placements : List Placement := []
  /-- shape table (R103): m_max, n_max, k_max, batch_max by slot -/
  shapes     : List (Nat × Nat × Nat × Nat) := []
  resources  : List ResourceRec := []
  trans      : List TransRec := []
  comms      : List Comm := []
  calls      : List CallRec := []
  /-- barrier bindings: communicator and slot (R287) -/
  bindings   : List (BitVec 32 × Nat) := []
  /-- the plan has a phase-map section (R255) -/
  phased     : Bool := false
  phases     : List PhaseEntry := []
  /-- phase-map scratch range: address and bytes (R254) -/
  scratch    : Nat × Nat := (0, 0)
deriving DecidableEq, Repr, Inhabited

/-! ### Contexts and queues (09) -/

/-- Context states (R208). -/
inductive CtxState
  | free
  | opened
  | ready
  | stopped
  | recovering
  | resetting
deriving DecidableEq, Repr, Inhabited

/-- Where an accepted host descriptor stands (R213, R228, R229). -/
inductive DescPhase
  | accepted
  | waiting
  | dispatched
  /-- COMMIT block of state 1 written -/
  | prepared
  /-- COMMIT block of state 2 written, echo sent -/
  | committed
  /-- completion record written -/
  | completed
deriving DecidableEq, Repr, Inhabited

/-- A tile that firmware issued (R173). -/
structure Tile where
  core   : Nat
  batch  : Nat
  mOrigin : Nat
  nOrigin : Nat
  height : Nat
  kc     : Nat
deriving DecidableEq, Repr

/-- A host descriptor between acceptance and completion (R216 to R232). -/
structure HostDesc where
  seq        : BitVec 64 := 0
  /-- the 128 bytes as accepted (R223) -/
  bytes      : Bytes := []
  acceptTime : BitVec 64 := 0
  /-- place in the context's order of acceptance -/
  order      : Nat := 0
  /-- place in the context's order of dispatch -/
  turn       : Nat := 0
  phase      : DescPhase := .accepted
  granted    : Bool := false
  queued     : Bool := false
  /-- its wait met a cancel mark while it was held (R194) -/
  cancelled  : Bool := false
  status     : BitVec 16 := 0
  flags      : BitVec 16 := 0
  /-- attempts so far (R231) -/
  attempts   : Nat := 0
  /-- statuses of instructions, instances and waits of the running attempt (R220) -/
  outcomes   : List (BitVec 16) := []
  /-- checks of earlier attempts: attempt and content checks (R231) -/
  checks     : List (Nat × List Bytes) := []
  /-- header addresses the bindings resolved to (R226) -/
  resolved   : List (BitVec 64) := []
  flips      : BitVec 8 := 0
  tiles      : List Tile := []
  /-- counters recorded at dispatch for replay: physical counter, produced, consumed, and the credits granted so far (R232) -/
  record     : List (Nat × BitVec 64 × BitVec 64 × Nat) := []
  /-- the commit-echo was acknowledged -/
  echoed     : Bool := false
  /-- local counters that it, or an instruction of its RUN, names: physical counter, and whether a wait names it (R232) -/
  named      : List (Nat × Bool) := []
  /-- completed by a cancel mark that its wait met (R194, R232) -/
  marked     : Bool := false
  /-- it needs a part that has left service: it is not replayed (R231, R234) -/
  lost       : Bool := false
  /-- units that each attempt ran on, by attempt (R231) -/
  units      : List (Nat × List Nat) := []
  /-- its collective instance, communicator and seq (R289) -/
  call       : Option (BitVec 32 × BitVec 32) := none
  /-- RELEASE DOWN was received (R294) -/
  released   : Bool := false
  /-- its update or collective work on this module has ended -/
  workDone   : Bool := false
deriving DecidableEq, Repr, Inhabited

/-- A submission queue (R212, R213). -/
structure Queue where
  configured : Bool := false
  ringBase   : Nat := 0
  ringLog2   : Nat := 6
  fabric     : Bool := false
  cringBase  : Nat := 0
  irqVector  : BitVec 16 := 0
  baseSeq    : BitVec 64 := 0
  /-- tail, accept, dispatch, complete, release: 64 bits each -/
  tail       : BitVec 64 := 0
  accept     : BitVec 64 := 0
  dispatch   : BitVec 64 := 0
  complete   : BitVec 64 := 0
  release    : BitVec 64 := 0
  /-- queue_error (R215) -/
  error      : Bool := false
  /-- DoorbellRejectCount, 32 bits saturating -/
  rejects    : BitVec 32 := 0
  /-- a descriptor whose ACCEPT block is written and whose echo is out (R221) -/
  accepting  : Option HostDesc := none
  acceptEchoed : Bool := false
  /-- a queue reset waits for the acceptance in progress (R237) -/
  resetting  : Bool := false
  /-- accepted descriptors not completed, oldest first -/
  descs      : List HostDesc := []
deriving DecidableEq, Repr, Inhabited

/-- A versioned tensor (R226): slot header addresses, 48 bits each, and the current bit. -/
structure VTensor where
  slot0   : BitVec 48 := 0
  slot1   : BitVec 48 := 0
  current : Bool := false
deriving DecidableEq, Repr, Inhabited

/-- A failed descriptor, and what its cascade has cancelled (R233). -/
structure Cascade where
  queue   : Nat
  seq     : BitVec 64
  /-- acceptances of the context before its completion record was written -/
  upto    : Nat
  /-- vids that carry marks of the cascade -/
  vids    : List Nat
  /-- descriptors cancelled: queue and seq -/
  members : List (Nat × BitVec 64) := []
  started : Bool := false
deriving DecidableEq, Repr

/-- The work of a core whose context has been switched away: its host descriptor, what stood in its rings and what is still to be put
there, the next sequence numbers of its three rings, and the TMUL that was stopped at a beat (R82, R114). -/
structure Parked where
  job     : Option (QueueId × BitVec 64) := none
  work    : List (UnitKind × Bytes) := []
  /-- what stood in its rings unfetched, to be fetched again -/
  rings   : List (UnitKind × Bytes) := []
  seqs    : BitVec 64 × BitVec 64 × BitVec 64 := (0, 0, 0)
  running : Option Bytes := none
deriving DecidableEq, Repr, Inhabited

/-- A context (R208). -/
structure Context where
  st          : CtxState := .free
  /-- state before STOP (R208) -/
  before      : CtxState := .opened
  isSealed    : Bool := false
  peerOpen    : Bool := false
  queueCount  : Nat := 1
  /-- created while the lifecycle state was Debug (R403) -/
  inDebug     : Bool := false
  queues      : SMap Queue := []
  vts         : SMap VTensor := []
  plan        : Option Plan := none
  /-- acceptances so far -/
  accepts     : Nat := 0
  /-- dispatches so far -/
  dispatches  : Nat := 0
  /-- order of a PLAN_UNLOAD that has dispatched and has not taken effect (R177, R178) -/
  unloading   : Option Nat := none
  /-- translation table, 4,096 entries of 64 bits (R182) -/
  trans       : SMap (BitVec 64) := []
  barriers    : SMap Barrier := []
  /-- compute die whose sync array holds the barriers (R182) -/
  barrierDie  : Nat := 0
  /-- engines whose state lies in a save area (R83) -/
  saved       : List Nat := []
  /-- what those engines were running when they were switched, by core (R114) -/
  parked      : SMap Parked := []
  /-- sealed save slots reserved, one for each of the plan's engines in ascending order (R85) -/
  slots       : List Nat := []
  /-- ShortfallCount and the entries kept, eight at most (R179) -/
  shortfallCount : BitVec 8 := 0
  shortfalls  : List Bytes := []
  /-- PhaseCurrent [1:0], flip in progress, PhaseFlipCount 32 bits (R264) -/
  phase       : Nat := 0
  flipping    : Bool := false
  /-- tensors that the flip in progress has still to permute, and the PERMUTE call under way (R258, R316) -/
  flipTensors : List (BitVec 32) := []
  permute     : Option (BitVec 32 × BitVec 32) := none
  /-- step of the flip in progress: 0 begun, 1 first barrier, 2 PERMUTE, 3 second barrier, 4 switch; and the generation of the barrier
  it waits for (R258) -/
  flipStage   : Nat := 0
  flipGen     : BitVec 32 := 0
  /-- shards of the tensor being permuted: entry, place in the scratch range, and header as copied (R316) -/
  flipShards  : List (PhaseEntry × Nat × Bytes) := []
  flipCount   : BitVec 32 := 0
  /-- ContextEnergyMj 64 bits and its carried fraction (R433) -/
  energy      : BitVec 64 := 0
  energyCarry : Rat := 0
  /-- the replay set: queue and seq (R232) -/
  replaySet   : List (Nat × BitVec 64) := []
  /-- counters that a replay has set in monotonic mode and that go back to service mode (R232) -/
  replayed    : List Nat := []
  /-- failed descriptors whose dependants firmware has still to complete (R233) -/
  cascades    : List Cascade := []
deriving DecidableEq, Repr, Inhabited

/-! ### Fabric (11) -/

/-- A fabric port (R268, R269, R283). -/
structure Port where
  /-- state code of R268 -/
  st         : BitVec 3 := 0
  peer       : Bytes := []
  /-- module ID the switch reported -/
  reported   : Option (BitVec 14) := none
  /-- plane the switch reported -/
  plane      : Option Nat := none
  corrected  : BitVec 64 := 0
  uncorrectable : BitVec 32 := 0
  retries    : BitVec 32 := 0
  downs      : BitVec 32 := 0
  /-- operating hour and entries into DOWN from UP in it (R268) -/
  downHour   : Nat := 0
  downsInHour : Nat := 0
  /-- packets received good and sent since the port went up (R269) -/
  rxCount    : Nat := 0
  txCount    : Nat := 0
  /-- credits of the four virtual channels, in 64-byte units (R269) -/
  credits    : List Nat := [0, 0, 0, 0]
  /-- packets that wait for credits, oldest first -/
  queue      : List Packet := []
  /-- the replay buffer: the packets sent last, oldest first, of at most 262,144 bytes (R269) -/
  replay     : List Packet := []
  /-- the count that the last resend began from, and how often in a row it was asked for (R268) -/
  resent     : Nat × Nat := (0, 0)
  /-- packets still to be discarded after an uncorrectable codeword (R269) -/
  discard    : Nat := 0
  /-- credits that the module owes its peer, by virtual channel, and packets since it last returned some (R269) -/
  owed       : List Nat := [0, 0, 0, 0]
  sinceFrame : Nat := 0
deriving DecidableEq, Repr, Inhabited

/-- An unacknowledged packet of a source stream (R274, R278). While a request stands here its response has its space (R269). -/
structure OutPacket where
  tag     : BitVec 32
  typ     : BitVec 6
  address : BitVec 48
  payload : Bytes
  tail    : Bool
  plane   : Nat
  /-- the instruction or call that owns it -/
  owner   : Actor
  /-- where LOAD_RSP data goes: physical addresses of successive bytes -/
  dest    : Nat
  /-- sent again by timeout or report (R278) -/
  resent  : Bool
  /-- the truncated flag of the chunk that it ends (R300) -/
  trunc   : Bool := false
deriving DecidableEq, Repr

/-- A tag stream to one destination module (R274, R280). -/
structure Stream where
  next      : BitVec 32 := 0
  unacked   : List OutPacket := []
  /-- the stream is not resynchronised yet; the RESYNC that is out, none until the wait after an abandonment is over
  (R278, R280) -/
  resyncing : Bool := false
  resync    : Option OutPacket := none
  /-- acknowledged packets of the window whose trailers the target may still refuse: tag and owner (R275) -/
  tails     : List (BitVec 32 × Actor) := []
  begun     : Bool := false
  /-- last plane used in the rotation (R277) -/
  rotor     : Nat := 7
  /-- planes marked unreachable (R278) -/
  unreachable : List Nat := []
  /-- packets queued until resynchronised or until the window of 131,072 tags has room -/
  waiting   : List OutPacket := []
  /-- CLKC time of the last packet sent -/
  last      : BitVec 64 := 0
deriving DecidableEq, Repr, Inhabited

/-- A held trailer (R275). -/
structure HeldTrailer where
  tag    : BitVec 32
  count  : BitVec 32
  ctx    : BitVec 8
  cancel : Bool
  amount : BitVec 7
  vid    : BitVec 12
  /-- where the data of its packet went, and the truncated flag that came with it (R300, R303) -/
  addr   : Nat := 0
  len    : Nat := 0
  trunc  : Bool := false
deriving DecidableEq, Repr

/-- A target's tracker for one source (R274). -/
structure Tracker where
  /-- the tracker is held -/
  live     : Bool := false
  /-- lowest tag not yet applied, 32 bits -/
  cum      : BitVec 32 := 0
  /-- tags at or above cum already applied -/
  applied  : List (BitVec 32) := []
  trailers : List HeldTrailer := []
  /-- newly applied since the last ACK -/
  fresh    : Nat := 0
deriving DecidableEq, Repr, Inhabited

/-- The fabric interface. -/
structure Fabric where
  ports       : SMap Port := []
  /-- ModuleId: none reads 0xFFFF (R267) -/
  moduleId    : Option (BitVec 14) := none
  retransmitUs : BitVec 16 := 0x64
  deadlineMs  : BitVec 16 := 0x0A
  streams     : SMap Stream := []
  trackers    : SMap Tracker := []
  /-- atomic results by I/O die, newest first: source, tag, prior value (R274) -/
  results0    : List (BitVec 14 × BitVec 32 × BitVec 64) := []
  results1    : List (BitVec 14 × BitVec 32 × BitVec 64) := []
  retransmits : BitVec 64 := 0
  unreachable : BitVec 32 := 0
  /-- NackReceivedCount for reasons 1 to 7 -/
  nacks       : SMap (BitVec 32) := []
  resyncs     : BitVec 32 := 0
  tailInvalid : BitVec 32 := 0
  crcDiscards : BitVec 32 := 0
  /-- planes that have left service and not come back (R356) -/
  lostPlanes  : BitVec 8 := 0
  /-- packets that await NACK retry: destination and tag (R279) -/
  retryAfter  : List (BitVec 14 × BitVec 32) := []
deriving DecidableEq, Repr, Inhabited

/-! ### Collectives (12) -/

/-- A collective instance (R289, R291, R318). -/
structure Instance where
  commId   : BitVec 32 := 0
  seq      : BitVec 32 := 0
  ctx      : Nat := 0
  /-- state code of R291 -/
  st       : Nat := 0
  attempt  : Nat := 1
  kind     : BitVec 8 := 0
  encoding : BitVec 8 := 0
  reason   : Nat := 0
  memberCount : Nat := 0
  hash     : Bytes := []
  count    : Nat := 0
  held     : Nat := 0
  rank     : Nat := 0
  /-- CLKC time of slot allocation -/
  time     : BitVec 64 := 0
  /-- dispatched locally: queue and seq of the RUN; a PERMUTE of firmware carries queue 8 -/
  desc     : Option (Nat × BitVec 64) := none
  /-- chunks combined and chunks delivered at this node (R304) -/
  combined : List Nat := []
  delivered : List Nat := []
  /-- ranges of a PERMUTE that came, by source module (R316) -/
  arrivals : SMap Nat := []
  /-- chunks that the children sent and this node has not combined: source, chunk, truncated flag (R300, R303, R304) -/
  inputs   : List (Nat × Nat × Bool) := []
  /-- chunks whose results came from above and have not been passed on (R297, R303) -/
  results  : List Nat := []
  /-- reduced gradient elements that this module's update stage has, as they travel, with the anchor byte (R297) -/
  sums     : SMap (Bytes × Nat) := []
  /-- UP frames applied (R307) -/
  ups      : List Frame := []
  /-- DOWN frames received from the parents and applied -/
  fromAbove : List Frame := []
  /-- DOWN frames sent, kept until release (R294) -/
  downs    : List Frame := []
  /-- UP frames sent and unanswered (R307), with the number of times each was sent -/
  pendingUp : List (Frame × Nat) := []
  /-- final anchor bytes by block (R299) -/
  anchors  : SMap Nat := []
  /-- chunks whose staging slot at the parent a CREDIT has freed (R303) -/
  credits  : List Nat := []
  /-- how often the CREDIT of a chunk was sent again (R307) -/
  creditSends : SMap Nat := []
  /-- the member has sent its own RELEASE UP (R294) -/
  releaseSent : Bool := false
deriving DecidableEq, Repr, Inhabited

/-- What is kept of an instance that has ended, to answer repeats of its frames (R307) and a RUN that dispatches later (R311). -/
structure PastCall where
  comm   : BitVec 32
  seq    : BitVec 32
  /-- 0 released, otherwise the status of its ABORT or poison -/
  status : Nat
  downs  : List Frame
deriving DecidableEq, Repr

/-- The collective engine. -/
structure Collectives where
  /-- the 64 instance slots; an unlisted slot is FREE -/
  instances   : SMap Instance := []
  /-- barrier instances outstanding: comm, generation and the module whose UP is there; this module's own UP stands once for
  each time it was sent (R315) -/
  barrierUps  : List (BitVec 32 × BitVec 32 × Nat) := []
  deadlineMs  : BitVec 32 := 0x2710
  timeoutUs   : BitVec 16 := 0x14
  mismatches  : BitVec 32 := 0
  exhausted   : BitVec 32 := 0
  resends     : BitVec 64 := 0
  reruns      : BitVec 32 := 0
  discards    : BitVec 32 := 0
  combinedElements : BitVec 64 := 0
  /-- instances that found no slot: comm, seq (R292) -/
  slotless    : List (BitVec 32 × BitVec 32) := []
  /-- instances that have ended, latest first, at most 64 -/
  past        : List PastCall := []
deriving DecidableEq, Repr, Inhabited

/-- What the block sends out. -/
inductive Output
  /-- CPL with tag, status and data (R329) -/
  | cpl (tag : BitVec 8) (status : BitVec 8) (data : Bytes)
  /-- DICT_CPL with tag, abort code and value (R331) -/
  | dictCpl (tag : BitVec 8) (code : BitVec 32) (data : Bytes)
  /-- the reply to a dictionary object command of a port (R343) -/
  | dictReply (cls : PortClass) (code : BitVec 32) (data : Bytes)
  /-- INTR of a host vector with the CLKC count at sending (R326, R333) -/
  | intr (vector : BitVec 6) (time : BitVec 64)
  /-- ECHO (R334) -/
  | echo (x : Nat) (q : Nat) (commitKind : Bool) (seq : BitVec 64) (data : Bytes)
  /-- a Drinex flit that carries only acknowledgement, or a retry request, or resent flits (R325) -/
  | flit (kind : BitVec 4) (ackSeq : BitVec 12) (resent : List (BitVec 12))
  /-- slots of classes P, N and E returned in the header of the flit that goes out (R323, R328) -/
  | drinexCredits (p n e : Nat)
  /-- the module's side of the parameter exchange: link epoch, last data flit received, resume bit, credits of P, N, C and E (R322, R328) -/
  | drinexParameters (epoch : BitVec 32) (last : BitVec 12) (resume : Bool) (p n c e : Nat)
  /-- a fabric packet on its port (R270) -/
  | packet (pkt : Packet)
  /-- a request to the module's own ID, which does not go onto the wire (R272) -/
  | selfPacket (pkt : Packet)
  /-- a link-control frame on a port: a good-packet count, or credits (R269) -/
  | linkControl (p : Nat) (ctl : LinkControl)
  /-- a Transit frame on a plane (R305) -/
  | frame (plane : Nat) (f : Frame)
  /-- a reduced gradient element sent to its owner's update stage: communicator, call, element, field, anchor byte (R297) -/
  | update (dst : BitVec 14) (comm seq : BitVec 32) (lin : Nat) (field : Bytes) (anchor : BitVec 8)
  /-- a CAN FD message by COB-ID (R350) -/
  | can (cobId : BitVec 11) (data : Bytes)
  /-- an LSS response (R351) -/
  | lss (command : BitVec 8) (value : BitVec 32)
  /-- bits shifted out of the TAP (R416) -/
  | tap (width : Nat) (value : Nat)
  /-- a core-private register or capture read (R112) -/
  | capture (g : Nat) (data : Bytes)
  /-- a message of the metering node by COB-ID (R424) -/
  | meterCan (cobId : BitVec 11) (data : Bytes)
deriving DecidableEq, Repr

/-! ### Drinex (13) -/

/-- The Drinex link (R320 to R337). -/
structure Drinex where
  /-- state code of R320; power-on DOWN -/
  st          : BitVec 3 := 0
  /-- lanes that carry flits, and the lanes that a training may use (R321) -/
  laneMap     : BitVec 8 := 0
  lanesAllowed : BitVec 8 := 0xFF
  /-- link epoch, 32 bits -/
  epoch       : BitVec 32 := 0
  /-- next data flit expected, 12 bits; last received in sequence -/
  rxNext      : BitVec 12 := 0
  /-- next data flit to send and unacknowledged flits, at most 512 -/
  txNext      : BitVec 12 := 0
  replay      : List (BitVec 12) := []
  /-- CLKC time of the retry request that is outstanding (R325) -/
  retryTime   : Option (BitVec 64) := none
  /-- the receiver owes an acknowledgement (R325) -/
  ackDue      : Bool := false
  /-- the module still holds its replay buffer and sequence state (R322) -/
  resume      : Bool := false
  /-- transmit credits in slots: P, C, E (R328) -/
  creditP     : Nat := 0
  creditC     : Nat := 0
  creditE     : Nat := 0
  /-- slots of the adapter's transactions in P, N and E that are free again and not yet returned (R328) -/
  owedP       : Nat := 0
  owedN       : Nat := 0
  owedE       : Nat := 0
  /-- vectors of INTRs held (R333) -/
  heldIntr    : List (BitVec 6) := []
  /-- ECHOs sent and not acknowledged: context, queue, commit kind, seq (R334) -/
  echoes      : List (Nat × Nat × Bool × BitVec 64) := []
  /-- CorrectedSymbols, UncorrectableCodewords and the counters after them (R337) -/
  corrected   : BitVec 64 := 0
  uncorrectable : BitVec 32 := 0
  crcErrors   : BitVec 32 := 0
  replays     : BitVec 32 := 0
  downs       : BitVec 32 := 0
  degrades    : BitVec 32 := 0
  refused     : BitVec 32 := 0
  refusedAddr : BitVec 64 := 0
  echoResends : BitVec 32 := 0
  echoUnmatched : BitVec 32 := 0
  /-- the training under way left UP_X8 (R321) -/
  fromX8      : Bool := false
  /-- transactions not yet placed in flits: class, slots, transaction (R322, R328) -/
  waiting     : List (BitVec 2 × Nat × Output) := []
deriving DecidableEq, Repr, Inhabited

/-! ### Dictionary and management bus (14) -/

/-- One copy of the Select objects (R344). -/
structure Selects where
  numericsCore : BitVec 8 := 0
  skeinCore    : BitVec 8 := 0
  engineCore   : BitVec 8 := 0
  vectorCore   : BitVec 8 := 0
  ctx          : BitVec 8 := 0
  queue        : BitVec 8 := 0
  journalSeq   : BitVec 64 := 0
  vt           : BitVec 16 := 0
  syncCtx      : BitVec 8 := 0
  syncVid      : BitVec 16 := 0
  port         : BitVec 8 := 0
  inst         : BitVec 8 := 0
  comm         : BitVec 32 := 0
  irqSource    : BitVec 16 := 0
  irqDest      : BitVec 16 := 0
  faultRecord  : BitVec 32 := 0
  ephUnit      : BitVec 64 := 0
  blob         : BitVec 16 := 0
  stage        : BitVec 8 := 0
  event        : BitVec 32 := 0
  meterBlob    : BitVec 16 := 0
deriving DecidableEq, Repr, Inhabited

/-- An open USDO session (R355). -/
structure UsdoSession where
  /-- 0 the CAN bus, 1 + module for the fabric, 0x10000 the test port -/
  owner    : Nat
  download : Bool
  index    : BitVec 16
  sub      : BitVec 8
  /-- upload: value not yet sent; download: value received so far -/
  data     : Bytes
deriving DecidableEq, Repr

/-- A TPDO (R358, R362). -/
structure Tpdo where
  /-- COB-ID as written; none for its default, 0x180 + node ID for TPDO 1 and 0x8000_0000 for the others -/
  cobId   : Option (BitVec 32) := none
  typ     : BitVec 8 := 0xFE
  inhibit : BitVec 16 := 0x03E8
  event   : BitVec 16 := 0x03E8
  count   : BitVec 8 := 0
  mapping : SMap (BitVec 32) := []
  /-- the values last sent -/
  last    : Bytes := []
  /-- sampling period in which it was last sent -/
  lastTick : Option Nat := none
  /-- its event timer has expired and the inhibit time holds it back -/
  due     : Bool := false
deriving DecidableEq, Repr, Inhabited

/-- An emergency message waiting or sent (R356). -/
structure Emcy where
  code : BitVec 16
  reg  : BitVec 8
  unit : BitVec 64
  time : BitVec 64
deriving DecidableEq, Repr

/-- The dictionary's own state and the management bus. -/
structure Dict where
  accessLevel   : BitVec 8 := 0
  timeoutS      : BitVec 16 := 0x0384
  raises        : BitVec 32 := 0
  host          : Selects := {}
  mgmt          : Selects := {}
  debug         : Selects := {}
  /-- FABRIC copies by source module, latest access first, at most 64 (R344) -/
  fabric        : List (BitVec 14 × Selects) := []
  aborts        : BitVec 32 := 0
  /-- CanNodeId in force, 0xFF none, and the stored one (R351) -/
  nodeId        : BitVec 8 := 0xFF
  pendingNodeId : BitVec 8 := 0xFF
  storedNodeId  : BitVec 8 := 0xFF
  /-- 0 error active, 1 error passive, 2 bus-off, 3 unconfigured -/
  busState      : BitVec 8 := 3
  txErrors      : BitVec 8 := 0
  rxErrors      : BitVec 8 := 0
  busOffs       : BitVec 32 := 0
  /-- an EMCY 0xFF03 was sent for the present mismatch (R352) -/
  pairMismatch  : Bool := false
  severityMin   : BitVec 8 := 2
  emcyDropped   : BitVec 32 := 0
  nmtIgnored    : BitVec 32 := 0
  errorRegister : BitVec 8 := 0
  /-- PreDefinedErrorField, newest first, at most 8 -/
  history       : List (BitVec 32) := []
  cobIdEmcy     : Option (BitVec 32) := none
  inhibitEmcy   : BitVec 16 := 0x0A
  heartbeatMs   : BitVec 16 := 0x03E8
  /-- TPDO n at key n − 1; TPDO 1 has seven objects mapped by default (R362) -/
  tpdos         : SMap Tpdo :=
    [(0, { count := 7
           mapping := [(0, 0x28000708#32), (1, 0x30000308#32), (2, 0x26000110#32), (3, 0x2A080108#32), (4, 0x33000108#32),
                       (5, 0x2A080320#32), (6, 0x30020220#32)] })]
  /-- EMCYs that wait for the inhibit time, oldest first, at most 16 -/
  emcyQueue     : List Emcy := []
  /-- the inhibit spacing since the last EMCY has not yet passed -/
  emcyHeld      : Bool := false
  sessions      : List UsdoSession := []
  /-- LSS configuration state and the fastscan position (R351) -/
  lssConfig     : Bool := false
  lssMatched    : Nat := 0
  /-- unread DEBUG responses, oldest first (R361) -/
  tapResponses  : List Bytes := []
  /-- a DEBUG request that has been shifted in and is not answered yet (R361) -/
  tapRequest    : Option Bytes := none
  /-- TPDO sampling periods elapsed -/
  sampleTick    : Nat := 0
deriving DecidableEq, Repr, Inhabited

/-! ### Interrupts (15) -/

/-- An interrupt source (R365). -/
structure IrqSource where
  pending : Bool := false
  enabled : Bool := false
  route   : BitVec 16 := 0
deriving DecidableEq, Repr, Inhabited

/-- A destination (R370). -/
structure IrqDest where
  count      : BitVec 16 := 0
  /-- CLKC time at which the timer started (R370) -/
  started    : Option (BitVec 64) := none
  limitCount : BitVec 16 := 1
  limitUs    : BitVec 16 := 1
  deliveries : BitVec 32 := 0
deriving DecidableEq, Repr, Inhabited

/-! ### Faults, Ephemeris, Almanac, dips (16) -/

/-- A verdict with the hours of its key's events in the window (R386). -/
structure EphHistory where
  key     : EphKey
  /-- operating hours of events in the sliding window, newest first -/
  events  : List Nat
  /-- 1 transient, 2 suspect, 3 permanent -/
  verdict : Nat
deriving DecidableEq, Repr

/-- Faults and Ephemeris. -/
structure Reliability where
  /-- records held, oldest first, at most 1,024 (R383) -/
  records      : List Bytes := []
  recordCount  : BitVec 32 := 0
  oldest       : BitVec 32 := 0
  intervalS    : BitVec 16 := 0x3C
  /-- keys of class 0x01 recorded within the interval, with the CLKC time of the record (R383) -/
  recentCe     : List (EphKey × BitVec 64) := []
  /-- the second of operation and the log entries written in it (R385) -/
  logSecond    : Nat := 0
  logInSecond  : Nat := 0
  histories    : List EphHistory := []
  /-- operating hours; tenths count the 10-minute checkpoints -/
  hours        : Nat := 0
  sixths       : Nat := 0
  /-- entries in flash, oldest block first: blocks of entries, and erased blocks (R384) -/
  flashBlocks  : List (List Bytes) := []
  /-- blocks that hold no entry -/
  flashErased  : Nat := 1024
  dropped      : BitVec 32 := 0
  /-- number of the oldest block, 0 to 1,023 -/
  oldestBlock  : Nat := 0
  wear         : SMap Nat := []
  wearMax      : BitVec 32 := 0
  /-- physical slots of cores permanent: cluster x 16 + slot -/
  deadSlots    : List Nat := []
  /-- retired 4 KiB granules by physical address div 4096, and scratch granules by cluster x 32 + granule -/
  granules     : List Nat := []
  scratchGranules : List Nat := []
  /-- disabled cache ways -/
  deadWays     : List Nat := []
  /-- stacks and channels declared permanent at the next warm reset -/
  leaving      : List Nat := []
  permanent    : BitVec 16 := 0
  /-- corrected-error counts: stacks, channels, SRAM, slice lines (R165) -/
  hbmCorrected : SMap (BitVec 32) := []
  ddrCorrected : SMap (BitVec 32) := []
  sramCorrected : BitVec 32 := 0
  sliceRefetch : BitVec 32 := 0
  scrubHours   : BitVec 8 := 0x18
  /-- dies lost for the running epoch: 0 and 1 compute, 2 and 3 I/O (R234) -/
  lostDies     : List Nat := []
  /-- SkeinSlotCheckFailures and TATM slot counts (R86) -/
  slotFailures : BitVec 32 := 0
  tatmHbm      : SMap (BitVec 64) := []
  tatmIo       : SMap (BitVec 64) := []
  /-- Almanac: bundle held and idle running (R389, R390) -/
  bundle       : Option Bytes := none
  idleRunning  : Bool := false
  idleUs       : BitVec 32 := 0x1F4
  deadlineS    : BitVec 16 := 0x258
  passed       : BitVec 32 := 0
  failed       : BitVec 32 := 0
  shutdowns    : BitVec 32 := 0
  epoch        : BitVec 32 := 0
deriving DecidableEq, Repr, Inhabited

/-- A signal held by a dip window (R394). -/
structure HeldSignal where
  core : Nat
  unit : UnitKind
  seq  : BitVec 64
  msg  : SignalMsg
deriving DecidableEq, Repr

/-- The dip window of a die: compute dies 0 and 1, then I/O dies (R392, R395). -/
structure Dip where
  /-- a rail is below its warning level -/
  low       : Bool := false
  /-- the window is open -/
  window    : Bool := false
  begin     : BitVec 64 := 0
  /-- recompute set: core, unit, seq, opcode, descriptor -/
  recompute : List (Nat × UnitKind × BitVec 64 × Bytes) := []
  heldSignals : List HeldSignal := []
  /-- CLKC time of the beginning of the latest dip (R396) -/
  dipStart  : BitVec 64 := 0
  /-- the second of the latest dip and the dips begun in it (R395) -/
  second    : Nat := 0
  inSecond  : Nat := 0
deriving DecidableEq, Repr, Inhabited

/-! ### Identity, security, firmware, TAP (17) -/

/-- One flash bank of an image type (R408, R409). -/
structure Bank where
  bytes    : Bytes := []
  /-- it passed VERIFY since it was last erased (R412) -/
  verified : Bool := false
  /-- no update has left it invalid (R412) -/
  valid    : Bool := true
deriving DecidableEq, Repr, Inhabited

/-- Images of one type: banks A and B (R408). -/
structure ImageSlot where
  bankA   : Bank := {}
  bankB   : Bank := {}
  activeB : Bool := false
  pending : Bool := false
  /-- fused minimum security version -/
  minimum : BitVec 8 := 0
  /-- running image: version, measurement, security version, present -/
  running : BitVec 32 := 0
  measure : Bytes := []
  secver  : BitVec 8 := 0
  present : Bool := false
  fallback : Bool := false
deriving DecidableEq, Repr, Inhabited

/-- Identity, lifecycle, keys, firmware and attestation. -/
structure Security where
  /-- identity seed fused at PROVISION; none while Blank (R398) -/
  seed         : Option Bytes := none
  certificate  : Bytes := []
  /-- 0 Blank, 1 Provisioned, 2 Deployed, 3 Debug, 4 Decommissioned; shipped Provisioned -/
  lifecycle    : BitVec 8 := 1
  beforeDebug  : BitVec 8 := 1
  /-- unblown bits of the 64-bit lifecycle fuse -/
  fusesLeft    : BitVec 8 := 63
  /-- a command in progress: the lifecycle state it ends in (LifecycleBusy, R402) -/
  busy         : Option (BitVec 8) := none
  staging      : Bytes := []
  nonce        : Option Bytes := none
  /-- CLKC time of the read that gave the nonce (R403) -/
  nonceTime    : BitVec 64 := 0
  tokenRejects : BitVec 32 := 0
  /-- operator key slots 4 and 5: flash copy and digest generations, newest first -/
  key4         : Bytes := []
  digests4     : List Bytes := []
  key5         : Bytes := []
  digests5     : List Bytes := []
  control      : ImageSlot := {}
  fabricFw     : ImageSlot := {}
  /-- FwUpdateState 0 idle, 1 erasing, 2 receiving, 3 verified, 4 failed; owner; image type; total; offset -/
  fwState      : BitVec 3 := 0
  fwOwner      : PortClass := .host
  fwImage      : BitVec 8 := 0
  fwTotal      : BitVec 32 := 0
  fwOffset     : BitVec 32 := 0
  fwReceived   : Nat := 0
  fwHostEnable : BitVec 8 := 0
  override     : BitVec 8 := 0
  /-- the running boot consumed and used the override (R411) -/
  overrideUsed : Bool := false
  /-- the override was armed at boot (R415) -/
  armedAtBoot  : Bool := false
  /-- 0 none, 1 generating, 2 ready -/
  attestState  : BitVec 8 := 0
  attestNonce  : Bytes := []
  report       : Bytes := []
  tapCode      : BitVec 8 := 0x01
  boundary     : BitVec 1184 := 0
  /-- pins driven from the boundary register: 0 none, 1 EXTEST, 2 CLAMP, 3 HIGHZ -/
  boundaryMode : Nat := 0
  dmiTarget    : BitVec 8 := 0
  dmiCount     : Nat := 0
  sealedOffset : BitVec 48 := 0
deriving DecidableEq, Repr, Inhabited

/-! ### Metering (18) -/

/-- Values of the metering die (R421, R424, R428 to R430). -/
structure MeterDie where
  /-- EnergyRegister, 64 bits, mJ (R421) -/
  energy     : BitVec 64 := 0
  /-- InputPower mW, InputVoltage in 10 mV, InputCurrent mA (R430) -/
  power      : BitVec 32 := 0
  voltage    : BitVec 16 := 0
  current    : BitVec 32 := 0
  /-- MeterStatus, 8 bits (R430) -/
  status     : BitVec 8 := 0
  /-- SealBreakCount, 32 bits (R429) -/
  sealBreaks : BitVec 32 := 0
  /-- operating seconds and power-ons since manufacture (R430) -/
  opSeconds  : BitVec 64 := 0
  powerOns   : BitVec 32 := 0
  /-- the event log: 1,024 entries of 32 bytes by entry number mod 1,024, and the entries written (R428) -/
  events     : SMap Bytes := []
  eventCount : BitVec 32 := 0
  /-- node ID of the metering node, 0xFF none (R424) -/
  nodeId     : BitVec 8 := 0xFF
  /-- latest requested and periodic readings, 4,864 bytes (R426, R427) -/
  blob0      : Bytes := []
  blob3      : Bytes := []
deriving DecidableEq, Repr, Inhabited

/-- The values that the mirror has carried to I/O die 0 (R431, R432). -/
structure MeterView where
  energy    : BitVec 64 := 0
  power     : BitVec 32 := 0
  voltage   : BitVec 16 := 0
  current   : BitVec 32 := 0
  status    : BitVec 8 := 0
  sealBreaks : BitVec 32 := 0
  version   : BitVec 32 := 0
  measure   : Bytes := []
  opSeconds : BitVec 64 := 0
  powerOns  : BitVec 32 := 0
  events    : SMap Bytes := []
  eventCount : BitVec 32 := 0
  nodeId    : BitVec 8 := 0xFF
  manifest  : Bytes := []
  identity  : Bytes := []
  blob1     : Bytes := []
  blob2     : Bytes := []
  blob3     : Bytes := []
deriving DecidableEq, Repr, Inhabited

/-- Attribution weights (R433). -/
structure MeterWeights where
  /-- EngineBeatPj, VectorBeatPj, 16 bits each -/
  engineBeat : BitVec 16 := 0x0ABE
  vectorBeat : BitVec 16 := 0x01F4
  /-- ByteFj, 8 bytes -/
  byteFj     : Bytes := [0xD0#8, 0x07#8, 0x10#8, 0x27#8, 0xB8#8, 0x88#8, 0xD4#8, 0x30#8]
  /-- IdlePowerW, 16 bits -/
  idleW      : BitVec 16 := 0x0190
deriving DecidableEq, Repr, Inhabited

/-- The metering die's own state and the module's mirror of it. -/
structure Metering where
  die        : MeterDie := {}
  /-- register in ferroelectric memory (R421) -/
  committed  : BitVec 64 := 0
  /-- samples taken so far, the argument of the open measurements -/
  samples    : Nat := 0
  /-- commits since the last whole second of operation -/
  ticks      : Nat := 0
  /-- integrating on the internal oscillator (R419) -/
  internal   : Bool := false
  /-- fused minimum security version, the image that runs, and the staging area (R434) -/
  minimum    : BitVec 8 := 0
  image      : Bytes := []
  staging    : Bytes := []
  /-- MeterFwState and the announced size (R434) -/
  fwState    : BitVec 8 := 0
  fwSize     : BitVec 32 := 0
  readState  : BitVec 8 := 0
  /-- bytes 0 to 191 sampled for the reading in progress (R427) -/
  readSample : Bytes := []
  eventSelect : BitVec 32 := 0
  blobSelect : BitVec 16 := 0
  /-- NMT state byte: 0x05 operational, 0x04 stopped, 0x7F pre-operational (R348, R425) -/
  nmt        : BitVec 8 := 0x05
  /-- its one TPDO (R424) -/
  tpdo       : Tpdo := {}
  /-- LSS configuration state, fastscan position and node ID awaiting storage (R351, R424) -/
  lssConfig  : Bool := false
  lssMatched : Nat := 0
  pendingNode : BitVec 8 := 0xFF
  heartbeatMs : BitVec 16 := 0x03E8
  storedNode : BitVec 8 := 0xFF
  /-- mirror held by I/O die 0 -/
  mirror     : MeterView := {}
  /-- MirrorState bits 0 and 1 -/
  fresh      : Bool := false
  rotated    : Bool := false
  /-- CLKC time of the last good dynamic frame -/
  frameTime  : BitVec 64 := 0
  frameErrors : BitVec 32 := 0
  /-- UnattributedEnergyMj and the register value last apportioned (R433) -/
  unattributed : BitVec 64 := 0
  lastEnergy : Option (BitVec 64) := none
  /-- weights as written, and those of the present interval (R433) -/
  weights    : MeterWeights := {}
  inForce    : MeterWeights := {}
deriving DecidableEq, Repr, Inhabited

/-! ### Clocks, power, reset (19) -/

/-- The controllers of power, temperature, clocks and resets. -/
structure Power where
  /-- power step: start-up runs at step 3 (R439, R451) -/
  powerStep    : BitVec 2 := 3
  thermalStep0 : BitVec 2 := 0
  thermalStep1 : BitVec 2 := 0
  stepCap      : BitVec 8 := 0
  /-- steps the dies run at (R437) and ClkaStepChanges -/
  step0        : BitVec 2 := 3
  step1        : BitVec 2 := 3
  stepChanges  : BitVec 32 := 0
  limitW       : BitVec 16 := 0x0BB8
  /-- samples of the last 10 ms, newest first, in mW (R439) -/
  samples      : List Nat := []
  /-- samples since the last slower step, and until a faster step is allowed -/
  sinceSlower  : Nat := 0
  fasterHold   : Nat := 0
  /-- the 54 V input is beyond its warning level; samples until it has been inside for 10 ms (R440) -/
  inputWarn    : Bool := false
  inputHold    : Nat := 0
  temps        : List (BitVec 16) := []
  hot0         : Bool := false
  hot1         : Bool := false
  hotTicks0    : Nat := 0
  hotTicks1    : Nat := 0
  coolTicks0   : Nat := 0
  coolTicks1   : Nat := 0
  /-- the previous sample had a sensor at the shutdown level (R444) -/
  overLimit    : Bool := false
  hotEpisodes  : BitVec 32 := 0
  /-- regulators on; thermal shutdown latched; pins -/
  regulators   : Bool := true
  thermalLatch : Bool := false
  powerEnable  : Bool := true
  /-- the input is out of range, and the ResetCause of the next power-on reset (R440, R444, R453) -/
  inputLost    : Bool := false
  offCause     : BitVec 8 := 1
  resetN       : Bool := true
  /-- pin-scope reset held by the reference or by the pin (R438, R445) -/
  refLost      : Bool := false
  pinHeld      : Bool := false
  dips         : SMap Dip := []
  dipCount     : BitVec 32 := 0
  lastDip      : Bytes := []
  dipRecomputed : BitVec 64 := 0
  drainMs      : BitVec 16 := 0x03E8
  resetCause   : BitVec 8 := 1
  /-- BootStep 1 to 7, 0 in Service -/
  bootStep     : BitVec 8 := 1
  bootTimes    : List (BitVec 32) := []
  /-- start-up stopped at its step: the module stays in Boot/Limited (R452) -/
  bootFailed   : Bool := false
  /-- start-up follows a warm reset -/
  bootWarm     : Bool := false
  /-- a commanded warm reset drains, with its cause (R447) -/
  draining     : Option ResetWhy := none
  dieResetting0 : Bool := false
  dieResetting1 : Bool := false
  dieResets    : BitVec 32 := 0
  /-- the journal sweep of step 7 is done or was not needed (R448) -/
  sweepDone    : Bool := true
  /-- its commit-echoes are out (R448) -/
  sweeping     : Bool := false
deriving DecidableEq, Repr, Inhabited

/-- Device states (R348). -/
inductive DeviceState
  | bootLimited
  | service
  | quiesced
deriving DecidableEq, Repr, Inhabited

/-- Memory of the module (06). -/
structure Memory where
  /-- listed bytes by physical address; an unlisted byte reads 0 (R446, R451) -/
  cells      : List Host.Cell := []
  /-- poisoned 64-byte blocks, by physical address div 64 (R379) -/
  poison     : List Nat := []
  /-- stacks and DDR5 channels in service -/
  hbmStacks  : BitVec 12 := 0xFFF
  channels   : BitVec 8 := 0
  /-- population: channels populated; type 0 none, 1 RDIMM, 2 MRDIMM; MT/s; GiB per module -/
  population : BitVec 8 := 0
  ddrType    : BitVec 8 := 0
  ddrRate    : BitVec 16 := 0
  ddrGib     : Nat := 0
  /-- ScratchGranules by cluster, 0 to 32 (R148) -/
  scratch    : SMap Nat := []
  /-- cached lines by cluster: line number and its 256 bytes, most recent first (R148) -/
  cache      : SMap (List (Nat × Bytes)) := []
  /-- SealedSaveSlots as written and as in force (R86) -/
  sealedSlots : BitVec 16 := 0x180
  sealedInForce : BitVec 16 := 0x180
  /-- stacks that have answered at HBM training (R397) -/
  answered   : BitVec 12 := 0
  /-- channels holding a journal copy, and a relocation in progress (R225) -/
  journal    : List Nat := [0, 4]
  relocating : Option (Nat × Nat) := none
deriving DecidableEq, Repr, Inhabited

/-- The numerics watch and update counters (10). -/
structure Training where
  log2Rate   : BitVec 8 := 0
  seed       : BitVec 64 := 0
  threshold  : BitVec 8 := 0xF8
  sampled    : BitVec 64 := 0
  mismatches : BitVec 32 := 0
  events     : BitVec 32 := 0
  histogram  : SMap (BitVec 64) := []
  slots      : SMap Bytes := []
  /-- slot that the next event record takes (R263) -/
  nextSlot   : Nat := 0
  updElements : BitVec 64 := 0
  updSkips   : BitVec 64 := 0
deriving DecidableEq, Repr, Inhabited

/-- Snapshot and journal observation objects (09). -/
structure QueueObjects where
  snapAddress : BitVec 64 := 0
  snapDone    : BitVec 8 := 0
  snapBusy    : Bool := false
  replays     : BitVec 32 := 0
  disagrees   : BitVec 32 := 0
deriving DecidableEq, Repr, Inhabited

/-- The state of the EXG-M1 block. -/
structure State where
  /-- commands that wait, first in first out -/
  pending     : List Instr := []
  /-- the model's own record of what the block has sent, newest first -/
  out         : List Output := []
  /-- the model's own counter of free values drawn -/
  draws       : Nat := 0
  /-- CLKC count since the reset that began the epoch, 64 bits (R382) -/
  clkc        : BitVec 64 := 0
  device      : DeviceState := .bootLimited
  mem         : Memory := {}
  cores       : SMap Core := []
  /-- CoreSlotMap: logical core number g to physical slot + 1; 0 absent (R25) -/
  slotMap     : SMap Nat := []
  /-- SpareSlot by cluster: slot + 1, 0 used (R25) -/
  spares      : SMap Nat := []
  counters    : SMap Counter := []
  /-- SyncFaultCount, TailSignalDiscardCount, 32 bits saturating (R207) -/
  syncFaults  : BitVec 32 := 0
  tailDiscards : BitVec 32 := 0
  /-- signals and cancel marks on their way (R195) -/
  signals     : List SignalMsg := []
  /-- addends on their way to skein atomic units (R78) -/
  addends     : List Addend := []
  contexts    : SMap Context := []
  queueObjs   : QueueObjects := {}
  training    : Training := {}
  fabric      : Fabric := {}
  coll        : Collectives := {}
  drinex      : Drinex := {}
  dict        : Dict := {}
  sources     : SMap IrqSource := []
  dests       : SMap IrqDest := []
  rel         : Reliability := {}
  sec         : Security := {}
  meter       : Metering := {}
  power       : Power := {}
deriving DecidableEq, Repr, Inhabited

/-- Logical core g sits in the ascending slots other than the fused spare (R21). -/
def fusedSlot (g : Nat) : Nat :=
  let spare := (Config.fusedSpare (g / 8)).val
  let k := g % 8
  if k < spare then k + 1 else k + 2

/-- The module right after a power-on reset (R446, R451): Boot/Limited, step 1, objects at their Default, fused and
flash contents as they are (log entries name the ones the spec leaves open). -/
def State.reset : State :=
  { slotMap := (List.range 192).map (fun g => (g, fusedSlot g))
    spares := (List.range 24).map (fun c => (c, (Config.fusedSpare c).val + 1))
    rel := { epoch := 1 }
    meter := { image := (List.range (Config.flashLength 3 0)).map (Config.flashByte 3 0) }
    sec := { seed := some ((List.range 32).map Config.fusedSeedByte)
             certificate := (List.range 7424).map Config.certificateByte
             control := { bankA := { bytes := (List.range (Config.flashLength 1 0)).map (Config.flashByte 1 0) }
                          bankB := { bytes := (List.range (Config.flashLength 1 1)).map (Config.flashByte 1 1) } }
             fabricFw := { bankA := { bytes := (List.range (Config.flashLength 2 0)).map (Config.flashByte 2 0) }
                           bankB := { bytes := (List.range (Config.flashLength 2 1)).map (Config.flashByte 2 1) } } } }

end Sys2Proof.Machine
end

