-- ==== Sys2Proof/Machine/DictTable.lean ====
section
/-! DEFINITION. The object tables of the dictionary (R7, R9, R25, R53, R86, R113, R136, R165, R180, R207, R238, R264, R283, R318,
R337, R362, R363, R375, R396, R417, R430 to R433, R453): index, sub-indices, size, rights of HOST, FABRIC, MGMT, DEBUG and METRO,
level, whether the type is numeric, whether the name ends in Select. -/

namespace Sys2Proof.Machine

/-- Objects idx.lo to idx.hi of one row. Rights: 0 none, 1 r, 2 w, 3 b. -/
structure ObjRow where
  idx    : Nat
  lo     : Nat
  hi     : Nat
  size   : Nat
  host   : Nat
  fabric : Nat
  mgmt   : Nat
  debug  : Nat
  metro  : Nat
  expert : Bool
  num    : Bool
  sel    : Bool
deriving DecidableEq, Repr

/-- Objects of the module's dictionary, indices 0x1000 to 0x1806. -/
def moduleObjects0 : List ObjRow :=
  [.mk 0x1000 0x00 0x00 4 1 1 1 1 0 false true false,
   .mk 0x1001 0x00 0x00 1 1 1 1 1 0 false true false,
   .mk 0x1003 0x00 0x00 1 1 0 3 1 0 false true false,
   .mk 0x1003 0x01 0x08 4 1 0 1 1 0 false true false,
   .mk 0x1008 0x00 0x00 8 1 1 1 1 0 false false false,
   .mk 0x1014 0x00 0x00 4 1 0 3 1 0 false true false,
   .mk 0x1015 0x00 0x00 2 1 0 3 1 0 false true false,
   .mk 0x1017 0x00 0x00 2 1 0 3 1 0 false true false,
   .mk 0x1018 0x01 0x01 4 1 1 1 1 0 false true false,
   .mk 0x1018 0x02 0x02 4 1 1 1 1 0 false true false,
   .mk 0x1018 0x03 0x03 4 1 1 1 1 0 false true false,
   .mk 0x1018 0x04 0x04 4 1 1 1 1 0 false true false,
   .mk 0x1800 0x01 0x01 4 1 0 3 1 0 false true false,
   .mk 0x1800 0x02 0x02 1 1 0 3 1 0 false true false,
   .mk 0x1800 0x03 0x03 2 1 0 3 1 0 false true false,
   .mk 0x1800 0x05 0x05 2 1 0 3 1 0 false true false,
   .mk 0x1801 0x01 0x01 4 1 0 3 1 0 false true false,
   .mk 0x1801 0x02 0x02 1 1 0 3 1 0 false true false,
   .mk 0x1801 0x03 0x03 2 1 0 3 1 0 false true false,
   .mk 0x1801 0x05 0x05 2 1 0 3 1 0 false true false,
   .mk 0x1802 0x01 0x01 4 1 0 3 1 0 false true false,
   .mk 0x1802 0x02 0x02 1 1 0 3 1 0 false true false,
   .mk 0x1802 0x03 0x03 2 1 0 3 1 0 false true false,
   .mk 0x1802 0x05 0x05 2 1 0 3 1 0 false true false,
   .mk 0x1803 0x01 0x01 4 1 0 3 1 0 false true false,
   .mk 0x1803 0x02 0x02 1 1 0 3 1 0 false true false,
   .mk 0x1803 0x03 0x03 2 1 0 3 1 0 false true false,
   .mk 0x1803 0x05 0x05 2 1 0 3 1 0 false true false,
   .mk 0x1804 0x01 0x01 4 1 0 3 1 0 false true false,
   .mk 0x1804 0x02 0x02 1 1 0 3 1 0 false true false,
   .mk 0x1804 0x03 0x03 2 1 0 3 1 0 false true false,
   .mk 0x1804 0x05 0x05 2 1 0 3 1 0 false true false,
   .mk 0x1805 0x01 0x01 4 1 0 3 1 0 false true false,
   .mk 0x1805 0x02 0x02 1 1 0 3 1 0 false true false,
   .mk 0x1805 0x03 0x03 2 1 0 3 1 0 false true false,
   .mk 0x1805 0x05 0x05 2 1 0 3 1 0 false true false,
   .mk 0x1806 0x01 0x01 4 1 0 3 1 0 false true false,
   .mk 0x1806 0x02 0x02 1 1 0 3 1 0 false true false,
   .mk 0x1806 0x03 0x03 2 1 0 3 1 0 false true false,
   .mk 0x1806 0x05 0x05 2 1 0 3 1 0 false true false]

/-- Objects of the module's dictionary, indices 0x1807 to 0x2018. -/
def moduleObjects1 : List ObjRow :=
  [.mk 0x1807 0x01 0x01 4 1 0 3 1 0 false true false,
   .mk 0x1807 0x02 0x02 1 1 0 3 1 0 false true false,
   .mk 0x1807 0x03 0x03 2 1 0 3 1 0 false true false,
   .mk 0x1807 0x05 0x05 2 1 0 3 1 0 false true false,
   .mk 0x1A00 0x00 0x00 1 1 0 3 1 0 false true false,
   .mk 0x1A00 0x01 0x07 4 1 0 3 1 0 false true false,
   .mk 0x1A00 0x08 0x10 4 1 0 3 1 0 false true false,
   .mk 0x1A01 0x00 0x00 1 1 0 3 1 0 false true false,
   .mk 0x1A01 0x01 0x10 4 1 0 3 1 0 false true false,
   .mk 0x1A02 0x00 0x00 1 1 0 3 1 0 false true false,
   .mk 0x1A02 0x01 0x10 4 1 0 3 1 0 false true false,
   .mk 0x1A03 0x00 0x00 1 1 0 3 1 0 false true false,
   .mk 0x1A03 0x01 0x10 4 1 0 3 1 0 false true false,
   .mk 0x1A04 0x00 0x00 1 1 0 3 1 0 false true false,
   .mk 0x1A04 0x01 0x10 4 1 0 3 1 0 false true false,
   .mk 0x1A05 0x00 0x00 1 1 0 3 1 0 false true false,
   .mk 0x1A05 0x01 0x10 4 1 0 3 1 0 false true false,
   .mk 0x1A06 0x00 0x00 1 1 0 3 1 0 false true false,
   .mk 0x1A06 0x01 0x10 4 1 0 3 1 0 false true false,
   .mk 0x1A07 0x00 0x00 1 1 0 3 1 0 false true false,
   .mk 0x1A07 0x01 0x10 4 1 0 3 1 0 false true false,
   .mk 0x2000 0x01 0x01 12 1 1 1 1 0 false false false,
   .mk 0x2000 0x02 0x02 16 1 1 1 1 0 false false false,
   .mk 0x2000 0x03 0x03 64 1 1 1 1 0 false false false,
   .mk 0x2001 0x00 0x00 1 3 0 3 1 0 false true false,
   .mk 0x2002 0x01 0x01 2 3 0 3 1 0 true true false,
   .mk 0x2002 0x02 0x02 4 1 0 1 1 0 false true false,
   .mk 0x2008 0x01 0x01 1 1 1 1 1 0 false true false,
   .mk 0x2008 0x02 0x02 1 1 0 1 1 0 false true false,
   .mk 0x2008 0x03 0x03 1 1 0 1 1 0 true true false,
   .mk 0x2008 0x04 0x04 1 1 0 1 1 0 true true false,
   .mk 0x2008 0x05 0x05 4 1 0 1 1 0 true true false,
   .mk 0x2008 0x06 0x06 1 1 0 1 1 0 false true false,
   .mk 0x2008 0x07 0x07 1 1 0 3 1 0 true true false,
   .mk 0x2008 0x08 0x08 4 1 0 1 1 0 true true false,
   .mk 0x2008 0x09 0x09 4 1 0 1 1 0 true true false,
   .mk 0x2008 0x0A 0x0A 1 1 1 1 1 0 false true false,
   .mk 0x2008 0x0B 0x0B 4 1 0 1 1 0 true true false,
   .mk 0x2010 0x01 0x13 32 1 1 1 1 0 false false false,
   .mk 0x2018 0x01 0x01 2 3 3 3 3 0 false true true]

/-- Objects of the module's dictionary, indices 0x2018 to 0x2404. -/
def moduleObjects2 : List ObjRow :=
  [.mk 0x2018 0x02 0x02 256 1 1 1 1 0 false false false,
   .mk 0x2100 0x01 0x01 2 1 0 1 1 0 false true false,
   .mk 0x2100 0x02 0x02 2 1 0 1 1 0 false true false,
   .mk 0x2100 0x03 0x03 1 1 0 3 1 0 true true false,
   .mk 0x2100 0x04 0x04 1 1 0 1 1 0 true true false,
   .mk 0x2101 0x01 0x01 4 1 0 1 1 0 true true false,
   .mk 0x2200 0x01 0x01 2 1 0 3 1 0 false true false,
   .mk 0x2200 0x02 0x02 2 1 0 1 1 0 false true false,
   .mk 0x2200 0x03 0x03 2 1 0 1 1 0 false true false,
   .mk 0x2200 0x04 0x04 1 1 0 1 1 0 false true false,
   .mk 0x2201 0x01 0x0E 2 1 0 1 1 0 true true false,
   .mk 0x2202 0x01 0x40 2 1 0 1 1 0 true true false,
   .mk 0x2203 0x01 0x01 2 1 0 1 1 0 false true false,
   .mk 0x2203 0x02 0x02 4 1 0 1 1 0 true true false,
   .mk 0x2203 0x03 0x03 4 1 0 1 1 0 false true false,
   .mk 0x2210 0x01 0x01 1 2 0 2 0 0 true true false,
   .mk 0x2210 0x02 0x02 1 1 1 1 1 0 false true false,
   .mk 0x2210 0x03 0x03 2 1 0 3 1 0 true true false,
   .mk 0x2210 0x04 0x04 1 1 1 1 1 0 false true false,
   .mk 0x2210 0x05 0x05 28 1 0 1 1 0 true false false,
   .mk 0x2210 0x06 0x06 4 1 0 1 1 0 true true false,
   .mk 0x2280 0x01 0x01 8 1 0 1 1 0 false true false,
   .mk 0x2280 0x02 0x02 8 1 0 1 1 0 false true false,
   .mk 0x2280 0x03 0x03 2 1 0 3 1 0 true true false,
   .mk 0x2280 0x04 0x04 2 1 0 3 1 0 true true false,
   .mk 0x2280 0x05 0x05 8 1 0 3 1 0 true false false,
   .mk 0x2280 0x06 0x06 2 1 0 3 1 0 true true false,
   .mk 0x2280 0x07 0x07 1 2 0 2 0 0 true true false,
   .mk 0x2400 0x01 0x01 8 1 1 1 1 0 false true false,
   .mk 0x2400 0x02 0x02 2 1 0 1 1 0 false true false,
   .mk 0x2401 0x01 0x01 1 1 0 1 1 0 false true false,
   .mk 0x2401 0x02 0x02 1 1 0 1 1 0 false true false,
   .mk 0x2401 0x03 0x03 2 1 0 1 1 0 false true false,
   .mk 0x2401 0x04 0x04 2 1 0 1 1 0 false true false,
   .mk 0x2401 0x05 0x05 8 1 1 1 1 0 false true false,
   .mk 0x2401 0x06 0x06 4 1 0 1 1 0 true true false,
   .mk 0x2402 0x01 0x18 1 1 0 1 1 0 true true false,
   .mk 0x2403 0x01 0x01 1 1 0 3 1 0 true true false,
   .mk 0x2404 0x01 0x0C 4 1 0 1 1 0 true true false,
   .mk 0x2404 0x0D 0x14 4 1 0 1 1 0 true true false]

/-- Objects of the module's dictionary, indices 0x2404 to 0x2810. -/
def moduleObjects3 : List ObjRow :=
  [.mk 0x2404 0x15 0x15 4 1 0 1 1 0 true true false,
   .mk 0x2404 0x16 0x16 4 1 0 1 1 0 true true false,
   .mk 0x2600 0x01 0x01 2 1 0 1 1 0 false true false,
   .mk 0x2600 0x02 0x02 1 1 0 1 1 0 false true false,
   .mk 0x2600 0x03 0x03 64 1 1 1 1 0 false false false,
   .mk 0x2601 0x01 0x18 4 1 0 1 1 0 true true false,
   .mk 0x2602 0x01 0x18 1 1 0 1 1 0 true true false,
   .mk 0x2610 0x01 0x01 1 3 0 3 3 0 true true true,
   .mk 0x2610 0x02 0x02 2 1 0 1 1 0 true true false,
   .mk 0x2610 0x03 0x03 32 1 0 1 1 0 true false false,
   .mk 0x2610 0x04 0x04 2 1 0 3 1 0 true true false,
   .mk 0x2610 0x05 0x05 2 1 0 1 1 0 false true false,
   .mk 0x2611 0x01 0x0C 8 1 0 1 1 0 true true false,
   .mk 0x2611 0x0D 0x0E 8 1 0 1 1 0 true true false,
   .mk 0x2611 0x0F 0x0F 4 1 0 1 1 0 true true false,
   .mk 0x2620 0x01 0x01 1 3 0 3 3 0 true true true,
   .mk 0x2620 0x02 0x02 32 1 0 1 1 0 true false false,
   .mk 0x2620 0x03 0x03 1 1 0 1 1 0 true true false,
   .mk 0x2620 0x04 0x04 8 1 0 1 1 0 true true false,
   .mk 0x2620 0x05 0x05 8 1 0 1 1 0 true true false,
   .mk 0x2620 0x06 0x06 4 1 0 1 1 0 true true false,
   .mk 0x2620 0x07 0x07 24 1 0 1 1 0 false false false,
   .mk 0x2800 0x01 0x01 1 3 0 3 3 0 true true true,
   .mk 0x2800 0x02 0x02 4 1 0 1 1 0 true true false,
   .mk 0x2800 0x03 0x03 4 1 0 1 1 0 true true false,
   .mk 0x2800 0x04 0x04 4 1 0 1 1 0 true true false,
   .mk 0x2800 0x05 0x05 4 1 0 1 1 0 true true false,
   .mk 0x2800 0x06 0x06 1 1 0 1 1 0 true true false,
   .mk 0x2800 0x07 0x07 1 1 0 1 1 0 false true false,
   .mk 0x2800 0x08 0x08 1 2 0 2 2 0 true true false,
   .mk 0x2808 0x01 0x01 1 3 0 3 3 0 true true true,
   .mk 0x2808 0x02 0x02 4 1 0 1 1 0 true true false,
   .mk 0x2808 0x03 0x03 4 1 0 1 1 0 true true false,
   .mk 0x2808 0x04 0x04 4 1 0 1 1 0 true true false,
   .mk 0x2808 0x05 0x05 32 1 0 1 1 0 true false false,
   .mk 0x2808 0x06 0x06 1 1 0 1 1 0 true true false,
   .mk 0x2808 0x07 0x07 8 1 0 1 1 0 true true false,
   .mk 0x2808 0x08 0x08 1 2 0 2 2 0 true true false,
   .mk 0x2810 0x01 0x01 1 3 0 3 3 0 false true false,
   .mk 0x2810 0x02 0x02 8 3 0 3 3 0 true true false]

/-- Objects of the module's dictionary, indices 0x2810 to 0x2C00. -/
def moduleObjects4 : List ObjRow :=
  [.mk 0x2810 0x03 0x03 1 3 0 3 3 0 true true false,
   .mk 0x2810 0x04 0x04 8 1 0 1 1 0 false true false,
   .mk 0x2810 0x05 0x05 4 1 0 1 1 0 true true false,
   .mk 0x2810 0x06 0x06 4 1 0 1 1 0 false true false,
   .mk 0x2810 0x07 0x07 1 2 0 2 2 0 true true false,
   .mk 0x2811 0x01 0x10 8 1 0 1 1 0 true true false,
   .mk 0x2812 0x01 0x10 32 1 0 1 1 0 true false false,
   .mk 0x2818 0x01 0x01 8 1 0 1 1 0 true true false,
   .mk 0x2818 0x02 0x02 8 1 0 1 1 0 true true false,
   .mk 0x2A00 0x01 0x01 1 3 0 3 3 0 false true true,
   .mk 0x2A00 0x02 0x02 16 2 0 2 0 0 false false false,
   .mk 0x2A00 0x03 0x03 1 1 1 1 1 0 false true false,
   .mk 0x2A00 0x04 0x04 2 1 0 1 1 0 false true false,
   .mk 0x2A01 0x01 0x01 1 3 0 3 3 0 false true true,
   .mk 0x2A01 0x02 0x02 32 3 0 3 1 0 false false false,
   .mk 0x2A01 0x03 0x03 40 1 1 1 1 0 false false false,
   .mk 0x2A01 0x04 0x04 1 2 0 2 0 0 false true false,
   .mk 0x2A01 0x05 0x05 4 1 0 1 1 0 true true false,
   .mk 0x2A01 0x06 0x06 1 1 1 1 1 0 false true false,
   .mk 0x2A01 0x07 0x07 8 3 0 3 3 0 true true true,
   .mk 0x2A01 0x08 0x08 256 1 0 1 1 0 true false false,
   .mk 0x2A02 0x01 0x01 2 3 0 3 3 0 true true true,
   .mk 0x2A02 0x02 0x02 16 1 0 1 1 0 true false false,
   .mk 0x2A08 0x01 0x01 1 1 0 1 1 0 false true false,
   .mk 0x2A08 0x02 0x02 1 1 0 1 1 0 true true false,
   .mk 0x2A08 0x03 0x03 4 1 0 1 1 0 false true false,
   .mk 0x2A08 0x04 0x04 4 1 0 1 1 0 false true false,
   .mk 0x2A40 0x01 0x01 32 1 1 1 1 0 false false false,
   .mk 0x2A40 0x02 0x02 8 1 1 1 1 0 false true false,
   .mk 0x2A40 0x03 0x03 64 1 1 1 1 0 false false false,
   .mk 0x2A41 0x00 0x00 1 1 1 1 1 0 false true false,
   .mk 0x2A41 0x01 0x08 32 1 1 1 1 0 false false false,
   .mk 0x2A42 0x01 0x0C 8 1 0 1 1 0 true true false,
   .mk 0x2A43 0x01 0x01 4 1 0 1 1 0 true true false,
   .mk 0x2A50 0x01 0x01 1 1 1 1 1 0 false true false,
   .mk 0x2A50 0x02 0x02 4 1 0 1 1 0 true true false,
   .mk 0x2A50 0x03 0x03 2 1 0 1 1 0 true true false,
   .mk 0x2C00 0x01 0x01 1 3 0 3 3 0 true true true,
   .mk 0x2C00 0x02 0x02 2 3 0 3 3 0 true true true,
   .mk 0x2C00 0x03 0x03 8 1 0 1 1 0 true true false]

/-- Objects of the module's dictionary, indices 0x2C00 to 0x3300. -/
def moduleObjects5 : List ObjRow :=
  [.mk 0x2C00 0x04 0x04 32 1 0 1 1 0 true false false,
   .mk 0x2C00 0x05 0x05 16 2 0 2 2 0 true false false,
   .mk 0x2C00 0x06 0x06 4 1 0 1 1 0 false true false,
   .mk 0x2C00 0x07 0x07 2 1 0 1 1 0 false true false,
   .mk 0x2C01 0x01 0x01 168 1 0 1 1 0 true false false,
   .mk 0x2C02 0x01 0x01 4 1 0 1 1 0 true true false,
   .mk 0x2C02 0x02 0x02 4 1 0 1 1 0 true true false,
   .mk 0x2E00 0x01 0x01 2 3 0 3 3 0 false true true,
   .mk 0x2E00 0x02 0x02 4 3 0 3 1 0 false true false,
   .mk 0x2E01 0x01 0x01 128 1 0 1 1 0 false false false,
   .mk 0x2E01 0x02 0x02 128 2 0 2 2 0 false false false,
   .mk 0x2E01 0x03 0x03 128 2 0 2 2 0 true false false,
   .mk 0x2E01 0x04 0x04 128 1 0 1 1 0 false false false,
   .mk 0x2E02 0x01 0x01 2 3 0 3 3 0 false true true,
   .mk 0x2E02 0x02 0x02 2 3 0 3 1 0 false true false,
   .mk 0x2E02 0x03 0x03 2 3 0 3 1 0 false true false,
   .mk 0x2E02 0x04 0x04 2 1 0 1 1 0 true true false,
   .mk 0x2E02 0x05 0x05 4 1 0 1 1 0 true true false,
   .mk 0x3000 0x01 0x01 2 1 1 1 1 0 false true false,
   .mk 0x3000 0x02 0x02 8 1 0 1 1 0 false true false,
   .mk 0x3000 0x03 0x03 1 1 0 1 1 0 false true false,
   .mk 0x3000 0x04 0x04 2 1 0 3 1 0 true true false,
   .mk 0x3000 0x05 0x05 2 1 0 3 1 0 true true false,
   .mk 0x3000 0x06 0x06 2 1 0 1 1 0 true true false,
   .mk 0x3001 0x01 0x01 1 3 0 3 3 0 true true true,
   .mk 0x3001 0x02 0x02 1 1 0 1 1 0 false true false,
   .mk 0x3001 0x03 0x03 8 1 0 1 1 0 true false false,
   .mk 0x3001 0x04 0x04 1 0 0 2 2 0 true true false,
   .mk 0x3001 0x05 0x05 8 1 0 1 1 0 true true false,
   .mk 0x3001 0x06 0x06 4 1 0 1 1 0 true true false,
   .mk 0x3001 0x07 0x07 4 1 0 1 1 0 true true false,
   .mk 0x3001 0x08 0x08 4 1 0 1 1 0 true true false,
   .mk 0x3001 0x09 0x09 4 1 0 1 1 0 true true false,
   .mk 0x3002 0x01 0x01 8 1 0 1 1 0 true true false,
   .mk 0x3002 0x02 0x02 4 1 0 1 1 0 false true false,
   .mk 0x3002 0x03 0x09 4 1 0 1 1 0 true true false,
   .mk 0x3002 0x0A 0x0A 4 1 0 1 1 0 true true false,
   .mk 0x3002 0x0B 0x0B 4 1 0 1 1 0 true true false,
   .mk 0x3002 0x0C 0x0C 4 1 0 1 1 0 true true false,
   .mk 0x3300 0x01 0x01 1 1 0 1 1 0 false true false]

/-- Objects of the module's dictionary, indices 0x3300 to 0x3810. -/
def moduleObjects6 : List ObjRow :=
  [.mk 0x3300 0x02 0x02 1 1 0 1 1 0 false true false,
   .mk 0x3300 0x03 0x03 4 1 0 1 1 0 true true false,
   .mk 0x3300 0x04 0x04 1 0 0 2 2 0 true true false,
   .mk 0x3300 0x05 0x05 8 1 0 1 1 0 true true false,
   .mk 0x3300 0x06 0x06 4 1 0 1 1 0 true true false,
   .mk 0x3300 0x07 0x07 4 1 0 1 1 0 true true false,
   .mk 0x3300 0x08 0x08 4 1 0 1 1 0 true true false,
   .mk 0x3300 0x09 0x09 4 1 0 1 1 0 true true false,
   .mk 0x3300 0x0A 0x0A 4 1 0 1 1 0 true true false,
   .mk 0x3300 0x0B 0x0B 4 1 0 1 1 0 false true false,
   .mk 0x3300 0x0C 0x0C 8 1 0 1 1 0 true true false,
   .mk 0x3300 0x0D 0x0D 4 1 0 1 1 0 true true false,
   .mk 0x3300 0x0E 0x0E 4 1 0 1 1 0 true true false,
   .mk 0x3300 0x0F 0x0F 4 1 0 1 1 0 true true false,
   .mk 0x3400 0x01 0x01 2 1 0 1 1 0 false true false,
   .mk 0x3400 0x02 0x02 1 1 0 1 1 0 false true false,
   .mk 0x3400 0x03 0x03 4 1 0 3 1 0 true true false,
   .mk 0x3400 0x04 0x04 2 1 0 3 1 0 true true false,
   .mk 0x3400 0x05 0x05 1 3 0 3 3 0 true true true,
   .mk 0x3400 0x06 0x06 256 1 0 1 1 0 true false false,
   .mk 0x3400 0x07 0x07 4 3 0 3 3 0 true true true,
   .mk 0x3400 0x08 0x08 4 1 0 1 1 0 true true false,
   .mk 0x3401 0x01 0x01 4 1 0 1 1 0 false true false,
   .mk 0x3401 0x02 0x02 4 1 0 1 1 0 false true false,
   .mk 0x3401 0x03 0x03 8 1 0 1 1 0 true true false,
   .mk 0x3401 0x04 0x04 4 1 0 1 1 0 true true false,
   .mk 0x3401 0x05 0x05 4 1 0 1 1 0 true true false,
   .mk 0x3401 0x06 0x06 8 1 0 1 1 0 true true false,
   .mk 0x3800 0x01 0x01 4 1 0 1 1 0 false true false,
   .mk 0x3800 0x02 0x02 4 3 0 3 3 0 false true true,
   .mk 0x3800 0x03 0x03 64 1 0 1 1 0 false false false,
   .mk 0x3800 0x04 0x04 4 1 0 1 1 0 false true false,
   .mk 0x3800 0x05 0x05 2 1 0 3 1 0 true true false,
   .mk 0x3808 0x01 0x01 16 1 1 1 1 0 false false false,
   .mk 0x3808 0x02 0x02 4 1 0 1 1 0 false true false,
   .mk 0x3810 0x01 0x01 8 3 0 3 3 0 true true true,
   .mk 0x3810 0x02 0x02 1 1 0 1 1 0 true true false,
   .mk 0x3810 0x03 0x03 2 1 0 1 1 0 false true false,
   .mk 0x3810 0x04 0x04 2 1 0 1 1 0 false true false,
   .mk 0x3810 0x05 0x05 2 1 0 1 1 0 false true false]

/-- Objects of the module's dictionary, indices 0x3810 to 0x4000. -/
def moduleObjects7 : List ObjRow :=
  [.mk 0x3810 0x06 0x06 4 1 0 1 1 0 true true false,
   .mk 0x3810 0x07 0x07 4 1 0 1 1 0 true true false,
   .mk 0x3820 0x01 0x01 16 2 0 2 0 0 true false false,
   .mk 0x3820 0x02 0x02 1 1 0 1 1 0 true true false,
   .mk 0x3820 0x03 0x03 16 1 0 1 1 0 true false false,
   .mk 0x3820 0x04 0x04 4 1 0 3 1 0 true true false,
   .mk 0x3820 0x05 0x05 2 1 0 3 1 0 true true false,
   .mk 0x3820 0x06 0x06 4 1 0 1 1 0 true true false,
   .mk 0x3820 0x07 0x07 4 1 0 1 1 0 false true false,
   .mk 0x3828 0x01 0x01 4 1 0 1 1 0 false true false,
   .mk 0x3828 0x02 0x02 16 1 0 1 1 0 false false false,
   .mk 0x3828 0x03 0x03 8 1 0 1 1 0 true true false,
   .mk 0x3C00 0x01 0x01 1 1 1 1 1 0 false true false,
   .mk 0x3C00 0x02 0x02 1 1 0 1 1 0 true true false,
   .mk 0x3C02 0x01 0x01 1 0 0 3 1 0 true true true,
   .mk 0x3C02 0x02 0x02 256 0 0 2 0 0 true false false,
   .mk 0x3C02 0x03 0x03 64 1 0 1 1 0 true false false,
   .mk 0x3C04 0x01 0x01 16 2 0 2 0 0 false false false,
   .mk 0x3C04 0x02 0x02 4 3 0 3 1 0 false true false,
   .mk 0x3C04 0x03 0x03 256 2 0 2 0 0 false false false,
   .mk 0x3C04 0x04 0x04 1 1 0 1 1 0 false true false,
   .mk 0x3C04 0x05 0x05 1 1 0 3 1 0 false true false,
   .mk 0x3C06 0x01 0x03 4 1 1 1 1 0 false true false,
   .mk 0x3C06 0x04 0x06 64 1 1 1 1 0 false false false,
   .mk 0x3C06 0x07 0x07 1 1 0 1 1 0 true true false,
   .mk 0x3C06 0x08 0x08 2 1 0 1 1 0 true true false,
   .mk 0x3C08 0x01 0x01 1 1 0 3 1 0 false true false,
   .mk 0x3C10 0x01 0x01 16 0 0 2 0 0 false false false,
   .mk 0x3C10 0x02 0x02 1 1 0 1 1 0 false true false,
   .mk 0x3C10 0x03 0x03 32 0 0 1 0 0 true false false,
   .mk 0x3C10 0x04 0x04 4 1 0 1 1 0 true true false,
   .mk 0x3C20 0x01 0x01 16 0 0 2 0 0 true false false,
   .mk 0x3C20 0x02 0x03 64 1 1 1 1 0 true false false,
   .mk 0x3C30 0x01 0x01 32 2 2 2 2 0 false false false,
   .mk 0x3C30 0x02 0x02 1 1 1 1 1 0 false true false,
   .mk 0x3C30 0x03 0x03 64 1 1 1 1 0 false false false,
   .mk 0x4000 0x01 0x01 8 1 0 1 1 0 false true false,
   .mk 0x4000 0x02 0x02 4 1 0 1 1 0 false true false,
   .mk 0x4000 0x03 0x03 2 1 0 1 1 0 false true false,
   .mk 0x4000 0x04 0x04 4 1 0 1 1 0 false true false]

/-- Objects of the module's dictionary, indices 0x4000 to 0x5000. -/
def moduleObjects8 : List ObjRow :=
  [.mk 0x4000 0x05 0x05 1 1 0 1 1 0 false true false,
   .mk 0x4001 0x01 0x01 4 1 0 1 1 0 false true false,
   .mk 0x4001 0x02 0x02 4 1 0 1 1 0 false true false,
   .mk 0x4001 0x03 0x03 64 1 0 1 1 0 false false false,
   .mk 0x4001 0x04 0x04 8 1 0 1 1 0 false true false,
   .mk 0x4001 0x05 0x05 4 1 0 1 1 0 false true false,
   .mk 0x4002 0x01 0x01 4 1 0 1 1 0 false true false,
   .mk 0x4002 0x02 0x02 4 3 0 3 3 0 false true true,
   .mk 0x4002 0x03 0x03 32 1 0 1 1 0 false false false,
   .mk 0x4003 0x03 0x03 2 3 0 3 3 0 false true true,
   .mk 0x4003 0x04 0x04 256 1 0 1 1 0 false false false,
   .mk 0x4008 0x01 0x01 1 1 0 1 1 0 false true false,
   .mk 0x4008 0x02 0x02 4 1 0 1 1 0 true true false,
   .mk 0x4008 0x03 0x03 4 1 0 1 1 0 true true false,
   .mk 0x4800 0x01 0x01 1 1 0 1 1 0 true true false,
   .mk 0x5000 0x02 0x02 8 3 0 3 3 0 false true false,
   .mk 0x5000 0x03 0x03 1 2 0 2 2 0 false true false,
   .mk 0x5000 0x04 0x04 1 1 0 1 1 0 false true false]

/-- The module's dictionary. -/
def moduleObjects : List ObjRow :=
  moduleObjects0 ++ moduleObjects1 ++ moduleObjects2 ++ moduleObjects3 ++ moduleObjects4 ++ moduleObjects5 ++
  moduleObjects6 ++ moduleObjects7 ++ moduleObjects8

/-- Objects of the metering node (R424, R430), indices 0x1000 to 0x4004. -/
def meterObjects : List ObjRow :=
  [.mk 0x1000 0x00 0x00 4 0 0 0 0 1 false true false,
   .mk 0x1001 0x00 0x00 1 0 0 0 0 1 false true false,
   .mk 0x1017 0x00 0x00 2 0 0 0 0 3 false true false,
   .mk 0x1018 0x01 0x04 4 0 0 0 0 1 false true false,
   .mk 0x1800 0x01 0x01 4 0 0 0 0 3 false true false,
   .mk 0x1800 0x02 0x02 1 0 0 0 0 3 false true false,
   .mk 0x1800 0x03 0x03 2 0 0 0 0 3 false true false,
   .mk 0x1800 0x05 0x05 2 0 0 0 0 3 false true false,
   .mk 0x1A00 0x00 0x00 1 0 0 0 0 1 false true false,
   .mk 0x1A00 0x01 0x02 4 0 0 0 0 1 false true false,
   .mk 0x4000 0x01 0x01 8 0 0 0 0 1 false true false,
   .mk 0x4000 0x02 0x02 4 0 0 0 0 1 false true false,
   .mk 0x4000 0x03 0x03 2 0 0 0 0 1 false true false,
   .mk 0x4000 0x04 0x04 4 0 0 0 0 1 false true false,
   .mk 0x4000 0x05 0x05 1 0 0 0 0 1 false true false,
   .mk 0x4001 0x01 0x01 4 0 0 0 0 1 false true false,
   .mk 0x4001 0x02 0x02 4 0 0 0 0 1 false true false,
   .mk 0x4001 0x03 0x03 64 0 0 0 0 1 false false false,
   .mk 0x4001 0x04 0x04 8 0 0 0 0 1 false true false,
   .mk 0x4001 0x05 0x05 4 0 0 0 0 1 false true false,
   .mk 0x4002 0x01 0x01 4 0 0 0 0 1 false true false,
   .mk 0x4002 0x02 0x02 4 0 0 0 0 3 false true true,
   .mk 0x4002 0x03 0x03 32 0 0 0 0 1 false false false,
   .mk 0x4003 0x01 0x01 32 0 0 0 0 2 false false false,
   .mk 0x4003 0x02 0x02 1 0 0 0 0 1 false true false,
   .mk 0x4003 0x03 0x03 2 0 0 0 0 3 false true true,
   .mk 0x4003 0x04 0x04 256 0 0 0 0 1 false false false,
   .mk 0x4004 0x01 0x01 16 0 0 0 0 2 false false false,
   .mk 0x4004 0x02 0x02 256 0 0 0 0 2 false false false,
   .mk 0x4004 0x03 0x03 1 0 0 0 0 1 false true false]

end Sys2Proof.Machine
end

