-- ==== Sys2Proof/Machine/Bits.lean ====
section
/-! DEFINITION. Bytes, bit fields and sparse tables (00_scope.md R3: bit 0 is least significant, multi-byte fields are
least significant byte first). -/

namespace Sys2Proof.Machine

/-- The number a little-endian byte string holds (R3). -/
def leNat : Bytes → Nat
  | [] => 0
  | b :: bs => b.toNat + 256 * leNat bs

/-- The n bytes, least significant first, of a number (R3). -/
def leBytes : Nat → Nat → Bytes
  | 0, _ => []
  | n + 1, v => BitVec.ofNat 8 v :: leBytes n (v / 256)

/-- The number bytes `off` to `off + n - 1` hold. -/
def leAt (bs : Bytes) (off n : Nat) : Nat := leNat ((bs.drop off).take n)

/-- Byte `off`, or 0 past the end. -/
def byteAt (bs : Bytes) (off : Nat) : Nat := (bs.getD off 0#8).toNat

/-- Bits [lo + w - 1 : lo] of a number (R3). -/
def bitsAt (v lo w : Nat) : Nat := v / 2 ^ lo % 2 ^ w

/-- Bit i of a number. -/
def bitAt (v i : Nat) : Bool := v / 2 ^ i % 2 == 1

/-- A w-bit number read in two's complement. -/
def toSigned (w v : Nat) : Int := if v % 2 ^ w < 2 ^ (w - 1) then (v % 2 ^ w : Nat) else (v % 2 ^ w : Nat) - (2 ^ w : Nat)

/-- The low w bits of an integer in two's complement. -/
def ofSigned (w : Nat) (i : Int) : Nat := (i % ((2 ^ w : Nat) : Int)).toNat

/-- Signed bytes at `off`. -/
def sAt (bs : Bytes) (off n : Nat) : Int := toSigned (8 * n) (leAt bs off n)

def boolNat (b : Bool) : Nat := if b then 1 else 0

/-- Every byte of the range [lo, hi) of the string is zero (R4). -/
def zeroRange (bs : Bytes) (lo hi : Nat) : Bool := leAt bs lo (hi - lo) == 0

/-- A byte string cut or padded with zeros to n bytes. -/
def padTo (n : Nat) (bs : Bytes) : Bytes := (bs ++ List.replicate (n - bs.length) 0#8).take n

/-- Bytes of `src` put over `bs` from offset `off`, the length kept. -/
def overlay (bs : Bytes) (off : Nat) (src : Bytes) : Bytes :=
  (bs.take off ++ src ++ bs.drop (off + src.length)).take bs.length

/-- A counter that saturates at its all-ones value (R53). -/
def satAdd {w : Nat} (c : BitVec w) (n : Nat) : BitVec w :=
  if c.toNat + n < 2 ^ w then BitVec.ofNat w (c.toNat + n) else BitVec.allOnes w

/-- Smallest multiple of k at or above n. -/
def roundUp (n k : Nat) : Nat := (n + k - 1) / k * k

def ceilDiv (n k : Nat) : Nat := (n + k - 1) / k

/-! ### Sparse tables -/

/-- The value a sparse table holds at a key; `d` is what an unlisted key holds. -/
def smGet {α : Type} (d : α) : SMap α → Nat → α
  | [], _ => d
  | (k, v) :: m, x => if k = x then v else if x < k then d else smGet d m x

/-- The table with the key unlisted. -/
def smDrop {α : Type} : SMap α → Nat → SMap α
  | [], _ => []
  | (k, v) :: m, x => if k = x then m else if x < k then (k, v) :: m else (k, v) :: smDrop m x

/-- The table with the key listed with a value, the keys kept rising. -/
def smPut {α : Type} : SMap α → Nat → α → SMap α
  | [], x, y => [(x, y)]
  | (k, v) :: m, x, y =>
    if k = x then (x, y) :: m else if x < k then (x, y) :: (k, v) :: m else (k, v) :: smPut m x y

/-- The table with a value written: writing what an unlisted key holds unlists the key. -/
def smSet {α : Type} [DecidableEq α] (d : α) (m : SMap α) (x : Nat) (y : α) : SMap α :=
  if y = d then smDrop m x else smPut m x y

/-- The table with the value at a key changed by a function. -/
def smMod {α : Type} [DecidableEq α] (d : α) (m : SMap α) (x : Nat) (f : α → α) : SMap α :=
  smSet d m x (f (smGet d m x))

/-- Every listed value changed by a function of its key and value; one that becomes the default is unlisted. -/
def smMap {α : Type} [DecidableEq α] (d : α) (f : Nat → α → α) (m : SMap α) : SMap α :=
  (m.map (fun p => (p.1, f p.1 p.2))).filter (fun p => decide (p.2 ≠ d))

/-- Strictly rising keys above a bound, and no value equal to the default: the canonical form. -/
def smWfFrom {α : Type} [DecidableEq α] (d : α) : Nat → SMap α → Bool
  | _, [] => true
  | lo, (k, v) :: m => decide (lo ≤ k) && decide (v ≠ d) && smWfFrom d (k + 1) m

/-- A sparse table is in canonical form. -/
def smWf {α : Type} [DecidableEq α] (d : α) (m : SMap α) : Bool := smWfFrom d 0 m

/-! ### Lists used as queues -/

/-- The list with element i replaced. -/
def listSet {α : Type} (l : List α) (i : Nat) (x : α) : List α := l.set i x

/-- The list without its element i. -/
def listErase {α : Type} (l : List α) (i : Nat) : List α := l.eraseIdx i

/-- The elements of a list that satisfy p changed by f. -/
def mapWhere {α : Type} (p : α → Bool) (f : α → α) (l : List α) : List α := l.map (fun x => if p x then f x else x)

end Sys2Proof.Machine
end

