-- ==== Sys2Proof/Machine/Operands.lean ====
section
/-! DEFINITION. Operand forms: the number formats (02_number_formats.md), the window terms and skein entries
(03_skein_accumulation.md), saved slots, and the fields of a descriptor (R89). -/

namespace Sys2Proof.Machine

/-! ### Element formats (R26, R27) -/

/-- A floating-point element format: exponent bits, fraction bits, bias, and the largest finite significand and exponent. -/
structure Fmt where
  eb   : Nat
  fb   : Nat
  bias : Nat
  /-- largest finite magnitude is maxM × 2^maxE -/
  maxM : Nat
  maxE : Int
  /-- it has infinities -/
  inf  : Bool
deriving DecidableEq, Repr

/-- The floating-point format of a format code (R26, R27); MX codes name their element format. -/
def fmtOf (code : Nat) : Option Fmt :=
  match code with
  | 0x01 => some ⟨8, 23, 127, 2 ^ 24 - 1, 104, true⟩
  | 0x02 => some ⟨8, 7, 127, 255, 120, true⟩
  | 0x03 => some ⟨5, 10, 15, 2047, 5, true⟩
  | 0x04 | 0x08 => some ⟨4, 3, 7, 14, 5, false⟩
  | 0x05 | 0x09 => some ⟨5, 2, 15, 7, 13, true⟩
  | 0x06 | 0x0A => some ⟨2, 1, 1, 3, 1, false⟩
  | _ => none

/-- Bits per element of a format code (R26); saved skeins by R74; 0 for a reserved code. -/
def fmtBits (code : Nat) : Nat :=
  match code with
  | 0x01 => 32
  | 0x02 | 0x03 => 16
  | 0x04 | 0x05 | 0x07 | 0x08 | 0x09 | 0x0B => 8
  | 0x06 | 0x0A => 4
  | 0x10 => 192
  | 0x11 => 384
  | 0x12 => 576
  | 0x13 => 960
  | _ => 0

/-- The plies of a saved skein form (R74). -/
def savedPly (code : Nat) : Option Nat :=
  match code with
  | 0x10 => some 1
  | 0x11 => some 2
  | 0x12 => some 3
  | 0x13 => some 5
  | _ => none

def isMx (code : Nat) : Bool := code == 0x08 || code == 0x09 || code == 0x0A

/-- Formats allowed as an operand of TMUL (R26). -/
def operandFmt (code : Nat) : Bool := decide (1 ≤ code) && decide (code ≤ 0x0A)

/-- Formats allowed as a drain output (R26). -/
def drainFmt (code : Nat) : Bool := [0x01, 0x02, 0x03, 0x04, 0x05, 0x07].contains code

/-- Formats allowed as a preload (R26). -/
def preloadFmt (code : Nat) : Bool := decide (1 ≤ code) && decide (code ≤ 0x07)

/-- Smallest normal exponent of a format. -/
def Fmt.emin (f : Fmt) : Int := 1 - (f.bias : Int)

/-- The exact value of an element's bits (R27, R28). -/
def decodeElem (code bits : Nat) : ExactVal :=
  if code = 0x07 then .fin (toSigned 8 bits) 0
  else match fmtOf code with
    | none => .nan
    | some f =>
      let frac := bits % 2 ^ f.fb
      let ex := bits / 2 ^ f.fb % 2 ^ f.eb
      let neg := bits / 2 ^ (f.fb + f.eb) % 2 == 1
      if f.inf && ex == 2 ^ f.eb - 1 then
        if frac == 0 then (if neg then .negInf else .posInf) else .nan
      else if f.eb == 4 && ex == 15 && frac == 7 then .nan
      else
        let m : Int := if ex == 0 then frac else frac + 2 ^ f.fb
        .fin (if neg then -m else m) ((if ex == 0 then 1 else ex : Nat) - (f.bias : Int) - f.fb)

/-- The sign bit of an element (R27). -/
def elemNeg (code bits : Nat) : Bool := bits / 2 ^ (fmtBits code - 1) % 2 == 1

/-- The contribution of an element to its tensor's exponent tag, none for zero and non-finite elements (R35). -/
def elemTag (code bits : Nat) : Option Int :=
  match decodeElem code bits with
  | .fin m _ =>
    if m = 0 then none
    else if code = 0x07 then some (Nat.log2 m.natAbs)
    else match fmtOf code with
      | none => none
      | some f =>
        let ex := bits / 2 ^ f.fb % 2 ^ f.eb
        some ((if ex == 0 then 1 else ex : Nat) - (f.bias : Int))
  | _ => none

/-- Presence bits of an element: [0] NaN, [1] +∞, [2] −∞ (R152). -/
def elemPresence (code bits : Nat) : Nat :=
  match decodeElem code bits with
  | .nan => 1
  | .posInf => 2
  | .negInf => 4
  | .fin _ _ => 0

/-- The exponent of 2 that an E8M0 scale stands for; none for 0xFF (R27, R29). -/
def scaleExp (b : Nat) : Option Int := if b == 255 then none else some ((b : Int) - 127)

/-! ### Rounding (R41 to R47) -/

/-- A conversion's result: the element's bits and the events it raised. -/
structure Rounded where
  bits    : Nat
  ovf     : Bool := false
  flushed : Bool := false
  invalid : Bool := false
deriving DecidableEq, Repr

/-- Magnitude after rounding n + rem/den by a mode of R42; `u` is the Philox word of R43. -/
def roundMag (mode : Nat) (neg : Bool) (n rem den u : Nat) : Nat :=
  if rem = 0 then n
  else match mode with
    | 0 => if 2 * rem > den || (2 * rem == den && n % 2 == 1) then n + 1 else n
    | 1 => n
    | 2 => if neg then n else n + 1
    | 3 => if neg then n + 1 else n
    | _ =>
      if neg then (if u < (den - rem) * 2 ^ 32 / den then n else n + 1)
      else (if u < rem * 2 ^ 32 / den then n + 1 else n)

/-- |m| × 2^e as n + rem/den in units of 2^q. -/
def splitAt2 (m : Nat) (e q : Int) : Nat × Nat × Nat :=
  if e ≥ q then (m * 2 ^ (e - q).toNat, 0, 1)
  else (m / 2 ^ (q - e).toNat, m % 2 ^ (q - e).toNat, 2 ^ (q - e).toNat)

/-- a × 2^i < b × 2^j. -/
def dyLt (a : Nat) (i : Int) (b : Nat) (j : Int) : Bool :=
  let lo := min i j
  decide (a * 2 ^ (i - lo).toNat < b * 2 ^ (j - lo).toNat)

/-- Bits of a float of magnitude n × 2^q, n at most 2^(fb+1), q at or above emin − fb. -/
def packFloat (f : Fmt) (neg : Bool) (n : Nat) (q : Int) : Nat :=
  let (n, q) := if n ≥ 2 ^ (f.fb + 1) then (n / 2, q + 1) else (n, q)
  let ex : Nat := if n < 2 ^ f.fb then 0 else (q + f.fb + f.bias).toNat
  boolNat neg * 2 ^ (f.eb + f.fb) + ex * 2 ^ f.fb + n % 2 ^ f.fb

def infBits (f : Fmt) (neg : Bool) : Nat := boolNat neg * 2 ^ (f.eb + f.fb) + (2 ^ f.eb - 1) * 2 ^ f.fb

def maxBits (f : Fmt) (neg : Bool) : Nat := packFloat f neg f.maxM f.maxE

/-- The canonical NaN of a drain output (R45). -/
def nanBits (code : Nat) : Nat :=
  match code with
  | 0x01 => 0x7FC00000
  | 0x02 => 0x7FC0
  | 0x03 => 0x7E00
  | 0x05 => 0x7E
  | 0x04 => 0x7F
  | _ => 0

/-- A non-zero finite value converted to a floating-point output (R41 to R44, R46). -/
def roundFloat (f : Fmt) (mode : Nat) (flush : Bool) (u : Nat) (neg : Bool) (m : Nat) (e : Int) : Rounded :=
  let beyond := dyLt f.maxM f.maxE m e
  let (m, e) := if mode = 4 && !f.inf && beyond then (f.maxM, f.maxE) else (m, e)
  let q := max ((Nat.log2 m : Int) + e) f.emin - f.fb
  let (n, rem, den) := splitAt2 m e q
  let r := roundMag mode neg n rem den u
  let big := dyLt f.maxM f.maxE r q
  if big then
    if !f.inf then { bits := maxBits f neg, ovf := true }
    else match mode with
      | 1 => { bits := maxBits f neg, ovf := true }
      | 2 => { bits := if neg then maxBits f neg else infBits f neg, ovf := true }
      | 3 => { bits := if neg then infBits f neg else maxBits f neg, ovf := true }
      | _ => { bits := infBits f neg, ovf := true }
  else if flush && decide (0 < r) && decide (r < 2 ^ f.fb) then
    { bits := packFloat f neg 0 (f.emin - f.fb), flushed := true }
  else { bits := packFloat f neg r q, ovf := mode = 4 && beyond }

/-- A non-zero finite value converted to INT8 (R42, R44). -/
def roundInt8 (mode u : Nat) (neg : Bool) (m : Nat) (e : Int) : Rounded :=
  let lim := if neg then 128 else 127
  let (n, rem, den) := splitAt2 m e 0
  let beyond := decide (n > lim) || (n == lim && decide (rem > 0))
  let r := roundMag mode neg n rem den u
  let big := if mode = 4 then beyond else decide (r > lim)
  let r := if big then lim else r
  { bits := ofSigned 8 (if neg then -(r : Int) else r), ovf := big }

/-- A value converted to a drain output format: finite values by R41 to R44, R46 and R47, the others by R45. `flush` says
that subnormal results of the formats of R46 become zero. -/
def convert (code mode : Nat) (flush : Bool) (u : Nat) (v : ExactVal) : Rounded :=
  match v with
  | .nan => { bits := nanBits code, invalid := code == 0x07 }
  | .posInf =>
    match code with
    | 0x04 | 0x07 => { bits := 0x7F, invalid := true }
    | _ => { bits := match fmtOf code with
                     | some f => infBits f false
                     | none => 0 }
  | .negInf =>
    match code with
    | 0x04 => { bits := 0x7F, invalid := true }
    | 0x07 => { bits := 0x80, invalid := true }
    | _ => { bits := match fmtOf code with
                     | some f => infBits f true
                     | none => 0 }
  | .fin m e =>
    if m = 0 then
      { bits := if mode = 3 && code != 0x07 then 2 ^ (fmtBits code - 1) else 0 }
    else if code = 0x07 then roundInt8 mode u (decide (m < 0)) m.natAbs e
    else match fmtOf code with
      | none => { bits := 0 }
      | some f => roundFloat f mode (flush && [0x02, 0x04, 0x05].contains code) u (decide (m < 0)) m.natAbs e

/-- A value multiplied by a power of two. -/
def scaleVal (v : ExactVal) (k : Int) : ExactVal :=
  match v with
  | .fin m e => .fin m (e + k)
  | x => x

/-! ### Windows (R32) and terms (R62) -/

/-- Width, fixed LSB (none where the anchor gives it), guard bits and products per dot unit of a permitted combination of
operand format, class and ply (R32). -/
def window (code cls ply : Nat) : Option (Nat × Option Int × Nat × Nat) :=
  match code, cls, ply with
  | 0x06, 0, 1 => some (128, some (-2), 119, 64)
  | 0x04, 0, 1 => some (128, some (-18), 91, 32)
  | 0x05, 0, 1 => some (128, some (-32), 63, 32)
  | 0x03, 0, 1 => some (128, some (-48), 47, 16)
  | 0x07, 0, 1 => some (128, some 0, 112, 32)
  | 0x02, 1, 2 => some (256, none, 40, 16)
  | 0x08, 1, 2 => some (256, none, 40, 32)
  | 0x09, 1, 2 => some (256, none, 40, 32)
  | 0x0A, 1, 2 => some (256, none, 40, 64)
  | 0x02, 2, 5 => some (640, some (-266), 117, 4)
  | 0x01, 2, 5 => some (640, some (-298), 85, 1)
  | _, _, _ => none

/-- A class, ply and LSB that some row of R32 permits, for an instruction that names no operand format. -/
def classOk (cls ply : Nat) (lsb : Int) : Bool :=
  match cls, ply with
  | 0, 1 => [-2, -18, -32, -48, 0].contains lsb
  | 1, 2 => true
  | 2, 5 => [-266, -298].contains lsb
  | _, _ => false

/-- A term of R62, or the value of an entry: class (R54), value in units of 2^L, cause (R55) and sticky bits. -/
structure Term where
  cls   : Nat := 0
  v     : Int := 0
  cause : Nat := 0
  trunc : Bool := false
  ovf   : Bool := false
deriving DecidableEq, Repr, Inhabited

/-- The value lies in a window of W bits (R32). -/
def inWindow (w : Nat) (v : Int) : Bool := decide (-(2 ^ (w - 1) : Nat) ≤ v) && decide (v < (2 ^ (w - 1) : Nat))

/-- The class transition of R62: an incoming term meets an entry (or another term of a tree sum). With `w = none` the sum
is not bounded: the products of one beat are summed exactly before they meet the window. -/
def addTerm (w : Option Nat) (a b : Term) : Term :=
  let tr := a.trunc || b.trunc
  let ov := a.ovf || b.ovf
  match a.cls, b.cls with
  | 0, 0 =>
    let s := a.v + b.v
    if (match w with
        | none => true
        | some w => inWindow w s) then { cls := 0, v := s, trunc := tr, ovf := ov }
    else { cls := if s < 0 then 2 else 1, trunc := tr, ovf := true }
  | 0, c => { cls := c, cause := b.cause, trunc := tr, ovf := ov }
  | c, 0 => { cls := c, cause := a.cause, trunc := tr, ovf := ov }
  | 3, 3 => { cls := 3, cause := min a.cause b.cause, trunc := tr, ovf := ov }
  | 3, _ => { cls := 3, cause := a.cause, trunc := tr, ovf := ov }
  | _, 3 => { cls := 3, cause := b.cause, trunc := tr, ovf := ov }
  | x, y =>
    if x = y then { cls := x, cause := if a.cause = 8 || b.cause = 8 then 8 else 0, trunc := tr, ovf := ov }
    else { cls := 3, cause := if a.cause = 0 && b.cause = 0 then 4 else 2, trunc := tr, ovf := ov }

/-- m × 2^e as a whole number of units of 2^L, truncated toward −∞, and whether bits were lost (R37). -/
def toUnits (m e lsb : Int) : Int × Bool :=
  if e ≥ lsb then (m * 2 ^ (e - lsb).toNat, false)
  else (m / (2 ^ (lsb - e).toNat : Nat), decide (m % (2 ^ (lsb - e).toNat : Nat) ≠ 0))

/-- The product of two operands times 2^k as a term of a window (R31, R37, R61). -/
def productTerm (anchored : Bool) (w : Nat) (lsb : Int) (negate : Bool) (a b : ExactVal) (k : Int) : Term :=
  match a, b with
  | .nan, _ => { cls := 3, cause := 3 }
  | _, .nan => { cls := 3, cause := 3 }
  | .fin ma ea, .fin mb eb =>
    let m := if negate then -(ma * mb) else ma * mb
    let e := ea + eb + k
    if anchored && !(dyLt m.natAbs e 1 (lsb + (w : Int) - 1)) && decide (m ≠ 0) then
      { cls := if m < 0 then 2 else 1, ovf := true }
    else
      let (v, t) := toUnits m e lsb
      { v := v, trunc := t }
  | .fin ma _, y =>
    if ma = 0 then { cls := 3, cause := 1 }
    else { cls := if xor (xor (decide (ma < 0)) (decide (y = .negInf))) negate then 2 else 1, cause := 8 }
  | x, .fin mb _ =>
    if mb = 0 then { cls := 3, cause := 1 }
    else { cls := if xor (xor (decide (mb < 0)) (decide (x = .negInf))) negate then 2 else 1, cause := 8 }
  | x, y => { cls := if xor (xor (decide (x = .negInf)) (decide (y = .negInf))) negate then 2 else 1, cause := 8 }

/-- A value placed in a window without loss (R68, R40): infinities carry cause 0x8, NaNs cause 0x3. -/
def placeTerm (lsb : Int) (v : ExactVal) : Term :=
  match v with
  | .nan => { cls := 3, cause := 3 }
  | .posInf => { cls := 1, cause := 8 }
  | .negInf => { cls := 2, cause := 8 }
  | .fin m e => { v := (toUnits m e lsb).1 }

/-- The exact value of a term (R41). -/
def termVal (lsb : Int) (t : Term) : ExactVal :=
  match t.cls with
  | 0 => .fin t.v lsb
  | 1 => .posInf
  | 2 => .negInf
  | _ => .nan

/-! ### Entries and saved slots (R54 to R57, R75) -/

/-- The p entries of a window value; entry 0 holds the state byte (R57). -/
def packTerm (p : Nat) (t : Term) : List Entry :=
  let v := if t.cls = 0 then ofSigned (128 * p) t.v else 0
  (List.range p).map (fun j =>
    if j = 0 then
      { value := BitVec.ofNat 128 v, cls := BitVec.ofNat 2 t.cls, cause := BitVec.ofNat 4 t.cause,
        trunc := t.trunc, ovf := t.ovf }
    else { value := BitVec.ofNat 128 (v / 2 ^ (128 * j)) })

/-- Value bits of a chain of entries, lowest first. -/
def chainNat : List Entry → Nat
  | [] => 0
  | e :: es => e.value.toNat + 2 ^ 128 * chainNat es

/-- The window value a chain of entries holds (R57). -/
def unpackTerm (es : List Entry) : Term :=
  match es with
  | [] => {}
  | e :: _ =>
    { cls := e.cls.toNat
      v := if e.cls = 0 then toSigned (128 * es.length) (chainNat es) else 0
      cause := e.cause.toNat
      trunc := e.trunc
      ovf := e.ovf }

/-- The state byte, bits [135:128] of an entry (R54). -/
def stateByte (e : Entry) : Nat :=
  e.cls.toNat * 64 + e.cause.toNat * 4 + boolNat e.trunc * 2 + boolNat e.ovf

/-- The residue of value bits (R56). -/
def residue (v : Nat) : Nat := v % 127

/-- A saved slot of an entry (R75). -/
def slotBytes (j : Nat) (e : Entry) : Bytes :=
  leBytes 16 e.value.toNat ++ leBytes 2 ((if j = 0 then stateByte e else 0) + 256 * residue e.value.toNat) ++
    List.replicate 6 0#8

/-- A saved element: its slots, lowest entry first (R75). -/
def elementBytes (es : List Entry) : Bytes :=
  (List.range es.length).flatMap (fun j => slotBytes j (es.getD j {}))

/-- A slot passes the residue comparison (R77). -/
def slotOk (b : Bytes) : Bool := byteAt b 17 % 128 == residue (leAt b 0 16)

/-- Class and cause of a state byte that R55 lists. -/
def stateByteOk (sb : Nat) : Bool :=
  match sb / 64, sb / 4 % 16 with
  | 0, c => c == 0
  | 3, c => decide (1 ≤ c) && decide (c ≤ 4)
  | _, c => c == 0 || c == 8

/-- The entry a slot holds; j ≥ 1 ignores the state byte (R57), a reserved state byte loads as NaN of cause 0x3 (R69). -/
def slotEntry (j : Nat) (b : Bytes) : Entry :=
  let sb := byteAt b 16
  if j ≠ 0 then { value := BitVec.ofNat 128 (leAt b 0 16) }
  else if stateByteOk sb then
    { value := BitVec.ofNat 128 (leAt b 0 16), cls := BitVec.ofNat 2 (sb / 64), cause := BitVec.ofNat 4 (sb / 4),
      trunc := bitAt sb 1, ovf := bitAt sb 0 }
  else { cls := 3, cause := 3, trunc := bitAt sb 1, ovf := bitAt sb 0 }

/-- The slots of a saved element as a window value, and the index of the first failing slot (R77): a failing element
loads as NaN of cause 0x3 with both sticky bits clear. -/
def loadElement (p : Nat) (b : Bytes) : Term × Option Nat :=
  match (List.range p).find? (fun j => !slotOk ((b.drop (24 * j)).take 24)) with
  | some j => ({ cls := 3, cause := 3 }, some j)
  | none => (unpackTerm ((List.range p).map (fun j => slotEntry j ((b.drop (24 * j)).take 24))), none)

/-- Slots of a saved element that fail their comparison: what SkeinSlotCheckFailures counts (R77, R86). -/
def slotFailCount (p : Nat) (b : Bytes) : Nat :=
  ((List.range p).filter (fun j => !slotOk ((b.drop (24 * j)).take 24))).length

/-- The saved element of a window value. -/
def termBytes (p : Nat) (t : Term) : Bytes := elementBytes (packTerm p t)

/-- floor(log2 |v|) of a finite non-zero window value: its part of a saved tensor's tag (R74). -/
def termTag (lsb : Int) (t : Term) : Option Int :=
  if t.cls = 0 && decide (t.v ≠ 0) then some (Nat.log2 t.v.natAbs + lsb) else none

def termPresence (t : Term) : Nat :=
  match t.cls with
  | 0 => 0
  | 1 => 2
  | 2 => 4
  | _ => 1

/-- The larger of two exponent tags, none for a tensor without a finite non-zero element (R35). -/
def maxTag (a b : Option Int) : Option Int :=
  match a, b with
  | none, b => b
  | a, none => a
  | some x, some y => some (max x y)

/-- A tag as the 16-bit header field (R35). -/
def tagBits (t : Option Int) : Nat :=
  match t with
  | none => 0x8000
  | some x => ofSigned 16 x

/-! ### Row and register tags (R59, R125) -/

def mkTag (lsb cls ply pos : Nat) : BitVec 32 :=
  BitVec.ofNat 32 (lsb % 65536 + cls * 65536 + ply * 2 ^ 18 + pos * 2 ^ 21 + 2 ^ 24)

def tagValid (t : BitVec 32) : Bool := bitAt t.toNat 24

/-- The plies and the position that a tag carries (R59). -/
def tagPly (t : BitVec 32) : Nat := bitsAt t.toNat 18 3
def tagPos (t : BitVec 32) : Nat := bitsAt t.toNat 21 3

/-- A tag without its valid bit. -/
def tagOff (t : BitVec 32) : BitVec 32 := t &&& 0xFEFFFFFF#32

/-! ### Descriptor fields (R89) -/

def dSeq (d : Bytes) : Nat := leAt d 0 8
def dOpcode (d : Bytes) : Nat := byteAt d 8
def dIrq (d : Bytes) : Bool := bitAt (byteAt d 9) 0
def dFence (d : Bytes) : Bool := bitAt (byteAt d 9) 1
def dReplay (d : Bytes) : Bool := bitAt (byteAt d 9) 2
def dRecompute (d : Bytes) : Bool := bitAt (byteAt d 9) 3
def dWatch (d : Bytes) : Bool := bitAt (byteAt d 9) 4
def dWaitVid (d : Bytes) : Nat := leAt d 10 2 % 4096
def dWaitEn (d : Bytes) : Bool := bitAt (leAt d 10 2) 15
def dSigVid (d : Bytes) : Nat := leAt d 12 2 % 4096
def dSigEn (d : Bytes) : Bool := bitAt (leAt d 12 2) 15
def dSigAmt (d : Bytes) : Nat := byteAt d 14
def dShape (d : Bytes) : Nat := byteAt d 15 % 64
def dRow (d : Bytes) : Nat := byteAt d 16
def dMExt (d : Bytes) : Nat := leAt d 18 2 % 512
def dNExt (d : Bytes) : Nat := leAt d 20 2 % 1024
def dClass (d : Bytes) : Nat := byteAt d 22 % 4
def dPly (d : Bytes) : Nat := byteAt d 22 / 4 % 8
def dLsb (d : Bytes) : Int := sAt d 24 2
def dBatch (d : Bytes) : Nat := leAt d 28 4
def dMOrg (d : Bytes) : Nat := leAt d 32 4
def dNOrg (d : Bytes) : Nat := leAt d 36 4
def dMBnd (d : Bytes) : Nat := leAt d 40 4
def dNBnd (d : Bytes) : Nat := leAt d 44 4
def dCStride (d : Bytes) : Nat := leAt d 48 2 % 512

/-- clamp(bound − origin, 0, extent) of R98. -/
def clampExt (bound origin ext : Nat) : Nat := min (bound - origin) ext

def dMEff (d : Bytes) : Nat := clampExt (dMBnd d) (dMOrg d) (dMExt d)
def dNEff (d : Bytes) : Nat := clampExt (dNBnd d) (dNOrg d) (dNExt d)

/-- Reserved bits of bytes 0 to 15, the same for the engine and vector headers (R89, R118). -/
def hdrReservedOk (d : Bytes) : Bool :=
  byteAt d 9 / 32 == 0 && leAt d 10 2 / 4096 % 8 == 0 && leAt d 12 2 / 4096 % 8 == 0

end Sys2Proof.Machine
end

