-- ==== Sys2Proof/Machine/Hash.lean ====
section
/-! DEFINITION. The hashes and the generator the spec names: SHA3-512 of FIPS 202 (R156, R167, R380), CRC-32C (R223, R270)
and Philox-4x32-10 (R239). -/

namespace Sys2Proof.Machine

/-! ### SHA3-512

The state is a list of 25 lanes. Rotation offsets and round constants are computed as FIPS 202 defines them: the offsets
along the walk (x, y) to (y, 2x + 3y), the constants from the register x^8 + x^6 + x^5 + x^4 + 1. -/

/-- The lane in column x of plane y, both taken mod 5. -/
def laneAt (a : List (BitVec 64)) (x y : Nat) : BitVec 64 := a.getD (x % 5 + 5 * (y % 5)) 0#64

/-- What theta adds to every lane of column x: the parities of the columns on its two sides. -/
def thetaOf (a : List (BitVec 64)) (x : Nat) : BitVec 64 :=
  let parity := fun u => (List.range 5).foldl (fun p y => p ^^^ laneAt a u y) 0#64
  parity (x + 4) ^^^ (parity (x + 1)).rotateLeft 1

/-- rho and pi together, n lanes of the walk from its step t at (x, y): the lane found there turns by the offset of the
step and goes to where the walk stands next. -/
def rhoPi (src : List (BitVec 64)) : Nat → Nat → Nat × Nat → List (BitVec 64) → List (BitVec 64)
  | 0, _, _, out => out
  | n + 1, t, (x, y), out =>
    let next := (y % 5, (2 * x + 3 * y) % 5)
    rhoPi src n (t + 1) next
      (out.set (next.1 + 5 * next.2) ((laneAt src x y).rotateLeft ((t + 1) * (t + 2) / 2 % 64)))

/-- The register of iota after one step. -/
def iotaNext (r : BitVec 8) : BitVec 8 := if r.msb then r <<< 1 ^^^ 0x71#8 else r <<< 1

/-- Bits j to 6 of a round's constant, bit j at place 2^j − 1, and the register after them. -/
def iotaBits : Nat → Nat → BitVec 8 → BitVec 64 × BitVec 8
  | 0, _, r => (0#64, r)
  | n + 1, j, r =>
    let more := iotaBits n (j + 1) (iotaNext r)
    ((if r.getLsbD 0 then more.1 ||| 1#64 <<< (2 ^ j - 1) else more.1), more.2)

/-- n rounds of Keccak-f[1600], the register of iota at r. -/
def keccak : Nat → BitVec 8 → List (BitVec 64) → List (BitVec 64)
  | 0, _, a => a
  | n + 1, r, a =>
    let mixed := a.mapIdx (fun i v => v ^^^ thetaOf a (i % 5))
    let moved := rhoPi mixed 24 0 (1, 0) mixed
    let iota := iotaBits 7 0 r
    keccak n iota.2 (moved.mapIdx (fun i v =>
      let chi := v ^^^ (~~~ laneAt moved (i + 1) (i / 5) &&& laneAt moved (i + 2) (i / 5))
      if i = 0 then chi ^^^ iota.1 else chi))

/-- The sponge of SHA3-512, which takes 72 bytes at a time, after `bs`, already padded to n such blocks. -/
def sponge : Nat → List (BitVec 64) → Bytes → List (BitVec 64)
  | 0, a, _ => a
  | n + 1, a, bs =>
    sponge n (keccak 24 1#8 (a.mapIdx (fun i v => if i < 9 then v ^^^ BitVec.ofNat 64 (leAt bs (8 * i) 8) else v)))
      (bs.drop 72)

/-- SHA3-512 of a byte string, 64 bytes (FIPS 202): suffix 01 and pad10*1, so a last byte 0x80 over a first pad byte 0x06. -/
def sha3 (bs : Bytes) : Bytes :=
  let blocks := bs.length / 72 + 1
  let padded := (bs ++ [0x06#8] ++ List.replicate (72 * blocks - bs.length - 1) 0#8)
  let full := padded.set (72 * blocks - 1) (byteAt padded (72 * blocks - 1) ||| 0x80#8)
  ((sponge blocks (List.replicate 25 0#64) full).take 8).flatMap (fun v => leBytes 8 v.toNat)

/-! ### CRC-32C -/

def crcBit : Nat → BitVec 32 → BitVec 32
  | 0, c => c
  | n + 1, c => crcBit n (if c.getLsbD 0 then (c >>> 1) ^^^ 0x82F63B78#32 else c >>> 1)

/-- CRC-32C (Castagnoli), reflected, initial value and final inversion all ones. -/
def crc32c (bs : Bytes) : BitVec 32 :=
  ~~~ (bs.foldl (fun c b => crcBit 8 (c ^^^ b.setWidth 32)) 0xFFFFFFFF#32)

/-! ### Philox-4x32-10 -/

/-- One round of Philox-4x32 on counter words c and key words k. -/
def philoxRound (c : Nat × Nat × Nat × Nat) (k : Nat × Nat) : Nat × Nat × Nat × Nat :=
  let p0 := 0xD2511F53 * c.1
  let p1 := 0xCD9E8D57 * c.2.2.1
  (Nat.xor (Nat.xor (p1 / 2 ^ 32) c.2.1) k.1, p1 % 2 ^ 32, Nat.xor (Nat.xor (p0 / 2 ^ 32) c.2.2.2) k.2, p0 % 2 ^ 32)

def philoxRounds : Nat → Nat × Nat × Nat × Nat → Nat × Nat → Nat × Nat × Nat × Nat
  | 0, c, _ => c
  | n + 1, c, k =>
    philoxRounds n (philoxRound c k) ((k.1 + 0x9E3779B9) % 2 ^ 32, (k.2 + 0xBB67AE85) % 2 ^ 32)

/-- The four words of Philox-4x32-10 for a counter and a key. -/
def philox (c0 c1 c2 c3 k0 k1 : Nat) : List Nat :=
  let r := philoxRounds 10 (c0, c1, c2, c3) (k0, k1)
  [r.1, r.2.1, r.2.2.1, r.2.2.2]

/-- The Philox word of an element (R239). -/
def philoxWord (seed tensor step stream lin : Nat) : Nat :=
  let l := lin % 2 ^ 48
  (philox (l / 4 % 2 ^ 32) (l / 2 ^ 34 + stream * 2 ^ 14) step tensor (seed % 2 ^ 32) (seed / 2 ^ 32)).getD (l % 4) 0

end Sys2Proof.Machine
end

