-- ==== Sys2Proof/Machine/Ops.lean ====
section
/-! DEFINITION. Operations every family shares: the parts of State by key, interrupt events (R365 to R371), emergency
messages (R356, R357), fault records and Ephemeris events (R380 to R386). -/

namespace Sys2Proof.Machine

/-- An idle step: CLKC counts once (R382; DESIGN CHOICE, log entry 2). -/
def idle (s : State) : State := { s with clkc := s.clkc + 1 }

/-! ### Parts of the state by key -/

def State.core (s : State) (g : Nat) : Core := smGet {} s.cores g
def State.setCore (s : State) (g : Nat) (c : Core) : State := { s with cores := smSet {} s.cores g c }
def State.ctx (s : State) (x : Nat) : Context := smGet {} s.contexts x
def State.setCtx (s : State) (x : Nat) (c : Context) : State := { s with contexts := smSet {} s.contexts x c }
def State.ctr (s : State) (p : Nat) : Counter := smGet {} s.counters p
def State.setCtr (s : State) (p : Nat) (c : Counter) : State := { s with counters := smSet {} s.counters p c }

/-- Logical core g is present (R23). -/
def State.present (s : State) (g : Nat) : Bool := decide (smGet 0 s.slotMap g ≠ 0)

/-- The physical slot of a present logical core (R25). -/
def State.slotOf (s : State) (g : Nat) : Nat := smGet 0 s.slotMap g - 1

/-- The ring of one unit of a core. -/
def Core.unit (c : Core) (u : UnitKind) : UnitRing :=
  match u with
  | .engine => c.engine
  | .vector => c.vector
  | .dma => c.dma

def Core.setUnit (c : Core) (u : UnitKind) (r : UnitRing) : Core :=
  match u with
  | .engine => { c with engine := r }
  | .vector => { c with vector := r }
  | .dma => { c with dma := r }

/-- A message sent by the block. -/
def State.send (s : State) (o : Output) : State := { s with out := o :: s.out }

/-- A free value is drawn: the draw counter advances. -/
def State.draw (s : State) : State := { s with draws := s.draws + 1 }

/-! ### Unit codes (R20) -/

/-- A unit code of a core at a level in physical-slot form (form 1) or logical form (form 0). -/
def unitCode (level form die cluster core lane cell : Nat) : Nat :=
  level * 2 ^ 60 + form * 2 ^ 59 + die * 2 ^ 55 + cluster * 2 ^ 51 + core * 2 ^ 47 + lane * 2 ^ 38 + cell

/-- The unit code of a stack, channel, port, I/O die, metering die or Drinex link (levels 8 to 13). -/
def unitIndexed (level index : Nat) : Nat := level * 2 ^ 60 + index * 2 ^ 48

/-- The core of global core ID g in physical-slot form. -/
def State.coreUnit (s : State) (g : Nat) : Nat := unitCode 4 1 (g / 96) (g / 8 % 12) (s.slotOf g) 0 0

def unitLevel (u : Nat) : Nat := bitsAt u 60 4
def unitForm (u : Nat) : Nat := bitsAt u 59 1
def unitDie (u : Nat) : Nat := bitsAt u 55 1
def unitCluster (u : Nat) : Nat := bitsAt u 51 4
def unitCore (u : Nat) : Nat := bitsAt u 47 4
def unitIndex (u : Nat) : Nat := bitsAt u 48 8

/-- A unit code without reserved values or out-of-range fields (R20). -/
def unitCodeOk (u : Nat) : Bool :=
  let l := unitLevel u
  let coreOk := decide (unitCore u ≤ 7 + unitForm u)
  let low (n : Nat) := decide (bitsAt u 0 n = 0)
  bitsAt u 56 3 == 0 &&
  match l with
  | 1 => decide (unitCluster u < 12) && coreOk &&
      (match bitsAt u 36 2 with
       | 0 => decide (bitsAt u 20 8 < 136) && low 20
       | 1 => decide (bitsAt u 38 9 = 0) && decide (bitsAt u 27 9 = 0)
       | 2 => decide (bitsAt u 38 9 = 0) && decide (bitsAt u 32 4 = 0)
       | _ => false)
  | 2 => decide (unitCluster u < 12) && coreOk && low 38
  | 3 => decide (unitCluster u < 12) && coreOk && low 47
  | 4 => decide (unitCluster u < 12) && coreOk && low 47
  | 5 => decide (unitCluster u < 12) && unitForm u == 0 && low 51
  | 6 => unitForm u == 0 && low 55
  | 7 => unitForm u == 0 && low 56
  | 8 => unitForm u == 0 && decide (unitIndex u < 12) && low 48
  | 9 => unitForm u == 0 && decide (unitIndex u < 8) && low 48
  | 10 => unitForm u == 0 && decide (unitIndex u < 64) && low 48
  | 11 => unitForm u == 0 && decide (unitIndex u < 2) && low 48
  | 12 => low 60
  | 13 => low 60
  | _ => false

/-- The sensor that reads hottest, the lowest-numbered of equals (R472). -/
def hottestSensor (temps : List (BitVec 16)) : Nat :=
  ((List.range temps.length).foldl (fun best i =>
    if decide ((temps.getD best 0#16).toInt < (temps.getD i 0#16).toInt) then i else best) 0)

/-- sensor_index and rail of a unit (R472). -/
def unitSensorRail (temps : List (BitVec 16)) (u : Nat) : Nat × Nat :=
  let d := unitDie u
  let i := unitIndex u
  match unitLevel u with
  | 1 => (d * 12 + unitCluster u, 4 + d)
  | 2 | 3 | 4 | 5 => (d * 12 + unitCluster u, 2 + d)
  | 6 => (44 + 4 * d, 2 + d)
  | 7 => (hottestSensor temps, 1)
  | 8 => (24 + i, if i < 6 then 0x0A else 0x0B)
  | 9 => (60 + 2 * (i / 4) + i % 4 / 2, 0x0C + i / 4)
  | 10 => (36 + 4 * (i / 4 % 2) + i / 16, 8 + i / 4 % 2)
  | 11 => (36 + 4 * i, 6 + i)
  | 12 => (0xFF, 1)
  | 13 => (36, 8)
  | _ => (0xFF, 0)

/-! ### Transactions to the host (R327, R328) -/

def State.linkUp (s : State) : Bool := decide (s.drinex.st = 2) || decide (s.drinex.st = 3)

/-- Credits left for a class the module sends in: 0 P, 2 C, 3 E. -/
def Drinex.credit (d : Drinex) (cls : BitVec 2) : Nat :=
  match cls.toNat with
  | 0 => d.creditP
  | 2 => d.creditC
  | 3 => d.creditE
  | _ => 0

def Drinex.addCredit (d : Drinex) (cls : BitVec 2) (n : Int) : Drinex :=
  let f (c : Nat) : Nat := ((c : Int) + n).toNat
  match cls.toNat with
  | 0 => { d with creditP := f d.creditP }
  | 2 => { d with creditC := f d.creditC }
  | 3 => { d with creditE := f d.creditE }
  | _ => d

/-- Slots that the module frees of a transaction of the adapter's: one for the header, and those of its data (R324, R328). -/
def Drinex.freed (d : Drinex) (cls : BitVec 2) (bytes : Nat) : Drinex :=
  let n := 1 + ceilDiv bytes 16
  match cls.toNat with
  | 0 => { d with owedP := d.owedP + n }
  | 1 => { d with owedN := d.owedN + n }
  | 3 => { d with owedE := d.owedE + n }
  | _ => d

/-- Slots of some class are to be returned. -/
def Drinex.owes (d : Drinex) : Bool := decide (d.owedP ≠ 0) || decide (d.owedN ≠ 0) || decide (d.owedE ≠ 0)

/-- A flit that goes out returns the slots owed, at most 255 of a class (R323, R328). -/
def returnCredits (s : State) : State :=
  let d := s.drinex
  if !d.owes then s
  else { s with drinex := { d with owedP := d.owedP - 255, owedN := d.owedN - 255, owedE := d.owedE - 255 }
                out := .drinexCredits (min d.owedP 255) (min d.owedN 255) (min d.owedE 255) :: s.out }

/-- A transaction of some slots is placed in flits: the receiver's credits cover it, and the window of 512 unacknowledged
flits has room for the flits it fills (R324, R325, R328). -/
def Drinex.fits (d : Drinex) (cls : BitVec 2) (slots : Nat) : Bool :=
  decide (slots ≤ d.credit cls) && decide (d.replay.length + ceilDiv slots 15 ≤ 512)

def Drinex.place (d : Drinex) (cls : BitVec 2) (slots : Nat) : Drinex :=
  let n := ceilDiv slots 15
  let d := d.addCredit cls (-(slots : Int))
  { d with replay := d.replay ++ (List.range n).map (fun i => d.txNext + BitVec.ofNat 12 i)
           txNext := d.txNext + BitVec.ofNat 12 n, ackDue := false }

/-- The oldest waiting transaction of a class leaves the queue. -/
def takeFirst (cls : BitVec 2) : List (BitVec 2 × Nat × Output) → Option ((Nat × Output) × List (BitVec 2 × Nat × Output))
  | [] => none
  | w :: ws =>
    if w.1 = cls then some (w.2, ws) else (takeFirst cls ws).map (fun r => (r.1, w :: r.2))

/-- The oldest transaction that may go out, class E first (R327). -/
def Drinex.nextTxn (d : Drinex) : Option (BitVec 2 × (Nat × Output) × List (BitVec 2 × Nat × Output)) :=
  [3#2, 0#2, 2#2].findSome? (fun c => match takeFirst c d.waiting with
    | some r => if d.fits c r.1.1 then some (c, r) else none
    | none => none)

/-- An INTR carries the CLKC count at its sending (R326). -/
def stamp (t : BitVec 64) (o : Output) : Output :=
  match o with
  | .intr v _ => .intr v t
  | o => o

/-- Transactions go out while the link is up and they fit; the first number bounds them. -/
def drainTxns : Nat → State → State
  | 0, s => s
  | n + 1, s =>
    if !s.linkUp then s
    else match s.drinex.nextTxn with
      | none => s
      | some (c, (slots, o), rest) =>
        drainTxns n (returnCredits { s with drinex := { s.drinex with waiting := rest }.place c slots, out := stamp s.clkc o :: s.out })

/-- A transaction to the adapter, of one header slot and the slots of its data. -/
def sendTxn (s : State) (cls : BitVec 2) (bytes : Nat) (o : Output) : State :=
  let s := { s with drinex := { s.drinex with waiting := s.drinex.waiting ++ [(cls, 1 + ceilDiv bytes 16, o)] } }
  drainTxns s.drinex.waiting.length s

/-! ### Interrupts (15) -/

/-- An INTR goes out, or is held, once for each vector, while the link is not up or the module is in Boot/Limited (R332, R333). -/
def sendIntr (s : State) (v : BitVec 6) : State :=
  if s.linkUp && decide (s.device ≠ .bootLimited) then sendTxn s 0 0 (.intr v s.clkc)
  else if s.drinex.heldIntr.contains v then s
  else { s with drinex := { s.drinex with heldIntr := s.drinex.heldIntr ++ [v] } }

/-- Held INTRs go out once the link is up and the module in Service (R332, R333). -/
def releaseIntr (s : State) : State :=
  if s.linkUp && decide (s.device ≠ .bootLimited) then
    s.drinex.heldIntr.foldl sendIntr { s with drinex := { s.drinex with heldIntr := [] } }
  else s

/-- A destination delivers: its count returns to 0 and its timer stops; a host vector sends one INTR, or holds it while
the link is not up; a local line sets line_status unless its core is absent (R333, R369, R371). -/
def deliver (s : State) (dest : Nat) : State :=
  let d : IrqDest := smGet {} s.dests dest
  let d := { d with count := 0, started := none, deliveries := satAdd d.deliveries 1 }
  let s := { s with dests := smSet {} s.dests dest d }
  if dest < 64 then sendIntr s (BitVec.ofNat 6 dest)
  else if s.present (dest - 0x1000) then
    s.setCore (dest - 0x1000) { s.core (dest - 0x1000) with line := true }
  else s

/-- A destination delivers if its count or its timer has reached its limit: 300 CLKM, or 1,200 CLKC, cycles to the
microsecond (R371). -/
def deliverIfDue (s : State) (dest : Nat) : State :=
  let d : IrqDest := smGet {} s.dests dest
  let timed := match d.started with
    | some t => decide (d.limitUs.toNat * 1200 ≤ (s.clkc - t).toNat)
    | none => false
  if decide (0 < d.count.toNat) && (decide (d.limitCount.toNat ≤ d.count.toNat) || timed) then deliver s dest else s

/-- An event at a destination: its count rises, the timer starts at the first, and the destination delivers once the count
reaches its limit (R370, R371). -/
def destEvent (s : State) (dest : Nat) : State :=
  let d : IrqDest := smGet {} s.dests dest
  deliverIfDue { s with dests := smSet {} s.dests dest { d with
    count := satAdd d.count 1, started := if d.count = 0 then some s.clkc else d.started } } dest

/-- The core a per-core source belongs to (R366). -/
def sourceCore (n : Nat) : Option Nat := if n < 0x300 then some (n % 0xC0) else none

/-- Source n is never raised: reserved, or of an absent core (R366). -/
def State.sourceDead (s : State) (n : Nat) : Bool :=
  decide (0x392 ≤ n) || (match sourceCore n with
                          | some g => !s.present g
                          | none => false)

/-- A source's event: the pending bit is set, and a 0 to 1 change of an enabled source counts at its destination
(R365, R370). -/
def raise (s : State) (n : Nat) : State :=
  let q : IrqSource := smGet {} s.sources n
  if s.sourceDead n || q.pending then s
  else
    let s := { s with sources := smSet {} s.sources n { q with pending := true } }
    if q.enabled then destEvent s q.route.toNat else s

/-! ### Emergency messages (R356, R357) -/

/-- Error register bit of an EMCY code (R356). -/
def emcyBit (code : Nat) : Nat :=
  match code with
  | 0x3120 | 0x3220 => 4
  | 0x4210 => 8
  | 0x8110 | 0x8120 | 0x8140 | 0xFF03 => 16
  | 0x5000 | 0x6100 | 0xFF01 | 0xFF02 => 128
  | _ => 0

/-- The COB-ID of EMCYs: its default is 0x80 plus the node ID (R362). -/
def Dict.emcyId (d : Dict) : BitVec 32 :=
  match d.cobIdEmcy with
  | some v => v
  | none => 0x80#32 + d.nodeId.setWidth 32

/-- The node sends EMCYs: Pre-operational or Operational, a node ID configured, on the bus, COB-ID not disabled (R351, R356;
DEDUCED, log entry 97). -/
def State.emcyOn (s : State) : Bool :=
  decide (s.device ≠ .quiesced) && decide (s.dict.nodeId ≠ 0xFF#8) && decide (s.dict.busState ≠ 2) &&
  !(s.dict.emcyId.getLsbD 31)

def emcyBytes (m : Emcy) : Bytes :=
  leBytes 2 m.code.toNat ++ leBytes 1 m.reg.toNat ++ leBytes 8 m.unit.toNat ++ leBytes 8 m.time.toNat

/-- An EMCY is sent, or waits in the queue of 16 for the inhibit time, or is dropped and counted (R357). -/
def emcyOut (s : State) (m : Emcy) : State :=
  if !s.emcyOn then s
  else if s.dict.emcyHeld then
    if s.dict.emcyQueue.length < 16 then { s with dict := { s.dict with emcyQueue := s.dict.emcyQueue ++ [m] } }
    else { s with dict := { s.dict with emcyDropped := satAdd s.dict.emcyDropped 1 } }
  else
    { s with out := .can (s.dict.emcyId.setWidth 11) (emcyBytes m) :: s.out
             dict := { s.dict with emcyHeld := decide (s.dict.inhibitEmcy ≠ 0) } }

/-- An emergency event: the error register takes its bit, the history its entry, and the message goes out (R356). -/
def emcy (s : State) (code unit : Nat) : State :=
  let bit := emcyBit code
  let reg := s.dict.errorRegister ||| BitVec.ofNat 8 bit ||| (if bit = 0 then 0 else 1)
  let s := { s with dict := { s.dict with errorRegister := reg } }
  if s.emcyOn then
    let e := BitVec.ofNat 32 (code + reg.toNat * 2 ^ 16)
    emcyOut { s with dict := { s.dict with history := (e :: s.dict.history).take 8 } }
      { code := BitVec.ofNat 16 code, reg := reg, unit := BitVec.ofNat 64 unit, time := s.clkc }
  else s

/-- Planes of the fabric with an up port (R267). -/
def Fabric.planeUp (f : Fabric) (k : Nat) : Bool :=
  (List.range 8).any (fun i => decide ((smGet ({} : Port) f.ports (k * 8 + i)).st = 2))

/-- A condition that set a bit of the error register still holds (R356; DEDUCED, log entry 12). -/
def State.errorHolds (s : State) : Bool :=
  s.power.inputWarn || s.power.dips.any (fun d => d.2.low) || s.power.hot0 || s.power.hot1 ||
  decide (s.dict.busState = 1) || decide (s.dict.busState = 2) || s.dict.pairMismatch || decide (s.fabric.lostPlanes ≠ 0) ||
  (List.range 192).any (fun g => !s.present g)

/-- A condition has cleared: with none left the register clears and EMCY 0x0000 is sent (R356). -/
def emcyClear (s : State) : State :=
  if s.errorHolds || s.dict.errorRegister = 0 then s
  else emcyOut { s with dict := { s.dict with errorRegister := 0 } }
    { code := 0, reg := 0, unit := 0, time := s.clkc }

/-! ### Ephemeris (R384 to R386) -/

/-- Operating time in sixths of an hour, the grain of the checkpoints (R386). -/
def Reliability.now (r : Reliability) : Nat := r.hours * 6 + r.sixths

/-- An entry written at the end of the log; a full block is followed by an erased one (R384, R385). -/
def Reliability.append (r : Reliability) (entry : Bytes) : Reliability :=
  match r.flashBlocks.reverse with
  | b :: older =>
    if b.length < 1023 then { r with flashBlocks := (older.reverse) ++ [b ++ [entry]] }
    else { r with flashBlocks := r.flashBlocks ++ [[entry]], flashErased := r.flashErased - 1 }
  | [] => { r with flashBlocks := [[entry]], flashErased := r.flashErased - 1 }

/-- An entry appended to the log in flash; beyond 64 entries in one second it is counted as dropped (R385). `sec` is the
second of operation. -/
def Reliability.log (r : Reliability) (sec : Nat) (entry : Bytes) : Reliability :=
  let inSec := if r.logSecond = sec then r.logInSecond else 0
  if inSec ≥ 64 then { r with dropped := satAdd r.dropped 1, logSecond := sec, logInSecond := inSec }
  else { r with logSecond := sec, logInSecond := inSec + 1 }.append entry

/-- The second of operation at a CLKC count; CLKC runs at 1.2 GHz (R435). -/
def clkcSecond (t : BitVec 64) : Nat := t.toNat / 1200000000

/-- The verdict history of a key. -/
def Reliability.history (r : Reliability) (k : EphKey) : EphHistory :=
  match r.histories.find? (fun h => decide (h.key = k)) with
  | some h => h
  | none => { key := k, events := [], verdict := 0 }

def Reliability.setHistory (r : Reliability) (h : EphHistory) : Reliability :=
  { r with histories := h :: r.histories.filter (fun x => decide (x.key ≠ h.key)) }

/-- Some key of the unit is permanent (R386). -/
def Reliability.permanentUnit (r : Reliability) (unit : BitVec 64) : Bool :=
  r.histories.any (fun h => decide (h.key.unit = unit) && h.verdict == 3)

/-- A counted event at a key: window, verdict after it and events in the window, and whether the verdict became suspect
(R386). -/
def ephEvent (r : Reliability) (k : EphKey) : Reliability × Nat × Nat × Bool :=
  let h := r.history k
  let ev := r.now :: h.events.filter (fun t => decide (r.now < t + 144))
  if r.permanentUnit k.unit then (r.setHistory { h with events := ev, verdict := max h.verdict 3 }, 3, ev.length, false)
  else
    let v := if h.verdict = 2 then 2 else if ev.length ≥ 3 then 2 else 1
    (r.setHistory { h with events := ev, verdict := v }, v, ev.length, decide (v = 2) && decide (h.verdict ≠ 2))

/-! ### Fault records (R380 to R383) -/

/-- What a fault record says besides time, sensors and verdict (R380, R381). -/
structure FaultNote where
  unit   : Nat := 0
  seq    : Nat := 2 ^ 64 - 1
  opcode : Nat := 0
  src    : Nat := 0
  ctx    : Nat := 0xFF
  queue  : Nat := 0
  sev    : Nat
  cls    : Nat
  key    : Nat := 0
  syn    : Bytes := []
deriving DecidableEq, Repr

/-- Classes that Ephemeris counts (R381). -/
def countedClass (c : Nat) : Bool := [1, 2, 3, 4, 5, 0x0B].contains c

/-- The Ephemeris key of a note: for memory classes with the 4 KiB granule of the address (R386). -/
def FaultNote.ephKey (n : FaultNote) : EphKey :=
  { unit := BitVec.ofNat 64 n.unit, cls := BitVec.ofNat 8 n.cls, key := BitVec.ofNat 16 n.key
    granule := if n.cls = 1 ∨ n.cls = 2 then some (leAt n.syn 0 8 / 4096) else none }

/-- A 64-byte record in the layout of R380. -/
def recordBytes (unit seq opcode src ctx queue time epoch temp sensor rail volt sev cls key : Nat) (syn : Bytes)
    (verdict window : Nat) : Bytes :=
  let body := leBytes 8 unit ++ leBytes 8 seq ++ leBytes 1 opcode ++ leBytes 1 src ++ leBytes 1 ctx ++ leBytes 1 queue ++
    leBytes 8 time ++ leBytes 4 epoch ++ leBytes 2 temp ++ leBytes 1 sensor ++ leBytes 1 rail ++ leBytes 2 volt ++
    leBytes 1 sev ++ leBytes 1 cls ++ leBytes 2 key ++ padTo 14 syn ++ leBytes 1 verdict ++ leBytes 1 (min window 255) ++
    [0#8, 0#8]
  body ++ (sha3 body).take 4

/-- An Ephemeris entry: a record layout whose class byte is 0xF1 to 0xF4 (R384). -/
def ephEntry (s : State) (cls unit key verdict window : Nat) (syn : Bytes) : Bytes :=
  recordBytes unit (2 ^ 64 - 1) 0 9 0xFF 0 s.clkc.toNat s.rel.epoch.toNat 0x8000 0xFF 0 0 0 cls key syn verdict window

/-- The record of a note at this moment, with the sensor, rail and voltage of its unit (R380, R472). The voltage is
measured: a free value. -/
def faultBytes (s : State) (n : FaultNote) (verdict window : Nat) : Bytes :=
  let sr := unitSensorRail s.power.temps n.unit
  let sensor := if n.unit = 0 then 0xFF else sr.1
  let rail := if n.unit = 0 then 0 else sr.2
  let temp := if sensor = 0xFF then 0x8000 else (s.power.temps.getD sensor 0#16).toNat
  let volt := if rail = 0 then 0 else (Config.railMillivolts rail s.draws).toNat
  recordBytes n.unit n.seq n.opcode n.src n.ctx n.queue s.clkc.toNat s.rel.epoch.toNat temp sensor rail volt
    n.sev n.cls n.key n.syn verdict window

/-- A record enters the ring of 1,024 and the log; source 0x380, and EMCY 0x5000 by severity (R383). -/
def writeRecord (s : State) (n : FaultNote) (verdict window : Nat) : State :=
  let b := faultBytes s n verdict window
  let r := s.rel
  let full := decide (r.records.length ≥ 1024)
  let r := { r with
    records := if full then r.records.drop 1 ++ [b] else r.records ++ [b]
    recordCount := r.recordCount + 1
    oldest := if full then r.oldest + 1 else r.oldest }
  let s := raise { s with rel := r.log (clkcSecond s.clkc) b, draws := s.draws + 1 } 0x380
  if s.dict.severityMin.toNat ≤ n.sev then emcy s 0x5000 n.unit else s

/-- A record of class 0x01 at this key was written within CorrectedRecordIntervalS (R383). -/
def State.ceRecent (s : State) (k : EphKey) : Bool :=
  s.rel.recentCe.any (fun p => decide (p.1 = k) &&
    decide (s.clkc.toNat < p.2.toNat + s.rel.intervalS.toNat * 1200000000))

/-- A fault is recorded: Ephemeris counts it where its class is counted, and the record is written unless R383 holds back
a corrected error. -/
def fault (s : State) (n : FaultNote) : State :=
  if countedClass n.cls then
    let k := n.ephKey
    let (r, v, w, sus) := ephEvent s.rel k
    let s := { s with rel := r }
    let s :=
      if n.cls = 1 then
        if s.ceRecent k then s
        else writeRecord { s with rel := { s.rel with
          recentCe := (k, s.clkc) :: s.rel.recentCe.filter (fun p => decide (p.1 ≠ k)) } } n v w
      else writeRecord s n v w
    if sus then
      raise { s with rel := s.rel.log (clkcSecond s.clkc) (ephEntry s 0xF1 n.unit n.key v w n.syn) } 0x381
    else s
  else writeRecord s n 0 0

end Sys2Proof.Machine
end

