-- ==== Sys2Proof/Machine/Transit.lean ====
section
/-! DEFINITION. Trees and frames of the Transit lane (R295, R296, R305 to R307). -/

namespace Sys2Proof.Machine

/-- The module's own ID, 0 while it has none. -/
def State.me (s : State) : Nat :=
  match s.fabric.moduleId with
  | some m => m.toNat
  | none => 0

/-! ### Groups and trees (R295, R296) -/

/-- The root of a group in a tree: rank 0 in tree 0, the last rank in tree 1. -/
def isTreeRoot (tree : Nat) (group : List Nat) (m : Nat) : Bool :=
  if tree = 0 then group.head? == some m else group.getLast? == some m

/-- Members that share rack and tray with m, by slot. -/
def trayGroup (members : List Nat) (m : Nat) : List Nat := members.filter (fun k => k / 8 == m / 8)

/-- The tree's tray roots in the rack of m, by tray. -/
def rackGroup (tree : Nat) (members : List Nat) (m : Nat) : List Nat :=
  members.filter (fun k => k / 64 == m / 64 && isTreeRoot tree (trayGroup members k) k)

/-- The tree's rack roots, by rack. -/
def hallGroup (tree : Nat) (members : List Nat) : List Nat :=
  members.filter (fun k => isTreeRoot tree (trayGroup members k) k && isTreeRoot tree (rackGroup tree members k) k)

/-- The stages at which m takes part in a tree, with its group there. -/
def stagesOf (tree : Nat) (members : List Nat) (m : Nat) : List (Nat × List Nat) :=
  let t := trayGroup members m
  let r := rackGroup tree members m
  (1, t) :: (if isTreeRoot tree t m then
    (2, r) :: (if isTreeRoot tree r m then [(3, hallGroup tree members)] else []) else [])

/-- The parent of m within a group. -/
def parentIn (tree : Nat) (group : List Nat) (m : Nat) : Option Nat :=
  match group.findIdx? (· == m) with
  | none => none
  | some r =>
    let g := group.length
    let q := if tree = 0 then r else g - 1 - r
    if q = 0 then none
    else
      let a := (q - 1) / 2
      group[if tree = 0 then a else g - 1 - a]?

/-- The children of m within a group, by rank. -/
def childrenIn (tree : Nat) (group : List Nat) (m : Nat) : List Nat :=
  group.filter (fun k => parentIn tree group k == some m)

/-- The parent of m in a tree and the stage of the link; none at the root. -/
def treeParent (tree : Nat) (members : List Nat) (m : Nat) : Option (Nat × Nat) :=
  (stagesOf tree members m).findSome? (fun g => (parentIn tree g.2 m).map (fun p => (g.1, p)))

/-- The children of m in a tree with the stage of each link, in stage order and then in rank order (R303). -/
def treeChildren (tree : Nat) (members : List Nat) (m : Nat) : List (Nat × Nat) :=
  (stagesOf tree members m).flatMap (fun g => (childrenIn tree g.2 m).map (fun c => (g.1, c)))

/-! ### Communicators -/

/-- The context that holds a communicator, and its record (R287). -/
def State.commOf (s : State) (comm : BitVec 32) : Option (Nat × Comm) :=
  s.contexts.findSome? (fun c => match c.2.plan with
    | none => none
    | some p => (p.comms.find? (fun k => decide (k.commId = comm))).map (fun k => (c.1, k)))

/-! ### Frames (R305, R307) -/

end Sys2Proof.Machine

namespace Sys2Proof
open Machine

/-- The bytes that the CRC of a frame covers: its 16-byte header and its payload (R305). -/
def Frame.bytes (f : Frame) : Bytes :=
  leBytes 1 (f.typ.toNat + 128) ++
  leBytes 1 (boolNat f.retransmit + 2 * (f.payload.length / 8) + 32 * f.round.toNat) ++
  leBytes 2 f.dst.toNat ++ leBytes 2 f.src.toNat ++ leBytes 4 f.comm.toNat ++ leBytes 4 f.seq.toNat ++
  leBytes 1 (f.stage.toNat + 4 * f.tree.toNat + 8 * f.attempt.toNat) ++
  leBytes 1 (f.index.toNat + 8 * boolNat f.last) ++ f.payload

/-- The frame with the CRC of its bytes, and whether the CRC it carries is that one. -/
def Frame.sealed (f : Frame) : Frame := { f with crc := crc32c f.bytes }
def Frame.crcOk (f : Frame) : Bool := decide (f.crc = crc32c f.bytes)

end Sys2Proof

namespace Sys2Proof.Machine

/-- The plane of a frame sent for the (k + 1)-th time: plane n mod 8 or, where that one is not in service, the next one that
is; each resend takes the next plane in service. None when no plane is in service (R307; DEDUCED, log entry 136). -/
def framePlane (f : Fabric) (n k : Nat) : Option Nat :=
  let up := ((List.range 8).map (fun i => (n + i) % 8)).filter f.planeUp
  up[k % up.length]?

/-- A frame put on the wire for the (k + 1)-th time. -/
def sendFrame (s : State) (f : Frame) (k : Nat) : State :=
  match framePlane s.fabric (f.comm.toNat + f.seq.toNat + f.index.toNat) k with
  | some p => s.send (.frame p (Frame.sealed { f with retransmit := decide (0 < k) }))
  | none => s

/-- A frame of this module; it is sealed as it goes out. -/
def mkFrame (s : State) (typ round dst : Nat) (comm seq : BitVec 32) (stage tree attempt index : Nat) (last : Bool)
    (payload : Bytes) : Frame :=
  { typ := BitVec.ofNat 6 typ, retransmit := false, round := BitVec.ofNat 3 round
    dst := BitVec.ofNat 14 dst, src := BitVec.ofNat 14 s.me, comm := comm, seq := seq, stage := BitVec.ofNat 2 stage
    tree := BitVec.ofNat 1 tree, attempt := BitVec.ofNat 2 attempt, index := BitVec.ofNat 3 index, last := last
    payload := payload, crc := 0 }

/-- The same frame sent to every one of some links (stage, module). -/
def sendAllFrames (s : State) (links : List (Nat × Nat)) (f : Nat → Nat → Frame) : State :=
  links.foldl (fun s l => sendFrame s (f l.1 l.2) 0) s

/-! ### Multi-module barriers (R315) -/

/-- ABORT for a poisoned multi-module barrier, to the parent and the children (R194, R201, R315). -/
def barrierAbort (s : State) (comm gen : BitVec 32) (status : Nat) : State :=
  match s.commOf comm with
  | none => s
  | some (_, c) =>
    let links := (treeParent 0 c.members s.me).toList ++ treeChildren 0 c.members s.me
    sendAllFrames s links (fun st m => mkFrame s 3 4 m comm gen st 0 1 0 true (leBytes 8 status))

end Sys2Proof.Machine
end

