-- ==== Sys2Proof/Machine/SyncOps.lean ====
section
/-! DEFINITION. Shared operations on sync counters and barriers (08_synchronisation.md): translation, waiters, signals in both
modes, freezes, cancel marks, barrier rounds. -/

namespace Sys2Proof.Machine

/-! ### Translation (R182) -/

def State.transEntry (s : State) (x vid : Nat) : Nat := (smGet 0#64 (s.ctx x).trans vid).toNat
def trTarget (e : Nat) : Nat := bitsAt e 0 16
def trKind (e : Nat) : Nat := bitsAt e 16 2
def trValid (e : Nat) : Bool := bitAt e 18
def trPeerCtx (e : Nat) : Nat := bitsAt e 19 8
def trPeerMod (e : Nat) : Nat := bitsAt e 27 14

/-- An entry of the translation table. -/
def mkTrans (target kind peerCtx peerMod : Nat) : Nat :=
  target + kind * 2 ^ 16 + 2 ^ 18 + peerCtx * 2 ^ 19 + peerMod * 2 ^ 27

/-- The member index of an actor in a barrier (R198). -/
def memberIndex (a : Actor) : Nat :=
  match a with
  | .core .engine g _ => g.val
  | .core .vector g _ => 192 + g.val
  | .core .dma g _ => 384 + g.val
  | _ => 576

/-! ### Who a counter event concerns -/

/-- One fetched instruction of a unit changed. -/
def State.modEntry (s : State) (u : UnitKind) (g : Nat) (seq : BitVec 64) (f : WinEntry → WinEntry) : State :=
  let c := s.core g
  let r := c.unit u
  s.setCore g (c.setUnit u { r with window := mapWhere (fun e => decide (e.seq = seq)) f r.window })

/-- One queue of a context changed. -/
def Context.modQueue (c : Context) (q : Nat) (f : Queue → Queue) : Context :=
  { c with queues := smMod {} c.queues q f }

/-- One accepted host descriptor changed. -/
def State.modDesc (s : State) (x q : Nat) (seq : BitVec 64) (f : HostDesc → HostDesc) : State :=
  s.setCtx x ((s.ctx x).modQueue q (fun k => { k with descs := mapWhere (fun d => decide (d.seq = seq)) f k.descs }))

/-- The context, queue and seq of the host descriptor an actor works for. -/
def State.jobOf (s : State) (a : Actor) : Option (Nat × Nat × BitVec 64) :=
  match a with
  | .host x q seq => some (x.val, q.val, seq)
  | .core _ g _ =>
    match (s.core g).owner, (s.core g).job with
    | some x, some (q, seq) => some (x.val, q.val, seq)
    | _, _ => none
  | _ => none

/-- The host descriptor an actor works for meets a status (R187, R220). -/
def State.blame (s : State) (a : Actor) (status : BitVec 16) : State :=
  match s.jobOf a with
  | none => s
  | some (x, q, seq) => s.modDesc x q seq (fun d => { d with outcomes := d.outcomes ++ [status] })

/-- A waiter's wait is granted (R193). -/
def State.grantTo (s : State) (a : Actor) : State :=
  match a with
  | .core u g seq => s.modEntry u g seq (fun e => { e with granted := true, queued := false })
  | .host x q seq => s.modDesc x q seq (fun d => { d with granted := true, queued := false })
  | _ => s

/-- A waiter is released by a cancel mark: it completes with CANCELLED_DEPENDENCY (R194). -/
def State.cancelWaiter (s : State) (a : Actor) : State :=
  match a with
  | .core u g seq => s.modEntry u g seq (fun e => { e with cancelled := true, queued := false })
  | .host x q seq => s.modDesc x q seq (fun d => { d with cancelled := true, queued := false })
  | _ => s

/-- The hardware of a unit of a core that a record concerns, in physical-slot form: the lane of a residue mismatch in the
engine, else the engine, or the core for the vector unit and the DMA engine, which have no level of their own (R18, R20, R380;
log entry 119). -/
def State.hardwareOf (s : State) (u : UnitKind) (g : Nat) (n : FaultNote) : Nat :=
  match u with
  | .engine =>
    if n.cls = 4 then unitCode 2 1 (g / 96) (g / 8 % 12) (s.slotOf g) (leAt n.syn 0 8 % 512) 0
    else unitCode 3 1 (g / 96) (g / 8 % 12) (s.slotOf g) 0 0
  | .vector | .dma => s.coreUnit g

/-- Unit, op_seq, op_source, context and queue of an actor in a fault record (R380). -/
def State.noteOf (s : State) (a : Actor) (n : FaultNote) : FaultNote :=
  match a with
  | .core u g seq =>
    { n with unit := if n.unit = 0 then s.hardwareOf u g n else n.unit
             seq := seq.toNat
             src := match u with
                    | .engine => 1
                    | .vector => 2
                    | .dma => 3
             ctx := match (s.core g).owner with
                    | some x => x.val
                    | none => 0xFF }
  | .host x q seq => { n with seq := seq.toNat, src := 4, ctx := x.val, queue := q.val }
  | .command => { n with src := 6 }
  | .fabricAgent _ tag => { n with seq := tag.toNat, src := 5 }

/-! ### Counters -/

/-- d = P − C as a signed 64-bit value (R188). -/
def Counter.diff (c : Counter) : Int := (c.produced - c.consumed).toInt

/-- A wait would be granted: a credit in service mode, d > 0 in monotonic mode (R186, R188). -/
def Counter.eligible (c : Counter) : Bool :=
  if c.monotonic then decide (0 < c.diff) else decide (c.produced ≠ 0)

/-- Every waiter of a counter is released by its mark; those of a frozen counter take the freeze's status (R187, R194). -/
def releaseWaiters (s : State) (p : Nat) : State :=
  let c := s.ctr p
  let s := s.setCtr p { c with waiters := [] }
  c.waiters.foldl (fun s a =>
    let s := s.cancelWaiter a
    if c.frozen then s.blame a (if c.cause = 1 then 0x0301 else 0x0302) else s) s

/-- The counter takes a cancel mark (R194). -/
def markCounter (s : State) (p : Nat) : State :=
  releaseWaiters (s.setCtr p { s.ctr p with cancelled := true }) p

/-- A service-mode counter freezes: cause 1 underflow, 2 overflow (R187). -/
def freezeCounter (s : State) (p : Nat) (cause : Nat) (src : Actor) : State :=
  let c := s.ctr p
  let s := s.setCtr p { c with frozen := true, cancelled := true, cause := BitVec.ofNat 2 cause }
  let s := { s with syncFaults := satAdd s.syncFaults 1 }
  let s := fault s (s.noteOf src { sev := 3, cls := 6, key := cause, ctx := c.owner.toNat, syn := leBytes 2 p ++ leBytes 2 c.vid.toNat })
  let s := raise s 0x386
  releaseWaiters (s.blame src (if cause = 1 then 0x0301 else 0x0302)) p

/-- A signal of amount a reaches a counter (R186 to R189). A frozen counter discards it, counting the ones that came over
the fabric (R207). -/
def signalCounter (s : State) (p a : Nat) (src : Actor) (reserved : Bool) : State :=
  let c := s.ctr p
  if c.frozen then
    let s := s.blame src (if c.cause = 1 then 0x0301 else 0x0302)
    match src with
    | .fabricAgent _ _ => { s with tailDiscards := satAdd s.tailDiscards 1 }
    | _ => s
  else if c.monotonic then
    s.setCtr p { c with produced := c.produced + BitVec.ofNat 64 a
                        reserved := if reserved then c.reserved - BitVec.ofNat 32 a else c.reserved }
  else if c.produced.toNat + a > c.buffers.toNat then
    if a = 0 then s else freezeCounter s p 2 src
  else s.setCtr p { c with produced := c.produced + BitVec.ofNat 64 a }

/-- A snapshot in progress is complete: SnapshotDone and its source. An operation of the sync arrays, the queues, the journal, the
barriers or the collective tables that arrives meanwhile is applied after it (R236; log entry 150). -/
def endSnapshot (s : State) : State :=
  if s.queueObjs.snapBusy then raise { s with queueObjs := { s.queueObjs with snapBusy := false, snapDone := 1 } } 0x38E else s

/-- The reservation of a producer that completes without signalling is returned (R189). -/
def returnReserve (s : State) (p a : Nat) : State :=
  let c := s.ctr p
  s.setCtr p { c with reserved := c.reserved - BitVec.ofNat 32 a }

/-- A held signal that will not be sent gives its reservation back (R189, R395). -/
def returnHeld (s : State) (m : SignalMsg) : State :=
  if m.reserved then returnReserve s (trTarget (s.transEntry m.ctx.val m.vid.toNat)) m.amount.toNat else s

/-- A grant takes one credit (R186, R188) and releases the first waiter (R193). -/
def grantFirst (s : State) (p : Nat) : State :=
  let c := s.ctr p
  match c.waiters with
  | [] => s
  | a :: rest =>
    if c.frozen || c.cancelled || !c.eligible then s
    else
      let c := { c with waiters := rest, grants := c.grants + 1 }
      let c := if c.monotonic then { c with consumed := c.consumed + 1 } else { c with produced := c.produced - 1 }
      (s.setCtr p c).grantTo a

/-- A credit taken by an abandoned instruction is returned, applied as a signal (R114). -/
def returnCredit (s : State) (p : Nat) : State :=
  let s := s.setCtr p { s.ctr p with grants := (s.ctr p).grants - 1 }
  let c := s.ctr p
  if c.frozen then s
  else if c.monotonic then s.setCtr p { c with consumed := c.consumed - 1 }
  else signalCounter s p 1 .command false

/-- A waiter arrives at a counter; at a marked or frozen counter it is released at once (R187, R194, R197). -/
def arriveWaiter (s : State) (p : Nat) (a : Actor) : State :=
  let c := s.ctr p
  let s := s.setCtr p { c with waiters := c.waiters ++ [a] }
  if c.cancelled || c.frozen then releaseWaiters s p else s

/-! ### Barriers -/

def Context.modBarrier (c : Context) (slot : Nat) (f : Barrier → Barrier) : Context :=
  { c with barriers := smMod {} c.barriers slot f }

def State.barrier (s : State) (x slot : Nat) : Barrier := smGet {} (s.ctx x).barriers slot

def State.setBarrier (s : State) (x slot : Nat) (b : Barrier) : State :=
  s.setCtx x ((s.ctx x).modBarrier slot (fun _ => b))

/-- E0 holds every member (R199). -/
def Barrier.full (b : Barrier) : Bool := b.members.all (fun m => b.e0.contains m)

/-- Round G completes: the generation advances and E1 becomes E0 (R199). -/
def Barrier.advance (b : Barrier) : Barrier := { b with gen := b.gen + 1, e0 := b.e1, e1 := [] }

/-- The instructions and host descriptors of a context whose wait on a barrier has not been granted (R200). -/
def State.barrierWaiters (s : State) (x slot : Nat) : List Actor :=
  let names (vid : Nat) : Bool :=
    let t := s.transEntry x vid
    trValid t && trKind t == 2 && trTarget t == slot
  s.cores.flatMap (fun c =>
    if decide (c.2.owner.map (·.val) = some x) then
      [UnitKind.engine, .vector, .dma].flatMap (fun u => (c.2.unit u).window.filterMap (fun e =>
        if decide (e.phase = .waiting) && dWaitEn e.desc && !e.granted && !e.cancelled && names (dWaitVid e.desc) then
          some (.core u (Fin.ofNat 192 c.1) e.seq)
        else none))
    else []) ++
  (s.ctx x).queues.flatMap (fun k => k.2.descs.filterMap (fun d =>
    if decide (d.phase = .waiting) && dWaitEn d.bytes && !d.granted && !d.cancelled && names (dWaitVid d.bytes) then
      some (.host (Fin.ofNat 256 x) (Fin.ofNat 8 k.1) d.seq)
    else none))

/-- The member of an actor has an entry in E0 or E1 (R200). -/
def Barrier.inside (b : Barrier) (a : Actor) : Bool := b.e0.contains (memberIndex a) || b.e1.contains (memberIndex a)

/-- Waiters of a barrier whose member has no entry in E0 or E1 are granted (R200). -/
def releaseBarrier (s : State) (x slot : Nat) : State :=
  ((s.barrierWaiters x slot).filter (fun a => !(s.barrier x slot).inside a)).foldl (fun s a => s.grantTo a) s

/-- Round G of a multi-module barrier is complete at this node: its UPs are dropped and its generation advances (R315). -/
def completeRound (s : State) (x slot : Nat) : State :=
  let b := s.barrier x slot
  let ups := s.coll.barrierUps.filter (fun u => !(decide (some u.1 = b.comm) && decide (u.2.1 = b.gen)))
  releaseBarrier ({ s with coll := { s.coll with barrierUps := ups } }.setBarrier x slot b.advance) x slot

/-- A multi-module barrier whose E0 is full and whose children have sent their UPs sends its own UP once, or, at the root,
completes and sends DOWN (R315). The first number bounds the rounds taken at once. -/
def multiBarrier : Nat → State → Nat → Nat → State
  | 0, s, _, _ => s
  | n + 1, s, x, slot =>
    let b := s.barrier x slot
    match b.comm with
    | none => s
    | some c =>
      match s.commOf c with
      | none => s
      | some (_, k) =>
        let has (m : Nat) := s.coll.barrierUps.contains (c, b.gen, m)
        let kids := treeChildren 0 k.members s.me
        if b.poisoned || b.members.isEmpty || !b.full || !(kids.all (fun l => has l.2)) then s
        else match treeParent 0 k.members s.me with
          | some (st, p) =>
            if has s.me then s
            else sendFrame { s with coll := { s.coll with barrierUps := (c, b.gen, s.me) :: s.coll.barrierUps } }
              (mkFrame s 1 4 p c b.gen st 0 1 0 true []) 0
          | none =>
            let s := sendAllFrames s kids (fun st m => mkFrame s 2 4 m c b.gen st 0 1 0 true [])
            multiBarrier n (completeRound s x slot) x slot

/-- Local completion is checked: a barrier of one module advances, and again at once (R199). A multi-module barrier sends its
UP and waits for its DOWN (R315). -/
def checkBarrier (s : State) (x slot : Nat) : State :=
  let b := s.barrier x slot
  if b.poisoned || b.members.isEmpty || !b.full then s
  else if b.comm.isSome then multiBarrier 2 s x slot
  else
    let b := b.advance
    let b := if b.full then b.advance else b
    releaseBarrier (s.setBarrier x slot b) x slot

/-- The barrier is poisoned here; its waiters complete with CANCELLED_DEPENDENCY (R194, R201). -/
def poisonHere (s : State) (x slot : Nat) (overrun mismatch : Bool) : State :=
  let b := s.barrier x slot
  let held := s.barrierWaiters x slot
  let s := s.setBarrier x slot { b with poisoned := true, overrun := b.overrun || overrun
                                        mismatch := b.mismatch || mismatch }
  let s := if b.poisoned then s else raise s 0x387
  held.foldl (fun s a =>
    let s := s.cancelWaiter a
    if overrun then s.blame a 0x0403 else if mismatch then s.blame a 0x0401 else s) s

/-- The barrier is poisoned, and the other members of a multi-module one are told by ABORT (R194, R201). -/
def poisonBarrier (s : State) (x slot : Nat) (overrun : Bool) : State :=
  let b := s.barrier x slot
  let s := match b.comm with
    | some c => if b.poisoned then s else barrierAbort s c b.gen (if overrun then 0x0403 else 0x0601)
    | none => s
  poisonHere s x slot overrun false

/-- Member m enters the barrier by a signal of amount 1 that names a vid; an overrun's record names both (R199, R201, R381). -/
def enterBarrier (s : State) (x slot vid m : Nat) (src : Actor) : State :=
  let b := s.barrier x slot
  if b.poisoned || !b.members.contains m then s
  else if !b.e0.contains m then checkBarrier (s.setBarrier x slot { b with e0 := m :: b.e0 }) x slot
  else if !b.e1.contains m then s.setBarrier x slot { b with e1 := m :: b.e1 }
  else
    let s := { s with syncFaults := satAdd s.syncFaults 1 }
    let s := fault s (s.noteOf src { sev := 3, cls := 6, key := 3, ctx := x, syn := leBytes 2 0 ++ leBytes 2 vid ++ leBytes 1 slot })
    poisonBarrier (s.blame src 0x0403) x slot true

/-- A barrier cleared: generation and entries zero, poison gone (R201). -/
def Barrier.clear (b : Barrier) : Barrier :=
  { b with gen := 0, e0 := [], e1 := [], poisoned := false, mismatch := false, overrun := false }

/-! ### Signals of a unit or a host descriptor -/

/-- The cancel mark an actor sets through its signal entry: on a local counter the mark, on a barrier the poison; a remote
entry is marked by a cancel-only tail-signal sent by the caller (R105, R194). -/
def markVid (s : State) (x vid : Nat) : State :=
  let e := s.transEntry x vid
  if !trValid e then s
  else match trKind e with
    | 0 => markCounter s (trTarget e)
    | 2 => poisonBarrier s x (trTarget e) false
    | _ => s

/-- The counter a wait of a context names is local and carries a cancel mark, or the barrier is poisoned (R105, R194). -/
def State.waitMarked (s : State) (x vid : Nat) : Bool :=
  let e := s.transEntry x vid
  match trKind e with
  | 0 => (s.ctr (trTarget e)).cancelled || (s.ctr (trTarget e)).frozen
  | 2 => (s.barrier x (trTarget e)).poisoned
  | _ => false

/-- The status a wait on a frozen counter, or a poisoned barrier, gives the host descriptor concerned (R187, R201). -/
def State.waitBlame (s : State) (x vid : Nat) (a : Actor) : State :=
  let e := s.transEntry x vid
  match trKind e with
  | 0 =>
    let c := s.ctr (trTarget e)
    if c.frozen then s.blame a (if c.cause = 1 then 0x0301 else 0x0302) else s
  | 2 =>
    let b := s.barrier x (trTarget e)
    if b.overrun then s.blame a 0x0403 else if b.mismatch then s.blame a 0x0401 else s
  | _ => s

/-- Wait and signal fields a unit or host descriptor may name (R184). `m` is its member index. -/
def syncFieldsOk (s : State) (x m : Nat) (waitEn : Bool) (waitVid : Nat) (sigEn : Bool) (sigVid amt : Nat) : Bool :=
  let w := s.transEntry x waitVid
  let g := s.transEntry x sigVid
  (!waitEn || (trValid w && trKind w != 1 &&
    (trKind w != 2 || (s.barrier x (trTarget w)).members.contains m))) &&
  (!sigEn || (trValid g &&
    (trKind g != 2 || (decide (amt ≤ 1) && (s.barrier x (trTarget g)).members.contains m)) &&
    (trKind g != 0 || !(s.ctr (trTarget g)).monotonic || decide (amt ≤ (s.ctr (trTarget g)).buffers.toNat))))

end Sys2Proof.Machine
end

