-- ==== Sys2Proof/Machine/FabricOps.lean ====
section
/-! DEFINITION. What a source does with fabric packets (11_fabric.md): tag streams, planes, sending, completion of the
instruction that owns a packet. -/

namespace Sys2Proof.Machine

/-! ### Ports and planes (R268, R283) -/

def State.port (s : State) (p : Nat) : Port := smGet {} s.fabric.ports p

/-- PlanesInService: bit k while plane k has a port up. -/
def planesMask (f : Fabric) : BitVec 8 := BitVec.ofNat 8 ((List.range 8).foldl (fun a k => if f.planeUp k then a + 2 ^ k else a) 0)

/-- A port changed; a change of its state raises 0x38A, and one of the planes in service 0x38B. A plane that leaves service
sends EMCY 0xFF02 (R356, R366). -/
def setPort (s : State) (p : Nat) (k : Port) : State :=
  let was := planesMask s.fabric
  let changed := decide ((s.port p).st ≠ k.st)
  let s := { s with fabric := { s.fabric with ports := smSet {} s.fabric.ports p k } }
  let now := planesMask s.fabric
  let s := { s with fabric := { s.fabric with lostPlanes := (s.fabric.lostPlanes ||| (was &&& ~~~now)) &&& ~~~now } }
  let s := if changed then raise s 0x38A else s
  if was = now then s
  else
    let s := raise s 0x38B
    let s := (List.range 8).foldl (fun s i => if was.getLsbD i && !(now.getLsbD i) then emcy s 0xFF02 0 else s) s
    emcyClear s

/-! ### Streams -/

def State.stream (s : State) (dst : Nat) : Stream := smGet {} s.fabric.streams dst

def State.setStream (s : State) (dst : Nat) (t : Stream) : State :=
  { s with fabric := { s.fabric with streams := smSet {} s.fabric.streams dst t } }

/-- The plane after `rotor` in rotation that has a port up and is not marked unreachable (R277); `n` planes are tried. -/
def nextPlane (f : Fabric) (bad : List Nat) : Nat → Nat → Option Nat
  | 0, _ => none
  | n + 1, rotor =>
    let k := (rotor + 1) % 8
    if f.planeUp k && !bad.contains k then some k else nextPlane f bad n k

/-- Virtual channel of a packet type (R269). -/
def vcOf (typ : Nat) : Nat := if [2, 7, 0x0C, 0x0D, 0x0F].contains typ then 1 else if typ = 0x0A ∨ typ = 0x0B then 3 else 0

/-- The up port of a plane with the most free credits of a channel, the lowest of equals (R277). -/
def choosePort (f : Fabric) (plane vc : Nat) : Nat :=
  let port (p : Nat) : Port := smGet {} f.ports p
  let ups := ((List.range 8).map (plane * 8 + ·)).filter (fun p => decide ((port p).st = 2))
  (ups.foldl (fun b p => match b with
    | none => some p
    | some q => if (port q).credits.getD vc 0 < (port p).credits.getD vc 0 then some p else some q) none).getD (plane * 8)

end Sys2Proof.Machine

namespace Sys2Proof
open Machine

/-! ### Packets on a hop (R269, R270) -/

/-- The bytes that the CRC of a packet covers: its 16-byte header and its payload (R270). -/
def Packet.bytes (p : Packet) : Bytes :=
  leBytes 1 (p.typ.toNat + 64 * p.vc.toNat) ++
  leBytes 1 (boolNat p.tail + 2 * boolNat p.retransmit + 4 * p.units.toNat) ++
  leBytes 2 p.dst.toNat ++ leBytes 2 p.src.toNat ++ leBytes 4 p.tag.toNat ++ leBytes 6 p.address.toNat ++ p.payload

/-- The packet with the CRC of its bytes, and whether the CRC it carries is that one. -/
def Packet.sealed (p : Packet) : Packet := { p with crc := crc32c p.bytes }
def Packet.crcOk (p : Packet) : Bool := decide (p.crc = crc32c p.bytes)

/-- Bytes of a packet on the wire, and the credits it takes, one for 64 bytes (R269, R270). -/
def Packet.size (p : Packet) : Nat := 20 + p.payload.length
def Packet.cost (p : Packet) : Nat := ceilDiv p.size 64

end Sys2Proof

namespace Sys2Proof.Machine

/-- A replay buffer cut to 262,144 bytes: the oldest packets leave (R269). -/
def trimReplay : List Packet → List Packet
  | [] => []
  | p :: ps => if ((p :: ps).map Packet.size).sum ≤ 0x40000 then p :: ps else trimReplay ps

/-- A packet goes onto the wire of a port: it is counted, takes its credits and stays in the replay buffer (R269). -/
def transmit (s : State) (p : Nat) (pkt : Packet) : State :=
  let k := s.port p
  let k := { k with txCount := k.txCount + 1, replay := trimReplay (k.replay ++ [pkt])
                    credits := k.credits.set pkt.vc.toNat (k.credits.getD pkt.vc.toNat 0 - pkt.cost) }
  { s with fabric := { s.fabric with ports := smSet {} s.fabric.ports p k } }.send (.packet pkt)

/-- The oldest waiting packet of a channel for which the port has credits. -/
def Port.ready (k : Port) : Option Packet :=
  (List.range 4).findSome? (fun vc => match k.queue.find? (fun q => q.vc.toNat == vc) with
    | none => none
    | some q => if q.cost ≤ k.credits.getD vc 0 then some q else none)

/-- Packets that wait at a port go out as far as its credits reach; the first number bounds them (R269). -/
def drainPort : Nat → State → Nat → State
  | 0, s, _ => s
  | n + 1, s, p =>
    let k := s.port p
    match k.ready with
    | none => s
    | some q =>
      let s := { s with fabric := { s.fabric with ports := smSet {} s.fabric.ports p { k with queue := k.queue.erase q } } }
      drainPort n (transmit s p q) p

/-- A packet given to a port goes out, or waits there for credits (R269). -/
def portSend (s : State) (p : Nat) (pkt : Packet) : State :=
  let k := s.port p
  drainPort (k.queue.length + 1)
    { s with fabric := { s.fabric with ports := smSet {} s.fabric.ports p { k with queue := k.queue ++ [pkt] } } } p

/-- A port without traffic: what it held for its peer is gone, and its counts start at 0 (R268, R269). -/
def Port.idle (k : Port) : Port :=
  { k with rxCount := 0, txCount := 0, queue := [], replay := [], resent := (0, 0), discard := 0, owed := [0, 0, 0, 0]
           sinceFrame := 0 }

/-- The sender resends from a count of packets, as far as its replay buffer reaches, and counts a link retry (R269). -/
def linkResend (s : State) (p count : Nat) : State :=
  let k := s.port p
  let again := k.replay.drop (k.replay.length - (k.txCount - count))
  let k := { k with retries := satAdd k.retries 1
                    resent := (count, if k.resent.1 = count then k.resent.2 + 1 else 1) }
  again.foldl (fun s q => s.send (.packet q))
    { s with fabric := { s.fabric with ports := smSet {} s.fabric.ports p k } }

/-- A packet taken in at a port: it is counted with the symbols that the FEC corrected in it, and frees its space; the
credits go back in link-control frames after every 64 packets (R269, R283; DESIGN CHOICE, log entry 137). -/
def takeIn (s : State) (p : Nat) (pkt : Packet) : State :=
  let k := s.port p
  let owed := k.owed.set pkt.vc.toNat (k.owed.getD pkt.vc.toNat 0 + pkt.cost)
  let k := { k with rxCount := k.rxCount + 1, corrected := satAdd k.corrected pkt.symbols }
  let put (k : Port) : State := { s with fabric := { s.fabric with ports := smSet {} s.fabric.ports p k } }
  if k.sinceFrame + 1 < 64 then put { k with owed := owed, sinceFrame := k.sinceFrame + 1 }
  else (List.range 4).foldl (fun s vc =>
    if owed.getD vc 0 = 0 then s else s.send (.linkControl p (.credits (Fin.ofNat 4 vc) (owed.getD vc 0))))
    (put { k with owed := [0, 0, 0, 0], sinceFrame := 0 })

/-! ### Sending -/

/-- A packet put on the plane next in rotation for its destination that is not in `avoid`; a packet to the module's own ID does
not go onto the wire and is marked plane 8 (R272, R277). Plane 9 says that no plane was left. -/
def emitPacket (s : State) (dst typ : Nat) (tag : BitVec 32) (address : Nat) (payload : Bytes) (tail again : Bool)
    (avoid : List Nat) (trunc : Bool := false) : State × Nat :=
  let t := s.stream dst
  let pkt (p : Nat) : Packet := Packet.sealed
    { port := Fin.ofNat 64 p, typ := BitVec.ofNat 6 typ, vc := BitVec.ofNat 2 (vcOf typ), tail := tail, retransmit := again
      units := BitVec.ofNat 6 (payload.length / 8), dst := BitVec.ofNat 14 dst, src := BitVec.ofNat 14 s.me, tag := tag
      address := BitVec.ofNat 48 address, payload := payload, crc := 0, symbols := 0
      trunc := trunc }
  let go (k : Nat) : State × Nat :=
    let p := choosePort s.fabric k (vcOf typ)
    (portSend (s.setStream dst { t with rotor := k }) p (pkt p), k)
  if s.fabric.moduleId = some (BitVec.ofNat 14 dst) then (s.send (.selfPacket (pkt 0)), 8)
  else match nextPlane s.fabric (avoid ++ t.unreachable) 8 t.rotor with
    | some k => go k
    | none => match nextPlane s.fabric t.unreachable 8 t.rotor with
      | some k => go k
      | none => (s, 9)

def emit (s : State) (dst : Nat) (typ : Nat) (tag : BitVec 32) (address : Nat) (payload : Bytes) (tail : Bool)
    (trunc : Bool := false) : State × Nat :=
  emitPacket s dst typ tag address payload tail false [] trunc

/-- A response or acknowledgement to a module: it carries the request's tag and belongs to no stream (R270, R274). -/
def answer (s : State) (dst typ : Nat) (tag : BitVec 32) (payload : Bytes) : State := (emit s dst typ tag 0 payload false).1

/-- RESYNC goes out with the stream's new base as its tag, and stands as an unacknowledged packet of the actor (R274, R278,
R280). -/
def beginStream (s : State) (dst : Nat) (owner : Actor) : State :=
  let t := s.stream dst
  let (s, k) := emit s dst 0x0E t.next 0 [] false
  s.setStream dst { s.stream dst with
    begun := true, resyncing := true, last := s.clkc
    resync := some { tag := t.next, typ := 0x0E, address := 0, payload := [], tail := false, plane := k, owner := owner
                     dest := 0, resent := false } }

/-- A packet takes the next tag of its stream and goes out (R274). -/
def sendNow (s : State) (dst : Nat) (p : OutPacket) : State :=
  let t := s.stream dst
  let tag := t.next
  let (s, k) := emit s dst p.typ.toNat tag p.address.toNat p.payload p.tail p.trunc
  let t := s.stream dst
  s.setStream dst { t with next := tag + 1, last := s.clkc
                           unacked := t.unacked ++ [{ p with tag := tag, plane := k }] }

/-- The stream has room in its window of 131,072 tags and is not resynchronising (R274, R280). -/
def Stream.open (t : Stream) : Bool :=
  !t.resyncing &&
  match t.unacked with
  | [] => true
  | p :: _ => decide ((t.next - p.tag).toNat < 131072)

/-- Waiting packets go out while the stream is open; the first number bounds them. -/
def drainWaiting : Nat → State → Nat → State
  | 0, s, _ => s
  | n + 1, s, dst =>
    let t := s.stream dst
    match t.waiting with
    | [] => s
    | p :: rest =>
      if t.open then drainWaiting n (sendNow (s.setStream dst { t with waiting := rest }) dst p) dst else s

/-- The instruction or descriptor that owns a packet takes a failing status, and UnreachableCount counts it (R279, R280,
R283). One whose record is written already keeps its status. -/
def failOwner (s : State) (a : Actor) (status : Nat) : State :=
  let count (s : State) : State := if status = 0x0701 then
      { s with fabric := { s.fabric with unreachable := satAdd s.fabric.unreachable 1 } } else s
  match a with
  | .core u g seq =>
    if ((s.core g).unit u).window.any (fun e => decide (e.seq = seq) && (decide (e.status = 0) || decide (e.status = 1))) then
      (count s).modEntry u g seq (fun e => { e with status := BitVec.ofNat 16 status })
    else s
  | .command => s
  | a => (count s).blame a (BitVec.ofNat 16 status)

/-- A request packet enters its stream: at first contact, and after 10 ms without a packet, RESYNC goes first (R274). A
module without an ID sends nothing, and the owner ends with FABRIC_UNREACHABLE (R267). -/
def sendPacket (s : State) (dst typ address : Nat) (payload : Bytes) (tail : Bool) (owner : Actor) (dest : Nat)
    (trunc : Bool := false) : State :=
  let t := s.stream dst
  let stale := decide ((s.clkc - t.last).toNat ≥ 12000000) && t.unacked.isEmpty
  let p : OutPacket := { tag := 0, typ := BitVec.ofNat 6 typ, address := BitVec.ofNat 48 address, payload := payload
                         tail := tail, plane := 9, owner := owner, dest := dest, resent := false, trunc := trunc }
  if s.fabric.moduleId.isNone then failOwner s owner 0x0701
  else
    let s := if (!t.begun || stale) && !t.resyncing then beginStream s dst owner else s
    let t := s.stream dst
    drainWaiting (t.waiting.length + 1) (s.setStream dst { t with waiting := t.waiting ++ [p] }) dst

/-- The actor has packets that are not acknowledged (R278). -/
def State.outstanding (s : State) (a : Actor) : Bool :=
  s.fabric.streams.any (fun t => t.2.unacked.any (fun p => decide (p.owner = a)) ||
    t.2.waiting.any (fun p => decide (p.owner = a)))

/-- The 8-byte trailer of R275. -/
def trailerBytes (count ctx : Nat) (cancel : Bool) (amount vid : Nat) : Bytes :=
  leBytes 4 count ++ leBytes 1 ctx ++ leBytes 1 (boolNat cancel + 2 * (amount % 128)) ++ leBytes 2 vid

/-- An amount in pieces that a trailer can hold, at most 127 each (R275). -/
def trailerAmounts (amount : Nat) : List Nat :=
  List.replicate (amount / 127) 127 ++ (if amount % 127 = 0 ∧ amount ≠ 0 then [] else [amount % 127])

/-- Signal-only or cancel-only packets to the peer counter of a kind 1 entry, one for each piece of the amount (R194, R195,
R275). -/
def sendSignal (s : State) (entry : Nat) (cancel : Bool) (amount : Nat) (owner : Actor) : State :=
  (trailerAmounts amount).foldl (fun s a => sendPacket s (trPeerMod entry) 0x08 0
    (trailerBytes 1 (trPeerCtx entry) cancel a (trTarget entry % 4096)) true owner 0) s

/-! ### Ports that go down (R267, R268) -/

/-- A fault record that names a port (R267, R268). -/
def portFault (s : State) (p key target : Nat) : State :=
  fault s { unit := unitIndexed 10 p, sev := if key = 0x12 then 4 else 2, cls := 7, key := key, src := 9
            syn := leBytes 2 target ++ leBytes 4 0 }

/-- A port leaves UP, or fails to train; the eighth entry into DOWN from UP within an operating hour is FAILED (R268). -/
def portDown (s : State) (p : Nat) : State :=
  let k := s.port p
  if k.st = 1 then setPort s p { k with st := 0 }
  else if k.st ≠ 2 then s
  else
    let n := if k.downHour = s.rel.hours then k.downsInHour + 1 else 1
    let k := { k.idle with st := if n < 8 then 0 else 5, downs := satAdd k.downs 1, downHour := s.rel.hours, downsInHour := n }
    let s := setPort s p k
    if n < 8 then s else portFault s p 0x12 s.me

end Sys2Proof.Machine
end

