-- ==== Sys2Proof/Machine/MemoryOps.lean ====
section
/-! DEFINITION. Memory: the address map (R138 to R144), reads and writes with poison (R139, R379), the shared cache
(R148 to R151) and tensor headers (R152 to R155). Cells are keyed by physical address: HBM by its per-stack view, DDR5
channel c at 0x0800_0000_0000 + c × 2^38, local SRAM and scratch by their module address. -/

namespace Sys2Proof.Machine

/-! ### Address map -/

def stackBase (st : Nat) : Nat := 0x10000000000 + st * 2 ^ 37
def channelBase (c : Nat) : Nat := 0x80000000000 + c * 2 ^ 38
def localBase (g : Nat) : Nat := 0x100000000000 + g * 2 ^ 24
def scratchBase (i : Nat) : Nat := 0x100100000000 + i * 0x20000000
def journalBytes : Nat := 0x10000000

/-- Bytes of the sealed save regions, whole granules on every stack (R141). -/
def Memory.sealedBytes (m : Memory) : Nat := roundUp (m.sealedInForce.toNat * 3184640) 49152

/-- HbmDecodedBytes (R141). -/
def Memory.hbmDecoded (m : Memory) : Nat := 960 * 2 ^ 30 - m.sealedBytes

/-- The populated channels in interleave order (R143). -/
def Memory.channelOrder (m : Memory) : List Nat :=
  [0, 4, 1, 5, 2, 6, 3, 7].filter (fun c => m.population.getLsbD c)

/-- DdrWindowBytes (R143). -/
def Memory.ddrWindow (m : Memory) : Nat := m.channelOrder.length * (m.ddrGib * 2 ^ 30 - journalBytes)

/-- A plan holds the scratch granule of a cluster (R176, R177). -/
def State.granuleHeld (s : State) (cl gr : Nat) : Bool :=
  s.contexts.any (fun c => match c.2.plan with
    | some p => p.resources.any (fun r => r.kind == 3 && r.scope == cl && decide (r.base ≤ gr) && decide (gr < r.base + r.amount))
    | none => false)

/-- The region a module address lies in and its physical address, before retirements and losses (R138, R140, R143). Region
numbers: 0 interleaved HBM, 1 + s stack view, 16 DDR5, 32 + g local SRAM, 256 + i scratch. -/
def State.region (s : State) (a : Nat) : Option (Nat × Nat) :=
  let m := s.mem
  if a < 960 * 2 ^ 30 then
    if a < m.hbmDecoded then
      let g := a / 4096
      some (0, stackBase (g % 12) + g / 12 * 4096 + a % 4096)
    else none
  else if 0x10000000000 ≤ a && decide (a < 0x28000000000) then
    let st := (a - 0x10000000000) / 2 ^ 37
    let o := a % 2 ^ 37
    if o < 80 * 2 ^ 30 - m.sealedBytes / 12 then some (1 + st, stackBase st + o) else none
  else if 0x40000000000 ≤ a && decide (a < 0x40000000000 + m.ddrWindow) then
    let w := a - 0x40000000000
    let g := w / 4096
    let n := m.channelOrder.length
    some (16, channelBase (m.channelOrder.getD (g % n) 0) + journalBytes + g / n * 4096 + w % 4096)
  else if 0x100000000000 ≤ a && decide (a < 0x1000C0000000) then
    let g := (a - 0x100000000000) / 2 ^ 24
    if s.present g then some (32 + g, a) else none
  else if 0x100100000000 ≤ a && decide (a < 0x100400000000) then
    let i := (a - 0x100100000000) / 0x20000000
    let gr := (a - 0x100100000000) % 0x20000000 / 2 ^ 24
    if gr < smGet 0 m.scratch i && s.granuleHeld i gr && !(s.rel.scratchGranules.contains (i * 32 + gr)) then some (256 + i, a) else none
  else none

/-- The stack or channel of a physical address is in service, and its granule is not retired (R234, R387). -/
def State.cellLive (s : State) (p : Nat) : Bool :=
  !(s.rel.granules.contains (p / 4096)) &&
  (if p < 0x28000000000 then s.mem.hbmStacks.getLsbD ((p - 0x10000000000) / 2 ^ 37)
   else if p < 0x100000000000 then s.mem.channels.getLsbD ((p - 0x80000000000) / 2 ^ 38)
   else true)

/-- The physical address of a module address, none at a refused place (R139). -/
def State.translate (s : State) (a : Nat) : Option Nat :=
  match s.region a with
  | none => none
  | some (_, p) => if s.cellLive p then some p else none

/-- Every 4 KiB page of the range from page to page is decoded; `n` bounds the pages. -/
def pagesLive (s : State) : Nat → Nat → Nat → Bool
  | 0, _, _ => true
  | n + 1, page, last =>
    decide (last < page) || ((s.translate (page * 4096)).isSome && pagesLive s n (page + 1) last)

/-- The range of n bytes at a lies in one region, the given one if any, and meets no refused place (R139). A scratch window
has holes between the granules that plans hold (R177); the other regions have them only after a retirement or a loss. -/
def State.rangeOk (s : State) (reg : Option Nat) (a n : Nat) : Bool :=
  n == 0 ||
  match s.region a, s.region (a + n - 1) with
  | some (r, p), some (r', p') =>
    r == r' && s.cellLive p && s.cellLive p' &&
    (match reg with
     | none => true
     | some r0 => r0 == r) &&
    ((decide (r < 256) && s.rel.granules.isEmpty && decide (s.mem.hbmStacks = 0xFFF) &&
      decide (s.mem.channels = s.mem.population)) || pagesLive s (n / 4096 + 2) (a / 4096 + 1) ((a + n - 1) / 4096))
  | _, _ => false

def State.regionId (s : State) (a : Nat) : Option Nat := (s.region a).map (·.1)

/-- The unit code of the cell at a physical address; SRAM cells by byte, bit 0 (R20; log entry 13). -/
def State.cellUnit (s : State) (p : Nat) : Nat :=
  if p < 0x28000000000 then unitIndexed 8 ((p - 0x10000000000) / 2 ^ 37)
  else if p < 0x100000000000 then unitIndexed 9 ((p - 0x80000000000) / 2 ^ 38)
  else if p < 0x100100000000 then
    let g := (p - 0x100000000000) / 2 ^ 24
    unitCode 1 1 (g / 96) (g / 8 % 12) (s.slotOf g) 0 (2 ^ 36 + p % 2 ^ 24 * 8)
  else
    let i := (p - 0x100100000000) / 0x20000000
    unitCode 1 1 (i / 12) (i % 12) 0 0 (2 * 2 ^ 36 + (p - 0x100100000000) % 0x20000000 * 8)

/-! ### Reads and writes -/

/-- Why a memory access did not happen. -/
inductive MemErr
  /-- a refused place (R139) -/
  | refused (a : Nat)
  /-- a detected data error: the address and its physical cell (R379) -/
  | data (a p : Nat)
  /-- a memory of a compute die in die reset (R449) -/
  | dark (a : Nat)
deriving DecidableEq, Repr

/-- The module address at which an access stopped. -/
def MemErr.addr (e : MemErr) : Nat :=
  match e with
  | .refused a | .dark a | .data a _ => a

/-- A physical address lies in a memory of a compute die in die reset (R449). -/
def State.dark (s : State) (p : Nat) : Bool :=
  let die := if p < 0x28000000000 then (p - 0x10000000000) / 2 ^ 37 / 6
    else if p < 0x100000000000 then 2
    else if p < 0x100100000000 then (p - 0x100000000000) / 2 ^ 24 / 96
    else (p - 0x100100000000) / 0x20000000 / 12
  (s.power.dieResetting0 && die == 0) || (s.power.dieResetting1 && die == 1)

def Memory.byte (m : Memory) (p : Nat) : BitVec 8 := smGet 0#8 m.cells p
def Memory.setByte (m : Memory) (p : Nat) (b : BitVec 8) : Memory := { m with cells := smSet 0#8 m.cells p b }
def Memory.poisoned (m : Memory) (p : Nat) : Bool := m.poison.contains (p / 64)

/-- Bytes put at successive physical addresses. -/
def Memory.putBytes (m : Memory) : Nat → Bytes → Memory
  | _, [] => m
  | p, b :: bs => (m.setByte p b).putBytes (p + 1) bs

/-- n bytes at successive physical addresses. -/
def Memory.getBytes (m : Memory) (p n : Nat) : Bytes := (List.range n).map (fun i => m.byte (p + i))

/-- The block of a physical address becomes poisoned (R379). -/
def Memory.poisonBlock (m : Memory) (p : Nat) : Memory :=
  if m.poisoned p then m else { m with poison := (p / 64) :: m.poison }

/-- n bytes read from module address a with the address map of `env` (R139, R379). -/
def readMem (env : State) (m : Memory) : Nat → Nat → Except MemErr Bytes
  | 0, _ => .ok []
  | n + 1, a =>
    match env.translate a with
    | none => .error (.refused a)
    | some p =>
      if env.dark p then .error (.dark a)
      else if m.poisoned p then .error (.data a p)
      else match readMem env m n (a + 1) with
        | .ok bs => .ok (m.byte p :: bs)
        | .error e => .error e

/-- The line of a cluster's cache with bytes written over it, where it is present (R150). -/
def cacheUpdate (m : Memory) (cl : Option Nat) (p : Nat) (bs : Bytes) : Memory :=
  match cl with
  | none => m
  | some c =>
    let lines := smGet [] m.cache c
    let new := mapWhere (fun l => l.1 == p / 256) (fun l => (l.1, overlay l.2 (p % 256) bs)) lines
    if p ≥ 0x100000000000 || !(lines.any (fun l => l.1 == p / 256)) then m
    else { m with cache := smSet [] m.cache c new }

/-- Bytes within one 64-byte block written: a whole block clears its poison, a partial write of a poisoned block writes
nothing and is a detected data error (R379). `cl` is the writing core's cluster (R150). -/
def writeBlock (env : State) (m : Memory) (cl : Option Nat) (a : Nat) (bs : Bytes) : Except MemErr Memory :=
  match env.translate a with
  | none => .error (.refused a)
  | some p =>
    if env.dark p then .error (.dark a)
    else if m.poisoned p && decide (bs.length < 64) then .error (.data a p)
    else
      let m := if bs.length = 64 then { m with poison := m.poison.filter (fun b => decide (b ≠ p / 64)) } else m
      .ok (cacheUpdate (m.putBytes p bs) cl p bs)

/-- Bytes written from module address a, block after block; the first number bounds the blocks. Blocks before the one
that fails stay written (R160). -/
def writeBlocks (env : State) (cl : Option Nat) : Nat → Memory → Nat → Bytes → Memory × Option MemErr
  | 0, m, _, _ => (m, none)
  | n + 1, m, a, bs =>
    if bs.isEmpty then (m, none)
    else
      let k := 64 - a % 64
      match writeBlock env m cl a (bs.take k) with
      | .error e => (m, some e)
      | .ok m' => writeBlocks env cl n m' (a + k) (bs.drop k)

/-- Bytes written at module address a (R139, R150, R379). -/
def writeMem (env : State) (m : Memory) (cl : Option Nat) (a : Nat) (bs : Bytes) : Memory × Option MemErr :=
  writeBlocks env cl (bs.length / 64 + 2) m a bs

/-! ### Shared cache (R148 to R151) -/

/-- Ways of a set still in use: disabled ways are listed as (cluster × 2^40 + set) × 16 + way (R387). -/
def waysOf (s : State) (cl set : Nat) : Nat :=
  16 - (s.rel.deadWays.filter (fun w => w / 16 == cl * 2 ^ 40 + set)).length

/-- Sets of a cluster's cache part: 4,096 for each granule that is not scratch (R148). -/
def setsOf (m : Memory) (cl : Nat) : Nat := (32 - smGet 0 m.scratch cl) * 4096

/-- A line allocated as most recently used; the least recently used line of a full set leaves (R148). -/
def cacheAllocate (env : State) (m : Memory) (cl line : Nat) (data : Bytes) : Memory :=
  let sets := setsOf m cl
  let set := Config.cacheSet line sets
  let others := (smGet [] m.cache cl).filter (fun l => decide (l.1 ≠ line))
  let mine := others.filter (fun l => Config.cacheSet l.1 sets == set)
  let keep := (mine.take (waysOf env cl set - 1)).map (·.1)
  let lines := (line, data) :: others.filter (fun l => Config.cacheSet l.1 sets != set || keep.contains l.1)
  if sets = 0 ∨ waysOf env cl set = 0 then m else { m with cache := smSet [] m.cache cl lines }

/-- A DMA read of one piece of a line under a cache policy of R149: 0 allocate, 1 use, 2 bypass. -/
def readLine (env : State) (m : Memory) (cl policy a n : Nat) : Memory × Except MemErr Bytes :=
  match env.translate a with
  | none => (m, .error (.refused a))
  | some p =>
    let hit := (smGet [] m.cache cl).find? (fun l => l.1 == p / 256)
    if p ≥ 0x100000000000 || policy == 2 then (m, readMem env m n a)
    else match hit with
      | some l =>
        let rest := (smGet [] m.cache cl).filter (fun x => decide (x.1 ≠ p / 256))
        ({ m with cache := smSet [] m.cache cl (l :: rest) }, .ok ((l.2.drop (p % 256)).take n))
      | none =>
        match readMem env m n a with
        | .error e => (m, .error e)
        | .ok bs =>
          if policy = 0 && !((List.range 4).any (fun i => m.poison.contains (p / 256 * 4 + i))) then
            (cacheAllocate env m cl (p / 256) (m.getBytes (p / 256 * 256) 256), .ok bs)
          else (m, .ok bs)

/-- A run read line by line; the first number bounds the lines. -/
def readLines (env : State) (cl policy : Nat) : Nat → Memory → Nat → Nat → Memory × Except MemErr Bytes
  | 0, m, _, _ => (m, .ok [])
  | k + 1, m, a, n =>
    if n = 0 then (m, .ok [])
    else
      let len := min n (256 - a % 256)
      match readLine env m cl policy a len with
      | (m, .error e) => (m, .error e)
      | (m, .ok bs) =>
        match readLines env cl policy k m (a + len) (n - len) with
        | (m, .ok more) => (m, .ok (bs ++ more))
        | (m, .error e) => (m, .error e)

/-- A DMA source read by a core of cluster cl (R149). -/
def readCached (env : State) (m : Memory) (cl policy a n : Nat) : Memory × Except MemErr Bytes :=
  readLines env cl policy (n / 256 + 2) m a n

/-! ### Tensor headers (R152 to R154) -/

def hdrFormat (h : Bytes) : Nat := byteAt h 1
def hdrRank (h : Bytes) : Nat := byteAt h 2 % 8
def hdrBlockDim (h : Bytes) : Nat := byteAt h 2 / 16 % 8
def hdrPresence (h : Bytes) : Nat := byteAt h 3 % 8
def hdrCheckValid (h : Bytes) : Bool := bitAt (byteAt h 3) 7
def hdrTagBits (h : Bytes) : Nat := leAt h 4 2
/-- exp_tag, none for 0x8000 (R35). -/
def hdrTag (h : Bytes) : Option Int := if hdrTagBits h = 0x8000 then none else some (toSigned 16 (hdrTagBits h))
def hdrHintLsb (h : Bytes) : Int := sAt h 8 2
def hdrHintClass (h : Bytes) : Nat := byteAt h 10 % 4
def hdrHintPly (h : Bytes) : Nat := byteAt h 10 / 4 % 8
def hdrHintValid (h : Bytes) : Bool := bitAt (leAt h 8 4) 31
def hdrDim (h : Bytes) (i : Nat) : Nat := leAt h (12 + 4 * i) 4
def hdrStride (h : Bytes) (i : Nat) : Nat := if i = 0 then 0 else leAt h (32 + 4 * i) 4 * 64

/-- A header with a merge applied: tag maximum, presence OR, check cleared (R154). -/
def mergeHeaderBytes (h : Bytes) (tag : Option Int) (pres : Nat) : Bytes :=
  let t := tagBits (maxTag (hdrTag h) tag)
  let b3 := byteAt h 3
  let b3 := (Nat.lor (b3 % 128) pres) % 128
  overlay (overlay (overlay h 3 (leBytes 1 b3)) 4 (leBytes 2 t)) 56 (leBytes 8 0)

/-- A header merge applied at the memory that holds the header; it touches no cache (R150, R154). -/
def mergeHeader (env : State) (m : Memory) (a : Nat) (tag : Option Int) (pres : Nat) : Memory × Option MemErr :=
  match readMem env m 64 a with
  | .error e => (m, some e)
  | .ok h => writeMem env m none a (mergeHeaderBytes h tag pres)

/-- A header image a producer may write: legal version, format, rank, dimensions and reserved bits (R152, R153). The
fields that DHINIT forces are not part of the check. -/
def headerLegal (h : Bytes) : Bool :=
  let r := hdrRank h
  byteAt h 0 == 1 && decide (fmtBits (hdrFormat h) ≠ 0) && decide (hdrFormat h ≠ 0x0B) && decide (r ≤ 6) &&
  bitsAt (byteAt h 2) 3 1 == 0 && bitsAt (byteAt h 2) 7 1 == 0 && bitsAt (byteAt h 3) 3 4 == 0 &&
  (if isMx (hdrFormat h) then decide (hdrBlockDim h < r) else hdrBlockDim h == 0) &&
  leAt h 6 2 == 0 && bitsAt (leAt h 8 4) 21 10 == 0 &&
  (!(hdrHintValid h) || [1, 2, 3, 5].contains (hdrHintPly h) && decide (hdrHintClass h < 3)) &&
  (hdrHintValid h || (savedPly (hdrFormat h)).isNone) &&
  (List.range 6).all (fun i => decide (i < r) || hdrDim h i == 0) &&
  (List.range 6).all (fun i => i == 0 || decide (i < r) || hdrStride h i == 0)

/-! ### Errors as faults -/

/-- The unit and note of a memory error met by a command: a data error is class 0x02, a refused place class 0x0D key 5
(R139, R378, R381). -/
def memErrNote (s : State) (n : FaultNote) (e : MemErr) : FaultNote :=
  match e with
  | .refused a | .dark a => { n with cls := 0x0D, key := 5, sev := 3, syn := leBytes 8 a }
  | .data a p => { n with unit := s.cellUnit p, cls := 2, key := 0, sev := 3, syn := leBytes 8 a }

/-- The corrected-error counter of the memory that holds a physical address counts once (R165). -/
def countCorrected (r : Reliability) (p : Nat) : Reliability :=
  if p < 0x28000000000 then
    { r with hbmCorrected := smMod 0 r.hbmCorrected ((p - 0x10000000000) / 2 ^ 37) (satAdd · 1) }
  else if p < 0x100000000000 then
    { r with ddrCorrected := smMod 0 r.ddrCorrected ((p - 0x80000000000) / 2 ^ 38) (satAdd · 1) }
  else { r with sramCorrected := satAdd r.sramCorrected 1 }

/-- A corrected error at a module address: counted, and recorded with class 0x01; the work goes on (R165, R378). The raw
syndrome is open: a free value. -/
def corrected (s : State) (n : FaultNote) (a : Nat) : State :=
  match s.translate a with
  | none => s
  | some p =>
    let syn := leBytes 8 a ++ leBytes 6 (Config.syndromeBits s.draws).toNat
    fault { s with rel := countCorrected s.rel p }.draw
      { n with unit := s.cellUnit p, cls := 1, key := (Config.syndromeBits s.draws).toNat / 2 ^ 48 % 2 ^ 16, sev := 1,
               syn := syn }

/-- An uncorrectable error at a module address poisons its block (R379). -/
def State.poisonAt (s : State) (a : Nat) : State :=
  match s.translate a with
  | none => s
  | some p => { s with mem := s.mem.poisonBlock p }

end Sys2Proof.Machine
end

