-- ==== Sys2Proof/Machine/Flags.lean ====
section
/-! DEFINITION. What an instruction of a unit accumulates while it runs: its status, the flag word (R110), the first invalid
event (R65), flush and division counts, and the detections it met (R378). -/

namespace Sys2Proof.Machine

/-! ### Status codes (R10) -/

def stDone : Nat := 0x0000
def stEmpty : Nat := 0x0001
def stCapacity : Nat := 0x0101
def stShape : Nat := 0x0102
def stBad : Nat := 0x0103
def stUnderflow : Nat := 0x0301
def stOverflow : Nat := 0x0302
def stMismatch : Nat := 0x0401
def stExhausted : Nat := 0x0402
def stOverrun : Nat := 0x0403
def stData : Nat := 0x0501
def stRetired : Nat := 0x0502
def stCancelled : Nat := 0x0601
def stUnreachable : Nat := 0x0701

/-! ### The running instruction -/

/-- An instruction of a unit while it runs: the memory and core it has changed so far, and what it will report. -/
structure Run where
  mem     : Memory
  core    : Core
  status  : Nat := 0
  /-- stopped at a detection (R378) -/
  halted  : Bool := false
  /-- numeric flags (R110) -/
  invalid : Bool := false
  ovf     : Bool := false
  trunc   : Bool := false
  /-- first invalid event (R65) -/
  event   : Option Capture := none
  flushed : Nat := 0
  divZero : Nat := 0
  /-- fault records to write, oldest first -/
  notes   : List FaultNote := []
  /-- addends sent (R78) -/
  addends : List Addend := []
  /-- beats, rows, elements or runs done -/
  pos     : Nat := 0
  /-- exponent tag and presence of what was written (R154) -/
  tag     : Option Int := none
  pres    : Nat := 0
  /-- slots that failed the residue comparison (R77) -/
  slotFails : Nat := 0
  /-- fabric packets to send: module, type, address, payload, and the place a response's data goes to (R271) -/
  packets : List (Nat × Nat × Nat × Bytes × Nat) := []
deriving DecidableEq, Repr

/-- The run ends here with FAULT_DATA and a fault record (R378). -/
def Run.halt (r : Run) (n : FaultNote) : Run :=
  { r with halted := true, status := stData, notes := r.notes ++ [n] }

/-- The element concerned is marked and the run goes on, to end with FAULT_DATA (R77, R378). -/
def Run.mark (r : Run) (n : FaultNote) : Run := { r with status := stData, notes := r.notes ++ [n] }

/-- A memory error stops the run. -/
def Run.memErr (r : Run) (env : State) (e : MemErr) : Run := r.halt (memErrNote env { sev := 3, cls := 2 } e)

/-- The note of a parity mismatch and of a residue mismatch at a position (R381); the checkpoint and lanes are open. -/
def parityNote (env : State) : FaultNote :=
  let b := (Config.syndromeBits env.draws).toNat
  { sev := 3, cls := 3, key := b % 2 ^ 16, syn := leBytes 8 (b / 2 ^ 16) }

def residueNote (env : State) (pos : Nat) : FaultNote :=
  { sev := 3, cls := 4, key := (Config.syndromeBits env.draws).toNat % 2 ^ 16, syn := leBytes 8 pos }

/-- One beat, row, element or run of an instruction. A parity mismatch at its position stops the instruction there, with no
effect of the item; a residue mismatch runs the item with its mark set (R378). -/
def Run.item (env : State) (det : Detect) (r : Run) (f : Run → Bool → Run) : Run :=
  if r.halted then r
  else match det with
    | .parity p =>
      if r.pos = p then r.halt (parityNote env) else f { r with pos := r.pos + 1 } false
    | .residue p =>
      if r.pos = p then f ({ r with pos := r.pos + 1 }.mark (residueNote env p)) true
      else f { r with pos := r.pos + 1 } false
    | _ => f { r with pos := r.pos + 1 } false

/-- One row or beat of an engine instruction of `width` columns. Parity positions count rows or beats; residue positions
count row × 512 + column, and mark that column's entry (R378). -/
def Run.rowItem (env : State) (det : Detect) (width : Nat) (r : Run) (f : Run → Option Nat → Run) : Run :=
  if r.halted then r
  else match det with
    | .parity p =>
      if r.pos = p then r.halt (parityNote env) else f { r with pos := r.pos + 1 } none
    | .residue p =>
      if r.pos = p / 512 && decide (p % 512 < width) then
        f ({ r with pos := r.pos + 1 }.mark (residueNote env p)) (some (p % 512))
      else f { r with pos := r.pos + 1 } none
    | _ => f { r with pos := r.pos + 1 } none

/-- One beat of a run: a parity mismatch stops it there (R378). -/
def Run.beat (env : State) (det : Detect) (r : Run) (f : Run → Run) : Run :=
  if r.halted then r
  else match det with
    | .parity p => if r.pos = p then r.halt (parityNote env) else f { r with pos := r.pos + 1 }
    | _ => f { r with pos := r.pos + 1 }

/-- Slots of an element failed the residue comparison: all are counted, and the first one of the instruction is recorded; the
run ends with FAULT_DATA (R77). -/
def Run.slotFail (r : Run) (count j a : Nat) : Run :=
  let r := { r with status := stData, slotFails := r.slotFails + count }
  if r.notes.any (fun n => n.cls == 5) then r
  else { r with notes := r.notes ++ [{ sev := 3, cls := 5, key := j, syn := leBytes 8 a }] }

/-- An invalid event; the first one of the instruction is kept for the capture (R65). -/
def Run.invalidEvent (r : Run) (seq row col batch k cause : Nat) : Run :=
  { r with invalid := true
           event := match r.event with
                    | some e => some e
                    | none => some { sequence := BitVec.ofNat 64 seq, row := BitVec.ofNat 32 row
                                     column := BitVec.ofNat 32 col, batch := BitVec.ofNat 32 batch
                                     k := BitVec.ofNat 32 k, cause := BitVec.ofNat 4 cause, valid := true } }

/-- A written element merges its tag and presence (R35, R154). -/
def Run.merge (r : Run) (tag : Option Int) (pres : Nat) : Run :=
  { r with tag := maxTag r.tag tag, pres := Nat.lor r.pres pres }

/-- Elements of w bytes each written to module memory by a core of cluster cl. An error stops the run: the elements before
the block it was met in are written, and the element in which it was met is not (R378). -/
def Run.write (r : Run) (env : State) (cl w a : Nat) (bs : Bytes) : Run :=
  match writeMem env r.mem (some cl) a bs with
  | (m, none) => { r with mem := m }
  | (_, some e) =>
    let whole := bs.take ((e.addr - a) / w * w)
    { r with mem := (writeMem env r.mem (some cl) a whole).1 }.memErr env e

/-- The merges of a run applied to its header, unless it was stopped before (R154). -/
def Run.mergeAt (r : Run) (env : State) (a : Nat) : Run :=
  if r.halted then r
  else match mergeHeader env r.mem a r.tag r.pres with
    | (m, none) => { r with mem := m }
    | (m, some e) => { r with mem := m }.memErr env e

/-- The flag word of R110. Numeric flags stand only with DONE or FAULT_DATA. -/
def flagWord (status : Nat) (invalid ovf trunc : Bool) (d : Bytes) : Nat :=
  let num := if status = stDone ∨ status = stData then
      boolNat invalid + 2 * boolNat ovf + 4 * boolNat trunc else 0
  num + 8 * boolNat (dReplay d) + 16 * boolNat (dRecompute d) + 32 * boolNat (dWatch d)

/-! ### Entries of the running core -/

/-- The window value of a chain of p skein rows at a column (R57). -/
def Core.term (c : Core) (row p col : Nat) : Term :=
  unpackTerm ((List.range p).map (fun j => smGet {} c.skein ((row + j) * 512 + col)))

def putEntries (m : SMap Entry) (row col : Nat) : List Entry → SMap Entry
  | [] => m
  | e :: es => putEntries (smSet {} m (row * 512 + col) e) (row + 1) col es

/-- A window value written to a chain of p rows at a column. -/
def Core.setTerm (c : Core) (row p col : Nat) (t : Term) : Core :=
  { c with skein := putEntries c.skein row col (packTerm p t) }

/-- Every entry of skein rows [lo, hi) set to finite zero (R67, R73). -/
def Core.clearRows (c : Core) (lo hi : Nat) : Core :=
  { c with skein := c.skein.filter (fun e => decide (e.1 < lo * 512) || decide (hi * 512 ≤ e.1)) }

def Core.tag (c : Core) (row : Nat) : BitVec 32 := smGet 0#32 c.tags row
def Core.setTag (c : Core) (row : Nat) (t : BitVec 32) : Core := { c with tags := smSet 0#32 c.tags row t }

/-- Fence counter of a row group (R71). -/
def Core.fence (c : Core) (q : Nat) : Nat := smGet 0 c.fences q

/-- The row groups of some rows have no beat in flight (R71). -/
def Core.fencesClear (c : Core) (rows : List Nat) : Bool := rows.all (fun r => c.fence (r / 16) == 0)

end Sys2Proof.Machine
end

