-- ==== Sys2Proof/Machine/Units.lean ====
section
/-! DEFINITION. What the engine, the vector unit and the DMA engine share: the ring and its fetch (R87, R88, R146), the order of
dispatch (R106), waits and reservations (R184, R186, R189), refusal (R105), and retirement with signals and completion
records (R107, R109, R195). -/

namespace Sys2Proof.Machine

/-! ### Detections that meet a command -/

/-- An uncorrectable error in a cluster's cached line: the line is invalidated, so that the read that met it reads memory again,
and the refetch is counted and recorded (R164, R165, R378). Where the line lies in the slice is open: a free value. -/
def refetchLine (s : State) (cl addr : Nat) (n : FaultNote) : State :=
  match s.translate addr with
  | none => s
  | some p =>
    if (smGet [] s.mem.cache cl).any (fun l => l.1 == p / 256) then
      let b := (Config.syndromeBits s.draws).toNat
      let cell := unitCode 1 1 (cl / 12) (cl % 12) 0 0 (2 * 2 ^ 36 + b % 2 ^ 29 * 8)
      fault { s with mem := { s.mem with cache := smMod [] s.mem.cache cl (fun ls => ls.filter (fun l => decide (l.1 ≠ p / 256))) }
                     rel := { s.rel with sliceRefetch := satAdd s.rel.sliceRefetch 1 } }.draw
        { n with unit := cell, cls := 1, sev := 2, key := b / 2 ^ 96, syn := leBytes 8 addr ++ leBytes 6 (b / 2 ^ 32 % 2 ^ 48) }
    else s

/-- A memory detection of a command takes place before it runs: an uncorrectable error poisons its block, a corrected one is
counted and recorded, one in the shared cache has the line read again (R164, R378, R379). Parity and residue detections act
while the command runs. -/
def preDetect (s : State) (det : Detect) (a : Actor) : State :=
  match det with
  | .cacheUe addr =>
    match a with
    | .core .dma g _ => refetchLine s (g / 8) addr (s.noteOf a { sev := 2, cls := 1 })
    | _ => s
  | .memUe addr => s.poisonAt addr
  | .memCe addr => corrected s (s.noteOf a { sev := 1, cls := 1 }) addr
  | _ => s

/-- Fault records written for a command, oldest first. -/
def writeNotes (s : State) (a : Actor) (opcode : Nat) (notes : List FaultNote) : State :=
  notes.foldl (fun s n => fault s { s.noteOf a n with opcode := opcode }) s

/-! ### Tables of the units -/

def unitWindow (u : UnitKind) : Nat :=
  match u with
  | .engine => 8
  | .vector => 4
  | .dma => 16

/-- Base of a unit's completion sources (R366). -/
def unitSource (u : UnitKind) : Nat :=
  match u with
  | .engine => 0x000
  | .vector => 0x0C0
  | .dma => 0x180

/-- Opcodes a unit lists (R90, R121, R159). -/
def opListed (u : UnitKind) (op : Nat) : Bool :=
  match u with
  | .engine => decide (1 ≤ op) && decide (op ≤ 9)
  | .vector => decide (0x40 ≤ op) && decide (op ≤ 0x4A) || decide (0x50 ≤ op) && decide (op ≤ 0x58) ||
      decide (0x60 ≤ op) && decide (op ≤ 0x64) || decide (0x68 ≤ op) && decide (op ≤ 0x6B) ||
      decide (0x70 ≤ op) && decide (op ≤ 0x72)
  | .dma => decide (0x80 ≤ op) && decide (op ≤ 0x85)

/-- Skein rows [base, base + height) of every iteration of an engine instruction, within 0 to 255; a reserved ply counts as
1-ply (R99, R105). -/
def namedRows (d : Bytes) : List Nat :=
  let p := if [1, 2, 5].contains (dPly d) then dPly d else 1
  let n := if [1, 2, 5].contains (dPly d) then dMExt d * p else dMExt d
  let its := if dCStride d = 0 then min (dBatch d) 1 else min (dBatch d) 256
  let dst := (List.range its).flatMap (fun b => (List.range n).map (fun i => dRow d + b * dCStride d * p + i))
  let rows :=
    if dOpcode d = 0x09 then []
    else if dOpcode d = 0x08 then
      (List.range n).map (fun i => dRow d + i) ++ (List.range n).map (fun i => byteAt d 64 + i)
    else dst
  rows.filter (fun r => decide (r < 256))

/-! ### Finding and changing the instruction -/

def findEntry (w : List WinEntry) (seq : BitVec 64) : Option WinEntry := w.find? (fun e => decide (e.seq = seq))

/-- The instructions of the unit before the one named. -/
def earlier (w : List WinEntry) (seq : BitVec 64) : List WinEntry := w.takeWhile (fun e => decide (e.seq ≠ seq))

def State.unitOf (s : State) (u : UnitKind) (g : Nat) : UnitRing := (s.core g).unit u

/-- The context whose work a core's units run (R84). -/
def State.ownerOf (s : State) (g : Nat) : Nat :=
  match (s.core g).owner with
  | some x => x.val
  | none => 0

/-! ### Refusal (R105) -/

/-- Row tags of the rows a refused or cancelled instruction names lose their valid bit. -/
def clearNamedTags (c : Core) (d : Bytes) : Core :=
  (namedRows d).foldl (fun c r => c.setTag r (tagOff (c.tag r))) c

/-- Tags of the 256 reduction registers from a base lose their valid bit. -/
def clearRedTags (c : Core) (base n : Nat) : Core :=
  (List.range n).foldl (fun c i =>
    if base + i < 256 then { c with redTags := smMod 0#32 c.redTags (base + i) tagOff } else c) c

/-- First register and number of registers a vector instruction names: a reduction, a register drain or a register
transfer (R121, R132). -/
def namedRegs (d : Bytes) : Nat × Nat :=
  if [0x60, 0x61, 0x62, 0x63, 0x68, 0x69, 0x6A, 0x6B].contains (dOpcode d) then
    (byteAt d 25, leAt d 16 2 % 512) else (0, 0)

/-- The tags that the refused instruction of a unit names lose their valid bit (R105, R133). -/
def refuseTags (u : UnitKind) (c : Core) (d : Bytes) : Core :=
  match u with
  | .engine => clearNamedTags c d
  | .vector => clearRedTags c (namedRegs d).1 (namedRegs d).2
  | .dma => c

/-- The reservation an instruction holds is returned when it completes without signalling (R189). -/
def returnReservation (s : State) (u : UnitKind) (g : Nat) (e : WinEntry) : State :=
  if e.reserved then
    let s := returnReserve (endSnapshot s) (trTarget (s.transEntry (s.ownerOf g) (dSigVid e.desc))) (dSigAmt e.desc)
    s.modEntry u g e.seq (fun e => { e with reserved := false })
  else s

/-- The instruction is refused or cancelled: once its rows' fences are clear their tags go and it is done; until then it
holds (R105). -/
def refuse (s : State) (u : UnitKind) (g : Nat) (e : WinEntry) (status : Nat) : State :=
  let s := returnReservation s u g e
  let c := s.core g
  let upd (ph : Phase) (e : WinEntry) : WinEntry :=
    { e with status := BitVec.ofNat 16 status, phase := ph, opcode := BitVec.ofNat 8 (dOpcode e.desc)
             flags := BitVec.ofNat 16 (flagWord status false false false e.desc)
             issueTime := if e.phase = .fetched then s.clkc else e.issueTime }
  if u = .engine && !(c.fencesClear (namedRows e.desc)) then s.modEntry u g e.seq (upd .waiting)
  else (s.setCore g (refuseTags u c e.desc)).modEntry u g e.seq (upd .executed)

/-! ### Dispatch order (R71, R72, R106, R133, R189) -/

/-- The signal of an instruction needs space in a local monotonic counter that it has not reserved yet (R189). -/
def needsReserve (s : State) (g : Nat) (e : WinEntry) : Bool :=
  let t := s.transEntry (s.ownerOf g) (dSigVid e.desc)
  !e.reserved && dSigEn e.desc && decide (dSigAmt e.desc ≠ 0) && trKind t == 0 && (s.ctr (trTarget t)).monotonic

/-- A dispatched instruction is held by a counter: its wait is not granted, or its producer check has not passed. Both holds
are "at dispatch", and stop dispatch of every later instruction (R106, R186, R189; log entry 123). -/
def counterHeld (s : State) (g : Nat) (e : WinEntry) : Bool :=
  decide (e.phase = .waiting) && decide (e.status = 0) && ((dWaitEn e.desc && !e.granted) || needsReserve s g e)

/-- The row groups an engine instruction names, or the registers a vector instruction names (R71, R133). -/
def namedGroups (u : UnitKind) (d : Bytes) : List Nat :=
  match u with
  | .engine => ((namedRows d).map (· / 16)).eraseDups
  | .vector => (List.range (namedRegs d).2).map (fun i => (namedRegs d).1 + i)
  | .dma => []

/-- Some groups are shared. -/
def groupsMeet (a b : List Nat) : Bool := a.any b.contains

/-- The groups that the instructions of a window hold against a later one, oldest first; `none` where one stops every later
instruction. A dispatched instruction that has not issued, or whose beats still issue, holds its groups; one that those
groups stop before its own dispatch holds its groups too and lets others past (R71, R72, R106). A wait, a reservation and
fence_all stop all, and only the engine dispatches past an instruction that has not been dispatched. -/
def heldGroups (s : State) (u : UnitKind) (g : Nat) : List WinEntry → List Nat → Option (List Nat)
  | [], h => some h
  | x :: xs, h =>
    let names := namedGroups u x.desc
    match x.phase with
    | .fetched =>
      if u = .engine && groupsMeet names h && (decide (x.status ≠ 0) || (!(dWaitEn x.desc) && !(dFence x.desc))) then
        heldGroups s u g xs (h ++ names)
      else none
    | .waiting =>
      if counterHeld s g x || (dFence x.desc && decide (x.status = 0)) then none else heldGroups s u g xs (h ++ names)
    | .running => heldGroups s u g xs (h ++ names)
    | .executed | .retired => heldGroups s u g xs h

/-- Dispatched instructions of a unit that have not retired (R106). -/
def dispatched (w : List WinEntry) : List WinEntry :=
  w.filter (fun x => decide (x.phase ≠ .fetched) && decide (x.phase ≠ .retired))

/-- The order of dispatch lets the instruction pass: no earlier one stops it or holds a group it names, a TMUL finds no other
one issuing beats, and the window has room for it (R71, R72, R106). -/
def orderOk (s : State) (u : UnitKind) (g : Nat) (w : List WinEntry) (e : WinEntry) : Bool :=
  let before := earlier w e.seq
  (match heldGroups s u g before [] with
   | none => false
   | some h => !(groupsMeet (namedGroups u e.desc) h)) &&
  !(u == .engine && dOpcode e.desc == 4 && before.any (fun x => decide (x.phase = .running))) &&
  (decide (e.phase ≠ .fetched) || decide ((dispatched w).length < unitWindow u))

/-- State register of a unit: 4 stopped, 3 as many dispatched as it holds, 2 held by a counter, 1 running, 0 idle (R87, R106,
R118, R157, R161). -/
def State.unitState (s : State) (u : UnitKind) (g : Nat) : Nat :=
  let r := s.unitOf u g
  if r.stopped then 4
  else if unitWindow u ≤ (dispatched r.window).length then 3
  else if r.window.any (counterHeld s g) then 2
  else if !r.window.isEmpty || decide (r.head ≠ r.tail) then 1
  else 0

/-! ### Waits -/

/-- What the dispatch checks of an instruction decide. -/
inductive Verdict
  | pass
  | refuse (status : Nat)
  /-- a header read met a detected data error (R102) -/
  | fault (n : FaultNote)
  /-- a remote header has been asked for and its answer is awaited (R78) -/
  | ask
deriving DecidableEq, Repr

/-- How a wait stands. -/
inductive WaitState
  | ready
  | held
  | cancelled
deriving DecidableEq, Repr

/-- The wait of a unit's instruction (R186, R188, R194, R200). -/
def waitOf (s : State) (g : Nat) (u : UnitKind) (e : WinEntry) : WaitState :=
  let x := s.ownerOf g
  if !(dWaitEn e.desc) || e.granted then .ready
  else if e.cancelled || s.waitMarked x (dWaitVid e.desc) then .cancelled
  else
    let t := s.transEntry x (dWaitVid e.desc)
    if trKind t = 2 then
      let b := s.barrier x (trTarget t)
      let m := memberIndex (match u with
        | .engine => .core .engine (Fin.ofNat 192 g) e.seq
        | .vector => .core .vector (Fin.ofNat 192 g) e.seq
        | .dma => .core .dma (Fin.ofNat 192 g) e.seq)
      if b.e0.contains m || b.e1.contains m then .held else .ready
    else .held

/-- The producer check of R189: space for the amount, or no reservation to make. -/
def reserveOk (s : State) (g : Nat) (e : WinEntry) : Bool :=
  let c := s.ctr (trTarget (s.transEntry (s.ownerOf g) (dSigVid e.desc)))
  !(needsReserve s g e) || decide (c.diff + c.reserved.toNat + dSigAmt e.desc ≤ (c.buffers.toNat : Int))

/-- The instruction reserves the space it will signal into (R189). -/
def takeReserve (s : State) (u : UnitKind) (g : Nat) (e : WinEntry) : State :=
  let p := trTarget (s.transEntry (s.ownerOf g) (dSigVid e.desc))
  let c := s.ctr p
  if needsReserve s g e then
    ((endSnapshot s).setCtr p { c with reserved := c.reserved + BitVec.ofNat 32 (dSigAmt e.desc) }).modEntry u g e.seq
      (fun e => { e with reserved := true })
  else s

/-- The supply-dip window of a core's die is open (R394). -/
def State.dipOpen (s : State) (g : Nat) : Bool := (smGet {} s.power.dips (g / 96)).window

/-- More than 16 dips of a core's die have begun in this second: nothing of it is recomputed for the rest of it (R395). -/
def State.dipOverrun (s : State) (g : Nat) : Bool :=
  let d : Dip := smGet {} s.power.dips (g / 96)
  decide (16 < d.inSecond) && decide (d.second = clkcSecond s.clkc)

/-- The actor that an instruction of a unit is. -/
def unitActor (u : UnitKind) (g : CoreId) (seq : BitVec 64) : Actor := .core u g seq

/-! ### Running an instruction -/

/-- Packets of an instruction sent with it as their owner. The last one to the module that its kind 1 signal names carries
the trailer in its tail, split in two where it has no room (R195, R275). -/
def sendAll (s : State) (a : Actor) (entry : Nat) (tail : Option (Nat × Nat)) (count : Nat) (trunc : Bool) :
    List (Nat × Nat × Nat × Bytes × Nat) → State
  | [] => s
  | (dst, typ, addr, pay, dest) :: rest =>
    match rest, tail with
    | [], some (ctx, amt) =>
      let tr (n : Nat) := trailerBytes n ctx false amt (trTarget entry % 4096)
      if pay.length + 8 ≤ 384 then sendPacket s dst typ addr (pay ++ tr count) true a dest trunc
      else
        let s := sendPacket s dst typ addr (pay.take 192) false a dest
        sendPacket s dst typ (addr + 192) (pay.drop 192 ++ tr (count + 1)) true a (dest + 192) trunc
    | _, _ => sendAll (sendPacket s dst typ addr pay false a dest) a entry tail count trunc rest

/-- The signal of the instruction rides in the tail of its last packet: it names the module its data went to, and its
amount fits (R195, R275). -/
def ridesTail (s : State) (g : Nat) (e : WinEntry) (r : Run) : Bool :=
  let t := s.transEntry (s.ownerOf g) (dSigVid e.desc)
  dSigEn e.desc && trValid t && trKind t == 1 && !r.packets.isEmpty && decide (r.status = stDone) &&
  decide (0 < dSigAmt e.desc) && decide (dSigAmt e.desc ≤ 127) &&
  r.packets.all (fun p => p.1 == trPeerMod t && p.2.1 != 1)

/-- The instruction has issued and its effects are done: memory, core, addends, packets, fault records and what it will
report (R107). `worked` says that it did a beat, a read or a write: issue_time is then now, and else its dispatch (R109). -/
def finish (s : State) (u : UnitKind) (g : CoreId) (e : WinEntry) (r : Run) (ph : Phase) (worked : Bool) : State :=
  let none := r.packets ≠ [] ∧ s.fabric.moduleId.isNone
  let r := if none then { r with status := stUnreachable } else r
  let ride := ridesTail s g e r
  let t := s.transEntry (s.ownerOf g) (dSigVid e.desc)
  let s := { s with mem := r.mem, addends := s.addends ++ r.addends
                    rel := { s.rel with slotFailures := satAdd s.rel.slotFailures r.slotFails } }
  let s := if none then { s with fabric := { s.fabric with unreachable := satAdd s.fabric.unreachable 1 } }
    else sendAll s (unitActor u g e.seq) t (if ride then some (trPeerCtx t, dSigAmt e.desc) else .none)
      r.packets.length false r.packets
  let s := s.setCore g r.core
  let s := s.modEntry u g e.seq (fun e =>
    { e with phase := ph, status := BitVec.ofNat 16 r.status
             flags := BitVec.ofNat 16 (flagWord r.status r.invalid r.ovf r.trunc e.desc)
             event := r.event, flushed := r.flushed, divZero := r.divZero, beats := r.pos, tailed := ride
             opcode := BitVec.ofNat 8 (dOpcode e.desc)
             issueTime := if worked && decide (e.phase ≠ .running) then s.clkc else e.issueTime })
  writeNotes s (unitActor u g e.seq) (dOpcode e.desc) r.notes

/-- What distinguishes the instructions of a unit at dispatch. -/
structure OpRules where
  /-- opcode of the instruction -/
  opcode : Nat
  /-- it is empty: it waits, fences and signals and has no other effect (R104, R160) -/
  empty  : Bool
  /-- it is held by row fences or by a dip window (R71, R394) -/
  held   : Bool
deriving DecidableEq, Repr

/-- One command for an instruction of a unit. It does nothing unless the instruction has been fetched under that opcode and
the order of dispatch lets it pass. At its first command the dispatch checks decide; then it waits, reserves, holds on
fence_all and its fences with its wait granted, and issues. `check`, `rules` and `body` are the instruction's own. -/
def unitOp (u : UnitKind) (opcode : Nat) (g : CoreId) (seq : BitVec 64) (det : Detect) (s : State)
    (check : State → WinEntry → Verdict) (ask : State → WinEntry → State)
    (rules : State → WinEntry → OpRules) (body : State → WinEntry → Run → Run) (phase : Run → Phase) : State :=
  let ring := s.unitOf u g
  match findEntry ring.window seq with
  | none => s
  | some e =>
    if dOpcode e.desc ≠ opcode || ring.stopped || !s.present g || (decide (e.status ≠ 0) && decide (e.phase ≠ .running)) ||
        decide (e.phase = .executed) || decide (e.phase = .retired) || !(orderOk s u g ring.window e) then s
    else
      let s := preDetect s det (unitActor u g seq)
      let verdict := if e.phase = .fetched then check s e else .pass
      match verdict with
      | .ask => ask s e
      | .fault n =>
        writeNotes (s.modEntry u g seq (fun e => { e with
          phase := .executed, status := BitVec.ofNat 16 stData, opcode := BitVec.ofNat 8 opcode
          flags := BitVec.ofNat 16 (flagWord stData false false false e.desc), issueTime := s.clkc }))
          (unitActor u g seq) opcode [n]
      | .refuse st => refuse s u g e st
      | .pass =>
        let s := s.modEntry u g seq (fun e => if e.phase = .fetched then { e with phase := .waiting, issueTime := s.clkc } else e)
        match waitOf s g u e with
        | .cancelled => refuse (s.waitBlame (s.ownerOf g) (dWaitVid e.desc) (unitActor u g seq)) u g e stCancelled
        | .held => s
        | .ready =>
          let stay (s : State) : State := s.modEntry u g seq (fun e => { e with granted := e.granted || dWaitEn e.desc })
          if !(reserveOk s g e) then stay s
          else
            let s := takeReserve s u g e
            let r := rules s e
            let allRetired := (earlier ring.window seq).all (fun x => decide (x.phase = .retired))
            if (dFence e.desc && !allRetired) || r.held then stay s
            else if r.empty then
              finish s u g e { mem := s.mem, core := s.core g, status := stEmpty } .executed false
            else
              let run := body s e { mem := s.mem, core := s.core g, status := e.status.toNat, pos := e.beats, event := e.event
                                    invalid := e.flags.getLsbD 0, ovf := e.flags.getLsbD 1
                                    trunc := e.flags.getLsbD 2 }
              finish s u g e run (phase run) (u != .engine || opcode != 9)

/-! ### Fetch (R88, R146) -/

/-- Local counters that a descriptor's wait and signal name; `true` for the wait (R232). -/
def namedCounters (s : State) (x : Nat) (d : Bytes) : List (Nat × Bool) :=
  let one (en : Bool) (vid : Nat) (wait : Bool) : List (Nat × Bool) :=
    let t := s.transEntry x vid
    if en && trValid t && trKind t == 0 then [(trTarget t, wait)] else []
  one (dWaitEn d) (dWaitVid d) true ++ one (dSigEn d) (dSigVid d) false

/-- The host descriptor that an instruction belongs to names the counters that the instruction does (R232). -/
def noteNamed (s : State) (a : Actor) (d : Bytes) : State :=
  match s.jobOf a with
  | none => s
  | some (x, q, seq) => s.modDesc x q seq (fun k => { k with named := (k.named ++ namedCounters s x d).eraseDups })

/-- A unit fetches its next descriptor. A slot that cannot be read completes with FAULT_DATA; a wrong seq or an unlisted
opcode is refused once its turn has come. Every fetch consumes one sequence number. -/
def fetch (u : UnitKind) (g : CoreId) (det : Detect) (s : State) : State :=
  let s := preDetect s det (unitActor u g (s.unitOf u g).nextSeq)
  let r := s.unitOf u g
  let n := 2 ^ r.log2.toNat
  if r.stopped || !s.present g || decide (r.head = r.tail) || decide ((r.head - r.release).toNat ≥ n) then s
  else
    let a := localBase g + r.base.toNat + r.head.toNat % n * 128
    let bad (m : FaultNote) : State :=
      let e : WinEntry := { seq := r.nextSeq, index := r.head, desc := List.replicate 128 0#8, phase := .executed
                            status := BitVec.ofNat 16 stData, issueTime := s.clkc }
      let s := s.setCore g ((s.core g).setUnit u
        { r with head := r.head + 1, nextSeq := r.nextSeq + 1, window := r.window ++ [e] })
      writeNotes s (unitActor u g e.seq) 0 [m]
    match det, readMem s s.mem 128 a with
    | .parity _, _ => bad (parityNote s)
    | _, .error err => bad (memErrNote s { sev := 3, cls := 2 } err)
    | _, .ok d =>
      let listed := opListed u (dOpcode d)
      let ok := decide (dSeq d = r.nextSeq.toNat) && listed
      let e : WinEntry :=
        { seq := r.nextSeq, index := r.head, desc := d, phase := .fetched
          status := if ok then 0 else BitVec.ofNat 16 stBad
          flags := if ok then 0 else BitVec.ofNat 16 (flagWord stBad false false false d)
          opcode := if listed then BitVec.ofNat 8 (dOpcode d) else 0 }
      noteNamed (s.setCore g ((s.core g).setUnit u
        { r with head := r.head + 1, nextSeq := r.nextSeq + 1, window := r.window ++ [e] })) (unitActor u g e.seq) d

/-! ### Retirement (R107, R109, R195) -/

/-- The 32-byte completion record of R109. -/
def completionRecord (g : Nat) (e : WinEntry) : Bytes :=
  leBytes 8 e.seq.toNat ++ leBytes 2 e.status.toNat ++ leBytes 2 e.flags.toNat ++ leBytes 1 e.opcode.toNat ++
  leBytes 1 g ++ [0#8, 0#8] ++ leBytes 8 e.issueTime.toNat ++ leBytes 8 e.retireTime.toNat

/-- Firmware has put everything it wrote into a core's rings, and consumed every record of it. -/
def ringsIdle (c : Core) : Bool :=
  [c.engine, c.vector, c.dma].all (fun r => r.window.isEmpty && decide (r.head = r.tail))

/-- The next descriptor of a core's work goes into its ring, once what went before has its record and no sampled tile waits to be
recomputed; what does not complete well ends the rest (R88, R146, R173, R261; log entry 142). -/
def issueNext (s : State) (g : Nat) : State :=
  let c := s.core g
  match c.work with
  | [] => s
  | (u, d) :: rest =>
    if c.watch.isSome || !(ringsIdle c) then s
    else
      let r := c.unit u
      let a := localBase g + r.base.toNat + r.tail.toNat % 2 ^ r.log2.toNat * 128
      let s := { s with mem := s.mem.putBytes a (overlay d 0 (leBytes 8 r.nextSeq.toNat)) }
      s.setCore g ({ c with work := rest }.setUnit u { r with tail := r.tail + 1, release := r.compHead })

/-- The record of the oldest instruction is written once it has retired, and after it those of its successors (R107); the
first number bounds them. -/
def writeRecords (u : UnitKind) (g : CoreId) : Nat → State → State
  | 0, s => s
  | n + 1, s =>
    let r := s.unitOf u g
    match r.window with
    | [] => s
    | e :: rest =>
      if e.phase ≠ .retired then s
      else
        let a := localBase g + r.cbase.toNat + e.index.toNat % 2 ^ r.log2.toNat * 32
        let s := { s with mem := s.mem.putBytes a (completionRecord g e) }
        let s := s.setCore g ((s.core g).setUnit u
          { r with window := rest, compHead := e.index + 1, retired := e.seq + 1 })
        let s := if dIrq e.desc then raise s (unitSource u + g) else s
        let s := s.blame (unitActor u g e.seq) e.status
        let s := match s.jobOf (unitActor u g e.seq) with
          | some (x, q, sq) => s.modDesc x q sq (fun d => { d with flags := d.flags ||| e.flags })
          | none => s
        let s := if 2 ≤ e.status.toNat then s.setCore g { s.core g with work := [] } else s
        writeRecords u g n (issueNext s g)

/-- Counters of the engine: each numeric event counts once for an instruction, flushes by element (R53). -/
def countNumeric (c : Core) (e : WinEntry) : Core :=
  let i := e.flags.getLsbD 0
  let o := e.flags.getLsbD 1
  let t := e.flags.getLsbD 2
  let f := decide (0 < e.flushed)
  { c with
    invalid := satAdd c.invalid (boolNat i), overflow := satAdd c.overflow (boolNat o)
    truncated := satAdd c.truncated (boolNat t), flush := satAdd c.flush e.flushed
    sticky := c.sticky ||| BitVec.ofNat 4 (boolNat i + 2 * boolNat o + 4 * boolNat t + 8 * boolNat f) }

/-- Counters of the vector unit (R136). -/
def countVector (c : Core) (e : WinEntry) : Core :=
  { c with
    vecInvalid := satAdd c.vecInvalid (boolNat (e.flags.getLsbD 0))
    vecOverflow := satAdd c.vecOverflow (boolNat (e.flags.getLsbD 1))
    vecDivZero := satAdd c.vecDivZero e.divZero }

/-- A capture written over the one before; overwritten counts while that one was valid (R65, R112). -/
def captureWrite (old new : Capture) : Capture :=
  { new with overwritten := if old.valid then satAdd old.overwritten 1 else old.overwritten }

/-- Counters and capture at the retirement of an instruction, and the numeric-invalid source (R53, R66, R112, R136). -/
def reportNumeric (s : State) (u : UnitKind) (g : CoreId) (e : WinEntry) : State :=
  match u with
  | .dma => s
  | .engine =>
    let c := countNumeric (s.core g) e
    match e.event with
    | none => s.setCore g c
    | some cap => raise (s.setCore g { c with capture := captureWrite c.capture cap }) (0x240 + g)
  | .vector =>
    let c := countVector (s.core g) e
    match e.event with
    | none => s.setCore g c
    | some cap => raise (s.setCore g { c with vcapture := captureWrite c.vcapture cap }) (0x240 + g)

/-- The rows or registers of two instructions of a unit meet. -/
def namesMeet (u : UnitKind) (a b : Bytes) : Bool :=
  match u with
  | .engine => (namedRows a).any (fun r => (namedRows b).contains r)
  | _ => decide ((namedRegs a).1 < (namedRegs b).1 + (namedRegs b).2) && decide ((namedRegs b).1 < (namedRegs a).1 + (namedRegs a).2)

/-- The instruction ends its tile or chain: TDRN, TSAV, TATM; VRDRN, VRSAV, VRATM (R393). -/
def endsTile (u : UnitKind) (op : Nat) : Bool :=
  match u with
  | .engine => decide (5 ≤ op) && decide (op ≤ 7)
  | .vector => op == 0x68 || op == 0x69 || op == 0x6B
  | .dma => false

/-- The instruction begins its rows or registers: TZRO, TPRE, TRST; a reduction with red_init, VRRST (R393). -/
def beginsTile (u : UnitKind) (op : Nat) (d : Bytes) : Bool :=
  match u with
  | .engine => decide (1 ≤ op) && decide (op ≤ 3)
  | .vector => op == 0x6A || (decide (0x60 ≤ op) && decide (op ≤ 0x63) && decide (byteAt d 26 / 16 % 4 ≠ 0))
  | .dma => false

/-- The recompute set holds a member of the tile that an instruction belongs to. -/
def Dip.holds (k : Dip) (u : UnitKind) (g : Nat) (d : Bytes) : Bool :=
  k.recompute.any (fun r => r.1 == g && decide (r.2.1 = u) && namesMeet u r.2.2.2 d)

/-- The instruction enters the recompute set when it retires while its die's window is open: TMUL, TPRE, TRST, TMOV and vector
instructions of themselves, the end of a tile with the rest of the tile (R393). -/
def inDip (s : State) (u : UnitKind) (g : CoreId) (e : WinEntry) : Bool :=
  let op := dOpcode e.desc
  s.dipOpen g && decide (e.status = 0) &&
  match u with
  | .engine => [2, 3, 4, 8].contains op || (endsTile .engine op && (smGet ({} : Dip) s.power.dips (g / 96)).holds .engine g e.desc)
  | .vector => true
  | .dma => false

/-- The instruction has done what it did, but its only signal goes to a peer and the module has no ID to send it under
(R267). -/
def signalLost (s : State) (g : CoreId) (e : WinEntry) : Bool :=
  let t := s.transEntry (s.ownerOf g) (dSigVid e.desc)
  s.fabric.moduleId.isNone && decide (e.status.toNat < 2) && dSigEn e.desc && trValid t && decide (trKind t = 1) && !e.tailed &&
  decide (dSigAmt e.desc ≠ 0)

/-- The signal of a retiring instruction: produced, or held by a dip window, or replaced by a cancel mark (R105, R195,
R394). It is then on its way to its counter. -/
def produceSignal (s : State) (u : UnitKind) (g : CoreId) (e : WinEntry) : State :=
  let x := s.ownerOf g
  let t := s.transEntry x (dSigVid e.desc)
  let good := decide (e.status.toNat = stDone) || decide (e.status.toNat = stEmpty)
  let a := unitActor u g e.seq
  let msg : SignalMsg :=
    { ctx := Fin.ofNat 256 x, vid := BitVec.ofNat 12 (dSigVid e.desc), amount := BitVec.ofNat 8 (dSigAmt e.desc)
      cancel := !good, reserved := e.reserved && good, src := a, member := memberIndex a }
  if !(dSigEn e.desc) || !(trValid t) || (e.tailed && good) then s
  else if good && inDip s u g e then
    let dip : Dip := smGet {} s.power.dips (g / 96)
    let held := dip.heldSignals ++ [{ core := g, unit := u, seq := e.seq, msg := msg }]
    { s with power := { s.power with dips := smSet {} s.power.dips (g.val / 96) { dip with heldSignals := held } } }
  else if trKind t = 1 then
    if good && decide (dSigAmt e.desc = 0) then s else sendSignal s t (!good) (dSigAmt e.desc) .command
  else if good && decide (dSigAmt e.desc = 0) then s
  else if !good && trKind t = 2 then poisonBarrier s x (trTarget t) false
  else { s with signals := s.signals ++ [msg] }

/-- The instruction and the earlier ones of its tile enter the recompute set of an open dip window (R393). -/
def enterDip (s : State) (u : UnitKind) (g : CoreId) (e : WinEntry) : State :=
  if inDip s u g e then
    let dip : Dip := smGet {} s.power.dips (g / 96)
    let tile := (s.core g).open_.filter (fun o => decide (o.1 = u) && namesMeet u o.2.2 e.desc &&
      !(dip.recompute.any (fun r => r.1 == g.val && decide (r.2.1 = u) && decide (r.2.2.1 = o.2.1))))
    let set := dip.recompute ++ tile.map (fun o => (g.val, o)) ++ [(g.val, u, e.seq, e.desc)]
    { s with power := { s.power with dips := smSet {} s.power.dips (g.val / 96) { dip with recompute := set } } }
  else s

/-- A retired instruction joins the tiles that have not ended, or ends or begins one (R393). -/
def noteTile (s : State) (u : UnitKind) (g : CoreId) (e : WinEntry) : State :=
  let op := dOpcode e.desc
  let c := s.core g
  let rest := if endsTile u op || beginsTile u op e.desc then
      c.open_.filter (fun o => !(decide (o.1 = u) && namesMeet u o.2.2 e.desc))
    else c.open_
  let joins := match u with
    | .engine => op ≠ 9 && !(endsTile u op)
    | .vector => (namedRegs e.desc).2 ≠ 0 && !(endsTile u op)
    | .dma => false
  if e.status.toNat = stDone then
    s.setCore g { c with open_ := if joins then rest ++ [(u, e.seq, e.desc)] else rest }
  else s

/-- A retiring instruction as dips see it. -/
def noteDip (s : State) (u : UnitKind) (g : CoreId) (e : WinEntry) : State := noteTile (enterDip s u g e) u g e

/-- Nothing the instruction announces is still under way: addends applied, packets acknowledged, last beats written
(R80, R107, R195). -/
def effectsDone (s : State) (u : UnitKind) (g : CoreId) (e : WinEntry) : Bool :=
  !(s.addends.any (fun a => decide (a.src = unitActor u g e.seq))) && !(s.outstanding (unitActor u g e.seq)) &&
  (u != .engine || decide (dOpcode e.desc ≠ 4) || (s.core g).fencesClear (namedRows e.desc))

/-- A status of class REFUSED or CANCELLED_DEPENDENCY counts as refused (R113). -/
def countsRefused (st : Nat) : Bool := st / 256 == 1 || st == stCancelled

/-- An instruction retires: its last effect is complete; counters, capture, signal or cancel mark, and the completion
records that are due (R107, R109, R112). -/
def retire (u : UnitKind) (g : CoreId) (seq : BitVec 64) (s : State) : State :=
  let ring := s.unitOf u g
  match findEntry ring.window seq with
  | none => s
  | some e =>
    let refusedHeld := decide (e.status ≠ 0) && (decide (e.phase = .fetched) || decide (e.phase = .waiting))
    if !s.present g then s
    else if refusedHeld && !(orderOk s u g ring.window e && (u != .engine || (s.core g).fencesClear (namedRows e.desc))) then s
    else if !refusedHeld && !(decide (e.phase = .executed) && effectsDone s u g e) then s
    else
      let s := if refusedHeld && countsRefused e.status.toNat then s.setCore g (refuseTags u (s.core g) e.desc) else s
      let e := { e with opcode := if refusedHeld && !(opListed u (dOpcode e.desc)) then 0 else e.opcode
                        issueTime := if e.phase = .fetched then s.clkc else e.issueTime }
      let e := if inDip s u g e && s.dipOverrun g then { e with status := BitVec.ofNat 16 stData } else e
      let lost := signalLost s g e
      let s := if lost then { s with fabric := { s.fabric with unreachable := satAdd s.fabric.unreachable 1 } } else s
      let e := if lost then { e with status := BitVec.ofNat 16 stUnreachable } else e
      let s := s.modEntry u g seq (fun x => { x with phase := .retired, retireTime := s.clkc, opcode := e.opcode, status := e.status, issueTime := e.issueTime })
      let good := decide (e.status.toNat = stDone) || decide (e.status.toNat = stEmpty)
      let s := if good then s else returnReservation s u g e
      let s := reportNumeric s u g e
      let s := produceSignal s u g e
      let s := noteDip s u g e
      let r := s.unitOf u g
      let s := if countsRefused e.status.toNat then
          s.setCore g ((s.core g).setUnit u { r with refused := satAdd r.refused 1 }) else s
      writeRecords u g (ring.window.length + 1) s

end Sys2Proof.Machine
end

