-- ==== Sys2Proof/Machine/EngineChecks.lean ====
section
/-! DEFINITION. The dispatch checks of the engine's instructions (R102), step by step. -/

namespace Sys2Proof.Machine

/-! ### Descriptor fields of bytes 64 to 127 (R91 to R97) -/

def tFormat (d : Bytes) : Nat := byteAt d 64
def tSign (d : Bytes) : Bool := bitAt (byteAt d 65) 0
def tATrans (d : Bytes) : Bool := bitAt (byteAt d 65) 1
def tBTrans (d : Bytes) : Bool := bitAt (byteAt d 65) 2
def tKOrg (d : Bytes) : Nat := leAt d 68 4
def tKExt (d : Bytes) : Nat := leAt d 72 4
def tKBnd (d : Bytes) : Nat := leAt d 76 4
def tAAddr (d : Bytes) : Nat := leAt d 80 3
def tBAddr (d : Bytes) : Nat := leAt d 83 3
def tARow (d : Bytes) : Nat := leAt d 86 3
def tBRow (d : Bytes) : Nat := leAt d 89 3
def tABat (d : Bytes) : Int := sAt d 92 4
def tBBat (d : Bytes) : Int := sAt d 96 4
def tASc (d : Bytes) : Nat := leAt d 100 3
def tBSc (d : Bytes) : Nat := leAt d 103 3
def tAScRow (d : Bytes) : Nat := leAt d 106 2
def tBScRow (d : Bytes) : Nat := leAt d 108 2
def tAScBat (d : Bytes) : Int := sAt d 112 4
def tBScBat (d : Bytes) : Int := sAt d 116 4
def tHint (d : Bytes) : Nat := leAt d 120 6
def tKEff (d : Bytes) : Nat := clampExt (tKBnd d) (tKOrg d) (tKExt d)

/-- TPRE form: residual (R93). -/
def pResidual (d : Bytes) : Bool := bitAt (byteAt d 65) 0
def pInternal (d : Bytes) : Bool := bitAt (byteAt d 65) 1
def pSrc (d : Bytes) : Nat := leAt d 68 6
def pRow (d : Bytes) : Nat := leAt d 76 4
def pBat (d : Bytes) : Int := sAt d 80 4
def pHdr (d : Bytes) : Nat := leAt d 84 6

def oMode (d : Bytes) : Nat := byteAt d 65 % 8
def oClear (d : Bytes) : Bool := bitAt (byteAt d 65) 3
def oScale (d : Bytes) : Int := sAt d 66 1
def oAddr (d : Bytes) : Nat := leAt d 68 8
def oRow (d : Bytes) : Nat := leAt d 76 4
def oBat (d : Bytes) : Int := sAt d 80 4
def oHdr (d : Bytes) : Nat := leAt d 84 8
def oTensor (d : Bytes) : Nat := leAt d 92 4
def oStep (d : Bytes) : Nat := leAt d 96 4
def oStream (d : Bytes) : Nat := leAt d 100 2
def oLinBase (d : Bytes) : Nat := leAt d 104 6
def oLinBat (d : Bytes) : Nat := leAt d 112 6
def oLinRow (d : Bytes) : Nat := leAt d 120 6

/-- A target address names a place by fabric (R144). -/
def tgRemote (a : Nat) : Bool := bitAt a 62
def tgModule (a : Nat) : Nat := bitsAt a 48 14
def tgAddr (a : Nat) : Nat := a % 2 ^ 48

/-- Reserved bit 63, and a module ID with remote = 0 (R91, R144). -/
def targetOk (a : Nat) : Bool := !(bitAt a 63) && (tgRemote a || decide (tgModule a = 0))

/-! ### Step 1: reserved fields (R4, R89, R90) -/

/-- Bits that no engine opcode uses in bytes 0 to 63 (R89). -/
def engineHeaderOk (d : Bytes) : Bool :=
  hdrReservedOk d && byteAt d 15 / 64 == 0 && byteAt d 17 == 0 && leAt d 18 2 / 512 == 0 && leAt d 20 2 / 1024 == 0 &&
  byteAt d 22 / 32 == 0 && byteAt d 23 == 0 && leAt d 26 2 == 0 && leAt d 48 2 / 512 == 0 && zeroRange d 50 64

/-- Fields an opcode does not use are zero (R90 to R97); of the scale fields of a TMUL, the two addresses alone are reserved for the
other formats (R91). -/
def engineReservedOk (d : Bytes) : Bool :=
  let unbounded := byteAt d 15 % 64 == 0 && zeroRange d 32 48
  match dOpcode d with
  | 0x01 => engineHeaderOk d && unbounded && zeroRange d 64 128
  | 0x02 => engineHeaderOk d && byteAt d 65 / 2 == 0 && leAt d 66 2 == 0 && leAt d 74 2 == 0 &&
      (pResidual d || pRow d == 0) && zeroRange d 90 128
  | 0x03 => engineHeaderOk d && !(bitAt (byteAt d 65) 0) && byteAt d 65 / 4 == 0 && leAt d 66 2 == 0 &&
      leAt d 74 2 == 0 && zeroRange d 90 128
  | 0x04 => engineHeaderOk d && byteAt d 65 / 8 == 0 && leAt d 66 2 == 0 && leAt d 110 2 == 0 && leAt d 126 2 == 0 &&
      (isMx (tFormat d) || zeroRange d 100 106)
  | 0x05 => engineHeaderOk d && byteAt d 65 / 16 == 0 && byteAt d 67 == 0 && leAt d 74 2 == 0 && leAt d 90 2 == 0 &&
      leAt d 102 2 == 0 && leAt d 110 2 == 0 && leAt d 118 2 == 0 && leAt d 126 2 == 0
  | 0x06 => engineHeaderOk d && oMode d == 0 && byteAt d 65 / 16 == 0 && leAt d 66 2 == 0 && leAt d 74 2 == 0 &&
      leAt d 90 2 == 0 && zeroRange d 92 128
  | 0x07 => engineHeaderOk d && oMode d == 0 && byteAt d 65 / 16 == 0 && leAt d 66 2 == 0 && targetOk (oAddr d) &&
      targetOk (oHdr d) && zeroRange d 92 128
  | 0x08 => engineHeaderOk d && unbounded && leAt d 48 2 == 0 && byteAt d 65 / 2 == 0 && zeroRange d 66 128
  | _ => hdrReservedOk d && byteAt d 15 / 64 == 0 && zeroRange d 16 128

/-! ### Step 2: combinations, spans and ranges -/

/-- A local byte range lies in the 16 MiB of local SRAM (R92). -/
def localRange (lo hi : Int) : Bool := decide (0 ≤ lo) && decide (hi ≤ 2 ^ 24)

/-- Bytes that n elements of a format take; FP4 packs two to a byte (R92). -/
def elemBytes (code n : Nat) : Nat := (fmtBits code * n + 7) / 8

/-- Span of a strided local array over all iterations: `outer` rows of `inner` contiguous elements (R92). -/
def spanOk (code base row outer inner batch : Nat) (bstride : Int) : Bool :=
  if outer = 0 ∨ inner = 0 ∨ batch = 0 then true
  else
    let last : Int := (batch - 1 : Nat) * bstride
    let top : Int := base + (outer - 1) * row + elemBytes code inner
    localRange (base + min 0 last) (top + max 0 last)

/-- Rows of every iteration lie within the skein (R58, R99). -/
def rowSpanOk (d : Bytes) : Bool :=
  let p := dPly d
  decide (dMExt d ≤ 256) && decide (dNExt d ≤ 512) &&
  decide (dRow d + (dBatch d - 1) * dCStride d * p + dMExt d * p ≤ 256)

/-- TMUL's own fields: format combination, alignment, local ranges, MX K origin (R26, R29, R32, R92). -/
def tmulFieldsOk (d : Bytes) : Bool :=
  let f := tFormat d
  let al (n : Int) := decide (n % 64 = 0)
  operandFmt f &&
  (match window f (dClass d) (dPly d) with
   | none => false
   | some (_, l, _, _) =>
     match l with
     | none => true
     | some l => decide (dLsb d = l)) &&
  al (tAAddr d) && al (tBAddr d) && al (tARow d) && al (tBRow d) && al (tABat d) && al (tBBat d) &&
  (if tATrans d then spanOk f (tAAddr d) (tARow d) (tKExt d) (dMExt d) (dBatch d) (tABat d)
   else spanOk f (tAAddr d) (tARow d) (dMExt d) (tKExt d) (dBatch d) (tABat d)) &&
  (if tBTrans d then spanOk f (tBAddr d) (tBRow d) (dNExt d) (tKExt d) (dBatch d) (tBBat d)
   else spanOk f (tBAddr d) (tBRow d) (tKExt d) (dNExt d) (dBatch d) (tBBat d)) &&
  (!(isMx f) || (tKOrg d % 32 == 0 &&
    spanOk 0x0B (tASc d) (tAScRow d) (dMExt d) (ceilDiv (tKExt d) 32) (dBatch d) (tAScBat d) &&
    spanOk 0x0B (tBSc d) (tBScRow d) (ceilDiv (tKExt d) 32) (dNExt d) (dBatch d) (tBScBat d))) &&
  (dClass d != 1 || tHint d % 64 == 0)

/-- Iterations over which ranges are checked: one suffices when the batch stride is zero. -/
def itersOf (d : Bytes) (stride : Int) : Nat := if stride = 0 then min (dBatch d) 1 else dBatch d

/-- Every row of `bytes` bytes, at base + b × bstride + t × row, lies in one region and meets no refused place (R139). -/
def rowsInMap (s : State) (base : Nat) (row : Nat) (bstride : Int) (its rows bytes : Nat) : Bool :=
  if its = 0 ∨ rows = 0 ∨ bytes = 0 then true
  else match s.regionId base with
    | none => false
    | some reg =>
      (List.range its).all (fun b => (List.range rows).all (fun t =>
        let a : Int := base + b * bstride + t * row
        decide (0 ≤ a) && s.rangeOk (some reg) a.toNat bytes))

def hdrRangeOk (s : State) (a : Nat) : Bool := a % 64 == 0 && s.rangeOk none a 64

/-- The element is empty at step 5: no iteration or an effective extent of zero; TZRO and TMOV have none (R98, R102; log
entry 118). -/
def engineEmpty (d : Bytes) : Bool :=
  match dOpcode d with
  | 0x01 | 0x08 => dBatch d == 0
  | 0x04 => dBatch d == 0 || dMEff d == 0 || dNEff d == 0 || tKEff d == 0
  | 0x09 => true
  | _ => dBatch d == 0 || dMEff d == 0 || dNEff d == 0

/-- The Philox seed of a tensor in the context's seed table (R240). -/
def State.seedOf (s : State) (x tensor : Nat) : Option Nat :=
  match (s.ctx x).plan with
  | none => none
  | some p => (p.seeds.find? (fun r => r.1.toNat == tensor)).map (fun r => r.2.1.toNat)

/-- A target address of a TATM does not name local SRAM or the shared cache, which have no skein atomic unit; the windows
of R138 are alike on every module (R79; log entry 117). -/
def atomicTarget (a : Nat) : Bool :=
  !(decide (0x100000000000 ≤ a) && decide (a < 0x1000C0000000)) &&
  !(decide (0x100100000000 ≤ a) && decide (a < 0x100400000000))

/-- Step 2 of R102 for the engine, TMOV's row-tag conditions apart. -/
def engineStep2 (s : State) (g : Nat) (d : Bytes) : Bool :=
  let x := s.ownerOf g
  let op := dOpcode d
  let eb := fmtBits (byteAt d 64) / 8
  let sync := syncFieldsOk s x g (dWaitEn d) (dWaitVid d) (dSigEn d) (dSigVid d) (dSigAmt d)
  let shaped := match (s.ctx x).plan with
    | none => false
    | some p => decide (dShape d < p.shapes.length)
  let cls := classOk (dClass d) (dPly d) (dLsb d)
  let saved := savedPly (byteAt d 64) == some (dPly d)
  sync &&
  match op with
  | 0x01 => cls && rowSpanOk d
  | 0x02 => cls && preloadFmt (byteAt d 64) && rowSpanOk d && shaped && hdrRangeOk s (pHdr d) &&
      (engineEmpty d || rowsInMap s (pSrc d) (if pResidual d then pRow d else 0) (pBat d) (itersOf d (pBat d))
        (if pResidual d then dMEff d else 1) (elemBytes (byteAt d 64) (dNEff d)))
  | 0x03 => cls && saved && rowSpanOk d && shaped && hdrRangeOk s (pHdr d) &&
      (engineEmpty d || rowsInMap s (pSrc d) (pRow d) (pBat d) (itersOf d (pBat d)) (dMEff d) (eb * dNEff d))
  | 0x04 => tmulFieldsOk d && rowSpanOk d && shaped && (dClass d != 1 || hdrRangeOk s (tHint d))
  | 0x05 => cls && drainFmt (byteAt d 64) && decide (oMode d ≤ 4) && rowSpanOk d &&
      (oMode d != 4 || (s.seedOf x (oTensor d)).isSome) && shaped && hdrRangeOk s (oHdr d) &&
      (engineEmpty d || rowsInMap s (oAddr d) (oRow d) (oBat d) (itersOf d (oBat d)) (dMEff d) (eb * dNEff d))
  | 0x06 => cls && saved && rowSpanOk d && shaped && hdrRangeOk s (oHdr d) &&
      (engineEmpty d || rowsInMap s (oAddr d) (oRow d) (oBat d) (itersOf d (oBat d)) (dMEff d) (eb * dNEff d))
  | 0x07 => cls && saved && rowSpanOk d && shaped && tgAddr (oHdr d) % 64 == 0 &&
      (tgRemote (oHdr d) || hdrRangeOk s (oHdr d)) && atomicTarget (tgAddr (oAddr d)) &&
      (tgRemote (oAddr d) || ((match s.regionId (oAddr d) with
                               | some r => decide (r ≤ 16)
                               | none => false) &&
        (engineEmpty d || rowsInMap s (oAddr d) (oRow d) (oBat d) (itersOf d (oBat d)) (dMEff d) (eb * dNEff d))))
  | 0x08 =>
    let n := dMExt d * dPly d
    let src := byteAt d 64
    cls && rowSpanOk d && decide (src + n ≤ 256) && decide (dBatch d ≤ 1) &&
      (n == 0 || decide (src + n ≤ dRow d) || decide (dRow d + n ≤ src))
  | _ => true

/-! ### Step 3 (R103) -/

def shapeOk (s : State) (g : Nat) (d : Bytes) (m n k b : Nat) : Bool :=
  match (s.ctx (s.ownerOf g)).plan with
  | none => false
  | some p =>
    let (mm, nm, km, bm) := p.shapes.getD (dShape d) (0, 0, 0, 0)
    decide (m ≤ mm) && decide (n ≤ nm) && decide (k ≤ km) && decide (b ≤ bm)

def engineStep3 (s : State) (g : Nat) (d : Bytes) : Bool :=
  match dOpcode d with
  | 0x01 | 0x08 | 0x09 => true
  | 0x04 => shapeOk s g d (dMBnd d) (dNBnd d) (tKBnd d) (dBatch d)
  | _ => shapeOk s g d (dMBnd d) (dNBnd d) 0 (dBatch d)

/-! ### Step 4: tags and headers (R59, R60, R69, R78, R96) -/

/-- Rows at a base carry valid tags of a class, ply, LSB and their position (R59). -/
def tagsMatch (c : Core) (d : Bytes) (base height : Nat) : Bool :=
  (List.range (height * dPly d)).all (fun i =>
    c.tag (base + i) == mkTag (ofSigned 16 (dLsb d)) (dClass d) (dPly d) (i % dPly d))

/-- Every row of every iteration that the instruction names matches (R59). -/
def rowsMatch (c : Core) (d : Bytes) : Bool :=
  let its := if dCStride d = 0 then min (dBatch d) 1 else dBatch d
  (List.range its).all (fun b => tagsMatch c d (dRow d + b * dCStride d * dPly d) (dMExt d))

/-- Window width of a ply (R57). -/
def plyWidth (p : Nat) : Nat := 128 * p

/-- Exponent of the smallest non-zero magnitude of a preload format (R27, R40). -/
def minExp (code : Nat) : Int :=
  match fmtOf code with
  | some f => f.emin - f.fb
  | none => 0

/-- The placed value fits below the window's half range: tag + 1 ≤ L + W − 2 (R60). -/
def tagFits (h : Bytes) (lsb : Int) (w : Nat) : Bool :=
  match hdrTag h with
  | none => true
  | some t => decide (t + 1 ≤ lsb + w - 2)

/-- The header of a saved-skein tensor agrees with a format code, class and LSB (R69, R78). -/
def savedHeaderOk (h : Bytes) (code cls : Nat) (lsb : Int) : Bool :=
  hdrFormat h == code && hdrHintValid h && hdrHintClass h == cls && decide (hdrHintLsb h = lsb)

/-- A header read at dispatch decides between a verdict and FAULT_DATA (R102). -/
def withHeader (s : State) (a : Nat) (f : Bytes → Bool) : Verdict :=
  match readMem s s.mem 64 a with
  | .error e => .fault (memErrNote s { sev := 3, cls := 2 } e)
  | .ok h => if f h then .pass else .refuse stBad

def engineStep4 (s : State) (g : Nat) (e : WinEntry) : Verdict :=
  let d := e.desc
  let c := s.core g
  let code := byteAt d 64
  let tagged := if rowsMatch c d then Verdict.pass else .refuse stBad
  match dOpcode d with
  | 0x02 =>
    if decide (dLsb d ≤ minExp code) then withHeader s (pHdr d) (fun h => tagFits h (dLsb d) (plyWidth (dPly d)))
    else .refuse stBad
  | 0x03 => withHeader s (pHdr d) (fun h => savedHeaderOk h code (dClass d) (dLsb d) &&
      (pInternal d || tagFits h (dLsb d) (plyWidth (dPly d))))
  | 0x04 =>
    match tagged with
    | .pass =>
      if dClass d = 1 then
        withHeader s (tHint d) (fun h => hdrHintValid h && hdrHintClass h == 1 && decide (hdrHintLsb h = dLsb d))
      else .pass
    | v => v
  | 0x05 | 0x06 => tagged
  | 0x07 =>
    match tagged with
    | .pass =>
      if tgRemote (oHdr d) then
        match e.answer with
        | some h => if savedHeaderOk h code (dClass d) (dLsb d) then .pass else .refuse stBad
        | none => .ask
      else withHeader s (oHdr d) (fun h => savedHeaderOk h code (dClass d) (dLsb d))
    | v => v
  | 0x08 => if tagsMatch c d (byteAt d 64) (dMExt d) then .pass else .refuse stBad
  | _ => .pass

/-- The dispatch checks of an engine instruction, in the order of R102. -/
def engineCheck (g : Nat) (s : State) (e : WinEntry) : Verdict :=
  let d := e.desc
  if !(engineReservedOk d) then .refuse stBad
  else if !(engineStep2 s g d) then .refuse stBad
  else if !(engineStep3 s g d) then .refuse stShape
  else engineStep4 s g e

end Sys2Proof.Machine
end

