-- ==== Sys2Proof/Machine/TensorOps.lean ====
section
/-! DEFINITION. What the engine's instructions do once they issue (R67 to R81, R95 to R101). -/

namespace Sys2Proof.Machine

/-- A function applied along a list, stopping at the first error. -/
def mapE {ε α β : Type} (f : α → Except ε β) : List α → Except ε (List β)
  | [] => .ok []
  | a :: as =>
    match f a with
    | .error e => .error e
    | .ok b => match mapE f as with
      | .error e => .error e
      | .ok bs => .ok (b :: bs)

/-- The (iteration, tile row) pairs of the rows an instruction works on, in order (R99). -/
def iterRows (d : Bytes) (height : Nat) : List (Nat × Nat) :=
  (List.range (dBatch d)).flatMap (fun b => (List.range height).map (fun t => (b, t)))

/-- First skein row of tile row t in iteration b (R57, R99). -/
def skeinRow (d : Bytes) (b t : Nat) : Nat := dRow d + b * dCStride d * dPly d + t * dPly d

/-- The tags of the rows of one tile row, from the descriptor (R59). -/
def beginRow (c : Core) (d : Bytes) (row : Nat) : Core :=
  (List.range (dPly d)).foldl (fun c j =>
    c.setTag (row + j) (mkTag (ofSigned 16 (dLsb d)) (dClass d) (dPly d) j)) c

/-- NaN of cause 0x3, which a residue mismatch leaves in an entry (R378). -/
def nanTerm : Term := { cls := 3, cause := 3 }

/-! ### Beginning rows: TZRO, TPRE, TRST (R67 to R69) -/

def tzroBody (det : Detect) (env : State) (e : WinEntry) (r : Run) : Run :=
  let d := e.desc
  (iterRows d (dMExt d)).foldl (fun r bt =>
    r.rowItem env det 512 (fun r mark =>
      let row := skeinRow d bt.1 bt.2
      let c := beginRow (r.core.clearRows row (row + dPly d)) d row
      { r with core := match mark with
                       | some n => c.setTerm row (dPly d) n nanTerm
                       | none => c })) r

/-- Terms written to columns 0 onward of a row that has been begun. -/
def placeRow (c : Core) (row p : Nat) (mark : Option Nat) (terms : List Term) : Core :=
  (List.range terms.length).foldl (fun c n =>
    c.setTerm row p n (if mark = some n then nanTerm else terms.getD n {})) c

/-- The element bits of n contiguous elements of a format (R92, R93). -/
def elemsOf (code n : Nat) (bs : Bytes) : List Nat :=
  (List.range n).map (fun i =>
    if fmtBits code = 4 then bitsAt (byteAt bs (i / 2)) (4 * (i % 2)) 4
    else leAt bs (i * (fmtBits code / 8)) (fmtBits code / 8))

def tpreBody (det : Detect) (env : State) (e : WinEntry) (r : Run) : Run :=
  let d := e.desc
  let code := byteAt d 64
  (iterRows d (dMExt d)).foldl (fun r bt =>
    r.rowItem env det (dNEff d) (fun r mark =>
      let row := skeinRow d bt.1 bt.2
      let a : Int := pSrc d + bt.1 * pBat d + (if pResidual d then bt.2 * pRow d else 0 : Nat)
      let n := if bt.2 < dMEff d then dNEff d else 0
      match readMem env r.mem (elemBytes code n) a.toNat with
      | .error err => r.memErr env err
      | .ok bs =>
        let c := beginRow (r.core.clearRows row (row + dPly d)) d row
        let terms := (elemsOf code n bs).map (fun x => placeTerm (dLsb d) (decodeElem code x))
        { r with core := placeRow c row (dPly d) mark terms })) r

def trstBody (det : Detect) (env : State) (e : WinEntry) (r : Run) : Run :=
  let d := e.desc
  let p := dPly d
  (iterRows d (dMExt d)).foldl (fun r bt =>
    r.rowItem env det (dNEff d) (fun r mark =>
      let row := skeinRow d bt.1 bt.2
      let a : Int := pSrc d + bt.1 * pBat d + (bt.2 * pRow d : Nat)
      let n := if bt.2 < dMEff d then dNEff d else 0
      match readMem env r.mem (24 * p * n) a.toNat with
      | .error err => r.memErr env err
      | .ok bs =>
        let loaded := (List.range n).map (fun i => loadElement p ((bs.drop (24 * p * i)).take (24 * p)))
        let c := beginRow (r.core.clearRows row (row + p)) d row
        let r := { r with core := placeRow c row p mark (loaded.map (·.1)) }
        (List.range n).foldl (fun r i =>
          match (loaded.getD i ({}, none)).2 with
          | some j => r.slotFail (slotFailCount p ((bs.drop (24 * p * i)).take (24 * p))) j (a.toNat + 24 * p * i + 24 * j)
          | none => r) r)) r

/-! ### TMUL (R70, R92, R100) -/

/-- Bits of an element at index i of a contiguous run that begins at a local offset (R92). -/
def localElem (env : State) (m : Memory) (g code : Nat) (base : Int) (i : Nat) : Except MemErr Nat :=
  let w := fmtBits code
  if w = 4 then
    match readMem env m 1 (localBase g + base.toNat + i / 2) with
    | .error e => .error e
    | .ok bs => .ok (bitsAt (byteAt bs 0) (4 * (i % 2)) 4)
  else
    match readMem env m (w / 8) (localBase g + base.toNat + i * (w / 8)) with
    | .error e => .error e
    | .ok bs => .ok (leNat bs)

/-- An operand element with its block scale, if the format has one (R29, R31). -/
def scaledElem (env : State) (m : Memory) (g code : Nat) (base : Int) (i : Nat) (scaleAt : Int) :
    Except MemErr ExactVal :=
  match localElem env m g code base i with
  | .error e => .error e
  | .ok bits =>
    if isMx code then
      match localElem env m g 0x0B scaleAt 0 with
      | .error e => .error e
      | .ok sc => match scaleExp sc with
        | none => .ok .nan
        | some k => .ok (scaleVal (decodeElem code bits) k)
    else .ok (decodeElem code bits)

/-- Element A(b, t, k) (R92). -/
def aElem (env : State) (m : Memory) (g : Nat) (d : Bytes) (b t k : Nat) : Except MemErr ExactVal :=
  let base : Int := tAAddr d + b * tABat d
  let sc : Int := tASc d + b * tAScBat d + (t * tAScRow d + k / 32 : Nat)
  if tATrans d then scaledElem env m g (tFormat d) (base + (k * tARow d : Nat)) t sc
  else scaledElem env m g (tFormat d) (base + (t * tARow d : Nat)) k sc

/-- Element B(b, k, n) (R92). -/
def bElem (env : State) (m : Memory) (g : Nat) (d : Bytes) (b k n : Nat) : Except MemErr ExactVal :=
  let base : Int := tBAddr d + b * tBBat d
  let sc : Int := tBSc d + b * tBScBat d + (k / 32 * tBScRow d + n : Nat)
  if tBTrans d then scaledElem env m g (tFormat d) (base + (n * tBRow d : Nat)) k sc
  else scaledElem env m g (tFormat d) (base + (k * tBRow d : Nat)) n sc

/-- The products of one dot unit in one beat (R31, R37). -/
def beatProducts (d : Bytes) (a b : List ExactVal) : List Term :=
  (a.zip b).map (fun p => productTerm (dClass d == 1) (plyWidth (dPly d)) (dLsb d) (tSign d) p.1 p.2 0)

/-- A tree sum of products (R62). -/
def treeSum (ps : List Term) : Term := ps.foldl (addTerm none) {}

/-- Position of the first product that is an invalid 0 × ∞ (R65). -/
def firstInvalid (ps : List Term) : Nat :=
  (List.range ps.length).find? (fun i => (ps.getD i {}).cls == 3 && (ps.getD i {}).cause == 1) |>.getD 0

/-- A tree sum added to the entry of a column, with the events it raises (R38, R61, R62, R64). -/
def addColumn (d : Bytes) (seq b t n kFirst : Nat) (mark : Option Nat) (r : Run) (ps : List Term) : Run :=
  let row := skeinRow d b t
  let p := dPly d
  let old := r.core.term row p n
  let tree := treeSum ps
  let new := addTerm (some (plyWidth p)) old tree
  if mark = some n then { r with core := r.core.setTerm row p n nanTerm }
  else
    let r := { r with core := r.core.setTerm row p n new
                      trunc := r.trunc || tree.trunc
                      ovf := r.ovf || tree.ovf || (new.ovf && !old.ovf) }
    if new.cls = 3 && decide (old.cls ≠ 3) && decide (new.cause ≠ 3) then
      r.invalidEvent seq (dMOrg d + t) (dNOrg d + n) b
        (if new.cause = 1 then tKOrg d + kFirst + firstInvalid ps else 0xFFFFFFFF) new.cause
    else r

/-- Products per dot unit and beat of a TMUL (R32). -/
def beatWidth (d : Bytes) : Nat :=
  match window (tFormat d) (dClass d) (dPly d) with
  | some (_, _, _, c) => c
  | none => 1

/-- The beats of a TMUL: iterations, K chunks and tile rows (R100). -/
def tmulBeats (d : Bytes) : Nat := dBatch d * ceilDiv (tKEff d) (beatWidth d) * dMEff d

/-- Iteration, K chunk and tile row of beat i, in the order of R100. -/
def beatOf (d : Bytes) (i : Nat) : Nat × Nat × Nat :=
  let ch := ceilDiv (tKEff d) (beatWidth d)
  (i / (ch * dMEff d), i / dMEff d % ch, i % dMEff d)

/-- One beat: every dot unit's products of one tile row and K chunk enter its entry; an operand that cannot be read stops
the instruction with no effect of the beat (R70, R100, R378). -/
def tmulBeat (det : Detect) (env : State) (g : Nat) (e : WinEntry) (r : Run) : Run :=
  let d := e.desc
  let (b, kc, t) := beatOf d r.pos
  let k0 := kc * beatWidth d
  let ks := (List.range (min (tKEff d) (k0 + beatWidth d) - k0)).map (k0 + ·)
  r.rowItem env det (dNEff d) (fun r mark =>
    match mapE (fun k => aElem env r.mem g d b t k) ks with
    | .error err => r.memErr env err
    | .ok as =>
      match mapE (fun n => mapE (fun k => bElem env r.mem g d b k n) ks) (List.range (dNEff d)) with
      | .error err => r.memErr env err
      | .ok cols =>
        (List.range (dNEff d)).foldl (fun r n =>
          addColumn d e.seq.toNat b t n k0 mark r (beatProducts d as (cols.getD n []))) r)

/-- Up to n further beats. -/
def tmulLoop (det : Detect) (env : State) (g : Nat) (e : WinEntry) : Nat → Run → Run
  | 0, r => r
  | n + 1, r =>
    if r.halted || decide (tmulBeats e.desc ≤ r.pos) then r
    else tmulLoop det env g e n (tmulBeat det env g e r)

/-- The fence counters after beats [from, to) have issued: the last 14 are in flight (R70, R71). -/
def fenceAfter (c : Core) (d : Bytes) (lo hi : Nat) : Core :=
  let keep := if hi - lo ≥ 14 then [] else c.fences
  let flying := (List.range (min 14 (hi - lo))).map (fun i => hi - 1 - i)
  let groups := flying.flatMap (fun i =>
    let (b, _, t) := beatOf d i
    let row := skeinRow d b t
    if row / 16 = (row + dPly d - 1) / 16 then [row / 16] else [row / 16, (row + dPly d - 1) / 16])
  { c with fences := groups.foldl (fun m q => smMod 0 m q (· + 1)) keep }

/-- TMUL issues its beats, all that are left or as many as the command allows (R82, R100). -/
def tmulBody (beats : Option Nat) (det : Detect) (g : Nat) (env : State) (e : WinEntry) (r : Run) : Run :=
  let left := tmulBeats e.desc - r.pos
  let n := match beats with
    | none => left
    | some k => min k left
  let r' := tmulLoop det env g e n r
  { r' with core := fenceAfter r'.core e.desc r.pos r'.pos }

/-- A TMUL is done when every beat has issued or a detection stopped it; otherwise it is still running. -/
def tmulPhase (d : Bytes) (r : Run) : Phase :=
  if r.halted || decide (tmulBeats d ≤ r.pos) then .executed else .running

/-! ### Reading rows: TDRN, TSAV, TATM (R73, R76, R78) -/

/-- Clears the rows of tile row t, which has been read, when clear_rows is set (R73). -/
def clearRead (d : Bytes) (b t : Nat) (r : Run) : Run :=
  if oClear d then { r with core := r.core.clearRows (skeinRow d b t) (skeinRow d b t + dPly d) } else r

/-- Rows of every iteration in order; rows beyond the effective extent are only cleared (R101). -/
def readRows (det : Detect) (env : State) (e : WinEntry) (width : Nat) (f : Nat → Nat → Option Nat → Run → Run) (r : Run) :
    Run :=
  let d := e.desc
  (iterRows d (dMExt d)).foldl (fun r bt =>
    if bt.2 < dMEff d then
      r.rowItem env det width (fun r mark =>
        let r := f bt.1 bt.2 mark r
        if r.halted then r else clearRead d bt.1 bt.2 r)
    else if r.halted then r else clearRead d bt.1 bt.2 r) r

def outAddr (d : Bytes) (base : Nat) (b t : Nat) : Nat := ((base : Int) + b * oBat d + (t * oRow d : Nat)).toNat

/-- The Philox word of an SR drain's element (R94, R95). -/
def drainWord (env : State) (g : Nat) (d : Bytes) (b t n : Nat) : Nat :=
  philoxWord ((env.seedOf (env.ownerOf g) (oTensor d)).getD 0) (oTensor d) (oStep d) (oStream d)
    (oLinBase d + b * oLinBat d + (dMOrg d + t) * oLinRow d + (dNOrg d + n))

/-- One element of a drain: its conversion and the events it raises (R41 to R47, R73). -/
def drainElem (env : State) (g : Nat) (e : WinEntry) (b t : Nat) (mark : Option Nat) (acc : Run × Bytes) (n : Nat) :
    Run × Bytes :=
  let d := e.desc
  let code := byteAt d 64
  let (r, bs) := acc
  let term := r.core.term (skeinRow d b t) (dPly d) n
  let u := if oMode d = 4 then drainWord env g d b t n else 0
  let c := convert code (oMode d) (dClass d != 2) u (scaleVal (termVal (dLsb d) term) (oScale d))
  if mark = some n then
    (r.merge (elemTag code (nanBits code)) (elemPresence code (nanBits code)),
      bs ++ leBytes (fmtBits code / 8) (nanBits code))
  else
    let r := { r with ovf := r.ovf || c.ovf || term.ovf, trunc := r.trunc || term.trunc
                      flushed := r.flushed + boolNat c.flushed }
    let r := if c.invalid then
        r.invalidEvent e.seq.toNat (dMOrg d + t) (dNOrg d + n) b 0xFFFFFFFF 0 else r
    (r.merge (elemTag code c.bits) (elemPresence code c.bits), bs ++ leBytes (fmtBits code / 8) c.bits)

def tdrnBody (det : Detect) (g : Nat) (env : State) (e : WinEntry) (r : Run) : Run :=
  let d := e.desc
  let r := readRows det env e (dNEff d) (fun b t mark r =>
    let (r', bs) := (List.range (dNEff d)).foldl (drainElem env g e b t mark) (r, [])
    r'.write env (g / 8) (fmtBits (byteAt d 64) / 8) (outAddr d (oAddr d) b t) bs) r
  r.mergeAt env (oHdr d)

def tsavBody (det : Detect) (g : Nat) (env : State) (e : WinEntry) (r : Run) : Run :=
  let d := e.desc
  let p := dPly d
  let r := readRows det env e (dNEff d) (fun b t mark r =>
    let terms := (List.range (dNEff d)).map (fun n =>
      if mark = some n then nanTerm else r.core.term (skeinRow d b t) p n)
    let r := terms.foldl (fun r x => r.merge (termTag (dLsb d) x) (termPresence x)) r
    r.write env (g / 8) (24 * p) (outAddr d (oAddr d) b t) (terms.flatMap (termBytes p))) r
  r.mergeAt env (oHdr d)

/-- Elements of one row in SKEIN_ADD packets of at most 16, 8, 5 or 3 elements (R271). -/
def skeinPackets (p : Nat) (target : Nat) : Nat → Nat → List Bytes → List (Nat × Nat × Nat × Bytes × Nat)
  | 0, _, _ => []
  | n + 1, a, els =>
    let k := if p = 1 then 16 else if p = 2 then 8 else if p = 3 then 5 else 3
    if els.isEmpty then []
    else (tgModule target, 5, a, (els.take k).flatten, 0) ::
      skeinPackets p target n (a + k * 24 * p) (els.drop k)

/-- Every entry of the rows read becomes one addend to its target element, on its way to the unit of R79, or travels in
SKEIN_ADD packets (R78, R79). -/
def tatmBody (det : Detect) (g : CoreId) (env : State) (e : WinEntry) (r : Run) : Run :=
  let d := e.desc
  let p := dPly d
  let src := unitActor .engine g e.seq
  readRows det env e (dNEff d) (fun b t mark r =>
    let a := outAddr d (tgAddr (oAddr d)) b t
    let els := (List.range (dNEff d)).map (fun n =>
      termBytes p (if mark = some n then nanTerm else r.core.term (skeinRow d b t) p n))
    if tgRemote (oAddr d) then
      { r with packets := r.packets ++ skeinPackets p (oAddr d) (els.length + 1) a els }
    else
      { r with addends := r.addends ++ (List.range els.length).map (fun n =>
          { target := a + n * 24 * p, ply := p, cls := BitVec.ofNat 2 (dClass d)
            lsb := BitVec.ofInt 16 (dLsb d), elem := els.getD n [], src := src }) }) r

/-- The remote header of a TATM is asked for by a LOAD_REQ (R78, R271); without a module ID the instruction completes with
FABRIC_UNREACHABLE (R267). -/
def askHeader (u : UnitKind) (g : CoreId) (target : Bytes → Nat) (s : State) (e : WinEntry) : State :=
  let a := unitActor u g e.seq
  if e.asked then s
  else if s.fabric.moduleId.isNone then
    (failOwner s a stUnreachable).modEntry u g e.seq (fun e => { e with phase := .executed })
  else
    let t := target e.desc
    let s := s.modEntry u g e.seq (fun e => { e with asked := true })
    sendPacket s (tgModule t) 1 (tgAddr t) (leBytes 8 64) false a (2 ^ 60)

/-! ### TMOV (R97) -/

def tmovBody (det : Detect) (env : State) (e : WinEntry) (r : Run) : Run :=
  let d := e.desc
  let p := dPly d
  let src := byteAt d 64
  (List.range (dMExt d)).foldl (fun r t =>
    r.rowItem env det 512 (fun r mark =>
      let old := src + t * p
      let new := dRow d + t * p
      let c := (List.range p).foldl (fun c j =>
        let row : SMap Entry := r.core.skein.filter (fun x => x.1 / 512 == old + j)
        let c := c.clearRows (new + j) (new + j + 1)
        let c := { c with skein := row.foldl (fun (m : SMap Entry) (x : Nat × Entry) => smSet {} m ((new + j) * 512 + x.1 % 512) x.2) c.skein }
        c.setTag (new + j) (r.core.tag (old + j))) r.core
      let c := if bitAt (byteAt d 65) 0 then
          (List.range p).foldl (fun c j => c.setTag (old + j) (tagOff (c.tag (old + j))))
            (c.clearRows old (old + p))
        else c
      { r with core := match mark with
                       | some n => c.setTerm new p n nanTerm
                       | none => c })) r

/-! ### Fences and holds (R71, R394) -/

/-- The hold of an engine instruction: row fences for all but TMUL, and the dip window for TATM. -/
def engineHeld (s : State) (g : Nat) (d : Bytes) : Bool :=
  (dOpcode d != 4 && !((s.core g).fencesClear (namedRows d))) || (dOpcode d == 7 && s.dipOpen g)

/-- One command for an engine instruction (R102 to R106). -/
def engineOp (opcode : Nat) (g : CoreId) (seq : BitVec 64) (det : Detect) (s : State)
    (body : State → WinEntry → Run → Run) (phase : Bytes → Run → Phase) : State :=
  unitOp .engine opcode g seq det s (engineCheck g) (askHeader .engine g (fun d => oHdr d))
    (fun s e => { opcode := opcode, empty := engineEmpty e.desc && decide (opcode ≠ 9), held := engineHeld s g e.desc })
    body (fun r => phase (match findEntry (s.unitOf .engine g).window seq with
      | some e => e.desc
      | none => []) r)

end Sys2Proof.Machine
end

