-- ==== Sys2Proof/Machine/Engine.lean ====
section
/-! DEFINITION. The meanings of the tensor engine's commands (03, 04): rings, fetch, the nine instructions, fences, retirement,
the exception capture, memory-side units and header merges. -/

namespace Sys2Proof.Machine

/-- Descriptors stored at successive ring slots of a unit, from a ring index on (R87). -/
def storeDescs (s : State) (u : UnitKind) (g : Nat) : BitVec 32 → List Bytes → State
  | _, [] => s
  | i, d :: ds =>
    let r := s.unitOf u g
    let a := localBase g + r.base.toNat + i.toNat % 2 ^ r.log2.toNat * 128
    storeDescs { s with mem := (writeMem s s.mem (some (g / 8)) a d).1 } u g (i + 1) ds

/-- RING_TAIL_WRITE: firmware stores its descriptors from the old tail on and advances the tail (R87, R88). -/
def execRingTailWrite (u : UnitKind) (g : CoreId) (tail : BitVec 32) (descs : List Bytes) (s : State) :
    Host.Outcome State Fault Refusal :=
  .next (
    if !s.present g then s
    else
      let s := storeDescs s u g (s.unitOf u g).tail descs
      s.setCore g ((s.core g).setUnit u { s.unitOf u g with tail := tail }))

/-- A completion-ring release index moved forward, by at most the records written since its last advance; any other write is
ignored (R146). -/
def releaseWrite (u : UnitKind) (g : Nat) (release : BitVec 32) (s : State) : State :=
  let r := s.unitOf u g
  if decide ((release - r.release).toNat ≤ (r.compHead - r.release).toNat) && s.present g then
    s.setCore g ((s.core g).setUnit u { r with release := release })
  else s

/-- RING_RELEASE_WRITE (R146). -/
def execRingReleaseWrite (u : UnitKind) (g : CoreId) (release : BitVec 32) (s : State) :
    Host.Outcome State Fault Refusal :=
  .next (releaseWrite u g release s)

/-- DESCRIPTOR_FETCH (R88). -/
def execDescriptorFetch (u : UnitKind) (g : CoreId) (det : Detect) (s : State) : Host.Outcome State Fault Refusal :=
  .next (fetch u g det s)

/-- The phase of an instruction that issues whole. -/
def wholePhase (_ : Bytes) (_ : Run) : Phase := .executed

/-- TZRO: every entry of the named rows becomes finite zero, and the row tags are written (R67). -/
def execTzro (g : CoreId) (seq : BitVec 64) (det : Detect) (s : State) : Host.Outcome State Fault Refusal :=
  .next (engineOp 0x01 g seq det s (tzroBody det) wholePhase)

/-- TPRE: the named rows take exact values of a preload tensor (R68). -/
def execTpre (g : CoreId) (seq : BitVec 64) (det : Detect) (s : State) : Host.Outcome State Fault Refusal :=
  .next (engineOp 0x02 g seq det s (tpreBody det) wholePhase)

/-- TRST: the named rows take the entries of a saved-skein tensor (R69). -/
def execTrst (g : CoreId) (seq : BitVec 64) (det : Detect) (s : State) : Host.Outcome State Fault Refusal :=
  .next (engineOp 0x03 g seq det s (trstBody det) wholePhase)

/-- Beats that a saved progress stands for in its TMUL: batch iteration, next tile row, next logical K index (R83, R91). -/
def progressBeats (d : Bytes) (b t k : Nat) : Nat :=
  (b * ceilDiv (tKEff d) (beatWidth d) + (k - tKOrg d) / beatWidth d) * dMEff d + t

/-- A stopped TMUL back in its window at the saved beat: it was checked, and its wait was granted and its reservation made,
before it issued; issue_time is the time of resuming (R82, R114; log entry 124). -/
def resumed (s : State) (g : Nat) (e : WinEntry) (b t k : Nat) : WinEntry :=
  { e with phase := .running, granted := true, reserved := needsReserve s g e, beats := progressBeats e.desc b t k
           issueTime := s.clkc, opcode := BitVec.ofNat 8 (dOpcode e.desc) }

/-- A TMUL that was refetched after a restore resumes at the saved beat and is not checked again (R82, R114). -/
def resumeTmul (g : CoreId) (seq : BitVec 64) (s : State) : State :=
  match (s.core g).progress with
  | none => s
  | some (q, b, t, k) =>
    if q ≠ seq then s
    else (s.setCore g { s.core g with progress := none }).modEntry .engine g seq (fun e =>
      if e.phase = .fetched then resumed s g e b t k else e)

/-- After a restore, a stopped TMUL that was not abandoned, and so will not be fetched again, takes its place in the window
before the instructions to come, from its ring slot (R82, R114). -/
def reloadTmul (g : CoreId) (s : State) : State :=
  let c := s.core g
  let r := c.engine
  match c.progress with
  | none => s
  | some (q, b, t, k) =>
    let back := (r.nextSeq - q).toNat
    let i := r.head - BitVec.ofNat 32 back
    if decide (back = 0) || decide (2 ^ r.log2.toNat < back) then s
    else match readMem s s.mem 128 (localBase g + r.base.toNat + i.toNat % 2 ^ r.log2.toNat * 128) with
      | .error _ => s
      | .ok d =>
        if decide (dSeq d ≠ q.toNat) || decide (dOpcode d ≠ 4) then s
        else
          let e := resumed s g { seq := q, index := i, desc := d } b t k
          s.setCore g { c with progress := none, engine := { r with window := e :: r.window } }

/-- TMUL: exact products of A and B are added into the named rows beat by beat; `beats` bounds the beats issued by this
command (R70, R100). -/
def execTmul (g : CoreId) (seq : BitVec 64) (beats : Option Nat) (det : Detect) (s : State) :
    Host.Outcome State Fault Refusal :=
  .next (engineOp 0x04 g seq det (resumeTmul g seq s) (tmulBody beats det g) tmulPhase)

/-- A TDRN of a RUN that ran with its watch bit set leaves its tile to the numerics watch (R260, R261). -/
def noteWatch (s : State) (g : Nat) (seq : BitVec 64) : State :=
  match findEntry (s.unitOf .engine g).window seq with
  | none => s
  | some e =>
    if dWatch e.desc && decide (e.phase = .executed) && decide (e.status = 0#16) && decide (dClass e.desc ≠ 2) &&
        (s.core g).job.isSome then
      s.setCore g { s.core g with watch := some (seq, e.desc) }
    else s

/-- TDRN: the named rows are converted and written, and merged into the output header (R73). -/
def execTdrn (g : CoreId) (seq : BitVec 64) (det : Detect) (s : State) : Host.Outcome State Fault Refusal :=
  .next (noteWatch (engineOp 0x05 g seq det s (tdrnBody det g) wholePhase) g seq)

/-- TSAV: the named rows are written in full width (R76). -/
def execTsav (g : CoreId) (seq : BitVec 64) (det : Detect) (s : State) : Host.Outcome State Fault Refusal :=
  .next (engineOp 0x06 g seq det s (tsavBody det g) wholePhase)

/-- TATM: the named rows are sent as addends to a saved-skein target (R78). -/
def execTatm (g : CoreId) (seq : BitVec 64) (det : Detect) (s : State) : Host.Outcome State Fault Refusal :=
  .next (engineOp 0x07 g seq det s (tatmBody det g) wholePhase)

/-- TMOV: tile rows are copied within the skein with their tags (R97). -/
def execTmov (g : CoreId) (seq : BitVec 64) (det : Detect) (s : State) : Host.Outcome State Fault Refusal :=
  .next (engineOp 0x08 g seq det s (tmovBody det) wholePhase)

/-- TSIG: waits and signals only (R90). -/
def execTsig (g : CoreId) (seq : BitVec 64) (s : State) : Host.Outcome State Fault Refusal :=
  .next (engineOp 0x09 g seq .clean s (fun _ _ r => r) wholePhase)

/-- ROW_FENCE_RELEASE: the beats in flight to a row group are written; its fence counter is zero (R71). -/
def execRowFenceRelease (g : CoreId) (group : Fin 16) (s : State) : Host.Outcome State Fault Refusal :=
  .next (s.setCore g { s.core g with fences := smSet 0 (s.core g).fences group 0 })

/-- ENGINE_RETIRE: an instruction of a unit retires (R107). -/
def execEngineRetire (u : UnitKind) (g : CoreId) (seq : BitVec 64) (s : State) : Host.Outcome State Fault Refusal :=
  .next (retire u g seq s)

/-- The 32 bytes of an exception capture (R111). -/
def captureBytes (c : Capture) : Bytes :=
  leBytes 8 c.sequence.toNat ++ leBytes 4 c.row.toNat ++ leBytes 4 c.column.toNat ++ leBytes 4 c.batch.toNat ++
  leBytes 4 c.k.toNat ++ leBytes 1 (c.cause.toNat + 128 * boolNat c.valid) ++ leBytes 1 c.overwritten.toNat ++
  List.replicate 6 0#8

/-- A capture as its 32 bytes spell it (R83, R111). -/
def captureOf (b : Bytes) : Capture :=
  { sequence := BitVec.ofNat 64 (leAt b 0 8), row := BitVec.ofNat 32 (leAt b 8 4)
    column := BitVec.ofNat 32 (leAt b 12 4), batch := BitVec.ofNat 32 (leAt b 16 4), k := BitVec.ofNat 32 (leAt b 20 4)
    cause := BitVec.ofNat 4 (byteAt b 24), valid := bitAt (byteAt b 24) 7, overwritten := BitVec.ofNat 8 (byteAt b 25) }

/-- The capture of a unit of a core; the DMA engine has none. -/
def Core.captureOfUnit (c : Core) (u : UnitKind) : Capture :=
  match u with
  | .engine => c.capture
  | .vector => c.vcapture
  | .dma => {}

/-- A read of a capture clears its overwritten count (R65, R112). -/
def clearOverwritten (c : Core) (u : UnitKind) : Core :=
  match u with
  | .engine => { c with capture := { c.capture with overwritten := 0 } }
  | .vector => { c with vcapture := { c.vcapture with overwritten := 0 } }
  | .dma => c

/-- CAPTURE_READ through the capture register of the core-private page (R87, R112, R118). -/
def execCaptureRead (u : UnitKind) (g : CoreId) (s : State) : Host.Outcome State Fault Refusal :=
  .next ((s.setCore g (clearOverwritten (s.core g) u)).send (.capture g (captureBytes ((s.core g).captureOfUnit u))))

/-! ### Memory-side units -/

/-- The slot-failing target or addend bits of R77, and the combined element. `pt` and `pa` say whether the stored element
and the addend passed their comparison. -/
def combineElement (p : Nat) (stored addend : Term) (pt pa : Bool) : Term :=
  if pt && pa then addTerm (some (plyWidth p)) stored addend
  else
    { cls := 3, cause := 3
      trunc := (pt && stored.trunc) || (pa && addend.trunc)
      ovf := (pt && stored.ovf) || (pa && addend.ovf) }

/-- The counters of the unit that applies addends at a physical address count p slots (R79, R86). -/
def countAddend (r : Reliability) (p phys : Nat) : Reliability :=
  if phys < 0x28000000000 then
    { r with tatmHbm := smMod 0 r.tatmHbm ((phys - 0x10000000000) / 2 ^ 37) (fun c => c + BitVec.ofNat 64 p) }
  else
    { r with tatmIo := smMod 0 r.tatmIo ((phys - 0x80000000000) / 2 ^ 38 / 4) (fun c => c + BitVec.ofNat 64 p) }

/-- What applying an element met: nothing, or a fault record. -/
structure Applied where
  state : State
  note  : Option FaultNote
deriving DecidableEq, Repr

/-- One addend meets its target element under R62, R77 and R78: every slot read is checked, the element is combined exactly
and written whole. -/
def applyElement (s : State) (det : Detect) (target p : Nat) (elem : Bytes) : Applied :=
  match readMem s s.mem (24 * p) target with
  | .error e => { state := s, note := some (memErrNote s { sev := 3, cls := 2 } e) }
  | .ok old =>
    match det with
    | .parity _ => { state := s, note := some { parityNote s with unit := s.cellUnit ((s.translate target).getD 0) } }
    | _ =>
      let (st, fs) := loadElement p old
      let (ad, fa) := loadElement p elem
      let res := match det with
        | .residue _ => true
        | _ => false
      let new := if res then nanTerm else combineElement p st ad fs.isNone fa.isNone
      let phys := (s.translate target).getD 0
      let fails := slotFailCount p old + slotFailCount p elem
      let (m, err) := writeMem s s.mem none target (termBytes p new)
      let s' := { s with mem := m, rel := { countAddend s.rel p phys with
                                             slotFailures := satAdd s.rel.slotFailures fails } }
      match err, fs, fa with
      | some e, _, _ => { state := s', note := some (memErrNote s { sev := 3, cls := 2 } e) }
      | none, some j, _ =>
        { state := s', note := some { unit := s.cellUnit phys, sev := 3, cls := 5, key := j
                                      syn := leBytes 8 (target + 24 * j) } }
      | none, none, some j =>
        { state := s', note := some { unit := s.cellUnit phys, sev := 3, cls := 5, key := j
                                      syn := leBytes 8 (target + 24 * j) } }
      | none, none, none =>
        { state := s', note := if res then some { residueNote s 0 with unit := s.cellUnit phys } else none }

/-- SKEIN_ATOMIC_APPLY: the addend at a place among those under way reaches its unit; the order of arrival is the order of
these commands (R78, R79). -/
def execSkeinAtomicApply (index : Nat) (det : Detect) (s : State) : Host.Outcome State Fault Refusal :=
  .next (
    match s.addends[index]? with
    | none => s
    | some a =>
      let s := preDetect { s with addends := s.addends.eraseIdx index } det a.src
      let r := applyElement s det a.target a.ply a.elem
      match r.note with
      | none => r.state
      | some n => failOwner (writeNotes r.state a.src (match a.src with
          | .core .engine _ _ => 0x07
          | .core .vector _ _ => 0x6B
          | _ => 0) [n]) a.src stData)

/-- HEADER_MERGE: a tag and presence bits are merged into the header at a module address (R154). -/
def execHeaderMerge (header : BitVec 48) (tag : BitVec 16) (presence : BitVec 3) (s : State) :
    Host.Outcome State Fault Refusal :=
  .next (
    if header.toNat % 64 ≠ 0 then s
    else match mergeHeader s s.mem header.toNat (if tag = 0x8000#16 then none else some tag.toInt) presence.toNat with
      | (m, none) => { s with mem := m }
      | (m, some e) => writeNotes { s with mem := m } .command 0 [memErrNote s { sev := 3, cls := 2 } e])

end Sys2Proof.Machine
end

