-- ==== Sys2Proof/Machine/Elementary.lean ====
section
/-! DEFINITION. Correctly rounded FP32 functions of the vector unit (R122, R123). An irrational result is enclosed between
two multiples of 2^-P; when both ends round alike that is the correctly rounded result, else P grows. -/

namespace Sys2Proof.Machine

/-- A result of a vector operation on one element: its FP32 bits and what it raises (R130). -/
structure VRes where
  bits : Nat
  ovf  : Bool := false
  /-- capture cause of an invalid event -/
  bad  : Option Nat := none
  div0 : Bool := false
deriving DecidableEq, Repr

/-- Canonical NaN without an event, and with one of a cause (R45, R51, R130). -/
def vNan : VRes := { bits := 0x7FC00000 }
def vInvalid (cause : Nat) : VRes := { bits := 0x7FC00000, bad := some cause }

/-- A signed zero. -/
def vZero (neg : Bool) : VRes := { bits := boolNat neg * 2 ^ 31 }

def vInf (neg : Bool) : VRes := { bits := if neg then 0xFF800000 else 0x7F800000 }

/-- A finite value in FP32 under a mode; a value of exactly zero takes the given sign (R41 to R44). -/
def vFin (mode : Nat) (zeroNeg : Bool) (m e : Int) : VRes :=
  if m = 0 then vZero zeroNeg
  else
    let r := convert 0x01 mode false 0 (.fin m e)
    { bits := r.bits, ovf := r.ovf }

/-- floor of the square root, by bits below 2^n. -/
def isqrtBits (v : Nat) : Nat → Nat → Nat
  | 0, r => r
  | n + 1, r => if (r + 2 ^ n) * (r + 2 ^ n) ≤ v then isqrtBits v n (r + 2 ^ n) else isqrtBits v n r

def isqrt (v : Nat) : Nat := isqrtBits v (Nat.log2 v / 2 + 1) 0

/-! ### Fixed-point enclosures: pairs (lo, hi) of multiples of 2^-P -/

/-- Sum of t, t·y/n, t·y²/(n(n+1)) … of k terms with floor and ceiling; the last term is added once more to the upper end. -/
def expSeries (p ylo yhi : Nat) : Nat → Nat → Nat → Nat → Nat → Nat → Nat × Nat
  | 0, _, _, thi, slo, shi => (slo, shi + 2 * thi + 2)
  | k + 1, n, tlo, thi, slo, shi =>
    let tlo' := tlo * ylo / (2 ^ p * n)
    let thi' := thi * yhi / (2 ^ p * n) + 1
    expSeries p ylo yhi k (n + 1) tlo' thi' (slo + tlo') (shi + thi')

/-- Repeated squaring of an enclosure. -/
def squareTimes (p : Nat) : Nat → Nat × Nat → Nat × Nat
  | 0, x => x
  | k + 1, (lo, hi) => squareTimes p k (lo * lo / 2 ^ p, hi * hi / 2 ^ p + 1)

/-- An enclosure of m × 2^e, m at least 0. -/
def fixedOf (p m : Nat) (e : Int) : Nat × Nat :=
  let k := e + p
  if k ≥ 0 then (m * 2 ^ k.toNat, m * 2 ^ k.toNat) else (m / 2 ^ (-k).toNat, m / 2 ^ (-k).toNat + 1)

/-- e^x for 0 ≤ x = m × 2^e < 2^9: argument divided by 2^20, series, twenty squarings. -/
def expPos (p m : Nat) (e : Int) : Nat × Nat :=
  let (lo, hi) := fixedOf p m (e - 20)
  squareTimes p 20 (expSeries p lo hi (p / 10 + 4) 1 (2 ^ p) (2 ^ p) (2 ^ p) (2 ^ p))

/-- Quotient of enclosures of positive values. -/
def divEncl (p : Nat) (a b : Nat × Nat) : Nat × Nat :=
  if b.1 = 0 then (0, 0) else (a.1 * 2 ^ p / b.2, a.2 * 2 ^ p / b.1 + 1)

def mulEncl (p : Nat) (a b : Nat × Nat) : Nat × Nat := (a.1 * b.1 / 2 ^ p, a.2 * b.2 / 2 ^ p + 1)

/-- e^x of either sign. -/
def expEncl (p : Nat) (neg : Bool) (m : Nat) (e : Int) : Nat × Nat :=
  let x := expPos p m e
  if neg then divEncl p (2 ^ p, 2 ^ p) x else x

/-- atanh(z) = z + z³/3 + z⁵/5 … for an enclosed 0 ≤ z ≤ 1/3, k terms. -/
def atanhSeries (p : Nat) (sq : Nat × Nat) : Nat → Nat → Nat → Nat → Nat → Nat → Nat × Nat
  | 0, _, _, phi, slo, shi => (slo, shi + 2 * phi + 2)
  | k + 1, n, plo, phi, slo, shi =>
    let plo' := plo * sq.1 / 2 ^ p
    let phi' := phi * sq.2 / 2 ^ p + 1
    atanhSeries p sq k (n + 2) plo' phi' (slo + plo / n) (shi + phi / n + 1)

/-- atanh(a/b), 0 ≤ a/b ≤ 1/3. -/
def atanhRat (p a b : Nat) : Nat × Nat :=
  let lo := a * 2 ^ p / b
  let hi := lo + 1
  atanhSeries p (lo * lo / 2 ^ p, hi * hi / 2 ^ p + 1) (p / 3 + 4) 1 lo hi 0 0

/-- ln of m × 2^e as (negative, enclosure of the magnitude): m is brought between 2/3 and 4/3 of a power of two. -/
def lnEncl (p m : Nat) (e : Int) : Bool × (Nat × Nat) :=
  let l := Nat.log2 m
  let j := if 3 * m > 4 * 2 ^ l then l + 1 else l
  let k : Int := e + j
  let below := decide (m < 2 ^ j)
  let d := if below then 2 ^ j - m else m - 2 ^ j
  let (flo, fhi) := atanhRat p d (m + 2 ^ j)
  let (tlo, thi) := atanhRat p 1 3
  let kn := k.natAbs
  let big := (2 * tlo * kn, 2 * thi * kn)
  let fine := (2 * flo, 2 * fhi)
  if k = 0 then (below, fine)
  else if (decide (k < 0)) = below then (decide (k < 0), (big.1 + fine.1, big.2 + fine.2))
  else (decide (k < 0), (big.1 - fine.2, big.2 - fine.1))

/-- atan(1/n) = Σ (−1)^i / ((2i+1) n^(2i+1)), n at least 2: alternating partial sums enclose it. -/
def atanInvSeries (p n : Nat) : Nat → Nat → Nat → Nat → Nat × Nat
  | 0, _, _, s => (s - 2 * p, s + 2 * p)
  | k + 1, i, pw, s =>
    let t := pw / (2 * i + 1)
    atanInvSeries p n k (i + 1) (pw / (n * n)) (if i % 2 = 0 then s + t else s - t)

/-- π = 16 atan(1/5) − 4 atan(1/239), each sum of p/2 terms rounded down by at most one unit a term. -/
def piEncl (p : Nat) : Nat × Nat :=
  let a := atanInvSeries p 5 (p / 4 + 4) 0 (2 ^ p / 5) 0
  let b := atanInvSeries p 239 (p / 4 + 4) 0 (2 ^ p / 239) 0
  (16 * a.1 - 4 * b.2, 16 * a.2 - 4 * b.1)

/-- Σ x (2x²)^n / (3·5···(2n+1)). -/
def erfSeries (p : Nat) (q : Nat × Nat) : Nat → Nat → Nat → Nat → Nat → Nat → Nat × Nat
  | 0, _, _, thi, slo, shi => (slo, shi + 2 * thi + 2)
  | k + 1, n, tlo, thi, slo, shi =>
    let tlo' := tlo * q.1 / (2 ^ p * n)
    let thi' := thi * q.2 / (2 ^ p * n) + 1
    erfSeries p q k (n + 2) tlo' thi' (slo + tlo') (shi + thi')

/-- erf x = 2/√π · e^(−x²) · Σ, for 0 < x = m × 2^e < 12. -/
def erfEncl (p m : Nat) (e : Int) : Nat × Nat :=
  let x := fixedOf p m e
  let sq := mulEncl p x x
  let s := erfSeries p (2 * sq.1, 2 * sq.2) (p + 700) 3 x.1 x.2 x.1 x.2
  let ex := expEncl p true (m * m) (2 * e)
  let pi := piEncl p
  let root := (isqrt (pi.1 * 2 ^ p), isqrt (pi.2 * 2 ^ p) + 1)
  divEncl p (mulEncl p ex (2 * s.1, 2 * s.2)) root

/-! ### Rounding an enclosure -/

/-- Both ends of an enclosure round alike: that is the result (R123). -/
def agree (mode : Nat) (neg : Bool) (p : Nat) (x : Nat × Nat) : Option VRes :=
  let f (m : Nat) := vFin mode neg (if neg then -(m : Int) else m) (-(p : Int))
  if x.1 = 0 then none
  else if f x.1 = f x.2 then some (f x.1) else none

/-- Precisions tried in turn; FP32 arguments separate well within them (PRESUMED, log entry 14). -/
def precisions : List Nat := [320, 640, 1400]

/-- The first precision at which the enclosure separates. -/
def firstAgree (mode : Nat) (f : Nat → Bool × (Nat × Nat)) : List Nat → Option VRes
  | [] => none
  | p :: ps =>
    match agree mode (f p).1 p (f p).2 with
    | some r => some r
    | none => firstAgree mode f ps

/-- A correctly rounded irrational value; `op`, `a`, `b` name it for the free value that stands where no precision
separates it (log entry 14). -/
def roundIrr (op a b mode : Nat) (f : Nat → Bool × (Nat × Nat)) : VRes :=
  match firstAgree mode f precisions with
  | some r => r
  | none => { bits := (Config.elementaryFallback op (BitVec.ofNat 32 a) (BitVec.ofNat 32 b) mode).toNat }

/-! ### The functions on exact arguments -/

/-- |m × 2^e| ≥ n. -/
def atLeast (m : Nat) (e : Int) (n : Nat) : Bool := !(dyLt m e n 0)

/-- A positive value just below 1, and one far below the smallest subnormal, for arguments beyond every finite result. -/
def nearOne (mode : Nat) (neg : Bool) : VRes := vFin mode neg (if neg then -(2 ^ 300 - 1) else 2 ^ 300 - 1) (-300)
def nearZero (mode : Nat) : VRes := vFin mode false 1 (-300)

/-- e^x (R123): beyond ±256 the result is that of any value past the range. -/
def vExpFin (op a b mode : Nat) (m e : Int) : VRes :=
  if m = 0 then vFin mode false 1 0
  else if atLeast m.natAbs e 256 then (if m < 0 then nearZero mode else vFin mode false 1 300)
  else roundIrr op a b mode (fun p => (false, expEncl p (decide (m < 0)) m.natAbs e))

/-- ln x of a positive finite x (R123). -/
def vLnFin (op a mode : Nat) (m : Nat) (e : Int) : VRes :=
  if dyLt m e 1 0 || dyLt 1 0 m e then roundIrr op a 0 mode (fun p => lnEncl p m e) else vZero false

/-- tanh x of a finite non-zero x (R123). -/
def vTanhFin (op a mode : Nat) (m e : Int) : VRes :=
  let neg := decide (m < 0)
  if atLeast m.natAbs e 64 then nearOne mode neg
  else roundIrr op a 0 mode (fun p =>
    let t := expPos p m.natAbs (e + 1)
    (neg, divEncl p (t.1 - 2 ^ p, t.2 - 2 ^ p) (t.1 + 2 ^ p, t.2 + 2 ^ p)))

/-- 1 / (1 + e^−x) of a finite non-zero x (R123). -/
def vSigmFin (op a mode : Nat) (m e : Int) : VRes :=
  if atLeast m.natAbs e 256 then (if m < 0 then nearZero mode else nearOne mode false)
  else roundIrr op a 0 mode (fun p =>
    let t := expEncl p (decide (0 < m)) m.natAbs e
    (false, divEncl p (2 ^ p, 2 ^ p) (t.1 + 2 ^ p, t.2 + 2 ^ p)))

/-- erf x of a finite non-zero x (R123). -/
def vErfFin (op a mode : Nat) (m e : Int) : VRes :=
  let neg := decide (m < 0)
  if atLeast m.natAbs e 12 then nearOne mode neg
  else roundIrr op a 0 mode (fun p => (neg, erfEncl p m.natAbs e))

/-- √(m × 2^e) with a sticky bit: rounded exactly (R122). -/
def vSqrtFin (mode m : Nat) (e : Int) : VRes :=
  let (m, e) := if e % 2 = 0 then (m, e) else (2 * m, e - 1)
  let n := isqrt (m * 2 ^ 128)
  let sticky := if n * n = m * 2 ^ 128 then 0 else 1
  vFin mode false ((2 * n + sticky : Nat) : Int) (e / 2 - 65)

/-- 1/√(m × 2^e) with a sticky bit: rounded exactly (R123). -/
def vRsqrtFin (mode m : Nat) (e : Int) : VRes :=
  let (m, e) := if e % 2 = 0 then (m, e) else (2 * m, e - 1)
  let q := 2 ^ 256 / m
  let n := isqrt q
  let sticky := if n * n * m = 2 ^ 256 then 0 else 1
  vFin mode false ((2 * n + sticky : Nat) : Int) (-(e / 2) - 129)

/-- a / b of non-zero finite values with a sticky bit: rounded exactly (R122). -/
def vDivFin (mode : Nat) (ma ea mb eb : Int) : VRes :=
  let num := ma.natAbs * 2 ^ 96
  let q := num / mb.natAbs
  let sticky := if num % mb.natAbs = 0 then 0 else 1
  let neg := xor (decide (ma < 0)) (decide (mb < 0))
  let v : Int := ((2 * q + sticky : Nat) : Int)
  vFin mode neg (if neg then -v else v) (ea - eb - 97)

/-! ### The operations on FP32 bits (R121 to R124, R130) -/

def fpVal (x : Nat) : ExactVal := decodeElem 0x01 x
def fpNeg (x : Nat) : Bool := x / 2 ^ 31 % 2 == 1

/-- a + b (R122). The sign of an exact zero sum is IEEE 754's: that of equal signs, else − only under RDN. -/
def vAdd (mode a b : Nat) : VRes :=
  match fpVal a, fpVal b with
  | .nan, _ => vNan
  | _, .nan => vNan
  | .fin ma ea, .fin mb eb =>
    let lo := min ea eb
    let zn := if ma = 0 && mb = 0 && fpNeg a == fpNeg b then fpNeg a else decide (mode = 3)
    vFin mode zn (ma * 2 ^ (ea - lo).toNat + mb * 2 ^ (eb - lo).toNat) lo
  | .fin _ _, _ => { bits := b }
  | _, .fin _ _ => { bits := a }
  | _, _ => if fpNeg a = fpNeg b then { bits := a } else vInvalid 2

/-- The bits with the sign changed. -/
def flipSign (x : Nat) : Nat := if fpNeg x then x - 2 ^ 31 else x + 2 ^ 31

/-- a × b (R122). -/
def vMul (mode a b : Nat) : VRes :=
  let neg := xor (fpNeg a) (fpNeg b)
  match fpVal a, fpVal b with
  | .nan, _ => vNan
  | _, .nan => vNan
  | .fin ma ea, .fin mb eb => vFin mode neg (ma * mb) (ea + eb)
  | .fin ma _, _ => if ma = 0 then vInvalid 1 else vInf neg
  | _, .fin mb _ => if mb = 0 then vInvalid 1 else vInf neg
  | _, _ => vInf neg

/-- a × b + c with one rounding; 0 × ∞ is an event whatever c is (R122, R130). -/
def vFma (mode a b c : Nat) : VRes :=
  let neg := xor (fpNeg a) (fpNeg b)
  match fpVal a, fpVal b, fpVal c with
  | .fin ma ea, .fin mb eb, .fin mc ec =>
    let e := ea + eb
    let lo := min e ec
    let m := ma * mb
    let zn := if m = 0 && mc = 0 && neg == fpNeg c then neg else decide (mode = 3)
    vFin mode zn (m * 2 ^ (e - lo).toNat + mc * 2 ^ (ec - lo).toNat) lo
  | x, y, z =>
    let p := vMul mode a b
    if decide (x = .nan) || decide (y = .nan) then vNan
    else if p.bad.isSome then p
    else match x, y with
      | .fin _ _, .fin _ _ => if z = .nan then vNan else { bits := c }
      | _, _ => vAdd mode (if neg then 0xFF800000 else 0x7F800000) c

/-- Order of two values that are not NaN, −0 below +0. -/
def fpBelow (a b : Nat) : Bool :=
  let k (x : Nat) : Int := if fpNeg x then -((x % 2 ^ 31 : Nat) : Int) - 1 else (x : Nat)
  decide (k a < k b)

/-- IEEE 754-2019 minimum and maximum (R121). -/
def vMinMax (max : Bool) (a b : Nat) : VRes :=
  if decide (fpVal a = .nan) || decide (fpVal b = .nan) then vNan
  else { bits := if fpBelow a b = max then b else a }

/-- a < b as 1 or 0; a NaN compares false, zeros compare equal (R121). -/
def vLess (a b : Nat) : Bool :=
  match fpVal a, fpVal b with
  | .nan, _ => false
  | _, .nan => false
  | .fin ma _, .fin mb _ => if ma = 0 && mb = 0 then false else fpBelow a b
  | _, _ => fpBelow a b

/-- A value carried over exactly; a NaN becomes the canonical one (R51). -/
def vCopy (a : Nat) : VRes := if fpVal a = .nan then vNan else { bits := a }

/-- a / b (R122, R130). -/
def vDiv (mode a b : Nat) : VRes :=
  let neg := xor (fpNeg a) (fpNeg b)
  match fpVal a, fpVal b with
  | .nan, _ => vNan
  | _, .nan => vNan
  | .fin ma ea, .fin mb eb =>
    if mb = 0 then (if ma = 0 then vInvalid 5 else { vInf neg with div0 := true })
    else if ma = 0 then vZero neg else vDivFin mode ma ea mb eb
  | .fin _ _, _ => vZero neg
  | _, .fin _ _ => vInf neg
  | _, _ => vInvalid 5

/-- √a; √−0 is −0 (R122, R130). -/
def vSqrt (mode a : Nat) : VRes :=
  match fpVal a with
  | .nan => vNan
  | .posInf => vInf false
  | .negInf => vInvalid 5
  | .fin m e => if m = 0 then vZero (fpNeg a) else if m < 0 then vInvalid 5 else vSqrtFin mode m.natAbs e

/-- 1/√a (R123). -/
def vRsqrt (mode a : Nat) : VRes :=
  match fpVal a with
  | .nan => vNan
  | .posInf => vZero false
  | .negInf => vInvalid 5
  | .fin m e =>
    if m = 0 then { vInf (fpNeg a) with div0 := true } else if m < 0 then vInvalid 5 else vRsqrtFin mode m.natAbs e

/-- e^a (R123). -/
def vExp (mode a : Nat) : VRes :=
  match fpVal a with
  | .nan => vNan
  | .posInf => vInf false
  | .negInf => vZero false
  | .fin m e => vExpFin 0x50 a 0 mode m e

/-- e^(a − b), the difference exact (R123). -/
def vExpd (mode a b : Nat) : VRes :=
  match fpVal a, fpVal b with
  | .nan, _ => vNan
  | _, .nan => vNan
  | .fin ma ea, .fin mb eb =>
    let lo := min ea eb
    vExpFin 0x58 a b mode (ma * 2 ^ (ea - lo).toNat - mb * 2 ^ (eb - lo).toNat) lo
  | .fin _ _, _ => if fpNeg b then vInf false else vZero false
  | _, .fin _ _ => if fpNeg a then vZero false else vInf false
  | _, _ => if fpNeg a = fpNeg b then vInvalid 5 else if fpNeg a then vZero false else vInf false

/-- ln a (R123). -/
def vLog (mode a : Nat) : VRes :=
  match fpVal a with
  | .nan => vNan
  | .posInf => vInf false
  | .negInf => vInvalid 5
  | .fin m e =>
    if m = 0 then { vInf true with div0 := true } else if m < 0 then vInvalid 5 else vLnFin 0x51 a mode m.natAbs e

/-- tanh a, erf a and the logistic function (R123). -/
def vTanh (mode a : Nat) : VRes :=
  match fpVal a with
  | .nan => vNan
  | .posInf => { bits := 0x3F800000 }
  | .negInf => { bits := 0xBF800000 }
  | .fin m e => if m = 0 then vZero (fpNeg a) else vTanhFin 0x52 a mode m e

def vErf (mode a : Nat) : VRes :=
  match fpVal a with
  | .nan => vNan
  | .posInf => { bits := 0x3F800000 }
  | .negInf => { bits := 0xBF800000 }
  | .fin m e => if m = 0 then vZero (fpNeg a) else vErfFin 0x55 a mode m e

def vSigm (mode a : Nat) : VRes :=
  match fpVal a with
  | .nan => vNan
  | .posInf => { bits := 0x3F800000 }
  | .negInf => vZero false
  | .fin m e => if m = 0 then { bits := 0x3F000000 } else vSigmFin 0x53 a mode m e

end Sys2Proof.Machine
end

