-- ==== Sys2Proof/Machine/ContextSave.lean ====
section
/-! DEFINITION. Context save and restore at a core (R82 to R85, R114, R134). -/

namespace Sys2Proof.Machine

def engineAreaBytes : Nat := 3149824
def vectorAreaBytes : Nat := 34816

/-- Cores named in any engine group of a plan, ascending (R170, R176). -/
def planEngines (p : Plan) : List Nat :=
  (List.range 192).filter (fun g => p.groups.any (fun gr => gr.2.contains g))

/-- Index of a core among its plan's engines. -/
def engineIndex (p : Plan) (g : Nat) : Option Nat := (planEngines p).findIdx? (· == g)

/-- Interleaved address of the sealed save region (R141). -/
def Memory.sealedBase (m : Memory) : Nat := m.hbmDecoded

/-- Engine and vector save area of a context for a core: in its 0x0B range, or in its sealed slot (R83, R85, R134, R176).
The order within the range is ascending core; vector areas of the sealed region follow its engine slots. -/
def saveArea (s : State) (x g : Nat) : Option (Nat × Nat) :=
  let c := s.ctx x
  match c.plan with
  | none => none
  | some p =>
    match engineIndex p g with
    | none => none
    | some i =>
      if c.isSealed then
        match c.slots[i]? with
        | none => none
        | some slot =>
          let b := s.mem.sealedBase
          some (b + slot * engineAreaBytes, b + s.mem.sealedInForce.toNat * engineAreaBytes + slot * vectorAreaBytes)
      else
        match p.resources.find? (fun r => r.kind == 0x0B) with
        | none => none
        | some r =>
          let a := r.base + i * (engineAreaBytes + vectorAreaBytes)
          some (a, a + engineAreaBytes)

/-- The physical address of a save-area byte: the interleaved view without the sealed region's limit, or the map. -/
def savePhys (s : State) (a : Nat) : Nat :=
  if a < 960 * 2 ^ 30 then stackBase (a / 4096 % 12) + a / 4096 / 12 * 4096 + a % 4096
  else (s.translate a).getD a

/-- Bytes put at successive save-area addresses. -/
def putSave (s : State) : Memory → Nat → Bytes → Memory
  | m, _, [] => m
  | m, a, b :: bs => putSave s (m.setByte (savePhys s a) b) (a + 1) bs

def getSave (s : State) (a n : Nat) : Bytes := (List.range n).map (fun i => s.mem.byte (savePhys s (a + i)))

/-- The 64-byte blocks of an area of n bytes, a multiple of 64, at a multiple of 64, set to zero; their poison is gone. -/
def zeroSave (s : State) (m : Memory) (a n : Nat) : Memory :=
  let pages := (List.range (n / 64)).map (fun i => savePhys s (a + 64 * i) / 64)
  { m with cells := m.cells.filter (fun c => !(pages.contains (c.1 / 64)))
           poison := m.poison.filter (fun b => !(pages.contains b)) }

/-- The progress of a TMUL stopped at a beat boundary: its seq, batch iteration, next tile row and next logical K index; one
that a restore brought and that has not resumed since stands as it was (R82, R83, R91). -/
def progressOf (c : Core) : Option (BitVec 64 × Nat × Nat × Nat) :=
  match c.engine.window.find? (fun e => decide (e.phase = .running)) with
  | none => c.progress
  | some e =>
    let (b, kc, t) := beatOf e.desc e.beats
    some (e.seq, b, t, tKOrg e.desc + kc * beatWidth e.desc)

/-- The 32 bytes of the progress field; all zero where no TMUL was stopped (R83; log entry 125). -/
def progressBytes (p : Option (BitVec 64 × Nat × Nat × Nat)) : Bytes :=
  match p with
  | none => List.replicate 32 0#8
  | some (q, b, t, k) => leBytes 8 q.toNat ++ leBytes 4 b ++ leBytes 4 t ++ leBytes 8 k ++ List.replicate 8 0#8

/-- The engine save area of R83 written at a. The last retired sequence number is all ones before any has retired (log entry
125). -/
def saveEngine (s : State) (m : Memory) (g a : Nat) : Memory :=
  let c := s.core g
  let m := zeroSave s m a engineAreaBytes
  let m := putSave s m a (leBytes 2 1 ++ leBytes 2 g ++ leBytes 4 0 ++ leBytes 8 (c.engine.retired - 1).toNat ++
    progressBytes (progressOf c) ++ captureBytes c.capture)
  let m := c.tags.foldl (fun m t => putSave s m (a + 1024 + 4 * t.1) (leBytes 4 t.2.toNat)) m
  c.skein.foldl (fun m e => putSave s m (a + 4096 + e.1 * 24) (slotBytes 0 e.2)) m

/-- The vector save area of R134 written at a. -/
def saveVector (s : State) (m : Memory) (g a : Nat) : Memory :=
  let c := s.core g
  let m := zeroSave s m a vectorAreaBytes
  let m := putSave s m a (leBytes 2 1 ++ leBytes 2 g ++ leBytes 4 0 ++ leBytes 8 (c.vector.retired - 1).toNat ++
    captureBytes c.vcapture)
  let m := c.redTags.foldl (fun m t => putSave s m (a + 1024 + 4 * t.1) (leBytes 4 t.2.toNat)) m
  c.red.foldl (fun m e => putSave s m (a + 4096 + e.1 * 24) (slotBytes 0 e.2)) m

/-- A wait granted to an instruction that is abandoned returns its credit, its reservation is returned, and it is no longer
a waiter (R114). -/
def abandonOne (u : UnitKind) (g : CoreId) (s : State) (e : WinEntry) : State :=
  let x := s.ownerOf g
  let w := s.transEntry x (dWaitVid e.desc)
  let s := returnReservation s u g e
  if !(dWaitEn e.desc) || trKind w != 0 then s
  else if e.granted then returnCredit s (trTarget w)
  else
    let c := s.ctr (trTarget w)
    s.setCtr (trTarget w) { c with waiters := c.waiters.filter (fun a => decide (a ≠ unitActor u g e.seq)) }

/-- Instructions that have not issued are abandoned: next_seq and head go back to the earliest of them. A TMUL stopped at a
beat boundary leaves the window too, for its progress is in the save area; it keeps its reservation (R82, R114). -/
def abandon (u : UnitKind) (g : CoreId) (s : State) : State :=
  let unissued (e : WinEntry) : Bool := decide (e.phase = .fetched) || decide (e.phase = .waiting)
  let gone := (s.unitOf u g).window.filter unissued
  let s := gone.foldl (abandonOne u g) s
  let r := s.unitOf u g
  let r := { r with stopped := true, window := r.window.filter (fun e => !(unissued e) && decide (e.phase ≠ .running)) }
  s.setCore g ((s.core g).setUnit u (match gone with
    | [] => r
    | e :: _ => { r with head := e.index, nextSeq := e.seq }))

/-- Every issued instruction of the core has run to completion and its record is written; only a TMUL may be part done, and
no beat is in flight (R82). -/
def canStop (s : State) (g : Nat) : Bool :=
  let c := s.core g
  let idle (r : UnitRing) := r.window.all (fun e => decide (e.phase = .fetched) || decide (e.phase = .waiting) ||
    decide (e.phase = .running))
  idle c.engine && idle c.vector && idle c.dma && (List.range 16).all (fun q => c.fence q == 0)

/-- Address of a ring slot. -/
def ringSlot (g : Nat) (r : UnitRing) (i : BitVec 32) : Nat := localBase g + r.base.toNat + i.toNat % 2 ^ r.log2.toNat * 128

/-- The descriptors between head and tail of a ring, oldest first. -/
def ringRest (s : State) (g : Nat) (u : UnitKind) : List (UnitKind × Bytes) :=
  let r := (s.core g).unit u
  (List.range (min (r.tail - r.head).toNat (2 ^ r.log2.toNat))).map (fun i =>
    (u, s.mem.getBytes (ringSlot g r (r.head + BitVec.ofNat 32 i)) 128))

/-- The descriptor of the TMUL that a switch stops at a beat, or of one that a restore brought and that has not resumed. -/
def stoppedTmul (s : State) (x g : Nat) : Option Bytes :=
  match (s.core g).engine.window.find? (fun e => decide (e.phase = .running)) with
  | some e => some e.desc
  | none => if (s.core g).progress.isSome then (smGet {} (s.ctx x).parked g).running else none

/-- Firmware takes what the core has not fetched out of its rings, to put it back at the restore (R114; log entry 142). -/
def parkCore (s : State) (x g : Nat) (running : Option Bytes) : State :=
  let c := s.core g
  let p : Parked := { job := c.job, work := c.work, rings := [UnitKind.engine, .vector, .dma].flatMap (ringRest s g)
                      seqs := (c.engine.nextSeq, c.vector.nextSeq, c.dma.nextSeq), running := running }
  let emptied (r : UnitRing) : UnitRing := { r with tail := r.head }
  let s := s.setCtx x { s.ctx x with parked := smSet {} (s.ctx x).parked g p }
  s.setCore g { c with engine := emptied c.engine, vector := emptied c.vector, dma := emptied c.dma, work := [] }

/-- A descriptor goes into a ring at its tail. -/
def putBack (s : State) (g : Nat) (d : UnitKind × Bytes) : State :=
  let r := (s.core g).unit d.1
  let s := { s with mem := s.mem.putBytes (ringSlot g r r.tail) d.2 }
  s.setCore g ((s.core g).setUnit d.1 { r with tail := r.tail + 1 })

/-- Firmware puts the parked descriptors back into the core's rings, under their sequence numbers, and the stopped TMUL into the slot
before the engine's head (R114). -/
def unparkCore (s : State) (x g : Nat) : State :=
  let p : Parked := smGet {} (s.ctx x).parked g
  let c := s.core g
  if p = {} then s
  else
  let fresh (r : UnitRing) (q : BitVec 64) : UnitRing := { r with tail := r.head, nextSeq := q }
  let s := s.setCtx x { s.ctx x with parked := smSet {} (s.ctx x).parked g {} }
  let s := s.setCore g { c with engine := fresh c.engine p.seqs.1, vector := fresh c.vector p.seqs.2.1, dma := fresh c.dma p.seqs.2.2
                                job := p.job, work := p.work }
  let s := p.rings.foldl (fun s d => putBack s g d) s
  match p.running, c.progress with
  | some d, some (q, _) =>
    let back := BitVec.ofNat 32 (p.seqs.1 - q).toNat
    if back = 0 then s else { s with mem := s.mem.putBytes (ringSlot g c.engine (c.engine.head - back)) d }
  | _, _ => s

/-- CONTEXT_SWITCH: the units of a core stop, what has not issued is abandoned, and the engine and vector save areas are
written; the core holds no context afterwards (R82, R83, R114, R134). -/
def execContextSwitch (x : CtxId) (g : CoreId) (s : State) : Host.Outcome State Fault Refusal :=
  .next (
    match saveArea s x g with
    | none => s
    | some (ea, va) =>
      if (s.core g).owner ≠ some x || !canStop s g then s
      else
        let m := saveVector s (saveEngine s s.mem g ea) g va
        let running := stoppedTmul s x g
        let s := parkCore (abandon .dma g (abandon .vector g (abandon .engine g { s with mem := m }))) x g running
        let c := s.ctx x
        let s := s.setCtx x { c with saved := (g : Nat) :: c.saved.filter (· != (g : Nat)) }
        s.setCore g { s.core g with owner := none, job := none, progress := none })

/-- Entries at consecutive keys read from slots at a, and the keys whose slot fails its comparison (R77, R84). -/
def restoreEntries (s : State) (a n : Nat) : SMap Entry × List Nat :=
  (List.range n).foldl (fun acc i =>
    let b := getSave s (a + i * 24) 24
    if slotOk b then (smSet {} acc.1 i (slotEntry 0 b), acc.2) else (acc.1, acc.2 ++ [i])) ([], [])

/-- The place of a slot in its element, and the element's plies, by the tag of the row or register (R57, R59, R125). -/
def slotPlace (tag : BitVec 32) (j : Nat) : Nat × Nat :=
  if tagValid tag && decide (j < tagPly tag) then (j, tagPly tag) else (0, 1)

/-- The element of a skein slot that failed loads as NaN of cause 0x3 (R77, R84); the slot's key is row × 512 + column. -/
def spoilSkein (c : Core) (key : Nat) : Core :=
  let t := c.tag (key / 512)
  let (j, p) := slotPlace t (tagPos t)
  c.setTerm (key / 512 - j) p (key % 512) nanTerm

/-- The element of a register's slot that failed, likewise; the slot's key is register × 5 + j. -/
def spoilRed (c : Core) (key : Nat) : Core :=
  let (j, p) := slotPlace (smGet 0#32 c.redTags (key / 5)) (key % 5)
  { c with red := (packTerm p nanTerm).zipIdx.foldl (fun m e => smSet {} m (key - j + e.2) e.1) c.red }

def restoreTags (s : State) (a : Nat) : SMap (BitVec 32) :=
  (List.range 256).foldl (fun m i => smSet 0#32 m i (BitVec.ofNat 32 (leNat (getSave s (a + 4 * i) 4)))) []

/-- TMUL progress of a save area; all zero means none. -/
def restoreProgress (b : Bytes) : Option (BitVec 64 × Nat × Nat × Nat) :=
  if leNat b = 0 then none else some (BitVec.ofNat 64 (leAt b 0 8), leAt b 8 4, leAt b 12 4, leAt b 16 8)

/-- CONTEXT_RESTORE: every row, tag and register of the context's areas for this logical core is loaded, with the captures
and the TMUL progress, and the units run again (R77, R84, R134). -/
def execContextRestore (x : CtxId) (g : CoreId) (s : State) : Host.Outcome State Fault Refusal :=
  .next (
    match saveArea s x g with
    | none => s
    | some (ea, va) =>
      if !((s.ctx x).saved.contains (g : Nat)) || (s.core g).owner.isSome || !s.present g then s
      else
        let (rows, bad) := restoreEntries s (ea + 4096) 131072
        let (regs, badV) := restoreEntries s (va + 4096) 1280
        let c := s.core g
        let c := { c with
          skein := rows, tags := restoreTags s (ea + 1024), fences := []
          capture := captureOf (getSave s (ea + 48) 32), vcapture := captureOf (getSave s (va + 16) 32)
          progress := restoreProgress (getSave s (ea + 16) 32)
          red := regs, redTags := restoreTags s (va + 1024), owner := some x
          engine := { c.engine with stopped := false }, vector := { c.vector with stopped := false }
          dma := { c.dma with stopped := false } }
        let c := badV.foldl spoilRed (bad.foldl spoilSkein c)
        let s' := issueNext (reloadTmul g (unparkCore (s.setCore g c) x g)) g
        let cx := s'.ctx x
        let s' := s'.setCtx x { cx with saved := cx.saved.filter (· != (g : Nat)) }
        let fails := bad.length + badV.length
        let s' := { s' with rel := { s'.rel with slotFailures := satAdd s'.rel.slotFailures fails } }
        let note (unit j a : Nat) : FaultNote :=
          { unit := unit, sev := 3, cls := 5, key := j, src := 9, ctx := x, syn := leBytes 8 a }
        match bad, badV with
        | [], [] => s'
        | i :: _, _ =>
          let t := c.tag (i / 512)
          fault s' (note (s.hardwareOf .engine g { sev := 3, cls := 5 }) (slotPlace t (tagPos t)).1 (ea + 4096 + 24 * i))
        | [], i :: _ =>
          fault s' (note (s.coreUnit g) (slotPlace (smGet 0#32 c.redTags (i / 5)) (i % 5)).1 (va + 4096 + 24 * i)))

end Sys2Proof.Machine
end

