-- ==== Sys2Proof/Machine/DmaOps.lean ====
section
/-! DEFINITION. What the DMA engine's instructions check and do (R157 to R163), and the content check of a tensor (R155, R156). -/

namespace Sys2Proof.Machine

/-! ### Descriptor fields (R158) -/

def mSrc (d : Bytes) : Nat := leAt d 16 8
def mDst (d : Bytes) : Nat := leAt d 24 8
def mInner (d : Bytes) : Nat := leAt d 32 4
def mCount (d : Bytes) (i : Nat) : Nat := leAt d (36 + 4 * i) 4
def mSrcStride (d : Bytes) (i : Nat) : Int := sAt d (48 + 8 * i) 8
def mDstStride (d : Bytes) (i : Nat) : Int := sAt d (72 + 8 * i) 8
def mPolicy (d : Bytes) : Nat := byteAt d 96 % 4
def mBack (d : Bytes) : Bool := bitAt (byteAt d 96) 2
def mWhole (d : Bytes) : Bool := bitAt (byteAt d 96) 3
def mPattern (d : Bytes) : Bytes := (d.drop 100).take 8
def mHdr (d : Bytes) : Nat := leAt d 108 6
def mImage (d : Bytes) : Nat := leAt d 116 3

/-- Fields an opcode does not use, and unnamed bits, are zero (R4, R158). -/
def dmaReservedOk (d : Bytes) : Bool :=
  hdrReservedOk d && byteAt d 15 / 64 == 0 && byteAt d 96 / 16 == 0 && zeroRange d 97 100 && zeroRange d 114 116 &&
  zeroRange d 119 128 &&
  match dOpcode d with
  | 0x80 => targetOk (mSrc d) && targetOk (mDst d) && byteAt d 96 / 4 == 0 && zeroRange d 100 119
  | 0x81 => zeroRange d 16 24 && targetOk (mDst d) && zeroRange d 48 72 && byteAt d 96 == 0 && zeroRange d 108 119
  | 0x82 => zeroRange d 16 108
  | 0x83 => zeroRange d 16 108 && zeroRange d 116 119
  | 0x84 => zeroRange d 16 24 && mDst d / 2 ^ 48 == 0 && zeroRange d 36 96 && byteAt d 96 % 8 == 0 && zeroRange d 100 119
  | _ => mSrc d / 2 ^ 24 == 0 && mDst d / 2 ^ 24 == 0 && byteAt d 96 % 4 == 0 && byteAt d 96 / 8 == 0 && zeroRange d 100 119

/-- Source and destination offsets of the runs, in the order of R159. -/
def dmaRuns (d : Bytes) : List (Int × Int) :=
  (List.range (mCount d 2)).flatMap (fun i3 => (List.range (mCount d 1)).flatMap (fun i2 =>
    (List.range (mCount d 0)).map (fun i1 =>
      (i1 * mSrcStride d 0 + i2 * mSrcStride d 1 + i3 * mSrcStride d 2,
        i1 * mDstStride d 0 + i2 * mDstStride d 1 + i3 * mDstStride d 2))))

/-- A descriptor without a byte to move or a line to invalidate (R160). -/
def dmaEmpty (d : Bytes) : Bool :=
  match dOpcode d with
  | 0x80 | 0x81 | 0x85 => mInner d == 0 || mCount d 0 == 0 || mCount d 1 == 0 || mCount d 2 == 0
  | 0x84 => mInner d == 0 && !(mWhole d)
  | _ => false

/-- The 64-bit address of a run (R144, R159). -/
def runAt (base : Nat) (off : Int) : Nat := (((base : Int) + off) % (2 ^ 64 : Nat)).toNat

/-- The runs from base that lie on this module are all in one region, and no run has bit 63 set or names a module without
remote (R139, R144). -/
def runsInMap (s : State) (base n : Nat) (offs : List Int) : Bool :=
  offs.all (fun o => targetOk (runAt base o)) &&
  match (offs.map (runAt base)).filter (fun a => !(tgRemote a)) with
  | [] => true
  | a :: as =>
    match s.regionId a with
    | none => false
    | some reg => (a :: as).all (fun b => s.rangeOk (some reg) b n)

/-- Every run from a local offset lies in local SRAM. -/
def runsLocal (base n : Nat) (offs : List Int) : Bool := offs.all (fun o => localRange ((base : Int) + o) (base + o + n))

/-- Lowest byte and one past the highest byte of runs. -/
def runSpan (base n : Nat) (offs : List Int) : Int × Int :=
  offs.foldl (fun x o => (min x.1 (base + o), max x.2 (base + o + n))) ((base : Int), (base : Int))

/-- Two spans of addresses share one. -/
def spansMeet (a b : Int × Int) : Bool := decide (a.1 < b.2) && decide (b.1 < a.2)

/-- The part of a span of the interleaved view that lies on a stack, in the addresses of the per-stack view (R140). -/
def stackSpan (st : Nat) (x : Int × Int) : Int × Int :=
  let a := x.1.toNat
  let z := x.2.toNat - 1
  let first := a / 4096 + (st + 12 - a / 4096 % 12) % 12
  let back := (z / 4096 % 12 + 12 - st) % 12
  if z < a || decide (z / 4096 < first + back) then (0, 0)
  else
    let last := z / 4096 - back
    ((stackBase st + first / 12 * 4096 + (if first = a / 4096 then a % 4096 else 0) : Nat),
      (stackBase st + last / 12 * 4096 + (if back = 0 then z % 4096 + 1 else 4096) : Nat))

/-- Two spans on this module share a byte: the interleaved and the per-stack view name the same cells (R140, R160). -/
def spansShareCell (s : State) (a b : Int × Int) : Bool :=
  match s.regionId a.1.toNat, s.regionId b.1.toNat with
  | some 0, some r => if 1 ≤ r ∧ r ≤ 12 then spansMeet (stackSpan (r - 1) a) b else spansMeet a b
  | some r, some 0 => if 1 ≤ r ∧ r ≤ 12 then spansMeet a (stackSpan (r - 1) b) else spansMeet a b
  | _, _ => spansMeet a b

/-- Step 2 of R102 for a DMA descriptor. -/
def dmaStep2 (s : State) (g : Nat) (d : Bytes) : Bool :=
  let runs := dmaRuns d
  let src := runs.map (·.1)
  let dst := runs.map (·.2)
  let n := mInner d
  syncFieldsOk s (s.ownerOf g) (384 + g) (dWaitEn d) (dWaitVid d) (dSigEn d) (dSigVid d) (dSigAmt d) &&
  match dOpcode d with
  | 0x80 =>
    mPolicy d != 3 && (dmaEmpty d ||
      (runsInMap s (mSrc d) n src && runsInMap s (mDst d) n dst &&
        (tgRemote (mSrc d) || tgRemote (mDst d) ||
          !(spansShareCell s (runSpan (mSrc d) n src) (runSpan (mDst d) n dst)))))
  | 0x81 => dmaEmpty d || runsInMap s (mDst d) n dst
  | 0x82 => hdrRangeOk s (mHdr d) && localRange (mImage d) (mImage d + 64)
  | 0x83 => hdrRangeOk s (mHdr d)
  | 0x84 => !(mWhole d && n != 0)
  | _ => dmaEmpty d || (runsLocal (mSrc d) n src && runsLocal (mDst d) n dst)

/-- The header image of DHINIT satisfies R153 (R159); a tensor that DHASH names has a legal header. -/
def dmaStep4 (s : State) (g : Nat) (d : Bytes) : Verdict :=
  match dOpcode d with
  | 0x82 => withHeader s (localBase g + mImage d) headerLegal
  | 0x83 => withHeader s (mHdr d) headerLegal
  | _ => .pass

def dmaCheck (g : Nat) (s : State) (e : WinEntry) : Verdict :=
  if !(dmaReservedOk e.desc) then .refuse stBad
  else if !(dmaStep2 s g e.desc) then .refuse stBad
  else dmaStep4 s g e.desc

/-! ### Packets of a transfer (R271) -/

/-- STORE where address and length are multiples of 8, else STORE_BYTES of at most 56 bytes; the first number bounds the
packets. -/
def storePackets (m : Nat) : Nat → Nat → Bytes → List (Nat × Nat × Nat × Bytes × Nat)
  | 0, _, _ => []
  | k + 1, a, bs =>
    if bs.isEmpty then []
    else if a % 8 = 0 && decide (8 ≤ bs.length) then
      let n := min 384 (bs.length / 8 * 8)
      (m, 3, a, bs.take n, 0) :: storePackets m k (a + n) (bs.drop n)
    else
      let n := min bs.length (if a % 8 = 0 then 56 else 8 - a % 8)
      (m, 4, a, leBytes 8 n ++ padTo (roundUp n 8) (bs.take n), 0) :: storePackets m k (a + n) (bs.drop n)

/-- LOAD_REQ of at most 384 bytes each; `dest` is where the response's data goes. -/
def loadPackets (m : Nat) : Nat → Nat → Nat → Nat → List (Nat × Nat × Nat × Bytes × Nat)
  | 0, _, _, _ => []
  | k + 1, a, n, dest =>
    if n = 0 then []
    else
      let len := min n 384
      (m, 1, a, leBytes 8 len, dest) :: loadPackets m k (a + len) (n - len) (dest + len)

/-- Bytes sent to an address of R144: written on this module, or in packets. -/
def Run.deliverTo (r : Run) (env : State) (cl dst : Nat) (bs : Bytes) : Run :=
  if tgRemote dst then { r with packets := r.packets ++ storePackets (tgModule dst) (bs.length / 8 + 4) (tgAddr dst) bs }
  else r.write env cl 1 dst bs

/-! ### The instructions (R159 to R163) -/

/-- DCOPY: each run read under its cache policy and written; a run from the fabric is asked for, and its data is written
when it arrives. -/
def dcopyBody (det : Detect) (g : Nat) (env : State) (e : WinEntry) (r : Run) : Run :=
  let d := e.desc
  (dmaRuns d).foldl (fun r run =>
    r.beat env det (fun r =>
      let a := runAt (mSrc d) run.1
      let dest := runAt (mDst d) run.2
      if tgRemote a then
        { r with packets := r.packets ++ loadPackets (tgModule a) (mInner d / 384 + 1) (tgAddr a) (mInner d) dest }
      else match readCached env r.mem (g / 8) (mPolicy d) a (mInner d) with
        | (m, .error err) => { r with mem := m }.memErr env err
        | (m, .ok bs) => { r with mem := m }.deliverTo env (g / 8) dest bs)) r

/-- The pattern repeated over n bytes. -/
def fillRun (d : Bytes) (n : Nat) : Bytes := (List.range n).map (fun i => (mPattern d).getD (i % 8) 0#8)

def dfillBody (det : Detect) (g : Nat) (env : State) (e : WinEntry) (r : Run) : Run :=
  let d := e.desc
  (dmaRuns d).foldl (fun r run =>
    r.beat env det (fun r => r.deliverTo env (g / 8) (runAt (mDst d) run.2) (fillRun d (mInner d)))) r

/-- A header image as DHINIT writes it: tag 0x8000, no presence, no check (R159). -/
def freshHeader (h : Bytes) : Bytes :=
  overlay (overlay (overlay h 3 (leBytes 1 (byteAt h 3 / 8 % 16 * 8))) 4 (leBytes 2 0x8000)) 56 (leBytes 8 0)

def dhinitBody (det : Detect) (g : Nat) (env : State) (e : WinEntry) (r : Run) : Run :=
  r.beat env det (fun r =>
    match readMem env r.mem 64 (localBase g + mImage e.desc) with
    | .error err => r.memErr env err
    | .ok h => r.write env (g / 8) 64 (mHdr e.desc) (freshHeader h))

/-- Index tuples of dimensions, the first dimension fastest. -/
def indexTuples : List Nat → List (List Nat)
  | [] => [[]]
  | n :: ns => (indexTuples ns).flatMap (fun t => (List.range n).map (fun i => i :: t))

/-- Byte offset of a row of dimension 0 by its higher indices (R152). -/
def rowOffset (h : Bytes) (idx : List Nat) : Nat :=
  (List.range idx.length).foldl (fun a j => a + hdrStride h (j + 1) * idx.getD j 0) 0

def hdrDims (h : Bytes) : List Nat := (List.range (hdrRank h)).map (hdrDim h)

/-- Rows of a tensor: address of the first element of each, in logical order. -/
def tensorRows (h : Bytes) (a : Nat) : List Nat :=
  (indexTuples ((hdrDims h).drop 1)).map (fun t => a + 64 + rowOffset h t)

/-- Elements of a row; a rank-0 tensor holds one. -/
def rowElems (h : Bytes) : Nat := if hdrRank h = 0 then 1 else hdrDim h 0

/-- A saved element as it is hashed: the cause of a NaN is zero (R156). -/
def hashElement (p : Nat) (b : Bytes) : Bytes :=
  (List.range p).flatMap (fun j =>
    let slot := (b.drop (24 * j)).take 24
    if byteAt b 16 / 64 = 3 then overlay slot 16 (leBytes 1 (byteAt slot 16 / 64 * 64 + byteAt slot 16 % 4)) else slot)

/-- A row as it is hashed. -/
def hashRow (code n : Nat) (bs : Bytes) : Bytes :=
  match savedPly code with
  | some p => (List.range n).flatMap (fun i => hashElement p ((bs.drop (24 * p * i)).take (24 * p)))
  | none =>
    if fmtBits code = 4 && n % 2 == 1 then
      overlay bs (bs.length - 1) (leBytes 1 (byteAt bs (bs.length - 1) % 16))
    else bs

/-- Rows at addresses read and hashed in order, joined. -/
def readRowsAt (env : State) (m : Memory) (code n : Nat) (rows : List Nat) : Except MemErr Bytes :=
  match mapE (fun a => match readMem env m (elemBytes code n) a with
    | .error e => .error e
    | .ok bs => .ok (hashRow code n bs)) rows with
  | .error e => .error e
  | .ok l => .ok l.flatten

/-- End of the element data (R152). -/
def dataEnd (h : Bytes) (a : Nat) : Nat :=
  let last := (tensorRows h a).foldl max (a + 64)
  a + 64 + roundUp (last - (a + 64) + elemBytes (hdrFormat h) (rowElems h)) 64

/-- Rows of an MX tensor's scale array (R155). -/
def scaleRows (h : Bytes) (a : Nat) : List Nat × Nat :=
  let dims := (List.range (hdrRank h)).map (fun j =>
    if j = hdrBlockDim h then ceilDiv (hdrDim h j) 32 else hdrDim h j)
  let n := dims.headD 1
  let rows := ((dims.drop 1).foldl (· * ·) 1)
  ((List.range rows).map (fun i => dataEnd h a + i * roundUp n 64), n)

/-- The bytes that DHASH hashes (R156). -/
def contentBytes (env : State) (m : Memory) (a : Nat) (h : Bytes) : Except MemErr Bytes :=
  let n := rowElems h
  match (if n = 0 then .ok [] else readRowsAt env m (hdrFormat h) n (tensorRows h a)) with
  | .error e => .error e
  | .ok body =>
    if isMx (hdrFormat h) then
      let (rows, k) := scaleRows h a
      match readRowsAt env m 0x0B k rows with
      | .error e => .error e
      | .ok sc => .ok (body ++ sc)
    else .ok body

/-- The content check: first 8 bytes of the digest, in digest order (R152, R156). -/
def contentCheck (env : State) (m : Memory) (a : Nat) : Except MemErr Bytes :=
  match readMem env m 64 a with
  | .error e => .error e
  | .ok h => match contentBytes env m a h with
    | .error e => .error e
    | .ok b => .ok ((sha3 b).take 8)

/-- A header with its content check and check_valid (R156). -/
def checkedHeader (h check : Bytes) : Bytes := overlay (overlay h 3 (leBytes 1 (byteAt h 3 % 128 + 128))) 56 check

def dhashBody (det : Detect) (g : Nat) (env : State) (e : WinEntry) (r : Run) : Run :=
  let a := mHdr e.desc
  r.beat env det (fun r =>
    match readMem env r.mem 64 a, contentCheck env r.mem a with
    | .error err, _ => r.memErr env err
    | _, .error err => r.memErr env err
    | .ok h, .ok c => r.write env (g / 8) 64 a (checkedHeader h c))

/-- Physical lines that hold a byte of a module address range. -/
def linesOf (env : State) (a n : Nat) : List Nat :=
  (List.range ((a + n - 1) / 256 + 1 - a / 256)).filterMap (fun i => (env.translate ((a / 256 + i) * 256)).map (· / 256))

/-- Lines of a cluster's slice invalidated (R151). -/
def invalidate (m : Memory) (cl : Nat) (gone : Nat → Bool) : Memory :=
  { m with cache := smMod [] m.cache cl (fun ls => ls.filter (fun l => !(gone l.1))) }

def dinvalBody (g : Nat) (env : State) (e : WinEntry) (r : Run) : Run :=
  let d := e.desc
  if mWhole d then { r with mem := invalidate r.mem (g / 8) (fun _ => true) }
  else
    let lines := linesOf env (mDst d) (mInner d)
    { r with mem := invalidate r.mem (g / 8) (fun l => lines.contains l) }

/-- The ring neighbour of a core (R162). -/
def neighbour (d : Bytes) (g : Nat) : Nat := g / 8 * 8 + (if mBack d then g % 8 + 7 else g % 8 + 1) % 8

/-- DHALO: runs of local SRAM written into the neighbour's (R163). -/
def dhaloBody (det : Detect) (g : Nat) (env : State) (e : WinEntry) (r : Run) : Run :=
  let d := e.desc
  if !(env.present (neighbour d g)) then { r with status := stRetired }
  else
    (dmaRuns d).foldl (fun r run =>
      r.beat env det (fun r =>
        match readMem env r.mem (mInner d) ((localBase g + mSrc d : Nat) + run.1 : Int).toNat with
        | .error err => r.memErr env err
        | .ok bs => r.write env (g / 8) 1 ((localBase (neighbour d g) + mDst d : Nat) + run.2 : Int).toNat bs)) r

/-- One command for a DMA instruction (R102, R157). -/
def dmaOp (opcode : Nat) (g : CoreId) (seq : BitVec 64) (det : Detect) (s : State)
    (body : State → WinEntry → Run → Run) : State :=
  unitOp .dma opcode g seq det s (dmaCheck g) (fun s _ => s)
    (fun _ e => { opcode := opcode, empty := dmaEmpty e.desc, held := false }) body (fun _ => .executed)

end Sys2Proof.Machine
end

