-- ==== Sys2Proof/Machine/VectorOps.lean ====
section
/-! DEFINITION. What the vector unit's instructions check and do (R119 to R133). -/

namespace Sys2Proof.Machine

/-! ### Descriptor fields (R119) -/

def vRows (d : Bytes) : Nat := leAt d 16 2 % 512
def vCols (d : Bytes) : Nat := leAt d 18 4
def vMode (d : Bytes) : Nat := byteAt d 22 % 8
def vIn (d : Bytes) : Nat := byteAt d 23
def vOut (d : Bytes) : Nat := byteAt d 24
def vRed (d : Bytes) : Nat := byteAt d 25
def vBMode (d : Bytes) : Nat := byteAt d 26 % 4
def vCMode (d : Bytes) : Nat := byteAt d 26 / 4 % 4
def vInit (d : Bytes) : Nat := byteAt d 26 / 16 % 4
def vMerge (d : Bytes) : Bool := bitAt (byteAt d 26) 6
def vInternal (d : Bytes) : Bool := bitAt (byteAt d 26) 7
def vScale (d : Bytes) : Int := sAt d 27 1
def vScalarB (d : Bytes) : Nat := leAt d 28 4
def vScalarC (d : Bytes) : Nat := leAt d 32 4
def vAddr (d : Bytes) (i : Nat) : Nat := leAt d (36 + 3 * i) 3
def vStride (d : Bytes) (i : Nat) : Nat := leAt d (48 + 3 * i) 3
def vMem (d : Bytes) : Nat := leAt d 64 8
def vHdr (d : Bytes) : Nat := leAt d 72 8
def vTensor (d : Bytes) : Nat := leAt d 80 4
def vStep (d : Bytes) : Nat := leAt d 84 4
def vStream (d : Bytes) : Nat := leAt d 88 2
def vLinBase (d : Bytes) : Nat := leAt d 92 6
def vLinRow (d : Bytes) : Nat := leAt d 100 6
def vThreshold (d : Bytes) : Nat := leAt d 108 4

/-! ### Groups of opcodes (R121) -/

def vUsesB (op : Nat) : Bool := [0x40, 0x41, 0x42, 0x43, 0x44, 0x45, 0x48, 0x49, 0x56, 0x58, 0x62, 0x63].contains op
def vUsesC (op : Nat) : Bool := op == 0x43 || op == 0x49
def vReduction (op : Nat) : Bool := decide (0x60 ≤ op) && decide (op ≤ 0x63)
def vTransfer (op : Nat) : Bool := decide (0x69 ≤ op) && decide (op ≤ 0x6B)
def vUsesA (op : Nat) : Bool := decide (op ≤ 0x64) || op == 0x72
def vElementOut (op : Nat) : Bool := decide (op ≤ 0x58) || decide (0x70 ≤ op)

/-- Elements of a beat (R121). -/
def vRate (op : Nat) : Nat :=
  if decide (op ≤ 0x4A) || op == 0x60 || op == 0x64 then 256
  else if decide (op ≤ 0x58) || op == 0x63 then 64
  else if op == 0x68 then 16
  else 128

/-- Class, ply and LSB of a reduction's window (R125). -/
def redWindow (op : Nat) : Nat × Nat × Int := if op = 0x60 ∨ op = 0x63 then (0, 3, -149) else (2, 5, -298)

/-- Input and output formats of the unit (R120). -/
def vInFmt (f : Nat) : Bool := decide (1 ≤ f) && decide (f ≤ 7)
def vOutFmt (f : Nat) : Bool := drainFmt f

/-! ### Dispatch checks (R131) -/

/-- Bits that R119 does not name, and `internal` outside VRRST. -/
def vectorReservedOk (d : Bytes) : Bool :=
  hdrReservedOk d && byteAt d 15 / 64 == 0 && leAt d 16 2 / 512 == 0 && byteAt d 22 / 8 == 0 && leAt d 60 4 == 0 &&
  leAt d 90 2 == 0 && leAt d 98 2 == 0 && leAt d 106 2 == 0 && zeroRange d 112 128 &&
  (dOpcode d == 0x6A || !(vInternal d))

/-- Format of operand i of an instruction: VSEL's c is INT8 (R121). -/
def vFmt (d : Bytes) (i : Nat) : Nat := if i = 2 && dOpcode d == 0x49 then 0x07 else vIn d

/-- An operand of mode 0 or 1 lies in local SRAM (R119). -/
def vOperandOk (d : Bytes) (i mode : Nat) : Bool :=
  match mode with
  | 0 => spanOk (vFmt d i) (vAddr d i) (vStride d i) (vRows d) (vCols d) 1 0
  | 1 => spanOk (vFmt d i) (vAddr d i) 0 1 (if vCols d = 0 then 0 else vRows d) 1 0
  | _ => mode == 2

/-- The seed table holds the tensor of an instruction that uses Philox words (R94, R128). -/
def vSeedOk (s : State) (g : Nat) (d : Bytes) : Bool :=
  let op := dOpcode d
  let uses := op == 0x70 || op == 0x71 || op == 0x72 || ((op == 0x4A || op == 0x68) && vMode d == 4)
  !uses || (s.seedOf (s.ownerOf g) (vTensor d)).isSome

/-- Addresses of a register transfer (R79, R127, R139): the region of its elements, and the target memory of VRATM. -/
def vMemOk (s : State) (d : Bytes) : Bool :=
  let n := fmtBits (vIn d) / 8 * vRows d
  if dOpcode d = 0x6B then
    targetOk (vMem d) && atomicTarget (tgAddr (vMem d)) && targetOk (vHdr d) && tgAddr (vHdr d) % 64 == 0 && (tgRemote (vHdr d) || hdrRangeOk s (vHdr d)) &&
    (tgRemote (vMem d) || ((match s.regionId (vMem d) with
                            | some r => decide (r ≤ 16)
                            | none => false) && s.rangeOk none (vMem d) n))
  else vMem d / 2 ^ 48 == 0 && s.rangeOk none (vMem d) n

/-- Step 2 of R102 with the fields of R119 to R121. -/
def vectorStep2 (s : State) (g : Nat) (d : Bytes) : Bool :=
  let x := s.ownerOf g
  let op := dOpcode d
  let al (n : Nat) := n % 4 == 0
  let shaped := match (s.ctx x).plan with
    | none => false
    | some p => decide (dShape d < p.shapes.length)
  syncFieldsOk s x (192 + g) (dWaitEn d) (dWaitVid d) (dSigEn d) (dSigVid d) (dSigAmt d) && shaped &&
  (List.range 4).all (fun i => al (vAddr d i) && al (vStride d i)) &&
  decide (vRows d ≤ 256) && decide (vMode d ≤ 4) && (vMode d != 4 || op == 0x4A || op == 0x68) &&
  vBMode d != 3 && vCMode d != 3 && vInit d != 3 && vSeedOk s g d &&
  (!(vUsesA op) || (vInFmt (vIn d) && vOperandOk d 0 0)) &&
  (!(vUsesB op) || vOperandOk d 1 (vBMode d)) &&
  (!(vUsesC op) || vOperandOk d 2 (vCMode d)) &&
  (!(vElementOut op) || (vOutFmt (vOut d) &&
    spanOk (vOut d) (vAddr d 3) (vStride d 3) (vRows d) (vCols d) 1 0)) &&
  (!(op == 0x64 || op == 0x68) || (vOutFmt (vOut d) && spanOk (vOut d) (vAddr d 3) 0 1 (vRows d) 1 0)) &&
  (op != 0x48 || vOut d == 0x07) && (op != 0x70 || vOut d == 0x01) &&
  (!(vReduction op || op == 0x68 || vTransfer op) || decide (vRed d + vRows d ≤ 256)) &&
  (!(vTransfer op) || ((vIn d == 0x12 || vIn d == 0x13) && vMemOk s d)) &&
  (op == 0x6B || !(vMerge d || op == 0x6A) || (vHdr d / 2 ^ 48 == 0 && hdrRangeOk s (vHdr d)))

/-- Step 3: rows and columns within the shape slot (R131). -/
def vectorStep3 (s : State) (g : Nat) (d : Bytes) : Bool :=
  match (s.ctx (s.ownerOf g)).plan with
  | none => false
  | some p =>
    let (mm, nm, _, _) := p.shapes.getD (dShape d) (0, 0, 0, 0)
    decide (vRows d ≤ mm) && decide (vCols d ≤ nm)

/-- Tag of a reduction register of a window (R125). -/
def redTag (cls ply : Nat) (lsb : Int) : BitVec 32 := mkTag (ofSigned 16 lsb) cls ply 0

def Core.regTag (c : Core) (r : Nat) : BitVec 32 := smGet 0#32 c.redTags r

/-- Class, ply and LSB of the window of a saved-skein code as the unit keeps it (R74, R125). -/
def savedWindow (code : Nat) : Nat × Nat × Int := if code = 0x12 then (0, 3, -149) else (2, 5, -298)

/-- Named registers carry the window's tag. -/
def regsMatch (c : Core) (d : Bytes) (w : Nat × Nat × Int) : Bool :=
  (List.range (vRows d)).all (fun i => c.regTag (vRed d + i) == redTag w.1 w.2.1 w.2.2)

/-- Each named register carries a valid tag, of either window (R125, R127). -/
def regsValid (c : Core) (d : Bytes) : Bool :=
  (List.range (vRows d)).all (fun i =>
    c.regTag (vRed d + i) == redTag 0 3 (-149) || c.regTag (vRed d + i) == redTag 2 5 (-298))

/-- Step 4: register tags (R125) and the headers of register transfers (R69, R78, R127). -/
def vectorStep4 (s : State) (g : Nat) (e : WinEntry) : Verdict :=
  let d := e.desc
  let c := s.core g
  let op := dOpcode d
  let w := savedWindow (vIn d)
  let saved (h : Bytes) := savedHeaderOk h (vIn d) w.1 w.2.2
  if vReduction op then
    if vInit d != 0 || regsMatch c d (redWindow op) then .pass else .refuse stBad
  else match op with
  | 0x68 =>
    if regsValid c d then .pass else .refuse stBad
  | 0x69 => if regsMatch c d w then .pass else .refuse stBad
  | 0x6A => withHeader s (vHdr d) (fun h => saved h && (vInternal d || tagFits h w.2.2 (plyWidth w.2.1)))
  | 0x6B =>
    if !(regsMatch c d w) then .refuse stBad
    else if tgRemote (vHdr d) then
      match e.answer with
      | some h => if saved h then .pass else .refuse stBad
      | none => .ask
    else withHeader s (vHdr d) saved
  | _ => .pass

/-- The dispatch checks of a vector instruction (R131). -/
def vectorCheck (g : Nat) (s : State) (e : WinEntry) : Verdict :=
  let d := e.desc
  if !(vectorReservedOk d) then .refuse stBad
  else if !(vectorStep2 s g d) then .refuse stBad
  else if !(vectorStep3 s g d) then .refuse stShape
  else vectorStep4 s g e

/-! ### Operands -/

/-- The FP32 bits of an element of an input format: the conversion is exact (R120). -/
def toFp32 (code bits : Nat) : Nat :=
  if code = 0x01 then bits
  else match decodeElem code bits with
    | .fin m e => (vFin 0 (code != 0x07 && elemNeg code bits) m e).bits
    | .posInf => 0x7F800000
    | .negInf => 0xFF800000
    | .nan => 0x7FC00000

/-- Element (r, n) of operand i as FP32 bits (R119). -/
def vOperand (env : State) (m : Memory) (g : Nat) (d : Bytes) (i mode scalar r n : Nat) : Except MemErr Nat :=
  let f := vFmt d i
  match mode with
  | 2 => .ok scalar
  | 1 => match localElem env m g f (vAddr d i) r with
    | .error e => .error e
    | .ok b => .ok (toFp32 f b)
  | _ => match localElem env m g f (vAddr d i + r * vStride d i : Nat) n with
    | .error e => .error e
    | .ok b => .ok (toFp32 f b)

/-- Operands a, b, c of element (r, n); the ones an opcode does not use are 0. -/
def vOperands (env : State) (m : Memory) (g : Nat) (d : Bytes) (r n : Nat) : Except MemErr (Nat × Nat × Nat) :=
  let op := dOpcode d
  match (if vUsesA op then vOperand env m g d 0 0 0 r n else .ok 0) with
  | .error e => .error e
  | .ok a =>
    match (if vUsesB op then vOperand env m g d 1 (vBMode d) (vScalarB d) r n else .ok 0) with
    | .error e => .error e
    | .ok b =>
      match (if vUsesC op then vOperand env m g d 2 (vCMode d) (vScalarC d) r n else .ok 0) with
      | .error e => .error e
      | .ok c => .ok (a, b, c)

/-- The Philox word of a linear index (R128). -/
def vWord (env : State) (g : Nat) (d : Bytes) (lin : Nat) : Nat :=
  philoxWord ((env.seedOf (env.ownerOf g) (vTensor d)).getD 0) (vTensor d) (vStep d) (vStream d) lin

/-! ### One element's result (R121 to R123, R129) -/

/-- FP32 result of an element-wise operation; u is the element's Philox word. -/
def vCompute (d : Bytes) (u a b c : Nat) : VRes :=
  let mode := vMode d
  match dOpcode d with
  | 0x40 => vAdd mode a b
  | 0x41 => vAdd mode a (if fpVal b = .nan then b else flipSign b)
  | 0x42 => vMul mode a b
  | 0x43 => vFma mode a b c
  | 0x44 => vMinMax false a b
  | 0x45 => vMinMax true a b
  | 0x46 => vCopy (if fpNeg a then flipSign a else a)
  | 0x47 => vCopy (flipSign a)
  | 0x48 => { bits := if vLess a b then 0x3F800000 else 0 }
  | 0x49 => vCopy (if c % 2 ^ 31 = 0 then b else a)
  | 0x4A => vCopy a
  | 0x50 => vExp mode a
  | 0x51 => vLog mode a
  | 0x52 => vTanh mode a
  | 0x53 => vSigm mode a
  | 0x54 => vRsqrt mode a
  | 0x55 => vErf mode a
  | 0x56 => vDiv mode a b
  | 0x57 => vSqrt mode a
  | 0x58 => vExpd mode a b
  | 0x70 => { bits := u }
  | 0x71 => vFin 0 false (u / 256 : Nat) (-24)
  | _ => if u < vThreshold d then vMul mode a (vScalarB d) else vZero false

/-- A delivered FP32 value written in the output format, never flushed (R120, R122; log entry 15 for the operations
other than VCVT, VRDRN and VDROP). A zero of FP32 keeps its sign. -/
def vDeliver (d : Bytes) (u : Nat) (x : VRes) : Rounded :=
  if vOut d = 0x01 then { bits := x.bits, ovf := x.ovf, invalid := x.bad.isSome }
  else
    let c := convert (vOut d) (vMode d) false u (fpVal x.bits)
    let bits := if x.bits % 2 ^ 31 = 0 then
        (if vOut d = 0x07 then 0 else boolNat (fpNeg x.bits) * 2 ^ (fmtBits (vOut d) - 1)) else c.bits
    { bits := bits, ovf := x.ovf || c.ovf, invalid := c.invalid || x.bad.isSome }

/-- The result of VCVT: an exact zero drains under R47, everything else under R41 to R45 (R122). -/
def vConvert (d : Bytes) (u a : Nat) : Rounded := convert (vOut d) (vMode d) false u (fpVal a)

/-- The result of VDROP for an element's word u: a kept element is the exact product rounded once to the output format;
zeros, infinities and NaNs are the product's own (R44, R129; log entry 133). -/
def vDrop (d : Bytes) (u a : Nat) (v : VRes) : Rounded :=
  match fpVal a, fpVal (vScalarB d) with
  | .fin ma ea, .fin mb eb =>
    if u < vThreshold d && decide (ma * mb ≠ 0) then convert (vOut d) (vMode d) false u (.fin (ma * mb) (ea + eb))
    else vDeliver d u v
  | _, _ => vDeliver d u v

/-- The result of an element-wise operation in its output format, v being its FP32 result. -/
def vResult (d : Bytes) (u a : Nat) (v : VRes) : Rounded :=
  match dOpcode d with
  | 0x4A => vConvert d u a
  | 0x72 => vDrop d u a v
  | _ => vDeliver d u v

/-- Capture cause of an element's event: the operation's own, or 0x0 for a value that VCVT or VDROP could not convert
(R130). -/
def vCause (d : Bytes) (v : VRes) (z : Rounded) : Option Nat :=
  match v.bad with
  | some k => some k
  | none => if z.invalid && (dOpcode d == 0x4A || dOpcode d == 0x72) then some 0 else none

/-! ### Element-wise instructions -/

/-- Beats of an element-wise instruction: row and first column (R133). -/
def vBeats (d : Bytes) : List (Nat × Nat) :=
  (List.range (vRows d)).flatMap (fun r =>
    (List.range (ceilDiv (vCols d) (vRate (dOpcode d)))).map (fun k => (r, k * vRate (dOpcode d))))

/-- Columns of a beat that begins at a column. -/
def beatCols (d : Bytes) (n0 : Nat) : List Nat :=
  (List.range (min (vRate (dOpcode d)) (vCols d - n0))).map (n0 + ·)

/-- A run reports an event of element (r, n) (R130). -/
def Run.vEvent (r : Run) (seq row col : Nat) (cause : Option Nat) : Run :=
  match cause with
  | none => r
  | some k => r.invalidEvent seq row col 0 0xFFFFFFFF k

/-- Residue positions of a vector beat count row × cols + column; the element there is the canonical NaN (R378). -/
def vMarked (d : Bytes) (det : Detect) (r n : Nat) : Bool :=
  match det with
  | .residue p => decide (p = r * vCols d + n)
  | _ => false

/-- One element of a beat: its output bits, with the events it raises. -/
def vElement (env : State) (det : Detect) (g : Nat) (e : WinEntry) (row : Nat) (acc : Run × List Nat)
    (x : Nat × Nat × Nat × Nat) : Run × List Nat :=
  let d := e.desc
  let (n, a, b, c) := x
  let (r, out) := acc
  if vMarked d det row n then
    let bits := nanBits (vOut d)
    ((r.mark (residueNote env (row * vCols d + n))).merge (elemTag (vOut d) bits) (elemPresence (vOut d) bits),
      out ++ [bits])
  else
    let random := decide (0x70 ≤ dOpcode d) || vMode d == 4
    let u := if random then vWord env g d (vLinBase d + row * vLinRow d + n) else 0
    let v := vCompute d u a b c
    let z := vResult d u a v
    let r := r.vEvent e.seq.toNat row n (vCause d v z)
    ({ r with ovf := r.ovf || z.ovf, divZero := r.divZero + boolNat v.div0 }.merge
        (elemTag (vOut d) z.bits) (elemPresence (vOut d) z.bits), out ++ [z.bits])

/-- Every element of one row written one after another from a local offset; all output formats are whole bytes. -/
def vWrite (env : State) (g : Nat) (d : Bytes) (a : Nat) (r : Run) (bits : List Nat) : Run :=
  r.write env (g / 8) (fmtBits (vOut d) / 8) (localBase g + a) (bits.flatMap (leBytes (fmtBits (vOut d) / 8)))

/-- Operands of the columns of a beat. -/
def vFetch (env : State) (g : Nat) (d : Bytes) (row n0 : Nat) (r : Run) : Except MemErr (List (Nat × Nat × Nat × Nat)) :=
  mapE (fun n => match vOperands env r.mem g d row n with
    | .error e => .error e
    | .ok x => .ok (n, x)) (beatCols d n0)

/-- The header merge of an instruction that carries merge_header (R119, R154). -/
def Run.vHeader (r : Run) (env : State) (d : Bytes) : Run := if vMerge d then r.mergeAt env (vHdr d) else r

/-- The element-wise operations, conversions, elementary functions and random operations. -/
def elementBody (det : Detect) (g : Nat) (env : State) (e : WinEntry) (r : Run) : Run :=
  let d := e.desc
  if vCols d = 0 then { r with status := stEmpty }
  else
    let r := (vBeats d).foldl (fun r b =>
      r.beat env det (fun r =>
        match vFetch env g d b.1 b.2 r with
        | .error err => r.memErr env err
        | .ok xs =>
          let (r, out) := xs.foldl (vElement env det g e b.1) (r, [])
          vWrite env g d (vAddr d 3 + b.1 * vStride d 3 + b.2 * (fmtBits (vOut d) / 8)) r out)) r
    r.vHeader env d

/-! ### Reductions (R124 to R126) -/

/-- The window value of a register (R57, R125). -/
def Core.reg (c : Core) (r p : Nat) : Term := unpackTerm ((List.range p).map (fun j => smGet {} c.red (r * 5 + j)))

/-- Entries put at successive keys. -/
def putRed (m : SMap Entry) (k : Nat) : List Entry → SMap Entry
  | [] => m
  | e :: es => putRed (smSet {} m k e) (k + 1) es

/-- A register's entries written: those beyond its ply are zero (R57). -/
def Core.setReg (c : Core) (r p : Nat) (t : Term) : Core :=
  { c with red := putRed c.red (r * 5) (packTerm p t ++ List.replicate (5 - p) {}) }

def Core.setRegTag (c : Core) (r : Nat) (t : BitVec 32) : Core := { c with redTags := smSet 0#32 c.redTags r t }

/-- A reduction begins a register under red_init (R126). -/
def beginReg (d : Bytes) (c : Core) (i : Nat) : Core :=
  let (cls, ply, lsb) := redWindow (dOpcode d)
  let r := vRed d + i
  match vInit d with
  | 1 => (c.setReg r ply {}).setRegTag r (redTag cls ply lsb)
  | 2 => (c.setReg r ply (placeTerm lsb (fpVal (vScalarC d)))).setRegTag r (redTag cls ply lsb)
  | _ => c

/-- The term an element adds; an exponential that overflowed is an infinity from overflow (R54, R62, R121, R124). -/
def redTerm (d : Bytes) (a b : Nat) : Term :=
  match dOpcode d with
  | 0x60 => placeTerm (-149) (fpVal a)
  | 0x61 => match fpVal a with
    | .fin m e => { v := (toUnits (m * m) (2 * e) (-298)).1 }
    | .nan => nanTerm
    | _ => { cls := 1, cause := 8 }
  | 0x62 => productTerm false 640 (-298) false (fpVal a) (fpVal b) 0
  | _ =>
    let v := vExpd 0 a b
    if v.ovf then { cls := 1, ovf := true } else placeTerm (-149) (fpVal v.bits)

/-- Events of VRSEXP's exponentials (R123, R130). -/
def redEvent (d : Bytes) (a b : Nat) : VRes := if dOpcode d = 0x63 then vExpd 0 a b else { bits := 0 }

/-- Two terms are infinities of opposite sign. -/
def opposed (x y : Term) : Bool := (x.cls == 1 && y.cls == 2) || (x.cls == 2 && y.cls == 1)

/-- The events of a beat in column order (R124, R130): those of an element's exponential or product, infinities that meet
in the lane tree, and the sum of the tree meeting the register, which log entry 134 places at the first infinity of the
beat. -/
def redEvents (d : Bytes) (seq row : Nat) (old tree : Term) (xs : List (Nat × Nat × Nat × Nat)) (r : Run) : Run :=
  (xs.foldl (fun (acc : Run × Term) x =>
    let v := redEvent d x.2.1 x.2.2.1
    let t := redTerm d x.2.1 x.2.2.1
    let r := { acc.1.vEvent seq row x.1 v.bad with ovf := acc.1.ovf || v.ovf }
    let r := if t.cls = 3 ∧ t.cause = 1 then r.invalidEvent seq row x.1 0 0xFFFFFFFF 1 else r
    let r := if opposed acc.2 t then r.invalidEvent seq row x.1 0 0xFFFFFFFF 2 else r
    let r := if opposed old tree && t.cls == tree.cls then
        r.invalidEvent seq row x.1 0 0xFFFFFFFF (addTerm none old tree).cause else r
    (r, addTerm none acc.2 t)) (r, {})).1

/-- One beat of a reduction: its terms meet in the exact tree, and the sum is added to the register (R126). -/
def redBeat (env : State) (det : Detect) (g : Nat) (e : WinEntry) (row n0 : Nat) (r : Run) : Run :=
  let d := e.desc
  let (_, p, _) := redWindow (dOpcode d)
  match vFetch env g d row n0 r with
  | .error err => r.memErr env err
  | .ok xs =>
    let reg := vRed d + row
    let old := r.core.reg reg p
    let tree := treeSum (xs.map (fun x => redTerm d x.2.1 x.2.2.1))
    let new := addTerm (some (plyWidth p)) old tree
    let r := redEvents d e.seq.toNat row old tree xs r
    if xs.any (fun x => vMarked d det row x.1) then
      { r with core := r.core.setReg reg p nanTerm }.mark (residueNote env (row * vCols d + n0))
    else { r with core := r.core.setReg reg p new, ovf := r.ovf || (new.ovf && !old.ovf) }

/-- VRSUM, VRSSQ, VRDOT and VRSEXP. With no column the registers are only begun (R132). -/
def reductionBody (det : Detect) (g : Nat) (env : State) (e : WinEntry) (r : Run) : Run :=
  let d := e.desc
  let r := { r with core := (List.range (vRows d)).foldl (beginReg d) r.core }
  if vCols d = 0 then { r with status := stEmpty }
  else (vBeats d).foldl (fun r b => r.beat env det (redBeat env det g e b.1 b.2)) r

/-- VRMAX: the maximum of each row in the sense of VMAX; −∞ for a row without elements (R121, R132). -/
def maxBody (det : Detect) (g : Nat) (env : State) (e : WinEntry) (r : Run) : Run :=
  let d := e.desc
  let r := (List.range (vRows d)).foldl (fun r row =>
    r.beat env det (fun r =>
      match mapE (fun n => vOperand env r.mem g d 0 0 0 row n) (List.range (vCols d)) with
      | .error err => r.memErr env err
      | .ok xs =>
        let v : VRes := { bits := xs.foldl (fun m x => (vMinMax true m x).bits) 0xFF800000 }
        let z := if vMarked d det row 0 then { bits := nanBits (vOut d) } else vDeliver d 0 v
        let r := if vMarked d det row 0 then r.mark (residueNote env (row * vCols d))
          else { r with ovf := r.ovf || z.ovf }
        vWrite env g d (vAddr d 3 + row * (fmtBits (vOut d) / 8))
          (r.merge (elemTag (vOut d) z.bits) (elemPresence (vOut d) z.bits)) [z.bits])) r
  let r := r.vHeader env d
  if vCols d = 0 && r.status == stDone then { r with status := stEmpty } else r

/-! ### Draining and moving registers (R127, R128) -/

/-- The ply and LSB of a register, from its tag. -/
def regPly (c : Core) (reg : Nat) : Nat × Int := if c.regTag reg = redTag 0 3 (-149) then (3, -149) else (5, -298)

/-- A register transfer or drain without columns writes nothing and is empty (R132). -/
def Run.ifColumns (r : Run) (d : Bytes) (f : Run → Run) : Run := if vCols d = 0 then { r with status := stEmpty } else f r

/-- VRDRN (R128): each register converted under R41 to R45 and R47, never flushed. -/
def vrdrnBody (det : Detect) (g : Nat) (env : State) (e : WinEntry) (r : Run) : Run :=
  let d := e.desc
  r.ifColumns d fun r =>
  let r := (List.range (vRows d)).foldl (fun r i =>
    r.item env det (fun r mark =>
      let (p, lsb) := regPly r.core (vRed d + i)
      let t := r.core.reg (vRed d + i) p
      let u := if vMode d = 4 then vWord env g d (vLinBase d + i * vLinRow d) else 0
      let c := convert (vOut d) (vMode d) false u (scaleVal (termVal lsb t) (vScale d))
      let bits := if mark then nanBits (vOut d) else c.bits
      let r := if mark then r
        else { r.vEvent e.seq.toNat i 0 (if c.invalid then some 0 else none) with ovf := r.ovf || c.ovf }
      vWrite env g d (vAddr d 3 + i * (fmtBits (vOut d) / 8))
        (r.merge (elemTag (vOut d) bits) (elemPresence (vOut d) bits)) [bits])) r
  r.vHeader env d

/-- VRSAV: registers in saved form at mem_addr (R76, R127). -/
def vrsavBody (det : Detect) (g : Nat) (env : State) (e : WinEntry) (r : Run) : Run :=
  let d := e.desc
  let (_, p, lsb) := savedWindow (vIn d)
  r.ifColumns d fun r =>
  let r := (List.range (vRows d)).foldl (fun r i =>
    r.item env det (fun r mark =>
      let t := if mark then nanTerm else r.core.reg (vRed d + i) p
      (r.merge (termTag lsb t) (termPresence t)).write env (g / 8) (24 * p) (vMem d + i * 24 * p) (termBytes p t))) r
  r.vHeader env d

/-- VRRST: registers loaded from saved form, with their tags (R69, R77, R127). -/
def vrrstBody (det : Detect) (env : State) (e : WinEntry) (r : Run) : Run :=
  let d := e.desc
  let (cls, p, lsb) := savedWindow (vIn d)
  r.ifColumns d fun r =>
  (List.range (vRows d)).foldl (fun r i =>
    r.item env det (fun r mark =>
      match readMem env r.mem (24 * p) (vMem d + i * 24 * p) with
      | .error err => r.memErr env err
      | .ok bs =>
        let (t, bad) := loadElement p bs
        let t := if mark then nanTerm else t
        let reg := vRed d + i
        let r := { r with core := (r.core.setReg reg p t).setRegTag reg (redTag cls p lsb) }
        match bad with
        | some j => r.slotFail (slotFailCount p bs) j (vMem d + i * 24 * p + 24 * j)
        | none => r)) r

/-- VRATM: registers sent as addends, or in SKEIN_ADD packets to a target over the fabric (R78, R127). -/
def vratmBody (det : Detect) (g : CoreId) (env : State) (e : WinEntry) (r : Run) : Run :=
  let d := e.desc
  let (cls, p, lsb) := savedWindow (vIn d)
  let src := unitActor .vector g e.seq
  r.ifColumns d fun r =>
  (List.range (vRows d)).foldl (fun r i =>
    r.item env det (fun r mark =>
      let el := termBytes p (if mark then nanTerm else r.core.reg (vRed d + i) p)
      let a := tgAddr (vMem d) + i * 24 * p
      if tgRemote (vMem d) then { r with packets := r.packets ++ [(tgModule (vMem d), 5, a, el, 0)] }
      else { r with addends := r.addends ++
              [{ target := a, ply := p, cls := BitVec.ofNat 2 cls, lsb := BitVec.ofInt 16 lsb, elem := el, src := src }] })) r

/-- One command for a vector instruction (R131 to R133). A dip window holds VRATM (R394). -/
def vectorOp (opcode : Nat) (g : CoreId) (seq : BitVec 64) (det : Detect) (s : State)
    (body : State → WinEntry → Run → Run) : State :=
  unitOp .vector opcode g seq det s (vectorCheck g) (askHeader .vector g (fun d => vHdr d))
    (fun s e => { opcode := opcode, empty := vRows e.desc == 0, held := opcode == 0x6B && s.dipOpen g })
    body (fun _ => .executed)

end Sys2Proof.Machine
end

