-- ==== Sys2Proof/Machine/Plans.lean ====
section
/-! DEFINITION. Plan images: framing, digests, checks and admission (07_tiling_and_plans.md; R254 to R256, R285 to R288). -/

namespace Sys2Proof.Machine

/-! ### Image and sections (R167, R168) -/

/-- A section: type, offset, length. -/
structure Section where
  typ : Nat
  off : Nat
  len : Nat
deriving DecidableEq, Repr

def imageSections (b : Bytes) : List Section :=
  (List.range (leAt b 2 2)).map (fun i =>
    { typ := byteAt b (128 + 16 * i), off := leAt b (132 + 16 * i) 4, len := leAt b (136 + 16 * i) 4 })

/-- No two elements at different places satisfy p. -/
def pairwiseNot {α : Type} (p : α → α → Bool) : List α → Bool
  | [] => true
  | a :: as => !(as.any (p a)) && pairwiseNot p as

/-- Header and section table (R167, R168). -/
def framingOk (b : Bytes) : Bool :=
  let n := leAt b 2 2
  let size := leAt b 4 4
  let secs := imageSections b
  let count (t : Nat) := (secs.filter (fun s => s.typ == t)).length
  leAt b 0 2 == 1 && decide (1 ≤ n) && decide (n ≤ 16) && size % 64 == 0 && decide (size ≤ 0x4000000) &&
  decide (128 + 16 * n ≤ size) && zeroRange b 80 128 &&
  (List.range n).all (fun i => zeroRange b (129 + 16 * i) (132 + 16 * i) && zeroRange b (140 + 16 * i) (144 + 16 * i)) &&
  secs.all (fun s => decide (1 ≤ s.typ) && decide (s.typ ≤ 8) && s.off % 64 == 0 && decide (128 + 16 * n ≤ s.off) &&
    decide (s.off + s.len ≤ size)) &&
  pairwiseNot (fun x y => decide (x.off < y.off + y.len) && decide (y.off < x.off + x.len)) secs &&
  [1, 2, 3, 4, 5].all (fun t => count t == 1) && [6, 7, 8].all (fun t => decide (count t ≤ 1))

/-- Bytes of the sections of a type, empty when absent. -/
def sectionBytes (b : Bytes) (t : Nat) : Bytes :=
  match (imageSections b).find? (fun s => s.typ == t) with
  | some s => (b.drop s.off).take s.len
  | none => []

/-- Bytes of sections 0x02 to 0x08 in table order, for the mapping digest (R168). -/
def mappingBytes (b : Bytes) : Bytes :=
  ((imageSections b).filter (fun s => s.typ != 1)).flatMap (fun s => (b.drop s.off).take s.len)

/-- Fixed-size records of a section; none when its length is no whole number of records. -/
def fixedRecords (n : Nat) (b : Bytes) : Option (List Bytes) :=
  if b.length % n = 0 then some ((List.range (b.length / n)).map (fun i => (b.drop (n * i)).take n)) else none

/-- Records that begin with a 16-bit kind and a 16-bit length of at least 4 (R169, R287); the first number bounds them. -/
def taggedRecords : Nat → Bytes → Option (List Bytes)
  | 0, b => if b.isEmpty then some [] else none
  | k + 1, b =>
    if b.isEmpty then some []
    else
      let n := leAt b 2 2
      if n < 8 ∨ b.length < n then none
      else match taggedRecords k (b.drop n) with
        | some rs => some (b.take n :: rs)
        | none => none

/-- Every record parses. -/
def allSome {α β : Type} (f : α → Option β) : List α → Option (List β)
  | [] => some []
  | a :: as =>
    match f a, allSome f as with
    | some b, some bs => some (b :: bs)
    | _, _ => none

/-! ### Logical records (R471) -/

def parseTensor (b : Bytes) : Option TensorRec :=
  let rank := byteAt b 9 % 8
  let block := byteAt b 9 / 16 % 8
  let rule := byteAt b 11
  let dims := (List.range 6).map (fun i => leAt b (24 + 4 * i) 4)
  if b.length = 48 && fmtBits (byteAt b 8) != 0 && byteAt b 8 != 0x0B && decide (rank ≤ 6) &&
      (if isMx (byteAt b 8) then decide (block < rank) else block == 0) && bitsAt (byteAt b 9) 3 1 == 0 &&
      bitsAt (byteAt b 9) 7 1 == 0 && byteAt b 10 / 32 == 0 && decide (byteAt b 10 % 4 < 3) &&
      [0, 1, 2, 3, 5].contains (byteAt b 10 / 4 % 8) && decide (rule ≤ 2) && (rule == 1 || leAt b 12 2 == 0) &&
      byteAt b 14 / 8 == 0 && decide (byteAt b 14 ≤ 4) && (rule == 2 || zeroRange b 16 24) &&
      (List.range 6).all (fun i => decide (i < rank) || dims.getD i 0 == 0) then
    some { tensorId := BitVec.ofNat 32 (leAt b 4 4), format := BitVec.ofNat 8 (byteAt b 8), rank := rank
           blockDim := block, cls := BitVec.ofNat 2 (byteAt b 10), ply := byteAt b 10 / 4 % 8
           windowRule := rule, lsb := BitVec.ofNat 16 (leAt b 12 2), mode := BitVec.ofNat 3 (byteAt b 14)
           scale := BitVec.ofNat 8 (byteAt b 15), anchorA := BitVec.ofNat 32 (leAt b 16 4)
           anchorB := BitVec.ofNat 32 (leAt b 20 4), dims := dims.take rank }
  else none

/-- Collective and update kinds carry the fields of R285. A BARRIER and a PERMUTE have no sources of contribution records. -/
def collKind (k : Nat) : Bool := decide (0x20 ≤ k) && decide (k ≤ 0x25) || decide (0x30 ≤ k) && decide (k ≤ 0x33)
def updateKind (k : Nat) : Bool := decide (0x30 ≤ k) && decide (k ≤ 0x33)
def sourceKind (k : Nat) : Bool := collKind k && k != 0x24 && k != 0x25

def parseOp (b : Bytes) : Option OpRec :=
  let kind := byteAt b 6
  let ni := byteAt b 8
  let np := byteAt b 9
  let no := byteAt b 10
  let t := ni + np + no
  let base := 24 + roundUp (4 * t) 8
  let ids (from_ n : Nat) := (List.range n).map (fun i => BitVec.ofNat 32 (leAt b (24 + 4 * (from_ + i)) 4))
  if decide (t ≤ 8) && b.length == base + (if collKind kind then 24 else 0) &&
      ([1, 2, 3].contains kind || collKind kind) && byteAt b 7 / 2 == 0 && (kind == 2 || byteAt b 11 == 0) &&
      (kind != 2 || opListed .vector (byteAt b 11)) && zeroRange b (24 + 4 * t) base &&
      (!(collKind kind) || (decide (byteAt b base ≤ 2) && decide (byteAt b (base + 1) ≤ 2) && leAt b (base + 2) 2 == 0 &&
        decide (1 ≤ leAt b (base + 4) 4) && decide (leAt b (base + 4) 4 ≤ 65536) && zeroRange b (base + 13) (base + 16) &&
        zeroRange b (base + 20) (base + 24) && (kind == 0x23 || leAt b (base + 16) 4 == 0))) then
    some { opId := BitVec.ofNat 16 (leAt b 4 2), kind := BitVec.ofNat 8 kind, sign := bitAt (byteAt b 7) 0
           inputs := ids 0 ni, preloads := ids ni np, outputs := ids (ni + np) no
           subOp := BitVec.ofNat 8 (byteAt b 11), partialTo := BitVec.ofNat 32 (leAt b 12 4), kTotal := leAt b 16 8
           encoding := BitVec.ofNat 8 (if collKind kind then byteAt b base else 0)
           reduceOp := BitVec.ofNat 8 (if collKind kind then byteAt b (base + 1) else 0)
           units := if collKind kind then leAt b (base + 4) 4 else 0
           count := if collKind kind then leAt b (base + 8) 5 else 0
           rootUnit := if collKind kind then leAt b (base + 16) 4 else 0 }
  else none

def OpRec.tensors (o : OpRec) : List (BitVec 32) := o.inputs ++ o.preloads ++ o.outputs

/-- The logical records of an image enter the plan (R169, R471); every tensor an operation names has a record, tensor_ids
and stream tensors do not repeat, and each collective's units have one contribution record each (R240, R286). -/
def parseLogical (b : Bytes) (p : Plan) : Option Plan :=
  match taggedRecords (b.length / 8 + 1) b with
  | none => none
  | some rs =>
    let kind (k : Nat) := rs.filter (fun r => leAt r 0 2 == k)
    match allSome parseTensor (kind 1), allSome parseOp (kind 2) with
    | some ts, some os =>
      let streams := kind 3
      let cons := kind 4
      let known (i : BitVec 32) := ts.any (fun t => decide (t.tensorId = i))
      let seeds := streams.map (fun r => (BitVec.ofNat 32 (leAt r 4 4), BitVec.ofNat 64 (leAt r 8 8),
        BitVec.ofNat 16 (leAt r 16 2)))
      let contribs := cons.map (fun r => (BitVec.ofNat 16 (leAt r 4 2), leAt r 8 4, BitVec.ofNat 32 (leAt r 12 4)))
      if rs.all (fun r => decide (1 ≤ leAt r 0 2) && decide (leAt r 0 2 ≤ 4) && leAt r 2 2 % 8 == 0) &&
          pairwiseNot (fun x y => decide (x.tensorId = y.tensorId)) ts &&
          pairwiseNot (fun x y => decide (x.opId = y.opId)) os &&
          os.all (fun o => o.tensors.all known &&
            (decide (o.partialTo = 0xFFFFFFFF#32) || known o.partialTo)) &&
          streams.all (fun r => r.length == 24 && zeroRange r 18 24) && decide (streams.length ≤ 1024) &&
          pairwiseNot (fun x y => decide (x.1 = y.1)) seeds &&
          cons.all (fun r => r.length == 16 && leAt r 6 2 == 0 && known (BitVec.ofNat 32 (leAt r 12 4))) &&
          contribs.all (fun c => os.any (fun o => decide (o.opId = c.1) && sourceKind o.kind.toNat &&
            decide (c.2.1 < o.units))) &&
          os.all (fun o => !(sourceKind o.kind.toNat) ||
            (List.range o.units).all (fun u =>
              (contribs.filter (fun c => decide (c.1 = o.opId) && c.2.1 == u)).length == 1)) then
        some { p with tensors := ts, ops := os, seeds := seeds, contribs := contribs }
      else none
    | _, _ => none

/-! ### Mapping records (R170, R171, R176, R183, R254, R287) -/

def parseGroup (r : Bytes) : Option (BitVec 8 × List Nat) :=
  if decide (byteAt r 0 ≤ 63) && zeroRange r 1 8 then
    some (BitVec.ofNat 8 (byteAt r 0), (List.range 192).filter (fun g => bitAt (leAt r 8 24) g))
  else none

def parsePlacement (r : Bytes) : Option Placement :=
  if decide (byteAt r 3 ≤ 1) && decide (byteAt r 4 ≤ 63) && zeroRange r 5 8 && zeroRange r 28 32 &&
      (byteAt r 3 == 1 || zeroRange r 14 20) then
    some { opId := BitVec.ofNat 16 (leAt r 0 2), group := BitVec.ofNat 8 (byteAt r 2), policy := byteAt r 3
           slot := byteAt r 4, bufBase := leAt r 8 3, bufBytes := leAt r 11 3, hFixed := leAt r 14 2
           kcFixed := leAt r 16 4, kFirst := leAt r 20 4, kCount := leAt r 24 4 }
  else none

def parseShape (r : Bytes) : Nat × Nat × Nat × Nat := (leAt r 0 4, leAt r 4 4, leAt r 8 4, leAt r 12 4)

/-- A resource record in its framing (R176). -/
def parseResource (engines : Nat) (r : Bytes) : Option ResourceRec :=
  let k := byteAt r 0
  let scope := leAt r 2 2
  let amount := leAt r 8 8
  let base := leAt r 16 8
  if byteAt r 1 == 0 && leAt r 4 4 == 0 && decide (1 ≤ k) && decide (k ≤ 0x0B) &&
      (match k with
       | 0x01 => decide (scope < 192) && amount == 1 && base == 0
       | 0x02 => decide (scope < 192)
       | 0x03 => decide (scope < 24) && decide (base + amount ≤ 32)
       | 0x04 | 0x05 => decide (scope < 192) && base == 0
       | 0x0B => scope == 0xFFFF && amount == engines * 3184640
       | 0x09 | 0x0A => scope == 0xFFFF
       | _ => scope == 0xFFFF && base == 0) then
    some { kind := k, scope := scope, amount := amount, base := base }
  else none

def parseTrans (r : Bytes) : Option TransRec :=
  let k := byteAt r 2
  if leAt r 0 2 / 4096 == 0 && decide (k ≤ 2) && decide (byteAt r 3 ≤ 1) &&
      (k == 0 || (byteAt r 3 == 0 && leAt r 4 4 == 0)) &&
      (k != 0 || (decide (1 ≤ leAt r 4 4) && decide (leAt r 4 4 ≤ 0x7FFFFFFF))) &&
      (k == 2 || leAt r 8 2 == 0) && (k != 2 || byteAt r 9 / 16 == 0) &&
      (k == 1 || (byteAt r 10 == 0 && zeroRange r 12 16)) && (k == 2 || byteAt r 11 == 0) &&
      leAt r 12 2 / 16384 == 0 && leAt r 14 2 / 4096 == 0 then
    some { vid := BitVec.ofNat 12 (leAt r 0 2), kind := k, mono := byteAt r 3 == 1, buffers := BitVec.ofNat 32 (leAt r 4 4)
           group := BitVec.ofNat 8 (byteAt r 8), mask := BitVec.ofNat 4 (byteAt r 9), peerCtx := BitVec.ofNat 8 (byteAt r 10)
           slot := byteAt r 11, peerMod := BitVec.ofNat 14 (leAt r 12 2), peerVid := BitVec.ofNat 12 (leAt r 14 2) }
  else none

/-- Conditions on the counter-translation section (R183). -/
def transOk (p : Plan) (ts : List TransRec) : Bool :=
  let bars := ts.filter (fun t => t.kind == 2)
  pairwiseNot (fun x y => decide (x.vid = y.vid)) ts && decide (bars.length ≤ 256) &&
  bars.all (fun t => p.groups.any (fun g => decide (g.1 = t.group)) && decide (t.mask ≠ 0)) &&
  pairwiseNot (fun x y => x.slot == y.slot) bars

/-- Communicators, calls and barrier bindings enter the plan (R287). -/
def parseComms (b : Bytes) (p : Plan) : Option Plan :=
  match taggedRecords (b.length / 8 + 1) b with
  | none => none
  | some rs =>
    let kind (k : Nat) := rs.filter (fun r => leAt r 0 2 == k)
    let comms := (kind 1).map (fun r =>
      ({ commId := BitVec.ofNat 32 (leAt r 4 4), flip := bitAt (byteAt r 10) 0
         members := (List.range 16384).filter (fun i => bitAt (byteAt r (16 + i / 8)) (i % 8)), next := 0 } : Comm))
    let calls := (kind 2).map (fun r =>
      ({ opId := BitVec.ofNat 16 (leAt r 4 2), vid := BitVec.ofNat 16 (leAt r 6 2), commId := BitVec.ofNat 32 (leAt r 8 4)
         unitFirst := leAt r 12 4, unitHeld := leAt r 16 4, staging := leAt r 20 6 } : CallRec))
    if rs.all (fun r => match leAt r 0 2 with
        | 1 => r.length == 2064 && byteAt r 10 / 2 == 0 && zeroRange r 11 16
        | 2 => r.length == 32 && zeroRange r 26 32
        | 3 => r.length == 16 && zeroRange r 9 16
        | _ => false) &&
        (kind 1).all (fun r => leAt r 8 2 == ((List.range 16384).filter (fun i =>
          bitAt (byteAt r (16 + i / 8)) (i % 8))).length) then
      some { p with comms := comms, calls := calls
                    bindings := (kind 3).map (fun r => (BitVec.ofNat 32 (leAt r 4 4), byteAt r 8)) }
    else none

/-- Conditions of R288 apart from the staging ranges. -/
def commsOk (s : State) (p : Plan) : Bool :=
  let called (c : BitVec 32) := p.calls.filter (fun k => decide (k.commId = c))
  let flips := p.comms.filter (·.flip)
  p.comms.all (fun c => match s.fabric.moduleId with
    | some m => c.members.contains m.toNat
    | none => false) &&
  pairwiseNot (fun x y => decide (x.commId = y.commId)) p.comms &&
  p.ops.all (fun o => !(collKind o.kind.toNat) || decide (o.kind = 0x25#8) ||
    (p.calls.filter (fun k => decide (k.opId = o.opId))).length == 1) &&
  p.calls.all (fun k => p.comms.any (fun c => decide (c.commId = k.commId)) &&
    p.trans.any (fun t => t.vid.toNat == k.vid.toNat && t.kind == 0 && t.mono && decide (48 ≤ t.buffers.toNat))) &&
  p.bindings.all (fun b => p.comms.any (fun c => decide (c.commId = b.1)) && (called b.1).isEmpty) &&
  decide (flips.length ≤ 1) &&
  (!flips.isEmpty || !(p.phases.any (fun e => (e.kind == 2 || e.kind == 3) && decide (some (BitVec.ofNat 14 e.modId) ≠ s.fabric.moduleId)))) &&
  flips.all (fun c => match called c.commId with
    | [k] => decide (k.opId = 0xFFFF#16) && k.unitFirst == 0 && k.unitHeld == 0
    | _ => false)

/-- A phase-map entry (R254). -/
def parsePhase (r : Bytes) : Option PhaseEntry :=
  let k := byteAt r 1
  let e : PhaseEntry :=
    { phase := byteAt r 0, kind := k, opId := BitVec.ofNat 16 (leAt r 2 2), stage := leAt r 2 2 % 4096
      modId := if k = 2 then leAt r 4 2 else leAt r 12 2, queue := byteAt r 6, group := byteAt r 7, header := leAt r 2 6
      tensor := BitVec.ofNat 32 (leAt r 8 4), first := leAt r 16 6, count := leAt r 24 6 }
  if decide (byteAt r 0 ≤ 2) &&
      (match k with
       | 1 => zeroRange r 4 32
       | 2 => leAt r 2 2 / 4096 == 0 && leAt r 4 2 / 16384 == 0 && zeroRange r 8 32
       | 3 => leAt r 12 2 / 16384 == 0 && leAt r 14 2 == 0 && leAt r 22 2 == 0 && leAt r 30 2 == 0
       | _ => false) then some e
  else none

/-- The phase-map section of a plan that has one (R254). -/
def parsePhases (b : Bytes) (p : Plan) : Option Plan :=
  match fixedRecords 32 b with
    | none | some [] => none
    | some (h :: rs) =>
      if byteAt h 0 == 0xFF && byteAt h 1 == 0 && leAt h 8 4 == rs.length + 1 && zeroRange h 12 16 && zeroRange h 24 32 then
        match allSome parsePhase rs with
        | some es => some { p with phased := true, phases := es, scratch := (leAt h 2 6, leAt h 16 8) }
        | none => none
      else none

/-- The declaration's sums and save area (R176). -/
def resourcesOk (isSealed : Bool) (p : Plan) : Bool :=
  let sum (k : Nat) := ((p.resources.filter (fun r => r.kind == k)).map (·.amount)).sum
  let saves := (p.resources.filter (fun r => r.kind == 0x0B)).length
  (if isSealed || (planEngines p).isEmpty then saves == 0 else saves == 1) &&
  decide ((p.trans.filter (fun t => t.kind == 0)).length ≤ sum 6) && decide (p.comms.length ≤ sum 7)

/-- Step 1 of admission: everything of the image parses into a plan (R175). -/
def parseImage (s : State) (x : Nat) (b : Bytes) : Option Plan :=
  if !(framingOk b) then none
  else
    let p0 : Plan := { planId := BitVec.ofNat 64 (leAt b 8 8) }
    match parseLogical (sectionBytes b 1) p0, fixedRecords 32 (sectionBytes b 2), fixedRecords 32 (sectionBytes b 3),
        fixedRecords 16 (sectionBytes b 4), fixedRecords 24 (sectionBytes b 5), fixedRecords 16 (sectionBytes b 6) with
    | some p, some gs, some pls, some shs, some res, some trs =>
      match allSome parseGroup gs, allSome parsePlacement pls, allSome parseTrans trs with
      | some groups, some places, some trn =>
        let p := { p with groups := groups, placements := places, shapes := shs.map parseShape, trans := trn
                          mapping := sha3 (mappingBytes b), logical := (b.drop 16).take 64 }
        match allSome (parseResource (planEngines p).length) res, parseComms (sectionBytes b 7) p with
        | some rs, some p =>
          let p := { p with resources := rs }
          match if (imageSections b).any (fun s => s.typ == 8) then parsePhases (sectionBytes b 8) p else some p with
          | none => none
          | some p =>
            if decide (shs.length ≤ 64) && pairwiseNot (fun x y => decide (x.1 = y.1)) groups && transOk p trn &&
                commsOk s p && resourcesOk (s.ctx x).isSealed p then some p
            else none
        | _, _ => none
      | _, _, _ => none
    | _, _, _, _, _, _ => none

/-! ### Step 3: formats and bounds (R26, R30, R32, R33, R60, R285) -/

def Plan.tensor (p : Plan) (i : BitVec 32) : Option TensorRec := p.tensors.find? (fun t => decide (t.tensorId = i))

def Plan.op (p : Plan) (i : Nat) : Option OpRec := p.ops.find? (fun o => o.opId.toNat == i)

/-- Some operation of the plan produces the tensor. -/
def Plan.produced (p : Plan) (i : BitVec 32) : Bool :=
  p.ops.any (fun o => o.outputs.contains i || decide (o.partialTo = i))

/-- A value is placed in the operation's window: a preload, or a saved skein that no operation produces (R60). -/
def Plan.placed (p : Plan) (o : OpRec) : Bool :=
  o.preloads.any (fun i => !(p.produced i) || (match p.tensor i with
    | some t => (savedPly t.format.toNat).isNone
    | none => true))

/-- The window a product operation accumulates in: from its first input and its output's record (R32). -/
def Plan.opWindow (p : Plan) (o : OpRec) : Option (Nat × Option Int × Nat × Nat) :=
  match (o.inputs.head?).bind p.tensor, ((o.outputs ++ [o.partialTo]).head?).bind p.tensor with
  | some a, some c => window a.format.toNat c.cls.toNat c.ply
  | _, _ => none

/-- Format of a product operation's inputs and outputs, its window, and the bound on its terms. -/
def productOk (p : Plan) (o : OpRec) : Bool :=
  let ins := o.inputs.filterMap p.tensor
  match ins with
  | [] => false
  | a :: rest =>
    operandFmt a.format.toNat && rest.all (fun t => decide (t.format = a.format)) &&
    (o.outputs ++ (if o.partialTo = 0xFFFFFFFF#32 then [] else [o.partialTo])).all (fun i => match p.tensor i with
      | none => false
      | some c => match window a.format.toNat c.cls.toNat c.ply with
        | none => false
        | some (_, l, g, _) =>
          (drainFmt c.format.toNat || savedPly c.format.toNat == some c.ply) &&
          (match l with
           | some l => c.windowRule != 1 || decide (c.lsb.toInt = l)
           | none => true) &&
          decide (o.kTotal ≤ 2 ^ (if p.placed o then g - 1 else g))) &&
    o.preloads.all (fun i => match p.tensor i with
      | some t => preloadFmt t.format.toNat || (savedPly t.format.toNat).isSome
      | none => false)

/-- Elements of a tensor by its record. -/
def TensorRec.elements (t : TensorRec) : Nat := t.dims.foldl (· * ·) 1

/-- Most terms that an output of an operation may receive without leaving its window: 2^g, or 2^(g-1) beside a placed value; the
reduction registers' windows have g of 85 and 106 (R33, R60, R125). -/
def Plan.termBound (p : Plan) (o : OpRec) (ply : Nat) : Nat :=
  let g := match if o.kind = 1#8 then p.opWindow o else none with
    | some (_, _, g, _) => g
    | none => if ply = 5 then 85 else 106
  2 ^ (if p.placed o then g - 1 else g)

/-- A sum of `units` copies of a saved skein stays within the bound of every operation that produces it (R285). -/
def Plan.sumFits (p : Plan) (units : Nat) (t : TensorRec) : Bool :=
  (p.ops.filter (fun o => o.outputs.contains t.tensorId || decide (o.partialTo = t.tensorId))).all (fun o =>
    decide (units * o.kTotal ≤ p.termBound o t.ply))

/-- Encodings, source and output formats of a collective (R285, R301). -/
def collectiveOk (p : Plan) (o : OpRec) : Bool :=
  let src := (p.contribs.filter (fun c => decide (c.1 = o.opId))).filterMap (fun c => p.tensor c.2.2)
  let k := o.kind.toNat
  let floats : List Nat := [0x01, 0x02, 0x03, 0x04, 0x05]
  let reduce := if decide (0x22 ≤ k) && decide (k ≤ 0x25) then 0#8 else o.reduceOp
  src.all (fun t =>
    let f := t.format.toNat
    src.all (fun u => decide (u.format = t.format) && u.elements == t.elements) &&
    (if o.encoding = 2#8 then
      (floats ++ [0x07, 0x10, 0x11, 0x13]).contains f && (decide (reduce = 0#8) || (savedPly f).isNone) &&
      ((savedPly f).isNone || p.sumFits o.units t)
     else floats.contains f)) &&
  (decide (o.encoding = 2#8) || decide (reduce = 0#8)) &&
  o.outputs.all (fun i => match p.tensor i with
    | none => false
    | some t =>
      let c := t.format.toNat
      updateKind k || drainFmt c || (decide (o.encoding = 2#8) && src.all (fun u =>
        if (savedPly u.format.toNat).isSome then decide (u.format = t.format) else c == 0x12)))

/-- Formats of a vector operation and of a data movement (R26, R120). -/
def moveFormatsOk (p : Plan) (o : OpRec) : Bool :=
  let ok (f : Nat → Bool) (i : BitVec 32) : Bool := match p.tensor i with
    | none => false
    | some t => f t.format.toNat || (savedPly t.format.toNat).isSome
  if o.kind = 2#8 then (o.inputs ++ o.preloads).all (ok vInFmt) && (o.outputs.all (ok vOutFmt))
  else o.tensors.all (ok (fun f => operandFmt f))

/-- Step 3 of admission: formats, classes, plies and term bounds (R26, R30, R32, R33, R60, R125, R285). -/
def step3Ok (p : Plan) : Bool :=
  p.ops.all (fun o =>
    if o.kind = 1#8 then productOk p o
    else if collKind o.kind.toNat then
      collectiveOk p o && (!(updateKind o.kind.toNat) || (match p.tensor (o.tensors.getD 2 0#32) with
        | some t => decide (t.mode = 0#3) || decide (t.mode = 4#3)
        | none => false))
    else moveFormatsOk p o && o.outputs.all (fun i => match p.tensor i with
      | some t => (savedPly t.format.toNat).isNone || decide (o.kTotal ≤ p.termBound o t.ply)
      | none => false))

/-! ### Tiles (R172, R173) -/

/-- Everything R172 reads of a placement: products per dot unit, bits of an element, ply, buffer bytes. -/
structure TileIn where
  c    : Nat
  bits : Nat
  ply  : Nat
  mx   : Bool
  buf  : Nat
deriving DecidableEq, Repr

def TileIn.unit (t : TileIn) : Nat := max (max t.c (512 / t.bits)) (if t.mx then 32 else 0)
def TileIn.ld (t : TileIn) : Nat := ceilDiv (t.c * 512 * t.bits) (8 * 2048)

/-- Largest K chunk at a height for a K extent. -/
def TileIn.kc (t : TileIn) (k h : Nat) : Nat :=
  min (roundUp k t.unit) (t.unit * (t.buf * 8 / (2 * t.unit * t.bits * (h + 512))))

/-- Heights that R172 considers, tallest first. -/
def tileHeights (ply : Nat) : List Nat :=
  if 256 / ply = 51 then [51, 32, 16] else [256, 128, 64, 32, 16].filter (fun h => decide (h ≤ 256 / ply))

/-- Every cluster that holds a core of the group has eight present cores, all in the group. -/
def groupAligned (s : State) (gr : List Nat) : Bool :=
  gr.all (fun g => (List.range 8).all (fun k => s.present (g / 8 * 8 + k) && gr.contains (g / 8 * 8 + k)))

/-- Candidates at an extent: without the tallest in a group that is not aligned, and with a double buffer. -/
def tileCands (s : State) (t : TileIn) (gr : List Nat) (k : Nat) : List Nat :=
  let hs := tileHeights t.ply
  let hs := if !(groupAligned s gr) && decide (1 < hs.length) then hs.drop 1 else hs
  hs.filter (fun h => decide (t.unit ≤ t.kc k h))

/-- span(h) of R172. -/
def tileSpan (t : TileIn) (m n k b p h : Nat) : Nat :=
  ceilDiv (b * ceilDiv m h * ceilDiv n 512) p * (ceilDiv k t.c * max (min h m) t.ld)

/-- The tallest candidate within 1/64 of the best span, and its K chunk (R172). -/
def chooseTile (s : State) (t : TileIn) (gr : List Nat) (m n k b : Nat) : Option (Nat × Nat) :=
  let cs := tileCands s t gr k
  let span := tileSpan t m n k b gr.length
  match cs with
  | [] => none
  | c :: rest =>
    let best := rest.foldl (fun a h => min a (span h)) (span c)
    (cs.find? (fun h => decide (64 * span h ≤ 65 * best))).map (fun h => (h, t.kc k h))

/-- The tiles in the order of R173, core by core in rotation. -/
def tileList (gr : List Nat) (m n b h kc : Nat) : List Tile :=
  let rows := ceilDiv m h
  let cols := ceilDiv n 512
  (List.range (b * rows * cols)).map (fun i =>
    { core := gr.getD (i % gr.length) 0, batch := i / (rows * cols), mOrigin := i / cols % rows * h
      nOrigin := i % cols * 512, height := h, kc := kc })

/-- The inputs of R172 of an operation and placement. -/
def tileIn (p : Plan) (o : OpRec) (pl : Placement) : Option TileIn :=
  match (o.inputs.head?).bind p.tensor, ((o.outputs ++ [o.partialTo]).head?).bind p.tensor, p.opWindow o with
  | some a, some c, some (_, _, _, prod) =>
    some { c := prod, bits := fmtBits a.format.toNat, ply := c.ply, mx := isMx a.format.toNat, buf := pl.bufBytes }
  | _, _, _ => none

/-! ### Step 4: placements, alignment, phases (R175, R256, R288) -/

/-- Staging bytes of a call (R303). -/
def slotSize (p : Plan) (o : OpRec) : Nat :=
  let f := match (p.contribs.filter (fun c => decide (c.1 = o.opId))).filterMap (fun c => p.tensor c.2.2) with
    | t :: _ => t.format.toNat
    | [] => 0x01
  if o.kind = 0x22#8 ∨ o.kind = 0x23#8 then 4096 * (fmtBits f / 8)
  else match o.encoding.toNat with
    | 0 => 24576
    | 1 => 32768
    | _ => match f with
      | 0x10 => 77888
      | 0x11 => 143424
      | 0x13 => 340032
      | _ => 208960

/-- The staging range of a call lies 4 KiB-aligned in a declared HBM range (R288). -/
def stagingOk (p : Plan) (k : CallRec) : Bool :=
  let n := 48 * (match p.op k.opId.toNat with
    | some o => slotSize p o
    | none =>
      let ws := (p.phases.filter (fun e => e.kind == 3)).filterMap (fun e => (p.tensor e.tensor).map (fun t => fmtBits t.format.toNat / 8))
      4096 * ws.foldl max 1)
  k.staging % 4096 == 0 &&
  p.resources.any (fun r => r.kind == 9 && decide (r.base ≤ k.staging) && decide (k.staging + n ≤ r.base + r.amount))

def placementOk (p : Plan) (pl : Placement) : Bool :=
  match p.op pl.opId.toNat with
  | none => false
  | some o =>
    p.groups.any (fun g => decide (g.1 = pl.group)) && decide (pl.slot < p.shapes.length) &&
    decide (0x100000 ≤ pl.bufBase) && pl.bufBase % 64 == 0 && decide (pl.bufBase + pl.bufBytes ≤ 2 ^ 24) &&
    (pl.policy == 0 ||
      match tileIn p o pl with
      | none => false
      | some t => (tileHeights t.ply).contains pl.hFixed && decide (t.unit ≤ pl.kcFixed) && pl.kcFixed % t.unit == 0 &&
          decide (pl.kcFixed ≤ t.unit * (t.buf * 8 / (2 * t.unit * t.bits * (pl.hFixed + 512)))))

/-- Shard entries of a tensor and phase cover every element exactly once: sorted by first, each begins where the one before
ended. -/
def coversFrom (es : List PhaseEntry) : Nat → Nat → Nat → Bool
  | 0, pos, total => pos == total
  | k + 1, pos, total =>
    if pos = total then true
    else match es.find? (fun e => e.first == pos && decide (0 < e.count)) with
      | some e => coversFrom es k (pos + e.count) total
      | none => false

/-- Conditions on a phase map (R256). -/
def phasesOk (s : State) (p : Plan) : Bool :=
  !p.phased ||
  (let stages (q : Nat) := p.phases.filter (fun e => e.kind == 2 && e.phase == q)
   let shards (q : Nat) := p.phases.filter (fun e => e.kind == 3 && e.phase == q)
   let tensors := ((p.phases.filter (fun e => e.kind == 3)).map (·.tensor)).eraseDups
   let mine := p.phases.filter (fun e => e.kind == 3 && decide (some (BitVec.ofNat 14 e.modId) = s.fabric.moduleId))
   let size (e : PhaseEntry) := match p.tensor e.tensor with
     | some t => ceilDiv (e.count * fmtBits t.format.toNat) 8 + (if isMx t.format.toNat then ceilDiv e.count 32 else 0)
     | none => 0
   p.ops.all (fun o => (p.phases.filter (fun e => e.kind == 1 && decide (e.opId = o.opId))).length == 1) &&
   [0, 1, 2].all (fun q =>
     (stages q).all (fun e => decide (((stages q).filter (fun f => f.modId == e.modId)).length ≤ 8)) &&
     pairwiseNot (fun e f => e.modId == f.modId && e.queue == f.queue) (stages q) &&
     tensors.all (fun t =>
       let es := (shards q).filter (fun e => decide (e.tensor = t))
       let total := match p.tensor t with
         | some r => r.elements
         | none => 0
       coversFrom es es.length 0 total && (es.map (·.count)).sum == total)) &&
   p.resources.any (fun r => r.kind == 9 && decide (r.base ≤ p.scratch.1) &&
     decide (p.scratch.1 + p.scratch.2 ≤ r.base + r.amount)) &&
   mine.all (fun e => decide (size e ≤ p.scratch.2)))

def step4Ok (s : State) (p : Plan) : Bool :=
  p.placements.all (placementOk p) &&
  p.resources.all (fun r => (!([0x02, 0x09, 0x0A].contains r.kind) || (r.base % 4096 == 0 && r.amount % 4096 == 0)) &&
    (r.kind != 0x0B || r.base % 4096 == 0)) &&
  p.scratch.1 % 4096 == 0 && p.scratch.2 % 4096 == 0 && p.calls.all (stagingOk p) && phasesOk s p

/-! ### Step 5: resources (R176 to R179) -/

/-- The other contexts' resource records. -/
def heldBy (s : State) (x k : Nat) : List (Nat × ResourceRec) :=
  s.contexts.flatMap (fun c => if c.1 = x then [] else match c.2.plan with
    | some p => (p.resources.filter (fun r => r.kind == k)).map (fun r => (c.1, r))
    | none => [])

/-- Two ranges of module addresses name a common granule of HBM or DDR5 cells (R140). -/
def cellsMeet (a n b k : Nat) : Bool :=
  let per (v : Nat) := decide (0x10000000000 ≤ v) && decide (v < 0x28000000000)
  let st (v : Nat) := (v - 0x10000000000) / 2 ^ 37
  let mixed (a n b k : Nat) : Bool :=
    let o := (b - 0x10000000000) % 2 ^ 37
    let lo := max (o / 4096) (ceilDiv (a / 4096 - st b) 12)
    let hi := min ((o + k - 1) / 4096) (((a + n - 1) / 4096 - st b) / 12)
    decide (st b ≤ (a + n - 1) / 4096) && decide (lo ≤ hi)
  if n = 0 ∨ k = 0 then false
  else if per a = per b then decide (a < b + k) && decide (b < a + n)
  else if per b then decide (a < 960 * 2 ^ 30) && mixed a n b k
  else decide (b < 960 * 2 ^ 30) && mixed b k a n

/-- A shortfall entry of R179. -/
def shortfallEntry (r : ResourceRec) (reason holder available unit : Nat) : Bytes :=
  leBytes 1 r.kind ++ leBytes 1 reason ++ leBytes 2 holder ++ leBytes 4 r.scope ++ leBytes 8 r.amount ++
  leBytes 8 available ++ leBytes 8 unit

/-- A region in which a range of the kind may lie: the DDR5 window, or HBM in either view (R139, R176). -/
def rangeRegion (kind reg : Nat) : Bool := if kind = 0x0A then reg == 16 else decide (reg ≤ 12)

/-- Bytes of a range whose pages are decoded in a region of its kind and meet no given range (R179). -/
def freePages (s : State) (r : ResourceRec) (held : List (Nat × ResourceRec)) : Nat :=
  (((List.range (ceilDiv r.amount 4096)).filter (fun i =>
    let a := r.base + i * 4096
    (s.translate a).isSome && (match s.regionId a with
      | some reg => rangeRegion r.kind reg
      | none => false) && !(held.any (fun h => cellsMeet a 1 h.2.base h.2.amount)))).map
      (fun i => min 4096 (r.amount - i * 4096))).sum

/-- The lowest-numbered context among those that hold a clashing range. -/
def lowestHolder (hs : List (Nat × ResourceRec)) : Nat := (hs.map (·.1)).foldl min 0xFFFF

/-- Counters, communicators or instance slots left over by the other plans (R176). -/
def poolSize (p : Plan) (k : Nat) : Nat :=
  match k with
  | 6 => 64512
  | 7 => 4096
  | _ => min 64 (4 * p.comms.length)

def poolFree (s : State) (x k total : Nat) : Nat := total - ((heldBy s x k).map (fun h => h.2.amount)).sum

/-- Physical counters that no plan holds, of the 32,256 on each compute die that is not lost (R176, R182). -/
def countersFree (s : State) : Nat :=
  ([0, 1].map (fun d =>
    if s.rel.lostDies.contains d then 0
    else 32256 - (s.counters.filter (fun c => c.2.allocated && c.1 / 32768 == d && decide (512 ≤ c.1 % 32768))).length)).sum

/-- The shortfall of one record, `before` being the plan's own earlier records (R176, R179). -/
def shortfallOf (s : State) (x : Nat) (p : Plan) (before : List ResourceRec) (r : ResourceRec) : Option Bytes :=
  let g := r.scope
  let coreUnit := unitCode 4 0 (g / 96) (g / 8 % 12) (g % 8) 0 0
  let clusterUnit := unitCode 5 0 (g / 12) (g % 12) 0 0 0
  let used := ((before.filter (fun b => b.kind == r.kind)).map (·.amount)).sum
  match r.kind with
  | 0x01 => if s.present g then none else some (shortfallEntry r 3 0xFFFF 0 coreUnit)
  | 0x02 =>
    let clash := (heldBy s x 2).filter (fun h => h.2.scope == g && decide (h.2.base < r.base + r.amount) &&
      decide (r.base < h.2.base + h.2.amount))
    let inside := decide (0x100000 ≤ r.base) && decide (r.base + r.amount ≤ 0x1000000)
    let free := 4096 * ((List.range (ceilDiv r.amount 4096)).filter (fun i =>
      let a := r.base + i * 4096
      decide (0x100000 ≤ a) && decide (a < 0x1000000) &&
      !(clash.any (fun h => decide (h.2.base ≤ a) && decide (a < h.2.base + h.2.amount))))).length
    if !inside then some (shortfallEntry r 2 0xFFFF free coreUnit)
    else if !clash.isEmpty then some (shortfallEntry r 1 (lowestHolder clash) free coreUnit)
    else none
  | 0x03 =>
    let clash := (heldBy s x 3).filter (fun h => h.2.scope == g && decide (h.2.base < r.base + r.amount) &&
      decide (r.base < h.2.base + h.2.amount))
    let free := ((List.range r.amount).filter (fun i =>
      !(clash.any (fun h => decide (h.2.base ≤ r.base + i) && decide (r.base + i < h.2.base + h.2.amount))))).length
    if clash.isEmpty then none else some (shortfallEntry r 1 (lowestHolder clash) free clusterUnit)
  | 0x04 | 0x05 =>
    let here := ((before.filter (fun b => b.kind == r.kind && b.scope == g)).map (·.amount)).sum
    if here + r.amount > 256 then some (shortfallEntry r 0 0xFFFF (256 - here) coreUnit) else none
  | 0x06 | 0x07 | 0x08 =>
    let cap := if r.kind = 6 then min 4096 (countersFree s)
      else if r.kind = 7 then poolFree s x 7 4096 else min (4 * p.comms.length) (poolFree s x 8 64)
    if used + r.amount > cap then some (shortfallEntry r 0 0xFFFF (cap - used) 0) else none
  | _ =>
    let held := heldBy s x 9 ++ heldBy s x 0x0A ++ heldBy s x 0x0B
    let clash := held.filter (fun h => cellsMeet r.base r.amount h.2.base h.2.amount)
    let where_ := match s.regionId r.base with
      | none => false
      | some reg => rangeRegion r.kind reg
    if r.amount = 0 then none
    else if !where_ || !(s.rangeOk none r.base r.amount) then
      some (shortfallEntry r 2 0xFFFF (freePages s r held) 0)
    else if !clash.isEmpty then some (shortfallEntry r 1 (lowestHolder clash) (freePages s r held) 0)
    else none

/-- Sealed slots not reserved by a context (R85). -/
def State.sealedTaken (s : State) : List Nat := s.contexts.flatMap (fun c => c.2.slots)

def State.sealedFree (s : State) : Nat := s.mem.sealedInForce.toNat - s.sealedTaken.length

/-- Shortfalls of records in order, each seeing those before it. -/
def shortfallsOf (s : State) (x : Nat) (p : Plan) : List ResourceRec → List ResourceRec → List Bytes
  | _, [] => []
  | before, r :: rs =>
    (match shortfallOf s x p before r with
     | some b => [b]
     | none => []) ++ shortfallsOf s x p (before ++ [r]) rs

/-- Cores of the engine groups that no kind 0x01 record declares, each as such a record: an absent one is a shortfall as well
(R23; log entry 120). -/
def groupCores (p : Plan) : List ResourceRec :=
  ((List.range 192).filter (fun g => (planEngines p).contains g &&
    !(p.resources.any (fun r => r.kind == 1 && r.scope == g)))).map
    (fun g => { kind := 1, scope := g, amount := 1, base := 0 })

/-- Every shortfall of a plan, in ascending kind and then in record order, kind 0x0C last (R23, R175, R179). -/
def shortfalls (s : State) (x : Nat) (p : Plan) : List Bytes :=
  let sorted := p.resources.filter (fun r => r.kind == 1) ++ groupCores p ++
    (List.range 12).flatMap (fun k => p.resources.filter (fun r => r.kind == k && r.kind != 1))
  let n := (planEngines p).length
  shortfallsOf s x p [] sorted ++
  (if (s.ctx x).isSealed && decide (s.sealedFree < n) then
    [shortfallEntry { kind := 0x0C, scope := 0xFFFF, amount := n, base := 0 } 0 0xFFFF s.sealedFree 0] else [])

/-! ### Step 6: the reservations take effect (R148, R175, R177, R182) -/

/-- Scratch granules that the plans' records give a cluster: one more than the highest held (R177). -/
def scratchNeed (s : State) (cl : Nat) : Nat :=
  (s.contexts.flatMap (fun c => match c.2.plan with
    | some p => (p.resources.filter (fun r => r.kind == 3 && r.scope == cl && decide (0 < r.amount))).map
        (fun r => r.base + r.amount)
    | none => [])).foldl max 0

/-- Scratch counts follow the admitted plans; lines of granules taken from the cache become invalid (R148, R177). -/
def settleScratch (s : State) : State :=
  (List.range 24).foldl (fun s cl =>
    let old := smGet 0 s.mem.scratch cl
    let new := scratchNeed s cl
    let m := invalidate s.mem cl (fun line => decide (old + Config.cacheSet line (setsOf s.mem cl) / 4096 < new))
    { s with mem := { m with scratch := smSet 0 m.scratch cl new } }) s

/-- Physical counters free for plans, those of a die first; a lost die has none (R181, R182). -/
def freeCounters (s : State) (die : Nat) : List Nat :=
  let ok (p : Nat) := !((s.ctr p).allocated) && !(s.rel.lostDies.contains (p / 32768))
  let d0 := ((List.range 32256).map (· + 512)).filter ok
  let d1 := ((List.range 32256).map (· + 33280)).filter ok
  if die = 0 then d0 ++ d1 else d1 ++ d0

/-- Die whose counters a plan takes first: the one with more of its engines, die 0 when equal (R182). -/
def planDie (p : Plan) : Nat :=
  let es := planEngines p
  if (es.filter (fun g => decide (96 ≤ g))).length > (es.filter (fun g => decide (g < 96))).length then 1 else 0

/-- Members of a barrier record (R198). -/
def barrierMembers (s : State) (p : Plan) (t : TransRec) : List Nat :=
  let cores := match p.groups.find? (fun g => decide (g.1 = t.group)) with
    | some g => g.2.filter s.present
    | none => []
  (if t.mask.getLsbD 0 then cores else []) ++ (if t.mask.getLsbD 1 then cores.map (192 + ·) else []) ++
  (if t.mask.getLsbD 2 then cores.map (384 + ·) else []) ++ (if t.mask.getLsbD 3 then [576] else [])

/-- One translation record takes effect; a local entry takes the given physical counter. -/
def loadTrans (x : Nat) (p : Plan) (s : State) (t : TransRec) (phys : Nat) : State :=
  let put (s : State) (e : Nat) : State :=
    let c := s.ctx x
    s.setCtx x { c with trans := smSet 0#64 c.trans t.vid.toNat (BitVec.ofNat 64 e) }
  match t.kind with
  | 0 => (put s (mkTrans phys 0 0 0)).setCtr phys
      { buffers := t.buffers, monotonic := t.mono, allocated := true, owner := BitVec.ofNat 8 x, vid := t.vid }
  | 1 => put s (mkTrans t.peerVid.toNat 1 t.peerCtx.toNat t.peerMod.toNat)
  | _ => (put s (mkTrans t.slot 2 0 0)).setBarrier x t.slot
      { members := barrierMembers s p t, comm := (p.bindings.find? (fun b => b.2 == t.slot)).map (·.1) }

/-- Translation records in order; local ones take free counters in turn. -/
def loadAllTrans (x : Nat) (p : Plan) : List Nat → List TransRec → State → State
  | _, [], s => s
  | fs, t :: ts, s =>
    if t.kind = 0 then loadAllTrans x p (fs.drop 1) ts (loadTrans x p s t (fs.headD 0))
    else loadAllTrans x p fs ts (loadTrans x p s t 0)

/-- Counters that a plan declares beyond its translation records, held unused (R176). -/
def extraCounters (p : Plan) : Nat :=
  ((p.resources.filter (fun r => r.kind == 6)).map (·.amount)).sum - (p.trans.filter (fun t => t.kind == 0)).length

/-- An admitted plan takes effect (R175 step 6); its communicators' call counters begin at 0, and what was kept of earlier calls under
their names ends (R289). -/
def takePlan (s : State) (x : Nat) (p : Plan) : State :=
  let fs := freeCounters s (planDie p)
  let local_ := (p.trans.filter (fun t => t.kind == 0)).length
  let mine (i : BitVec 32) : Bool := p.comms.any (fun c => decide (c.commId = i))
  let s := { s with coll := { s.coll with past := s.coll.past.filter (fun k => !(mine k.comm))
                                          slotless := s.coll.slotless.filter (fun k => !(mine k.1)) } }
  let c := s.ctx x
  let slots := if c.isSealed then
      ((List.range s.mem.sealedInForce.toNat).filter (fun i => !(s.sealedTaken.contains i))).take (planEngines p).length
    else []
  let s := s.setCtx x { c with plan := some p, st := .ready, trans := [], barriers := [], barrierDie := planDie p
                               slots := slots, phase := 0, flipping := false }
  let s := match p.comms.find? (·.flip) with
    | some k => s.setBarrier x 256 { members := [576], comm := some k.commId }
    | none => s
  let s := loadAllTrans x p fs p.trans s
  let s := ((fs.drop local_).take (extraCounters p)).foldl (fun s q =>
    s.setCtr q { allocated := true, owner := BitVec.ofNat 8 x, vid := 0 }) s
  settleScratch s

/-- The plan of a context leaves: its counters, slots and granules return (R177). -/
def dropPlan (s : State) (x : Nat) : State :=
  let c := s.ctx x
  let s := { s with counters := s.counters.filter (fun k => !(k.2.allocated && decide (k.2.owner.toNat = x))) }
  let s := s.setCtx x { c with plan := none, unloading := none, trans := [], barriers := [], slots := [], saved := [] }
  settleScratch s

/-! ### Admission (R166, R175) -/

/-- The report of the context's last plan load ends when its next one is dispatched (R179). -/
def clearShortfalls (s : State) (x : Nat) : State := s.setCtx x { s.ctx x with shortfallCount := 0, shortfalls := [] }

/-- Where an image may lie: one region among interleaved HBM, a per-stack view and the DDR5 window (R166). -/
def imagePlaceOk (s : State) (a n : Nat) : Bool :=
  a % 64 == 0 && s.rangeOk none a n &&
  match s.regionId a with
  | some r => decide (r ≤ 16)
  | none => false

/-- The plan image at a module address is admitted into a context: the new state and the status of the PLAN_LOAD; a data
error writes a fault record (R166, R175). -/
def admitPlan (s : State) (x a : Nat) (who : Actor) : State × Nat :=
  if !(imagePlaceOk s a 128) then (s, stBad)
  else match readMem s s.mem 128 a with
    | .error e => (writeNotes s who 2 [memErrNote s { sev := 3, cls := 2 } e], stData)
    | .ok h =>
      let n := leAt h 4 4
      if !(imagePlaceOk s a n) || decide (0x4000000 < n) then (s, stBad)
      else match readMem s s.mem n a with
        | .error e => (writeNotes s who 2 [memErrNote s { sev := 3, cls := 2 } e], stData)
        | .ok b =>
          if (s.ctx x).plan.isSome then (s, stBad)
          else match parseImage s x b with
            | none => (s, stBad)
            | some p =>
              if sha3 (sectionBytes b 1) ≠ p.logical || !(step3Ok p) || !(step4Ok s p) then (s, stBad)
              else
                let sf := shortfalls s x p
                if sf.isEmpty then (takePlan s x p, stDone)
                else (s.setCtx x { s.ctx x with shortfallCount := BitVec.ofNat 8 (min 255 sf.length)
                                                shortfalls := sf.take 8 }, stCapacity)

end Sys2Proof.Machine
end

