-- ==== Sys2Proof/Machine/CollectiveOps.lean ====
section
/-! DEFINITION. Collective calls: element encodings (R298 to R302), instances and their rounds (R289 to R294, R306, R308,
R310 to R314), chunks of the bulk path (R297, R303, R304). -/

namespace Sys2Proof.Machine

/-! ### Elements of a tensor (R152) -/

/-- Indices of a linear element index, dimension 0 fastest. -/
def linIndex : List Nat → Nat → List Nat
  | [], _ => []
  | d :: ds, lin => lin % d :: linIndex ds (lin / d)

/-- Bit offset of element lin within the data of a tensor. -/
def elemBitOff (h : Bytes) (lin : Nat) : Nat :=
  let idx := linIndex (hdrDims h) lin
  idx.headD 0 * fmtBits (hdrFormat h) + 8 * rowOffset h (idx.drop 1)

/-- The bits of element lin of the tensor whose header h lies at a. -/
def tensorElem (s : State) (a : Nat) (h : Bytes) (lin : Nat) : Except MemErr Nat :=
  let off := elemBitOff h lin
  let b := fmtBits (hdrFormat h)
  match readMem s s.mem ((b + 7) / 8) (a + 64 + off / 8) with
  | .ok bs => .ok (bitsAt (leNat bs) (off % 8) b)
  | .error e => .error e

/-! ### Headers of a new production (R153) -/

/-- Strides of dense dimensions, rows on 64-byte boundaries, from the size of what lies below; one for each dimension above 0 (R152). -/
def denseStrides : Nat → List Nat → List Nat
  | _, [] => []
  | n, d :: ds => n :: denseStrides (n * d) ds

/-- A header for a tensor as its record gives it, its rows dense (R152, R153; log entry 141). -/
def headerImage (t : TensorRec) : Bytes :=
  let row := ceilDiv (ceilDiv (t.dims.headD 1 * fmtBits t.format.toNat) 8) 64
  leBytes 1 1 ++ leBytes 1 t.format.toNat ++ leBytes 1 (t.rank + 16 * t.blockDim) ++ leBytes 9 0 ++
  padTo 24 (t.dims.flatMap (leBytes 4)) ++ padTo 20 ((denseStrides row (t.dims.drop 1)).flatMap (leBytes 4)) ++ leBytes 8 0

/-- The anchor hint of a window: class, ply and LSB (R152). -/
def hintBytes (cls ply : Nat) (lsb : Int) : Bytes := leBytes 2 (ofSigned 16 lsb) ++ leBytes 1 (cls + 4 * ply) ++ leBytes 1 0x80

/-- The header at an address made ready for a new production of a tensor: a legal one of its format and rank keeps its dimensions and
strides, any other is written anew (R153; log entry 141). -/
def initHeader (s : State) (t : TensorRec) (hint : Option (Nat × Nat × Int)) (a : Nat) : Except MemErr State :=
  let image := headerImage t
  let old := match readMem s s.mem 64 a with
    | .ok h => h
    | .error _ => image
  let h := if headerLegal (overlay old 8 (hintBytes 0 1 0)) && hdrFormat old == t.format.toNat && hdrRank old == t.rank then old
    else image
  let h := match hint with
    | some (c, p, l) => overlay h 8 (hintBytes c p l)
    | none => h
  match writeMem s s.mem none a (freshHeader h) with
  | (m, none) => .ok { s with mem := m }
  | (_, some e) => .error e

/-! ### Host descriptors -/

def hOpId (d : Bytes) : Nat := leAt d 16 2
def hCount (d : Bytes) : Nat := byteAt d 18 % 16
def hM (d : Bytes) : Nat := leAt d 20 4
def hN (d : Bytes) : Nat := leAt d 24 4
def hK (d : Bytes) : Nat := leAt d 28 4
def hBatch (d : Bytes) : Nat := leAt d 32 4
def hStep (d : Bytes) : Nat := leAt d 36 4
def hAddr0 (d : Bytes) : Nat := leAt d 40 6
def hAddr1 (d : Bytes) : Nat := leAt d 48 6
def hCurrent (d : Bytes) : Bool := bitAt (byteAt d 54) 0
def hBinding (d : Bytes) (i : Nat) : Nat := leAt d (64 + 8 * i) 8

/-- Header addresses that binding i resolved to: the slot read and the slot written (R226). -/
def HostDesc.readAt (d : HostDesc) (i : Nat) : Nat := (d.resolved.getD (2 * i) 0#64).toNat
def HostDesc.writeAt (d : HostDesc) (i : Nat) : Nat := (d.resolved.getD (2 * i + 1) 0#64).toNat

def State.desc? (s : State) (x q : Nat) (seq : BitVec 64) : Option HostDesc :=
  (smGet ({} : Queue) (s.ctx x).queues q).descs.find? (fun d => decide (d.seq = seq))

def hostActor (x q : Nat) (seq : BitVec 64) : Actor := .host (Fin.ofNat 256 x) (Fin.ofNat 8 q) seq

/-- An accepted descriptor stands before its dispatch. -/
def HostDesc.undispatched (d : HostDesc) : Bool := decide (d.phase = .accepted) || decide (d.phase = .waiting)

/-- An undispatched or dispatched descriptor is completed by the machine with a status: nothing of it runs on (R210, R233,
R237, R447). -/
def HostDesc.closeWith (d : HostDesc) (status : Nat) : HostDesc :=
  { d with phase := .dispatched, outcomes := [BitVec.ofNat 16 status], tiles := [], workDone := true, released := true
           queued := false, flags := 0, checks := [], flips := 0 }

/-- dispatch follows the descriptors that have passed it (R213). -/
def Queue.settle (k : Queue) : Queue :=
  { k with dispatch := k.complete + BitVec.ofNat 64 (k.descs.takeWhile (fun d => !d.undispatched)).length }

def State.queue (s : State) (x q : Nat) : Queue := smGet {} (s.ctx x).queues q
def State.modQueue (s : State) (x q : Nat) (f : Queue → Queue) : State := s.setCtx x ((s.ctx x).modQueue q f)

/-- Every descriptor of a context, with its queue. -/
def Context.allDescs (c : Context) : List (Nat × HostDesc) := c.queues.flatMap (fun k => k.2.descs.map (fun d => (k.1, d)))

/-! ### Phases (R255, R257) -/

/-- Entries of a phase's map without the phase itself (R255, R257). -/
def phaseMap (p : Plan) (ph : Nat) : List PhaseEntry :=
  (p.phases.filter (fun e => (e.kind == 2 || e.kind == 3) && e.phase == ph)).map (fun e => { e with phase := 0 })

/-- Two phases with equal maps form one merged phase (R257). -/
def samePhase (p : Plan) (a b : Nat) : Bool := a == b || decide (phaseMap p a = phaseMap p b)

/-- The phase an operation belongs to; without a map every operation runs in the one phase (R255). -/
def opPhase (p : Plan) (o : Nat) : Option Nat :=
  (p.phases.find? (fun e => e.kind == 1 && e.opId.toNat == o)).map (·.phase)

/-- The phase that the current one flips to: the next in the cycle whose map differs (R257). -/
def nextPhase (p : Plan) (ph : Nat) : Option Nat :=
  [(ph + 1) % 3, (ph + 2) % 3].find? (fun q => !(samePhase p ph q))

/-- The first accepted, undispatched RUN of a phase. -/
def firstOfPhase (c : Context) (p : Plan) (q : Nat) : Option (Nat × HostDesc) :=
  (c.allDescs.filter (fun d => d.2.undispatched && byteAt d.2.bytes 8 == 1 &&
    (match opPhase p (hOpId d.2.bytes) with
     | some ph => samePhase p ph q
     | none => false))).foldl (fun b d => match b with
    | none => some d
    | some e => if d.2.order < e.2.order then some d else b) none

/-- Barrier slot of firmware's own for the barriers of a flip, beside the 256 of the table (R258; log entry 145). -/
def flipSlot : Nat := 256

/-- The barrier slot that a communicator is bound to; a flip communicator without a binding has firmware's own (R258, R287, R315). -/
def boundSlot (s : State) (x : Nat) (comm : BitVec 32) : Option Nat :=
  (s.ctx x).plan.bind (fun p => match p.bindings.find? (fun b => decide (b.1 = comm)) with
    | some b => some b.2
    | none => if p.comms.any (fun c => c.flip && decide (c.commId = comm)) then some flipSlot else none)

/-- A flip fails: the first RUN of the new phase completes with the status, and the flip starts over with its replay (R258). -/
def failFlip (s : State) (x status : Nat) : State :=
  let c := s.ctx x
  match c.plan with
  | none => s
  | some p =>
    let s := s.setCtx x { c with permute := none, flipTensors := [], flipping := false, flipStage := 0 }
    let s := if (s.barrier x flipSlot).poisoned then s.setBarrier x flipSlot (s.barrier x flipSlot).clear else s
    match (nextPhase p c.phase).bind (firstOfPhase c p) with
    | none => s
    | some (q, d) => (s.modDesc x q d.seq (fun d => d.closeWith status)).modQueue x q Queue.settle

/-! ### Calls -/

/-- A call that this member has dispatched. -/
structure Call where
  x    : Nat
  q    : Nat
  plan : Plan
  comm : Comm
  op   : OpRec
  call : CallRec
  desc : HostDesc
deriving DecidableEq, Repr

/-- The call of an instance whose RUN was dispatched here. -/
def callOf (s : State) (i : Instance) : Option Call :=
  match i.desc, (s.ctx i.ctx).plan with
  | some (q, seq), some p =>
    match s.desc? i.ctx q seq, p.comms.find? (fun c => decide (c.commId = i.commId)) with
    | some d, some c =>
      match p.op (hOpId d.bytes), p.calls.find? (fun k => k.opId.toNat == hOpId d.bytes) with
      | some o, some k => some { x := i.ctx, q := q, plan := p, comm := c, op := o, call := k, desc := d }
      | _, _ => none
    | _, _ => none
  | _, _ => none

/-- Units this module holds, ascending. -/
def Call.units (c : Call) : List Nat := (List.range c.call.unitHeld).map (· + c.call.unitFirst)

/-- The source tensor of a unit, and its header address. -/
def Call.unitTensor (c : Call) (u : Nat) : Option TensorRec :=
  (c.plan.contribs.find? (fun k => decide (k.1 = c.op.opId) && k.2.1 == u)).bind (fun k => c.plan.tensor k.2.2)

def Call.tensorIndex (c : Call) (t : BitVec 32) : Nat := (c.op.tensors.findIdx? (fun i => decide (i = t))).getD 0

def Call.unitAddr (c : Call) (u : Nat) : Nat :=
  match c.unitTensor u with
  | some t => c.desc.readAt (c.tensorIndex t.tensorId)
  | none => 0

/-- Format code of the sources. -/
def Call.srcFormat (c : Call) : Nat :=
  match c.plan.contribs.find? (fun k => decide (k.1 = c.op.opId)) with
  | some k => match c.plan.tensor k.2.2 with
    | some t => t.format.toNat
    | none => 0x01
  | none => 0x01

/-- The output tensor's record; for an update there is none of the reduction's own. -/
def Call.output (c : Call) : Option TensorRec := c.op.outputs.head?.bind c.plan.tensor

def Call.gathers (c : Call) : Bool := decide (c.op.kind = 0x22#8) || decide (c.op.kind = 0x23#8)

/-- A call that runs on the Transit lane (R302). -/
def Call.transit (c : Call) : Bool :=
  let f := c.srcFormat
  let n := if c.gathers then fmtBits f / 8 else match savedPly f with
    | some p => 3 + 16 * p
    | none => 3 + 48
  decide (0 < c.op.count) && decide (c.op.count ≤ 8) && decide (c.op.count * n ≤ 420)

/-- How the elements of a call travel (R298, R300, R303). -/
inductive Coding
  /-- compact skeins of p plies with an LSB -/
  | exact (p : Nat) (lsb : Int)
  /-- fields of an anchored encoding of B bits -/
  | anchored (b : Nat)
  /-- raw elements of n bytes -/
  | raw (n : Nat)
deriving DecidableEq, Repr

/-- The window of the sources: 3-ply at 2^-149, or their own (R298). -/
def Call.exactCoding (s : State) (c : Call) : Coding :=
  match savedPly c.srcFormat with
  | none => .exact 3 (-149)
  | some p =>
    let lsb := match c.units with
      | u :: _ => match readMem s s.mem 64 (c.unitAddr u) with
        | .ok h => hdrHintLsb h
        | .error _ => 0
      | [] => match c.unitTensor 0 with
        | some t => t.lsb.toInt
        | none => 0
    .exact p lsb

def Call.coding (s : State) (c : Call) : Coding :=
  if c.gathers then .raw (fmtBits c.srcFormat / 8)
  else if c.transit then c.exactCoding s
  else match c.op.encoding.toNat with
    | 0 => .anchored 32
    | 1 => .anchored 48
    | _ => c.exactCoding s

def Call.chunks (c : Call) : Nat := ceilDiv c.op.count 4096
/-- First element and number of elements of a chunk (R297). -/
def Call.span (c : Call) (k : Nat) : Nat × Nat := (4096 * k, min 4096 (c.op.count - 4096 * k))

/-! ### Compact skeins and fields (R298, R300) -/

/-- Lowest and highest value byte to send of a finite non-zero value of n bytes. -/
def skeinBytesOf (n : Nat) (v : Int) : Nat × Bytes :=
  let bs := leBytes n (ofSigned (8 * n) v)
  let s := (bs.takeWhile (fun b => decide (b = 0#8))).length
  let body := bs.drop s
  let k := ((List.range body.length).find? (fun k =>
    let sign := decide (128 ≤ (body.getD k 0#8).toNat)
    (body.drop (k + 1)).all (fun b => decide (b = if sign then 0xFF#8 else 0#8)))).getD 0
  (s, body.take (k + 1))

/-- A compact skein of an element of p plies (R298). -/
def compactSkein (p : Nat) (t : Term) : Bytes :=
  let b0 := t.cls + 4 * boolNat t.trunc + 8 * boolNat t.ovf + 16 * t.cause
  if t.cls ≠ 0 ∨ t.v = 0 then leBytes 1 b0 ++ [0#8, 0#8]
  else
    let (s, bs) := skeinBytesOf (16 * p) t.v
    leBytes 1 b0 ++ leBytes 1 bs.length ++ leBytes 1 s ++ bs

/-- The element a compact skein holds, and the bytes after it. -/
def ofCompactSkein (p : Nat) (b : Bytes) : Term × Bytes :=
  let b0 := byteAt b 0
  let n := byteAt b 1 % 128
  let s := byteAt b 2
  let body := (b.drop 3).take n
  let v := if n = 0 then 0 else toSigned (8 * n) (leNat body) * 2 ^ (8 * s)
  let v := toSigned (128 * p) (ofSigned (128 * p) v)
  ({ cls := b0 % 4, v := if b0 % 4 = 0 then v else 0, cause := b0 / 16, trunc := bitAt b0 2, ovf := bitAt b0 3 },
    b.drop (3 + n))

/-- A partial field of P bits (R300). -/
def fieldNat (p : Nat) (t : Term) : Nat :=
  match t.cls with
  | 0 => ofSigned p t.v
  | 1 => 2 ^ (p - 1) - 1
  | 2 => 2 ^ (p - 1) + 1
  | _ => 2 ^ (p - 1)

def ofField (p n : Nat) : Term :=
  if n = 2 ^ (p - 1) then { cls := 3, cause := 3 }
  else if n = 2 ^ (p - 1) - 1 then { cls := 1, cause := 8 }
  else if n = 2 ^ (p - 1) + 1 then { cls := 2, cause := 8 }
  else { v := toSigned p n }

/-- Elements as they travel. -/
def encodeTerms (k : Coding) (ts : List Term) : Bytes :=
  match k with
  | .exact p _ => ts.flatMap (compactSkein p)
  | .anchored b => ts.flatMap (fun t => leBytes ((b + 16) / 8) (fieldNat (b + 16) t))
  | .raw n => ts.flatMap (fun t => leBytes n t.v.toNat)

/-- n elements read from what travelled. -/
def decodeTerms (k : Coding) : Nat → Bytes → List Term
  | 0, _ => []
  | n + 1, bs =>
    match k with
    | .exact p _ => (ofCompactSkein p bs).1 :: decodeTerms k n (ofCompactSkein p bs).2
    | .anchored b => ofField (b + 16) (leAt bs 0 ((b + 16) / 8)) :: decodeTerms k n (bs.drop ((b + 16) / 8))
    | .raw m => { v := (leAt bs 0 m : Nat) } :: decodeTerms k n (bs.drop m)

/-- The larger or smaller of two terms under the rules of VMAX and VMIN (R121, R298). -/
def extremeTerm (max : Bool) (a b : Term) : Term :=
  if a.cls = 3 then a else if b.cls = 3 then b
  else
    let key (t : Term) : Int × Int := if t.cls = 1 then (1, 0) else if t.cls = 2 then (-1, 0) else (0, t.v)
    let below := decide ((key a).1 < (key b).1) || (decide ((key a).1 = (key b).1) && decide ((key a).2 < (key b).2))
    if below == max then b else a

/-- Two partial elements combined (R298, R300, R304). -/
def combineTerm (k : Coding) (reduce : Nat) (a b : Term) : Term :=
  match k with
  | .raw _ => { v := (Nat.lor a.v.toNat b.v.toNat : Nat) }
  | .anchored _ => addTerm none a b
  | .exact p _ => match reduce with
    | 0 => addTerm (some (128 * p)) a b
    | 1 => extremeTerm true a b
    | _ => extremeTerm false a b

def combineLists (k : Coding) (reduce : Nat) (a b : List Term) : List Term := List.zipWith (combineTerm k reduce) a b

/-! ### Contributions of this module -/

/-- The LSB of an anchored block as a power of two (R300). -/
def blockExp (b : Nat) (anchor : Nat) : Int := (if anchor = 0 then -126 else (anchor : Int) - 127) + 3 - b

/-- The element of one unit as a term (R298, R300). -/
def unitTerm (s : State) (i : Instance) (c : Call) (k : Coding) (u lin : Nat) : Except MemErr Term :=
  let a := c.unitAddr u
  match readMem s s.mem 64 a with
  | .error e => .error e
  | .ok h =>
    let f := hdrFormat h
    match k with
    | .raw _ =>
      let l := ceilDiv c.op.count c.op.units
      let mine := if c.op.kind = 0x23#8 then u == c.op.rootUnit else lin / l == u
      if !mine then .ok {}
      else match tensorElem s a h (if c.op.kind = 0x23#8 then lin else lin % l) with
        | .ok b => .ok { v := (b : Nat) }
        | .error e => .error e
    | .anchored b =>
      match tensorElem s a h lin with
      | .error e => .error e
      | .ok bits => match decodeElem f bits with
        | .fin m e =>
          let (v, t) := toUnits m e (blockExp b (smGet 0 i.anchors (lin / 64)))
          .ok { v := v, trunc := t }
        | v => .ok (placeTerm 0 v)
    | .exact _ lsb =>
      match savedPly f with
      | none => match tensorElem s a h lin with
        | .error e => .error e
        | .ok bits => .ok (placeTerm lsb (decodeElem f bits))
      | some p => match readMem s s.mem (24 * p) (a + 64 + elemBitOff h lin / 8) with
        | .error e => .error e
        | .ok bs => .ok (loadElement p bs).1

/-- Elements [lo, lo + n) of this module's package stage: its units combined (R295). -/
def packageTerms (s : State) (i : Instance) (c : Call) (k : Coding) (lo n : Nat) : Except MemErr (List Term) :=
  c.units.foldl (fun acc u => match acc with
    | .error e => .error e
    | .ok ts => match mapE (fun j => unitTerm s i c k u (lo + j)) (List.range n) with
      | .error e => .error e
      | .ok us => match ts with
        | [] => .ok us
        | _ => .ok (combineLists k c.op.reduceOp.toNat ts us)) (.ok [])

/-- A module that holds no unit adds nothing: the other inputs pass through. -/
def mergeInputs (k : Coding) (reduce : Nat) (ls : List (List Term)) : List Term :=
  ls.foldl (fun acc l => match acc, l with
    | [], l => l
    | acc, [] => acc
    | acc, l => combineLists k reduce acc l) []

/-! ### Results (R301) -/

/-- The bytes of a result element, its tag and presence, and the events it raised: invalid, overflow, truncated. -/
def resultElem (i : Instance) (c : Call) (k : Coding) (lin : Nat) (t : Term) :
    Bytes × Option Int × Nat × Bool × Bool × Bool :=
  match k, c.output with
  | .raw n, _ =>
    let b := t.v.toNat
    (leBytes n b, elemTag c.srcFormat b, elemPresence c.srcFormat b, false, false, false)
  | _, none => ([], none, 0, false, false, false)
  | k, some o =>
    let f := o.format.toNat
    let (v, lsb, flush) := match k with
      | .anchored b =>
        let e := blockExp b (smGet 0 i.anchors (lin / 64))
        (termVal e t, e, true)
      | .exact _ l => (termVal l t, l, false)
      | .raw _ => (ExactVal.nan, 0, false)
    match savedPly f with
    | some p => (termBytes p t, termTag lsb t, termPresence t, false, t.ovf, t.trunc)
    | none =>
      let stream := match c.plan.seeds.find? (fun r => decide (r.1 = o.tensorId)) with
        | some r => (r.2.1.toNat, r.2.2.toNat)
        | none => (0, 0)
      let u := if o.mode = 4#3 then philoxWord stream.1 o.tensorId.toNat (hStep c.desc.bytes) stream.2 lin else 0
      let r := convert f o.mode.toNat flush u v
      (leBytes (fmtBits f / 8) r.bits, elemTag f r.bits, elemPresence f r.bits, r.invalid, r.ovf || t.ovf, t.trunc)

/-- Numeric flags of a RUN gain some events (R110, R301). -/
def addFlags (d : HostDesc) (i o t : Bool) : HostDesc :=
  { d with flags := d.flags ||| BitVec.ofNat 16 (boolNat i + 2 * boolNat o + 4 * boolNat t) }

/-- Bytes at offsets written below a base, a run at a time; the first error stops them. -/
def writeRuns (s : State) (base : Nat) : List (Nat × Bytes) → State × Option MemErr
  | [] => (s, none)
  | (o, bs) :: rest =>
    match writeMem s s.mem none (base + o) bs with
    | (m, none) => writeRuns { s with mem := m } base rest
    | (m, some e) => ({ s with mem := m }, some e)

/-- Adjacent runs joined. -/
def joinRuns : List (Nat × Bytes) → List (Nat × Bytes)
  | [] => []
  | (o, b) :: rest =>
    match joinRuns rest with
    | (o', b') :: more => if o + b.length = o' then (o, b ++ b') :: more else (o, b) :: (o', b') :: more
    | [] => [(o, b)]

/-! ### Instances -/

def State.instSlot (s : State) (comm seq : BitVec 32) : Option Nat :=
  (s.coll.instances.find? (fun e => decide (e.2.commId = comm) && decide (e.2.seq = seq))).map (·.1)

def State.inst? (s : State) (comm seq : BitVec 32) : Option Instance :=
  (s.coll.instances.find? (fun e => decide (e.2.commId = comm) && decide (e.2.seq = seq))).map (·.2)

/-- An instance changed. -/
def State.modInst (s : State) (comm seq : BitVec 32) (f : Instance → Instance) : State :=
  match s.instSlot comm seq with
  | some k => { s with coll := { s.coll with instances := smMod {} s.coll.instances k f } }
  | none => s

/-- The slot of an instance is freed; what answers a repeat of its frames is kept for the last 64 (R307). -/
def State.freeInst (s : State) (i : Instance) (status : Nat) : State :=
  match s.instSlot i.commId i.seq with
  | some k =>
    let e : PastCall := { comm := i.commId, seq := i.seq, status := status, downs := (smGet {} s.coll.instances k : Instance).downs }
    { s with coll := { s.coll with instances := smDrop s.coll.instances k, past := (e :: s.coll.past).take 64 } }
  | none => s

/-- An ended instance. -/
def State.pastCall (s : State) (comm seq : BitVec 32) : Option PastCall :=
  s.coll.past.find? (fun p => decide (p.comm = comm) && decide (p.seq = seq))

/-- Slots a context may take: its reservation of kind 0x08 (R176, R292). -/
def slotBudget (p : Plan) : Nat := ((p.resources.filter (fun r => r.kind == 8)).map (·.amount)).sum

/-- An instance slot taken for (comm, seq), if one is free (R292). -/
def takeSlot (s : State) (x : Nat) (c : Comm) (seq : BitVec 32) : Option State :=
  let used := (s.coll.instances.filter (fun e => e.2.ctx == x)).length
  let budget := match (s.ctx x).plan with
    | some p => slotBudget p
    | none => 0
  match (List.range 64).find? (fun k => !(s.coll.instances.any (fun e => e.1 == k))) with
  | none => none
  | some k =>
    if budget ≤ used then none
    else some { s with coll := { s.coll with
      instances := smPut s.coll.instances k
        { commId := c.commId, seq := seq, ctx := x, st := 1, memberCount := c.members.length
          rank := (c.members.filter (fun m => decide (m < s.me))).length, time := s.clkc }
      slotless := s.coll.slotless.filter (fun e => decide (e ≠ (c.commId, seq))) } }

def Instance.members (s : State) (i : Instance) : List Nat :=
  match s.commOf i.commId with
  | some (_, c) => c.members
  | none => []

/-- Trees an instance opens: tree 0, and tree 1 as well when its data takes the bulk path (log entry 20). -/
def openTrees (s : State) (i : Instance) : List Nat :=
  match callOf s i with
  | some c => if c.transit || decide (c.op.count = 0) then [0] else [0, 1]
  | none => [0]

/-- The call hash of R290. -/
def callHash (kind encoding reduce src out mode op count units root : Nat) (comm seq : BitVec 32) : Bytes :=
  (sha3 (leBytes 1 kind ++ leBytes 1 encoding ++ leBytes 1 reduce ++ leBytes 1 src ++ leBytes 1 out ++ leBytes 1 mode ++
    leBytes 2 op ++ leBytes 8 count ++ leBytes 4 units ++ leBytes 4 root ++ leBytes 4 comm.toNat ++
    leBytes 4 seq.toNat ++ leBytes 8 0)).take 8

def Call.hash (c : Call) (seq : BitVec 32) : Bytes :=
  let (f, m) := match c.output with
    | some o => (o.format.toNat, o.mode.toNat)
    | none => (0, 0)
  callHash c.op.kind.toNat c.op.encoding.toNat c.op.reduceOp.toNat c.srcFormat f m c.op.opId.toNat c.op.count c.op.units
    c.op.rootUnit c.comm.commId seq

/-! ### Frames of an instance -/

/-- A frame of the instance for a link of a tree. -/
def Instance.frame (s : State) (i : Instance) (typ round tree : Nat) (link : Nat × Nat) (index : Nat) (last : Bool)
    (payload : Bytes) : Frame :=
  mkFrame s typ round link.2 i.commId i.seq link.1 tree i.attempt index last payload

/-- Payload split into frames: the first carries `head` (28 bytes) and 36 bytes of data, the next ones 64 (R308). -/
def openFrames (head data : Bytes) : List Bytes :=
  let first := padTo (roundUp (28 + min 36 data.length) 8) (head ++ data.take 36)
  let n := ceilDiv (data.length - 36) 64
  first :: (List.range n).map (fun k => padTo (roundUp (min 64 (data.length - 36 - 64 * k)) 8) ((data.drop (36 + 64 * k)).take 64))

/-- Payloads sent as UP frames to the parent, kept until their DOWN comes (R307). -/
def sendUps (s : State) (i : Instance) (round tree : Nat) (link : Nat × Nat) (pays : List Bytes) : State :=
  let fs := (List.range pays.length).map (fun k =>
    i.frame s 1 round tree link k (decide (k + 1 = pays.length)) (pays.getD k []))
  let s := s.modInst i.commId i.seq (fun i => { i with pendingUp := i.pendingUp ++ fs.map (fun f => (f, 0)) })
  fs.foldl (fun s f => sendFrame s f 0) s

/-- Payloads sent as DOWN frames to every child, kept until release (R294). -/
def sendDowns (s : State) (i : Instance) (round tree : Nat) (pays : List Bytes) : State :=
  let kids := treeChildren tree (i.members s) s.me
  let fs := kids.flatMap (fun l => (List.range pays.length).map (fun k =>
    i.frame s 2 round tree l k (decide (k + 1 = pays.length)) (pays.getD k [])))
  let s := s.modInst i.commId i.seq (fun i => { i with downs := i.downs ++ fs })
  fs.foldl (fun s f => sendFrame s f 0) s

/-- Frames of one round, tree and sender, in the order of their index. -/
def roundFrames (fs : List Frame) (round tree src : Nat) : List Frame :=
  (List.range 8).filterMap (fun k => fs.find? (fun f => decide (f.round.toNat = round) && decide (f.tree.toNat = tree) &&
    decide (f.src.toNat = src) && decide (f.index.toNat = k)))

/-- The frames of one round from one sender are complete: the last is there and none before it is missing (R308). -/
def roundComplete (fs : List Frame) : Bool :=
  match fs.getLast? with
  | some f => f.last && decide (fs.length = f.index.toNat + 1)
  | none => false

/-- Data carried by complete OPEN frames. -/
def openData (fs : List Frame) : Bytes :=
  match fs with
  | [] => []
  | f :: rest => f.payload.drop 28 ++ rest.flatMap (·.payload)

def openHead (fs : List Frame) : Bytes :=
  match fs with
  | [] => []
  | f :: _ => f.payload.take 28

/-- A fabric address of this module (R144). -/
def fabricAddr (s : State) (a : Nat) : Nat := 2 ^ 62 + s.me * 2 ^ 48 + a

/-- The 28 bytes of an OPEN frame (R306). -/
def openHeadBytes (hash : Bytes) (units members : Nat) (poison : Bool) (reason addr ctx vid : Nat) : Bytes :=
  padTo 8 hash ++ leBytes 4 units ++ leBytes 2 members ++ leBytes 1 (boolNat poison + 2 * reason) ++ [0#8] ++
  leBytes 8 addr ++ leBytes 1 ctx ++ [0#8] ++ leBytes 2 vid

/-! ### Endings -/

/-- The RUN of an instance meets a status; one that waits to be dispatched again is closed with it (R220, R311). -/
def Instance.blame (s : State) (i : Instance) (status : Nat) : State :=
  match i.desc with
  | some (q, seq) =>
    if q < 8 then s.modDesc i.ctx q seq (fun d => if d.undispatched then d.closeWith status
      else { d with outcomes := d.outcomes ++ [BitVec.ofNat 16 status], workDone := true, released := true })
    else s
  | none => s

/-- A PERMUTE call of the context ends without a result (R258, R316). -/
def dropPermute (s : State) (i : Instance) (status : Nat) : State :=
  if (s.ctx i.ctx).permute = some (i.commId, i.seq) then failFlip s i.ctx status else s

/-- The first poisoned OPEN DOWN: COLL_MISMATCH, counted, source 0x388; the instance is POISONED until its DOWN frames have all been
sent (R291, R310). -/
def poisonInst (s : State) (i : Instance) (reason : Nat) : State :=
  if i.st = 6 then s
  else
    let s := dropPermute (i.blame s 0x0401) i 0x0401
    let s := { s with coll := { s.coll with mismatches := satAdd s.coll.mismatches 1 } }
    (raise s 0x388).modInst i.commId i.seq (fun i => { i with st := 6, reason := reason })

/-- The decision ABORT: it goes to the children, the member's RUN ends with the status unless it has ended already, and the
slot is freed (R291, R311, R313). -/
def abortDown (s : State) (i : Instance) (status : Nat) : State :=
  let fs := (treeChildren 0 (i.members s) s.me).map (fun l => i.frame s 3 0 0 l 0 true (leBytes 8 status))
  let s := (fs.foldl (fun s f => sendFrame s f 0) s).modInst i.commId i.seq (fun i => { i with downs := fs })
  (dropPermute (if i.st = 7 then s else i.blame s status) i status).freeInst i status

/-- ABORT goes up from this node; the root decides it (R306, R313). -/
def abortUp (s : State) (i : Instance) (status : Nat) : State :=
  match treeParent 0 (i.members s) s.me with
  | some l => sendFrame s (i.frame s 3 0 0 l 0 true (leBytes 8 status)) 0
  | none => abortDown s i status

/-- This member sends ABORT with a status and completes at once with it, or with one of its own; after its own RELEASE UP it
sends none (R311, R313). -/
def memberAbort (s : State) (i : Instance) (status : Nat) : State :=
  if i.releaseSent || decide (6 ≤ i.st) then s
  else
    let s := (i.blame s status).modInst i.commId i.seq (fun i => { i with st := 7 })
    abortUp s { i with st := 7 } status

/-- A call that has not begun ends at this member with a status, and the others are told; the root's decision will pass on to its
children (R289, R311). -/
def endCall (s : State) (c : Comm) (seq : BitVec 32) (status : Nat) : State :=
  match s.inst? c.commId seq with
  | some i => memberAbort s { i with desc := none } status
  | none =>
    let frame (l : Nat × Nat) := mkFrame s 3 0 l.2 c.commId seq l.1 0 1 0 true (leBytes 8 status)
    let (up, downs) := match treeParent 0 c.members s.me with
      | some l => ([frame l], [])
      | none => ([], (treeChildren 0 c.members s.me).map frame)
    let e : PastCall := { comm := c.commId, seq := seq, status := status, downs := downs }
    (up ++ downs).foldl (fun s f => sendFrame s f 0) { s with coll := { s.coll with past := (e :: s.coll.past).take 64 } }

/-- A communicator's call counter advances (R289). -/
def advanceCall (s : State) (x : Nat) (comm : BitVec 32) : State :=
  let c := s.ctx x
  match c.plan with
  | none => s
  | some p =>
    let comms := mapWhere (fun k => decide (k.commId = comm)) (fun (k : Comm) => { k with next := k.next + 1 }) p.comms
    s.setCtx x { c with plan := some { p with comms := comms } }

/-! ### RELEASE (R294) -/

/-- RELEASE DOWN: the RUN may pass to step 3, and the slot is freed. -/
def applyRelease (s : State) (i : Instance) : State :=
  let s := sendDowns s i 3 0 [[]]
  let s := match i.desc with
    | some (q, seq) => if q < 8 then s.modDesc i.ctx q seq (fun d => { d with released := true }) else s
    | none => s
  let c := s.ctx i.ctx
  let s := if c.permute = some (i.commId, i.seq) then
      s.setCtx i.ctx { c with permute := none, flipTensors := c.flipTensors.drop 1 } else s
  s.freeInst i 0

/-- RELEASE goes up once this member and every child have given it; the root sends it down. -/
def tryRelease (s : State) (comm seq : BitVec 32) : State :=
  match s.inst? comm seq with
  | none => s
  | some i =>
    let kids := treeChildren 0 (i.members s) s.me
    if !i.releaseSent || !(kids.all (fun l => roundComplete (roundFrames i.ups 3 0 l.2))) then s
    else match treeParent 0 (i.members s) s.me with
      | some l => if i.pendingUp.any (fun f => decide (f.1.round = 3#3)) then s else sendUps s i 3 0 l [[]]
      | none => applyRelease s i

/-- This member gives its RELEASE (R294). -/
def giveRelease (s : State) (comm seq : BitVec 32) : State :=
  tryRelease (s.modInst comm seq (fun i => { i with releaseSent := true, st := 5 })) comm seq

/-! ### ANCHOR (R299, R306) -/

/-- Anchor byte of a block over this module's units (R299). -/
def ownAnchor (s : State) (c : Call) (b : Nat) : Nat :=
  c.units.foldl (fun acc u =>
    let a := c.unitAddr u
    match readMem s s.mem 64 a with
    | .error _ => acc
    | .ok h => (List.range (min 64 (c.op.count - 64 * b))).foldl (fun acc j =>
        match tensorElem s a h (64 * b + j) with
        | .error _ => acc
        | .ok bits =>
          let w := convert 0x01 0 false 0 (decodeElem (hdrFormat h) bits)
          match elemTag 0x01 w.bits with
          | some e => max acc (e + 127).toNat
          | none => acc) acc) 0

/-- The child's anchor frame for a first block. -/
def anchorUp (i : Instance) (src first : Nat) : Option Frame :=
  i.ups.find? (fun f => decide (f.round = 1#3) && decide (f.src.toNat = src) && leAt f.payload 0 6 == first)

def anchorPayload (first : Nat) (bytes : List Nat) : Bytes :=
  leBytes 8 first ++ padTo 56 (bytes.map (BitVec.ofNat 8))

/-- Final anchor bytes enter the instance; with the last of them the REDUCE state begins (R291). -/
def storeAnchors (blocks : Nat) (pay : Bytes) (i : Instance) : Instance :=
  let first := leAt pay 0 6
  let m := (List.range (min 56 (blocks - first))).foldl (fun m j => smPut m (first + j) (byteAt pay (8 + j))) i.anchors
  { i with anchors := m, st := if m.length = blocks ∧ i.st = 2 then 3 else i.st }

/-- The anchor frame of one first block moves: up with the bytewise maximum once every child's is there; at the root, down. -/
def tryAnchor (s : State) (comm seq : BitVec 32) (first : Nat) : State :=
  match s.inst? comm seq with
  | none => s
  | some i => match callOf s i with
    | none => s
    | some c =>
      let kids := treeChildren 0 c.comm.members s.me
      let blocks := ceilDiv c.op.count 64
      let got := kids.map (fun l => anchorUp i l.2 first)
      let sent := i.pendingUp.any (fun f => decide (f.1.round = 1#3) && leAt f.1.payload 0 6 == first)
      if decide (i.st ≠ 2) || !(got.all (·.isSome)) || sent || i.anchors.any (fun a => a.1 == first) then s
      else
        let bytes := (List.range (min 56 (blocks - first))).map (fun j =>
          got.foldl (fun a f => match f with
            | some f => max a (byteAt f.payload (8 + j))
            | none => a) (ownAnchor s c (first + j)))
        let pay := anchorPayload first bytes
        let last := decide (blocks ≤ first + 56)
        match treeParent 0 c.comm.members s.me with
        | some l =>
          let f := i.frame s 1 1 0 l (first / 56 % 8) last pay
          sendFrame (s.modInst comm seq (fun i => { i with pendingUp := i.pendingUp ++ [(f, 0)] })) f 0
        | none =>
          let fs := kids.map (fun l => i.frame s 2 1 0 l (first / 56 % 8) last pay)
          let s := s.modInst comm seq (fun i => storeAnchors blocks pay { i with downs := i.downs ++ fs })
          fs.foldl (fun s f => sendFrame s f 0) s

def tryAnchors (s : State) (comm seq : BitVec 32) : State :=
  match (s.inst? comm seq).bind (callOf s) with
  | none => s
  | some c => (List.range (ceilDiv (ceilDiv c.op.count 64) 56)).foldl (fun s k => tryAnchor s comm seq (56 * k)) s

/-! ### OPEN (R306, R308, R310) -/

/-- Tag and presence bits of elements that lie in a destination (R154, R301). -/
def mergeOf (h body : Bytes) : Option Int × Nat :=
  let f := hdrFormat h
  match savedPly f with
  | some p => (List.range (body.length / (24 * p))).foldl (fun acc j =>
      let t := (loadElement p (body.drop (24 * p * j))).1
      (maxTag acc.1 (termTag (hdrHintLsb h) t), Nat.lor acc.2 (termPresence t))) (none, 0)
  | none => (List.range (body.length / (fmtBits f / 8))).foldl (fun acc j =>
      let b := leAt body (j * (fmtBits f / 8)) (fmtBits f / 8)
      (maxTag acc.1 (elemTag f b), Nat.lor acc.2 (elemPresence f b))) (none, 0)

/-- Header address of this member's destination. -/
def Call.dest (c : Call) : Nat := c.desc.writeAt (c.op.inputs.length + c.op.preloads.length)

/-- Elements as they stand in the output, written to this member's destination from `lo` at the positions `at_`, with merges;
a memory error gives the RUN FAULT_DATA (R301, R378). -/
def writeElems (s : State) (i : Instance) (c : Call) (lo : Nat) (es : List Bytes) (at_ : Nat → Option Nat) : State :=
  let a := c.dest
  let fail (s : State) (e : MemErr) := writeNotes (i.blame s stData) (hostActor c.x c.q c.desc.seq) 1
    [memErrNote s { sev := 3, cls := 2 } e]
  match readMem s s.mem 64 a with
  | .error e => fail s e
  | .ok h =>
    let mine := (List.range es.length).filterMap (fun j => (at_ (lo + j)).map (fun p => (p, es.getD j [])))
    let (s, err) := writeRuns s (a + 64) (joinRuns (mine.map (fun r => (elemBitOff h r.1 / 8, r.2))))
    let m := mergeOf h (mine.flatMap (·.2))
    let (mem, err) := match err with
      | some e => (s.mem, some e)
      | none => if mine.isEmpty then (s.mem, none) else mergeHeader s s.mem a m.1 m.2
    let s := { s with mem := mem }
    match err with
    | none => s
    | some e => fail s e

/-- Results as they stand in the output: bytes of each element, and the numeric events they raise (R301). -/
def results (i : Instance) (c : Call) (k : Coding) (lo : Nat) (ts : List Term) : List Bytes × Bool × Bool × Bool :=
  let rs := (List.range ts.length).map (fun j => resultElem i c k (lo + j) (ts.getD j {}))
  (rs.map (·.1), rs.any (·.2.2.2.1), rs.any (·.2.2.2.2.1), rs.any (·.2.2.2.2.2))

/-- Numeric events that a conversion raises at this member's RUN (R301). -/
def raiseNumeric (s : State) (c : Call) (r : List Bytes × Bool × Bool × Bool) : State :=
  s.modDesc c.x c.q c.desc.seq (fun d => addFlags d r.2.1 r.2.2.1 r.2.2.2)

/-- The shard entry, or the rank range, that owns an element: module, header address where the map gives it, first element
(R255, R286). -/
def ownerOf (s : State) (c : Call) (t : BitVec 32) (lin : Nat) : Nat × Option Nat × Nat :=
  let es := c.plan.phases.filter (fun e => e.kind == 3 && e.phase == (s.ctx c.x).phase && decide (e.tensor = t))
  match es.find? (fun e => decide (e.first ≤ lin) && decide (lin < e.first + e.count)) with
  | some e => (e.modId, some e.header, e.first)
  | none =>
    let l := ceilDiv c.op.count c.comm.members.length
    (c.comm.members.getD (lin / l) 0, none, lin / l * l)

/-- Position of an element in this member's destination: every element, or the ones it owns (R284, R286). -/
def ownPosition (s : State) (c : Call) (lin : Nat) : Option Nat :=
  if c.op.kind = 0x21#8 then
    let o := ownerOf s c (c.op.outputs.headD 0#32) lin
    if o.1 = s.me then some (lin - o.2.2) else none
  else some lin

/-- This member's part of an instance is written: DONE, or DONE_EMPTY with a RELEASE of its own (R294, R314). -/
def doneInst (s : State) (i : Instance) (empty : Bool) : State :=
  match i.desc with
  | none => s
  | some (q, seq) =>
    let s := if q < 8 then s.modDesc i.ctx q seq (fun d =>
        { d with workDone := true, outcomes := d.outcomes ++ [BitVec.ofNat 16 (if empty then stEmpty else stDone)] }) else s
    let s := s.modInst i.commId i.seq (fun i => { i with st := 5 })
    if empty then giveRelease s i.commId i.seq else s

/-- Bytes of one element of the result. -/
def Call.elemBytes (c : Call) : Nat :=
  if c.gathers then fmtBits c.srcFormat / 8 else match c.output with
    | some o => fmtBits o.format.toNat / 8
    | none => 0

/-- Reduced elements from `lo` that this module owns reach its update stage, as they travel, with their anchor bytes (R297). -/
def keepSums (s : State) (c : Call) (k : Coding) (lo : Nat) (ts : List Term) (i : Instance) : Instance :=
  { i with sums := (List.range ts.length).foldl (fun m j =>
      if (ownerOf s c (c.op.tensors.getD 2 0#32) (lo + j)).1 = s.me then
        smPut m (lo + j) (encodeTerms k [ts.getD j {}], smGet 0 i.anchors ((lo + j) / 64))
      else m) i.sums }

/-- Every tree's OPEN DOWN has come, or been decided here, and none is poisoned: the next state begins (R291, R308, R314). -/
def openDone (s : State) (i : Instance) (data : Bytes) : State :=
  if i.kind = 0x25#8 then s.modInst i.commId i.seq (fun i => { i with st := 3 })
  else match callOf s i with
    | none => s
    | some c =>
      if c.op.count = 0 then doneInst s i true
      else if c.transit then
        if decide (0x30 ≤ c.op.kind.toNat) then
          let k := c.coding s
          s.modInst i.commId i.seq (fun i => { keepSums s c k 0 (decodeTerms k c.op.count data) i with st := 4 })
        else
          let n := c.elemBytes
          let s := writeElems s i c 0 ((List.range c.op.count).map (fun j => (data.drop (n * j)).take n)) (ownPosition s c)
          doneInst s i false
      else match c.coding s with
        | .anchored _ => tryAnchors (s.modInst i.commId i.seq (fun i => { i with st := 2 })) i.commId i.seq
        | _ => s.modInst i.commId i.seq (fun i => { i with st := 3 })

/-- OPEN of one more tree has ended at this node. A poisoned one ends the call; once every tree's has, a poisoned instance is freed
and any other goes on (R291, R310). -/
def openEnds (s : State) (comm seq : BitVec 32) : State :=
  match s.inst? comm seq with
  | none => s
  | some i =>
    let all := (openTrees s i).map (fun t => roundFrames i.fromAbove 0 t (match treeParent t (i.members s) s.me with
      | some l => l.2
      | none => s.me))
    match ((all.filter roundComplete).map openHead).find? (fun h => bitAt (byteAt h 14) 0) with
    | some h =>
      let s := poisonInst s i (byteAt h 14 / 2 % 8)
      if all.all roundComplete then s.freeInst i 0x0401 else s
    | none => if all.all roundComplete then openDone s i (openData (all.headD [])) else s

/-- What this node says of itself in OPEN: hash, units held, its destination, its staging region and counter. -/
structure OpenSelf where
  hash    : Bytes
  held    : Nat
  units   : Nat
  dest    : Nat
  staging : Nat
  vid     : Nat
deriving DecidableEq, Repr

def openSelf (s : State) (i : Instance) : Option OpenSelf :=
  if i.kind = 0x25#8 then
    match (s.ctx i.ctx).plan with
    | none => none
    | some p => (p.calls.find? (fun k => decide (k.commId = i.commId))).map (fun k =>
        { hash := i.hash, held := 0, units := 0, dest := 0, staging := k.staging, vid := k.vid.toNat })
  else (callOf s i).map (fun c =>
    { hash := i.hash, held := c.call.unitHeld, units := c.op.units
      dest := c.dest
      staging := c.call.staging, vid := c.call.vid.toNat })

/-- The data of a Transit-lane call combined at this node; none when a source cannot be read. A child whose subtree
holds no unit sends no element (R308; log entry 22). -/
def transitData (s : State) (i : Instance) (kids : List (List Frame)) : Except MemErr (Bytes × List Term) :=
  match callOf s i with
  | none => .ok ([], [])
  | some c =>
    if !c.transit then .ok ([], [])
    else
      let k := c.coding s
      match packageTerms s i c k 0 c.op.count with
      | .error e => .error e
      | .ok own =>
        let held := kids.filter (fun fs => decide (0 < leAt (openHead fs) 8 4))
        let ts := mergeInputs k c.op.reduceOp.toNat (own :: held.map (fun fs => decodeTerms k c.op.count (openData fs)))
        .ok (encodeTerms k ts, ts)

/-- Elements that a node combines for a Transit-lane call (R308, R317). -/
def transitCount (s : State) (i : Instance) : Nat :=
  match callOf s i with
  | some c => if c.transit then c.op.count else 0
  | none => 0

/-- The call's RUN stands dispatched at this member; a PERMUTE has none. -/
def Instance.dispatched (s : State) (i : Instance) : Bool :=
  match i.desc with
  | none => false
  | some (q, seq) => decide (8 ≤ q) || (match s.desc? i.ctx q seq with
    | some d => !d.undispatched
    | none => false)

/-- OPEN of one tree moves: once this member has dispatched and every child's OPEN is complete it goes up; the root decides
and sends it down (R306, R308, R313). -/
def tryOpen (s : State) (comm seq : BitVec 32) (tree : Nat) : State :=
  match s.inst? comm seq with
  | none => s
  | some i => match openSelf s i with
    | none => s
    | some me =>
      let members := i.members s
      let kids := treeChildren tree members s.me
      let got := kids.map (fun l => roundFrames i.ups 0 tree l.2)
      let sent := i.pendingUp.any (fun f => decide (f.1.round = 0#3) && decide (f.1.tree.toNat = tree)) ||
        i.fromAbove.any (fun f => decide (f.round = 0#3) && decide (f.tree.toNat = tree))
      if !([1, 6].contains i.st) || !(i.dispatched s) || !(got.all roundComplete) || sent then s
      else match transitData s i got with
        | .error e => memberAbort (writeNotes s .command 0 [memErrNote s { sev := 3, cls := 2 } e]) i stData
        | .ok (data, ts) =>
          let s := { s with coll := { s.coll with combinedElements := satAdd s.coll.combinedElements (transitCount s i) } }
          let heads := got.map openHead
          let badHash := heads.any (fun h => decide (h.take 8 ≠ me.hash))
          let kidReason := (heads.map (fun h => byteAt h 14)).foldl (fun a b => if a = 0 ∧ bitAt b 0 then b / 2 % 8 else a) 0
          let units := heads.foldl (fun a h => a + leAt h 8 4) me.held
          let mems := heads.foldl (fun a h => a + leAt h 12 2) 1
          let reason := if kidReason ≠ 0 then kidReason else if badHash then 1 else 0
          match treeParent tree members s.me with
          | some l =>
            sendUps s i 0 tree l (openFrames (openHeadBytes me.hash units mems (decide (reason ≠ 0)) reason
              (fabricAddr s me.dest) i.ctx me.vid) data)
          | none =>
            let reason := if reason ≠ 0 then reason else if units ≠ me.units then 2
              else if mems ≠ i.memberCount then 3 else 0
            let head := openHeadBytes me.hash units mems (decide (reason ≠ 0)) reason (fabricAddr s me.staging) i.ctx me.vid
            let res : Option (Call × List Bytes × Bool × Bool × Bool) :=
              (callOf s i).bind (fun c => if c.transit && decide (c.op.kind.toNat < 0x30)
                then some (c, results i c (c.coding s) 0 ts) else none)
            let data := match res with
              | some r => r.2.1.flatMap id
              | none => data
            let s := match res with
              | some r => if reason ≠ 0 then s else raiseNumeric s r.1 r.2
              | none => s
            let pays := openFrames head (if reason ≠ 0 then [] else data)
            let s := sendDowns s i 0 tree pays
            let own : List Frame := (List.range pays.length).map (fun k =>
              { i.frame s 2 0 tree (0, s.me) k (decide (k + 1 = pays.length)) (pays.getD k []) with src := BitVec.ofNat 14 s.me })
            openEnds (s.modInst comm seq (fun i => { i with fromAbove := i.fromAbove ++ own })) comm seq

/-- A RUN of a collective has dispatched here: its instance learns its call, and OPEN begins (R289, R292). -/
def openCall (s : State) (comm seq : BitVec 32) (f : Instance → Instance) : State :=
  let s := s.modInst comm seq f
  match s.inst? comm seq with
  | none => s
  | some i => (openTrees s i).foldl (fun s t => tryOpen s comm seq t) s

/-! ### RERUN (R312) -/

/-- The instance starts again at OPEN under an attempt (R312). -/
def Instance.restart (n : Nat) (i : Instance) : Instance :=
  { i with st := 1, attempt := n, ups := [], fromAbove := [], downs := [], pendingUp := [], combined := [], delivered := []
           arrivals := [], inputs := [], results := [], sums := [], credits := [], creditSends := [], anchors := []
           releaseSent := false }

/-- Nothing of the earlier attempt counts for the RUN, unless it is about to be replayed itself. -/
def Instance.renew (s : State) (i : Instance) : State :=
  match i.desc with
  | some (q, seq) => if q < 8 then s.modDesc i.ctx q seq (fun d =>
      if d.undispatched || !(decide (d.phase = .dispatched) || decide (d.phase = .prepared)) then d
      else { d with phase := .dispatched, outcomes := [], workDone := false, released := false, flags := 0
                    checks := d.checks.filter (fun (c : Nat × List Bytes) => decide (c.1 ≠ d.attempts)) }) else s
  | none => s

/-- The decision RERUN: counted, sent to the children, and applied here (R306, R312, R313). -/
def rerunDown (s : State) (i : Instance) (n : Nat) : State :=
  let s := sendAllFrames s (treeChildren 0 (i.members s) s.me) (fun st m =>
    mkFrame s 4 0 m i.commId i.seq st 0 i.attempt 0 true (leBytes 8 n))
  let s := { s with coll := { s.coll with reruns := satAdd s.coll.reruns 1 } }
  let s := (i.renew s).modInst i.commId i.seq (Instance.restart n)
  (openTrees s i).foldl (fun s t => tryOpen s i.commId i.seq t) s

/-! ### Chunks (R297, R303, R304) -/

/-- The root of a tree (R296). -/
def treeRoot (tree : Nat) (members : List Nat) : Nat :=
  (members.find? (fun m => (treeParent tree members m).isNone)).getD 0

/-- The chunk whose input from a child a packet ended: its slot gives the child's position and the chunk modulo 8, and of such chunks
it is the first that has not been combined (R303). -/
def inputChunk (s : State) (i : Instance) (c : Call) (src addr : Nat) : Option Nat :=
  let size := slotSize c.plan c.op
  let slot := (addr - c.call.staging) / size
  if addr < c.call.staging then none
  else (List.range c.chunks).find? (fun k =>
    k % 8 == slot % 8 && ((treeChildren (k % 2) c.comm.members s.me).map (·.2))[slot / 8]? == some src &&
    !(i.combined.contains k) && !(i.inputs.any (fun e => e.1 == src && e.2.1 == k)))

/-- The module that a chunk's result comes from: the root for REDUCE_SCATTER, else the parent in the chunk's tree (R297). -/
def aboveOf (s : State) (c : Call) (chunk : Nat) : Nat :=
  if c.op.kind = 0x21#8 then treeRoot (chunk % 2) c.comm.members
  else match treeParent (chunk % 2) c.comm.members s.me with
    | some l => l.2
    | none => s.me

/-- The chunk whose result a packet ended in this member's destination: the packet holds the chunk's last element here (R303). -/
def resultChunk (s : State) (i : Instance) (c : Call) (src addr len : Nat) : Option Nat :=
  match readMem s s.mem 64 c.dest with
  | .error _ => none
  | .ok h => (List.range c.chunks).find? (fun k =>
      let (lo, n) := c.span k
      aboveOf s c k == src && !(i.delivered.contains k) && !(i.results.contains k) &&
      match ((List.range n).filterMap (fun j => ownPosition s c (lo + j))).getLast? with
      | some p =>
        let at_ := c.dest + 64 + elemBitOff h p / 8
        decide (addr ≤ at_) && decide (at_ < addr + len)
      | none => false)

/-- What a packet with a trailer for a staging counter brought to an instance (R303, R316). -/
def Instance.arrived (s : State) (src : Nat) (h : HeldTrailer) (i : Instance) : Option Instance :=
  if i.kind = 0x25#8 then some { i with arrivals := smMod 0 i.arrivals src (· + 1) }
  else match callOf s i with
    | none => none
    | some c => match inputChunk s i c src h.addr with
      | some k => some { i with inputs := i.inputs ++ [(src, k, h.trunc)] }
      | none => (resultChunk s i c src h.addr h.len).map (fun k => { i with results := i.results ++ [k] })

/-- A trailer of a source came to a staging counter: the oldest instance of the call that is moving data and expects what it brought
takes it. -/
def noteArrival (s : State) (src x : Nat) (h : HeldTrailer) : State :=
  let mine := (s.coll.instances.map (·.2)).filter (fun i => i.ctx == x && (i.st == 2 || i.st == 3 || i.st == 4) &&
    (match openSelf s i with
     | some me => me.vid == h.vid.toNat
     | none => false))
  match (mine.filterMap (Instance.arrived s src h)).foldl (fun b i => match b with
      | none => some i
      | some (o : Instance) => if i.seq.toNat < o.seq.toNat then some i else b) none with
  | none => s
  | some i => s.modInst i.commId i.seq (fun _ => i)

/-- The staging slot of child position k for a chunk (R303). -/
def slotAddr (staging size k chunk : Nat) : Nat := staging + (8 * k + chunk % 8) * size

/-- A chunk as it travels (R298, R300, R303). -/
def chunkBytes (k : Coding) (chunk : Nat) (ts : List Term) : Bytes :=
  match k with
  | .exact _ _ =>
    let b := leBytes 6 chunk ++ leBytes 2 ts.length ++ encodeTerms k ts
    padTo (roundUp b.length 8) b
  | k => encodeTerms k ts

/-- A module whose subtree holds no unit sends an exact chunk of no element, or fields and raw elements of zero (R298, R300, R303;
log entry 22). -/
def fillTerms (k : Coding) (n : Nat) (ts : List Term) : List Term :=
  match k, ts with
  | .exact _ _, ts => ts
  | _, [] => List.replicate n {}
  | _, ts => ts

/-- Bytes that n compact skeins take from an offset behind an address, as each one's length says (R298). -/
def skeinsEnd (s : State) (a : Nat) : Nat → Nat → Except MemErr Nat
  | 0, off => .ok off
  | n + 1, off => match readMem s s.mem 3 (a + off) with
    | .error e => .error e
    | .ok b => skeinsEnd s a n (off + 3 + byteAt b 1 % 128)

/-- A chunk of n elements as it lies in a staging slot; an exact chunk says itself how many elements it holds (R298). -/
def chunkTerms (s : State) (k : Coding) (n a : Nat) : Except MemErr (List Term) :=
  let take (len skip m : Nat) : Except MemErr (List Term) := match readMem s s.mem len a with
    | .error e => .error e
    | .ok bs => .ok (decodeTerms k m (bs.drop skip))
  match k with
  | .anchored b => take (n * ((b + 16) / 8)) 0 n
  | .raw m => take (n * m) 0 n
  | .exact _ _ => match readMem s s.mem 8 a with
    | .error e => .error e
    | .ok h =>
      let m := min n (leAt h 6 2)
      match skeinsEnd s a m 8 with
      | .error e => .error e
      | .ok len => take len 8 m

/-- The chunk's inputs from the children, read from their staging slots. -/
def childChunks (s : State) (c : Call) (k : Coding) (chunk n : Nat) (kids : List (Nat × Nat)) : Except MemErr (List (List Term)) :=
  mapE (fun j => chunkTerms s k n (slotAddr c.call.staging (slotSize c.plan c.op) j chunk)) (List.range kids.length)

/-- Packets of a transfer to another module with a trailer for its staging counter, and the chunk's truncated flag, on the last (R300,
R303). -/
def storeWithSignal (s : State) (a : Actor) (dst addr ctx vid : Nat) (bs : Bytes) (trunc : Bool) : State :=
  let ps := storePackets dst (bs.length / 8 + 4) addr bs
  sendAll s a (mkTrans vid 1 ctx dst) (some (ctx, 1)) ps.length trunc ps

/-- The context and staging counter that a module has named in OPEN; for one that is neither parent nor child, those of this
module's own call record (R306, R316; log entry 23). -/
def Instance.peerCounter (i : Instance) (m ctx vid : Nat) : Nat × Nat :=
  match (i.ups ++ i.fromAbove).find? (fun f => decide (f.round = 0#3) && decide (f.src.toNat = m) && decide (f.index = 0#3)) with
  | some f => (byteAt f.payload 24, leAt f.payload 26 2 % 4096)
  | none => (ctx, vid % 4096)

/-- Runs stored at a module's destination, the trailer on the last packet of the last run. -/
def storeRuns (s : State) (a : Actor) (dst base ctx vid : Nat) (runs : List (Nat × Bytes)) : State :=
  let ps := runs.flatMap (fun r => storePackets dst (r.2.length / 8 + 4) (base + r.1) r.2)
  sendAll s a (mkTrans vid 1 ctx dst) (some (ctx, 1)) ps.length false ps

/-- The result of a chunk as runs of this member's destination layout. -/
def resultRuns (s : State) (i : Instance) (c : Call) (k : Coding) (lo : Nat) (ts : List Term) : List (Nat × Bytes) :=
  match readMem s s.mem 64 (c.dest) with
  | .error _ => []
  | .ok h => joinRuns ((List.range ts.length).map (fun j =>
      (elemBitOff h (lo + j) / 8, (resultElem i c k (lo + j) (ts.getD j {})).1)))

/-- The result of a chunk goes to the other members: down the tree, or to each owner, or to the update stages (R297). -/
def sendResult (s : State) (i : Instance) (c : Call) (k : Coding) (chunk lo : Nat) (ts : List Term) : State :=
  let a := hostActor c.x c.q c.desc.seq
  let tree := chunk % 2
  if decide (0x30 ≤ c.op.kind.toNat) then
    (List.range ts.length).foldl (fun (s : State) j =>
      let o := ownerOf s c (c.op.tensors.getD 2 0#32) (lo + j)
      if o.1 = s.me then s
      else s.send (.update (BitVec.ofNat 14 o.1) i.commId i.seq (lo + j) (encodeTerms k [ts.getD j {}])
        (BitVec.ofNat 8 (smGet 0 i.anchors ((lo + j) / 64)))))
      (s.modInst i.commId i.seq (keepSums s c k lo ts))
  else if c.op.kind = 0x21#8 then
    let owners := ((List.range ts.length).map (fun j => (ownerOf s c (c.op.outputs.headD 0#32) (lo + j)).1)).eraseDups
    (owners.filter (· ≠ s.me)).foldl (fun s m =>
      let mine := (List.range ts.length).filter (fun j => (ownerOf s c (c.op.outputs.headD 0#32) (lo + j)).1 == m)
      let base := match ownerOf s c (c.op.outputs.headD 0#32) (lo + mine.headD 0) with
        | (_, some h, _) => h
        | _ => (Config.memberDestination m i.commId.toNat i.seq.toNat).toNat
      let (cx, vid) := i.peerCounter m c.x c.call.vid.toNat
      let runs := joinRuns (mine.map (fun j =>
        let b := (resultElem i c k (lo + j) (ts.getD j {})).1
        ((lo + j - (ownerOf s c (c.op.outputs.headD 0#32) (lo + j)).2.2) * b.length, b)))
      storeRuns s a m (base + 64) cx vid runs) s
  else
    (treeChildren tree c.comm.members s.me).foldl (fun s l =>
      match roundFrames i.ups 0 tree l.2 with
      | [] => s
      | f :: _ => storeRuns s a l.2 (leAt f.payload 16 6 + 64) (byteAt f.payload 24) (leAt f.payload 26 2 % 4096)
          (resultRuns s i c k lo ts)) s

/-- Every chunk of the call has passed this node (R291). -/
def afterChunk (s : State) (comm seq : BitVec 32) : State :=
  match s.inst? comm seq with
  | none => s
  | some i => match callOf s i with
    | none => s
    | some c =>
      let n := c.chunks
      let s := if i.combined.length = n ∧ i.st = 3 then s.modInst comm seq (fun i => { i with st := 4 }) else s
      if i.delivered.length = n && decide (c.op.kind.toNat < 0x30) && decide (i.st < 5) then doneInst s i false else s

/-- The chunk's staging slots at this node are free again (R303). -/
def sendCredits (s : State) (i : Instance) (tree chunk : Nat) (kids : List (Nat × Nat)) : State :=
  sendAllFrames s kids (fun st m => mkFrame s 5 2 m i.commId i.seq st tree i.attempt (chunk % 8) true (leBytes 8 chunk))

/-- Elements [lo, lo + n) of this member's result as it stands in its destination. -/
def deliveredRuns (s : State) (c : Call) (lo n : Nat) : Except MemErr (Bytes × Bytes × List (Nat × Bytes)) :=
  let a := c.dest
  match readMem s s.mem 64 a with
  | .error e => .error e
  | .ok h =>
    let b := fmtBits (hdrFormat h) / 8
    match mapE (fun j => match readMem s s.mem b (a + 64 + elemBitOff h (lo + j) / 8) with
      | .ok bs => .ok (elemBitOff h (lo + j) / 8, bs)
      | .error e => .error e) (List.range n) with
    | .error e => .error e
    | .ok rs => .ok (h, rs.flatMap (·.2), joinRuns rs)

/-- A chunk whose result has come from above: its merges are made and it goes on to the children (R297, R301). -/
def passDown (s : State) (i : Instance) (c : Call) (chunk : Nat) : State :=
  let tree := chunk % 2
  let (lo, n) := c.span chunk
  let a := c.dest
  let own := (List.range n).filterMap (fun j => ownPosition s c (lo + j))
  match own with
  | [] => s
  | p :: _ => match deliveredRuns s c p own.length with
    | .error e => memberAbort (writeNotes s (hostActor c.x c.q c.desc.seq) 1 [memErrNote s { sev := 3, cls := 2 } e]) i stData
    | .ok (h, body, runs) =>
      let (t, pr) := mergeOf h body
      let (m, _) := mergeHeader s s.mem a t pr
      let s := { s with mem := m }
      if c.op.kind = 0x21#8 then s
      else (treeChildren tree c.comm.members s.me).foldl (fun s l =>
        match roundFrames i.ups 0 tree l.2 with
        | [] => s
        | f :: _ => storeRuns s (hostActor c.x c.q c.desc.seq) l.2 (leAt f.payload 16 6 + 64) (byteAt f.payload 24)
            (leAt f.payload 26 2 % 4096) runs) s

/-- The I/O die whose combiner, and update stage, a chunk meets (R297). -/
def combinerUnit (chunk : Nat) : Nat := unitIndexed 11 (chunk / 2 % 2)

/-- A parity or residue mismatch in the combiner of a chunk: the member's RUN takes FAULT_DATA, and the chunk is not combined
(R312, R378). -/
def combinerFault (s : State) (i : Instance) (c : Call) (chunk : Nat) (n : FaultNote) : State :=
  writeNotes (i.blame s stData).draw (hostActor c.x c.q c.desc.seq) 1 [{ n with unit := combinerUnit chunk }]

/-- What a detection does at a combiner before it reads a chunk's inputs: a mismatch stops the work, none when it goes on. -/
def combinerStop (s : State) (i : Instance) (c : Call) (chunk : Nat) (det : Detect) : Option State :=
  match det with
  | .parity _ => some (combinerFault s i c chunk (parityNote s))
  | .residue p => some (combinerFault s i c chunk (residueNote s p))
  | _ => none

/-- A combiner works on a chunk: with every input present it combines them and sends the chunk up, or, at the root of its tree,
converts and delivers it; a chunk already sent up is passed down once its result has come (R297, R303, R304). -/
def workChunk (s : State) (comm seq : BitVec 32) (chunk : Nat) (det : Detect) : State :=
  match s.inst? comm seq with
  | none => s
  | some i => match callOf s i with
    | none => s
    | some c =>
      let tree := chunk % 2
      let k := c.coding s
      let members := c.comm.members
      let kids := treeChildren tree members s.me
      let (lo, n) := c.span chunk
      let from_ (m : Nat) := i.inputs.find? (fun e => e.1 == m && e.2.1 == chunk)
      if !(i.st == 3 || i.st == 4) || decide (c.chunks ≤ chunk) || c.transit then s
      else if i.combined.contains chunk then
        let owns := (List.range n).any (fun j => (ownPosition s c (lo + j)).isSome)
        if i.delivered.contains chunk || (owns && !(i.results.contains chunk)) then s
        else
          let s := if owns then passDown s i c chunk else s
          afterChunk (s.modInst comm seq (fun i => { i with delivered := i.delivered ++ [chunk]
                                                            results := i.results.filter (· ≠ chunk) })) comm seq
      else if !(kids.all (fun l => (from_ l.2).isSome)) ||
          ((treeParent tree members s.me).isSome && decide (8 ≤ chunk) && !(i.credits.contains (chunk - 8))) then s
      else match combinerStop s i c chunk det with
      | some t => t
      | none =>
        let s := preDetect s det (hostActor c.x c.q c.desc.seq)
        match packageTerms s i c k lo n, childChunks s c k chunk n kids with
        | .error e, _ | _, .error e =>
          memberAbort (writeNotes s (hostActor c.x c.q c.desc.seq) 1 [memErrNote s { sev := 3, cls := 2 } e]) i stData
        | .ok own, .ok got =>
          let ts := fillTerms k n (mergeInputs k c.op.reduceOp.toNat (own :: got))
          let s := { s with coll := { s.coll with combinedElements := satAdd s.coll.combinedElements n } }
          let trunc := (match k with
            | .anchored _ => own.any (·.trunc) || i.inputs.any (fun e => e.2.1 == chunk && e.2.2)
            | _ => false)
          let ts := if trunc then ts.map (fun t => { t with trunc := true }) else ts
          let s := s.modInst comm seq (fun i => { i with combined := i.combined ++ [chunk]
                                                         inputs := i.inputs.filter (fun e => e.2.1 != chunk) })
          let s := sendCredits s i tree chunk kids
          match treeParent tree members s.me with
          | some l =>
            match roundFrames i.fromAbove 0 tree l.2 with
            | [] => s
            | f :: _ =>
              let pos := ((treeChildren tree members l.2).findIdx? (fun x => x.2 == s.me)).getD 0
              let s := storeWithSignal s (hostActor c.x c.q c.desc.seq) l.2
                (slotAddr (leAt f.payload 16 6) (slotSize c.plan c.op) pos chunk) (byteAt f.payload 24)
                (leAt f.payload 26 2 % 4096) (chunkBytes k chunk ts) trunc
              afterChunk s comm seq
          | none =>
            let r := results i c k lo ts
            let s := if decide (0x30 ≤ c.op.kind.toNat) then s
              else raiseNumeric (writeElems s i c lo r.1 (ownPosition s c)) c r
            let s := sendResult s i c k chunk lo ts
            afterChunk (s.modInst comm seq (fun i => { i with delivered := i.delivered ++ [chunk] })) comm seq

end Sys2Proof.Machine
end

