-- ==== Sys2Proof/Machine/Issue.lean ====
section
/-! DEFINITION. What firmware makes of a product RUN: the headers of its outputs, and the descriptors that it puts into the rings of the
placement's cores (R36, R81, R153, R170, R173, R216, R240, R260; log entries 140 to 143). -/

namespace Sys2Proof.Machine

/-! ### Descriptors (R89 to R94, R158) -/

/-- A descriptor with fields at byte offsets; everything else is zero. -/
def descOf (fs : List (Nat × Bytes)) : Bytes := fs.foldl (fun d f => overlay d f.1 f.2) (leBytes 128 0)

/-- A signed field of n bytes. -/
def leInt (n : Nat) (v : Int) : Bytes := leBytes n (ofSigned (8 * n) v)

/-- DCOPY of count1 × count2 runs: strides of the source and of the destination in both dimensions (R158, R159). -/
def dcopyDesc (src dst inner c1 c2 s1 s2 d1 d2 : Nat) : Bytes :=
  descOf [(8, [0x80#8]), (16, leBytes 8 src), (24, leBytes 8 dst), (32, leBytes 4 inner), (36, leBytes 4 c1), (40, leBytes 4 c2),
    (44, leBytes 4 1), (48, leBytes 8 s1), (56, leBytes 8 s2), (72, leBytes 8 d1), (80, leBytes 8 d2)]

/-! ### Operands in memory (R92, R152; log entry 140) -/

/-- A tensor that a RUN binds: the slot's header address and the header that stands there. -/
structure Bound where
  addr : Nat
  h    : Bytes
deriving DecidableEq, Repr

/-- Dimension 0 of an operand carries K. An MX operand says so by its block dimension; of the others the run-time extents tell, and
where both orders fit, the customary one holds (log entry 140). -/
def Bound.kInner (t : Bound) (customary : Bool) (k o : Nat) : Bool :=
  if isMx (hdrFormat t.h) then hdrBlockDim t.h == 0
  else
    let straight := hdrDim t.h 0 == k && hdrDim t.h 1 == o
    let turned := hdrDim t.h 0 == o && hdrDim t.h 1 == k
    if customary then straight || !turned else straight && !turned

/-- Byte offset of a strided dimension's index. -/
def Bound.step (t : Bound) (j i : Nat) : Nat := if j < hdrRank t.h then hdrStride t.h j * i else 0

/-- Address of the element at (i0, i1) of batch element b. -/
def Bound.cell (t : Bound) (i0 i1 b : Nat) : Nat :=
  t.addr + 64 + i0 * fmtBits (hdrFormat t.h) / 8 + t.step 1 i1 + t.step 2 b

/-- Address of the element of K index k and row or column o. -/
def Bound.elemAt (t : Bound) (inner : Bool) (k o b : Nat) : Nat := if inner then t.cell k o b else t.cell o k b

/-- Address of the scale of block j of row or column o (R155). -/
def Bound.scaleAt (t : Bound) (inner : Bool) (j o b : Nat) : Nat :=
  let blocks := ceilDiv (hdrDim t.h (if inner then 0 else 1)) 32
  let lanes := hdrDim t.h (if inner then 1 else 0)
  if inner then dataEnd t.h t.addr + (o + lanes * b) * roundUp blocks 64 + j
  else dataEnd t.h t.addr + (j + blocks * b) * roundUp lanes 64 + o

/-- Bytes between the scales of successive blocks, and of successive rows or columns (R155). -/
def Bound.scaleSteps (t : Bound) (inner : Bool) : Nat × Nat :=
  if inner then (1, roundUp (ceilDiv (hdrDim t.h 0) 32) 64) else (roundUp (hdrDim t.h 0) 64, 1)

/-! ### The anchor of an output (R36) -/

/-- A := tagA + tagB + 2 + 40 − 255, or 0 where a tensor has no tag (R36). -/
def anchorOf (a b : Option Int) : Int :=
  match a, b with
  | some x, some y => x + y + 2 + 40 - 255
  | _, _ => 0

/-! ### A product RUN -/

/-- Everything the descriptors of a product RUN are made from. -/
structure Product where
  x     : Nat
  plan  : Plan
  op    : OpRec
  desc  : HostDesc
  a     : Bound
  b     : Bound
  pre   : Option (TensorRec × Bound)
  /-- the output, and the saved-skein target of partial sums -/
  out   : Option (TensorRec × Bound)
  into  : Option (TensorRec × Bound)
  cls   : Nat
  ply   : Nat
  lsb   : Int
deriving DecidableEq, Repr

def Product.m (r : Product) : Nat := hM r.desc.bytes
def Product.n (r : Product) : Nat := hN r.desc.bytes
def Product.k (r : Product) : Nat := hK r.desc.bytes
def Product.format (r : Product) : Nat := hdrFormat r.a.h
def Product.aInner (r : Product) : Bool := r.a.kInner true r.k r.m
def Product.bInner (r : Product) : Bool := r.b.kInner false r.k r.n
/-- Bytes of n elements of the operands' format. -/
def Product.size (r : Product) (n : Nat) : Nat := elemBytes r.format n

/-- The K range of a placement: first and end; a count of 0 takes all from the first (R170). -/
def Placement.kRange (pl : Placement) (k : Nat) : Nat × Nat :=
  (pl.kFirst, if pl.kCount = 0 then k else min k (pl.kFirst + pl.kCount))

/-- The K range of a placement is only part of the operation: its tiles end by TATM (R170). -/
def Placement.isPart (pl : Placement) (k : Nat) : Bool := decide (pl.kRange k ≠ (0, k))

/-- Where a tile's operands lie in local SRAM, one after the other from buf_base: offsets, and bytes between rows (R92, R170; log
entry 142). -/
structure TileBuf where
  a    : Nat
  aRow : Nat
  b    : Nat
  bRow : Nat
  aSc  : Nat
  bSc  : Nat
  blocks : Nat
deriving DecidableEq, Repr

def Product.buf (r : Product) (base h kc : Nat) : TileBuf :=
  let aRow := roundUp (r.size (if r.aInner then kc else h)) 64
  let bRow := roundUp (r.size (if r.bInner then kc else 512)) 64
  let b := base + (if r.aInner then h else kc) * aRow
  let aSc := b + (if r.bInner then 512 else kc) * bRow
  let blocks := ceilDiv kc 32
  { a := base, aRow := aRow, b := b, bRow := bRow, aSc := aSc, bSc := aSc + h * blocks, blocks := blocks }

/-- One operand of a chunk moved from memory: elements at lo to lo + lanes of its rows or columns and kn products from k (R159). -/
def loadOperand (g : Nat) (t : Bound) (inner : Bool) (size : Nat → Nat) (k kn lo lanes b dst row : Nat) : Bytes :=
  let (run, count) := if inner then (kn, lanes) else (lanes, kn)
  dcopyDesc (t.elemAt inner k lo b) (localBase g + dst) (size run) count 1 (t.step 1 1) 0 row 0

/-- The scales of a chunk: block j of lane o goes to dst + j × bStep + o × oStep (R92, R155). -/
def loadScales (g : Nat) (t : Bound) (inner : Bool) (k kn lo lanes b dst bStep oStep : Nat) : Bytes :=
  let (sb, so) := t.scaleSteps inner
  dcopyDesc (t.scaleAt inner (k / 32) lo b) (localBase g + dst) 1 lanes (ceilDiv kn 32) so sb oStep bStep

/-- Header fields of an engine descriptor of a tile (R89, R173). -/
def Product.head (r : Product) (op slot row : Nat) (t : Tile) (watch : Bool) : List (Nat × Bytes) :=
  [(8, leBytes 1 op), (9, leBytes 1 (4 * boolNat (decide (0 < r.desc.attempts)) + 16 * boolNat watch)), (15, leBytes 1 slot),
   (16, leBytes 1 row), (18, leBytes 2 t.height), (20, leBytes 2 512), (22, leBytes 1 (r.cls + 4 * r.ply)), (24, leInt 2 r.lsb),
   (28, leBytes 4 1), (32, leBytes 4 t.mOrigin), (36, leBytes 4 t.nOrigin), (40, leBytes 4 r.m), (44, leBytes 4 r.n)]

/-- The instruction a tile begins with: TPRE or TRST of the preloaded tensor, else TZRO. Of several placements that split K, the one
that holds K index 0 preloads (R67 to R69, R93, R173; log entry 142). -/
def Product.begin (r : Product) (pl : Placement) (row : Nat) (t : Tile) : Bytes :=
  let zero := descOf [(8, [1#8]), (16, leBytes 1 row), (18, leBytes 2 t.height), (20, leBytes 2 512),
    (22, leBytes 1 (r.cls + 4 * r.ply)), (24, leInt 2 r.lsb), (28, leBytes 4 1)]
  match r.pre with
  | none => zero
  | some (c, p) =>
    if pl.kFirst ≠ 0 then zero
    else
      let bias := decide (c.rank = 1)
      let src := if bias then p.cell t.nOrigin 0 0 else p.cell t.nOrigin t.mOrigin t.batch
      let common := [(68, leBytes 6 src), (76, leBytes 4 (if bias then 0 else p.step 1 1)), (84, leBytes 6 p.addr)]
      match savedPly c.format.toNat with
      | none => descOf (r.head 2 pl.slot row t false ++ [(64, leBytes 1 c.format.toNat), (65, leBytes 1 (boolNat (!bias)))] ++ common)
      | some _ =>
        let internal := r.plan.ops.any (fun o => o.outputs.contains c.tensorId || decide (o.partialTo = c.tensorId))
        descOf (r.head 3 pl.slot row t false ++ [(64, leBytes 1 c.format.toNat), (65, leBytes 1 (2 * boolNat internal))] ++ common)

/-- The operands of one K chunk and its TMUL (R91, R92, R173). -/
def Product.chunk (r : Product) (pl : Placement) (row : Nat) (t : Tile) (k kEnd : Nat) : List (UnitKind × Bytes) :=
  let f := r.buf pl.bufBase t.height t.kc
  let kn := min t.kc (kEnd - k)
  let mn := min t.height (r.m - t.mOrigin)
  let nn := min 512 (r.n - t.nOrigin)
  let scales := if isMx r.format then
      [(UnitKind.dma, loadScales t.core r.a r.aInner k kn t.mOrigin mn t.batch f.aSc 1 f.blocks),
       (UnitKind.dma, loadScales t.core r.b r.bInner k kn t.nOrigin nn t.batch f.bSc 512 1)]
    else []
  let hint := match (if pl.isPart r.k then r.into else r.out) with
    | some (_, o) => o.addr
    | none => 0
  let mx := isMx r.format
  let only (n : Nat) : Nat := if mx then n else 0
  [(UnitKind.dma, loadOperand t.core r.a r.aInner r.size k kn t.mOrigin mn t.batch f.a f.aRow),
   (UnitKind.dma, loadOperand t.core r.b r.bInner r.size k kn t.nOrigin nn t.batch f.b f.bRow)] ++ scales ++
  [(UnitKind.engine, descOf (r.head 4 pl.slot row t false ++
    [(64, leBytes 1 r.format), (65, leBytes 1 (boolNat r.op.sign + 2 * boolNat (!r.aInner) + 4 * boolNat r.bInner)),
     (68, leBytes 4 k), (72, leBytes 4 kn), (76, leBytes 4 r.k), (80, leBytes 3 f.a), (83, leBytes 3 f.b),
     (86, leBytes 3 f.aRow), (89, leBytes 3 f.bRow), (100, leBytes 3 (only f.aSc)), (103, leBytes 3 (only f.bSc)),
     (106, leBytes 2 (only f.blocks)), (108, leBytes 2 (only 512)), (120, leBytes 6 hint)]))]

/-- A tile of a whole K range is sampled by the numerics watch (R260). -/
def Product.sampled (r : Product) (w : Training) (c : TensorRec) (t : Tile) : Bool :=
  let n := w.log2Rate.toNat
  let d0 := c.dims.getD 0 1
  let lin := t.batch * (d0 * c.dims.getD 1 1) + t.mOrigin * d0 + t.nOrigin
  decide (4 ≤ n) && decide (n ≤ 20) && decide (r.cls ≠ 2) &&
  decide (philoxWord w.seed.toNat c.tensorId.toNat (hStep r.desc.bytes) 0xFFFF lin < 2 ^ (32 - n))

/-- The instruction a tile ends with: TATM into the target for part of K, else TDRN, or TSAV into a saved skein, with clear_rows = 1. The
step is the RUN's, the stream the one the plan's record gives the tensor, and the linear indices follow from its logical shape (R94,
R95, R173, R216, R240). -/
def Product.finish (r : Product) (w : Training) (pl : Placement) (row : Nat) (t : Tile) : List (UnitKind × Bytes) :=
  let out (c : TensorRec) (o : Bound) (op mode : Nat) : List (Nat × Bytes) :=
    r.head op pl.slot row t (decide (op = 5) && r.sampled w c t) ++
    [(64, leBytes 1 c.format.toNat), (65, leBytes 1 (mode + 8)), (68, leBytes 8 (o.cell t.nOrigin t.mOrigin t.batch)),
     (76, leBytes 4 (o.step 1 1)), (84, leBytes 8 o.addr)]
  if pl.isPart r.k then
    match r.into with
    | some (c, o) => [(.engine, descOf (out c o 7 0))]
    | none => []
  else match r.out with
    | none => []
    | some (c, o) =>
      if (savedPly c.format.toNat).isSome then [(.engine, descOf (out c o 6 0))]
      else
        let d0 := c.dims.getD 0 1
        let each := d0 * c.dims.getD 1 1
        let stream := match r.plan.seeds.find? (fun e => decide (e.1 = c.tensorId)) with
          | some e => e.2.2.toNat
          | none => 0
        [(.engine, descOf (out c o 5 c.mode.toNat ++
          [(66, leBytes 1 c.scale.toNat), (92, leBytes 4 c.tensorId.toNat), (96, leBytes 4 (hStep r.desc.bytes)),
           (100, leBytes 2 stream), (104, leBytes 6 (t.batch * each)), (112, leBytes 6 each), (120, leBytes 6 d0)]))]

/-- The descriptors of one tile; successive tiles of an engine alternate between two row bases where both fit (R173). -/
def Product.tile (r : Product) (w : Training) (pl : Placement) (turn : Nat) (t : Tile) : List (UnitKind × Bytes) :=
  let row := if 2 * t.height * r.ply ≤ 256 ∧ turn % 2 = 1 then t.height * r.ply else 0
  let (k0, k1) := pl.kRange r.k
  let chunks := (List.range (ceilDiv (k1 - k0) t.kc)).map (fun j => k0 + j * t.kc)
  (.engine, r.begin pl row t) :: chunks.flatMap (fun k => r.chunk pl row t k k1) ++ r.finish w pl row t

/-! ### At dispatch -/

/-- Place of a tensor in an operation's tensors, if it is bound. -/
def OpRec.place (o : OpRec) (t : BitVec 32) : Option Nat := o.tensors.findIdx? (fun i => decide (i = t))

/-- The bound tensor at a place, as it is read or as it is written. -/
def boundAt (s : State) (a : Nat) : Except MemErr Bound :=
  match readMem s s.mem 64 a with
  | .ok h => .ok { addr := a, h := h }
  | .error e => .error e

/-- The tag of a tensor that a record names for its anchor: the bound one's, none where the RUN does not bind it (R36). -/
def tagOf (s : State) (o : OpRec) (d : HostDesc) (t : BitVec 32) : Option Int :=
  match o.place t with
  | none => none
  | some i => match readMem s s.mem 64 (d.readAt i) with
    | .ok h => hdrTag h
    | .error _ => none

/-- Window LSB of a product: of the table for its formats, of the record, or the anchor (R32, R36). -/
def productLsb (s : State) (p : Plan) (o : OpRec) (d : HostDesc) (c : TensorRec) : Int :=
  match p.opWindow o with
  | some (_, some l, _, _) => l
  | _ => if c.windowRule = 1 then c.lsb.toInt else anchorOf (tagOf s o d c.anchorA) (tagOf s o d c.anchorB)

/-- The data of a tensor filled with zero slots, before the first TATM of a combine (R81). -/
def zeroTarget (s : State) (a : Nat) : Except MemErr State :=
  match readMem s s.mem 64 a with
  | .error e => .error e
  | .ok h => (tensorRows h a).foldl (fun acc r => match acc with
      | .error e => .error e
      | .ok s => match writeMem s s.mem none r (leBytes (elemBytes (hdrFormat h) (rowElems h)) 0) with
        | (m, none) => .ok { s with mem := m }
        | (_, some e) => .error e) (.ok s)

/-- What a tensor's header says of its window: for the output of anchored TMULs, and for a saved skein (R153). -/
def hintOf (c : TensorRec) (cls ply : Nat) (lsb : Int) : Option (Nat × Nat × Int) :=
  if cls = 1 ∨ (savedPly c.format.toNat).isSome then some (cls, ply, lsb) else none

/-- A tensor's record and header, its header made ready for a new production. -/
def freshBound (s : State) (p : Plan) (t : BitVec 32) (hint : TensorRec → Option (Nat × Nat × Int)) (a : Nat) :
    Except MemErr (State × Option (TensorRec × Bound)) :=
  match p.tensor t with
  | none => .ok (s, none)
  | some c => match initHeader s c (hint c) a with
    | .error e => .error e
    | .ok s => (boundAt s a).map (fun b => (s, some (c, b)))

/-- The partial-sum target of an operation that some placement splits: the place where the RUN binds it. -/
def partPlace (p : Plan) (o : OpRec) (k : Nat) : Option Nat :=
  if p.placements.any (fun pl => decide (pl.opId = o.opId) && pl.isPart k) then o.place o.partialTo else none

/-- A placement splits K and the RUN binds no target for its sums (R170). -/
def partMissing (p : Plan) (o : OpRec) (k : Nat) : Bool :=
  p.placements.any (fun pl => decide (pl.opId = o.opId) && pl.isPart k) && (o.place o.partialTo).isNone

/-- A product RUN made ready: its operands' headers are read, its output's and its target's made new, the target's data zeroed (R36, R81,
R96, R153, R232). -/
def prepareProduct (s : State) (x : Nat) (p : Plan) (o : OpRec) (d : HostDesc) : Except MemErr (State × Option Product) :=
  match ((o.outputs ++ [o.partialTo]).head?).bind p.tensor with
  | none => .ok (s, none)
  | some w =>
    let lsb := productLsb s p o d w
    let hint (c : TensorRec) := hintOf c w.cls.toNat w.ply lsb
    let nIn := o.inputs.length
    let whole := p.placements.any (fun pl => decide (pl.opId = o.opId) && !(pl.isPart (hK d.bytes)))
    match boundAt s (d.readAt 0), boundAt s (d.readAt 1),
        (match o.preloads.head?.bind p.tensor with
         | none => .ok none
         | some c => (boundAt s (d.readAt nIn)).map (fun b => some (c, b)) : Except MemErr (Option (TensorRec × Bound))) with
    | .error e, _, _ => .error e
    | _, .error e, _ => .error e
    | _, _, .error e => .error e
    | .ok a, .ok b, .ok pre =>
      match (match whole, o.outputs.head? with
        | true, some t => freshBound s p t hint (d.writeAt (nIn + o.preloads.length))
        | _, _ => .ok (s, none) : Except MemErr (State × Option (TensorRec × Bound))) with
      | .error e => .error e
      | .ok (s, out) =>
        match (match partPlace p o (hK d.bytes) with
          | none => .ok (s, none)
          | some i => match freshBound s p o.partialTo hint (d.writeAt i) with
            | .error e => .error e
            | .ok (s, t) => (zeroTarget s (d.writeAt i)).map (fun s => (s, t)) : Except MemErr (State × Option (TensorRec × Bound))) with
        | .error e => .error e
        | .ok (s, into) => .ok (s, some { x := x, plan := p, op := o, desc := d, a := a, b := b, pre := pre, out := out, into := into
                                          cls := w.cls.toNat, ply := w.ply, lsb := lsb })

/-- Rings that firmware has not yet placed take their places at the foot of local SRAM, below every operand buffer (R87, R118, R157,
R170; log entry 142). -/
def placeRings (c : Core) : Core :=
  if ringsIdle c && decide (c.engine.base = 0#24) && decide (c.vector.base = 0#24) && decide (c.dma.base = 0#24) then
    { c with engine := { c.engine with cbase := 0x6000 }
             vector := { c.vector with base := 0x2000, cbase := 0x6800 }
             dma := { c.dma with base := 0x4000, cbase := 0x7000 } }
  else c

/-- The tiles of a RUN become the work of their cores, in order, and each core's first descriptor is issued (R173, R217). -/
def issueTiles (s : State) (r : Product) (tiles : List (Placement × Nat × Tile)) : State :=
  let cores := ((tiles.map (·.2.2.core)).eraseDups).filter s.present
  cores.foldl (fun s g =>
    let mine := tiles.filter (fun t => t.2.2.core == g)
    let work := mine.flatMap (fun t => r.tile s.training t.1 t.2.1 t.2.2)
    issueNext (s.setCore g { placeRings (s.core g) with work := work }) g) s

end Sys2Proof.Machine
end

