-- ==== Sys2Proof/Machine/Sync.lean ====
section
/-! DEFINITION. The events of sync counters and barriers, and the commands of CounterCommand (08_synchronisation.md). -/

namespace Sys2Proof.Machine

/-- The physical counter a message on its way names. -/
def SignalMsg.target (s : State) (m : SignalMsg) : Nat × Nat :=
  let e := s.transEntry m.ctx m.vid.toNat
  (trKind e, trTarget e)

/-- The first message on its way that satisfies p leaves the list. -/
def takeSignal (p : SignalMsg → Bool) : List SignalMsg → Option SignalMsg × List SignalMsg
  | [] => (none, [])
  | m :: ms =>
    if p m then (some m, ms)
    else
      let r := takeSignal p ms
      (r.1, m :: r.2)

/-- COUNTER_SIGNAL: a signal of an amount reaches a counter. A message of that source on its way to it has arrived, and
releases its reservation (R186 to R189). -/
def execCounterSignal (p : Fin 65536) (amount : BitVec 32) (src : Actor) (s : State) :
    Host.Outcome State Fault Refusal :=
  .next (
    let s := endSnapshot s
    let r := takeSignal (fun m => !m.cancel && decide (m.src = src) && decide (m.target s = (0, p.val)) &&
      decide (m.amount.toNat = amount.toNat)) s.signals
    signalCounter { s with signals := r.2 } p amount.toNat src
      (match r.1 with
       | some m => m.reserved
       | none => false))

/-- An instruction or host descriptor that is held by its wait on counter p and has not reached it (R186). -/
def State.mayWait (s : State) (p : Nat) (a : Actor) : Bool :=
  match a with
  | .core u g seq =>
    match findEntry (s.unitOf u g).window seq with
    | none => false
    | some e =>
      let t := s.transEntry (s.ownerOf g) (dWaitVid e.desc)
      decide (e.phase = .waiting) && dWaitEn e.desc && !e.granted && !e.queued && trKind t == 0 && trTarget t == p
  | .host x q seq =>
    match (smGet {} (s.ctx x).queues q : Queue).descs.find? (fun d => decide (d.seq = seq)) with
    | none => false
    | some d =>
      let t := s.transEntry x (dWaitVid d.bytes)
      decide (d.phase = .waiting) && dWaitEn d.bytes && !d.granted && !d.queued && trKind t == 0 && trTarget t == p
  | _ => false

/-- COUNTER_WAIT: a wait arrives at its counter and its instruction or descriptor becomes a waiter; at a marked or frozen
counter it is released at once (R187, R188, R193, R194). -/
def execCounterWait (p : Fin 65536) (waiter : Actor) (s : State) : Host.Outcome State Fault Refusal :=
  .next (
    let s := endSnapshot s
    if !(s.mayWait p waiter) then s
    else
      let s := match waiter with
        | .core u g seq => s.modEntry u g seq (fun e => { e with queued := true })
        | .host x q seq => s.modDesc x q seq (fun d => { d with queued := true })
        | _ => s
      let c := s.ctr p
      let s := if c.frozen then s.blame waiter (if c.cause = 1 then 0x0301 else 0x0302) else s
      arriveWaiter s p waiter)

/-- COUNTER_GRANT: while it is eligible, the first waiter takes its credit and is released (R186, R188, R193). -/
def execCounterGrant (p : Fin 65536) (s : State) : Host.Outcome State Fault Refusal := .next (grantFirst (endSnapshot s) p)

/-- CANCEL_MARK: a cancel mark reaches a counter (R194). -/
def execCancelMark (p : Fin 65536) (s : State) : Host.Outcome State Fault Refusal :=
  .next (
    let s := endSnapshot s
    let r := takeSignal (fun m => m.cancel && decide (m.target s = (0, p.val))) s.signals
    markCounter { s with signals := r.2 } p)

/-- BARRIER_ENTER: a member's signal of amount 1 enters the barrier (R199, R201). -/
def execBarrierEnter (x : CtxId) (slot : Fin 256) (member : Nat) (src : Actor) (s : State) :
    Host.Outcome State Fault Refusal :=
  .next (
    let s := endSnapshot s
    let r := takeSignal (fun m => !m.cancel && decide (m.ctx = x) && decide (m.src = src) &&
      decide (m.target s = (2, slot.val))) s.signals
    let vid := match r.1 with
      | some m => m.vid.toNat
      | none => ((List.range 4096).find? (fun v => decide (trKind (s.transEntry x v) = 2) &&
          decide (trTarget (s.transEntry x v) = slot.val) && trValid (s.transEntry x v))).getD 0
    enterBarrier { s with signals := r.2 } x slot vid member src)

/-! ### CounterCommand (R206) -/

/-- SDO abort codes of R343. -/
def abAccess : Nat := 0x06010000
def abAbsent : Nat := 0x06020000
def abNoMap : Nat := 0x06040041
def abMapLong : Nat := 0x06040042
def abLength : Nat := 0x06070010
def abSub : Nat := 0x06090011
def abRange : Nat := 0x06090030
def abGeneral : Nat := 0x08000000
def abState : Nat := 0x08000022
def abTimeout : Nat := 0x05040000
def abNoSession : Nat := 0x05040005

/-- A local dispatched instruction of the context names the counter in its signal (R190, R206). -/
def State.producerNames (s : State) (x p : Nat) : Bool :=
  s.cores.any (fun c =>
    decide (s.ownerOf c.1 = x) && c.2.owner.isSome &&
    [c.2.engine, c.2.vector, c.2.dma].any (fun r => r.window.any (fun e =>
      dSigEn e.desc && decide (e.phase ≠ .fetched) && decide (e.phase ≠ .retired) &&
      (let t := s.transEntry x (dSigVid e.desc)
       trValid t && trKind t == 0 && trTarget t == p))))

/-- A tail-signal for the counter of a context is held by a fabric agent (R190). -/
def State.trailerHeld (s : State) (x vid : Nat) : Bool :=
  s.fabric.trackers.any (fun t => t.2.trailers.any (fun h => decide (h.ctx.toNat = x) && decide (h.vid.toNat = vid)))

/-- The counter is idle (R190). -/
def State.counterIdle (s : State) (x vid p : Nat) : Bool :=
  (s.ctr p).waiters.isEmpty && decide ((s.ctr p).reserved = 0) && !(s.producerNames x p) && !(s.trailerHeld x vid)

/-- A counter with its mode switched, where R190 permits it. -/
def Counter.setMode (c : Counter) (mono : Bool) : Option Counter :=
  if c.monotonic = mono then some c
  else if mono then some { c with monotonic := true, consumed := 0 }
  else if 0 ≤ c.diff ∧ c.diff ≤ c.buffers.toNat then
    some { c with monotonic := false, produced := BitVec.ofInt 64 c.diff, consumed := 0 }
  else none

/-- The counts, mark and freeze of a counter cleared (R206). -/
def Counter.clear (c : Counter) : Counter :=
  { c with produced := 0, consumed := 0, frozen := false, cancelled := false, cause := 0 }

/-- A write to CounterCommand acts on the counter or barrier a port class has selected; `.error` is the abort code (R206). -/
def counterCommand (s : State) (x vid : Nat) (b : Bytes) : Except Nat State :=
  let op := byteAt b 0
  let v := leAt b 8 8
  let e := s.transEntry x vid
  let p := trTarget e
  let c := s.ctr p
  if op = 0 ∨ op > 7 then .error abRange
  else if !(zeroRange b 1 8) || ((op == 6 || op == 7) && v != 0) || !(trValid e) || trKind e == 1 then .error abRange
  else if (op ≤ 2 && decide (v ≥ 2 ^ 32)) || (op == 5 && decide (v > 1)) then .error abRange
  else if trKind e = 2 then
    if op = 6 then
      if (s.barrierWaiters x p).isEmpty then .ok (s.setBarrier x p (s.barrier x p).clear) else .error abState
    else if op = 7 then .ok (poisonBarrier s x p false)
    else .error abRange
  else if c.frozen && op != 6 then .error abState
  else match op with
    | 1 => .ok (signalCounter s p v .command false)
    | 2 =>
      if c.monotonic then .error abState
      else if v > c.produced.toNat then .ok (freezeCounter s p 1 .command)
      else .ok (s.setCtr p { c with produced := c.produced - BitVec.ofNat 64 v })
    | 3 =>
      if !c.monotonic || s.producerNames x p then .error abState
      else .ok (s.setCtr p { c with produced := BitVec.ofNat 64 v })
    | 4 =>
      if !c.monotonic || !c.waiters.isEmpty then .error abState
      else .ok (s.setCtr p { c with consumed := BitVec.ofNat 64 v })
    | 5 =>
      if !(s.counterIdle x vid p) then .error abState
      else match c.setMode (v == 1) with
        | some c => .ok (s.setCtr p c)
        | none => .error abState
    | 6 => if c.waiters.isEmpty then .ok (s.setCtr p c.clear) else .error abState
    | _ => .ok (markCounter s p)

/-- The 32-byte record of a counter (R185). -/
def counterRecord (c : Counter) : Bytes :=
  leBytes 8 c.produced.toNat ++ leBytes 8 c.consumed.toNat ++ leBytes 4 c.buffers.toNat ++ leBytes 4 c.reserved.toNat ++
  leBytes 1 (boolNat c.monotonic + 2 * boolNat c.frozen + 4 * boolNat c.cancelled + 8 * boolNat c.allocated +
    16 * c.cause.toNat) ++ leBytes 1 c.owner.toNat ++ leBytes 2 c.waiters.length ++ leBytes 4 0

/-- A bitmap of n bytes with the given bits set. -/
def bitmapBytes (n : Nat) (bits : Nat → Bool) : Bytes :=
  (List.range n).map (fun i => BitVec.ofNat 8 ((List.range 8).foldl (fun a j => a + boolNat (bits (8 * i + j)) * 2 ^ j) 0))

/-- The 168-byte record of a barrier (R207). -/
def barrierRecord (b : Barrier) : Bytes :=
  leBytes 4 b.gen.toNat ++ leBytes 2 b.members.length ++ leBytes 1 (boolNat b.poisoned) ++ leBytes 1 0 ++
  bitmapBytes 80 b.e0.contains ++ bitmapBytes 80 b.e1.contains

end Sys2Proof.Machine
end

