-- ==== Sys2Proof/Machine/ContextOps.lean ====
section
/-! DEFINITION. Contexts, queues, the journal, host descriptors, commit, replay, cascades, snapshots and part losses
(09_contexts_and_queues.md): the shared operations. -/

namespace Sys2Proof.Machine

/-! ### Queues -/

/-- Committed under R229: the state 2 block is written and its echo acknowledged. -/
def HostDesc.isCommitted (d : HostDesc) : Bool := decide (d.phase = .committed) && d.echoed

/-- The state 2 block is written: the outcome stands. -/
def HostDesc.decided (d : HostDesc) : Bool := decide (d.phase = .committed)

/-- An accepted descriptor or an acceptance in progress. -/
def Queue.outstanding (k : Queue) : Bool := !k.descs.isEmpty || k.accepting.isSome

/-! ### Journal (R222 to R225) -/

def journalOffset (x q : Nat) (seq : BitVec 64) : Nat := (x * 8 + q) * 131072 + seq.toNat % 512 * 256

/-- Bytes written into every journal copy in service; whole 64-byte blocks (R222, R379). -/
def journalWrite (s : State) (x q : Nat) (seq : BitVec 64) (off : Nat) (bs : Bytes) : State :=
  s.mem.journal.foldl (fun s c =>
    let a := channelBase c + journalOffset x q seq + off
    let m := s.mem.putBytes a bs
    { s with mem := { m with poison := m.poison.filter (fun b => decide (b < a / 64) || decide ((a + bs.length) / 64 ≤ b)) } }) s

/-- A block with its check: first 4 bytes of the SHA3-512 of bytes 0 to 59 (R223). -/
def withCheck (b : Bytes) : Bytes := b ++ (sha3 b).take 4

/-- The ACCEPT block of R223. -/
def acceptBlock (s : State) (x q : Nat) (seq : BitVec 64) (d : Bytes) : Bytes :=
  withCheck (leBytes 1 1 ++ leBytes 1 x ++ leBytes 1 q ++ [0#8] ++ leBytes 4 s.rel.epoch.toNat ++ leBytes 8 seq.toNat ++
    (sha3 d).take 8 ++ leBytes 36 0) ++ d

/-- The COMMIT block of R224. -/
def commitBlock (s : State) (state attempt status flags : Nat) (seq : BitVec 64) (flips : Nat) (checks : List Bytes) : Bytes :=
  withCheck (leBytes 1 state ++ leBytes 1 attempt ++ leBytes 2 status ++ leBytes 2 flags ++ [0#8, 0#8] ++
    leBytes 8 seq.toNat ++ leBytes 1 flips ++ [0#8, 0#8, 0#8] ++ leBytes 4 s.rel.epoch.toNat ++
    padTo 32 (checks.flatMap id) ++ leBytes 4 0)

/-- A block reads as present: its check holds and its seq matches the slot (R225). -/
def blockValid (b : Bytes) (seq : BitVec 64) : Bool :=
  leAt b 8 8 == seq.toNat && decide ((sha3 (b.take 60)).take 4 = (b.drop 60).take 4)

/-- The journal slot of a copy. -/
def slotBytesAt (s : State) (c x q : Nat) (seq : BitVec 64) : Bytes :=
  s.mem.getBytes (channelBase c + journalOffset x q seq) 256

/-- The slot from the preferred copy: absent blocks read as zero; of two COMMIT blocks the higher state counts (R225). -/
def journalSlot (s : State) (x q : Nat) (seq : BitVec 64) : Bytes :=
  let copies := s.mem.journal.map (fun c => slotBytesAt s c x q seq)
  let acc := match copies.find? (fun b => blockValid (b.take 64) seq) with
    | some b => b.take 192
    | none => leBytes 192 0
  let coms := (copies.map (·.drop 192)).filter (fun b => blockValid b seq)
  let com := coms.foldl (fun a b => if byteAt a 0 < byteAt b 0 then b else a) (leBytes 64 0)
  acc ++ com

/-! ### Echoes (R334) -/

/-- An ECHO is sent, and is outstanding until it is acknowledged (R334, R336). -/
def sendEcho (s : State) (x q : Nat) (commitKind : Bool) (seq : BitVec 64) (data : Bytes) : State :=
  let e := (x, q, commitKind, seq)
  let s := { s with drinex := { s.drinex with echoes := s.drinex.echoes.filter (fun k => decide (k ≠ e)) ++ [e] } }
  sendTxn s 3 64 (.echo x q commitKind seq data)

/-- An ECHO of the queue of some kind is unacknowledged: its acceptance or commit waits (R334). -/
def State.echoDue (s : State) (x q : Nat) (commitKind : Bool) : Bool :=
  s.drinex.echoes.any (fun e => e.1 == x && e.2.1 == q && e.2.2.1 == commitKind)

/-! ### Statuses (R220, R231) -/

/-- The lowest status other than DONE and DONE_EMPTY among outcomes. -/
def lowestFailure (os : List (BitVec 16)) : Option Nat :=
  (os.filter (fun o => decide (2 ≤ o.toNat))).foldl (fun b o => match b with
    | none => some o.toNat
    | some k => some (min k o.toNat)) none

/-- The status of outcomes without replay (R220). -/
def statusOf (os : List (BitVec 16)) : Nat :=
  match lowestFailure os with
  | some st => st
  | none => if os.any (fun o => decide (o = 0#16)) then stDone else stEmpty

/-- A descriptor no longer waits at a counter. -/
def leaveWaits (s : State) (a : Actor) : State :=
  { s with counters := smMap {} (fun _ c => { c with waiters := c.waiters.filter (fun w => decide (w ≠ a)) }) s.counters }

/-- The communicator that a RUN calls, of a descriptor's operation (R287). -/
def calledComm (p : Plan) (d : Bytes) : Option Comm :=
  if byteAt d 8 ≠ 1 then none
  else (p.calls.find? (fun k => k.opId.toNat == hOpId d)).bind (fun k => p.comms.find? (fun c => decide (c.commId = k.commId)))

/-- A collective RUN that ends before it contributes: its seq is used up, and ABORT goes up with CANCELLED_DEPENDENCY, or with the
status that the rule of the case names (R289, R311). -/
def abortCall (s : State) (x : Nat) (d : HostDesc) (status : Nat := stCancelled) : State :=
  match (s.ctx x).plan with
  | none => s
  | some p => match calledComm p d.bytes with
    | none => s
    | some c => match d.call with
      | some (_, seq) => if (s.inst? c.commId seq).isSome then endCall s c seq status else s
      | none => endCall (advanceCall s x c.commId) c c.next status

/-- A descriptor of a queue is closed with a status (R210, R233, R237, R447). -/
def closeDesc (s : State) (x q : Nat) (status : Nat) (d : HostDesc) : State :=
  let s := leaveWaits (abortCall s x d) (hostActor x q d.seq)
  (s.modDesc x q d.seq (fun d => d.closeWith status)).modQueue x q Queue.settle

/-! ### Cores of a context (R84, R210) -/

/-- Cores whose state the context holds. -/
def State.coresOf (s : State) (x : Nat) : List Nat :=
  (List.range 192).filter (fun g => (s.core g).owner.map (·.val) == some x)

/-- What has not issued leaves the window and will be fetched again; a TMUL under way goes on (R114, R208). -/
def stopUnit (u : UnitKind) (g : CoreId) (s : State) : State :=
  let r := s.unitOf u g
  let gone := r.window.filter (fun e => decide (e.phase = .fetched) || decide (e.phase = .waiting))
  let s := gone.foldl (fun s e => abandonOne u g s e) s
  let r := s.unitOf u g
  match gone with
  | [] => s.setCore g ((s.core g).setUnit u { r with stopped := true })
  | e :: _ =>
    s.setCore g ((s.core g).setUnit u
      { r with stopped := true, head := e.index, nextSeq := e.seq
               window := r.window.filter (fun w => !(gone.any (fun x => decide (x.seq = w.seq)))) })

def stopCore (s : State) (g : Nat) : State :=
  let g' : CoreId := Fin.ofNat 192 g
  stopUnit .dma g' (stopUnit .vector g' (stopUnit .engine g' s))

/-- Firmware withdraws what a core has not fetched: nothing of it runs (R210). -/
def withdrawCore (s : State) (g : Nat) : State :=
  let c := s.core g
  let w (r : UnitRing) : UnitRing := { r with tail := r.head }
  s.setCore g { c with engine := w c.engine, vector := w c.vector, dma := w c.dma, work := [], watch := none }

/-- The instructions of a core that have no completion record leave without one: their waits end and their reservations return (R23,
R189). -/
def emptyWindows (s : State) (g : Nat) : State :=
  let g' : CoreId := Fin.ofNat 192 g
  [UnitKind.engine, .vector, .dma].foldl (fun s u =>
    (s.unitOf u g').window.foldl (fun s e => leaveWaits (returnReservation s u g' e) (unitActor u g' e.seq)) s) s

/-- A core leaves the member set of every barrier of every context, and each barrier looks at its completion again (R201). -/
def leaveBarriers (s : State) (g : Nat) : State :=
  let gone (m : Nat) : Bool := m == g || m == 192 + g || m == 384 + g
  s.contexts.foldl (fun s x => ((s.ctx x.1).barriers.map (·.1)).foldl (fun s k =>
    let b := s.barrier x.1 k
    if b.members.any gone then
      let keep (l : List Nat) : List Nat := l.filter (fun m => !(gone m))
      checkBarrier (s.setBarrier x.1 k { b with members := keep b.members, e0 := keep b.e0, e1 := keep b.e1 }) x.1 k
    else s) s) s

def startCore (s : State) (g : Nat) : State :=
  let c := s.core g
  let w (r : UnitRing) : UnitRing := { r with stopped := false }
  s.setCore g { c with engine := w c.engine, vector := w c.vector, dma := w c.dma }

/-- No instruction of the core is fetched or in progress, and none waits in its rings. -/
def coreDrained (s : State) (g : Nat) : Bool :=
  let c := s.core g
  !(s.present g) || [c.engine, c.vector, c.dma].all (fun r => r.window.isEmpty && decide (r.head = r.tail))

/-- The cores that run a host descriptor's instructions. -/
def State.coresFor (s : State) (x q : Nat) (seq : BitVec 64) : List Nat :=
  (s.coresOf x).filter (fun g => (s.core g).job.map (fun j => (j.1.val, j.2)) == some (q, seq))

/-- Parked work of a descriptor on engines that were switched away (R114). -/
def State.parkedFor (s : State) (x q : Nat) (seq : BitVec 64) : List (Nat × Parked) :=
  (s.ctx x).parked.filter (fun k => k.2.job.map (fun j => (j.1.val, j.2)) == some (q, seq))

/-- The cores of a descriptor are free of it. -/
def releaseCores (s : State) (x q : Nat) (seq : BitVec 64) : State :=
  let s := (s.coresFor x q seq).foldl (fun s g => s.setCore g { s.core g with job := none, progress := none, work := [] }) s
  s.setCtx x { s.ctx x with
    parked := (s.ctx x).parked.foldl (fun m k =>
      if k.2.job.map (fun j => (j.1.val, j.2)) = some (q, seq) then
        smSet {} m k.1 { k.2 with job := none, work := [], rings := [], running := none } else m) (s.ctx x).parked }

/-! ### Context commands (R209 to R211) -/

def ctxCode (c : CtxState) : Nat :=
  match c with
  | .free => 0
  | .opened => 1
  | .ready => 2
  | .stopped => 3
  | .recovering => 4
  | .resetting => 5

/-- ContextState of R238. -/
def contextStateByte (c : Context) : Nat :=
  ctxCode c.st + 8 * boolNat c.isSealed + 16 * boolNat c.peerOpen +
  (if c.st = .free then 0 else 32 * (c.queueCount - 1))

def outstandingIn (c : Context) : Bool := c.queues.any (fun k => k.2.outstanding)

/-- The state of a context with its owned units stopped (R208). -/
def stopContext (s : State) (x : Nat) : State := (s.coresOf x).foldl stopCore s

/-- The context is freed: its plan leaves, its queues and versioned tensors are gone (R210). -/
def freeContext (s : State) (x : Nat) : State :=
  let s := dropPlan s x
  let s := (s.coresOf x).foldl (fun s g => s.setCore g { s.core g with owner := none, job := none, progress := none, work := [] }) s
  s.setCtx x { energy := (s.ctx x).energy, energyCarry := (s.ctx x).energyCarry }

/-- Every reset clears the staging area and the debug nonce (R403, R406, R446). -/
def clearStaging (s : State) : State := { s with sec := { s.sec with staging := [], nonce := none } }

/-- A write to ContextCommand: 16 bytes for the selected context; `.error` is the abort code (R209). -/
def ctxCommand (s : State) (x : Nat) (b : Bytes) : Except Nat State :=
  let op := byteAt b 0
  let v := leAt b 8 8
  let c := s.ctx x
  if op = 0 ∨ 7 < op ∨ !(zeroRange b 1 8) ∨ (op = 1 ∧ 32 ≤ v) ∨ (op ≠ 1 ∧ v ≠ 0) then .error abRange
  else match op with
    | 1 =>
      if c.st ≠ .free then .error abState
      else .ok (s.setCtx x { st := .opened, isSealed := bitAt v 0, peerOpen := bitAt v 1, queueCount := v / 4 + 1
                             inDebug := decide (s.sec.lifecycle = 3#8), energy := c.energy, energyCarry := c.energyCarry })
    | 2 => if c.st ≠ .opened || outstandingIn c then .error abState else .ok (freeContext s x)
    | 3 =>
      if c.st ≠ .opened && c.st ≠ .ready then .error abState
      else .ok (stopContext (s.setCtx x { c with st := .stopped, before := c.st }) x)
    | 4 =>
      if c.st ≠ .stopped then .error abState
      else
        let s := s.setCtx x { c with st := c.before }
        .ok ((s.coresOf x).foldl startCore s)
    | 5 =>
      if c.st = .free then .error abState
      else
        let s := stopContext (clearStaging (s.setCtx x { c with st := .resetting, replaySet := [], cascades := [] })) x
        .ok ((s.coresOf x).foldl withdrawCore s)
    | _ =>
      if [CtxState.opened, .ready, .stopped].contains c.st then .ok (s.setCtx x { c with peerOpen := decide (op = 6) })
      else .error abState

/-- Every row and register tag of a core loses its valid bit, and its TMUL progress is gone (R84, R134). -/
def clearTags (s : State) (g : Nat) : State :=
  let c := s.core g
  s.setCore g { c with tags := smMap 0#32 (fun _ => tagOff) c.tags, redTags := smMap 0#32 (fun _ => tagOff) c.redTags
                       job := none, progress := none, work := [], watch := none }

/-- Counters return to the mode and buffers of their records with counts zero, and barriers are cleared (R204). -/
def resetSync (s : State) (x : Nat) : State :=
  let c := s.ctx x
  let recs := match c.plan with
    | some p => p.trans
    | none => []
  let s := recs.foldl (fun s t =>
    if t.kind = 0 then
      let p := trTarget (s.transEntry x t.vid.toNat)
      s.setCtr p { s.ctr p with produced := 0, consumed := 0, reserved := 0, frozen := false, cancelled := false, cause := 0
                                waiters := [], monotonic := t.mono, buffers := t.buffers }
    else s) s
  let c := s.ctx x
  s.setCtx x { c with barriers := smMap {} (fun _ b => b.clear) c.barriers }

/-- A descriptor that RESET cancels: one whose state 2 block stands without its echo acknowledged is uncommitted too, and is decided
anew; a plan unload that had not committed is off (R210, R229). -/
def resetDesc (s : State) (x q : Nat) (d : HostDesc) : State :=
  let c := s.ctx x
  let s := if c.unloading = some d.order then s.setCtx x { c with unloading := none } else s
  closeDesc s x q stCancelled d

/-- Steps 2 to 4 of a RESET: uncommitted descriptors are cancelled; once all have completed and every issued instruction has ended,
tags, save areas, counters and barriers are cleared and the context goes back to READY or OPEN (R210). -/
def resetFinish (s : State) (x : Nat) : State :=
  let c := s.ctx x
  let ended := (s.coresOf x).all (coreDrained s)
  if c.st ≠ .resetting || !ended then s
  else
    let open_ := c.allDescs.filter (fun d => !d.2.isCommitted && decide (d.2.outcomes ≠ [BitVec.ofNat 16 stCancelled]))
    if !open_.isEmpty then open_.foldl (fun s d => resetDesc s x d.1 d.2) s
    else if outstandingIn c || (c.isSealed && s.sec.busy.isSome) then s
    else
      let s := (s.coresOf x).foldl (fun s g => startCore (clearTags s g) g) (resetSync s x)
      let c := s.ctx x
      s.setCtx x { c with st := if c.plan.isSome then .ready else .opened, saved := [], parked := [], cascades := []
                          replaySet := [], replayed := [], flipping := false, flipTensors := [], permute := none }

/-! ### Queue configuration and reset (R212, R237) -/

/-- A range lies wholly within one decoded region of R139. -/
def decodedRange (s : State) (a n : Nat) : Bool := s.rangeOk none a n

/-- A write to QueueConfig (R212, R367). -/
def queueConfigure (s : State) (x q : Nat) (b : Bytes) : Except Nat State :=
  let c := s.ctx x
  let k := s.queue x q
  let ring := leAt b 0 6
  let n := byteAt b 6
  let cring := leAt b 8 6
  let irq := leAt b 14 2
  if c.queueCount ≤ q || decide (c.st = .free) then .error abState
  else if ring % 128 != 0 || decide (n < 6) || decide (9 < n) || decide (1 < byteAt b 7) || cring % 64 != 0 ||
      decide (irq < 0x300) || decide (0x37F < irq) || !(zeroRange b 24 32) || !(decodedRange s ring (128 * 2 ^ n)) ||
      !(decodedRange s cring 16384) then .error abRange
  else if !([CtxState.opened, .stopped].contains c.st) || k.outstanding then .error abState
  else
    let v := BitVec.ofNat 64 (leAt b 16 8)
    .ok (s.modQueue x q (fun k =>
      { k with configured := true, ringBase := ring, ringLog2 := n, fabric := byteAt b 7 == 1, cringBase := cring
               irqVector := BitVec.ofNat 16 irq, baseSeq := v, tail := v, accept := v, dispatch := v, complete := v
               release := v, accepting := none, acceptEchoed := false, resetting := false, descs := [] }))

/-- QueueConfig as it reads back: bytes 0 to 23 as written. -/
def queueConfigBytes (k : Queue) : Bytes :=
  if !k.configured then leBytes 32 0
  else leBytes 6 k.ringBase ++ leBytes 1 k.ringLog2 ++ leBytes 1 (boolNat k.fabric) ++ leBytes 6 k.cringBase ++
    leBytes 2 k.irqVector.toNat ++ leBytes 8 k.baseSeq.toNat ++ leBytes 8 0

def queuePointerBytes (k : Queue) : Bytes :=
  [k.tail, k.accept, k.dispatch, k.complete, k.release].flatMap (fun v => leBytes 8 v.toNat)

/-- A write of 0x01 to QueueCommand (R237). -/
def queueReset (s : State) (x q : Nat) : Except Nat State :=
  let k := s.queue x q
  if (s.ctx x).queueCount ≤ q || !k.configured || decide ((s.ctx x).st = .free) then .error abState
  else
    let s := (k.descs.filter (fun d => d.undispatched && decide (d.attempts = 0))).foldl (fun s d => closeDesc s x q stCancelled d) (clearStaging s)
    .ok (s.modQueue x q (fun k => { k with error := false, resetting := k.accepting.isSome
                                           tail := if k.accepting.isSome then k.tail else k.accept }))

/-! ### Doorbells (R214) -/

/-- A doorbell's two values are applied, or the doorbell is ignored and counted. -/
def ringDoorbell (s : State) (x q : Nat) (newTail newRelease : BitVec 64) : State :=
  let k := s.queue x q
  let t := if newTail = BitVec.allOnes 64 then k.tail else newTail
  let r := if newRelease = BitVec.allOnes 64 then k.release else newRelease
  if t.toNat < k.tail.toNat ∨ r.toNat < k.release.toNat ∨ k.accept.toNat + 2 ^ k.ringLog2 < t.toNat ∨
      k.complete.toNat < r.toNat then
    s.modQueue x q (fun k => { k with rejects := satAdd k.rejects 1 })
  else s.modQueue x q (fun k => { k with tail := t, release := r })

/-! ### Acceptance (R215, R221) -/

/-- A queue stops accepting at a memory error of its ring, with a fault record (R215, R220). -/
def queueFault (s : State) (x q : Nat) (seq : BitVec 64) (e : MemErr) : State :=
  fault (s.modQueue x q (fun k => { k with error := true })) (s.noteOf (hostActor x q seq) (memErrNote s { sev := 3, cls := 2 } e))

/-- Acceptance is possible: Service, no drain, no relocation, a state of R208 that accepts. -/
def mayAccept (s : State) (x q : Nat) : Bool :=
  let k := s.queue x q
  let c := s.ctx x
  decide (s.device = .service) && s.power.draining.isNone && s.mem.relocating.isNone &&
  [CtxState.opened, .ready, .stopped, .recovering].contains c.st && k.configured && !k.error && k.accepting.isNone &&
  !k.resetting && (!k.fabric || c.peerOpen) && decide (k.accept.toNat < k.tail.toNat) &&
  decide (k.accept.toNat - k.release.toNat < 512)

def acceptStart (s : State) (x q : Nat) : State :=
  if !(mayAccept s x q) then s
  else
    let k := s.queue x q
    let seq := k.accept
    match readMem s s.mem 128 (k.ringBase + seq.toNat % 2 ^ k.ringLog2 * 128) with
    | .error e => queueFault s x q seq e
    | .ok d =>
      if dSeq d ≠ seq.toNat then s.modQueue x q (fun k => { k with error := true })
      else
        let b := acceptBlock s x q seq d
        let s := journalWrite s x q seq 0 b
        let s := s.modQueue x q (fun k => { k with accepting := some { seq := seq, bytes := d }, acceptEchoed := false })
        sendEcho s x q false seq (b.take 64)

/-- accept advances once every copy is written and the echo is acknowledged; an acceptance overtaken by a queue reset is
cancelled at once (R221, R237). -/
def acceptAdvanceTo (s : State) (x q : Nat) : State :=
  let k := s.queue x q
  match k.accepting with
  | none => s
  | some d =>
    if !k.acceptEchoed || s.echoDue x q false || s.mem.relocating.isSome then s
    else
      let c := s.ctx x
      let d := { d with acceptTime := s.clkc, order := c.accepts }
      let s := s.setCtx x { c with accepts := c.accepts + 1 }
      let s := s.modQueue x q (fun k =>
        { k with accept := k.accept + 1, accepting := none, acceptEchoed := false, descs := k.descs ++ [d]
                 resetting := false, tail := if k.resetting then k.accept + 1 else k.tail })
      if k.resetting then closeDesc s x q stCancelled d else s

/-! ### Dispatch (R208, R216, R217) -/

/-- Bits of a host descriptor that no field names are zero (R4, R216). -/
def hostReservedOk (d : Bytes) : Bool :=
  byteAt d 9 / 4 == 0 && bitsAt (leAt d 10 2) 12 3 == 0 && bitsAt (leAt d 12 2) 12 3 == 0 && byteAt d 15 == 0 &&
  byteAt d 18 / 16 == 0 && byteAt d 19 == 0 && zeroRange d 46 48 && byteAt d 54 / 2 == 0 && zeroRange d 55 64 &&
  (byteAt d 8 != 1 || zeroRange d (64 + 8 * hCount d) 128) && (byteAt d 8 != 5 || decide (hOpId d < 4096))

def bDual (b : Nat) : Bool := bitAt b 48
def bRole (b : Nat) : Nat := bitsAt b 49 2
def bCheck (b : Nat) : Bool := bitAt b 51
def bTarget (b : Nat) : Nat := b % 2 ^ 48
def bVt (b : Nat) : Nat := b % 4096

/-- Versioned tensors a RUN binds, with the roles (R218). -/
def dualsOf (d : Bytes) : List (Nat × Nat) :=
  if byteAt d 8 ≠ 1 then []
  else ((List.range (hCount d)).filter (fun i => bDual (hBinding d i))).map (fun i => (bVt (hBinding d i), bRole (hBinding d i)))

/-- The RUN writes, or reads, a versioned tensor. -/
def writesVt (d : Bytes) (v : Nat) : Bool := (dualsOf d).any (fun b => b.1 == v && b.2 != 0)
def readsVt (d : Bytes) (v : Nat) : Bool := (dualsOf d).any (fun b => b.1 == v && b.2 != 1)

/-- Opcodes that a context state dispatches (R208). -/
def stateDispatches (c : Context) (q : Nat) (d : HostDesc) : Bool :=
  match c.st with
  | .opened => [2, 4, 5].contains (byteAt d.bytes 8)
  | .ready => true
  | .recovering => c.replaySet.contains (q, d.seq)
  | _ => false

/-- A mark that a cascade still holds at the counter a later descriptor waits on (R233). -/
def cascadeHolds (c : Context) (d : HostDesc) : Bool :=
  dWaitEn d.bytes && c.cascades.any (fun k => k.vids.contains (dWaitVid d.bytes) && decide (k.upto ≤ d.order))

/-- How the wait of a host descriptor stands (R186, R194, R200). -/
def hostWait (s : State) (x : Nat) (d : HostDesc) : WaitState :=
  let b := d.bytes
  if !(dWaitEn b) || d.granted then .ready
  else if d.cancelled || s.waitMarked x (dWaitVid b) then .cancelled
  else
    let t := s.transEntry x (dWaitVid b)
    if trKind t = 2 then
      let bar := s.barrier x (trTarget t)
      if bar.e0.contains 576 || bar.e1.contains 576 then .held else .ready
    else .held

/-- A descriptor passes to the units: dispatch advances, and the counters of its context are recorded; replay sets those that the
descriptor turns out to name (R213, R232). -/
def markDispatched (s : State) (x q : Nat) (d : HostDesc) (f : HostDesc → HostDesc) : State :=
  let c := s.ctx x
  let recs : List TransRec := match c.plan with
    | some p => p.trans
    | none => []
  let rec_ := recs.filterMap (fun (t : TransRec) =>
      let e := s.transEntry x t.vid.toNat
      let k := s.ctr (trTarget e)
      if t.kind = 0 then some (trTarget e, k.produced, k.consumed, k.grants) else none)
  let s := s.setCtx x { c with dispatches := c.dispatches + 1 }
  let s := if 0 < d.attempts then
      { s with queueObjs := { s.queueObjs with replays := satAdd s.queueObjs.replays 1 } } else s
  (s.modDesc x q d.seq (fun d => f { d with
    phase := .dispatched, attempts := d.attempts + 1, turn := c.dispatches, record := rec_
    named := namedCounters s x d.bytes, outcomes := [], flags := 0 })).modQueue x q Queue.settle

/-- It dispatches and completes with a status at once. -/
def dispatchWith (s : State) (x q : Nat) (d : HostDesc) (status : Nat) : State :=
  markDispatched s x q d (fun d => { d with outcomes := [BitVec.ofNat 16 status], workDone := true, released := true })

/-- It is refused at dispatch; the members of its collective are told, and a PLAN_LOAD ends the report of the one before (R179, R217,
R311). -/
def refuseHost (s : State) (x q : Nat) (d : HostDesc) (status : Nat) : State :=
  let s := if byteAt d.bytes 8 = 2 then clearShortfalls s x else s
  dispatchWith (abortCall s x d) x q d status

/-- It meets a memory error at dispatch: recorded, FAULT_DATA, and the members of its collective are told; its call is used up (R231,
R311, R378). -/
def faultHost (s : State) (x q : Nat) (d : HostDesc) (e : MemErr) : State :=
  let s := fault s (s.noteOf (hostActor x q d.seq) (memErrNote s { sev := 3, cls := 2 } e))
  let call := match (s.ctx x).plan.bind (fun p => calledComm p d.bytes) with
    | some c => if d.call.isSome then d.call else some (c.commId, c.next)
    | none => d.call
  markDispatched (abortCall s x d stData) x q d (fun d =>
    { d with outcomes := [BitVec.ofNat 16 stData], workDone := true, released := true, call := call })

/-- One command for the first undispatched descriptor of a queue. It does nothing unless the descriptor carries the opcode
(an unlisted one is refused by any of them), the context's state dispatches it, and its fence, wait and reservation let it.
`body` is the opcode's own (R208, R216, R217). -/
def hostOp (opcode : Nat) (x : CtxId) (q : QueueId) (s : State) (body : State → HostDesc → State) : State :=
  let k := s.queue x q
  let c := s.ctx x
  match k.descs.find? (·.undispatched) with
  | none => s
  | some d =>
    let op := byteAt d.bytes 8
    let listed := decide (1 ≤ op) && decide (op ≤ 5)
    let a := hostActor x q d.seq
    if (listed && op != opcode) || decide (s.device = .bootLimited) || !(stateDispatches c q d) ||
        (dFence d.bytes && decide ((k.descs.head?.map (·.seq)) ≠ some d.seq)) || cascadeHolds c d then s
    else if d.phase = .accepted && (!listed || !(hostReservedOk d.bytes) ||
        !(syncFieldsOk s x 576 (dWaitEn d.bytes) (dWaitVid d.bytes) (dSigEn d.bytes) (dSigVid d.bytes) (dSigAmt d.bytes))) then
      refuseHost s x q d stBad
    else
      let s := s.modDesc x q d.seq (fun d => { d with phase := .waiting })
      match hostWait s x d with
      | .cancelled => (closeDesc (s.waitBlame x (dWaitVid d.bytes) a) x q
          (statusOf ((((s.waitBlame x (dWaitVid d.bytes) a).desc? x q d.seq).map (·.outcomes)).getD [] ++
            [BitVec.ofNat 16 stCancelled])) d).modDesc x q d.seq (fun d => { d with marked := true, named := namedCounters s x d.bytes })
      | .held => s
      | .ready => body (s.modDesc x q d.seq (fun k => { k with granted := k.granted || dWaitEn k.bytes })) d

/-! ### RUN (R218, R220, R226, R257) -/

/-- A RUN may dispatch in the current phase (R257). -/
def phaseLets (c : Context) (p : Plan) (o : Nat) : Bool :=
  !p.phased || (!c.flipping && match opPhase p o with
    | some ph => samePhase p c.phase ph
    | none => true)

/-- Earlier RUNs of the context whose commit is not through, flips and all, write a versioned tensor that this one binds (R226,
R228). -/
def dualHeld (c : Context) (d : HostDesc) : Bool :=
  c.allDescs.any (fun e => decide (e.2.order < d.order) && (dualsOf d.bytes).any (fun b => writesVt e.2.bytes b.1))

/-- Earlier uncommitted RUNs read a versioned tensor that this one writes: its commit waits (R226). -/
def commitHeld (c : Context) (d : HostDesc) : Bool :=
  c.allDescs.any (fun e => decide (e.2.order < d.order) && !e.2.isCommitted &&
    (dualsOf d.bytes).any (fun b => b.2 != 0 && readsVt e.2.bytes b.1))

/-- The slots binding i resolves to: read and written header addresses (R218, R226). -/
def resolveBinding (c : Context) (b : Nat) : List (BitVec 64) :=
  if bDual b then
    let v : VTensor := smGet {} c.vts (bVt b)
    let cur := if v.current then v.slot1 else v.slot0
    let other := if v.current then v.slot0 else v.slot1
    match bRole b with
    | 0 => [cur.setWidth 64, cur.setWidth 64]
    | 1 => [other.setWidth 64, other.setWidth 64]
    | _ => [cur.setWidth 64, other.setWidth 64]
  else [BitVec.ofNat 64 (bTarget b), BitVec.ofNat 64 (bTarget b)]

/-- The bytes of the tensor whose header lies at a: from its header where one is there, else by its record (R152, R218). -/
def tensorSpan (s : State) (p : Plan) (t : BitVec 32) (a : Nat) : Nat × Nat :=
  match readMem s s.mem 64 a with
  | .ok h => if headerLegal h then (a, dataEnd h a) else
      (a, a + 64 + match p.tensor t with
        | some r => roundUp (r.elements * fmtBits r.format.toNat / 8) 64
        | none => 0)
  | .error _ => (a, a + 64)

/-- Checks of a RUN's bindings at dispatch (R218, R226). -/
def bindingsOk (s : State) (c : Context) (p : Plan) (o : OpRec) (d : Bytes) : Bool :=
  let n := hCount d
  let bs := (List.range n).map (hBinding d)
  let at_ (i : Nat) : Nat := ((resolveBinding c (bs.getD i 0)).headD 0#64).toNat
  let span (i : Nat) := tensorSpan s p (o.tensors.getD i 0#32) (at_ i)
  let ins := (List.range n).filter (fun i => bRole (bs.getD i 0) != 1)
  n == o.tensors.length && decide (n ≤ 8) &&
  bs.all (fun b => bRole b != 3 && b / 2 ^ 52 == 0 && (bRole b != 2 || bDual b) && (!(bCheck b) || bRole b != 0) &&
    (if bDual b then decide (b % 2 ^ 48 < 4096) else b % 64 == 0)) &&
  decide ((bs.filter bCheck).length ≤ 4) &&
  (List.range n).all (fun i => bDual (bs.getD i 0) || bRole (bs.getD i 0) != 1 ||
    ins.all (fun j => !(decide ((span i).1 < (span j).2) && decide ((span j).1 < (span i).2))))

/-- The parameter tensor of an update is in order, if it can be read (R247). -/
def paramsOk (s : State) (o : OpRec) (d : HostDesc) : Except MemErr Bool :=
  let k := o.kind.toNat
  if k < 0x30 then .ok true
  else match readMem s s.mem 64 (d.readAt 1 + 64) with
    | .error e => .error e
    | .ok b => .ok (
      let v (i : Nat) := decodeElem 0x01 (leAt b (4 * i) 4)
      let used := if k ≥ 0x32 then 9 else 4
      let finite (e : ExactVal) := match e with
        | .fin _ _ => true
        | _ => false
      (List.range used).all (fun i => finite (v i)) && zeroRange b (4 * used) 64 &&
      (k < 0x32 || match v 8 with
        | .fin m _ => decide (0 < m)
        | _ => false))

/-- An update that rounds its master weights under SR has a seed for them (R240, R249). -/
def seedsOk (p : Plan) (o : OpRec) : Bool :=
  let hi := o.tensors.getD 2 0#32
  decide (o.kind.toNat < 0x30) || (match p.tensor hi with
    | some t => decide (t.mode ≠ 4#3) || p.seeds.any (fun r => decide (r.1 = hi))
    | none => true)

/-- Cores of the groups that an operation's placements name (R170). -/
def opCores (p : Plan) (o : Nat) : List Nat :=
  (List.range 192).filter (fun g => p.placements.any (fun pl => pl.opId.toNat == o &&
    p.groups.any (fun gr => decide (gr.1 = pl.group) && gr.2.contains g)))

/-- Every core is free for the descriptor: not held by another context, saved elsewhere, or busy with another job (R82,
R84). -/
def coresFree (s : State) (x q : Nat) (seq : BitVec 64) (gs : List Nat) : Bool :=
  gs.all (fun g =>
    let c := s.core g
    !(s.present g) || ((match c.owner with
      | some y => y.val == x
      | none => !((s.ctx x).saved.contains g)) &&
    (match c.job with
     | some j => j.1.val == q && decide (j.2 = seq)
     | none => true)))

/-- The tiles firmware issues for a product's placements, each with its placement and its turn on its engine; none where no height
fits. The selection reads the command's own extents, K among them (R172, R173). -/
def tilesFor (s : State) (p : Plan) (o : OpRec) (d : Bytes) : Option (List (Placement × Nat × Tile)) :=
  if o.kind ≠ 1#8 then some []
  else
    let per (pl : Placement) : Option (List (Placement × Nat × Tile)) :=
      match p.groups.find? (fun g => decide (g.1 = pl.group)), tileIn p o pl with
      | some g, some t =>
        let list (h kc : Nat) := (tileList g.2 (hM d) (hN d) (hBatch d) h kc).zipIdx.map (fun e => (pl, e.2 / g.2.length, e.1))
        if (pl.kRange (hK d)).2 ≤ pl.kFirst then some []
        else if pl.policy = 1 then some (list pl.hFixed pl.kcFixed)
        else (chooseTile s t g.2 (hM d) (hN d) (hK d) (hBatch d)).map (fun e => list e.1 e.2)
      | _, _ => none
    (allSome per (p.placements.filter (fun pl => decide (pl.opId = o.opId)))).map (·.flatten)

/-- Four earlier calls of the communicator are unreleased at this member: a new one does not dispatch yet (R292). -/
def callsFull (s : State) (c : Comm) (d : HostDesc) : Bool :=
  d.call.isNone &&
  decide (4 ≤ (s.coll.instances.filter (fun e => decide (e.2.commId = c.commId) && decide (e.2.seq.toNat < c.next.toNat))).length)

/-- The instance a collective RUN takes part in: its own from an earlier attempt, or a new one; none while no slot is free (R289,
R292). -/
def takeInstance (s : State) (x : Nat) (c : Comm) (d : HostDesc) : Option (State × BitVec 32) :=
  match d.call with
  | some (comm, seq) => match s.inst? comm seq with
    | some _ => some (s, seq)
    | none => (takeSlot s x c seq).map (fun s => (s, seq))
  | none =>
    match s.inst? c.commId c.next with
      | some _ => some (advanceCall s x c.commId, c.next)
      | none => (takeSlot s x c c.next).map (fun s => (advanceCall s x c.commId, c.next))

/-- A call that waits at dispatch for a slot (R292). -/
def waitForSlot (s : State) (c : Comm) (d : HostDesc) : State :=
  let key := match d.call with
    | some k => k
    | none => (c.commId, c.next)
  if s.coll.slotless.contains key then s
  else { s with coll := { s.coll with slotless := s.coll.slotless ++ [key] } }

/-- The RUN's cores take it up, and run; the units of the attempt are noted (R84, R231). -/
def bindCores (s : State) (x q : Nat) (seq : BitVec 64) (gs : List Nat) : State :=
  let s := (gs.filter s.present).foldl (fun s g =>
    startCore (s.setCore g { s.core g with owner := some (Fin.ofNat 256 x), job := some (Fin.ofNat 8 q, seq), work := [] }) g) s
  s.modDesc x q seq (fun d => { d with units := d.units ++ [(d.attempts, gs.map s.coreUnit)] })

/-- The header of a collective's output made ready at dispatch: a saved skein names the window of the sum (R153, R301). -/
def readyOutput (s : State) (p : Plan) (o : OpRec) (d : HostDesc) (k : Call) : Except MemErr State :=
  match o.outputs.head?.bind p.tensor with
  | none => .ok s
  | some t =>
    let hint := match savedPly t.format.toNat, k.coding s with
      | some n, .exact _ l => some (t.cls.toNat, n, l)
      | _, _ => none
    initHeader s t hint (d.writeAt (o.inputs.length + o.preloads.length))

/-- A product RUN dispatches: its headers are made ready, its tiles become the work of their cores, and those on absent cores fail at
once (R23, R172, R173, R217, R220). -/
def runProduct (s : State) (x q : Nat) (p : Plan) (o : OpRec) (d d' : HostDesc) (gs : List Nat) : State :=
  match tilesFor s p o d.bytes with
  | none => refuseHost s x q d stShape
  | some ts =>
    if partMissing p o (hK d.bytes) then refuseHost s x q d stBad
    else match prepareProduct s x p o d' with
      | .error e => faultHost s x q d e
      | .ok (s, r) =>
        let dead := ts.any (fun t => !(s.present t.2.2.core))
        let s := markDispatched s x q d (fun d =>
          { d with resolved := d'.resolved, tiles := ts.map (·.2.2), workDone := true, released := true
                   outcomes := if dead then [BitVec.ofNat 16 stRetired] else [] })
        let s := bindCores s x q d.seq gs
        match r with
        | none => s
        | some r => issueTiles s r ts

/-- RUN: operation op_id of the plan on the bound tensors (R172, R218, R220, R226, R257, R289). -/
def runBody (x : CtxId) (q : QueueId) (s : State) (d : HostDesc) : State :=
  let c := s.ctx x
  match c.plan with
  | none => s
  | some p =>
    match p.op (hOpId d.bytes) with
    | none => refuseHost s x q d stBad
    | some o =>
      let o' := hOpId d.bytes
      let gs := opCores p o'
      if !(phaseLets c p o') || dualHeld c d then s
      else if !(bindingsOk s c p o d.bytes) then refuseHost s x q d stBad
      else
        let res := (List.range (hCount d.bytes)).flatMap (fun i => resolveBinding c (hBinding d.bytes i))
        let d' := { d with resolved := res }
        let coll := collKind o.kind.toNat
        match paramsOk s o d' with
        | .error e => faultHost s x q d e
        | .ok good =>
        if !good || !(seedsOk p o) then refuseHost s x q d stBad
        else if !coll && (hM d.bytes == 0 || hN d.bytes == 0 || hK d.bytes == 0 || hBatch d.bytes == 0) then
          markDispatched s x q d (fun d => { d with resolved := res, outcomes := [1#16], workDone := true, released := true })
        else if coll then
          match calledComm p d.bytes with
          | none => refuseHost s x q d stBad
          | some cm => match d.call, s.pastCall cm.commId cm.next with
            | none, some e => dispatchWith (advanceCall s x cm.commId) x q d e.status
            | _, _ =>
            if callsFull s cm d then s
            else match takeInstance s x cm d with
            | none => waitForSlot s cm d
            | some (s, seq) =>
              let s := markDispatched s x q d (fun d => { d with resolved := res, call := some (cm.commId, seq)
                                                                 workDone := false, released := false })
              let s := s.modDesc x q d.seq (fun d => { d with units := d.units ++ [(d.attempts, [combinerUnit 0, combinerUnit 2])] })
              let s := s.modInst cm.commId seq (fun i => { i with desc := some (q.val, d.seq) })
              match (s.inst? cm.commId seq).bind (fun i => (callOf s i).map (fun k => (i, k))) with
              | none => s
              | some (i, k) => match readyOutput s p o d' k with
                | .error e => memberAbort (fault s (s.noteOf (hostActor x q d.seq) (memErrNote s { sev := 3, cls := 2 } e))) i stData
                | .ok s => openCall s cm.commId seq (fun i =>
                    { i with kind := o.kind, encoding := o.encoding, hash := k.hash seq, count := o.count
                             held := k.call.unitHeld })
        else if !(coresFree s x q d.seq gs) then s
        else if o.kind = 1#8 then runProduct s x q p o d d' gs
        else
          let s := markDispatched s x q d (fun d =>
            { d with resolved := res, workDone := true, released := true
                     outcomes := if gs.any (fun g => !(s.present g)) then [BitVec.ofNat 16 stRetired] else [] })
          bindCores s x q d.seq gs

/-- PLAN_LOAD: the image is admitted, one load or unload at a time module-wide (R175, R178). -/
def planLoadBody (x : CtxId) (q : QueueId) (s : State) (d : HostDesc) : State :=
  if s.contexts.any (fun c => c.2.unloading.isSome) then s
  else if s.power.draining.isSome then dispatchWith (clearShortfalls s x) x q d stCapacity
  else
    let s := clearShortfalls s x
    let (s, st) := admitPlan s x (hAddr0 d.bytes) (hostActor x q d.seq)
    dispatchWith s x q d st

/-- PLAN_UNLOAD: requested; it takes effect once the context's descriptors have completed (R177). -/
def planUnloadBody (x : CtxId) (q : QueueId) (s : State) (d : HostDesc) : State :=
  if (s.ctx x).unloading.isSome then s
  else dispatchWith (s.setCtx x { s.ctx x with unloading := some d.order }) x q d stDone

/-- The unload takes effect: every descriptor accepted before it, and every later one that has dispatched, has completed
(R177, R178). -/
def unloadEffect (s : State) (x : Nat) : State :=
  let c := s.ctx x
  match c.unloading with
  | none => s
  | some n =>
    if c.allDescs.any (fun d => !(d.2.undispatched && decide (n < d.2.order))) then s
    else
      let s := dropPlan s x
      let s := (s.coresOf x).foldl (fun s g => s.setCore g { s.core g with owner := none, job := none, progress := none, work := [] }) s
      let c := s.ctx x
      s.setCtx x { c with parked := [], st := if c.st = .ready then .opened else c.st
                          before := if c.before = .ready then .opened else c.before }

/-- VT_SET is refused for misaligned headers or a tensor bound by an accepted, uncommitted RUN (R152, R217). -/
def vtSetBody (x : CtxId) (q : QueueId) (s : State) (d : HostDesc) : State :=
  let v := hOpId d.bytes
  let bound := (s.ctx x).allDescs.any (fun e => (dualsOf e.2.bytes).any (fun b => b.1 == v))
  if hAddr0 d.bytes % 64 != 0 || hAddr1 d.bytes % 64 != 0 || bound then refuseHost s x q d stBad
  else dispatchWith s x q d stDone

/-! ### Commit (R228, R231) -/

/-- A tensor with its data lies wholly on parts in service (R231, R234). -/
def tensorInService (s : State) (a : Nat) : Bool :=
  s.rangeOk none a 64 && match readMem s s.mem 64 a with
    | .ok h => !(headerLegal h) || s.rangeOk none a (dataEnd h a - a)
    | .error _ => true

/-- Inputs of a RUN lie wholly on parts in service (R231, R234). -/
def inputsReadable (s : State) (d : HostDesc) : Bool :=
  (List.range (hCount d.bytes)).all (fun i => bRole (hBinding d.bytes i) == 1 || tensorInService s (d.readAt i))

/-- The descriptor's collective call, if any, can start another attempt: its instance has not ended, this member has not given
its RELEASE, and fewer than three attempts were made (R312, R313). -/
def callGoesOn (s : State) (d : HostDesc) : Bool :=
  match d.call with
  | none => true
  | some (comm, seq) => match s.inst? comm seq with
    | none => false
    | some i => !i.releaseSent && decide (i.st < 6) && decide (i.attempt < 3)

/-- Whether the attempt that ended with these outcomes is replayed (R231). -/
def wantsReplay (s : State) (x : Nat) (d : HostDesc) : Bool :=
  byteAt d.bytes 8 == 1 && !d.lost && decide (0 < d.attempts) && decide (d.attempts < 3) && callGoesOn s d &&
  match lowestFailure d.outcomes with
  | some st =>
    (st == stData && inputsReadable s d) ||
    (st == stRetired && match (s.ctx x).plan with
      | some p => (opCores p (hOpId d.bytes)).all s.present
      | none => false)
  | none => false

/-- The core has nothing left of its work, and no sampled tile of it waits to be recomputed (R217, R261). -/
def workOver (s : State) (g : Nat) : Bool := !(s.present g) || ((s.core g).work.isEmpty && (s.core g).watch.isNone)

/-- The instructions of the attempt have all been issued and have retired, and none of them waits to be recomputed (R228, R394). A RUN
with cores ends once they have given it an outcome; of a poisoned call, the DOWN frames have gone out (R291). -/
def attemptEnded (s : State) (x q : Nat) (d : HostDesc) : Bool :=
  let gs := s.coresFor x q d.seq
  gs.all (fun g => coreDrained s g && workOver s g) && (s.parkedFor x q d.seq).isEmpty &&
  !(s.power.dips.any (fun k => k.2.recompute.any (fun r => gs.contains r.1))) &&
  (gs.isEmpty || !d.outcomes.isEmpty) && (d.workDone || (lowestFailure d.outcomes).isSome)

/-- Content checks of the checked outputs, in binding order; each goes into its header (R156, R228). -/
def hashOutputs (s : State) (d : HostDesc) : Except MemErr (State × List Bytes) :=
  ((List.range (hCount d.bytes)).filter (fun i => bCheck (hBinding d.bytes i))).foldl (fun acc i => match acc with
    | .error e => .error e
    | .ok (s, cs) =>
      let a := d.writeAt i
      match readMem s s.mem 64 a, contentCheck s s.mem a with
      | .error e, _ | _, .error e => .error e
      | .ok h, .ok c => match writeMem s s.mem none a (checkedHeader h c) with
        | (_, some e) => .error e
        | (m, none) => .ok ({ s with mem := m }, cs ++ [c])) (.ok (s, []))

/-- Bindings whose current slot the commit changes (R224, R226). -/
def flipBits (d : Bytes) : Nat :=
  (List.range (hCount d)).foldl (fun a i =>
    if bDual (hBinding d i) && bRole (hBinding d i) != 0 then a + 2 ^ i else a) 0

/-- The flags of a descriptor's record and blocks: bit 3 with more than one attempt (R219, R224). -/
def recordFlags (d : HostDesc) : Nat :=
  let fl := d.flags.toNat % 2 ^ 16
  if d.attempts > 1 && !(bitAt fl 3) then fl + 8 else fl

/-- Its signal goes to a module, and this one has no ID to send under (R267). -/
def peerUnreachable (s : State) (x : Nat) (b : Bytes) : Bool :=
  let t := s.transEntry x (dSigVid b)
  dSigEn b && trValid t && trKind t == 1 && decide (dSigAmt b ≠ 0) && s.fabric.moduleId.isNone

/-- Steps 4 and 5: the state 2 block is written and its echo sent (R228). -/
def commitWith (s : State) (x q : Nat) (d : HostDesc) (status flips : Nat) (checks : List Bytes) : State :=
  let fl := recordFlags d
  let b := commitBlock s 2 (if checks.isEmpty then 0 else d.attempts) status fl d.seq flips checks
  let s := journalWrite s x q d.seq 192 b
  let s := s.modDesc x q d.seq (fun d => { d with phase := .committed, status := BitVec.ofNat 16 status
                                                  flags := BitVec.ofNat 16 fl, flips := BitVec.ofNat 8 flips, echoed := false })
  sendEcho s x q true d.seq b

/-- A RUN's attempt that fails here takes an outcome of its own. -/
def outcome (s : State) (x q : Nat) (seq : BitVec 64) (st : Nat) : State :=
  s.modDesc x q seq (fun d => { d with outcomes := d.outcomes ++ [BitVec.ofNat 16 st] })

/-- Step 3: the checks of this attempt against the earlier ones (R231). Attempts that disagree are counted, and of each that matched none
a record names each of its units (log entry 148). -/
def compareChecks (s : State) (x q : Nat) (d : HostDesc) : State :=
  let mine := d.checks.filter (fun c => decide (c.1 = d.attempts))
  let old := d.checks.filter (fun c => decide (c.1 < d.attempts))
  let cs := (mine.map (·.2)).headD []
  let agrees := old.any (fun c => decide (c.2 = cs))
  let done (s : State) := commitWith s x q d (statusOf d.outcomes) (flipBits d.bytes) cs
  let odd (s : State) (sev : Nat) (ks : List Nat) : State :=
    (ks.flatMap (fun k => ((d.units.find? (fun u => u.1 == k)).map (·.2)).getD [0])).foldl (fun s u =>
      fault s (s.noteOf (hostActor x q d.seq) { unit := u, sev := sev, cls := 0x0D, key := 3 })) s
  let differs := old.filter (fun (c : Nat × List Bytes) => decide (c.2 ≠ cs))
  let s := if differs.isEmpty then s
    else { s with queueObjs := { s.queueObjs with disagrees := satAdd s.queueObjs.disagrees differs.length } }
  if old.isEmpty then done s
  else if agrees then
    if differs.isEmpty then done s
    else done (odd s 2 (differs.map (·.1)))
  else if d.attempts < 3 then outcome s x q d.seq stData
  else commitWith (odd s 3 (d.checks.map (·.1))) x q d stData 0 []

/-- The failed descriptor that replay begins with: the first in dispatch order (R231, R232). -/
def replayHead (s : State) (x : Nat) : Option (Nat × HostDesc) :=
  ((s.ctx x).allDescs.filter (fun d => !d.2.undispatched && !d.2.decided && !d.2.marked && wantsReplay s x d.2)).foldl (fun b d =>
    match b with
    | none => some d
    | some e => if d.2.turn < e.2.turn then some d else b) none

/-- COMMIT of the oldest descriptor of the queue whose outcome does not yet stand (R228). -/
def commitStep (s : State) (x q : Nat) : State :=
  let k := s.queue x q
  let c := s.ctx x
  match k.descs.find? (fun d => !d.decided) with
  | none => s
  | some d =>
    if d.undispatched || s.mem.relocating.isSome || decide (s.device = .bootLimited) || !(attemptEnded s x q d) ||
        (wantsReplay s x d && decide (c.st ≠ .resetting)) || (d.marked && (replayHead s x).isSome) ||
        (decide (c.st = .resetting) && decide (d.outcomes ≠ [BitVec.ofNat 16 stCancelled])) then s
    else match (match lowestFailure d.outcomes with
      | some st => some st
      | none => if peerUnreachable s x d.bytes then some 0x0701 else none) with
      | some st =>
        let s := match d.call.bind (fun k => s.inst? k.1 k.2) with
          | some i => memberAbort s { i with desc := none } st
          | none => s
        commitWith s x q d st 0 []
      | none =>
        if byteAt d.bytes 8 ≠ 1 then commitWith s x q d (statusOf d.outcomes) 0 []
        else if commitHeld c d then s
        else if dFence d.bytes then
          match d.phase, d.call with
          | .prepared, _ => if d.released then commitWith s x q d (statusOf d.outcomes) 0 [] else s
          | _, some (comm, seq) => giveRelease (s.modDesc x q d.seq (fun d => { d with phase := .prepared })) comm seq
          | _, none => commitWith s x q d (statusOf d.outcomes) 0 []
        else if d.phase = .prepared then (if d.released then compareChecks s x q d else s)
        else match hashOutputs s d with
          | .error e =>
            let s := fault s (s.noteOf (hostActor x q d.seq) (memErrNote s { sev := 3, cls := 2 } e))
            outcome s x q d.seq stData
          | .ok (s, cs) =>
            let s := journalWrite s x q d.seq 192
              (commitBlock s 1 (if cs.isEmpty then 0 else d.attempts) (statusOf d.outcomes) (recordFlags d) d.seq 0 cs)
            let d := { d with phase := .prepared, checks := d.checks ++ [(d.attempts, cs)] }
            let s := s.modDesc x q d.seq (fun _ => d)
            match d.call with
            | some (comm, seq) => giveRelease s comm seq
            | none => compareChecks s x q d

/-! ### Completion (R219, R229, R233) -/

/-- The 32-byte record of R219. -/
def hostRecord (s : State) (x q : Nat) (d : HostDesc) : Bytes :=
  let op := byteAt d.bytes 8
  leBytes 8 d.seq.toNat ++ leBytes 2 d.status.toNat ++ leBytes 2 d.flags.toNat ++
  leBytes 1 (if 1 ≤ op ∧ op ≤ 5 then op else 0) ++ leBytes 1 x ++ leBytes 1 q ++ leBytes 1 d.attempts ++
  leBytes 8 d.acceptTime.toNat ++ leBytes 8 s.clkc.toNat

/-- The current bits that a commit flips, and a VT_SET's slots, take effect (R217, R226, R229). -/
def applyFlips (s : State) (x : Nat) (d : HostDesc) : State :=
  let c := s.ctx x
  if byteAt d.bytes 8 = 5 then
    let v : VTensor :=
      { slot0 := BitVec.ofNat 48 (hAddr0 d.bytes), slot1 := BitVec.ofNat 48 (hAddr1 d.bytes), current := hCurrent d.bytes }
    s.setCtx x { c with vts := smSet {} c.vts (hOpId d.bytes) v }
  else
    s.setCtx x { c with vts := (List.range 8).foldl (fun m i =>
      if d.flips.getLsbD i then smMod {} m (bVt (hBinding d.bytes i)) (fun v => { v with current := !v.current }) else m) c.vts }

/-- The signal of a host descriptor, or its cancel mark (R229, R233). -/
def hostSignal (s : State) (x q : Nat) (d : HostDesc) (good : Bool) : State :=
  let b := d.bytes
  let t := s.transEntry x (dSigVid b)
  let a := hostActor x q d.seq
  if !(dSigEn b) || !(trValid t) || (good && decide (dSigAmt b = 0)) then s
  else if trKind t = 1 then sendSignal s t (!good) (dSigAmt b) .command
  else if !good && trKind t = 2 then poisonBarrier s x (trTarget t) false
  else { s with signals := s.signals ++ [{ ctx := Fin.ofNat 256 x, vid := BitVec.ofNat 12 (dSigVid b)
                                           amount := BitVec.ofNat 8 (dSigAmt b), cancel := !good, reserved := false
                                           src := a, member := 576 }] }

/-- A failed descriptor's cascade begins, unless it belongs to one already (R233). -/
def noteCascade (s : State) (x q : Nat) (d : HostDesc) : State :=
  let c := s.ctx x
  let t := s.transEntry x (dSigVid d.bytes)
  if !(dSigEn d.bytes) || !(trValid t) || trKind t == 1 || decide (c.st = .resetting) ||
      c.cascades.any (fun k => k.members.contains (q, d.seq)) then s
  else s.setCtx x { c with cascades := c.cascades ++
    [{ queue := q, seq := d.seq, upto := c.accepts, vids := [dSigVid d.bytes] }] }

/-- Counters that a replay set in monotonic mode go back to service mode, each as soon as it is idle with 0 ≤ d ≤ buffers (R190,
R232). -/
def backToService (s : State) (x : Nat) : State :=
  (s.ctx x).replayed.foldl (fun s p =>
    let c := s.ctr p
    if !(s.counterIdle x c.vid.toNat p) || c.frozen then s
    else match c.setMode false with
      | none => s
      | some k =>
        let s := s.setCtr p k
        s.setCtx x { s.ctx x with replayed := (s.ctx x).replayed.filter (· ≠ p) }) s

/-- A descriptor of the replay set has completed; with the last of them the context is READY again (R232). -/
def leaveReplay (s : State) (x q : Nat) (seq : BitVec 64) : State :=
  let c := s.ctx x
  if !(c.replaySet.contains (q, seq)) then s
  else
    let rest := c.replaySet.filter (fun e => decide (e ≠ (q, seq)))
    s.setCtx x { c with replaySet := rest, st := if rest.isEmpty && decide (c.st = .recovering) then .ready else c.st }

/-- Step 6 for the oldest descriptor of the queue, once its state 2 block is echoed (R228, R229). -/
def completeStep (s : State) (x q : Nat) : State :=
  let k := s.queue x q
  match k.descs with
  | [] => s
  | d :: rest =>
    if !(d.isCommitted) || decide (s.device = .bootLimited) || s.drinex.echoes.contains (x, q, true, d.seq) || s.mem.relocating.isSome then s
    else
      let good := decide (d.status.toNat < 2)
      let s := if good then applyFlips s x d else s
      let rec_ := hostRecord s x q d
      let (m, err) := writeMem s s.mem none (k.cringBase + d.seq.toNat % 512 * 32) rec_
      let s := match err with
        | none => { s with mem := m }
        | some e => queueFault s x q d.seq e
      let s := releaseCores s x q d.seq
      let s := s.modQueue x q (fun k => ({ k with descs := rest, complete := d.seq + 1 } : Queue).settle)
      let s := if dIrq d.bytes && err.isNone then raise s k.irqVector.toNat else s
      let s := hostSignal s x q d good
      let s := if good then s else noteCascade s x q d
      let s := leaveReplay s x q d.seq
      if (s.ctx x).replaySet.isEmpty then backToService s x else s

/-! ### Replay (R232) -/

/-- The first descriptor of a replay set, in dispatch order, that names a counter in its wait, or in its signal. -/
def firstNaming (set : List (Nat × HostDesc)) (k : Nat × Bool) : Option HostDesc :=
  (set.filter (fun d => d.2.named.contains k)).foldl (fun b d => match b with
    | none => some d.2
    | some e => if d.2.turn < e.turn then some d.2 else b) none

/-- Counters that the operations of a replay set name (R232). -/
def replayCounters (set : List (Nat × HostDesc)) : List Nat := ((set.flatMap (fun d => d.2.named)).map (·.1)).eraseDups

/-- A counter set for replay, in monotonic mode and its mark gone: P goes back to where the first producer of the set found it, C to
where the first consumer did, and for a consumer outside the set stays at its position (R190, R191, R232; log entry 149). -/
def rollBack (s : State) (set : List (Nat × HostDesc)) (p : Nat) : State :=
  let c := s.ctr p
  if c.frozen then s
  else
    let rec_ (w : Bool) := (firstNaming set (p, w)).bind (fun d => (d.record.find? (fun r => r.1 == p)).map (·.2))
    let base := match rec_ false, rec_ true with
      | some r, _ => r
      | none, some r => r
      | none, none => (c.produced, c.consumed, c.grants)
    let start := if c.monotonic then base.2.1 else 0
    let produced := match rec_ false with
      | some r => r.1
      | none => if c.monotonic then c.produced else c.produced + BitVec.ofNat 64 (c.grants - base.2.2)
    let consumed := match rec_ true with
      | some r => start + BitVec.ofNat 64 (r.2.2 - base.2.2)
      | none => start + BitVec.ofNat 64 (c.grants - base.2.2)
    s.setCtr p { c with monotonic := true, produced := produced, consumed := consumed, cancelled := false }

/-- A descriptor of the set whose own wait is to be made again: the counter it waits on was set to a record older than its own. -/
def waitsAnew (s : State) (x : Nat) (set : List (Nat × HostDesc)) (d : HostDesc) : Bool :=
  let t := s.transEntry x (dWaitVid d.bytes)
  d.marked || (dWaitEn d.bytes && trValid t && trKind t == 0 &&
    (match firstNaming set (trTarget t, true) with
     | some e => decide (e.turn < d.turn)
     | none => false))

/-- A replayed member tells the root by RERUN with the next attempt; the instance restarts with the root's decision
(R312, R313). -/
def rerunCall (s : State) (d : HostDesc) : State :=
  match d.call with
  | none => s
  | some (comm, seq) => match s.inst? comm seq with
    | none => s
    | some i =>
      if i.releaseSent then s
      else match treeParent 0 (i.members s) s.me with
        | some l => sendFrame s (i.frame s 4 0 0 l 0 true (leBytes 8 (i.attempt + 1))) 0
        | none => rerunDown s i (i.attempt + 1)

/-- The replay set: the failed descriptor, every later-dispatched uncommitted one, and those that its marks cancelled (R232). -/
def replayGroup (s : State) (x : Nat) (h : HostDesc) : List (Nat × HostDesc) :=
  let all := (s.ctx x).allDescs.filter (fun d => !d.2.decided)
  let run := all.filter (fun d => !d.2.undispatched && !d.2.marked && decide (h.turn ≤ d.2.turn))
  run ++ all.filter (fun d => d.2.marked && d.2.named.any (fun k => k.2 && (replayCounters run).contains k.1))

/-- A descriptor stands ready to be dispatched again. -/
def HostDesc.again (d : HostDesc) (anew : Bool) : HostDesc :=
  { d with phase := if anew then .accepted else .waiting, granted := !anew && dWaitEn d.bytes, cancelled := false, marked := false
           queued := false, outcomes := [], tiles := [], workDone := false, released := false, flags := 0 }

/-- What firmware still waits for before it can replay: an issued instruction of the set runs, or a tail-signal for one of its counters
is held (R114, R190). -/
def replayWaits (s : State) (x : Nat) (set : List (Nat × HostDesc)) : Bool :=
  (set.flatMap (fun d => s.coresFor x d.1 d.2.seq)).any (fun g => !(canStop s g)) ||
  (replayCounters set).any (fun p => s.trailerHeld (s.ctr p).owner.toNat (s.ctr p).vid.toNat)

/-- REPLAY: the context recovers and stops, the set's work is withdrawn, its counters are set from the records, and it dispatches again;
a context in recovery with nothing to replay is READY again (R208, R232). -/
def replayStart (s : State) (x : Nat) : State :=
  let c := s.ctx x
  match replayHead s x with
  | none => if c.st = .recovering && c.replaySet.isEmpty then s.setCtx x { c with st := .ready } else s
  | some (_, h) =>
    let set := replayGroup s x h
    if !([CtxState.ready, .recovering].contains c.st) || replayWaits s x set then s
    else
      let ps := replayCounters set
      let s := s.setCtx x { c with st := .recovering, replaySet := (c.replaySet ++ set.map (fun d => (d.1, d.2.seq))).eraseDups
                                   replayed := (c.replayed ++ ps.filter (fun p => !((s.ctr p).monotonic))).eraseDups }
      let gs := set.flatMap (fun d => s.coresFor x d.1 d.2.seq)
      let s := stopContext s x
      let s := gs.foldl (fun s g => withdrawCore (emptyWindows s g) g) s
      let s := gs.foldl (fun s g =>
        let k := s.core g
        let clean (r : UnitRing) : UnitRing := { r with window := [] }
        s.setCore g { k with engine := clean k.engine, vector := clean k.vector, dma := clean k.dma, job := none, progress := none }) s
      let s := set.foldl (fun s d => releaseCores s x d.1 d.2.seq) s
      let s := (s.coresOf x).foldl startCore s
      let s := ((s.ctx x).allDescs.filter (·.2.queued)).foldl (fun s d =>
        (leaveWaits s (hostActor x d.1 d.2.seq)).modDesc x d.1 d.2.seq (fun d => { d with queued := false })) s
      let s := ps.foldl (fun s p => rollBack s set p) s
      let s := set.foldl (fun s d => rerunCall s d.2) s
      set.foldl (fun s d => (s.modDesc x d.1 d.2.seq (fun k => k.again (waitsAnew s x set k))).modQueue x d.1 Queue.settle) s

/-! ### Cascade (R233) -/

/-- Descriptors accepted before the failure that wait on a marked counter and have not dispatched. -/
def cascadeNext (c : Context) (k : Cascade) : Option (Nat × HostDesc) :=
  c.allDescs.find? (fun d => d.2.undispatched && decide (d.2.order < k.upto) && dWaitEn d.2.bytes &&
    k.vids.contains (dWaitVid d.2.bytes) && !(k.members.contains (d.1, d.2.seq)))

/-- Dependants are cancelled one after another; the number bounds them. -/
def cascadeRun (s : State) (x : Nat) (k : Cascade) : Nat → State × Cascade
  | 0 => (s, k)
  | n + 1 =>
    let (s, k) := cascadeRun s x k n
    match cascadeNext (s.ctx x) k with
    | none => (s, k)
    | some (q, d) =>
      let t := s.transEntry x (dSigVid d.bytes)
      let more := if dSigEn d.bytes && trValid t && trKind t != 1 then [dSigVid d.bytes] else []
      (closeDesc s x q stCancelled d, { k with members := k.members ++ [(q, d.seq)], vids := (k.vids ++ more).eraseDups })

/-- The marks of a cascade are cleared with CLEAR (R206, R233). -/
def clearMarks (s : State) (x : Nat) (vids : List Nat) : State :=
  vids.foldl (fun s v =>
    let t := s.transEntry x v
    if !(trValid t) then s
    else match trKind t with
      | 0 => if (s.ctr (trTarget t)).waiters.isEmpty then s.setCtr (trTarget t) (s.ctr (trTarget t)).clear else s
      | 2 => if (s.barrierWaiters x (trTarget t)).isEmpty then
          s.setBarrier x (trTarget t) (s.barrier x (trTarget t)).clear else s
      | _ => s) s

/-- A mark of the cascade is still on its way to its counter (R192, R233). -/
def markUnderWay (s : State) (x : Nat) (vids : List Nat) : Bool :=
  s.signals.any (fun m => m.cancel && m.ctx.val == x && vids.contains m.vid.toNat)

/-- CANCEL_CASCADE of a failed descriptor: first its dependants are cancelled; once they have all completed, its marks are
cleared (R233). -/
def cascadeStep (s : State) (x q : Nat) (seq : BitVec 64) : State :=
  let c := s.ctx x
  match c.cascades.find? (fun k => k.queue == q && decide (k.seq = seq)) with
  | none => s
  | some k =>
    let others := c.cascades.filter (fun e => !(e.queue == q && decide (e.seq = seq)))
    let live := k.members.any (fun m => c.allDescs.any (fun d => d.1 == m.1 && decide (d.2.seq = m.2)))
    if !k.started || (cascadeNext c k).isSome then
      let (s, k) := cascadeRun s x k c.allDescs.length
      let c := s.ctx x
      s.setCtx x { c with cascades := others ++ [{ k with started := true }] }
    else if live || markUnderWay s x k.vids then s
    else clearMarks (s.setCtx x { c with cascades := others }) x k.vids

/-! ### Snapshot (R236) -/

def snapshotBytes : Nat := 21860352

/-- State of the 64-byte context entries of the snapshot. -/
def snapContext (c : Context) : Bytes :=
  padTo 64 (leBytes 1 (ctxCode c.st) ++ leBytes 1 (contextStateByte c) ++ leBytes 6 0 ++
    leBytes 8 (match c.plan with
      | some p => p.planId.toNat
      | none => 0) ++ leBytes 4 c.allDescs.length)

/-- The instance record of R318. -/
def instanceBytes (i : Instance) : Bytes :=
  padTo 256 (leBytes 4 i.commId.toNat ++ leBytes 4 i.seq.toNat ++ leBytes 1 i.ctx ++ leBytes 1 i.st ++
    leBytes 1 (if i.st = 0 then 0 else i.attempt) ++ leBytes 1 i.kind.toNat ++ leBytes 1 i.encoding.toNat ++
    leBytes 1 i.reason ++ leBytes 2 i.memberCount ++ padTo 8 i.hash ++ leBytes 8 i.count ++ leBytes 4 i.held ++
    leBytes 4 i.rank ++ leBytes 8 i.combined.length ++ leBytes 8 i.delivered.length ++ leBytes 8 i.time.toNat)

def snapPlan (c : Context) : Bytes :=
  match c.plan with
  | none => leBytes 256 0
  | some p => padTo 256 (leBytes 8 p.planId.toNat ++ p.logical ++ p.mapping)

/-- A byte string put at module addresses of a decoded range. -/
def putAt (s : State) (a : Nat) (bs : Bytes) : State := { s with mem := (writeMem s s.mem none a bs).1 }

/-- Objects written at consecutive places of n bytes, from a. -/
def putTable (a n : Nat) (bytes : State → Nat → Bytes) (keys : List Nat) (s : State) : State :=
  keys.foldl (fun t k => putAt t (a + k * n) (bytes s k)) s

/-- The snapshot written at its target: everything it does not list is zero (R236). -/
def takeSnapshot (s : State) (a : Nat) : State :=
  let z := s.mem.cells.filter (fun c => !((List.range (snapshotBytes / 4096)).any (fun i =>
    s.translate (a + 4096 * i) == some (c.1 / 4096 * 4096))))
  let blocks := s.mem.poison.filter (fun b => !((List.range (snapshotBytes / 4096)).any (fun i =>
    s.translate (a + 4096 * i) == some (b / 64 * 4096))))
  let s0 := s
  let s := { s with mem := { s.mem with cells := z, poison := blocks } }
  let present := ((List.range 192).filter s.present).length
  let s := putAt s a (leBytes 2 1 ++ leBytes 2 0 ++ leBytes 4 s.rel.epoch.toNat ++ leBytes 8 s.clkc.toNat ++
    leBytes 1 s.mem.journal.length ++ leBytes 1 0 ++ leBytes 2 present)
  let xs := s0.contexts.map (·.1)
  let s := putTable (a + 0x1000) 64 (fun _ x => snapContext (s0.ctx x)) xs s
  let s := putTable (a + 0x5000) 64 (fun _ k => (queueConfigBytes (s0.queue (k / 8) (k % 8))).take 24 ++
    queuePointerBytes (s0.queue (k / 8) (k % 8))) (xs.flatMap (fun x => (List.range 8).map (x * 8 + ·))) s
  let s := putTable (a + 0x25000) 32 (fun _ p => counterRecord (s0.ctr p)) (s0.counters.map (·.1)) s
  let s := s0.contexts.foldl (fun s x => putTable (a + 0x225000 + x.1 * 32768) 8
    (fun _ v => leBytes 8 (s0.transEntry x.1 v)) (x.2.trans.map (·.1)) s) s
  let s := s0.contexts.foldl (fun s x => putTable (a + 0xA25000 + x.1 * 43008) 168
    (fun _ v => barrierRecord (s0.barrier x.1 v)) ((x.2.barriers.map (·.1)).filter (· < 256)) s) s
  let s := putTable (a + 0x14A5000) 256 (fun _ k => instanceBytes (smGet {} s0.coll.instances k))
    (s0.coll.instances.map (·.1)) s
  let s := putTable (a + 0x14A9000) 256 (fun _ x => snapPlan (s0.ctx x)) xs s
  putTable (a + 0x14B9000) 512 (fun _ x => bitmapBytes 512 (fun v => (smGet ({} : VTensor) (s0.ctx x).vts v).current)) xs s

/-- A write of 0x01 to SnapshotCommand (R236). -/
def snapshotStart (s : State) : Except Nat State :=
  let a := s.queueObjs.snapAddress.toNat
  if s.queueObjs.snapBusy then .error abState
  else if a % 4096 != 0 || !(s.rangeOk none a snapshotBytes) || (match s.regionId a with
      | some r => decide (16 < r)
      | none => true) then .error abRange
  else
    let s := { s with queueObjs := { s.queueObjs with snapBusy := true, snapDone := 0 } }
    .ok (takeSnapshot s a)

/-! ### The journal sweep (R448) -/

/-- Listed cells of the journal areas leave: they read zero. -/
def Memory.zeroJournal (m : Memory) : Memory :=
  let keep (p : Nat) : Bool := decide (p < 0x80000000000) || decide (0x100000000000 ≤ p) || decide (journalBytes ≤ p % 2 ^ 38)
  { m with cells := m.cells.filter (fun c => keep c.1), poison := m.poison.filter (fun b => keep (b * 64)) }

/-- What a warm reset clears once the sweep is over: contexts with their plans, queues, barriers and versioned tensors, and the
counters; a context's energy counter counts on (R433, R446, R448). -/
def clearContexts (s : State) : State :=
  let f (c : Nat × Context) : Nat × Context := (c.1, { energy := c.2.energy, energyCarry := c.2.energyCarry })
  { s with counters := [], contexts := (s.contexts.map f).filter (fun c => decide (c.2 ≠ ({} : Context))) }

/-- After the last echo of the sweep has been acknowledged the journal areas are zeroed and the new epoch's journal begins, with
both copies (R448). -/
def sweepEnd (s : State) : State :=
  if s.power.sweeping && s.drinex.echoes.isEmpty then
    let s := clearContexts { s with mem := s.mem.zeroJournal }
    { s with power := { s.power with sweeping := false, sweepDone := true } }
  else s

/-- Journal slots that hold anything. -/
def usedSlots (s : State) : List Nat :=
  let one (c : Nat) : List Nat :=
    (s.mem.cells.filter (fun e => decide (channelBase c ≤ e.1) && decide (e.1 < channelBase c + journalBytes))).map
      (fun e => (e.1 - channelBase c) / 256)
  (s.mem.journal.flatMap one).eraseDups

/-- The ACCEPT block of a slot: the slot's context, queue and seq where the block is valid and of an epoch. -/
def slotOfEpoch (s : State) (epoch k : Nat) : Option (Nat × Nat × BitVec 64) :=
  let area := k / 512
  let b := s.mem.journal.findSome? (fun c =>
    let b := s.mem.getBytes (channelBase c + k * 256) 256
    let seq := BitVec.ofNat 64 (leAt b 8 8)
    if blockValid (b.take 64) seq && byteAt b 0 == 1 && leAt b 4 4 == epoch && seq.toNat % 512 == k % 512 then some seq else none)
  b.map (fun seq => (area / 8, area % 8, seq))

/-- Slots of the previous epoch in sequence order per queue. -/
def previousSlots (s : State) : List (Nat × Nat × BitVec 64) :=
  let all := (usedSlots s).filterMap (slotOfEpoch s (s.rel.epoch.toNat - 1))
  all.mergeSort (fun a b => decide (a.1 < b.1) || (a.1 == b.1 && (decide (a.2.1 < b.2.1) || (a.2.1 == b.2.1 &&
    decide (a.2.2.toNat ≤ b.2.2.toNat)))))

/-- Steps 1 and 2 for one slot: a state 2 block where there is none, and its commit-echo. -/
def sweepSlot (s : State) (k : Nat × Nat × BitVec 64) : State :=
  let old := (journalSlot s k.1 k.2.1 k.2.2).drop 192
  let s0 := { s with rel := { s.rel with epoch := s.rel.epoch - 1 } }
  let b := if byteAt old 0 = 2 then old else commitBlock s0 2 0 stCancelled 0 k.2.2 0 []
  let s := if byteAt old 0 = 2 then s else journalWrite s k.1 k.2.1 k.2.2 192 b
  sendEcho s k.1 k.2.1 true k.2.2 b

/-- The sweep of the kept journal at step 7 after a warm reset, once Drinex is UP (R448). -/
def sweep (s : State) : State :=
  let p := s.power
  if s.device ≠ .bootLimited || p.bootStep ≠ 7 || p.sweepDone || p.sweeping || !s.linkUp then s
  else
    let s := (previousSlots s).foldl sweepSlot { s with drinex := { s.drinex with echoes := [] } }
    sweepEnd { s with power := { s.power with sweeping := true } }

/-! ### Journal relocation and part losses (R225, R234) -/

/-- A lost journal channel: the survivor is copied to the lowest-numbered other populated channel of the same I/O die, or one
copy remains (R225). -/
def relocate (s : State) (lost : Nat) : State :=
  if !(s.mem.journal.contains lost) || s.mem.channels.getLsbD lost then s
  else
    let rest := s.mem.journal.filter (· ≠ lost)
    let cand := (List.range 8).find? (fun c => c / 4 == lost / 4 && c != lost && s.mem.channels.getLsbD c && !(rest.contains c))
    let s := { s with mem := { s.mem with journal := rest } }
    let s := raise s 0x38D
    match cand, rest with
    | some c, r :: _ => { s with mem := { s.mem with relocating := some (r, c) } }
    | _, _ => s

/-- The copy is done: two copies again, and acceptance and commit resume (R225). -/
def relocationDone (s : State) : State :=
  match s.mem.relocating with
  | none => s
  | some (r, c) =>
    let keep := s.mem.cells.filter (fun e => decide (e.1 < channelBase c) || decide (channelBase c + journalBytes ≤ e.1))
    let moved := s.mem.cells.filter (fun e => decide (channelBase r ≤ e.1) && decide (e.1 < channelBase r + journalBytes))
    let m := { s.mem with cells := keep }
    let m := moved.foldl (fun (m : Memory) e => m.setByte (e.1 - channelBase r + channelBase c) e.2) m
    let s := { s with mem := { m with journal := s.mem.journal ++ [c], relocating := none } }
    raise (fault s { unit := unitIndexed 9 c, sev := 2, cls := 0x0D, key := 2, src := 9 }) 0x38D

/-- A RUN's bindings, header and data, do not all lie on parts in service (R234). -/
def touchesLost (s : State) (d : HostDesc) : Bool :=
  (List.range (hCount d.bytes)).any (fun i => !(tensorInService s (d.readAt i)) || !(tensorInService s (d.writeAt i)))

/-- A RUN reads, or reads or writes, the DDR5 window (R234). -/
def bindsDdr (s : State) (outputs : Bool) (d : HostDesc) : Bool :=
  let inWindow (a : Nat) : Bool := match s.regionId a with
    | some r => r == 16
    | none => false
  (List.range (hCount d.bytes)).any (fun i =>
    (bRole (hBinding d.bytes i) != 1 && inWindow (d.readAt i)) || (outputs && inWindow (d.writeAt i)))

/-- Dispatched, undecided RUNs that need what was lost take a status and are not replayed (R234). -/
def blameLost (s : State) (need : Nat → Nat → HostDesc → Bool) (status : Nat) : State :=
  s.contexts.foldl (fun s x => x.2.allDescs.foldl (fun s d =>
    if !d.2.undispatched && !d.2.decided && byteAt d.2.bytes 8 == 1 && need x.1 d.1 d.2 then
      (outcome s x.1 d.1 d.2.seq status).modDesc x.1 d.1 d.2.seq (fun d => { d with lost := true })
    else s) s) s

/-- The other RUNs in flight are replayed: their attempt ends with FAULT_DATA, and nothing bars the next (R231, R234). -/
def replayOthers (s : State) : State :=
  s.contexts.foldl (fun s x => (s.ctx x.1).allDescs.foldl (fun s d =>
    if !d.2.undispatched && !d.2.decided && byteAt d.2.bytes 8 == 1 && !d.2.lost && !(attemptEnded s x.1 d.1 d.2) then
      outcome s x.1 d.1 d.2.seq stData
    else s) s) s

/-- A stack or channel leaves service: its channel or stack bit clears, RUNs that touch it take FAULT_DATA, and the others in flight are
replayed (R234). -/
def loseStack (s : State) (h : Nat) : State :=
  let s := { s with mem := { s.mem with hbmStacks := s.mem.hbmStacks &&& ~~~(1#12 <<< h) } }
  replayOthers (blameLost s (fun _ _ d => touchesLost s d) stData)

def loseChannel (s : State) (m : Nat) : State :=
  let s0 := s
  let s := { s with mem := { s.mem with channels := s.mem.channels &&& ~~~(1#8 <<< m) } }
  blameLost s (fun _ _ d => bindsDdr s0 true d || touchesLost s d) stData

/-- The physical counter lies in a compute die's sync array (R181). -/
def counterDie (p : Nat) : Nat := p / 32768

/-- The context holds a core of die d, or a counter or barrier of its sync array (R182, R449). -/
def holdsDie (s : State) (d x : Nat) : Bool :=
  (s.coresOf x).any (fun g => g / 96 == d) ||
  s.counters.any (fun p => counterDie p.1 == d && p.2.allocated && p.2.owner.toNat == x) ||
  ((s.ctx x).barrierDie == d && (s.ctx x).barriers.any (fun b => decide (b.1 < 256)))

/-- READY contexts that hold the die enter RECOVERING (R182, R234, R449). -/
def recoverHolders (s : State) (d : Nat) : State :=
  s.contexts.foldl (fun s x =>
    if holdsDie s d x.1 && decide ((s.ctx x.1).st = .ready) then s.setCtx x.1 { s.ctx x.1 with st := .recovering } else s) s

/-- A descriptor's wait or signal names a counter or barrier of a die's sync array. -/
def namesDie (s : State) (x : Nat) (d : Nat) (b : Bytes) : Bool :=
  let at_ (en : Bool) (vid : Nat) : Bool :=
    let t := s.transEntry x vid
    en && trValid t && ((trKind t == 0 && counterDie (trTarget t) == d) || (trKind t == 2 && (s.ctx x).barrierDie == d))
  at_ (dWaitEn b) (dWaitVid b) || at_ (dSigEn b) (dSigVid b)

/-- A compute die leaves service: its cores become absent, its stacks and its sync array are gone; contexts that hold it recover (R182,
R234). -/
def loseDie (s : State) (d : Nat) : State :=
  let gone (g : Nat) := g / 96 == d
  let s := recoverHolders s d
  let s := blameLost s (fun x q k => (s.coresFor x q k.seq).any gone || (s.parkedFor x q k.seq).any (fun e => gone e.1) ||
    namesDie s x d k.bytes || k.named.any (fun c => counterDie c.1 == d)) stRetired
  let waits := s.contexts.flatMap (fun x => x.2.allDescs.filterMap (fun k =>
    if k.2.undispatched && namesDie s x.1 d k.2.bytes then some (x.1, k.1, k.2) else none))
  let s := waits.foldl (fun s k => closeDesc s k.1 k.2.1 stRetired k.2.2) s
  let lost := (List.range 192).filter (fun g => gone g && s.present g)
  let s := lost.foldl (fun s g => emcy (emptyWindows s g) 0xFF01 (s.coreUnit g)) s
  let s := { s with slotMap := s.slotMap.filter (fun e => !(gone e.1))
                    cores := s.cores.filter (fun e => !(gone e.1)) }
  let s := lost.foldl leaveBarriers s
  let s := { s with counters := s.counters.filter (fun e => counterDie e.1 ≠ d)
                    rel := { s.rel with lostDies := d :: s.rel.lostDies.filter (· ≠ d) } }
  let s := (List.range 6).foldl (fun s i => loseStack s (6 * d + i)) s
  raise s 0x382

/-- The Drinex link goes DOWN without another word. -/
def linkLost (s : State) : State :=
  if s.drinex.st = 0 ∨ s.drinex.st = 4 then s
  else
    let up := s.linkUp
    let d := s.drinex
    raise { s with drinex := { d with st := 0, laneMap := 0, downs := if up then satAdd d.downs 1 else d.downs, resume := false } } 0x38C

/-- An I/O die leaves service: its channels, its ports, and on die 0 Drinex and the CAN node. The journal runs on the other die's
channel alone, RUNs with an input in the DDR5 window take FAULT_DATA and the others in flight are replayed (R16, R234, R268). -/
def loseIo (s : State) (d : Nat) : State :=
  let s0 := s
  let s := { s with rel := { s.rel with lostDies := (2 + d) :: s.rel.lostDies.filter (· ≠ 2 + d) } }
  let s := (List.range 64).foldl (fun s p => if p / 4 % 2 = d then portDown s p else s) s
  let gone := (List.range 4).foldl (fun (m : BitVec 8) i => m &&& ~~~(1#8 <<< (4 * d + i))) s.mem.channels
  let s := { s with mem := { s.mem with channels := gone } }
  let s := replayOthers (blameLost s (fun _ _ k => bindsDdr s0 false k || touchesLost s k) stData)
  let s := (List.range 4).foldl (fun s i => relocate s (4 * d + i)) s
  if d = 0 then linkLost { s with dict := { s.dict with busState := 2 } } else s

/-- PART_LOST (R234). -/
def losePart (s : State) (part : Part) : State :=
  match part with
  | .computeDie d => loseDie s d
  | .ioDie d => loseIo s d
  | .stack h => loseStack s h
  | .ddr m => loseChannel s m
  | .adapter => linkLost s

end Sys2Proof.Machine
end

