-- ==== Sys2Proof/Machine/Collectives.lean ====
section
/-! DEFINITION. The events of the Transit lane and of collective calls (12_collectives.md). -/

namespace Sys2Proof.Machine

/-- A frame with a good CRC, for this module and from a member of its communicator, is handled; the others are discarded and
counted (R270, R305). -/
def withFrame (s : State) (f : Frame) (k : State → Nat → Comm → State) : State :=
  if !f.crcOk then { s with fabric := { s.fabric with crcDiscards := satAdd s.fabric.crcDiscards 1 } }
  else if decide (s.fabric.moduleId ≠ some f.dst) then s
  else match s.commOf f.comm with
    | some (x, c) => if c.members.contains f.src.toNat then k s x c
        else { s with coll := { s.coll with discards := satAdd s.coll.discards 1 } }
    | none => { s with coll := { s.coll with discards := satAdd s.coll.discards 1 } }

def fromChild (s : State) (c : Comm) (tree : Nat) (f : Frame) : Bool :=
  (treeChildren tree c.members s.me).any (fun l => l.2 == f.src.toNat)

def fromParent (s : State) (c : Comm) (tree : Nat) (f : Frame) : Bool :=
  (treeParent tree c.members s.me).map (·.2) == some f.src.toNat

/-- Two frames of one instance, attempt and direction say the same thing: same round, tree, sender and index, and for ANCHOR
the same first block (R306, R307). -/
def sameFrame (a b : Frame) : Bool :=
  decide (a.round = b.round) && decide (a.tree = b.tree) && decide (a.src = b.src) && decide (a.index = b.index) &&
  (decide (a.round ≠ 1#3) || leAt a.payload 0 6 == leAt b.payload 0 6)

/-- A repeat of an UP whose DOWN was sent makes the node send that DOWN again (R307). -/
def answerRepeat (s : State) (downs : List Frame) (f : Frame) : State :=
  (downs.filter (fun d => decide (d.dst = f.src) && (decide (d.typ = 3#6) || (decide (d.round = f.round) && decide (d.tree = f.tree) &&
    (decide (d.round ≠ 1#3) || leAt d.payload 0 6 == leAt f.payload 0 6))))).foldl (fun s d => sendFrame s d 1) s

/-- The frame found no free slot: discarded, counted, and the wait of R292 begins. -/
def noSlot (s : State) (comm seq : BitVec 32) : State :=
  { s with coll := { s.coll with
    discards := satAdd s.coll.discards 1
    slotless := if s.coll.slotless.contains (comm, seq) then s.coll.slotless else s.coll.slotless ++ [(comm, seq)] } }

/-- The instance of a frame, taken with its first frame; none for a call that has ended here or finds no slot (R292). -/
def instanceFor (s : State) (x : Nat) (c : Comm) (f : Frame) : Option State :=
  if (s.inst? f.comm f.seq).isSome then some s
  else if decide (f.seq.toNat < c.next.toNat) || (s.pastCall f.comm f.seq).isSome then none
  else takeSlot s x c f.seq

/-- A BARRIER UP of a child (R315). -/
def barrierUp (s : State) (x : Nat) (f : Frame) : State :=
  match boundSlot s x f.comm with
  | none => s
  | some slot =>
    let b := s.barrier x slot
    if decide (b.gen = f.seq) then
      if s.coll.barrierUps.contains (f.comm, f.seq, f.src.toNat) then s
      else multiBarrier 2 { s with coll := { s.coll with barrierUps := (f.comm, f.seq, f.src.toNat) :: s.coll.barrierUps } } x slot
    else if f.seq.toNat < b.gen.toNat then
      sendFrame s (mkFrame s 2 4 f.src.toNat f.comm f.seq f.stage.toNat 0 1 0 true []) 1
    else s

/-- TRANSIT_UP: one UP per child, round, index and attempt is applied; a repeat is answered by the DOWN that was sent
(R306, R307). -/
def execTransitUp (f : Frame) (s : State) : Host.Outcome State Fault Refusal :=
  .next (withFrame (endSnapshot s) f (fun s x c =>
    if !(fromChild s c f.tree.toNat f) then s
    else if f.round = 4#3 then barrierUp s x f
    else match instanceFor s x c f with
      | none => match s.pastCall f.comm f.seq with
        | some p => answerRepeat s p.downs f
        | none => if f.seq.toNat < c.next.toNat then s else noSlot s f.comm f.seq
      | some s => match s.inst? f.comm f.seq with
        | none => s
        | some i =>
          if decide (f.attempt.toNat ≠ i.attempt) then s
          else if i.ups.any (sameFrame f) then answerRepeat s i.downs f
          else
            let s := s.modInst f.comm f.seq (fun i => { i with ups := i.ups ++ [f] })
            match f.round.toNat with
            | 0 => tryOpen s f.comm f.seq f.tree.toNat
            | 1 => tryAnchor s f.comm f.seq (leAt f.payload 0 6)
            | 3 => tryRelease s f.comm f.seq
            | _ => s))

/-- A BARRIER DOWN: the round completes here and below (R315). -/
def barrierDown (s : State) (x : Nat) (c : Comm) (f : Frame) : State :=
  match boundSlot s x f.comm with
  | none => s
  | some slot =>
    let b := s.barrier x slot
    if decide (b.gen ≠ f.seq) || b.poisoned || !b.full then s
    else
      let s := sendAllFrames s (treeChildren 0 c.members s.me) (fun st m => mkFrame s 2 4 m f.comm f.seq st 0 1 0 true [])
      checkBarrier (completeRound s x slot) x slot

/-- The DOWN of OPEN with this node's own staging region and counter in its first frame (R306). -/
def relayOpen (s : State) (i : Instance) (fs : List Frame) : List Bytes :=
  match openSelf s i, fs with
  | some me, f :: rest =>
    overlay f.payload 16 (leBytes 8 (fabricAddr s me.staging) ++ leBytes 1 i.ctx ++ [0#8] ++ leBytes 2 me.vid) ::
      rest.map (·.payload)
  | _, fs => fs.map (·.payload)

/-- TRANSIT_DOWN: the root's totals and decision pass this node (R306, R308, R310, R294). -/
def execTransitDown (f : Frame) (s : State) : Host.Outcome State Fault Refusal :=
  .next (withFrame (endSnapshot s) f (fun s x c =>
    let tree := f.tree.toNat
    if !(fromParent s c tree f) then s
    else if f.round = 4#3 then barrierDown s x c f
    else match s.inst? f.comm f.seq with
      | none => s
      | some i =>
        if decide (f.attempt.toNat ≠ i.attempt) || decide (i.st = 7) || (decide (i.st = 6) && decide (f.round ≠ 0#3)) ||
            i.fromAbove.any (sameFrame f) then s
        else
          let s := s.modInst f.comm f.seq (fun i => { i with fromAbove := i.fromAbove ++ [f] })
          let drop (p : Frame → Bool) (s : State) := s.modInst f.comm f.seq (fun i =>
            { i with pendingUp := i.pendingUp.filter (fun u => !(decide (u.1.round = f.round) && decide (u.1.tree = f.tree) && p u.1)) })
          match s.inst? f.comm f.seq with
          | none => s
          | some i => match f.round.toNat with
            | 0 =>
              let got := roundFrames i.fromAbove 0 tree f.src.toNat
              if !(roundComplete got) then s
              else
                openEnds (drop (fun _ => true) (sendDowns s i 0 tree (relayOpen s i got))) f.comm f.seq
            | 1 => match callOf s i with
              | none => s
              | some k =>
                let first := leAt f.payload 0 6
                let fs := (treeChildren 0 c.members s.me).map (fun l =>
                  i.frame s 2 1 0 l f.index.toNat f.last f.payload)
                let s := drop (fun u => leAt u.payload 0 6 == first) s
                let s := s.modInst f.comm f.seq (fun i =>
                  storeAnchors (ceilDiv k.op.count 64) f.payload { i with downs := i.downs ++ fs })
                fs.foldl (fun s f => sendFrame s f 0) s
            | 3 => applyRelease (drop (fun _ => true) s) i
            | _ => s))

/-- The decision ABORT of a call that has ended here before its members': it goes on to the children, once (R311, R313). -/
def relayAbort (s : State) (c : Comm) (f : Frame) (st : Nat) : State :=
  match s.pastCall f.comm f.seq with
  | none => s
  | some p =>
    if decide (p.status = 0) || p.downs.any (fun d => decide (d.typ = 3#6)) then s
    else
      let fs := (treeChildren 0 c.members s.me).map (fun l =>
        mkFrame s 3 0 l.2 f.comm f.seq l.1 0 f.attempt.toNat 0 true (leBytes 8 st))
      let s := { s with coll := { s.coll with
        past := mapWhere (fun e => decide (e.comm = f.comm) && decide (e.seq = f.seq)) (fun e => { e with downs := fs }) s.coll.past } }
      fs.foldl (fun s f => sendFrame s f 0) s

/-- ABORT: from a child it goes on to the root, which decides; from the parent it is the decision. In the BARRIER round it poisons the
barrier, and the status says what the host descriptors concerned take: COLL_MISMATCH or BARRIER_OVERRUN, else CANCELLED_DEPENDENCY. The
status is taken as it comes (R194, R201, R311, R313, R315; log entry 132). -/
def execAbort (f : Frame) (s : State) : Host.Outcome State Fault Refusal :=
  .next (withFrame (endSnapshot s) f (fun s x c =>
    let st := leAt f.payload 0 2
    if f.round = 4#3 then
      match boundSlot s x f.comm with
      | none => s
      | some slot =>
        let b := s.barrier x slot
        if decide (b.gen ≠ f.seq) || b.poisoned then s
        else
          let links := ((treeParent 0 c.members s.me).toList ++ treeChildren 0 c.members s.me).filter (fun l => l.2 != f.src.toNat)
          poisonHere (sendAllFrames s links (fun g m => mkFrame s 3 4 m f.comm f.seq g 0 1 0 true (leBytes 8 st)))
            x slot (st == 0x0403) (st == 0x0401)
    else
      let up := fromChild s c 0 f
      if !up && !(fromParent s c 0 f) then s
      else match instanceFor s x c f with
        | none => if (s.pastCall f.comm f.seq).isSome || decide (f.seq.toNat < c.next.toNat) then
            (if up then s else relayAbort s c f st) else noSlot s f.comm f.seq
        | some s => match s.inst? f.comm f.seq with
          | none => s
          | some i =>
            if decide (f.attempt.toNat ≠ i.attempt) then s
            else if up then abortUp s i st else abortDown s i st))

/-- RERUN: from a child it goes on to the root, which decides; from the parent it is the decision (R312, R313). -/
def execRerun (f : Frame) (s : State) : Host.Outcome State Fault Refusal :=
  .next (withFrame (endSnapshot s) f (fun s _ c =>
    let n := byteAt f.payload 0
    match s.inst? f.comm f.seq with
    | none => s
    | some i =>
      if decide (n ≠ i.attempt + 1) || decide (3 < n) || decide (6 ≤ i.st) then s
      else if fromParent s c 0 f then rerunDown s i n
      else if fromChild s c 0 f then
        match treeParent 0 c.members s.me with
        | some l => sendFrame s (i.frame s 4 0 0 l 0 true (leBytes 8 n)) 0
        | none => rerunDown s i n
      else s))

/-- CREDIT: the parent has freed the staging slot of a chunk (R303). -/
def execCredit (f : Frame) (s : State) : Host.Outcome State Fault Refusal :=
  .next (withFrame (endSnapshot s) f (fun s _ c =>
    let chunk := leAt f.payload 0 6
    match s.inst? f.comm f.seq with
    | none => s
    | some i =>
      if decide (f.attempt.toNat ≠ i.attempt) || !(fromParent s c (chunk % 2) f) || i.credits.contains chunk then s
      else s.modInst f.comm f.seq (fun i => { i with credits := i.credits ++ [chunk] })))

/-- CHUNK_COMBINE (R297, R303, R304). -/
def execChunkCombine (comm seq : BitVec 32) (chunk : Nat) (det : Detect) (s : State) : Host.Outcome State Fault Refusal :=
  .next (workChunk (endSnapshot s) comm seq chunk det)

/-- The local RUN that waits at dispatch for an instance's slot. -/
def waitingCall (s : State) (x : Nat) (c : Comm) (seq : BitVec 32) : Option (Nat × HostDesc) :=
  match (s.ctx x).plan with
  | none => none
  | some p => (s.ctx x).allDescs.find? (fun d => decide (d.2.phase = .waiting) &&
      (calledComm p d.2.bytes).map (·.commId) == some c.commId &&
      (d.2.call == some (c.commId, seq) || (d.2.call.isNone && decide (c.next = seq))))

/-- SLOT_WAIT_TIMEOUT: an instance without a slot for 10 ms is aborted with COLL_TABLE_EXHAUSTED (R292). -/
def execSlotWaitTimeout (comm seq : BitVec 32) (s : State) : Host.Outcome State Fault Refusal :=
  .next (
    let s := endSnapshot s
    match s.coll.slotless.contains (comm, seq), s.commOf comm with
    | true, some (x, c) =>
      let frame (st m : Nat) := mkFrame s 3 0 m comm seq st 0 1 0 true (leBytes 8 0x0402)
      let links := match treeParent 0 c.members s.me with
        | some l => [l]
        | none => treeChildren 0 c.members s.me
      let s := sendAllFrames s links frame
      let e : PastCall := { comm := comm, seq := seq, status := 0x0402, downs := [] }
      let s := raise { s with coll := { s.coll with
        exhausted := satAdd s.coll.exhausted 1
        slotless := s.coll.slotless.filter (fun e => decide (e ≠ (comm, seq)))
        past := (e :: s.coll.past).take 64 } } 0x389
      match waitingCall s x c seq with
      | none => s
      | some (q, d) =>
        let s := if d.call.isNone then advanceCall s x comm else s
        (s.modDesc x q d.seq (fun d => d.closeWith 0x0402)).modQueue x q Queue.settle
    | _, _ => s)

/-- TRANSIT_TIMEOUT: an unanswered UP is sent again on the next plane, and so are a barrier's UP and CREDITs whose next chunk
has not come (R307). -/
def execTransitTimeout (comm seq : BitVec 32) (round index : BitVec 3) (s : State) : Host.Outcome State Fault Refusal :=
  .next (
    let s := endSnapshot s
    let count (s : State) (n : Nat) : State := { s with coll := { s.coll with resends := satAdd s.coll.resends n } }
    if round = 4#3 then
      let mine := (s.coll.barrierUps.filter (fun u => decide (u = (comm, seq, s.me)))).length
      match s.commOf comm with
      | none => s
      | some (_, c) => match treeParent 0 c.members s.me with
        | some (st, p) =>
          if mine = 0 then s
          else
            let s := sendFrame s (mkFrame s 1 4 p comm seq st 0 1 0 true []) mine
            count { s with coll := { s.coll with barrierUps := (comm, seq, s.me) :: s.coll.barrierUps } } 1
        | none => s
    else match s.inst? comm seq with
      | none => s
      | some i =>
        if round = 2#3 then
          match callOf s i with
          | none => s
          | some c =>
            let due := i.combined.filter (fun k => k % 8 == index.toNat && decide (k + 8 < c.chunks) && !(i.combined.contains (k + 8)))
            due.foldl (fun s k =>
              let kids := treeChildren (k % 2) c.comm.members s.me
              let n := smGet 0 i.creditSends k + 1
              let s := kids.foldl (fun s l => sendFrame s
                (mkFrame s 5 2 l.2 comm seq l.1 (k % 2) i.attempt (k % 8) true (leBytes 8 k)) n) s
              count (s.modInst comm seq (fun i => { i with creditSends := smPut i.creditSends k n })) kids.length) s
        else
          let mine (u : Frame × Nat) : Bool := decide (u.1.round = round) && decide (u.1.index = index)
          let due := i.pendingUp.filter mine
          let s := due.foldl (fun s u => sendFrame s u.1 (u.2 + 1)) s
          count (s.modInst comm seq (fun i => { i with pendingUp := mapWhere mine (fun u => (u.1, u.2 + 1)) i.pendingUp }))
            due.length)

/-- COLLECTIVE_DEADLINE: a member that has not reached RELEASE sends ABORT with FABRIC_UNREACHABLE and completes with it; one
whose own ABORT brought no decision gives up its slot (R311). -/
def execCollectiveDeadline (comm seq : BitVec 32) (s : State) : Host.Outcome State Fault Refusal :=
  .next (
    let s := endSnapshot s
    match s.inst? comm seq with
    | none => s
    | some i =>
      if i.st = 7 then abortDown s i 0x0701
      else if i.dispatched s && decide (i.st < 5) then memberAbort s i 0x0701 else s)

end Sys2Proof.Machine
end

