-- ==== Sys2Proof/Machine/TrainingOps.lean ====
section
/-! DEFINITION. Training support (10_training_support.md): the update stage (R244 to R251), phase flips and PERMUTE
(R257 to R259, R316), the numerics watch (R260 to R263). -/

namespace Sys2Proof.Machine

/-! ### Split master weights (R244) -/

/-- The split format of an update kind: binary32, or its extension to 39 fraction bits. -/
def splitFmt (wide : Bool) : Fmt :=
  if wide then ⟨8, 39, 127, 2 ^ 40 - 1, 88, true⟩ else ⟨8, 23, 127, 2 ^ 24 - 1, 104, true⟩

/-- The exact value of a pattern of a format with infinities. -/
def Fmt.decode (f : Fmt) (bits : Nat) : ExactVal :=
  let frac := bits % 2 ^ f.fb
  let ex := bits / 2 ^ f.fb % 2 ^ f.eb
  let neg := bits / 2 ^ (f.fb + f.eb) % 2 == 1
  if ex = 2 ^ f.eb - 1 then (if frac = 0 then (if neg then .negInf else .posInf) else .nan)
  else
    let m : Int := if ex = 0 then frac else frac + 2 ^ f.fb
    .fin (if neg then -m else m) ((if ex = 0 then 1 else ex : Nat) - (f.bias : Int) - f.fb)

/-- An exact value stored in a split format under RNE or SR (R249, R250). -/
def Fmt.store (f : Fmt) (mode u : Nat) (v : ExactVal) : Rounded :=
  match v with
  | .nan => { bits := (2 ^ (f.eb + 1) - 1) * 2 ^ (f.fb - 1), invalid := true }
  | .posInf => { bits := infBits f false }
  | .negInf => { bits := infBits f true }
  | .fin m e => if m = 0 then { bits := 0 } else roundFloat f mode false u (decide (m < 0)) m.natAbs e

/-- Sum of exact values; infinities of both signs give NaN. -/
def exactAdd (a b : ExactVal) : ExactVal :=
  match a, b with
  | .nan, _ => .nan
  | _, .nan => .nan
  | .fin ma ea, .fin mb eb =>
    let lo := min ea eb
    .fin (ma * 2 ^ (ea - lo).toNat + mb * 2 ^ (eb - lo).toNat) lo
  | .fin _ _, x => x
  | x, .fin _ _ => x
  | x, y => if x = y then x else .nan

def exactNeg (a : ExactVal) : ExactVal :=
  match a with
  | .fin m e => .fin (-m) e
  | .posInf => .negInf
  | .negInf => .posInf
  | .nan => .nan

def exactFinite (a : ExactVal) : Bool :=
  match a with
  | .fin _ _ => true
  | _ => false

/-- An exact value times an FP32 value, rounded once to FP32 under RNE. -/
def rnTimes (v : ExactVal) (b : Nat) : VRes :=
  match v, fpVal b with
  | .nan, _ => vNan
  | _, .nan => vNan
  | .fin m e, .fin mb eb => vFin 0 (xor (decide (m < 0)) (fpNeg b)) (m * mb) (e + eb)
  | .fin m _, _ => if m = 0 then vInvalid 1 else vInf (xor (decide (m < 0)) (fpNeg b))
  | x, .fin mb _ => if mb = 0 then vInvalid 1 else vInf (xor (decide (x = .negInf)) (fpNeg b))
  | x, _ => vInf (xor (decide (x = .negInf)) (fpNeg b))

/-! ### One element (R248 to R250) -/

/-- What an update reads of one element: the gradient sum, the master pattern, and the moments. -/
structure UpdIn where
  s  : ExactVal
  w  : Nat
  m  : Nat
  v  : Nat
deriving DecidableEq, Repr

/-- What it writes: the master pattern, the moments, the image, and what the element raises. -/
structure UpdOut where
  w    : Nat
  m    : Nat
  v    : Nat
  img  : Nat
  skip : Bool := false
  ovf  : Bool := false
  bad  : Bool := false
deriving DecidableEq, Repr

/-- The wide image of a master pattern: rn(w1). -/
def imageOf (f : Fmt) (w : Nat) : Rounded := convert 0x01 0 false 0 (f.decode w)

/-- The end of both computations: d and e subtracted from w, stored, and imaged (R248, R249). -/
def updFinish (f : Fmt) (mode u : Nat) (i : UpdIn) (m1 v1 : Nat) (d e : VRes) (steps : List VRes) : UpdOut :=
  let w1 := f.store mode u (exactAdd (exactAdd (f.decode i.w) (exactNeg (fpVal d.bits))) (exactNeg (fpVal e.bits)))
  let img := imageOf f w1.bits
  let rs := d :: e :: steps
  { w := w1.bits, m := m1, v := v1, img := img.bits, ovf := w1.ovf || img.ovf || rs.any (·.ovf)
    bad := w1.invalid || rs.any (fun r => r.bad.isSome) }

/-- UPD of one element (R248); `p` the parameters, `mom` whether m is bound. -/
def updElem (f : Fmt) (mode u : Nat) (p : Nat → Nat) (mom : Bool) (i : UpdIn) : UpdOut :=
  let g := rnTimes i.s (p 0)
  if !(exactFinite i.s) || !(exactFinite (fpVal g.bits)) || !(exactFinite (f.decode i.w)) ||
      (mom && !(exactFinite (fpVal i.m))) then
    { w := i.w, m := i.m, v := i.v, img := (imageOf f i.w).bits, skip := true }
  else
    let m1 := if mom then vFma 0 (p 3) i.m g.bits else g
    let d := vMul 0 (p 1) m1.bits
    let e := rnTimes (f.decode i.w) (p 2)
    updFinish f mode u i m1.bits i.v d e [m1]

/-- UPDA of one element (R248). -/
def updaElem (f : Fmt) (mode u : Nat) (p : Nat → Nat) (i : UpdIn) : UpdOut :=
  let g := rnTimes i.s (p 0)
  if !(exactFinite i.s) || !(exactFinite (fpVal g.bits)) || !(exactFinite (f.decode i.w)) ||
      !(exactFinite (fpVal i.m)) || !(exactFinite (fpVal i.v)) then
    { w := i.w, m := i.m, v := i.v, img := (imageOf f i.w).bits, skip := true }
  else
    let mg := vMul 0 (p 4) g.bits
    let m1 := vFma 0 (p 3) i.m mg.bits
    let gg := vMul 0 g.bits g.bits
    let vg := vMul 0 (p 6) gg.bits
    let v1 := vFma 0 (p 5) i.v vg.bits
    let h := vMul 0 (p 7) v1.bits
    let r := vSqrt 0 h.bits
    let q := vAdd 0 r.bits (p 8)
    let u' := vDiv 0 m1.bits q.bits
    let d := vMul 0 (p 1) u'.bits
    let e := rnTimes (f.decode i.w) (p 2)
    updFinish f mode u i m1.bits v1.bits d e [mg, m1, gg, vg, v1, h, r, q, u']

/-! ### The update stage (R246, R251) -/

/-- Tensor places of an update: high and low planes, moments, image (R246). -/
structure UpdTensors where
  adam : Bool
  m    : Option Nat
  v    : Option Nat
  img  : Option Nat
deriving DecidableEq, Repr

/-- Fifth tensor of a UPD of five: the momentum when it is bound as the planes are, else the image (log entry 40). -/
def updTensors (c : Call) : UpdTensors :=
  let n := c.op.tensors.length
  let role (i : Nat) := bRole (hBinding c.desc.bytes i)
  if decide (0x32 ≤ c.op.kind.toNat) then
    { adam := true, m := some 4, v := some 5, img := if 6 < n then some 6 else none }
  else
    let mom := decide (5 < n) || (n == 5 && role 4 == role 2 && (role 4 == 2 || decide (4 < c.op.inputs.length)))
    let base := if mom then 5 else 4
    { adam := false, m := if mom then some 4 else none, v := none, img := if base < n then some base else none }

/-- The bytes of an element of whole bytes at its position in a tensor. -/
def putElem (s : State) (a : Nat) (h : Bytes) (pos n bits : Nat) : Except MemErr State :=
  match writeMem s s.mem none (a + 64 + elemBitOff h pos / 8) (leBytes n bits) with
  | (m, none) => .ok { s with mem := m }
  | (_, some e) => .error e

/-- The shard of the master tensor that an element lies in, if it is this module's (R246, R255). -/
def updPosition (s : State) (c : Call) (lin : Nat) : Option Nat :=
  let o := ownerOf s c (c.op.tensors.getD 2 0#32) lin
  if o.1 = s.me then some (lin - o.2.2) else none

/-- The elements this module updates, in order. -/
def updShard (s : State) (c : Call) : List Nat := (List.range c.op.count).filter (fun l => (updPosition s c l).isSome)

/-- Progress of an update over its elements. -/
structure UpdRun where
  s      : State
  status : Nat := 0
  notes  : List FaultNote := []
  done   : Nat := 0
  skips  : Nat := 0
  ovf    : Bool := false
  bad    : Bool := false
  pos    : Nat := 0
  merges : List (Nat × Option Int × Nat) := []

def UpdRun.fail (r : UpdRun) (e : MemErr) : UpdRun :=
  { r with status := stData, notes := r.notes ++ [memErrNote r.s { sev := 3, cls := 2 } e] }

/-- Tag and presence that a written element merges into the header of tensor i. -/
def UpdRun.merge (r : UpdRun) (i code bits : Nat) : UpdRun :=
  let old := (r.merges.find? (fun m => m.1 == i)).getD (i, none, 0)
  { r with merges := (i, maxTag old.2.1 (elemTag code bits), Nat.lor old.2.2 (elemPresence code bits)) ::
      r.merges.filter (fun m => m.1 != i) }

/-- Bits of an element of binding i as it is read. -/
def updRead (s : State) (c : Call) (i pos : Nat) : Except MemErr Nat :=
  match readMem s s.mem 64 (c.desc.readAt i) with
  | .error e => .error e
  | .ok h => tensorElem s (c.desc.readAt i) h pos

/-- Bits of an element written to the slot of binding i. -/
def updWrite (s : State) (c : Call) (i pos n bits : Nat) : Except MemErr State :=
  match readMem s s.mem 64 (c.desc.writeAt i) with
  | .error e => .error e
  | .ok h => putElem s (c.desc.writeAt i) h pos n bits

/-- Values written one after another; the first error stops them. -/
def updWrites (c : Call) (pos : Nat) : State → List (Nat × Nat × Nat) → Except MemErr State
  | s, [] => .ok s
  | s, (i, n, bits) :: rest =>
    match updWrite s c i pos n bits with
    | .error e => .error e
    | .ok s => updWrites c pos s rest

/-- What an update reads of one element. -/
def updInput (s : State) (c : Call) (t : UpdTensors) (lo pos : Nat) (v : ExactVal) : Except MemErr UpdIn :=
  let opt (i : Option Nat) : Except MemErr Nat := match i with
    | some i => updRead s c i pos
    | none => .ok 0
  match updRead s c 2 pos, updRead s c 3 pos, opt t.m, opt t.v with
  | .ok hi, .ok l, .ok m, .ok v' => .ok { s := v, w := hi * 2 ^ lo + l, m := m, v := v' }
  | .error e, _, _, _ => .error e
  | _, .error e, _, _ => .error e
  | _, _, .error e, _ => .error e
  | _, _, _, .error e => .error e

/-- One element of the update (R248 to R251). A parity mismatch at its position ends the update before it; a residue mismatch
ends it with FAULT_DATA after it (R378). -/
def updStep (det : Detect) (c : Call) (t : UpdTensors) (p : Nat → Nat) (mode seed stream : Nat) (r : UpdRun)
    (g : Nat × ExactVal) : UpdRun :=
  let wide := decide (c.op.kind.toNat % 2 = 1)
  let lo := if wide then 32 else 16
  let f := splitFmt wide
  if r.status ≠ 0 && r.notes.any (fun n => n.cls != 4) then r
  else if det = .parity r.pos then
    { r with status := stData, notes := r.notes ++ [{ parityNote r.s with unit := combinerUnit (g.1 / 4096) }] }
  else
    let r := if det = .residue r.pos then
        { r with status := stData, notes := r.notes ++ [{ residueNote r.s r.pos with unit := combinerUnit (g.1 / 4096) }] } else r
    let r := { r with pos := r.pos + 1 }
    match updPosition r.s c g.1 with
    | none => r
    | some pos => match updInput r.s c t lo pos g.2 with
      | .error e => r.fail e
      | .ok i =>
        let u := if mode = 4 then philoxWord seed (c.op.tensors.getD 2 0#32).toNat (hStep c.desc.bytes) stream g.1 else 0
        let o := if t.adam then updaElem f mode u p i else updElem f mode u p t.m.isSome i
        let hi := o.w / 2 ^ lo
        let outs := [(2, 2, hi), (3, lo / 8, o.w % 2 ^ lo)] ++ (t.m.map (fun i => (i, 4, o.m))).toList ++
          (t.v.map (fun i => (i, 4, o.v))).toList ++ (t.img.map (fun i => (i, 4, o.img))).toList
        match updWrites c pos r.s outs with
        | .error e => r.fail e
        | .ok s =>
          let r := { r with s := s, done := r.done + boolNat !o.skip, skips := r.skips + boolNat o.skip
                            ovf := r.ovf || o.ovf, bad := r.bad || o.bad || o.skip }
          let r := r.merge 2 0x02 hi
          ((t.m.map (fun i => (i, o.m))).toList ++ (t.v.map (fun i => (i, o.v))).toList ++
            (t.img.map (fun i => (i, o.img))).toList).foldl (fun r x => r.merge x.1 0x01 x.2) r

/-- The headers of the planes, moments and image made ready for a new production (R251). -/
def updHeaders (s : State) (c : Call) (t : UpdTensors) : Except MemErr State :=
  let one (acc : Except MemErr State) (i : Nat) : Except MemErr State := match acc, c.plan.tensor (c.op.tensors.getD i 0#32) with
    | .ok s, some r => initHeader s r none (c.desc.writeAt i)
    | acc, _ => acc
  ([2] ++ t.m.toList ++ t.v.toList ++ t.img.toList).foldl one (.ok s)

/-- Mode, seed and stream of the high plane (R249). -/
def updMode (c : Call) : Nat × Nat × Nat :=
  let hi := c.op.tensors.getD 2 0#32
  let mode := match c.plan.tensor hi with
    | some t => t.mode.toNat
    | none => 0
  match c.plan.seeds.find? (fun r => decide (r.1 = hi)) with
  | some r => (mode, r.2.1.toNat, r.2.2.toNat)
  | none => (mode, 0, 0)

/-- The update of a shard by its reduced gradients (R246 to R251). -/
def updRun (s : State) (det : Detect) (c : Call) (grads : List (Nat × ExactVal)) : UpdRun :=
  let t := updTensors c
  match updHeaders s c t, readMem s s.mem 64 (c.desc.readAt 1 + 64) with
  | .error e, _ => ({ s := s } : UpdRun).fail e
  | _, .error e => ({ s := s } : UpdRun).fail e
  | .ok s, .ok ps =>
    let (mode, seed, stream) := updMode c
    let r := grads.foldl (updStep det c t (fun i => leAt ps (4 * i) 4) mode seed stream) { s := s }
    if r.status ≠ 0 then r
    else r.merges.foldl (fun r m => match mergeHeader r.s r.s.mem (c.desc.writeAt m.1) m.2.1 m.2.2 with
      | (mem, none) => { r with s := { r.s with mem := mem } }
      | (_, some e) => r.fail e) r

/-- The update call of a queue that waits for its reduced gradients (R246). -/
def updCall (s : State) (x q : Nat) (lo hi : Nat) : Option (Instance × Call) :=
  s.coll.instances.findSome? (fun e =>
    if e.2.ctx = x && (e.2.desc.map (·.1)) == some q && e.2.st == 4 then
      match callOf s e.2 with
      | some c => if decide (lo ≤ c.op.kind.toNat) && decide (c.op.kind.toNat ≤ hi) then some (e.2, c) else none
      | none => none
    else none)

/-- The exact value of a reduced element from the form in which it came to the update stage (R297, R298, R300). -/
def sumValue (k : Coding) (field : Bytes) (anchor : Nat) : ExactVal :=
  let t := (decodeTerms k 1 field).headD {}
  match k with
  | .exact _ lsb => termVal lsb t
  | .anchored b => termVal (blockExp b anchor) t
  | .raw _ => .nan

/-- S of every element of this module's shard, in order: from this module's own combiners, or as other modules sent it; none when
one is missing (R248, R297). -/
def updSums (s : State) (i : Instance) (c : Call) (sent : List SentSum) : Option (List (Nat × ExactVal)) :=
  let k := c.coding s
  allSome (fun l => match i.sums.find? (fun e => e.1 == l), sent.find? (fun e => e.lin == l) with
    | some e, none => some (l, sumValue k e.2.1 e.2.2)
    | none, some e => some (l, sumValue k e.field e.anchor.toNat)
    | _, _ => none) (updShard s c)

/-- UPD or UPDA: the reduced gradient of every element of this module's shard meets its master weight (R246 to R251). The sums of
this module's combiners stand in the instance; those of other modules' come with the command, and until every element of the shard has
one the update does not begin (log entry 40). -/
def update (s : State) (x q lo hi : Nat) (sent : List SentSum) (det : Detect) : State :=
  match (updCall s x q lo hi).bind (fun ic => (updSums s ic.1 ic.2 sent).map (fun g => (ic, g))) with
  | none => s
  | some ((i, c), grads) =>
    if grads.isEmpty then doneInst s i true
    else
      let a := hostActor c.x c.q c.desc.seq
      let s := match det with
        | .memUe a => s.poisonAt a
        | .memCe ad => corrected s (s.noteOf a { opcode := c.op.kind.toNat, sev := 1, cls := 1 }) ad
        | _ => s
      let r := updRun s det c grads
      let s := r.s
      let s := { s with training := { s.training with
        updElements := satAdd s.training.updElements r.done, updSkips := satAdd s.training.updSkips r.skips } }
      let s := s.modDesc c.x c.q c.desc.seq (fun d => addFlags d r.bad r.ovf false)
      if r.status = 0 then doneInst s i false
      else writeNotes (i.blame s stData).draw a c.op.kind.toNat r.notes

end Sys2Proof.Machine
end

