-- ==== Sys2Proof/Machine/FlipOps.lean ====
section
/-! DEFINITION. Phase flips with PERMUTE (R257 to R259, R316) and the numerics watch (R260 to R263). -/

namespace Sys2Proof.Machine

/-! ### Shards (R255, R316) -/

/-- Shard entries of a tensor in a phase. -/
def shardsOf (p : Plan) (ph : Nat) (t : BitVec 32) : List PhaseEntry :=
  p.phases.filter (fun e => e.kind == 3 && e.phase == ph && decide (e.tensor = t))

/-- Tensors whose shard entries differ between two phases, in the order of the map (R258). -/
def movedTensors (p : Plan) (a b : Nat) : List (BitVec 32) :=
  let ts := ((p.phases.filter (fun e => e.kind == 3 && (e.phase == a || e.phase == b))).map (·.tensor)).eraseDups
  let key (ph : Nat) (t : BitVec 32) : List (Nat × Nat × Nat × Nat) := (shardsOf p ph t).map (fun e => (e.modId, e.header, e.first, e.count))
  ts.filter (fun t => decide (key a t ≠ key b t))

/-- Bits of an element of a tensor. -/
def tensorBits (p : Plan) (t : BitVec 32) : Nat :=
  match p.tensor t with
  | some r => fmtBits r.format.toNat
  | none => 8

/-- Elements packed in logical order. -/
def packBits (b : Nat) : List Nat → Bytes
  | [] => []
  | x :: xs =>
    if b = 4 then match xs with
      | [] => leBytes 1 (x % 16)
      | y :: ys => leBytes 1 (x % 16 + 16 * (y % 16)) ++ packBits b ys
    else leBytes (b / 8) x ++ packBits b xs

/-- Bytes of n packed elements. -/
def packedBytes (b n : Nat) : Nat := (b * n + 7) / 8

/-- Dimensions of a tensor's scale array (R155). -/
def scaleDims (h : Bytes) : List Nat :=
  (List.range (hdrRank h)).map (fun j => if j = hdrBlockDim h then ceilDiv (hdrDim h j) 32 else hdrDim h j)

/-- Place in the scale array's logical order of the scale of the element at a logical position. -/
def scaleIndex (h : Bytes) (pos : Nat) : Nat :=
  let idx := (linIndex (hdrDims h) pos).zipIdx.map (fun i => if i.2 = hdrBlockDim h then i.1 / 32 else i.1)
  (idx.zip (scaleDims h)).foldr (fun e acc => e.1 + e.2 * acc) 0

/-- Address of a scale by its place: each row of the scale array begins on a 64-byte boundary (R155). -/
def scaleCell (h : Bytes) (a k : Nat) : Nat :=
  let n := (scaleDims h).headD 1
  dataEnd h a + k / n * roundUp n 64 + k % n

/-- Address of the scale of an MX element, by its logical position (R155). -/
def mxScaleAddr (h : Bytes) (a pos : Nat) : Nat := scaleCell h a (scaleIndex h pos)

/-- An element as PERMUTE carries it: its bits, and the scale of its block for an MX format (R35, R259). -/
structure Moved where
  bits  : Nat
  scale : Nat := 0
deriving DecidableEq, Repr

/-- The element at a position of a shard. -/
def movedAt (s : State) (h : Bytes) (a pos : Nat) : Except MemErr Moved :=
  match tensorElem s a h pos with
  | .error e => .error e
  | .ok b =>
    if isMx (hdrFormat h) then match readMem s s.mem 1 (mxScaleAddr h a pos) with
      | .ok x => .ok { bits := b, scale := byteAt x 0 }
      | .error e => .error e
    else .ok { bits := b }

/-- The elements of a shard of this module. -/
def shardElems (s : State) (e : PhaseEntry) : Except MemErr (List Moved) :=
  match readMem s s.mem 64 e.header with
  | .error err => .error err
  | .ok h => mapE (movedAt s h e.header) (List.range e.count)

/-- This module's shards of a tensor in a phase. -/
def ownShards (s : State) (p : Plan) (ph : Nat) (t : BitVec 32) : List PhaseEntry :=
  (shardsOf p ph t).filter (fun e => e.modId == s.me)

/-- The scale array of a shard, in logical order; none for a format without one (R155). -/
def shardScales (s : State) (h : Bytes) (a : Nat) : Except MemErr Bytes :=
  if isMx (hdrFormat h) then
    (mapE (fun k => readMem s s.mem 1 (scaleCell h a k)) (List.range ((scaleDims h).foldl (· * ·) 1))).map (·.flatMap id)
  else .ok []

/-- Step 1: this module's shards go into the scratch range one after the other, each as its elements packed in logical order and its scale
array behind them; firmware keeps the place of each and the header it had (R316; log entry 104). -/
def copyToScratch (s : State) (x : Nat) (p : Plan) (ph : Nat) (t : BitVec 32) : Except MemErr State :=
  let b := tensorBits p t
  (ownShards s p ph t).foldl (fun acc e => match acc with
    | .error err => .error err
    | .ok s => match readMem s s.mem 64 e.header, shardElems s e with
      | .error err, _ | _, .error err => .error err
      | .ok h, .ok xs => match shardScales s h e.header with
        | .error err => .error err
        | .ok sc =>
          let c := s.ctx x
          let place := match c.flipShards.getLast? with
            | some l => l.2.1 + roundUp (packedBytes b l.1.count + (if isMx (hdrFormat l.2.2) then (scaleDims l.2.2).foldl (· * ·) 1 else 0)) 64
            | none => p.scratch.1
          match writeMem s s.mem none place (packBits b (xs.map (·.bits)) ++ sc) with
          | (m, none) => .ok ({ s with mem := m }.setCtx x { c with flipShards := c.flipShards ++ [(e, place, h)] })
          | (_, some err) => .error err) (.ok (s.setCtx x { s.ctx x with flipShards := [] }))

/-- Elements of a copied shard from the scratch range, by their linear indices. -/
def fromScratch (s : State) (p : Plan) (t : BitVec 32) (e : PhaseEntry × Nat × Bytes) (lin n : Nat) : Except MemErr (List Moved) :=
  let b := tensorBits p t
  mapE (fun j =>
    let pos := lin + j - e.1.first
    let off := pos * b
    match readMem s s.mem ((b + 7) / 8) (e.2.1 + off / 8) with
    | .error err => .error err
    | .ok bs =>
      let x := bitsAt (leNat bs) (off % 8) b
      if isMx (hdrFormat e.2.2) then match readMem s s.mem 1 (e.2.1 + packedBytes b e.1.count + scaleIndex e.2.2 pos) with
        | .ok c => .ok { bits := x, scale := byteAt c 0 }
        | .error err => .error err
      else .ok { bits := x }) (List.range n)

/-- The record of a shard: the tensor's with its slowest dimension cut to the shard's elements, or one dimension of them where that
does not come out even (R255, R316; log entry 104). -/
def shardRec (t : TensorRec) (e : PhaseEntry) : TensorRec :=
  let low := t.dims.dropLast.foldl (· * ·) 1
  if t.rank = 0 then t
  else if low ≠ 0 ∧ e.count % low = 0 then { t with dims := t.dims.dropLast ++ [e.count / low] }
  else { t with rank := 1, blockDim := 0, dims := [e.count] }

/-- The header that describes a shard of another module: as firmware there would write it (R153; log entry 104). -/
def shardHeader (p : Plan) (e : PhaseEntry) : Bytes :=
  match p.tensor e.tensor with
  | some t => headerImage (shardRec t e)
  | none => headerImage { tensorId := e.tensor, format := 0x05, rank := 1, blockDim := 0, cls := 0, ply := 0, windowRule := 0, lsb := 0
                          mode := 0, scale := 0, anchorA := 0, anchorB := 0, dims := [e.count] }

/-- The element at a position of a tensor replaced. -/
def putBitsAt (s : State) (a : Nat) (h : Bytes) (b pos x : Nat) : Except MemErr State :=
  if b = 4 then
    let off := elemBitOff h pos
    match readMem s s.mem 1 (a + 64 + off / 8) with
    | .error e => .error e
    | .ok bs =>
      let old := byteAt bs 0
      let new := if off % 8 = 0 then old / 16 * 16 + x % 16 else old % 16 + 16 * (x % 16)
      match writeMem s s.mem none (a + 64 + off / 8) (leBytes 1 new) with
      | (m, none) => .ok { s with mem := m }
      | (_, some e) => .error e
  else putElem s a h pos (b / 8) x

/-- A moved element in its place, and its scale in that of its block. -/
def putMoved (s : State) (a : Nat) (h : Bytes) (b pos : Nat) (x : Moved) : Except MemErr State :=
  match putBitsAt s a h b pos x.bits with
  | .error e => .error e
  | .ok s =>
    if isMx (hdrFormat h) then match writeMem s s.mem none (mxScaleAddr h a pos) (leBytes 1 x.scale) with
      | (m, none) => .ok { s with mem := m }
      | (_, some e) => .error e
    else .ok s

/-- Elements placed in this module's shard of the new phase, whose header stands as its record says where none of that format and rank
does yet. -/
def placeRange (s : State) (p : Plan) (b : Nat) (e : PhaseEntry) (lin : Nat) (xs : List Moved) : Except MemErr State :=
  match (match p.tensor e.tensor with
    | some t => initHeader s (shardRec t e) none e.header
    | none => .ok s) with
  | .error err => .error err
  | .ok s => match readMem s s.mem 64 e.header with
    | .error err => .error err
    | .ok h => xs.zipIdx.foldl (fun acc x => match acc with
        | .error err => .error err
        | .ok s => putMoved s e.header h b (lin + x.2 - e.first) x.1) (.ok s)

/-- Elements from a position on as they lie behind a shard's header: byte offset and byte. A byte of two FP4 elements, of which only
one is among them, is sent with a free other half (R92, R316; log entry 104). -/
def rangeBytes (s : State) (h : Bytes) (b pos : Nat) (xs : List Nat) : List (Nat × Bytes) :=
  let cells := xs.zipIdx.map (fun x => (elemBitOff h (pos + x.2), x.1))
  if b = 4 then
    ((cells.map (fun c => c.1 / 8)).eraseDups).map (fun o =>
      let half (k : Nat) : Nat := match cells.find? (fun c => c.1 == 8 * o + 4 * k) with
        | some c => c.2
        | none => (Config.neighbourNibble s.draws o).toNat
      (o, leBytes 1 (half 0 + 16 * half 1)))
  else cells.map (fun c => (c.1 / 8, leBytes (b / 8) c.2))

/-- The scales of moved elements as they lie behind a shard's header (R155). -/
def rangeScales (h : Bytes) (pos : Nat) (xs : List Moved) : List (Nat × Bytes) :=
  if isMx (hdrFormat h) then
    let all := xs.zipIdx.map (fun x => (mxScaleAddr h 0 (pos + x.2) - 64, x.1.scale))
    ((all.map (·.1)).eraseDups).filterMap (fun o => (all.find? (fun e => e.1 == o)).map (fun e => (o, leBytes 1 e.2)))
  else []

/-- Ranges that old and new shard entries have in common: old, new, first element, number. -/
def commonRanges (olds news : List PhaseEntry) : List (PhaseEntry × PhaseEntry × Nat × Nat) :=
  olds.flatMap (fun o => news.filterMap (fun n =>
    let lo := max o.first n.first
    let hi := min (o.first + o.count) (n.first + n.count)
    if lo < hi then some (o, n, lo, hi - lo) else none))

/-- A range of elements sent to its new owner: scales, then elements, with the trailer on the last packet (R316). -/
def sendRange (s : State) (p : Plan) (b : Nat) (e : PhaseEntry) (lin : Nat) (xs : List Moved) (ctx vid : Nat) : State :=
  let h := shardHeader p e
  let pos := lin - e.first
  (storeRuns s .command e.modId (e.header + 64) ctx vid
    (joinRuns (rangeScales h pos xs) ++ joinRuns (rangeBytes s h b pos (xs.map (·.bits))))).draw

/-- Step 3: each range of this module's old shards goes to its new owner, to the counter `peer` gives for it; what stays here is copied
into place (R316). -/
def moveRanges (s : State) (x : Nat) (p : Plan) (q : Nat) (t : BitVec 32) (peer : Nat → Nat × Nat) : Except MemErr State :=
  let b := tensorBits p t
  (s.ctx x).flipShards.foldl (fun acc o =>
    (commonRanges [o.1] (shardsOf p q t)).foldl (fun acc r => match acc with
      | .error err => .error err
      | .ok s => match fromScratch s p t o r.2.2.1 r.2.2.2 with
        | .error err => .error err
        | .ok xs =>
          if r.2.1.modId = s.me then placeRange s p b r.2.1 r.2.2.1 xs
          else .ok (sendRange s p b r.2.1 r.2.2.1 xs (peer r.2.1.modId).1 (peer r.2.1.modId).2)) acc) (.ok s)

/-- Ranges that other modules send to this one. -/
def rangesDue (s : State) (p : Plan) (a q : Nat) (t : BitVec 32) : Nat :=
  (commonRanges ((shardsOf p a t).filter (fun e => e.modId != s.me)) ((shardsOf p q t).filter (fun e => e.modId == s.me))).length

/-- Tag and presence of a moved element; an MX element's exponent is its own plus that of its scale, and under a scale of 0xFF it is
NaN (R35, R152). -/
def movedMerge (h : Bytes) (x : Moved) : Option Int × Nat :=
  let f := hdrFormat h
  match savedPly f with
  | some k =>
    let e := (loadElement k (leBytes (24 * k) x.bits)).1
    (termTag (hdrHintLsb h) e, termPresence e)
  | none =>
    if isMx f then match scaleExp x.scale with
      | none => (none, 1)
      | some k => ((elemTag f x.bits).map (· + k), elemPresence f x.bits)
    else (elemTag f x.bits, elemPresence f x.bits)

/-- The tensor is a low plane of split master weights: an update names it fourth (R245, R246). -/
def isLowPlane (p : Plan) (t : BitVec 32) : Bool :=
  p.ops.any (fun o => decide (0x30 ≤ o.kind.toNat) && decide (o.tensors[3]? = some t))

/-- Step 4: headers of the new shards are initialised and take the merges of their elements; a low plane's keeps no tag (R245, R259). -/
def finishShards (s : State) (p : Plan) (q : Nat) (t : BitVec 32) : Except MemErr State :=
  (ownShards s p q t).foldl (fun acc e => match acc, p.tensor t with
    | .error err, _ => .error err
    | .ok s, none => .ok s
    | .ok s, some r =>
      let hint := if r.ply ≠ 0 && r.windowRule == 1 then some (r.cls.toNat, r.ply, r.lsb.toInt) else none
      match initHeader s (shardRec r e) hint e.header with
      | .error err => .error err
      | .ok s =>
        if isLowPlane p t then .ok s
        else match readMem s s.mem 64 e.header, shardElems s e with
          | .error err, _ | _, .error err => .error err
          | .ok h, .ok xs =>
            let m := xs.foldl (fun (acc : Option Int × Nat) x =>
              (maxTag acc.1 (movedMerge h x).1, Nat.lor acc.2 (movedMerge h x).2)) (none, 0)
            match mergeHeader s s.mem e.header m.1 m.2 with
            | (mem, none) => .ok { s with mem := mem }
            | (_, some err) => .error err) (.ok s)

/-! ### Flips (R257, R258) -/

/-- A flip of the context may begin: every accepted RUN of the current phase has committed, and a RUN of the next phase has
been accepted (R257). -/
def flipReady (c : Context) (p : Plan) (q : Nat) : Bool :=
  (firstOfPhase c p q).isSome &&
  c.allDescs.all (fun d => byteAt d.2.bytes 8 != 1 || d.2.isCommitted || !(match opPhase p (hOpId d.2.bytes) with
    | some ph => samePhase p c.phase ph
    | none => false))

/-- A memory error of a flip: recorded, and the flip fails with FAULT_DATA (R258). -/
def flipError (s : State) (x : Nat) (e : MemErr) : State :=
  failFlip (writeNotes s .command 0 [memErrNote s { sev := 3, cls := 2, src := 9, ctx := x } e]) x stData

/-- The step of PERMUTE that a call on the flip communicator is at (R316). -/
def permuteStep (s : State) (x : Nat) (p : Plan) (a q : Nat) (t : BitVec 32) (comm seq : BitVec 32) : State :=
  match s.inst? comm seq with
  | none => s
  | some i =>
    let vid := ((p.calls.find? (fun k => decide (k.commId = comm))).map (fun k => k.vid.toNat)).getD 0
    if i.st = 3 then
      match moveRanges s x p q t (fun m => i.peerCounter m x vid) with
      | .error e => memberAbort (writeNotes s .command 0 [memErrNote s { sev := 3, cls := 2, src := 9, ctx := x } e]) i stData
      | .ok s => s.modInst comm seq (fun i => { i with st := 4 })
    else if i.st = 4 && decide (rangesDue s p a q t ≤ (i.arrivals.map (·.2)).sum) then
      match finishShards s p q t with
      | .error e => memberAbort (writeNotes s .command 0 [memErrNote s { sev := 3, cls := 2, src := 9, ctx := x } e]) i stData
      | .ok s => giveRelease s comm seq
    else s

/-- A PERMUTE call begins: the old shards are copied and OPEN goes out. A shard that cannot be copied ends the call at every member
with FAULT_DATA (R258, R316). -/
def permuteOpen (s : State) (x : Nat) (p : Plan) (a : Nat) (t : BitVec 32) (c : Comm) : State :=
  match copyToScratch s x p a t with
  | .error e => flipError (endCall (advanceCall s x c.commId) c c.next stData) x e
  | .ok s =>
    let started := if (s.inst? c.commId c.next).isSome then some s else takeSlot s x c c.next
    match started with
    | none =>
      if s.coll.slotless.contains (c.commId, c.next) then s
      else { s with coll := { s.coll with slotless := s.coll.slotless ++ [(c.commId, c.next)] } }
    | some s =>
      let s := advanceCall s x c.commId
      let s := s.setCtx x { s.ctx x with permute := some (c.commId, c.next) }
      let f := match p.tensor t with
        | some r => r.format.toNat
        | none => 0
      openCall s c.commId c.next (fun i =>
        { i with kind := 0x25, desc := some (8, 0), hash := callHash 0x25 0 0 f f 0 0xFFFF 0 0 0 c.commId c.next })

/-- A tensor whose old and new shards all lie on this module is moved at once. -/
def permuteLocal (s : State) (x : Nat) (p : Plan) (a q : Nat) (t : BitVec 32) : Except MemErr State :=
  match copyToScratch s x p a t with
  | .error e => .error e
  | .ok s => match moveRanges s x p q t (fun _ => (x, 0)) with
    | .error e => .error e
    | .ok s => finishShards s p q t

/-- A barrier of the flip is entered: over the flip communicator where either map names another module, else it is passed at once. The
flip waits at `stage` for its generation to pass (R258; log entry 145). -/
def flipBarrier (s : State) (x : Nat) (p : Plan) (a q stage : Nat) : State :=
  let alone := (p.phases.filter (fun e => (e.kind == 2 || e.kind == 3) && (e.phase == a || e.phase == q))).all (fun e => e.modId == s.me)
  match alone, p.comms.find? (·.flip) with
  | false, some k =>
    let slot := (boundSlot s x k.commId).getD flipSlot
    let s := s.setCtx x { s.ctx x with flipStage := stage, flipGen := (s.barrier x slot).gen }
    enterBarrier s x slot 0 576 .command
  | _, _ => s.setCtx x { s.ctx x with flipStage := stage + 1 }

/-- A barrier of the flip: poisoned it fails the flip; once its round has passed the flip goes on (R201, R258). -/
def flipWaits (s : State) (x : Nat) (p : Plan) : State :=
  match p.comms.find? (·.flip) with
  | none => s
  | some k =>
    let b := s.barrier x ((boundSlot s x k.commId).getD flipSlot)
    let c := s.ctx x
    if b.poisoned then failFlip s x (if b.mismatch then 0x0401 else if b.overrun then 0x0403 else stCancelled)
    else if decide (b.gen = c.flipGen) then s
    else s.setCtx x { c with flipStage := c.flipStage + 1 }

/-- Cores of the plan's group of an ID, in ascending order. -/
def stageCores (p : Plan) (g : Nat) : List Nat := ((p.groups.find? (fun e => decide (e.1.toNat = g))).map (·.2)).getD []

/-- Cores whose rows the new map moves, with the cores they go to: for each stage that stays on this module and changes its group, core
by core in the order of the two groups (R258; log entry 146). -/
def rowMoves (s : State) (p : Plan) (a q : Nat) : List (Nat × Nat) :=
  let mine (ph : Nat) := p.phases.filter (fun e => e.kind == 2 && e.phase == ph && e.modId == s.me)
  ((mine a).flatMap (fun o => match (mine q).find? (fun e => e.stage == o.stage) with
    | some n => if o.group = n.group then [] else (stageCores p o.group).zip (stageCores p n.group)
    | none => [])).filter (fun m => m.1 != m.2 && s.present m.1 && s.present m.2)

/-- Rows of a core with a valid tag, with their tags and entries. -/
def heldRows (c : Core) : List (Nat × BitVec 32 × List (Nat × Entry)) :=
  (c.tags.filter (fun t => tagValid t.2)).map (fun t => (t.1, t.2, c.skein.filter (fun e => e.1 / 512 == t.1)))

/-- A row put into a core in place of what it held. -/
def putRow (c : Core) (r : Nat × BitVec 32 × List (Nat × Entry)) : Core :=
  { c with tags := smSet 0#32 c.tags r.1 r.2.1
           skein := r.2.2.foldl (fun m e => smSet {} m e.1 e.2) (c.skein.filter (fun e => e.1 / 512 != r.1)) }

/-- The carried rows stand on the engines that the new map names: TSAV and TRST lose nothing (R14, R115, R258). -/
def carryRows (s : State) (x : Nat) (p : Plan) (a q : Nat) : State :=
  let mine (g : Nat) : Bool := (s.core g).owner.map (·.val) == some x
  let rows := ((rowMoves s p a q).filter (fun m => mine m.1 && (mine m.2 || (s.core m.2).owner.isNone))).map
    (fun m => (m.2, heldRows (s.core m.1)))
  rows.foldl (fun s r =>
    let c := s.core r.1
    s.setCore r.1 (if r.2.isEmpty then c else { r.2.foldl putRow c with owner := some (Fin.ofNat 256 x) })) s

/-- The steps of a flip from where it stands; the number bounds the steps taken at once. Carried rows are moved at the switch: no step
before it touches them (R258). -/
def flipSteps : Nat → State → Nat → State
  | 0, s, _ => s
  | n + 1, s, x =>
    let c := s.ctx x
    match c.plan with
    | none => s
    | some p => match nextPhase p c.phase with
      | none => s
      | some q => match c.flipStage with
        | 0 => flipSteps n (flipBarrier s x p c.phase q 1) x
        | 1 | 3 =>
          let t := flipWaits s x p
          if (t.ctx x).flipStage = c.flipStage || !(t.ctx x).flipping then t else flipSteps n t x
        | 2 => match c.permute, c.flipTensors with
          | some (comm, seq), t :: _ => permuteStep s x p c.phase q t comm seq
          | some _, [] => s
          | none, [] => flipSteps n (flipBarrier s x p c.phase q 3) x
          | none, t :: rest =>
            let here := (shardsOf p c.phase t ++ shardsOf p q t).all (fun e => e.modId == s.me)
            match here, p.comms.find? (·.flip) with
            | false, some k => permuteOpen s x p c.phase t k
            | _, _ => match permuteLocal s x p c.phase q t with
              | .error e => flipError s x e
              | .ok s => flipSteps n (s.setCtx x { s.ctx x with flipTensors := rest }) x
        | _ =>
          let s := carryRows s x p c.phase q
          s.setCtx x { s.ctx x with phase := q, flipping := false, flipStage := 0, flipCount := satAdd c.flipCount 1 }

/-- PHASE_FLIP (R257, R258). -/
def phaseFlip (s : State) (x : Nat) : State :=
  let c := s.ctx x
  match c.plan with
  | none => s
  | some p => match nextPhase p c.phase with
    | none => s
    | some q =>
      if c.flipping then flipSteps (c.flipTensors.length + 6) s x
      else if decide (c.st ≠ .ready) || !(flipReady c p q) then s
      else
        let ts := movedTensors p c.phase q
        flipSteps (ts.length + 6) (s.setCtx x { c with flipping := true, flipStage := 0, flipTensors := ts }) x

/-! ### Numerics watch (R261 to R263) -/

/-- The value of a tensor's element: an MX element times its block's scale, a saved skein's its own (R27, R29). -/
def wideValue (s : State) (h : Bytes) (a pos : Nat) : Except MemErr ExactVal :=
  let f := hdrFormat h
  match savedPly f with
  | some p => match readMem s s.mem (24 * p) (a + 64 + elemBitOff h pos / 8) with
    | .ok bs => .ok (termVal (hdrHintLsb h) (loadElement p bs).1)
    | .error e => .error e
  | none => match movedAt s h a pos with
    | .error e => .error e
    | .ok x =>
      if isMx f then .ok (match scaleExp x.scale with
        | some k => scaleVal (decodeElem f x.bits) k
        | none => .nan)
      else .ok (decodeElem f x.bits)

/-- Where the watch reads an operand of the RUN: the wide image the RUN binds beside a high plane, else the operand itself (R261; log
entry 147). -/
def wideSource (p : Plan) (o : OpRec) (d : HostDesc) (i : Nat) : Nat :=
  let t := o.tensors.getD i 0#32
  let images := (p.ops.filter (fun u => decide (0x30 ≤ u.kind.toNat) && decide (u.tensors[2]? = some t))).flatMap (fun u => u.outputs)
  match o.tensors.zipIdx.find? (fun e => e.2 != i && e.1 != t && images.contains e.1 &&
      (p.tensor e.1).any (fun r => decide (r.format = 0x01#8))) with
  | some e => d.readAt e.2
  | none => d.readAt i

/-- Linear position of the element at two indices and a batch element, dimension 0 first. -/
def linAt (h : Bytes) (i0 i1 b : Nat) : Nat :=
  i0 + hdrDim h 0 * ((if hdrRank h < 2 then 0 else i1) + (if hdrRank h < 3 then 0 else hdrDim h 1 * b))

/-- The recomputed element of row m and column n of batch element b of a product RUN: the strict-class sum of the FP32 operands and the
preload, drained to FP32 under RNE with the tile's drain_scale (R261). -/
def watchWide (s : State) (p : Plan) (o : OpRec) (d : HostDesc) (scale : Int) (b m n : Nat) : Except MemErr Nat :=
  let k := hK d.bytes
  let src (i : Nat) : Except MemErr Bound := boundAt s (wideSource p o d i)
  match src 0, src 1 with
  | .error e, _ | _, .error e => .error e
  | .ok ta, .ok tb =>
    let ai := ta.kInner true k (hM d.bytes)
    let bi := tb.kInner false k (hN d.bytes)
    let el (t : Bound) (inner : Bool) (k o : Nat) : Except MemErr ExactVal :=
      wideValue s t.h t.addr (if inner then linAt t.h k o b else linAt t.h o k b)
    let pre : Except MemErr Term := match o.preloads with
      | [] => .ok {}
      | c :: _ => match boundAt s (d.readAt o.inputs.length) with
        | .error e => .error e
        | .ok t => (wideValue s t.h t.addr (if (p.tensor c).any (fun r => decide (r.rank = 1)) then n else linAt t.h n m b)).map (placeTerm (-298))
    let sum := (List.range k).foldl (fun (acc : Except MemErr Term) j => match acc, el ta ai j m, el tb bi j n with
      | .ok t, .ok u, .ok v => .ok (addTerm (some 640) t (productTerm false 640 (-298) o.sign u v 0))
      | .error e, _, _ | _, .error e, _ | _, _, .error e => .error e) pre
    sum.map (fun t => (convert 0x01 0 false 0 (scaleVal (termVal (-298) t) scale)).bits)

/-- |m × 2^e| is at least 2^k times |m' × 2^e'|. -/
def ratioAtLeast (m : Int) (e : Int) (m' : Int) (e' k : Int) : Bool := !(dyLt m.natAbs e m'.natAbs (e' + k))

/-- The bin of two finite values (R262). -/
def watchBin (mn en mw ew : Int) : Nat :=
  let lo := min en ew
  let diff := mn * 2 ^ (en - lo).toNat - mw * 2 ^ (ew - lo).toNat
  if diff = 0 then 0
  else if mw = 0 then 15
  else if !(ratioAtLeast diff lo mw ew (-28)) then 1
  else if ratioAtLeast diff lo mw ew (-2) then 15
  else ((List.range 13).foldl (fun (b i : Nat) => if ratioAtLeast diff lo mw ew (2 * ((i : Int) + 2) - 32) then i + 2 else b) 2)

/-- How an element compares: its bin, or none for a mismatch of a finite with another value (R262); infinities of different
signs and an infinity with a NaN count as a mismatch too (log entry 42). -/
def watchCompare (narrow wide : ExactVal) : Option Nat :=
  match narrow, wide with
  | .fin mn en, .fin mw ew => some (watchBin mn en mw ew)
  | x, y => if x = y then some 0 else none

/-- r reaches the event threshold. -/
def watchOver (thr : Int) (narrow wide : ExactVal) : Bool :=
  match narrow, wide with
  | .fin mn en, .fin mw ew =>
    let lo := min en ew
    let diff := mn * 2 ^ (en - lo).toNat - mw * 2 ^ (ew - lo).toNat
    decide (diff ≠ 0) && (decide (mw = 0) || ratioAtLeast diff lo mw ew thr)
  | _, _ => false

/-- The narrow values a TDRN wrote, iteration by iteration. -/
def watchNarrow (s : State) (d : Bytes) : Except MemErr (List Nat) :=
  let code := byteAt d 64
  mapE (fun i =>
    let n := i % dNEff d
    let t := i / dNEff d % dMEff d
    let b := i / dNEff d / dMEff d
    match readMem s s.mem (fmtBits code / 8) (outAddr d (oAddr d) b t + n * (fmtBits code / 8)) with
    | .ok bs => .ok (leNat bs)
    | .error e => .error e) (List.range (dBatch d * dMEff d * dNEff d))

/-- The event record of R263. -/
def watchRecord (seq : BitVec 64) (d : Bytes) (bin : Nat) (bad : Bool) : Bytes :=
  leBytes 8 seq.toNat ++ leBytes 4 (oTensor d) ++ leBytes 4 (oStep d) ++ leBytes 4 (dMOrg d) ++ leBytes 4 (dNOrg d) ++
  leBytes 1 bin ++ leBytes 1 (boolNat bad) ++ leBytes 6 0

/-- The batch element of a tile's descriptor: firmware issues each for one, at its own output rows (R173). -/
def tileBatch (p : Plan) (o : OpRec) (d : Bytes) : Nat :=
  match o.outputs.head?.bind p.tensor with
  | some c => oLinBase d / max 1 (c.dims.getD 0 1 * c.dims.getD 1 1)
  | none => 0

/-- Wide and narrow values of a sampled tile's elements (R261, R262). -/
def watchPairs (s : State) (p : Plan) (o : OpRec) (h : HostDesc) (d : Bytes) : Except MemErr (List (ExactVal × ExactVal)) :=
  match watchNarrow s d with
  | .error e => .error e
  | .ok ns => mapE (fun i =>
      match watchWide s p o h (oScale d) (tileBatch p o d + i / dNEff d / dMEff d) (dMOrg d + i / dNEff d % dMEff d)
          (dNOrg d + i % dNEff d) with
      | .error e => .error e
      | .ok w => .ok (decodeElem (byteAt d 64) (ns.getD i 0), decodeElem 0x01 w)) (List.range ns.length)

/-- The counts, the histogram and the event of a sampled tile (R262 to R264). -/
def countWatch (s : State) (seq : BitVec 64) (d : Bytes) (pairs : List (ExactVal × ExactVal)) : State :=
  let bins := pairs.map (fun p => watchCompare p.1 p.2)
  let bad := bins.any (·.isNone)
  let top := bins.foldl (fun a b => max a (b.getD 0)) 0
  let beyond := pairs.any (fun p => watchOver s.training.threshold.toInt p.1 p.2)
  let t := s.training
  let hist := bins.foldl (fun h b => match b with
    | some k => smMod 0 h k (satAdd · 1)
    | none => h) t.histogram
  let t := { t with sampled := satAdd t.sampled 1, histogram := hist
                    mismatches := satAdd t.mismatches (bins.filter (·.isNone)).length }
  if bad || beyond then
    raise { s with training := { t with
      events := satAdd t.events 1, slots := smSet [] t.slots t.nextSlot (watchRecord seq d top bad)
      nextSlot := (t.nextSlot + 1) % 16 } } 0x38F
  else { s with training := t }

/-- WATCH_RECOMPUTE of the tile that a sampled TDRN left, before its engine's next tile; a tile whose recomputation meets a detected
error is recorded and not counted (R261 to R263, R378; log entry 147). -/
def watchRecompute (s : State) (g : CoreId) (seq : BitVec 64) (det : Detect) : State :=
  let c := s.core g
  match c.watch, c.owner, c.job with
  | some (w, d), some x, some (q, j) =>
    if w ≠ seq then s
    else
      let a := unitActor .engine g seq
      let s := preDetect s det a
      let t := match det with
        | .parity _ => writeNotes s a 5 [parityNote s]
        | .residue n => writeNotes s a 5 [residueNote s n]
        | _ => match (s.ctx x).plan, s.desc? x q j with
          | some p, some h => match p.op (hOpId h.bytes) with
            | some o => match watchPairs s p o h d with
              | .ok pairs => countWatch s seq d pairs
              | .error e => writeNotes s a 5 [memErrNote s { sev := 3, cls := 2 } e]
            | none => s
          | _, _ => s
      issueNext (t.setCore g { t.core g with watch := none }) g
  | some (w, _), _, _ => if w ≠ seq then s else s.setCore g { c with watch := none }
  | none, _, _ => s

/-- WatchClear: bit 0 clears the histogram and the counters, bit 1 the event slots (R264). -/
def watchClear (s : State) (v : Nat) : State :=
  let t := s.training
  let t := if bitAt v 0 then { t with sampled := 0, mismatches := 0, events := 0, histogram := [] } else t
  { s with training := if bitAt v 1 then { t with slots := [], nextSlot := 0 } else t }

end Sys2Proof.Machine
end

