-- ==== Sys2Proof/Machine/IrqOps.lean ====
section
/-! DEFINITION. What dictionary writes do to the interrupt controller (15_interrupts.md). -/

namespace Sys2Proof.Machine

/-- A destination code (R368). -/
def destCodeOk (c : Nat) : Bool := decide (c < 64) || (decide (0x1000 ≤ c) && decide (c ≤ 0x10BF))

/-- Sources whose bit is set in a bitmap (R375). -/
def sourceBits (bits : Bytes) : List Nat := (List.range 1024).filter (fun n => bitAt (byteAt bits (n / 8)) (n % 8))

/-- IrqPendingClear (R365, R372). -/
def irqClear (s : State) (bits : Bytes) : State :=
  (sourceBits bits).foldl (fun s n => { s with sources := smMod {} s.sources n (fun q => { q with pending := false }) }) s

/-- IrqPendingSet: each set is an event of its source; a reserved source, or one of an absent core, aborts the whole write (R374). -/
def irqSet (s : State) (bits : Bytes) : Except Nat State :=
  if (sourceBits bits).any s.sourceDead then .error abRange else .ok ((sourceBits bits).foldl raise s)

/-- IrqSourceRoute of a source: route and enable. A pending source that becomes enabled, or moves while enabled, is an event at its
destination (R370). -/
def irqRoute (s : State) (n v : Nat) : Except Nat State :=
  if v / 2 ^ 17 ≠ 0 ∨ !(destCodeOk (v % 2 ^ 16)) then .error abRange
  else
    let q : IrqSource := smGet {} s.sources n
    let q' : IrqSource := { q with enabled := bitAt v 16, route := BitVec.ofNat 16 v }
    let s := { s with sources := smSet {} s.sources n q' }
    .ok (if q.pending && q'.enabled && (!q.enabled || decide (q.route ≠ q'.route)) then destEvent s q'.route.toNat else s)

/-- CoalesceCount or CoalesceTimeUs of a destination; delivery follows if the new limits are met (R370, R371). -/
def irqLimit (s : State) (dest : Nat) (time : Bool) (v : Nat) : Except Nat State :=
  if v = 0 then .error abRange
  else
    let f (d : IrqDest) : IrqDest :=
      if time then { d with limitUs := BitVec.ofNat 16 v } else { d with limitCount := BitVec.ofNat 16 v }
    .ok (deliverIfDue { s with dests := smMod {} s.dests dest f } dest)

/-- COALESCE_TIMER: the timer of a destination that counts has reached its limit (R371). -/
def timerDue (s : State) (dest : Nat) : State :=
  let d : IrqDest := smGet {} s.dests dest
  if d.started.isSome && decide (0 < d.count.toNat) then deliver s dest else s

/-- A bitmap of 1,024 sources (R375). -/
def sourceMap (s : State) (f : IrqSource → Bool) : Bytes :=
  bitmapBytes 128 (fun n => f (smGet {} s.sources n))

end Sys2Proof.Machine
end

