-- ==== Sys2Proof/Machine/DrinexOps.lean ====
section
/-! DEFINITION. The Drinex link (13_drinex_host_link.md): states and training (R320 to R322), flits (R323, R325), checks of host
transactions (R326, R329, R332), echoes after a fresh retrain (R336). -/

namespace Sys2Proof.Machine

/-! ### States (R320 to R322) -/

/-- The link trains: the regulators are on, and start-up has reached step 6 or has stopped (R410, R451, R452). -/
def State.drinexTrains (s : State) : Bool :=
  s.power.regulators && (decide (s.device ≠ .bootLimited) || s.power.bootFailed || decide (6 ≤ s.power.bootStep.toNat))

/-- The link changes its state; source 0x38C follows a change (R366). -/
def setDrinex (s : State) (d : Drinex) : State :=
  let s' := { s with drinex := d }
  if s.drinex.st = d.st then s' else raise s' 0x38C

/-- The link enters DOWN; an entry from UP counts (R320, R337). -/
def drinexDown (s : State) : State :=
  let d := s.drinex
  if d.st = 0 ∨ d.st = 4 then s
  else setDrinex s { d with st := 0, downs := if s.linkUp then satAdd d.downs 1 else d.downs, laneMap := 0, fromX8 := false }

/-- Training starts on the lanes allowed (R320, R321). -/
def drinexTrain (s : State) (lanes : BitVec 8) (fromX8 : Bool) : State :=
  setDrinex s { s.drinex with st := 1, lanesAllowed := lanes, laneMap := 0, fromX8 := fromX8 }

/-- Width chosen among the lanes that passed: eight, or lanes 0 to 3, or lanes 4 to 7 (R321). -/
def chooseLanes (lanes : BitVec 8) : BitVec 8 :=
  if lanes = 0xFF then 0xFF else if lanes &&& 0x0F = 0x0F then 0x0F else if lanes &&& 0xF0 = 0xF0 then 0xF0 else 0

/-- Flits up to one sequence number leave the replay buffer when it is there. -/
def Drinex.acked (d : Drinex) (a : BitVec 12) : Drinex :=
  if d.replay.contains a then { d with replay := (d.replay.dropWhile (fun k => decide (k ≠ a))).drop 1 } else d

/-- A reported last-received sequence lies in the replay window: one of the flits held, or the one before them (R322). -/
def Drinex.holds (d : Drinex) (last : BitVec 12) : Bool :=
  d.replay.contains last || decide (last + 1 = (d.replay.headD d.txNext))

/-- The ECHOs that R336 sends again: for every queue in order, each descriptor that has not completed; in Boot/Limited those of the
sweep that are outstanding (R332). -/
def echoesDue (s : State) : List (Nat × Nat × Bool × BitVec 64) :=
  if s.device = .bootLimited then s.drinex.echoes
  else s.contexts.flatMap (fun c => c.2.queues.flatMap (fun k =>
    k.2.descs.flatMap (fun d => (c.1, k.1, false, d.seq) ::
      (if d.phase = .committed then [(c.1, k.1, true, d.seq)] else [])) ++
    (match k.2.accepting with
     | some d => [(c.1, k.1, false, d.seq)]
     | none => [])))

/-- The data of an ECHO, from the journal slot (R223, R224, R334). -/
def echoData (s : State) (e : Nat × Nat × Bool × BitVec 64) : Bytes :=
  let b := journalSlot s e.1 e.2.1 e.2.2.2
  if e.2.2.1 then (b.drop 192).take 64 else b.take 64

/-- The module's part after a fresh retrain (R336). -/
def resendEchoes (s : State) : State :=
  (echoesDue s).foldl (fun s e =>
    let s := { s with drinex := { s.drinex with echoResends := satAdd s.drinex.echoResends 1 } }
    let s := if e.2.2.1 then s else s.modQueue e.1 e.2.1 (fun k =>
      { k with acceptEchoed := if (k.accepting.map (·.seq)) = some e.2.2.2 then false else k.acceptEchoed })
    sendEcho s e.1 e.2.1 e.2.2.1 e.2.2.2 (echoData s e)) { s with drinex := { s.drinex with echoes := [] } }

/-- The module's side of the parameter exchange: every slot it has is free (R322, R328). -/
def sendParameters (s : State) : State :=
  let d := s.drinex
  { s with drinex := { d with owedP := 0, owedN := 0, owedE := 0 } }.send
    (.drinexParameters d.epoch (d.rxNext - 1) d.resume 1024 256 0 64)

/-- Training has passed on some lanes and the parameters are exchanged (R321, R322, R328). -/
def drinexUp (s : State) (lanes : BitVec 8) (peerLast : BitVec 12) (peerResume : Bool) (p c e : Nat) : State :=
  let use := chooseLanes (lanes &&& s.drinex.lanesAllowed)
  if use = 0 then setDrinex s { s.drinex with st := 0, laneMap := 0, fromX8 := false }
  else
    let s := sendParameters s
    let d := s.drinex
    let x8 := decide (use = 0xFF)
    let d := { d with laneMap := use, creditP := p, creditC := c, creditE := e, retryTime := none, fromX8 := false
                      degrades := if d.fromX8 && !x8 then satAdd d.degrades 1 else d.degrades }
    let up : BitVec 3 := if x8 then 2 else 3
    let s := if d.resume && peerResume && d.holds peerLast then
        let d := d.acked peerLast
        let s := setDrinex s { d with st := up }
        let s := if d.replay.isEmpty then s else s.send (.flit 0 (d.rxNext - 1) d.replay)
        drainTxns d.waiting.length s
      else
        resendEchoes (setDrinex s { d with st := up, replay := [], waiting := [], txNext := 0, rxNext := 0, ackDue := false
                                           resume := true, epoch := d.epoch + 1 })
    releaseIntr s

/-! ### Flits (R323, R325, R328) -/

/-- Acknowledgement and returned credits of a good flit. -/
def takeFlit (s : State) (f : Flit) : State :=
  let d := if f.ackValid then s.drinex.acked f.ackSeq else s.drinex
  let d := { d with creditP := d.creditP + f.creditP.toNat, creditC := d.creditC + f.creditC.toNat
                    creditE := d.creditE + f.creditE.toNat }
  drainTxns d.waiting.length { s with drinex := d }

/-- A flit is discarded: the first discard asks for a retry, and again once 2 µs have passed (R325). -/
def discardFlit (s : State) : State :=
  let d := s.drinex
  let due := match d.retryTime with
    | none => true
    | some t => decide (2400 ≤ (s.clkc - t).toNat)
  if due then { s with drinex := { d with retryTime := some s.clkc } }.send (.flit 2 (d.rxNext - 1) []) else s

/-- A flit that fails its CRC, or holds a reserved kind or field, is discarded and counted (R323). -/
def flitGood (f : Flit) : Bool := f.crcOk && decide (f.kind.toNat ≤ 2) && !f.reserved && (f.kind == 0 || f.seq == 0)

/-- What the FEC reports of the codewords that held a flit (R337). -/
def countFlit (s : State) (f : Flit) : State :=
  { s with drinex := { s.drinex with corrected := satAdd s.drinex.corrected f.symbols
                                     uncorrectable := satAdd s.drinex.uncorrectable f.badCodewords } }

def badFlit (s : State) : State :=
  discardFlit { s with drinex := { s.drinex with crcErrors := satAdd s.drinex.crcErrors 1 } }

/-! ### Host transactions (R326, R329, R332) -/

/-- The slots of a transaction that has come are free again once it is served (R328). -/
def tookTxn (s : State) (cls : BitVec 2) (bytes : Nat) : State := { s with drinex := s.drinex.freed cls bytes }

/-- A transaction is refused and counted. -/
def hostRefused (s : State) : State :=
  { s with drinex := { s.drinex with refused := satAdd s.drinex.refused 1 } }

def refusedAt (s : State) (a : Nat) : State :=
  let s := hostRefused s
  { s with drinex := { s.drinex with refusedAddr := BitVec.ofNat 64 a } }

/-- A header as R326 requires: the class of its type, a length in range, a tag only where one is used. -/
def hdrOk (h : TxnHdr) (cls lo hi : Nat) (tagged : Bool) : Bool :=
  decide (h.cls.toNat = cls) && decide (lo ≤ h.length.toNat) && decide (h.length.toNat ≤ hi) && !h.reserved &&
  (tagged || decide (h.tag = 0))

def cpl (s : State) (tag : BitVec 8) (status : Nat) (data : Bytes) : State :=
  sendTxn s 2 data.length (.cpl tag (BitVec.ofNat 8 status) data)

def dictCpl (s : State) (tag : BitVec 8) (code : Nat) (data : Bytes) : State :=
  sendTxn s 2 data.length (.dictCpl tag (BitVec.ofNat 32 code) data)

/-- The unit of the memory at a module address: stack, channel, core or cluster (R329). -/
def hostMemUnit (s : State) (a : Nat) : Nat :=
  match s.translate a with
  | none => 0
  | some p =>
    if p < 0x100000000000 then s.cellUnit p
    else if p < 0x100100000000 then s.coreUnit ((p - 0x100000000000) / 2 ^ 24)
    else
      let i := (p - 0x100100000000) / 0x20000000
      unitCode 5 0 (i / 12) (i % 12) 0 0 0

/-- The fault record of a data error of a host access (R329). -/
def hostMemFault (s : State) (a cls key : Nat) (syn : Bytes) : State :=
  fault s { unit := hostMemUnit s a, src := 10, sev := if cls = 1 then 1 else 3, cls := cls, key := key
            syn := leBytes 8 a ++ syn }

/-- A memory detection that meets a host access (R378): a corrected error is recorded, an uncorrectable one poisons its block. -/
def hostDetect (s : State) (det : Detect) : State :=
  match det with
  | .memUe a => s.poisonAt a
  | .memCe a => corrected s { src := 10, sev := 1, cls := 1 } a
  | _ => s

/-- Bytes of an MWR written block by block; a block whose merge meets a data error is left, and the first such address is kept.
The first number bounds the blocks (R329). -/
def hostWrite (env : State) : Nat → Memory → Nat → Bytes → Memory × Option Nat
  | 0, m, _, _ => (m, none)
  | n + 1, m, a, bs =>
    if bs.isEmpty then (m, none)
    else
      let k := 64 - a % 64
      match writeBlock env m none a (bs.take k) with
      | .ok m => hostWrite env n m (a + k) (bs.drop k)
      | .error _ => ((hostWrite env n m (a + k) (bs.drop k)).1, some a)

/-- MWR in Service (R329). A parity mismatch on its path stops it before the block of its position. -/
def hostStore (s : State) (a : Nat) (data : Bytes) (det : Detect) : State :=
  if data.isEmpty then s
  else if !(s.rangeOk none a data.length) then refusedAt s a
  else
    let s := hostDetect s det
    match det with
    | .parity p =>
      let data := data.take (64 * p)
      let s := { s with mem := (hostWrite s (data.length / 64 + 2) s.mem a data).1 }
      let b := (Config.syndromeBits s.draws).toNat
      hostMemFault s.draw a 3 (b % 2 ^ 16) []
    | _ =>
      match hostWrite s (data.length / 64 + 2) s.mem a data with
      | (m, none) => { s with mem := m }
      | (m, some b) =>
        if (s.translate b).elim false s.dark then { s with mem := m } else hostMemFault { s with mem := m } b 2 0 []

/-- MRD in Service or Quiesced: the one CPL it is answered by (R329). -/
def hostLoad (s : State) (tag : BitVec 8) (a n : Nat) (det : Detect) : State :=
  if n = 0 then cpl s tag 0 []
  else if !(s.rangeOk none a n) then cpl (refusedAt s a) tag 1 []
  else
    let s := hostDetect s det
    match det with
    | .parity _ =>
      let b := (Config.syndromeBits s.draws).toNat
      cpl (hostMemFault s.draw a 3 (b % 2 ^ 16) []) tag 3 []
    | _ =>
      match readMem s s.mem n a with
      | .ok bs => cpl s tag 0 bs
      | .error (.data b _) => cpl (hostMemFault s b 2 0 []) tag 3 []
      | .error (.refused b) => cpl (refusedAt s b) tag 1 []
      | .error (.dark _) => cpl s tag 3 []

/-- A host doorbell (R214, R330). -/
def hostDoorbell (s : State) (x q : Nat) (newTail newRelease : BitVec 64) : State :=
  let c := s.ctx x
  let k := s.queue x q
  if c.st = .free ∨ c.queueCount ≤ q then hostRefused s
  else if !k.configured || k.fabric then s.modQueue x q (fun k => { k with rejects := satAdd k.rejects 1 })
  else ringDoorbell (endSnapshot s) x q newTail newRelease

/-- An ECHO_ACK releases the acceptance or the commit that waits (R334). -/
def takeEchoAck (s : State) (x q : Nat) (commitKind : Bool) (seq : BitVec 64) : State :=
  let e := (x, q, commitKind, seq)
  if s.drinex.echoes.contains e then
    let s := { s with drinex := { s.drinex with echoes := s.drinex.echoes.filter (fun k => decide (k ≠ e)) } }
    sweepEnd <| s.modQueue x q (fun k =>
      if commitKind then { k with descs := mapWhere (fun d => decide (d.seq = seq)) (fun d => { d with echoed := true }) k.descs }
      else { k with acceptEchoed := k.acceptEchoed || decide ((k.accepting.map (·.seq)) = some seq) })
  else { s with drinex := { s.drinex with echoUnmatched := satAdd s.drinex.echoUnmatched 1 } }

/-- DrinexCommand: 1 enable, 2 disable, 3 retrain at full width (R320, R337; log entry 43). -/
def drinexCommand (s : State) (v : Nat) : Except Nat State :=
  let d := s.drinex
  match v with
  | 1 => .ok (if d.st = 4 then setDrinex s { d with st := 0 } else s)
  | 2 => .ok (setDrinex s { d with st := 4, laneMap := 0, fromX8 := false })
  | 3 => .ok (if d.st = 4 then s else drinexTrain s 0xFF (decide (d.st = 2)))
  | _ => .error abRange

end Sys2Proof.Machine
end

