-- ==== Sys2Proof/Machine/Training.lean ====
section
/-! DEFINITION. The commands of training support (10_training_support.md). -/

namespace Sys2Proof.Machine

/-- UPD: the update stage of a split-32 or split-48 update works on its shard (R246 to R251). -/
def execUpd (x : CtxId) (q : QueueId) (sums : List SentSum) (det : Detect) (s : State) :
    Host.Outcome State Fault Refusal := .next (update s x q 0x30 0x31 sums det)

/-- UPDA: as UPD, with two moments (R246 to R251). -/
def execUpda (x : CtxId) (q : QueueId) (sums : List SentSum) (det : Detect) (s : State) :
    Host.Outcome State Fault Refusal := .next (update s x q 0x32 0x33 sums det)

/-- PHASE_FLIP (R257 to R259, R316). -/
def execPhaseFlip (x : CtxId) (s : State) : Host.Outcome State Fault Refusal := .next (phaseFlip s x)

/-- WATCH_RECOMPUTE (R261 to R263). -/
def execWatchRecompute (g : CoreId) (seq : BitVec 64) (det : Detect) (s : State) : Host.Outcome State Fault Refusal :=
  .next (watchRecompute s g seq det)

end Sys2Proof.Machine
end

