-- ==== Sys2Proof/Machine/FabricAgent.lean ====
section
/-! DEFINITION. The fabric agent (11_fabric.md): ports (R267 to R269), requests from other modules (R270 to R275, R281, R282),
acknowledgement and failure at the source (R274, R278 to R280). -/

namespace Sys2Proof.Machine

/-! ### Ports (R267, R268) -/

/-- Fabric ports train: the regulators are on, and start-up has reached step 6 (R410, R451). -/
def State.portsTrain (s : State) : Bool :=
  s.power.regulators && (decide (s.device ≠ .bootLimited) || decide (6 ≤ s.power.bootStep.toNat))

/-- A port that has reached the identity exchange goes up, or is set MISCABLED with a fault record (R267). -/
def settlePort (s : State) (p : Nat) : State :=
  let k := s.port p
  match s.fabric.moduleId, k.reported with
  | some m, some r =>
    if k.st ≠ 1 then s
    else if r = m ∧ k.plane = some (p / 8) then setPort s p { k.idle with st := 2 }
    else portFault (setPort s p { k with st := 3 }) p 0x11 r.toNat
  | _, _ => s

/-- A trained port takes the credits that the switch advertised, and reports what it said of itself (R267, R269). -/
def portTrained (s : State) (p plane : Nat) (sw : BitVec 32) (swPort : BitVec 16) (said : SwitchSays) : State :=
  let k := s.port p
  if k.st ≠ 1 then s
  else
    let k := { k with peer := leBytes 4 sw.toNat ++ leBytes 2 swPort.toNat ++ leBytes 1 plane ++ [0#8]
                      reported := some said.moduleId, plane := some plane, credits := said.credits }
    let s := setPort s p k
    if plane ≠ p / 8 then portFault (setPort s p { k with st := 3 }) p 0x11 said.moduleId.toNat else settlePort s p

/-- The ID reported by most ports, the lowest of equals (R267). -/
def mostReported (f : Fabric) : Option (BitVec 14) :=
  let rs := (f.ports.filter (fun p => decide (p.2.st = 1) || decide (p.2.st = 3))).filterMap (fun p => p.2.reported)
  let votes (m : BitVec 14) : Nat := (rs.filter (fun r => decide (r = m))).length
  rs.foldl (fun b m => match b with
    | none => some m
    | some c => if votes c < votes m ∨ (votes c = votes m ∧ m.toNat < c.toNat) then some m else b) none

/-- The module adopts its ID, and every port that has reported settles (R267). -/
def adoptId (s : State) : State :=
  match s.fabric.moduleId, mostReported s.fabric with
  | none, some m => (List.range 64).foldl settlePort { s with fabric := { s.fabric with moduleId := some m } }
  | _, _ => s

/-- PortCommand of the selected port: 1 enable, 2 disable, 3 retrain (R268, R283; log entry 43). -/
def portCommand (s : State) (p v : Nat) : Except Nat State :=
  let k := s.port p
  match v with
  | 1 => .ok (if k.st = 4 || k.st = 5 then setPort s p { k with st := 0, downsInHour := 0 } else s)
  | 2 => .ok (if k.st = 5 then s else setPort s p { k.idle with st := 4 })
  | 3 => .ok (if k.st = 4 || k.st = 5 then s else setPort s p { k.idle with st := 1, reported := none, plane := none })
  | _ => .error abRange

/-! ### Packets at their target (R270 to R275) -/

/-- Payload bytes before the trailer. -/
def pktBody (p : Packet) : Bytes := if p.tail then p.payload.take (p.payload.length - 8) else p.payload
def pktTrailer (p : Packet) : Bytes := p.payload.drop (p.payload.length - 8)

/-- Saved forms that whole elements of a SKEIN_ADD payload may have (R271). -/
def skeinForms (n : Nat) : List Nat :=
  ([(1, 16), (2, 8), (3, 5), (5, 3)].filter (fun f => decide (0 < n) && n % (24 * f.1) == 0 && decide (n / (24 * f.1) ≤ f.2))).map (·.1)

/-- The payload has the length its type requires (R270, R271). -/
def payloadOk (p : Packet) : Bool :=
  let n := (pktBody p).length
  (!p.tail || decide (8 ≤ p.payload.length)) &&
  match p.typ.toNat with
  | 0x01 | 0x07 | 0x0D => n == 8
  | 0x02 | 0x03 => decide (8 ≤ n)
  | 0x04 => n == 8 + roundUp (byteAt p.payload 0 % 64) 8 && decide (byteAt p.payload 0 % 64 ≤ 56) && decide (0 < byteAt p.payload 0 % 64)
  | 0x05 => !(skeinForms n).isEmpty
  | 0x06 | 0x0C | 0x0F => n == 16
  | 0x08 => p.tail && n == 0
  | 0x09 => n == 24
  | 0x0A | 0x0B => decide (8 ≤ n) && decide (n ≤ 64)
  | 0x0E => n == 0
  | _ => false

/-- A packet that comes over a port that is up, or from this module itself, and passes the checks of R270 is handled; the others
are discarded and counted. A port that has met an uncorrectable codeword discards what follows it, until the resend
(R269). -/
def withPacket (s : State) (p : Packet) (typ : Nat) (k : State → State) : State :=
  let own := decide (s.fabric.moduleId = some p.src)
  if decide (s.fabric.moduleId ≠ some p.dst) || (!own && decide ((s.port p.port).st ≠ 2)) then s
  else if !own && decide (0 < (s.port p.port).discard) then
    { s with fabric := { s.fabric with
      ports := smMod {} s.fabric.ports p.port (fun q => { q with discard := q.discard - 1 }) } }
  else
    let s := if own then s else takeIn s p.port p
    if !p.crcOk || decide (p.typ.toNat ≠ typ) || decide (48 < p.units.toNat) || decide (p.units.toNat * 8 ≠ p.payload.length) ||
        !(payloadOk p) then
      { s with fabric := { s.fabric with crcDiscards := satAdd s.fabric.crcDiscards 1 } }
    else k s

def State.tracker (s : State) (src : Nat) : Tracker := smGet {} s.fabric.trackers src

def State.setTracker (s : State) (src : Nat) (t : Tracker) : State :=
  { s with fabric := { s.fabric with trackers := smSet {} s.fabric.trackers src t } }

/-- NACK with a reason of R279; the retry_after of reason 5 is a free value (R271; log entry 121). -/
def nack (s : State) (p : Packet) (reason : Nat) : State :=
  let body (retryAfter : Nat) : Bytes := leBytes 4 reason ++ leBytes 4 retryAfter
  if reason = 5 then (answer s p.src.toNat 0x0D p.tag (body (Config.retryAfterUs s.draws).toNat)).draw
  else answer s p.src.toNat 0x0D p.tag (body 0)

/-- A tracker for one more source is free on the I/O die of that source (R274). -/
def trackerFree (s : State) (src : Nat) : Bool :=
  decide ((s.fabric.trackers.filter (fun t => t.1 % 2 == src % 2)).length < 256)

/-- The ACK of a tracker: cum, and 64 tags from a base (R271, R274). -/
def sendAck (s : State) (src : Nat) (tag base : BitVec 32) : State :=
  let t := s.tracker src
  let bit (i : Nat) : Bool := t.applied.contains (base + BitVec.ofNat 32 i) ||
    decide ((base + BitVec.ofNat 32 i - t.cum).toNat ≥ 2 ^ 31)
  answer s src 0x0C tag (leBytes 4 t.cum.toNat ++ leBytes 4 base.toNat ++ bitmapBytes 8 bit)

/-- cum passes every tag applied next to it; the number bounds the tags. -/
def advanceCum : Nat → Tracker → Tracker
  | 0, t => t
  | n + 1, t => if t.applied.contains t.cum then
      advanceCum n { t with applied := t.applied.filter (fun a => decide (a ≠ t.cum)), cum := t.cum + 1 } else t

/-- A packet was applied: its tag is marked, its trailer held, and 64 newly applied tags send an ACK at once (R274, R275). -/
def markApplied (s : State) (p : Packet) : State :=
  let t := s.tracker p.src.toNat
  let held := if p.tail then
      let b := pktTrailer p
      [{ tag := p.tag, count := BitVec.ofNat 32 (leAt b 0 4), ctx := BitVec.ofNat 8 (byteAt b 4), cancel := bitAt (byteAt b 5) 0
         amount := BitVec.ofNat 7 (byteAt b 5 / 2), vid := BitVec.ofNat 12 (leAt b 6 2)
         addr := p.address.toNat, len := if p.typ = 4#6 then byteAt p.payload 0 % 64 else p.payload.length - 8
         trunc := p.trunc : HeldTrailer }]
    else []
  let t := { t with applied := p.tag :: t.applied, trailers := t.trailers ++ held, fresh := t.fresh + 1 }
  let t := advanceCum t.applied.length t
  let s := s.setTracker p.src.toNat t
  if t.fresh < 64 then s
  else sendAck (s.setTracker p.src.toNat { t with fresh := 0 }) p.src.toNat (t.cum - 1) t.cum

/-- The tag was applied before. -/
def Tracker.seen (t : Tracker) (tag : BitVec 32) : Bool := decide ((tag - t.cum).toNat ≥ 2 ^ 31) || t.applied.contains tag

/-- The module's state refuses a packet of this type: every vc 0 packet in Boot/Limited, new data requests and doorbells in
Quiesced (R282). -/
def stateRefuses (s : State) (typ : Nat) : Bool :=
  (decide (s.device = .bootLimited) && vcOf typ == 0) ||
  (decide (s.device = .quiesced) && [1, 3, 4, 5, 6, 9].contains typ)

/-- A tagged request: answered again when it was applied before, refused by the module's state, else served. `serve` answers the
state or the NACK reason (R274, R279, R282). -/
def tagged (s : State) (p : Packet) (again : State → State) (serve : State → Except Nat State) : State :=
  let t := s.tracker p.src.toNat
  if decide (s.device = .bootLimited) && stateRefuses s p.typ.toNat then nack s p 3
  else if !t.live then nack s p (if trackerFree s p.src.toNat then 7 else 5)
  else if t.seen p.tag then again s
  else if stateRefuses s p.typ.toNat then nack s p 3
  else if 131072 ≤ (p.tag - t.cum).toNat then s
  else match serve s with
    | .error r => nack s p r
    | .ok s => markApplied s p

/-- Acknowledged again (R274). -/
def ackAgain (p : Packet) (s : State) : State := sendAck s p.src.toNat p.tag p.tag

/-! ### What a peer reaches (R272, R273) -/

/-- Module addresses of a resource record of memory: kinds 0x02, 0x03, 0x09 and 0x0A (R176). -/
def resourceRange (r : ResourceRec) : Option (Nat × Nat) :=
  match r.kind with
  | 2 => some (localBase r.scope + r.base, r.amount)
  | 3 => some (scratchBase r.scope + r.base * 2 ^ 24, r.amount * 2 ^ 24)
  | 9 | 10 => some (r.base, r.amount)
  | _ => none

/-- The byte range lies within one range held by an admitted plan. -/
def State.rangeHeld (s : State) (a n : Nat) : Bool :=
  s.contexts.any (fun c => match c.2.plan with
    | none => false
    | some p => p.resources.any (fun r => match resourceRange r with
      | some (lo, k) => decide (lo ≤ a) && decide (a + n ≤ lo + k)
      | none => false))

/-- Why a request for a range is refused: 1 not decoded, 2 not held (R279). -/
def reachable (s : State) (a n : Nat) : Option Nat :=
  if !(s.rangeOk none a n) then some 1 else if !(s.rangeHeld a n) then some 2 else none

/-- The address lies in HBM or DDR5 (R273). -/
def atomicMemory (s : State) (a : Nat) : Bool :=
  match s.regionId a with
  | some r => decide (r ≤ 16)
  | none => false

def fabricNote (p : Packet) : FaultNote := { seq := p.tag.toNat, src := 5, sev := 3, cls := 2 }

/-- A memory error of a request: a detected data error is recorded and refused with reason 4 (R279, R378). -/
def memReason (s : State) (p : Packet) (e : MemErr) : State × Nat :=
  match e with
  | .refused _ => (s, 1)
  | .dark _ => (s, 4)
  | .data _ _ => (fault s (memErrNote s (fabricNote p) e), 4)

/-- LOAD_REQ: the bytes are read and answered (R273). -/
def serveLoad (s : State) (p : Packet) : State × Option Nat :=
  let n := leAt p.payload 0 2 % 512
  let a := p.address.toNat
  if n = 0 || decide (384 < n) then (s, some 6)
  else match reachable s a n with
    | some r => (s, some r)
    | none => match readMem s s.mem n a with
      | .ok bs => (answer s p.src.toNat 2 p.tag (padTo (roundUp n 8) bs), none)
      | .error e => ((memReason s p e).1, some (memReason s p e).2)

/-- Bytes stored by a peer (R273). -/
def serveStore (s : State) (p : Packet) (bs : Bytes) : State × Option Nat :=
  let a := p.address.toNat
  match reachable s a bs.length with
  | some r => (s, some r)
  | none => match writeMem s s.mem none a bs with
    | (m, none) => ({ s with mem := m }, none)
    | (m, some e) => ((memReason { s with mem := m } p e).1, some (memReason s p e).2)

/-- SKEIN_ADD: each whole element meets its target element (R77, R78, R273); a slot that fails R77 is refused with reason 4 after
it has been applied. -/
def serveSkein (s : State) (p : Packet) : State × Option Nat × Bool :=
  let n := (pktBody p).length
  let a := p.address.toNat
  let forms := skeinForms n
  let k := forms.getD (Config.skeinForm a n % forms.length) 1
  if a % 8 ≠ 0 then (s, some 6, false)
  else match reachable s a n with
    | some r => (s, some r, false)
    | none =>
      if !(atomicMemory s a) then (s, some 6, false)
      else
        let r := (List.range (n / (24 * k))).foldl (fun (acc : State × Bool) i =>
          let x := applyElement acc.1 .clean (a + 24 * k * i) k (((pktBody p).drop (24 * k * i)).take (24 * k))
          match x.note with
          | none => (x.state, acc.2)
          | some note => (fault x.state { note with seq := p.tag.toNat, src := 5 }, true)) (s, false)
        (r.1, if r.2 then some 4 else none, true)

/-- Integer atomic operation on a value of w bits (R273). -/
def intOp (op w old v : Nat) : Option Nat :=
  match op with
  | 0 => some ((old + v) % 2 ^ w)
  | 1 => some v
  | 2 => some (Nat.land old v)
  | 3 => some (Nat.lor old v)
  | 4 => some (Nat.xor old v)
  | 5 => some (if toSigned w v < toSigned w old then v else old)
  | 6 => some (if toSigned w old < toSigned w v then v else old)
  | 7 => some (min old v)
  | 8 => some (max old v)
  | _ => none

/-- The results kept by an I/O die, latest first, at most 4,096 (R274). -/
def keepResult (s : State) (src : BitVec 14) (tag : BitVec 32) (v : BitVec 64) : State :=
  let e := (src, tag, v)
  { s with fabric := if src.toNat % 2 = 0 then { s.fabric with results0 := (e :: s.fabric.results0).take 4096 }
                     else { s.fabric with results1 := (e :: s.fabric.results1).take 4096 } }

/-- INT_ATOMIC: the value is changed and the prior one answered (R273). -/
def serveAtomic (s : State) (p : Packet) : State × Option Nat :=
  let b := byteAt p.payload 1
  let a := p.address.toNat
  if b ≠ 4 ∧ b ≠ 8 then (s, some 6)
  else if a % b ≠ 0 then (s, some 6)
  else match reachable s a b with
    | some r => (s, some r)
    | none =>
      if !(atomicMemory s a) then (s, some 6)
      else match readMem s s.mem b a with
        | .error e => ((memReason s p e).1, some (memReason s p e).2)
        | .ok bs =>
          match intOp (byteAt p.payload 0) (8 * b) (leNat bs) (leAt p.payload 8 b) with
          | none => (s, some 6)
          | some v => match writeMem s s.mem none a (leBytes b v) with
            | (m, some e) => ((memReason { s with mem := m } p e).1, some (memReason s p e).2)
            | (m, none) =>
              let s := keepResult { s with mem := m } p.src p.tag (BitVec.ofNat 64 (leNat bs))
              (answer s p.src.toNat 7 p.tag (leBytes 8 (leNat bs)), none)

/-- The answer of an atomic that was applied before, from the results kept (R274). -/
def atomicAgain (p : Packet) (s : State) : State :=
  let rs := if p.src.toNat % 2 = 0 then s.fabric.results0 else s.fabric.results1
  match rs.find? (fun e => decide (e.1 = p.src) && decide (e.2.1 = p.tag)) with
  | some e => answer s p.src.toNat 7 p.tag (leBytes 8 e.2.2.toNat)
  | none => ackAgain p s

/-- A request whose service may leave a trace and still refuse. -/
def served (s : State) (p : Packet) (again : State → State) (serve : State → State × Option Nat) : State :=
  let r := serve s
  match r.2 with
  | none => tagged s p again (fun s => .ok (serve s).1)
  | some reason =>
    let t := tagged s p again (fun _ => .error reason)
    -- a data error met while the request was served is recorded
    if reason = 4 && (s.tracker p.src.toNat).live && !((s.tracker p.src.toNat).seen p.tag) && decide (s.device = .service) then
      nack r.1 p 4 else t

/-! ### Trailers (R275) -/

/-- A discarded trailer is recorded with its packet_count (R275, R279). -/
def trailerFault (s : State) (src : BitVec 14) (h : HeldTrailer) (reason : Nat) : State :=
  fault s { seq := h.tag.toNat, src := 5, sev := 3, cls := 7, key := reason
            syn := leBytes 2 src.toNat ++ leBytes 4 h.tag.toNat ++ leBytes 4 h.count.toNat }

/-- The first held trailer of a source that cum has passed takes its effect (R192, R194, R275). -/
def applyTrailer (s : State) (src : BitVec 14) : State :=
  let t := s.tracker src.toNat
  match t.trailers.find? (fun h => decide ((h.tag - t.cum).toNat ≥ 2 ^ 31)) with
  | none => s
  | some h =>
    let s := s.setTracker src.toNat { t with trailers := t.trailers.filter (fun k => decide (k.tag ≠ h.tag)) }
    let e := s.transEntry h.ctx.toNat h.vid.toNat
    if trValid e && trKind e == 0 then
      let p := trTarget e
      let a : Actor := .fabricAgent src h.tag
      if (s.ctr p).frozen then trailerFault (signalCounter s p 0 a false) src h 0
      else if h.cancel then markCounter s p
      else noteArrival (signalCounter s p h.amount.toNat a false) src.toNat h.ctx.toNat h
    else
      let s := { s with fabric := { s.fabric with tailInvalid := satAdd s.fabric.tailInvalid 1 } }
      let s := trailerFault s src h 2
      answer s src.toNat 0x0D h.tag (leBytes 4 2 ++ leBytes 4 0)

/-! ### At the source (R274, R278 to R280) -/

/-- The unacknowledged packet of a tag, the RESYNC that is out among them. -/
def State.outPacket (s : State) (dst : Nat) (tag : BitVec 32) : Option OutPacket :=
  let t := s.stream dst
  (t.unacked ++ t.resync.toList).find? (fun p => decide (p.tag = tag))

/-- Packets that satisfy p are acknowledged; packets held back by the window go out (R274). The owners of those that carried a
trailer are kept while the window holds their tags, since the target may still refuse the trailer (R275). -/
def ackPackets (s : State) (dst : Nat) (p : OutPacket → Bool) : State :=
  let t := s.stream dst
  let tails := (t.tails ++ ((t.unacked.filter (fun o => p o && o.tail)).map (fun o => (o.tag, o.owner)))).filter
    (fun x => decide ((t.next - x.1).toNat ≤ 131072))
  let s := s.setStream dst { t with unacked := t.unacked.filter (fun o => !(p o)), tails := tails }
  drainWaiting (t.waiting.length + 1) s dst

/-- A packet sent again with retransmit set, on another plane; the stream has sent a packet now (R274, R278). -/
def resend (s : State) (dst : Nat) (tag : BitVec 32) : State :=
  match s.outPacket dst tag with
  | none => s
  | some p =>
    let (s, k) := emitPacket s dst p.typ.toNat tag p.address.toNat p.payload p.tail true [p.plane] p.trunc
    if k = 9 then s
    else
      let t := s.stream dst
      let moved (o : OutPacket) : OutPacket := if o.tag = tag then { o with plane := k, resent := true } else o
      let s := s.setStream dst { t with unacked := t.unacked.map moved, resync := t.resync.map moved, last := s.clkc }
      { s with fabric := { s.fabric with retransmits := satAdd s.fabric.retransmits 1 } }

/-- The owner of some packets ends; its packets stay without an owner (R279). -/
def endOwner (s : State) (a : Actor) (status : Nat) : State :=
  let s := failOwner s a status
  let free (ps : List OutPacket) : List OutPacket := mapWhere (fun (o : OutPacket) => decide (o.owner = a)) (fun o => { o with owner := .command }) ps
  { s with fabric := { s.fabric with
    streams := smMap {} (fun _ (t : Stream) => { t with unacked := free t.unacked, waiting := free t.waiting }) s.fabric.streams } }

/-- The owners of some packets end with a status (R279, R280). -/
def endOwners (s : State) (ps : List OutPacket) (status : Nat) : State :=
  ((ps.map (·.owner)).eraseDups).foldl (fun s a => if a = .command then s else endOwner s a status) s

/-- The packets that wait behind a RESYNC that fails are not sent, and their owners end with a status; the RESYNC goes out
again every 1 ms (R279, R280; DEDUCED, log entry 138). -/
def dropWaiting (s : State) (dst status : Nat) : State :=
  let s := endOwners s (s.stream dst).waiting status
  s.setStream dst { s.stream dst with waiting := [] }

/-- The stream is abandoned: the owners of its unacknowledged packets end with FABRIC_UNREACHABLE, those behind an unanswered
RESYNC too, and RESYNC will follow with the next tag (R280). -/
def abandonStream (s : State) (dst : Nat) : State :=
  let t := s.stream dst
  let s := endOwners s t.unacked stUnreachable
  let s := if t.resync.isSome then dropWaiting s dst stUnreachable else s
  s.setStream dst { s.stream dst with unacked := [], tails := [], resyncing := true, resync := none, begun := true }

/-- The fault record of R279. -/
def nackFault (s : State) (dst key : Nat) (tag : BitVec 32) (owner : Actor) : State :=
  fault s (s.noteOf owner { sev := 3, cls := 7, key := key, syn := leBytes 2 dst ++ leBytes 4 tag.toNat })

/-- A NACK reaches the source (R279, R280); its retry_after says when NACK_RETRY_AFTER comes. One that refuses the trailer of
an acknowledged packet ends the packet's owner (R275). -/
def takeNack (s : State) (dst : Nat) (tag : BitVec 32) (reason : Nat) : State :=
  let s := { s with fabric := { s.fabric with nacks := smMod 0 s.fabric.nacks reason (satAdd · 1) } }
  match s.outPacket dst tag with
  | none => match (s.stream dst).tails.find? (fun x => decide (x.1 = tag)) with
    | none => s
    | some x =>
      let s := nackFault s dst reason tag x.2
      if x.2 = .command then s else endOwner s x.2 stUnreachable
  | some p =>
    if reason = 5 then { s with fabric := { s.fabric with
      retryAfter := s.fabric.retryAfter.filter (fun r => decide (r ≠ (BitVec.ofNat 14 dst, tag))) ++ [(BitVec.ofNat 14 dst, tag)] } }
    else
      let s := nackFault s dst reason tag p.owner
      if reason = 7 then abandonStream s dst
      else if p.typ = 0x0E then dropWaiting s dst (if reason = 4 then stData else stUnreachable)
      else if p.owner = .command then s
      else endOwner s p.owner (if reason = 4 then stData else stUnreachable)

/-- The data of a LOAD_RSP goes where its request said: to an instruction that asked for a header, on to a third module, or to
memory (R271, R273). -/
def takeLoad (s : State) (p : OutPacket) (data : Bytes) : State :=
  let n := leAt p.payload 0 2
  let bs := data.take n
  if p.dest = 2 ^ 60 then
    match p.owner with
    | .core u g seq => s.modEntry u g seq (fun e => { e with answer := some bs })
    | _ => s
  else if bitAt p.dest 62 then
    let m := p.dest / 2 ^ 48 % 2 ^ 14
    let a := p.dest % 2 ^ 48
    (storePackets m (bs.length / 8 + 4) a bs).foldl (fun s k => sendPacket s k.1 k.2.1 k.2.2.1 k.2.2.2.1 false p.owner 0) s
  else
    let cl := match p.owner with
      | .core _ g _ => some (g.val / 8)
      | _ => none
    match writeMem s s.mem cl p.dest bs with
    | (m, none) => { s with mem := m }
    | (m, some e) =>
      let s := writeNotes { s with mem := m } p.owner 0x80 [memErrNote s { sev := 3, cls := 2 } e]
      failOwner s p.owner stData

end Sys2Proof.Machine
end

