-- ==== Sys2Proof/Machine/Keys.lean ====
section
/-! DEFINITION. The keys the module trusts and its own identity key (R398, R404, R407), with the abort codes and the answer
that a dictionary write gives. -/

namespace Sys2Proof.Machine

/-- What a dictionary write leaves: the state, and the SDO abort code, 0 where it was accepted. A few writes change state
although they abort (R403). -/
abbrev Answer := State × Nat

/-- A write that was accepted. -/
def accepted (s : State) : Answer := (s, 0)

/-- A write that changes nothing and aborts. -/
def aborted (s : State) (code : Nat) : Answer := (s, code)

/-- The answer of an operation that changes nothing when it aborts. -/
def answerOf (s : State) (r : Except Nat State) : Answer :=
  match r with
  | .ok t => (t, 0)
  | .error e => (s, e)

/-- Bytes 0 to n − 1 of a constant given byte by byte. -/
def bytesOf (n : Nat) (f : Nat → BitVec 8) : Bytes := (List.range n).map f

/-- Key slots 4 and 5: the flash copy, and the fused digest generations, newest first. -/
def Security.slot (c : Security) (n : Nat) : Bytes × List Bytes :=
  if n = 4 then (c.key4, c.digests4) else (c.key5, c.digests5)

/-- The public key that a slot verifies with: slots 0 to 3 in the boot ROM; slot 4 or 5 only while its flash copy has its
latest fused digest (R407). -/
def Security.publicKey (c : Security) (n : Nat) : Option Bytes :=
  if n < 4 then some (bytesOf 2592 (Config.romKeyByte n))
  else match (c.slot n).2 with
    | [] => none
    | g :: _ => if sha3 (c.slot n).1 = g then some (c.slot n).1 else none

/-- A signature verifies under a key slot and context string (R398, R407). -/
def Security.verifies (c : Security) (n : Nat) (context : String) (msg sig : Bytes) : Bool :=
  match c.publicKey n with
  | none => false
  | some k => Config.mldsaVerify k context msg sig

/-- The seed that the module's identity key is derived from, if it has one (R398, R401, R404). -/
def Security.identity (c : Security) : Option Bytes := if c.lifecycle = 0 ∨ c.lifecycle = 4 then none else c.seed

/-- The identity public key (R398). -/
def Security.identityKey (c : Security) : Option Bytes := c.identity.map (fun k => bytesOf 2592 (Config.mldsaPublicByte k))

/-- 0x1018.03 RevisionNumber and 0x1018.04 SerialNumber (R362). -/
def revisionNumber : Nat := 0x00020001
def serialNumber : Nat := Config.serialNumber.toNat

end Sys2Proof.Machine
end

