-- ==== Sys2Proof/Machine/RelOps.lean ====
section
/-! DEFINITION. Ephemeris retirement and re-tests, the Almanac, supply dips (16_reliability.md). -/

namespace Sys2Proof.Machine

/-! ### Retirement (R22 to R24, R387) -/

/-- An Ephemeris entry goes into the log now (R384, R385). -/
def logEntry (s : State) (cls unit key verdict : Nat) (syn : Bytes) : State :=
  { s with rel := s.rel.log (clkcSecond s.clkc) (ephEntry s cls unit key verdict 0 syn) }

/-- A record of class 0x0C and source 0x382 for a retirement (R387). -/
def retirementRecord (s : State) (unit key sev : Nat) (syn : Bytes) : State :=
  raise (fault s { unit := unit, src := 9, sev := sev, cls := 0x0C, key := key, syn := syn }) 0x382

/-- The logical core that sits in a physical slot of a cluster. -/
def State.logicalAt (s : State) (cl slot : Nat) : Option Nat :=
  ((List.range 8).map (cl * 8 + ·)).find? (fun g => smGet 0 s.slotMap g == slot + 1)

/-- Cells of local SRAM of a core's window are gone: they read zero (R23). -/
def Memory.dropLocal (m : Memory) (g : Nat) : Memory :=
  { m with cells := m.cells.filter (fun c => decide (c.1 < localBase g) || decide (localBase (g + 1) ≤ c.1))
           poison := m.poison.filter (fun b => decide (b * 64 < localBase g) || decide (localBase (g + 1) ≤ b * 64)) }

/-- Instructions that a retired slot had not completed leave without completion records, their reservations returned; the host
descriptor they belong to meets FAULT_UNIT_RETIRED (R23, R189). -/
def dropCore (s : State) (g : Nat) : State :=
  let c := s.core g
  let g' : CoreId := Fin.ofNat 192 g
  let s := if ringsIdle c && c.work.isEmpty then s else s.blame (.core .engine g' 0) (BitVec.ofNat 16 stRetired)
  let s := emptyWindows s g
  let held := s.power.dips.flatMap (fun d => d.2.heldSignals.filter (fun h => h.core == g))
  let s := held.foldl (fun s h => returnHeld s h.msg) s
  let mine (a : Actor) : Bool := match a with
    | .core _ h _ => h.val == g
    | _ => false
  let dips := smMap {} (fun _ (d : Dip) => { d with recompute := d.recompute.filter (fun r => r.1 != g)
                                                    heldSignals := d.heldSignals.filter (fun h => h.core != g) }) s.power.dips
  { s.setCore g {} with
    addends := s.addends.filter (fun a => !(mine a.src))
    mem := s.mem.dropLocal g
    power := { s.power with dips := dips } }

/-- The physical slot of a core is retired. Its cluster's spare takes the logical number, or the logical core becomes absent,
and every RUN that runs on it meets FAULT_UNIT_RETIRED (R22, R23, R387). A spare is taken to pass its quick Almanac; one that fails is
reported as a failed slot of its own (log entry 50). -/
def retireSlot (s : State) (cl slot : Nat) : State :=
  if s.rel.deadSlots.contains (cl * 16 + slot) then s
  else
    let unit := unitCode 4 1 (cl / 12) (cl % 12) slot 0 0
    let s := { s with rel := { s.rel with deadSlots := (cl * 16 + slot) :: s.rel.deadSlots
                                          permanent := satAdd s.rel.permanent 1 } }
    let spare := smGet 0 s.spares cl
    match s.logicalAt cl slot with
    | none =>
      let s := if spare = slot + 1 then { s with spares := smSet 0 s.spares cl 0 } else s
      retirementRecord s unit 2 4 (leBytes 1 slot)
    | some g =>
      if spare ≠ 0 then
        retirementRecord { dropCore s g with slotMap := smSet 0 s.slotMap g spare, spares := smSet 0 s.spares cl 0 } unit 1 4
          (leBytes 1 slot)
      else
        let s := blameLost s (fun x q d => (s.coresFor x q d.seq).contains g || (s.parkedFor x q d.seq).any (fun e => e.1 == g)) stRetired
        let s := dropCore s g
        let s := leaveBarriers { s with slotMap := smSet 0 s.slotMap g 0 } g
        emcy (retirementRecord s unit 2 4 (leBytes 1 slot)) 0xFF01 unit

/-- Retired granules of a stack (0 to 11) or channel (16 + c), from its base (R387). -/
def retiredIn (r : Reliability) (base size : Nat) : Nat :=
  (r.granules.filter (fun g => decide (base ≤ g * 4096) && decide (g * 4096 < base + size))).length

/-- A 4 KiB granule of HBM or DDR5 is retired; the 64th of a stack or channel declares it permanent (R387). -/
def retireGranule (s : State) (unit page : Nat) : State :=
  match s.translate (page * 4096) with
  | none => s
  | some p =>
    let hbm := decide (p < 0x28000000000)
    let i := if hbm then (p - 0x10000000000) / 2 ^ 37 else (p - 0x80000000000) / 2 ^ 38
    let base := if hbm then stackBase i else channelBase i
    let code := if hbm then i else 16 + i
    let s := { s with rel := { s.rel with granules := p / 4096 :: s.rel.granules } }
    let s := retirementRecord s unit 3 4 (leBytes 8 (page * 4096))
    if retiredIn s.rel base (if hbm then 2 ^ 37 else 2 ^ 38) = 64 && !(s.rel.leaving.contains code) then
      retirementRecord { s with rel := { s.rel with leaving := code :: s.rel.leaving, permanent := satAdd s.rel.permanent 1 } }
        unit 4 4 []
    else s

/-- A shared-cache cell: the granule of the scratch part is retired, or the way of the cache part disabled (R387). -/
def retireCacheCell (s : State) (unit : Nat) : State :=
  let cl := unitDie unit * 12 + unitCluster unit
  let off := bitsAt unit 3 29
  let gr := off / 2 ^ 24
  let scratch := smGet 0 s.mem.scratch cl
  if gr < scratch then
    retirementRecord { s with rel := { s.rel with scratchGranules := (cl * 32 + gr) :: s.rel.scratchGranules } } unit 3 4
      (leBytes 8 (scratchBase cl + gr * 2 ^ 24))
  else
    let w := Config.cacheCellWay off (setsOf s.mem cl)
    { s with rel := { s.rel with deadWays := ((cl * 2 ^ 40 + w.1) * 16 + w.2 % 16) :: s.rel.deadWays } }

/-- A permanent verdict acts according to the kind of unit (R24, R387). -/
def retireUnit (s : State) (k : EphKey) : State :=
  let u := k.unit.toNat
  let cl := unitDie u * 12 + unitCluster u
  match unitLevel u with
  | 1 => if bitsAt u 36 2 = 2 then retireCacheCell s u else retireSlot s cl (unitCore u)
  | 2 | 3 | 4 => retireSlot s cl (unitCore u)
  | 8 | 9 =>
    match k.granule with
    | some page => retireGranule s u page
    | none => s
  | _ => s

/-! ### Re-tests (R386, R391) -/

/-- Every ring of the core is idle and none of its tags is valid (R390). -/
def coreIdle (c : Core) : Bool :=
  [c.engine, c.vector, c.dma].all (fun r => r.window.isEmpty && decide (r.head = r.tail)) &&
  c.tags.all (fun t => !(tagValid t.2)) && c.redTags.all (fun t => !(tagValid t.2))

/-- The unit of a key is idle: for a unit of a core, its core is. -/
def keyIdle (s : State) (k : EphKey) : Bool :=
  let u := k.unit.toNat
  if 1 ≤ unitLevel u && decide (unitLevel u ≤ 4) then
    match s.logicalAt (unitDie u * 12 + unitCluster u) (unitCore u) with
    | some g => coreIdle (s.core g)
    | none => true
  else true

/-- The result of a targeted re-test of a suspect key: a pass makes it transient and clears its window, a failure makes it
permanent and retires the unit (R386, R391). -/
def retestResult (s : State) (k : EphKey) (pass : Bool) (test : Nat) : State :=
  let h := s.rel.history k
  if h.verdict ≠ 2 then s
  else if pass then
    let s := { s with rel := { s.rel.setHistory { h with verdict := 1, events := [] } with passed := satAdd s.rel.passed 1 } }
    logEntry s 0xF1 k.unit.toNat k.key.toNat 1 []
  else
    let s := { s with rel := { s.rel.setHistory { h with verdict := 3 } with failed := satAdd s.rel.failed 1 } }
    let id := match s.rel.bundle with
      | some b => (b.drop 8).take 14
      | none => []
    let s := fault s { unit := k.unit.toNat, src := 8, sev := 4, cls := 0x0B, key := test, syn := id }
    let s := raise (logEntry s 0xF1 k.unit.toNat k.key.toNat 3 []) 0x381
    retireUnit s k

/-! ### The log in flash (R385, R386) -/

/-- Two log entries speak of the same thing: their class, unit and key agree. -/
def sameSubject (a b : Bytes) : Bool :=
  byteAt a 39 == byteAt b 39 && decide (a.take 8 = b.take 8) && leAt a 40 2 == leAt b 40 2

/-- Entries of a block that are still live: retirements, and verdicts and configuration that no later entry replaces (R385). -/
def liveEntries : List Bytes → List Bytes → List Bytes
  | [], _ => []
  | e :: es, later =>
    let rest := liveEntries es later
    if byteAt e 39 == 0x0C || ((byteAt e 39 == 0xF1 || byteAt e 39 == 0xF3) && !((es ++ later).any (sameSubject e))) then e :: rest
    else rest

/-- With fewer than 16 erased blocks the oldest block's live entries are copied forward and it is erased (R385). -/
def compact (s : State) : State :=
  if s.rel.flashErased ≥ 16 then s
  else match s.rel.flashBlocks with
    | [] => s
    | b :: rest =>
      let r := (liveEntries b rest.flatten).foldl (fun (r : Reliability) e => r.append e) { s.rel with flashBlocks := rest }
      let n := smGet 0 r.wear r.oldestBlock + 1
      { s with rel := { r with flashErased := r.flashErased + 1, wear := smSet 0 r.wear r.oldestBlock n
                               wearMax := if n > r.wearMax.toNat then BitVec.ofNat 32 n else r.wearMax
                               oldestBlock := (r.oldestBlock + 1) % 1024 } }

/-- Ten minutes of operation have passed (R386). -/
def hoursTick (s : State) : State :=
  let r := s.rel
  let r := if r.sixths = 5 then { r with hours := r.hours + 1, sixths := 0 } else { r with sixths := r.sixths + 1 }
  logEntry { s with rel := r } 0xF2 0 0 0 (leBytes 4 r.hours ++ leBytes 1 r.sixths)

/-! ### Almanac (R388 to R390) -/

/-- One test entry of a bundle of n bytes (R388). -/
def testOk (n : Nat) (t : Bytes) : Bool :=
  decide (1 ≤ byteAt t 0) && decide (byteAt t 0 ≤ 7) && decide (1 ≤ byteAt t 1) && decide (byteAt t 1 ≤ 13) &&
  zeroRange t 2 4 && zeroRange t 60 64 && decide (leAt t 4 4 + leAt t 8 4 ≤ n)

/-- Framing, reserved fields, revision and signature of a bundle (R388, R389). -/
def bundleOk (c : Security) (b : Bytes) : Bool :=
  let n := leAt b 4 4
  let tests := leAt b 28 4
  b.length == n && leAt b 0 2 == 1 && decide (byteAt b 2 ≤ 1) && byteAt b 3 == 0 && n % 64 == 0 && decide (n ≤ 8 * 2 ^ 20) &&
  decide (1 ≤ tests) && decide (tests ≤ 4096) && decide (64 + 64 * tests + 4672 ≤ n) && leAt b 24 4 == revisionNumber &&
  zeroRange b 32 64 && zeroRange b (n - 45) n &&
  (List.range tests).all (fun i => testOk n ((b.drop (64 + 64 * i)).take 64)) &&
  c.verifies (if byteAt b 2 = 0 then 1 else 4) "EXG-ALMANAC" (b.take (n - 4672)) ((b.drop (n - 4672)).take 4627)

/-- The bundle at a module address, as long as its header says and at most 8 MiB. -/
def bundleAt (s : State) (a : Nat) : Option Bytes :=
  match readMem s s.mem 64 a with
  | .error _ => none
  | .ok h =>
    if leAt h 4 4 > 8 * 2 ^ 20 then none
    else match readMem s s.mem (leAt h 4 4) a with
      | .ok b => some b
      | .error _ => none

/-- LOAD: the bundle replaces the one held if it passes, and otherwise is discarded with a record (R389). -/
def almanacLoad (s : State) (a : Nat) : State :=
  match bundleAt s a with
  | some b => if bundleOk s.sec b then { s with rel := { s.rel with bundle := some b } }
    else fault s { src := 6, sev := 0, cls := 0x0D, key := 4, syn := leBytes 8 a }
  | none => fault s { src := 6, sev := 0, cls := 0x0D, key := 4, syn := leBytes 8 a }

/-- A test of an idle or scheduled run that failed: a record of class 0x0B, severity 2 (R391). -/
def testFailed (s : State) (unit : Nat) (test : Nat) : State :=
  let id := match s.rel.bundle with
    | some b => (b.drop 8).take 14
    | none => []
  fault { s with rel := { s.rel with failed := satAdd s.rel.failed 1 } }
    { unit := unit, src := 8, sev := 2, cls := 0x0B, key := test, syn := id }

/-- A unit code with a logical-form core translated to its physical slot (R386). -/
def physicalUnit (s : State) (u : Nat) : Nat :=
  if 1 ≤ unitLevel u ∧ unitLevel u ≤ 4 ∧ unitForm u = 0 then
    let g := unitDie u * 96 + unitCluster u * 8 + unitCore u
    u - unitCore u * 2 ^ 47 + 2 ^ 59 + (if s.present g then s.slotOf g else 15) * 2 ^ 47
  else u

/-- A unit lies in a scope: the module, or a part of a hierarchy level that holds it, or the unit itself (R18, R20, R390). -/
def unitWithin (scope u : Nat) : Bool :=
  let l := unitLevel scope
  decide (scope = u) || decide (l = 7) ||
  (decide (unitLevel u ≤ l) && decide (l ≤ 6) && decide (unitDie u = unitDie scope) &&
    (decide (l = 6) || (decide (unitCluster u = unitCluster scope) &&
      (decide (l = 5) || (decide (unitCore u = unitCore scope) && (decide (3 ≤ l) || decide (bitsAt u 38 9 = bitsAt scope 38 9)))))))

/-- An admitted plan holds a reservation on the unit of a key: the core, the scratch of its cluster, or a range with its granule (R176,
R390; log entry 152). -/
def planHolds (s : State) (k : EphKey) : Bool :=
  let u := k.unit.toNat
  let cl := unitDie u * 12 + unitCluster u
  let any (kinds : List Nat) (f : ResourceRec → Bool) : Bool := kinds.any (fun n => (heldBy s 256 n).any (fun h => f h.2))
  match unitLevel u with
  | 1 | 2 | 3 | 4 =>
    if unitLevel u = 1 ∧ bitsAt u 36 2 = 2 then any [3] (fun r => r.scope == cl)
    else match s.logicalAt cl (unitCore u) with
      | some g => any [1, 2, 4, 5] (fun r => r.scope == g)
      | none => false
  | 5 => any [3] (fun r => r.scope == cl)
  | 8 | 9 => match k.granule with
    | some page => any [9, 0x0A, 0x0B] (fun r => cellsMeet r.base r.amount (page * 4096) 4096)
    | none => false
  | _ => false

/-- A scheduled run over a scope tests this unit (R390). -/
def testedUnit (s : State) (scope : Nat) (k : EphKey) : Bool :=
  unitWithin (physicalUnit s scope) (physicalUnit s k.unit.toNat) && !(planHolds s k)

/-- RUN_SCHEDULED: the failures met among the units that it tests, then the summary. How many unit tests passed is a free value (R390,
R391). -/
def scheduledRun (s : State) (scope : Nat) (failures : List (EphKey × Nat)) : State :=
  let s := (failures.filter (fun f => testedUnit s scope f.1)).foldl (fun s f => testFailed s f.1.unit.toNat f.2) s
  let r := { s.rel with passed := satAdd s.rel.passed (Config.scheduledPasses s.draws) }
  logEntry { s with rel := r, draws := s.draws + 1 } 0xF4 0 0 0 (bytesOf 14 (Config.runSummaryByte s.draws))

/-- A write to AlmanacCommand (R396); the failures are what a scheduled run meets. -/
def almanacCommand (s : State) (b : Bytes) (failures : List (EphKey × Nat)) : Answer :=
  let op := byteAt b 0
  let v := leAt b 8 8
  if !(zeroRange b 1 8) then aborted s abRange
  else match op with
    | 1 => accepted (almanacLoad s v)
    | 2 => if v ≠ 0 then aborted s abRange else accepted { s with rel := { s.rel with idleRunning := true } }
    | 3 => if v ≠ 0 then aborted s abRange else accepted { s with rel := { s.rel with idleRunning := false } }
    | 4 =>
      if !(unitCodeOk v) then aborted s abRange
      else if s.rel.bundle.isNone then aborted s abState
      else accepted (scheduledRun s v failures)
    | 5 => if v ≠ 0 then aborted s abRange else accepted { s with rel := { s.rel with bundle := none } }
    | _ => aborted s abRange

/-- A test step on an idle core that was not interrupted (R390). -/
def idleStep (s : State) (g test : Nat) (pass : Bool) : State :=
  match s.rel.bundle with
  | none => s
  | some b =>
    if !s.rel.idleRunning || !(s.present g) || !(coreIdle (s.core g)) || decide (leAt b 28 4 ≤ test) then s
    else if pass then { s with rel := { s.rel with passed := satAdd s.rel.passed 1 } }
    else testFailed s (s.coreUnit g) test

/-! ### Supply dips (R392 to R395, R440, R441) -/

def State.dip (s : State) (die : Nat) : Dip := smGet {} s.power.dips die
def State.setDip (s : State) (die : Nat) (d : Dip) : State :=
  { s with power := { s.power with dips := smSet {} s.power.dips die d } }

/-- Code of the core rail of compute die 0 or 1, or of I/O die 0 or 1 (R440). -/
def coreRail (die : Nat) : Nat := if die < 2 then 2 + die else 4 + die

/-- Unit code of a die: compute dies 0 and 1, then I/O dies (R20). -/
def dieUnit (die : Nat) : Nat := if die < 2 then 6 * 2 ^ 60 + die * 2 ^ 55 else unitIndexed 11 (die - 2)

/-- The recompute set of a die is abandoned: its instructions complete with FAULT_DATA and their held signals become cancel
marks (R395). -/
def abandonRecompute (s : State) (die : Nat) : State :=
  let d := s.dip die
  let s := d.recompute.foldl (fun s r => s.blame (unitActor r.2.1 (Fin.ofNat 192 r.1) r.2.2.1) (BitVec.ofNat 16 stData)) s
  let s := d.heldSignals.foldl (fun s h => returnHeld s h.msg) s
  let marks := d.heldSignals.map (fun h => { h.msg with cancel := true, reserved := false })
  { s.setDip die { s.dip die with recompute := [], heldSignals := [] } with signals := s.signals ++ marks }

/-- Member calls whose combiner or update work overlaps a dip of an I/O die take FAULT_DATA (R312, R395). -/
def dipCalls (s : State) : State :=
  s.coll.instances.foldl (fun s i => if i.2.st = 3 ∨ i.2.st = 4 then i.2.blame s stData else s) s

/-- A core rail falls below its warning level: source, EMCY, window; beyond 16 dips in a second the recompute set is
abandoned, with one record (R392, R395). -/
def dipStart (s : State) (die rail mv : Nat) : State :=
  let d := s.dip die
  if d.low then s
  else
    let sec := clkcSecond s.clkc
    let n := if d.second = sec then d.inSecond + 1 else 1
    let d := { d with low := true, dipStart := s.clkc, second := sec, inSecond := n
                      window := d.window || decide (die < 2), begin := if d.window then d.begin else s.clkc }
    let core := [2, 3, 6, 7].contains rail
    let p := { s.power with dipCount := if core then satAdd s.power.dipCount 1 else s.power.dipCount }
    let s := emcy (raise ({ s with power := p }.setDip die d) 0x384) 0x3220 (dieUnit die)
    let s := if die < 2 then s else dipCalls s
    if n < 17 then s
    else
      let s := if die < 2 then abandonRecompute s die else s
      if n = 17 then fault s { unit := dieUnit die, src := 9, sev := 3, cls := 9, key := rail, syn := leBytes 2 mv } else s

/-- The rail is back above its warning level: the record, and LastDip (R392, R396). -/
def dipFinish (s : State) (die rail mv nanos : Nat) : State :=
  let d := s.dip die
  if !d.low then s
  else
    let s := s.setDip die { d with low := false }
    let last := leBytes 8 d.dipStart.toNat ++ leBytes 1 rail ++ [0#8] ++ leBytes 2 mv ++ leBytes 4 nanos
    let s := { s with power := { s.power with lastDip := last } }
    let s := fault s { unit := dieUnit die, src := 9, sev := 2, cls := 9, key := rail
                       syn := leBytes 2 mv ++ leBytes 4 nanos ++ leBytes 4 d.recompute.length }
    emcyClear s

/-- An instruction of a die still in flight at the window's end that the set takes in (R393). -/
def inFlightOverlap (u : UnitKind) (e : WinEntry) : Bool :=
  (decide (e.phase = .running) || decide (e.phase = .executed)) && decide (e.status = 0) &&
  match u with
  | .engine => [2, 3, 4, 8].contains (dOpcode e.desc)
  | .vector => true
  | .dma => false

/-- A host descriptor's completion record will carry DIP_RECOMPUTED (R110, R219, R394). -/
def markRecomputed (s : State) (a : Actor) : State :=
  match s.jobOf a with
  | some (x, q, seq) => s.modDesc x q seq (fun d => { d with flags := d.flags ||| 16 })
  | none => s

/-- The dip window of a compute die ends: the recompute set has been recomputed, with equal bits; the held signals are on
their way (R394). -/
def windowEnd (s : State) (die : Nat) : State :=
  let d := s.dip die
  if !d.window || d.low then s
  else
    let live := ((List.range 96).map (die * 96 + ·)).flatMap (fun g => [UnitKind.engine, .vector].flatMap (fun u =>
      (((s.core g).unit u).window.filter (inFlightOverlap u)).map (fun e => (g, u, e.seq))))
    let all := d.recompute.map (fun r => (r.1, r.2.1, r.2.2.1)) ++ live
    let s := all.foldl (fun s r => markRecomputed s (unitActor r.2.1 (Fin.ofNat 192 r.1) r.2.2)) s
    let s := s.setDip die { s.dip die with window := false, recompute := [], heldSignals := [] }
    { s with signals := s.signals ++ d.heldSignals.map (·.msg)
             power := { s.power with dipRecomputed := satAdd s.power.dipRecomputed all.length } }

/-- A rail that dipped and recovered: the rails of the compute dies and of the I/O cores as dips of their die, every other one
with a record alone (R440). -/
def otherDip (s : State) (rail mv nanos : Nat) : State :=
  if rail = 0 then s
  else if 2 ≤ rail && decide (rail ≤ 7) then
    let die := if rail < 4 then rail - 2 else rail - 4
    if (s.dip die).low then s else dipFinish (dipStart s die rail mv) die rail mv nanos
  else fault s { src := 9, sev := 1, cls := 9, key := rail, syn := leBytes 2 mv ++ leBytes 4 nanos }

/-! ### Control cores (R378) -/

/-- Every instruction of a unit that has not retired completes with FAULT_DATA. -/
def failInFlight (s : State) (g : CoreId) (u : UnitKind) : State :=
  let r := s.unitOf u g
  let open_ := r.window.filter (fun e => decide (e.phase ≠ .retired))
  open_.foldl (fun s e =>
    (leaveWaits s (unitActor u g e.seq)).modEntry u g e.seq (fun e =>
      { e with phase := .executed, status := if e.status = 0 ∨ e.status = 1 then BitVec.ofNat 16 stData else e.status
               issueTime := if e.phase = .fetched ∨ e.phase = .waiting then s.clkc else e.issueTime })) s

/-- A parity mismatch in a control core: its firmware restarts, its instructions in flight fail (R378). -/
def controlParity (s : State) (g : CoreId) : State :=
  if !s.present g then s
  else
    let s := fault s { parityNote s with unit := s.coreUnit g, src := 9 }
    [UnitKind.engine, .vector, .dma].foldl (fun s u => failInFlight s g u) s.draw

end Sys2Proof.Machine
end

