-- ==== Sys2Proof/Machine/SecOps.lean ====
section
/-! DEFINITION. Identity, lifecycle, keys, firmware images and updates, attestation, the test access port
(17_security_and_firmware.md). -/

namespace Sys2Proof.Machine

/-! ### Die identity (R1, R397) -/

/-- The metering part counts as present: a good dynamic frame within 2 s (R410, R432). -/
def State.meterPresent (s : State) : Bool := s.meter.fresh

/-- Stepping characters of compute, SRAM base and I/O dies (R1). -/
def steppingOf (typ : Nat) : Bytes :=
  match typ with
  | 1 => [0x43#8, 0x31#8]
  | 2 => [0x42#8, 0x32#8]
  | _ => [0x42#8, 0x30#8]

/-- Die identity record of sub-index i, 1 to 19 (R397). The lot, wafer, position and what stacks report are open. -/
def dieRecord (s : State) (i : Nat) : Bytes :=
  let f := Config.dieIdentityByte i
  let body := if i ≤ 6 then
      let typ := (i + 1) / 2
      leBytes 1 typ ++ leBytes 1 ((i + 1) % 2) ++ steppingOf typ ++ (List.range 9).map (fun j => f (4 + j)) ++ [0#8, f 14, f 15] ++ leBytes 12 0
    else
      let h := i - 8
      leBytes 1 5 ++ leBytes 1 h ++ (if s.mem.answered.getLsbD h then (List.range 26).map (fun j => f (2 + j)) else leBytes 26 0)
  if i = 7 then padTo 32 s.meter.mirror.identity else body ++ (sha3 body).take 4

/-- The steppings of the module's dies of a type. -/
def steppings (s : State) (typ : Nat) : List Bytes :=
  let subs := match typ with
    | 1 => [1, 2]
    | 2 => [3, 4]
    | 3 => [5, 6]
    | 4 => [7]
    | 5 => (List.range 12).map (8 + ·)
    | _ => []
  subs.map (fun i => ((dieRecord s i).drop 2).take 2)

/-- A blob's bytes (R400). -/
def blobBytes (s : State) (n : Nat) : Option Bytes :=
  let c := s.sec
  let key := c.identityKey
  match n with
  | 0 => some (key.getD [])
  | 1 => some (if key.isSome then c.certificate else [])
  | 2 => some (if key.isSome then c.report else [])
  | 3 => some c.key4
  | 4 => some c.key5
  | _ => none

/-- A 256-byte chunk, zero past the end (R400). -/
def chunkOf (b : Bytes) (k : Nat) : Bytes := padTo 256 (b.drop (256 * k))

/-! ### Images (R408 to R410) -/

/-- A firmware version with its manifest, as one of a combination: image type, version, manifest without its signature. -/
structure ImageView where
  typ      : Nat
  version  : Nat
  manifest : Bytes
deriving DecidableEq, Repr

/-- Bytes of a manifest before its signature. -/
def manifestBody (m : Bytes) : Nat := 128 + 4 * byteAt m 80 + 12 * byteAt m 81

/-- Stepping entries of a manifest: die type and stepping. -/
def manifestSteppings (m : Bytes) : List (Nat × Bytes) :=
  (List.range (byteAt m 80)).map (fun i => (byteAt m (128 + 4 * i), (m.drop (130 + 4 * i)).take 2))

/-- Range entries of a manifest: partner image type, minimum and maximum version. -/
def manifestRanges (m : Bytes) : List (Nat × Nat × Nat) :=
  (List.range (byteAt m 81)).map (fun i =>
    let o := 128 + 4 * byteAt m 80 + 12 * i
    (byteAt m o, leAt m (o + 4) 4, leAt m (o + 8) 4))

/-- A manifest of an image type in the form of R409. -/
def manifestForm (typ : Nat) (m : Bytes) : Bool :=
  leAt m 0 2 == 1 && byteAt m 2 == typ && byteAt m 3 == 0 && decide (byteAt m 8 ≤ 16) && zeroRange m 9 12 &&
  decide (1 ≤ byteAt m 80) && decide (byteAt m 80 ≤ 32) && decide (byteAt m 81 ≤ 2) && zeroRange m 82 128 &&
  decide (manifestBody m + 4627 ≤ 8192) &&
  (List.range (byteAt m 80)).all (fun i => byteAt m (129 + 4 * i) == 0) &&
  (List.range (byteAt m 81)).all (fun i => zeroRange m (129 + 4 * byteAt m 80 + 12 * i) (132 + 4 * byteAt m 80 + 12 * i))

/-- The image that follows a manifest in a bank; erased flash reads all ones (R408). -/
def imageBytes (b : Bytes) : Bytes :=
  let n := leAt b 12 4
  let i := (b.drop (manifestBody b + 4627)).take n
  i ++ List.replicate (n - i.length) 0xFF#8

/-- The manifest's signature and digest hold for the image, and its security version is at or above a minimum (R409, R410). -/
def imageValid (typ minimum : Nat) (b : Bytes) (verify : Bytes → Bytes → Bool) : Bool :=
  let n := manifestBody b
  manifestForm typ b && decide (n + 4627 ≤ b.length) && verify (b.take n) ((b.drop n).take 4627) &&
  decide (sha3 (imageBytes b) = (b.drop 16).take 64) && decide (minimum ≤ byteAt b 8)

/-- The measurement of an image: SHA3-512 of its manifest followed by the image (R409). -/
def imageMeasure (b : Bytes) : Bytes := sha3 (b.take (manifestBody b + 4627) ++ imageBytes b)

def Security.image (c : Security) (typ : Nat) : ImageSlot := if typ = 1 then c.control else c.fabricFw
def Security.setImage (c : Security) (typ : Nat) (i : ImageSlot) : Security :=
  if typ = 1 then { c with control := i } else { c with fabricFw := i }

def ImageSlot.bank (i : ImageSlot) (b : Bool) : Bank := if b then i.bankB else i.bankA
def ImageSlot.setBank (i : ImageSlot) (b : Bool) (k : Bank) : ImageSlot := if b then { i with bankB := k } else { i with bankA := k }
def ImageSlot.inactive (i : ImageSlot) : Bank := i.bank (!i.activeB)
def ImageSlot.setInactive (i : ImageSlot) (k : Bank) : ImageSlot := i.setBank (!i.activeB) k

/-- Check 1 of R410 on a bank of type 1 or 2. -/
def bankOk (c : Security) (typ : Nat) (k : Bank) : Bool :=
  k.valid && imageValid typ (c.image typ).minimum.toNat k.bytes (c.verifies 0 "EXG-MANIFEST")

def bankView (typ : Nat) (k : Bank) : ImageView := { typ := typ, version := leAt k.bytes 4 4, manifest := k.bytes }

/-- The metering image as the mirror shows it, if metering is present (R410, R431). -/
def meterView (s : State) : List ImageView :=
  if s.meterPresent then [{ typ := 3, version := s.meter.mirror.version.toNat, manifest := s.meter.mirror.manifest }] else []

/-- Check 2 of R410: for every die type that a manifest names, the module's steppings of it appear in the list. -/
def steppingsOk (s : State) (m : Bytes) : Bool :=
  let es := manifestSteppings m
  es.all (fun e => (e.1 == 4 && !s.meterPresent) ||
    (steppings s e.1).all (fun t => es.any (fun k => k.1 == e.1 && decide (k.2 = t))))

/-- Check 3 of R410: each image's version lies in the range every other one gives for its type. -/
def rangesOk (vs : List ImageView) : Bool :=
  vs.all (fun x => vs.all (fun y => x.typ == y.typ || (manifestRanges x.manifest).all (fun r =>
    r.1 != y.typ || (decide (r.2.1 ≤ y.version) && decide (y.version ≤ r.2.2)))))

/-- Checks 2 and 3 on a combination of images. -/
def compatible (s : State) (vs : List ImageView) : Bool := vs.all (fun v => steppingsOk s v.manifest) && rangesOk vs

/-! ### Boot check (R410, R411) -/

/-- The bank that boots: the active one, else the other one, else none. -/
def bootBank (c : Security) (typ : Nat) : ImageSlot :=
  let i := c.image typ
  let run (i : ImageSlot) (fallback : Bool) : ImageSlot :=
    let b := (i.bank i.activeB).bytes
    { i with running := BitVec.ofNat 32 (leAt b 4 4), measure := imageMeasure b, secver := BitVec.ofNat 8 (byteAt b 8)
             present := true, fallback := fallback }
  if bankOk c typ (i.bank i.activeB) then run i false
  else if bankOk c typ i.inactive then run { i with activeB := !i.activeB } true
  else { i with present := false, fallback := false, running := 0, measure := [], secver := 0 }

/-- Pending banks become active (R412). -/
def takePending (i : ImageSlot) : ImageSlot := if i.pending then { i with activeB := !i.activeB, pending := false } else i

/-- The check of start-up step 2: the images that run, the override consumed, and whether start-up may go on (R410, R411). -/
def bootCheck (s : State) (pinScope : Bool) : State × Bool :=
  let c := s.sec
  let c := if pinScope then c else { c with control := takePending c.control, fabricFw := takePending c.fabricFw }
  let c := { c with control := bootBank c 1, fabricFw := bootBank c 2, override := 0, armedAtBoot := decide (c.override = 1) }
  let s := { s with sec := c }
  if c.lifecycle = 0 ∨ c.lifecycle = 4 then (s, false)
  else
    let vs := [(1, c.control), (2, c.fabricFw)].map (fun i => bankView i.1 (i.2.bank i.2.activeB)) ++ meterView s
    let missing := !c.control.present || !c.fabricFw.present
    let good := compatible s vs
    if !missing && (good || c.armedAtBoot) then
      if good then ({ s with sec := { c with overrideUsed := false } }, true)
      else (logEntry { s with sec := { c with overrideUsed := true } } 0xF3 0 2 0 [1#8], true)
    else (emcy { s with sec := { c with overrideUsed := false } } 0x6100 0, false)

/-! ### Lifecycle (R401 to R404) -/

/-- The sealed save regions are zeroed (R85, R403). -/
def Memory.zeroSealed (m : Memory) : Memory :=
  let keep (p : Nat) : Bool := decide (0x28000000000 ≤ p) || decide (p % 2 ^ 37 < 80 * 2 ^ 30 - m.sealedBytes / 12)
  { m with cells := m.cells.filter (fun c => keep c.1), poison := m.poison.filter (fun b => keep (b * 64)) }

/-- The check of a staged token (R403). -/
def tokenOk (s : State) : Bool :=
  let c := s.sec
  let t := padTo 8192 c.staging
  leAt t 0 2 == 1 && decide (byteAt t 2 ≤ 1) && byteAt t 3 == 0 && leAt t 4 4 == serialNumber && leAt t 8 4 == revisionNumber &&
  zeroRange t 12 16 && zeroRange t 48 64 &&
  (match c.nonce with
   | some n => decide ((t.drop 16).take 32 = n) && decide ((s.clkc - c.nonceTime).toNat ≤ 600 * 1200000000)
   | none => false) &&
  c.verifies (if byteAt t 2 = 0 then 2 else 5) "EXG-TOKEN" (t.take 64) ((t.drop 64).take 4627)

/-- Sealed contexts that a Debug transition destroys: all on entry, those created in Debug on exit (R403). -/
def condemned (c : Context) (exit : Bool) : Bool := decide (c.st ≠ .free) && c.isSealed && (!exit || c.inDebug)

/-- The condemned contexts stop; their descriptors are completed with CANCELLED_DEPENDENCY as in R210. -/
def stopSealed (s : State) (exit : Bool) : State :=
  (s.contexts.filter (fun x => condemned x.2 exit)).foldl (fun s x =>
    let s := stopContext (s.setCtx x.1 { s.ctx x.1 with st := .resetting, replaySet := [], cascades := [] }) x.1
    (s.coresOf x.1).foldl withdrawCore s) s

/-- The condemned contexts are destroyed and the sealed regions zeroed. -/
def destroySealed (s : State) (exit : Bool) : State :=
  let s := (s.contexts.filter (fun x => condemned x.2 exit)).foldl (fun s x =>
    let s := x.2.allDescs.foldl (fun s d =>
      if d.2.decided then s else commitWith (closeDesc s x.1 d.1 stCancelled d.2) x.1 d.1 (d.2.closeWith stCancelled) stCancelled 0 []) s
    freeContext s x.1) s
  { s with mem := s.mem.zeroSealed }

/-- A write to LifecycleCommand: the command's checks, and the erasures it begins with (R402 to R404). -/
def lifecycleCommand (s : State) (b : Bytes) : Answer :=
  let op := byteAt b 0
  let v := leAt b 8 8
  let c := s.sec
  let l := c.lifecycle.toNat
  let begins (c : Security) (target : BitVec 8) : Security := { c with busy := some target }
  if op = 0 ∨ 5 < op ∨ !(zeroRange b 1 8) ∨ (op ≠ 5 ∧ v ≠ 0) then aborted s abRange
  else if c.busy.isSome then aborted s abState
  else match op with
    | 1 =>
      if l ≠ 0 then aborted s abState
      else accepted { s with sec := begins { c with seed := some (bytesOf 32 (Config.entropyByte s.draws)) } 1, draws := s.draws + 1 }
    | 2 => if l ≠ 1 then aborted s abState else accepted { s with sec := begins { c with override := 0 } 2 }
    | 3 =>
      if (l ≠ 1 ∧ l ≠ 2) ∨ c.fusesLeft.toNat < 3 then aborted s abState
      else
        let c' := { c with nonce := none }
        if tokenOk s then
          accepted (stopSealed { s with sec := begins { c' with beforeDebug := c.lifecycle } 3 } false)
        else aborted { s with sec := { c' with tokenRejects := satAdd c.tokenRejects 1 } } abState
    | 4 => if l ≠ 3 then aborted s abState else accepted (stopSealed { s with sec := begins c c.beforeDebug } true)
    | _ =>
      if l = 4 ∨ v ≠ serialNumber then aborted s abState
      else accepted { s with mem := s.mem.zeroSealed
                             sec := begins { c with seed := none, key4 := [], key5 := [], certificate := [], staging := [] } 4 }

/-- DebugNonce read from MGMT: a fresh random value (R403). -/
def freshNonce (s : State) : State × Bytes :=
  let n := bytesOf 32 (Config.entropyByte s.draws)
  ({ s with sec := { s.sec with nonce := some n, nonceTime := s.clkc }, draws := s.draws + 1 }, n)

/-! ### Staging and keys (R406, R407) -/

/-- Chunk n of the staging area is written. -/
def writeStage (s : State) (n : Nat) (b : Bytes) : State :=
  { s with sec := { s.sec with staging := overlay (padTo 8192 s.sec.staging) (256 * n) b } }

/-- A certificate that CERT_STORE takes (R399). -/
def certOk (c : Security) (cert : Bytes) : Bool :=
  (match c.identityKey with
   | some k => decide ((cert.drop 64).take 2592 = k)
   | none => false) &&
  c.verifies 3 "EXG-CERT" (cert.take 2656) ((cert.drop 2656).take 4627)

/-- A write to KeyCommand (R407). -/
def keyCommand (s : State) (b : Bytes) : Answer :=
  let c := s.sec
  let t := padTo 8192 c.staging
  let l := c.lifecycle.toNat
  if !(zeroRange b 2 16) then aborted s abRange
  else match byteAt b 0 with
    | 1 =>
      let n := byteAt b 1
      if n ≠ 4 ∧ n ≠ 5 then aborted s abRange
      else if !([1, 2, 3].contains l) || decide (4 ≤ (c.slot n).2.length) then aborted s abState
      else
        let k := t.take 2592
        let ds := sha3 k :: (c.slot n).2
        accepted { s with sec := if n = 4 then { c with key4 := k, digests4 := ds } else { c with key5 := k, digests5 := ds } }
    | 2 =>
      if byteAt b 1 ≠ 0 then aborted s abRange
      else if l ≠ 1 || !(certOk c (t.take 7424)) then aborted s abState
      else accepted { s with sec := { c with certificate := t.take 7424 } }
    | _ => aborted s abRange

/-! ### Updates (R412, R413) -/

/-- The class may run updates: MGMT, and HOST while FwUpdateHostEnable reads 1 (R405). -/
def updateRights (c : Security) (cls : PortClass) : Bool :=
  match cls with
  | .mgmt => true
  | .host => decide (c.fwHostEnable = 1)
  | _ => false

/-- A session is open and belongs to another class (R412). -/
def otherSession (c : Security) (cls : PortClass) : Bool := decide (c.fwState ≠ 0) && decide (c.fwOwner ≠ cls)

/-- Bytes of a bank (R408). -/
def bankSize (typ : Nat) : Nat := if typ = 1 then 32 * 2 ^ 20 else 16 * 2 ^ 20

/-- The combination that would boot with the inactive banks of some types, and of pending ones, made active (R412). -/
def wouldBoot (s : State) (mask : Nat) : List ImageView :=
  [1, 2].map (fun t =>
    let i := s.sec.image t
    bankView t (if bitAt mask (t - 1) || i.pending then i.inactive else i.bank i.activeB)) ++ meterView s

/-- The inactive banks of a mask become pending if each passes `ok` and the combination is compatible; the session ends. -/
def makePending (s : State) (mask : Nat) (ok : Nat → Bank → Bool) : Answer :=
  let c := s.sec
  let ts := [1, 2].filter (fun t => bitAt mask (t - 1))
  if 3 < mask then aborted s abRange
  else if !(ts.all (fun t => ok t (c.image t).inactive)) || !(compatible s (wouldBoot s mask)) then aborted s abState
  else
    let c := ts.foldl (fun c t => c.setImage t { c.image t with pending := true }) c
    accepted { s with sec := c }

/-- VERIFY: checks 1 and 2 of R410 on the inactive bank. -/
def fwVerify (s : State) : Answer :=
  let c := s.sec
  let t := c.fwImage.toNat
  let i := c.image t
  let whole := decide ((List.range (ceilDiv c.fwTotal.toNat 256)).all (fun k => bitAt c.fwReceived k) = true)
  if c.fwState ≠ 2 || !whole then aborted s abState
  else
    let k := { i.inactive with valid := true }
    let good := bankOk c t k && steppingsOk s k.bytes
    accepted { s with sec := { c.setImage t (i.setInactive { k with verified := good, valid := good }) with
      fwState := if good then 3 else 4 } }

/-- A write to FwUpdateCommand (R405, R412, R413). -/
def fwCommand (s : State) (cls : PortClass) (b : Bytes) : Answer :=
  let c := s.sec
  let op := byteAt b 0
  let m := byteAt b 1
  let total := leAt b 8 4
  if !(updateRights c cls) then aborted s abAccess
  else if op = 5 ∧ cls ≠ .mgmt then aborted s abAccess
  else if op = 0 ∨ 6 < op ∨ !(zeroRange b 2 8) ∨ !(zeroRange b 12 16) ∨ (op ≠ 1 ∧ total ≠ 0) ∨ ((op = 2 ∨ op = 4) ∧ m ≠ 0) then
    aborted s abRange
  else if otherSession c cls then aborted s abState
  else match op with
    | 1 =>
      if (m ≠ 1 ∧ m ≠ 2) ∨ bankSize m < total then aborted s abRange
      else if c.fwState = 1 ∨ c.fwState = 2 then aborted s abState
      else
        let i := (c.image m).setInactive { bytes := [], verified := false, valid := false }
        accepted { s with sec := { c.setImage m { i with pending := false } with
          fwState := 1, fwOwner := cls, fwImage := BitVec.ofNat 8 m, fwTotal := BitVec.ofNat 32 total, fwOffset := 0, fwReceived := 0 } }
    | 2 => fwVerify s
    | 3 =>
      if c.fwState = 1 ∨ c.fwState = 2 then aborted s abState
      else
        let r := makePending s m (fun _ k => k.verified)
        if r.2 = 0 then accepted { r.1 with sec := { r.1.sec with fwState := 0 } } else r
    | 4 =>
      if c.fwState = 0 then aborted s abState
      else
        let t := c.fwImage.toNat
        let i := c.image t
        accepted { s with sec := { c.setImage t (i.setInactive { i.inactive with valid := false, verified := false }) with fwState := 0 } }
    | 5 =>
      if 3 < m then aborted s abRange
      else if c.overrideUsed || !([1, 2].all (fun t => !(bitAt m (t - 1)) || (c.image t).present)) then aborted s abState
      else
        let c := [1, 2].foldl (fun c t =>
          let i := c.image t
          if bitAt m (t - 1) && decide (i.minimum.toNat < i.secver.toNat) then c.setImage t { i with minimum := i.secver } else c) c
        accepted { s with sec := c }
    | _ => makePending s m (fun t k => bankOk c t k)

/-- Bank erasure has completed (R412). -/
def eraseDone (s : State) : State := if s.sec.fwState = 1 then { s with sec := { s.sec with fwState := 2 } } else s

/-- A write of 256 bytes to FwUpdateData (R412). -/
def fwData (s : State) (cls : PortClass) (b : Bytes) : Answer :=
  let c := s.sec
  let t := c.fwImage.toNat
  let o := c.fwOffset.toNat
  if !(updateRights c cls) then aborted s abAccess
  else if otherSession c cls || decide (c.fwState ≠ 2) || decide (c.fwTotal.toNat ≤ o) then aborted s abState
  else
    let i := c.image t
    let k := i.inactive
    let old := k.bytes ++ List.replicate (o + 256 - k.bytes.length) 0xFF#8
    let bit := if bitAt c.fwReceived (o / 256) then 0 else 2 ^ (o / 256)
    accepted { s with sec := { c.setImage t (i.setInactive { k with bytes := overlay old o b }) with
      fwOffset := BitVec.ofNat 32 (o + 256), fwReceived := c.fwReceived + bit } }

/-- BankState (R417). -/
def bankState (c : Security) : Nat :=
  let f (i : ImageSlot) := boolNat i.activeB + 2 * boolNat i.pending
  f c.control + 4 * f c.fabricFw + 16 * boolNat c.control.inactive.verified + 32 * boolNat c.fabricFw.inactive.verified

/-! ### The override (R411) -/

/-- A write to QualificationOverride. -/
def writeOverride (s : State) (v : Nat) : Answer :=
  if 1 < v then aborted s abRange
  else if v = 1 ∧ s.sec.lifecycle ≠ 1 ∧ s.sec.lifecycle ≠ 3 then aborted s abState
  else accepted { s with sec := { s.sec with override := BitVec.ofNat 8 v } }

/-! ### Attestation (R414, R415) -/

/-- CoreSlotMap of a cluster: four bits for each logical core, 0xF for an absent one (R25). -/
def coreSlotWord (s : State) (cl : Nat) : Nat :=
  (List.range 8).foldl (fun a k =>
    let v := smGet 0 s.slotMap (cl * 8 + k)
    a + (if v = 0 then 15 else v - 1) * 16 ^ k) 0

/-- Digest of an operator slot, zero if none. -/
def slotDigest (ds : List Bytes) : Bytes := padTo 64 (ds.headD [])

/-- The 256-byte record of R415. -/
def configurationRecord (s : State) : Bytes :=
  let c := s.sec
  (List.range 24).flatMap (fun i => leBytes 4 (coreSlotWord s i)) ++
  leBytes 1 s.mem.population.toNat ++ leBytes 1 s.mem.ddrType.toNat ++ leBytes 2 s.mem.ddrRate.toNat ++ leBytes 2 s.mem.ddrGib ++
  leBytes 2 s.mem.sealedSlots.toNat ++ leBytes 4 journalBytes ++ leBytes 1 s.dict.nodeId.toNat ++ leBytes 1 (boolNat c.armedAtBoot) ++
  leBytes 1 (bankState c) ++ [0#8] ++
  leBytes 2 (match s.fabric.moduleId with
    | some m => m.toNat
    | none => 0xFFFF) ++
  leBytes 1 c.control.minimum.toNat ++ leBytes 1 c.fabricFw.minimum.toNat ++ leBytes 8 0 ++
  leBytes 2 (s.rel.granules.length + s.rel.scratchGranules.length) ++ leBytes 2 s.rel.permanent.toNat ++
  slotDigest c.digests4 ++ slotDigest c.digests5

/-- Bytes 0 to 1,119 of the report (R414). -/
def reportBody (s : State) : Bytes :=
  let c := s.sec
  let m := s.meter.mirror
  let here := s.meterPresent
  let flags := boolNat c.overrideUsed + 2 * boolNat (decide (s.device = .bootLimited)) + 4 * boolNat c.control.fallback +
    8 * boolNat c.fabricFw.fallback + 16 * boolNat (!here)
  leBytes 2 1 ++ leBytes 1 c.lifecycle.toNat ++ leBytes 1 flags ++ leBytes 4 revisionNumber ++ leBytes 4 serialNumber ++
  leBytes 4 s.rel.epoch.toNat ++ padTo 32 c.attestNonce ++ sha3 (c.identityKey.getD []) ++ sha3 (configurationRecord s) ++
  bytesOf 64 Config.bootRomMeasurementByte ++ padTo 64 c.control.measure ++ padTo 64 c.fabricFw.measure ++
  padTo 64 (if here then m.measure else []) ++
  leBytes 4 c.control.running.toNat ++ leBytes 4 c.fabricFw.running.toNat ++ leBytes 4 (if here then m.version.toNat else 0) ++
  leBytes 1 c.control.secver.toNat ++ leBytes 1 c.fabricFw.secver.toNat ++ leBytes 1 (if here then byteAt m.manifest 8 else 0) ++
  leBytes 1 0 ++ (List.range 19).flatMap (fun i => dieRecord s (i + 1)) ++ leBytes 64 0

/-- A write to AttestNonce (R414). -/
def attestStart (s : State) (nonce : Bytes) : Answer :=
  if s.sec.attestState = 1 || s.sec.identityKey.isNone then aborted s abState
  else accepted { s with sec := { s.sec with attestState := 1, attestNonce := nonce } }

/-- The report is ready: blob 2 is replaced whole (R398, R414). -/
def attestFinish (s : State) : State :=
  match s.sec.identity with
  | none => s
  | some seed =>
    if s.sec.attestState ≠ 1 then s
    else
      let b := reportBody s
      let sig := bytesOf 4627 (Config.mldsaSignByte seed "EXG-ATTEST" b s.draws)
      { s with sec := { s.sec with attestState := 2, report := padTo 5888 (b ++ sig) }, draws := s.draws + 1 }

/-! ### Test access port (R416) -/

/-- EXTEST, CLAMP and HIGHZ act: Boot/Limited, or the reset pin asserted. -/
def State.pinsFree (s : State) : Bool := decide (s.device = .bootLimited) || !s.power.resetN

/-- An instruction is current, and bits are shifted out. -/
def tapRun (s : State) (code width value : Nat) (f : Security → Security) : State :=
  ({ s with sec := f { s.sec with tapCode := BitVec.ofNat 8 code } }).send (.tap width value)

/-- One bit through the bypass register, which captures 0. -/
def tapBypass (s : State) (code : Nat) : State := tapRun s code 1 0 (fun c => { c with boundaryMode := 0 })

/-- Eight bytes of the sealed region at an offset, zero past its end. -/
def sealedWord (s : State) (o : Nat) : Nat :=
  if o + 8 ≤ s.mem.sealedBytes then leNat (getSave s (s.mem.sealedBase + o) 8) else 0

end Sys2Proof.Machine
end

