-- ==== Sys2Proof/Machine/MeterOps.lean ====
section
/-! DEFINITION. The sealed metering unit, its mirror in I/O die 0, and per-context attribution (18_metering.md). -/

namespace Sys2Proof.Machine

/-- The metering die changed. -/
def State.modDie (s : State) (f : MeterDie → MeterDie) : State := { s with meter := { s.meter with die := f s.meter.die } }
def State.modMeter (s : State) (f : Metering → Metering) : State := { s with meter := f s.meter }

/-- Version, measurement and key pair of the metering die (R423, R434). -/
def meterVersion (m : Metering) : Nat := leAt m.image 4 4
def meterMeasure (m : Metering) : Bytes := imageMeasure m.image
def meterSeed : Bytes := bytesOf 32 Config.meterSeedByte
def meterKey : Bytes := bytesOf 2592 (Config.mldsaPublicByte meterSeed)
def meterCertificate : Bytes := bytesOf 7424 Config.meterCertByte

/-- Identity record of the metering die, stepping A2 (R1, R397). -/
def meterRecord : Bytes :=
  let f := Config.dieIdentityByte 7
  let body := [4#8, 0#8, 0x41#8, 0x32#8] ++ (List.range 9).map (fun j => f (4 + j)) ++ [0#8, f 14, f 15] ++ leBytes 12 0
  body ++ (sha3 body).take 4

/-! ### Event log (R428) -/

/-- An entry of the event log of R428. -/
def meterEvent (s : State) (typ detail second : Nat) : State :=
  s.modDie (fun d =>
    let b := leBytes 4 d.eventCount.toNat ++ leBytes 1 typ ++ leBytes 3 detail ++ leBytes 8 d.opSeconds.toNat ++
      leBytes 8 d.energy.toNat ++ leBytes 4 second
    { d with events := smSet [] d.events (d.eventCount.toNat % 1024) (b ++ (sha3 b).take 4), eventCount := d.eventCount + 1 })

/-- Entry n of a log of `count` entries, zero if it is not held (R428, R430). -/
def eventEntry (events : SMap Bytes) (count n : Nat) : Bytes :=
  if n < count ∧ count ≤ n + 1024 then padTo 32 (smGet [] events (n % 1024)) else leBytes 32 0

/-- A bit of MeterStatus. -/
def setStatus (s : State) (bit : Nat) (on : Bool) : State :=
  s.modDie (fun d =>
    let m : BitVec 8 := 1#8 <<< bit
    { d with status := if on then d.status ||| m else d.status &&& ~~~m })

/-! ### Measurement (R418 to R421) -/

/-- The register is committed to the die's store (R421). -/
def commitRegister (s : State) : State := s.modMeter (fun m => { m with committed := m.die.energy })

/-- Every 10 ms: what was integrated since, new samples, and a commit; each hundredth is a second of operation. The amounts are
measured: free values (R418, R421). -/
def meterTick (s : State) : State :=
  let n := s.meter.samples
  let s := s.modMeter (fun m => { m with samples := n + 1, ticks := (m.ticks + 1) % 100 })
  let s := s.modDie (fun d => { d with energy := d.energy + Config.meterEnergyStep n, power := Config.meterPower n
                                       voltage := Config.meterVoltage n, current := Config.meterCurrent n
                                       opSeconds := if s.meter.ticks = 0 then d.opSeconds + 1 else d.opSeconds })
  commitRegister s

/-- The reference leaves 0.05 % of the metering oscillator, or returns (R419). -/
def referenceEvent (s : State) (away : Bool) (ppm : Nat) : State :=
  if away = s.meter.internal ∨ (away = true ∧ ppm ≤ 500) ∨ (away = false ∧ 500 < ppm) then s
  else meterEvent (setStatus (s.modMeter (fun m => { m with internal := away })) 2 away) 7 (boolNat away) ppm

/-- Input voltage outside 40 to 60 V, or power above 3,300 W for over a second, and their return (R428, R430). -/
def conditionEvent (s : State) (power away : Bool) (value : Nat) : State :=
  let bit := if power then 0 else 1
  if s.meter.die.status.getLsbD bit = away then s
  else meterEvent (setStatus s bit away) (if power then 6 else 5) (boolNat away) value

/-! ### Signed readings (R426, R427) -/

/-- Bytes 0 to 191 of a reading, of values taken at one instant. -/
def readingBody (m : Metering) (kind : Nat) (nonce : Bytes) : Bytes :=
  let d := m.die
  leBytes 2 1 ++ leBytes 1 kind ++ leBytes 1 d.status.toNat ++ leBytes 4 serialNumber ++ leBytes 8 d.energy.toNat ++
  leBytes 8 d.opSeconds.toNat ++ leBytes 4 d.powerOns.toNat ++ leBytes 4 d.sealBreaks.toNat ++ leBytes 4 d.eventCount.toNat ++
  leBytes 4 (meterVersion m) ++ leBytes 4 d.power.toNat ++ leBytes 2 d.voltage.toNat ++ leBytes 2 0 ++ meterMeasure m ++
  padTo 32 nonce ++ leBytes 48 0

/-- A signed reading of 4,864 bytes; the signature is hedged, a free value of its draw (R423, R426). -/
def signedReading (body : Bytes) (draw : Nat) : Bytes :=
  padTo 4864 (body ++ bytesOf 4627 (Config.mldsaSignByte meterSeed "EXG-METER" body draw))

/-- A nonce write: the values are sampled now (R427). -/
def readingStart (s : State) (nonce : Bytes) : Answer :=
  if s.meter.readState = 1 then aborted s abState
  else accepted (s.modMeter (fun m => { m with readState := 1, readSample := readingBody m 0 nonce }))

/-- The requested reading is signed: blob 0 is replaced whole (R427). -/
def readingFinish (s : State) : State :=
  if s.meter.readState ≠ 1 then s
  else (s.modMeter (fun m => { m with readState := 2, die := { m.die with blob0 := signedReading m.readSample s.draws } })).draw

/-- A periodic reading (R427). -/
def readingPeriodic (s : State) : State :=
  (s.modDie (fun d => { d with blob3 := signedReading (readingBody s.meter 1 []) s.draws })).draw

/-- A blob of the metering node (R430). -/
def meterBlob (m : Metering) (n : Nat) : Option Bytes :=
  match n with
  | 0 => some m.die.blob0
  | 1 => some meterKey
  | 2 => some meterCertificate
  | 3 => some m.die.blob3
  | _ => none

/-! ### The mirror (R352, R431, R432) -/

/-- The pairing of node IDs is checked: one EMCY 0xFF03 for each mismatch (R352). -/
def pairCheck (s : State) : State :=
  let own := s.dict.nodeId
  let seen := s.meter.mirror.nodeId
  if own = 0xFF ∨ seen = 0xFF then s
  else if seen = own + 64 then
    if s.dict.pairMismatch then emcyClear { s with dict := { s.dict with pairMismatch := false } } else s
  else if s.dict.pairMismatch then s
  else emcy { s with dict := { s.dict with pairMismatch := true } } 0xFF03 (unitIndexed 12 0)

def State.modMirror (s : State) (f : MeterView → MeterView) : State := s.modMeter (fun m => { m with mirror := f m.mirror })

/-- A dynamic frame: a new log entry or seal break raises 0x391 (R366, R431). -/
def dynamicFrame (s : State) : State :=
  let d := s.meter.die
  let v := s.meter.mirror
  let news := decide (v.eventCount ≠ d.eventCount) || decide (v.sealBreaks ≠ d.sealBreaks)
  let s := s.modMirror (fun v => { v with energy := d.energy, power := d.power, voltage := d.voltage, current := d.current
                                          status := d.status, sealBreaks := d.sealBreaks, eventCount := d.eventCount
                                          nodeId := d.nodeId, opSeconds := d.opSeconds, powerOns := d.powerOns })
  let s := s.modMeter (fun m => { m with fresh := true, frameTime := s.clkc })
  pairCheck (if news then raise s 0x391 else s)

/-- A frame of the link; one that fails its CRC is discarded and counted (R431, R432). -/
def takeMirror (s : State) (crcOk : Bool) (item : MirrorItem) : State :=
  let m := s.meter
  if !crcOk then s.modMeter (fun m => { m with frameErrors := satAdd m.frameErrors 1 })
  else match item with
    | .dynamic => dynamicFrame s
    | .identity => s.modMirror (fun v => { v with identity := meterRecord })
    | .firmware => s.modMirror (fun v => { v with version := BitVec.ofNat 32 (meterVersion m), measure := meterMeasure m })
    | .manifest => s.modMirror (fun v => { v with manifest := m.image.take (manifestBody m.image) })
    | .blob n => s.modMirror (fun v =>
        match n.val with
        | 1 => { v with blob1 := meterKey }
        | 2 => { v with blob2 := meterCertificate }
        | 3 => { v with blob3 := m.die.blob3 }
        | _ => v)
    | .event n =>
      if n < m.die.eventCount.toNat ∧ m.die.eventCount.toNat ≤ n + 1024 then
        s.modMirror (fun v => { v with events := smSet [] v.events (n % 1024) (smGet [] m.die.events (n % 1024)) })
      else s
    | .rotationEnd => s.modMeter (fun m => { m with rotated := true })

/-- The mirrored entry of a number: the entry held at its place, if it is that entry (R432). -/
def mirrorEntry (v : MeterView) (n : Nat) : Bytes :=
  let e := padTo 32 (smGet [] v.events (n % 1024))
  if leAt e 0 4 = n ∧ n < v.eventCount.toNat then e else leBytes 32 0

/-! ### The metering node (R424, R425) -/

/-- A message of the node, if it has an ID. -/
def meterSend (s : State) (base : Nat) (data : Bytes) : State :=
  if s.meter.die.nodeId = 0xFF then s
  else s.send (.meterCan (BitVec.ofNat 11 (base + s.meter.die.nodeId.toNat)) data)

/-- The values of the TPDO: EnergyRegister, then InputPower (R424). -/
def meterTpdoData (s : State) : Bytes := leBytes 8 s.meter.die.energy.toNat ++ leBytes 4 s.meter.die.power.toNat

/-- A heartbeat of the node (R354, R424). -/
def meterHeartbeat (s : State) : State := meterSend s 0x700 (leBytes 1 s.meter.nmt.toNat)

/-- A change of the node's NMT state sends one extra heartbeat (R354, R424). -/
def setMeterNmt (s : State) (v : BitVec 8) : State :=
  if s.meter.nmt = v then s else meterHeartbeat (s.modMeter (fun m => { m with nmt := v }))

/-- A communication reset of the node: its ID is the stored one, its communication objects are at their defaults, the boot-up
message is sent (R348, R424, R425). -/
def meterCommReset (s : State) : State :=
  let s := s.modMeter (fun m => { m with nmt := 0x05, tpdo := {}, heartbeatMs := 0x03E8, lssConfig := false, lssMatched := 0
                                         pendingNode := m.storedNode, die := { m.die with nodeId := m.storedNode } })
  meterSend s 0x700 [0#8]

/-- An NMT command at the metering node (R425). -/
def meterNmt (s : State) (command node : Nat) : State :=
  if s.meter.die.nodeId = 0xFF ∨ (node ≠ 0 ∧ node ≠ s.meter.die.nodeId.toNat) then s
  else match command with
    | 0x01 => setMeterNmt s 0x05
    | 0x02 => setMeterNmt s 0x04
    | 0x80 => setMeterNmt s 0x7F
    | 0x81 | 0x82 => meterCommReset s
    | _ => s

/-! ### Firmware replacement (R434) -/

/-- The reason code of the first check that an image fails, 0 if none. -/
def meterImageReason (m : Metering) (b : Bytes) : Nat :=
  let n := manifestBody b
  if !(manifestForm 3 b) || decide (b.length < n + 4627) ||
      !(Config.mldsaVerify (bytesOf 2592 Config.meterRomKeyByte) "EXG-METRO-FW" (b.take n) ((b.drop n).take 4627)) then 1
  else if sha3 (imageBytes b) ≠ (b.drop 16).take 64 then 2
  else if !((manifestSteppings b).contains (4, [0x41#8, 0x32#8])) then 3
  else if byteAt b 8 < m.minimum.toNat then 4
  else 0

/-- ACTIVATE: the checks, and on success the count, the event, the swap and the restart. -/
def meterActivate (s : State) : State :=
  let b := s.meter.staging
  let v := leAt b 4 4
  match meterImageReason s.meter b with
  | 0 =>
    let s := s.modDie (fun d => { d with sealBreaks := d.sealBreaks + 1 })
    let s := meterEvent s 3 (s.meter.die.sealBreaks.toNat % 2 ^ 24) v
    let s := s.modMeter (fun m => { m with image := b, staging := [], fwState := 0
                                           readState := if m.readState = 1 then 0 else m.readState
                                           minimum := if m.minimum.toNat < byteAt b 8 then BitVec.ofNat 8 (byteAt b 8) else m.minimum })
    meterSend s 0x700 [0#8]
  | r => (meterEvent s 4 r v).modMeter (fun m => { m with fwState := 3 })

/-- A write to MeterFwCommand. -/
def meterFwCommand (s : State) (b : Bytes) : Answer :=
  let n := leAt b 8 4
  let st := s.meter.fwState
  if !(zeroRange b 1 8) ∨ !(zeroRange b 12 16) ∨ (byteAt b 0 ≠ 1 ∧ n ≠ 0) then aborted s abRange
  else match byteAt b 0 with
    | 1 =>
      if 512 * 1024 < n then aborted s abRange
      else if st = 1 then aborted s abState
      else accepted (s.modMeter (fun m => { m with fwState := 1, fwSize := BitVec.ofNat 32 n, staging := [] }))
    | 2 => if st ≠ 1 then aborted s abState else accepted (meterActivate s)
    | 3 => if st ≠ 1 then aborted s abState else accepted (s.modMeter (fun m => { m with fwState := 0, staging := [] }))
    | _ => aborted s abRange

/-- A write of 256 bytes to MeterFwData, in order. -/
def meterFwData (s : State) (b : Bytes) : Answer :=
  if s.meter.fwState ≠ 1 ∨ s.meter.fwSize.toNat ≤ s.meter.staging.length then aborted s abState
  else accepted (s.modMeter (fun m => { m with staging := m.staging ++ b }))

/-- The metering die powers on: the register is that of the last commit (R421, R428). -/
def meterPowerOn (s : State) (selfTest : Option Nat) : State :=
  let s := s.modMeter (fun m =>
    { m with internal := false, fwState := 0, staging := [], readState := 0, readSample := [], eventSelect := 0, blobSelect := 0
             die := { m.die with energy := m.committed, powerOns := m.die.powerOns + 1, status := 0 } })
  let s := meterEvent s 1 (s.meter.die.powerOns.toNat % 2 ^ 24) 0
  let s := match selfTest with
    | none => s
    | some t => meterEvent (setStatus s 3 true) 8 t 0
  meterCommReset s

/-! ### Attribution (R433) -/

/-- The estimate of a context's activity, in femtojoules. -/
def estimate (w : MeterWeights) (a : Activity) : Nat :=
  let f (i : Nat) := leAt w.byteFj (2 * i) 2
  1000 * (a.engineBeats * w.engineBeat.toNat + a.vectorBeats * w.vectorBeat.toNat) +
  a.dmaBytes * f 0 + a.hbmBytes * f 1 + a.ddrBytes * f 2 + a.fabricBytes * f 3

/-- One context takes its share of an advance in millijoules; the fraction is carried. -/
def attributeOne (total delta : Nat) (w : MeterWeights) (p : State × Nat) (a : Activity) : State × Nat :=
  let c := p.1.ctx a.ctx
  let share : Rat := c.energyCarry + (delta * estimate w a : Nat) / (total : Rat)
  let n := share.floor.toNat
  (p.1.setCtx a.ctx { c with energy := c.energy + BitVec.ofNat 64 n, energyCarry := share - n }, p.2 + n)

/-- An interval of 100 ms: the register's advance is apportioned, and what remains is unattributed. -/
def apportion (s : State) (activity : List Activity) : State :=
  let w := s.meter.inForce
  let delta := match s.meter.lastEnergy with
    | some e => (s.meter.mirror.energy - e).toNat
    | none => 0
  let total := (activity.map (estimate w)).sum + w.idleW.toNat * 10 ^ 14
  let r := if total = 0 then (s, 0) else activity.foldl (attributeOne total delta w) (s, 0)
  r.1.modMeter (fun m => { m with unattributed := m.unattributed + BitVec.ofNat 64 delta - BitVec.ofNat 64 r.2
                                  lastEnergy := if m.fresh || m.lastEnergy.isSome then some m.mirror.energy else none, inForce := m.weights })

/-- AttributionClear (R433). -/
def attributionClear (s : State) (v : Nat) : Answer :=
  if 1 < v then aborted s abRange
  else if v = 0 then accepted s
  else
    let f (_ : Nat) (c : Context) : Context := { c with energy := 0, energyCarry := 0 }
    accepted ({ s with contexts := smMap {} f s.contexts }.modMeter (fun m =>
      { m with unattributed := 0 }))

end Sys2Proof.Machine
end

