-- ==== Sys2Proof/Machine/PowerOps.lean ====
section
/-! DEFINITION. Device states on the management bus (R348, R354), CLKA steps (R436, R437), input power (R439) and temperature
(R443, R444). -/

namespace Sys2Proof.Machine

/-! ### The CAN node's own messages (R348, R354) -/

/-- Heartbeat state byte (R348). -/
def nmtByte (s : State) : Nat :=
  match s.device with
  | .bootLimited => 0x7F
  | .service => 0x05
  | .quiesced => 0x04

/-- A message of the node goes out once it has an ID and is not off the bus (R350, R351). -/
def canSend (s : State) (base : Nat) (data : Bytes) : State :=
  if s.dict.nodeId = 0xFF ∨ s.dict.busState = 2 ∨ !s.power.regulators then s
  else s.send (.can (BitVec.ofNat 11 (base + s.dict.nodeId.toNat)) data)

def sendHeartbeat (s : State) : State := canSend s 0x700 (leBytes 1 (nmtByte s))

/-- The boot-up message (R348). -/
def sendBootUp (s : State) : State := canSend s 0x700 [0#8]

/-- A change of the device state sends one extra heartbeat; entering Service releases the INTRs held (R332, R354). -/
def setDevice (s : State) (d : DeviceState) : State :=
  if s.device = d then s
  else
    let s := sendHeartbeat { s with device := d }
    if d = .service then releaseIntr s else s

/-- The level of the pin service_n: low in Service alone, released at all other times and while the regulators are off (R458). -/
def State.serviceN (s : State) : Bool := !(s.power.regulators && decide (s.device = .service))

/-! ### CLKA (R436, R437) -/

/-- The power and thermal controllers act from start-up step 5 onward (R451). -/
def State.controlled (s : State) : Bool :=
  s.power.regulators && (decide (s.device ≠ .bootLimited) || decide (5 ≤ s.power.bootStep.toNat))

/-- The slowest of some steps. -/
def slowest (a b : BitVec 2) : BitVec 2 := if a.toNat < b.toNat then b else a

/-- Each compute die runs at the slowest of its cap, power and thermal steps; changes are counted (R437, R453). -/
def settleSteps (s : State) : State :=
  if !s.controlled then s
  else
    let p := s.power
    let cap := BitVec.ofNat 2 p.stepCap.toNat
    let a := slowest (slowest cap p.powerStep) p.thermalStep0
    let b := slowest (slowest cap p.powerStep) p.thermalStep1
    let n := boolNat (decide (a ≠ p.step0)) + boolNat (decide (b ≠ p.step1))
    { s with power := { p with step0 := a, step1 := b, stepChanges := satAdd p.stepChanges n } }

/-- Frequency of CLKA at a step, in MHz, halved in a dip window (R436). -/
def clkaMHz (s : State) (die : Nat) : Nat :=
  let k := 12 - 2 * (if die = 0 then s.power.step0 else s.power.step1).toNat
  300 * k / (if (s.dip die).window then 2 else 1)

/-! ### Input power (R439) -/

/-- The mean of the newest n samples, in mW. -/
def meanOf (n : Nat) (l : List Nat) : Nat := (l.take n).sum / n

/-- One step slower, down to step 3. -/
def slower (a : BitVec 2) : BitVec 2 := if a = 3 then 3 else a + 1
/-- One step faster, up to step 0. -/
def faster (a : BitVec 2) : BitVec 2 := if a = 0 then 0 else a - 1

/-- The power step after a sample: 3 at once above 3,300 W or while the input warning holds; one step slower at each millisecond whose
mean is above the limit; one step faster where the mean of 10 ms is 150 W below it, and then none for 10 ms (R439, R440). -/
def powerStepOf (p : Power) (mw : Nat) : Power :=
  let l := (mw :: p.samples).take 100
  let limit := p.limitW.toNat * 1000
  let above := decide (10 ≤ l.length) && decide (limit < meanOf 10 l)
  let below := decide (l.length = 100) && decide (meanOf 100 l + 150000 < limit)
  let p := { p with samples := l, inputHold := p.inputHold - 1 }
  if p.inputWarn ∨ 0 < p.inputHold ∨ 3300000 < mw then { p with powerStep := 3, sinceSlower := 0, fasterHold := p.fasterHold - 1 }
  else if 0 < p.fasterHold then { p with fasterHold := p.fasterHold - 1 }
  else if above then
    if 9 ≤ p.sinceSlower then { p with powerStep := slower p.powerStep, sinceSlower := 0 }
    else { p with sinceSlower := p.sinceSlower + 1 }
  else if below && decide (p.powerStep ≠ 0) then { p with powerStep := faster p.powerStep, fasterHold := 100, sinceSlower := 9 }
  else { p with sinceSlower := 9 }

/-- POWER_SAMPLE: outside the controllers' time the sample alone is kept. -/
def samplePower (s : State) (mw : Nat) : State :=
  if !s.power.regulators then s
  else if s.controlled then settleSteps { s with power := powerStepOf s.power mw }
  else { s with power := { s.power with samples := (mw :: s.power.samples).take 100 } }

/-! ### Temperature (R442 to R444) -/

/-- Sensors of compute die d with its base die, of its stacks, and of the I/O dies (R442). -/
def dieSensors (d : Nat) : List Nat :=
  (List.range 12).map (d * 12 + ·) ++ (List.range 4).map (44 + 4 * d + ·) ++ (List.range 4).map (52 + 4 * d + ·)
def stackSensors (d : Nat) : List Nat := (List.range 6).map (24 + 6 * d + ·)
def ioSensors : List Nat := (List.range 8).map (36 + ·) ++ (List.range 4).map (60 + ·)

/-- A sensor in eighths of a degree; one not yet sampled reads 0x8000 (R453). -/
def tempOf (l : List (BitVec 16)) (i : Nat) : Int := (l.getD i 0x8000#16).toInt

/-- A sensor of the list reads at least a threshold. -/
def anyAt (l : List (BitVec 16)) (sensors : List Nat) (t : Int) : Bool := sensors.any (fun i => decide (t ≤ tempOf l i))

/-- A die group is hot (R443). -/
def groupHot (l : List (BitVec 16)) (d : Nat) : Bool :=
  anyAt l (dieSensors d) 800 || anyAt l (stackSensors d) 760 || anyAt l ioSensors 800

/-- Every sensor of the group reads at least 5 °C below its threshold (R443). -/
def groupCool (l : List (BitVec 16)) (d : Nat) : Bool := !(anyAt l (dieSensors d) 761) && !(anyAt l (stackSensors d) 721)

/-- A sensor beyond the shutdown level (R444). -/
def beyondLimit (l : List (BitVec 16)) : Bool :=
  anyAt l (dieSensors 0 ++ dieSensors 1 ++ ioSensors) 880 || anyAt l (stackSensors 0 ++ stackSensors 1) 840

/-- The thermal step of a group after a sample, with the samples it has been hot and cool for: a step slower at each millisecond hot,
a step faster after 10 ms cool (R443). -/
def thermalStepOf (step : BitVec 2) (hot cool : Bool) (hotTicks coolTicks : Nat) : BitVec 2 × Nat × Nat :=
  if hot then if 9 ≤ hotTicks then (slower step, 0, 0) else (step, hotTicks + 1, 0)
  else if cool then if 99 ≤ coolTicks then (faster step, 0, 0) else (step, 0, coolTicks + 1)
  else (step, 0, 0)

/-- The first sample of a hot episode of a group: source, EMCY and record (R443). -/
def hotEpisode (s : State) (d : Nat) : State :=
  let s := { s with power := { s.power with hotEpisodes := satAdd s.power.hotEpisodes 1 } }
  let s := emcy (raise s 0x385) 0x4210 (dieUnit d)
  let k := hottestSensor s.power.temps
  fault s { unit := dieUnit d, src := 9, sev := 0, cls := 0x0A, key := k, syn := leBytes 2 (s.power.temps.getD k 0#16).toNat }

/-- The thermal controllers take a sample (R443). -/
def thermalControl (s : State) : State :=
  let p := s.power
  let h0 := groupHot p.temps 0
  let h1 := groupHot p.temps 1
  let a := thermalStepOf p.thermalStep0 h0 (groupCool p.temps 0) p.hotTicks0 p.coolTicks0
  let b := thermalStepOf p.thermalStep1 h1 (groupCool p.temps 1) p.hotTicks1 p.coolTicks1
  let s := { s with power := { p with
    thermalStep0 := a.1, hotTicks0 := a.2.1, coolTicks0 := a.2.2, hot0 := h0
    thermalStep1 := b.1, hotTicks1 := b.2.1, coolTicks1 := b.2.2, hot1 := h1 } }
  let s := if h0 && !p.hot0 then hotEpisode s 0 else s
  let s := if h1 && !p.hot1 then hotEpisode s 1 else s
  settleSteps (emcyClear s)

end Sys2Proof.Machine
end

