-- ==== Sys2Proof/Machine/ResetOps.lean ====
section
/-! DEFINITION. Resets and what each keeps (R445 to R450), start-up (R451, R452), the rails' reset levels (R440, R441), and the pins
(R463). -/

namespace Sys2Proof.Machine

/-! ### What survives a reset (R446) -/

/-- Scope of a reset that begins start-up. -/
inductive Scope
  | powerOn
  | pin
  | warm
deriving DecidableEq, Repr

/-- Fuses, lifecycle, keys and the firmware flash survive every reset; sessions, the staging area and the nonce do not. -/
def Security.afterReset (c : Security) (scope : Scope) : Security :=
  let img (i : ImageSlot) : ImageSlot :=
    { i with running := 0, measure := [], secver := 0, present := false, fallback := false
             bankA := { i.bankA with verified := i.bankA.verified && decide (scope = .warm) }
             bankB := { i.bankB with verified := i.bankB.verified && decide (scope = .warm) } }
  let c := { c with busy := none, staging := [], nonce := none, fwState := 0, fwOffset := 0, fwReceived := 0, attestState := 0
                    report := [], overrideUsed := false, control := img c.control, fabricFw := img c.fabricFw }
  match scope with
  | .warm => c
  | _ => { c with tokenRejects := 0, fwHostEnable := 0, override := 0 }

/-- Ephemeris survives every reset; the epoch counts up, the bundle is unloaded (R382, R389). -/
def Reliability.afterReset (r : Reliability) (scope : Scope) : Reliability :=
  let r := { r with epoch := r.epoch + 1, bundle := none, recentCe := [], logSecond := 0, logInSecond := 0, lostDies := [] }
  match scope with
  | .warm => r
  | _ => { r with records := [], recordCount := 0, oldest := 0, intervalS := 0x3C, dropped := 0, hbmCorrected := [], ddrCorrected := []
                  sramCorrected := 0, sliceRefetch := 0, scrubHours := 0x18, slotFailures := 0, tatmHbm := [], tatmIo := []
                  idleRunning := false, idleUs := 0x1F4, deadlineS := 0x258, passed := 0, failed := 0 }

/-- HBM and DDR5 are kept through a warm reset, sealed regions zeroed, and lost otherwise; SRAM is zeroed (R446). The sealed region
takes its written size (R86). -/
def Memory.afterReset (m : Memory) (scope : Scope) : Memory :=
  match scope with
  | .warm =>
    let m := m.zeroSealed
    let m := { m with sealedInForce := m.sealedSlots }.zeroSealed
    { m with cells := m.cells.filter (fun c => decide (c.1 < 0x100000000000))
             poison := m.poison.filter (fun b => decide (b * 64 < 0x100000000000))
             scratch := [], cache := [], relocating := none }
  | _ => { answered := m.answered }

/-- Ports and trackers begin again; a warm reset keeps settings and counts, and a port that a command disabled stays so until
power-on (R268, R446). -/
def Fabric.afterReset (f : Fabric) (scope : Scope) : Fabric :=
  let st (k : Port) : BitVec 3 := if k.st = 4 ∨ k.st = 5 then k.st else 0
  match scope with
  | .powerOn => {}
  | .pin => { ports := (f.ports.map (fun p => (p.1, ({ st := st p.2 } : Port)))).filter (fun p => decide (p.2 ≠ ({} : Port))) }
  | .warm =>
    let keep (k : Port) : Port := { st := st k, corrected := k.corrected, uncorrectable := k.uncorrectable, retries := k.retries
                                    downs := k.downs, downHour := k.downHour, downsInHour := k.downsInHour }
    { f with ports := (f.ports.map (fun p => (p.1, keep p.2))).filter (fun p => decide (p.2 ≠ ({} : Port))), moduleId := none
             streams := [], trackers := [], results0 := [], results1 := [], lostPlanes := 0, retryAfter := [] }

def Collectives.afterReset (c : Collectives) (scope : Scope) : Collectives :=
  match scope with
  | .warm => { c with instances := [], barrierUps := [], slotless := [], past := [] }
  | _ => {}

/-- Drinex will train afresh; a link that a command disabled stays so until power-on (R320, R446). -/
def Drinex.afterReset (d : Drinex) (scope : Scope) : Drinex :=
  let st : BitVec 3 := if d.st = 4 then 4 else 0
  match scope with
  | .powerOn => {}
  | .pin => { st := st }
  | .warm => { st := st, epoch := d.epoch, corrected := d.corrected, uncorrectable := d.uncorrectable, crcErrors := d.crcErrors
               replays := d.replays, downs := d.downs, degrades := d.degrades, refused := d.refused, refusedAddr := d.refusedAddr
               echoResends := d.echoResends, echoUnmatched := d.echoUnmatched }

/-- The CAN FD node restarts with the stored ID; AccessLevel and the Select objects take their defaults (R351, R446). -/
def Dict.afterReset (d : Dict) (scope : Scope) : Dict :=
  let node := d.storedNodeId
  let bus : BitVec 8 := if node = 0xFF then 3 else 0
  match scope with
  | .warm => { d with accessLevel := 0, host := {}, mgmt := {}, debug := {}, fabric := [], nodeId := node, pendingNodeId := node
                      busState := bus, txErrors := 0, rxErrors := 0, emcyQueue := [], emcyHeld := false, sessions := [], lssConfig := false
                      lssMatched := 0, tapResponses := [], tapRequest := none, pairMismatch := false, errorRegister := 0 }
  | _ => { nodeId := node, pendingNodeId := node, storedNodeId := node, busState := bus }

/-- The metering part is untouched; the mirror in I/O die 0 is lost with its power, attribution settings and remainder at a
power-on or pin reset (R446). -/
def Metering.afterReset (m : Metering) (scope : Scope) : Metering :=
  match scope with
  | .warm => { m with frameTime := 0 }
  | _ => { m with mirror := {}, fresh := false, rotated := false, frameTime := 0, frameErrors := 0, unattributed := 0, lastEnergy := none
                  weights := {}, inForce := {} }

/-- Start-up begins at step 1 with a cause; the controllers begin again (R451, R453). -/
def Power.afterReset (p : Power) (scope : Scope) (cause : BitVec 8) : Power :=
  let base : Power :=
    { regulators := true, powerEnable := p.powerEnable, resetN := p.resetN, refLost := p.refLost
      pinHeld := !p.resetN, resetCause := cause, bootWarm := decide (scope = .warm), sweepDone := decide (scope ≠ .warm) }
  match scope with
  | .warm => { base with pinHeld := p.pinHeld, stepCap := p.stepCap, stepChanges := p.stepChanges, limitW := p.limitW
                         hotEpisodes := p.hotEpisodes, dipCount := p.dipCount, lastDip := p.lastDip, dipRecomputed := p.dipRecomputed
                         drainMs := p.drainMs, dieResets := p.dieResets, temps := p.temps, inputWarn := p.inputWarn }
  | _ => { base with temps := p.temps, inputWarn := p.inputWarn }

/-- Routes, enables and limits survive a warm reset, pending bits do not (R446). -/
def sourcesAfter (m : SMap IrqSource) (scope : Scope) : SMap IrqSource :=
  match scope with
  | .warm => (m.map (fun p => (p.1, { p.2 with pending := false }))).filter (fun p => decide (p.2 ≠ ({} : IrqSource)))
  | _ => []

def destsAfter (m : SMap IrqDest) (scope : Scope) : SMap IrqDest :=
  match scope with
  | .warm => (m.map (fun p => (p.1, { p.2 with count := 0, started := none }))).filter (fun p => decide (p.2 ≠ ({} : IrqDest)))
  | _ => []

/-- A reset of some scope: the table of R446, and start-up at step 1. Contexts and counters outlive a warm reset until the sweep of
R448. -/
def restart (s : State) (scope : Scope) (cause : BitVec 8) : State :=
  let warm := decide (scope = .warm)
  { pending := s.pending, out := s.out, draws := s.draws
    clkc := 0, device := .bootLimited
    mem := s.mem.afterReset scope
    slotMap := s.slotMap, spares := s.spares
    counters := if warm then s.counters else []
    syncFaults := if warm then s.syncFaults else 0
    tailDiscards := if warm then s.tailDiscards else 0
    contexts := if warm then s.contexts else []
    queueObjs := if warm then { s.queueObjs with snapBusy := false } else {}
    training := if warm then s.training else {}
    fabric := s.fabric.afterReset scope
    coll := s.coll.afterReset scope
    drinex := s.drinex.afterReset scope
    dict := s.dict.afterReset scope
    sources := sourcesAfter s.sources scope, dests := destsAfter s.dests scope
    rel := s.rel.afterReset scope
    sec := s.sec.afterReset scope
    meter := s.meter.afterReset scope
    power := s.power.afterReset scope cause }

/-- Every regulator goes off: nothing holds state but fuses and flashes; the next start is a power-on reset with a cause (R440, R444,
R463). -/
def powerOff (s : State) (cause : BitVec 8) : State :=
  let t := restart s .powerOn cause
  { t with clkc := s.clkc
           rel := { t.rel with epoch := s.rel.epoch }
           dict := { t.dict with nodeId := 0xFF }
           power := { t.power with regulators := false, offCause := cause, thermalLatch := s.power.thermalLatch
                                   inputLost := s.power.inputLost, pinHeld := false } }

/-! ### Which reset is under way (R450) -/

/-- A start-up is under way: it has neither entered Service nor stopped at a failure. -/
def State.starting (s : State) : Bool := s.power.regulators && decide (s.device = .bootLimited) && !s.power.bootFailed

/-- The start-up under way follows a power-on reset; a pin-scope reset; a warm reset. -/
def State.startingPower (s : State) : Bool := s.starting && [1#8, 6#8, 7#8].contains s.power.resetCause
def State.startingPin (s : State) : Bool := s.starting && [2#8, 8#8, 9#8].contains s.power.resetCause
def State.startingWarm (s : State) : Bool := s.starting && s.power.bootWarm

/-- A reset of pin scope: absorbed by a power-on reset in progress (R445, R450). -/
def pinReset (s : State) (cause : BitVec 8) : State :=
  if !s.power.regulators || s.startingPower then s else restart s .pin cause

/-- Steps 4 to 6 of a warm reset: absorbed by a larger reset, or by one like it, in progress (R447, R450). -/
def warmRestart (s : State) (cause : BitVec 8) : State :=
  if !s.power.regulators || s.starting then s else restart s .warm cause

/-- The power-on reset begins where the start rule holds: regulators off, power_enable high, input in range, no thermal latch (R444,
R463). Its cause is that of the power going off; start-up holds in step 1 while module_reset_n is low. -/
def powerStart (s : State) : State :=
  let p := s.power
  if p.regulators || !p.powerEnable || p.inputLost || p.thermalLatch then s else restart s .powerOn p.offCause

/-! ### Warm reset (R447) -/

/-- ResetCause of a warm reset (R453). -/
def warmCause (w : ResetWhy) : BitVec 8 :=
  match w with
  | .warmNmt => 3
  | .warmCommand => 4
  | _ => 5

/-- A commanded warm reset begins: acceptance stops (R447 step 1). It is absorbed where a reset is under way. -/
def warmCommanded (s : State) (w : ResetWhy) : State :=
  if !s.power.regulators || s.starting || s.power.draining.isSome then s
  else { s with power := { s.power with draining := some w } }

/-- Step 3: every accepted, uncommitted descriptor is closed; its state 2 block is written and its commit-echo sent. -/
def closeAll (s : State) : State :=
  s.contexts.foldl (fun s x => x.2.queues.foldl (fun s k => k.2.descs.foldl (fun s d =>
    if d.decided then s
    else commitWith (closeDesc s x.1 k.1 stCancelled d) x.1 k.1 { d.closeWith stCancelled with attempts := 0 } stCancelled 0 []) s) s) s

/-- Some accepted, dispatched descriptor is uncommitted (R447 step 2). -/
def State.uncommitted (s : State) : Bool := s.contexts.any (fun x => x.2.allDescs.any (fun d => !d.2.undispatched && !d.2.decided))

/-- The end of the drain (R447 step 3). -/
def drainEnd (s : State) : State := if s.power.draining.isSome then closeAll s else s

/-- Completion records of what has been echoed, in sequence order per queue. -/
def writeRest (s : State) : State :=
  s.contexts.foldl (fun s x => x.2.queues.foldl (fun s k => k.2.descs.foldl (fun s _ => completeStep s x.1 k.1) s) s) s

/-- WARM_RESET: a commanded one closes what is left and writes the records due; one by firmware fault skips that (R447). -/
def warmReset (s : State) (w : ResetWhy) : State :=
  match s.power.draining with
  | some c => warmRestart (writeRest (closeAll s)) (warmCause c)
  | none =>
    match w with
    | .warmFirmware => warmRestart s 5
    | w => if s.power.regulators && !s.starting then warmRestart (writeRest (closeAll s)) (warmCause w) else s

/-! ### Die reset (R449) -/

def State.dieResetting (s : State) (d : Nat) : Bool := if d = 0 then s.power.dieResetting0 else s.power.dieResetting1

def setDieResetting (s : State) (d : Nat) (b : Bool) : State :=
  { s with power := if d = 0 then { s.power with dieResetting0 := b } else { s.power with dieResetting1 := b } }

/-- A die reset begins: contexts concerned recover, instructions in flight on the die complete with FAULT_DATA (R449 step 1); a dip
window of the die ends with it (R441); the staging area and nonce are cleared (R446). -/
def dieResetBegin (s : State) (d : Nat) : State :=
  if !s.power.regulators || s.starting || s.power.draining.isSome then s
  else
    let again := s.dieResetting d
    let s := { setDieResetting (clearStaging s) d true with
      power := { (setDieResetting s d true).power with dieResets := if again then s.power.dieResets else satAdd s.power.dieResets 1 } }
    let s := (abandonRecompute s d).setDip d {}
    let s := blameLost s (fun x q k => (s.coresFor x q k.seq).any (fun g => g / 96 == d)) stData
    let s := ((List.range 96).map (d * 96 + ·)).foldl (fun s g =>
      [UnitKind.engine, .vector, .dma].foldl (fun s u => failInFlight s (Fin.ofNat 192 g) u) s) s
    recoverHolders s d

/-- A core begins again with nothing in it. -/
def blankCore (s : State) (g : Nat) : State :=
  (emptyWindows s g).setCore g {}

/-- Memories of compute die d are zeroed: local SRAM, scratch and shared cache. -/
def Memory.zeroDie (m : Memory) (d : Nat) : Memory :=
  let keep (p : Nat) : Bool := decide (p < 0x100000000000) ||
    (if p < 0x100100000000 then decide ((p - 0x100000000000) / 2 ^ 24 / 96 ≠ d) else decide ((p - 0x100100000000) / 0x20000000 / 12 ≠ d))
  { m with cells := m.cells.filter (fun c => keep c.1), poison := m.poison.filter (fun b => keep (b * 64))
           cache := m.cache.filter (fun c => decide (c.1 / 12 ≠ d)) }

/-- Counters of the die's sync array are set from their translation records as in R204, and its barriers are cleared (R449 step 4). -/
def resetDieSync (s : State) (d x : Nat) : State :=
  let c := s.ctx x
  let recs := match c.plan with
    | some p => p.trans
    | none => []
  let s := recs.foldl (fun s t =>
    let p := trTarget (s.transEntry x t.vid.toNat)
    if t.kind = 0 && counterDie p == d then
      s.setCtr p { s.ctr p with produced := 0, consumed := 0, reserved := 0, frozen := false, cancelled := false, cause := 0
                                waiters := [], monotonic := t.mono, buffers := t.buffers }
    else s) s
  let c := s.ctx x
  if c.barrierDie = d then s.setCtx x { c with barriers := smMap {} (fun _ b => b.clear) c.barriers } else s

/-- A die reset clears every counter and event slot of training support; what host software configured stays (R264). -/
def clearTraining (s : State) : State :=
  let t := s.training
  { s with training := { log2Rate := t.log2Rate, seed := t.seed, threshold := t.threshold }
           contexts := smMap {} (fun _ c => { c with flipCount := 0 }) s.contexts }

/-- The die is back: its state is zeroed, its counters set, and the contexts replay or go on (R449 steps 3 to 5). -/
def dieResetEnd (s : State) (d : Nat) : State :=
  if !(s.dieResetting d) then s
  else
    let s := setDieResetting s d false
    let s := ((List.range 96).map (d * 96 + ·)).foldl blankCore s
    let s := clearTraining { s with mem := s.mem.zeroDie d }
    let s := s.contexts.foldl (fun s x => resetDieSync s d x.1) s
    s.contexts.foldl (fun s x => if (s.ctx x.1).st = .recovering then replayStart s x.1 else s) s

/-- DIE_RESET: one that has not begun begins here (R449). -/
def dieReset (s : State) (d : Nat) : State := dieResetEnd (if s.dieResetting d then s else dieResetBegin s d) d

/-- A write to ResetCommand (R450, R453). -/
def resetCommand (s : State) (v : Nat) : Answer :=
  if v = 0 ∨ 3 < v then aborted s abRange
  else if s.power.draining.isSome || s.startingWarm then aborted s abState
  else if v = 1 then accepted (warmCommanded s .warmCommand)
  else if s.dieResetting (v - 2) then aborted s abState
  else accepted (dieResetBegin s (v - 2))

/-! ### Rails and input (R440, R441, R444) -/

/-- The fabric ports of an I/O die enter DOWN, and Drinex with those of io0 (R440). -/
def serdesLost (s : State) (io : Nat) : State :=
  let s := (List.range 64).foldl (fun s p => if p / 4 % 2 = io && (s.port p).st ≠ 4 then portDown s p else s) s
  if io = 0 then drinexDown s else s

/-- A rail reaches its reset level. -/
def railReset (s : State) (rail : Nat) : State :=
  match rail with
  | 1 =>
    let cause : BitVec 8 := if s.power.thermalLatch || decide (s.power.offCause = 6) && !s.power.regulators then 6 else 7
    powerOff { s with power := { s.power with inputLost := true, thermalLatch := false } } cause
  | 2 | 3 => dieResetBegin s (rail - 2)
  | 4 | 5 => dieResetBegin s (rail - 4)
  | 6 | 7 | 14 => pinReset s 9
  | 8 | 9 => if s.power.regulators then serdesLost s (rail - 8) else s
  | 10 | 11 => if s.power.regulators then ((List.range 6).map (6 * (rail - 10) + ·)).foldl loseStack s else s
  | 12 | 13 =>
    if s.power.regulators then
      ((List.range 4).map (4 * (rail - 12) + ·)).foldl (fun s m => relocate (loseChannel s m) m) s
    else s
  | _ => s

/-- The 54 V input crosses its warning level, or is back: source, EMCY, power step 3 until it has been inside for 10 ms; the metering
die commits and logs a fall below 42 V (R421, R428, R440). -/
def inputEvent (s : State) (away : Bool) (mv : Nat) : State :=
  if away then
    if s.power.inputWarn then s
    else
      let s := { s with power := { s.power with inputWarn := true, powerStep := 3 } }
      let s := if mv < 42000 then meterEvent (commitRegister s) 2 0 (mv / 10) else s
      if s.power.regulators then settleSteps (emcy (raise s 0x383) 0x3120 0) else s
  else if s.power.inputWarn then emcyClear { s with power := { s.power with inputWarn := false, inputHold := 100 } }
  else s

/-- THERMAL_SAMPLE: two consecutive samples beyond the shutdown level turn every regulator off, after a record (R443, R444). -/
def sampleTemps (s : State) (temps : List (BitVec 16)) : State :=
  if !s.power.regulators then s
  else
    let beyond := beyondLimit temps
    let was := s.power.overLimit
    let s := { s with power := { s.power with temps := temps, overLimit := beyond } }
    if beyond && was then
      let k := hottestSensor temps
      let s := fault s { src := 9, sev := 4, cls := 0x0A, key := k, syn := leBytes 2 (temps.getD k 0#16).toNat }
      let s := { s with rel := { s.rel with shutdowns := satAdd s.rel.shutdowns 1 }, power := { s.power with thermalLatch := true } }
      powerOff s 6
    else if s.controlled then thermalControl s else s

/-! ### Pins (R438, R445, R463) -/

/-- The reference is lost: a reset of pin scope, held until it is back (R438). -/
def loseReference (s : State) : State :=
  if !s.power.regulators then s
  else
    let s := { s with power := { s.power with refLost := true } }
    pinReset s 8

def referenceBack (s : State) : State := { s with power := { s.power with refLost := false } }

/-- module_reset_n is held low (R463). -/
def resetPinLow (s : State) : State :=
  let s := { s with power := { s.power with resetN := false } }
  if s.power.powerEnable && s.power.regulators then pinReset s 2 else s

def resetPinHigh (s : State) : State := { s with power := { s.power with resetN := true, pinHeld := false } }

/-- power_enable goes low: the regulators go off, and a thermal latch is cleared (R444, R463). -/
def enableLow (s : State) : State :=
  let latch := s.power.thermalLatch
  let s := { s with power := { s.power with powerEnable := false, thermalLatch := false } }
  if s.power.regulators then powerOff s 1
  else { s with power := { s.power with offCause := if latch then 6 else s.power.offCause } }

def enableHigh (s : State) : State := powerStart { s with power := { s.power with powerEnable := true } }

/-- POWER_ON_RESET: the input has been back for 10 ms, or the start rule holds otherwise (R440, R463). -/
def powerOn (s : State) (why : ResetWhy) : State :=
  powerStart (if why = .inputReset then { s with power := { s.power with inputLost := false } } else s)

/-! ### Start-up (R451, R452) -/

/-- The allowed socket sets (R142). -/
def socketSets : List (List Nat) := [[0, 4], [0, 1, 4, 5], [0, 1, 2, 3, 4, 5, 6, 7]]

/-- A DDR5 module fails R466 on its own. -/
def spdBad (d : DdrSpd) : Bool := !d.ecc || !d.x4 || !([32, 64, 128, 256].contains d.gib)

/-- The first offending channel of a population, none where it is allowed (R142). -/
def offending (spd : List (Option DdrSpd)) : Option Nat :=
  let at_ (c : Nat) : Option DdrSpd := spd.getD c none
  let here := (List.range 8).filter (fun c => (at_ c).isSome)
  match (List.range 8).find? (fun c => (at_ c).any spdBad) with
  | some c => some c
  | none =>
    match here with
    | [] => some 0
    | f :: _ =>
      match socketSets.find? (fun t => here.all (fun c => t.contains c)) with
      | none => some 0
      | some t =>
        match t.find? (fun c => !(here.contains c)) with
        | some c => some c
        | none => here.find? (fun c => match at_ c, at_ f with
          | some a, some b => decide (a.mrdimm ≠ b.mrdimm) || decide (a.gib ≠ b.gib) || decide (a.mts ≠ b.mts)
          | _, _ => false)

/-- The population of an accepted set (R142, R143, R466). A channel declared permanent stays out of service (R387). -/
def populate (s : State) (spd : List (Option DdrSpd)) : State :=
  let here := (List.range 8).filter (fun c => (spd.getD c none).isSome)
  let mask := BitVec.ofNat 8 ((here.map (2 ^ ·)).sum)
  let live := (here.filter (fun c => !(s.rel.leaving.contains (16 + c)))).map (2 ^ ·)
  match here.filterMap (fun c => spd.getD c none) with
  | [] => s
  | d :: _ =>
    let m := { s.mem with population := mask, channels := BitVec.ofNat 8 live.sum, ddrType := if d.mrdimm then 2 else 1
                          ddrRate := BitVec.ofNat 16 (min d.mts (if d.mrdimm then 8800 else 6400)), ddrGib := d.gib }
    { s with mem := { m with journal := m.journal.filter (fun c => m.channels.getLsbD c) } }

/-- The stacks train; one that fails, or was declared permanent, leaves service (R234, R387, R452). -/
def trainStacks (s : State) (failed : List (Fin 12)) : State :=
  let bad (h : Nat) : Bool := failed.any (fun f => f.val == h)
  let ok := (List.range 12).filter (fun h => !(bad h) && !(s.rel.leaving.contains h))
  let seen := (List.range 12).filter (fun h => !(bad h))
  let mask (l : List Nat) : BitVec 12 := BitVec.ofNat 12 ((l.map (2 ^ ·)).sum)
  { s with mem := { s.mem with hbmStacks := mask ok, answered := s.mem.answered ||| mask seen } }

/-- Start-up stops where it is: the module stays in Boot/Limited (R452). -/
def stopBoot (s : State) : State := { s with power := { s.power with bootFailed := true } }

/-- The next step begins. -/
def nextStep (s : State) : State := { s with power := { s.power with bootStep := s.power.bootStep + 1 } }

/-- Cores that failed their test in start-up are made permanent (R387, R452); from step 5 on with the record of a failed Almanac
(R391). -/
def retireFailed (s : State) (slots : List (Fin 24 × Fin 9)) (almanac : Bool) : State :=
  slots.foldl (fun s c =>
    let u := unitCode 4 1 (c.1.val / 12) (c.1.val % 12) c.2.val 0 0
    let s := if almanac then
        fault { s with rel := { s.rel with failed := satAdd s.rel.failed 1 } } { unit := u, src := 8, sev := 4, cls := 0x0B }
      else s
    let k : EphKey := { unit := BitVec.ofNat 64 u, cls := 0x0B, key := 0, granule := none }
    let s := { s with rel := s.rel.setHistory { s.rel.history k with verdict := 3 } }
    let s := raise (logEntry s 0xF1 u 0 3 []) 0x381
    retireSlot s c.1.val c.2.val) s

/-- A step of start-up has finished (R451, R452). Step 1 holds while the reset pin is low or the reference is off (R438, R463); step 7
ends once the sweep is done (R448). -/
def bootDone (s : State) (r : BootReport) : State :=
  if !s.starting then s
  else
    let p := s.power
    let timed (s : State) : State := { s with power := { s.power with bootTimes := s.power.bootTimes ++ [r.millis] } }
    match p.bootStep.toNat with
    | 1 => if p.pinHeld || p.refLost then s else sendBootUp (nextStep (timed s))
    | 2 =>
      let c := bootCheck (timed s) ([2#8, 8#8, 9#8].contains p.resetCause)
      if c.2 then nextStep c.1 else stopBoot c.1
    | 3 => nextStep (retireFailed (timed s) r.failedSlots false)
    | 4 =>
      let s := trainStacks (timed s) r.failedStacks
      match offending r.spd with
      | some c => stopBoot (fault s { unit := unitIndexed 9 c, src := 9, sev := 4, cls := 0x0D, key := 1 })
      | none => nextStep (populate s r.spd)
    | 5 => nextStep (retireFailed (timed s) r.failedSlots true)
    | 6 => nextStep (timed s)
    | 7 =>
      if !p.sweepDone then s
      else
        let s := timed s
        let m := { s.mem with journal := [0, 4].filter (fun c => s.mem.channels.getLsbD c) }
        setDevice { s with mem := m, power := { s.power with bootStep := 0 } } .service
    | _ => s

/-- A step exceeds its maximum: a record of class 0x0E, whose code is open, and the module stays in Boot/Limited (R452). -/
def bootLate (s : State) : State :=
  if !s.starting then s
  else
    let s := fault s { src := 9, sev := 4, cls := 0x0E, key := (Config.firmwareCode s.draws).toNat }
    stopBoot s.draw

/-- The lifecycle command in progress finishes: condemned contexts are destroyed, the fuse is blown, and DECOMMISSION applies a warm
reset (R402 to R404). -/
def lifecycleFinish (s : State) : State :=
  match s.sec.busy with
  | none => s
  | some l =>
    let exit := decide (s.sec.lifecycle = 3)
    let s := if l = 3 || (exit && decide (l ≠ 4)) then destroySealed s exit else s
    let s := { s with sec := { s.sec with busy := none, lifecycle := l, fusesLeft := s.sec.fusesLeft - 1 } }
    if l = 4 then warmRestart s 4 else s

end Sys2Proof.Machine
end

