-- ==== Sys2Proof/Machine/DictRead.lean ====
section
/-! DEFINITION. What each object of the dictionary reads (the Meaning columns of the object tables), what a read changes, and the
conditions that objects set on a read. -/

namespace Sys2Proof.Machine

/-! ### The object tables (R338, R342) -/

/-- The row of an object. -/
def findRow (t : List ObjRow) (idx sub : Nat) : Option ObjRow :=
  t.find? (fun r => decide (r.idx = idx) && decide (r.lo ≤ sub) && decide (sub ≤ r.hi))

/-- The rows of an index. -/
def rowsOf (t : List ObjRow) (idx : Nat) : List ObjRow := t.filter (fun r => decide (r.idx = idx))

/-- Highest sub-index defined under an index (R338). -/
def topSub (t : List ObjRow) (idx : Nat) : Nat := ((rowsOf t idx).map (·.hi)).foldl max 0

/-- The row of sub-index 0 of an array or record: read-only for every port class that holds a right on an entry, and hidden only where
every entry is (DESIGN CHOICE, log entry 52). -/
def countRow (t : List ObjRow) (idx : Nat) : Option ObjRow :=
  match rowsOf t idx with
  | [] => none
  | rs =>
    let any (f : ObjRow → Nat) : Nat := if rs.any (fun r => decide (f r ≠ 0)) then 1 else 0
    some { idx := idx, lo := 0, hi := 0, size := 1, host := any (·.host), fabric := any (·.fabric), mgmt := any (·.mgmt)
           debug := any (·.debug), metro := any (·.metro), expert := rs.all (·.expert), num := true, sel := false }

/-- The row of an object, sub-index 0 of an array or record among them. -/
def objectRow (t : List ObjRow) (idx sub : Nat) : Option ObjRow :=
  match findRow t idx sub with
  | some r => some r
  | none => if sub = 0 then countRow t idx else none

/-- The right of a port class on a row: 0 none, 1 r, 2 w, 3 b (R7). -/
def ObjRow.right (r : ObjRow) (c : PortClass) : Nat :=
  match c with
  | .host => r.host
  | .fabric => r.fabric
  | .mgmt => r.mgmt
  | .debug => r.debug
  | .metro => r.metro

/-! ### Values -/

/-- ISO 646 characters of a text. -/
def ascii (t : String) : Bytes := t.toList.map (fun c => BitVec.ofNat 8 c.toNat)

/-- COB-ID of TPDO n + 1 (R362). -/
def Dict.tpdoId (d : Dict) (n : Nat) : BitVec 32 :=
  match (smGet ({} : Tpdo) d.tpdos n).cobId with
  | some v => v
  | none => if n = 0 then 0x180#32 + d.nodeId.setWidth 32 else 0x80000000#32

/-- 0x1000 to 0x1FFF (R362). -/
def value1000 (s : State) (idx sub : Nat) : Bytes :=
  let d := s.dict
  if 0x1800 ≤ idx ∧ idx < 0x1808 then
    let t : Tpdo := smGet {} d.tpdos (idx - 0x1800)
    match sub with
    | 1 => leBytes 4 (d.tpdoId (idx - 0x1800)).toNat
    | 2 => leBytes 1 t.typ.toNat
    | 3 => leBytes 2 t.inhibit.toNat
    | _ => leBytes 2 t.event.toNat
  else if 0x1A00 ≤ idx ∧ idx < 0x1A08 then
    let t : Tpdo := smGet {} d.tpdos (idx - 0x1A00)
    if sub = 0 then leBytes 1 t.count.toNat else leBytes 4 (smGet 0#32 t.mapping (sub - 1)).toNat
  else match idx, sub with
    | 0x1001, _ => leBytes 1 d.errorRegister.toNat
    | 0x1003, 0 => leBytes 1 d.history.length
    | 0x1003, n => leBytes 4 (d.history.getD (n - 1) 0).toNat
    | 0x1008, _ => ascii "EXG-M1  "
    | 0x1014, _ => leBytes 4 d.emcyId.toNat
    | 0x1015, _ => leBytes 2 d.inhibitEmcy.toNat
    | 0x1017, _ => leBytes 2 d.heartbeatMs.toNat
    | 0x1018, 1 => leBytes 4 0x0A7E
    | 0x1018, 2 => leBytes 4 0x00010001
    | 0x1018, 3 => leBytes 4 revisionNumber
    | 0x1018, _ => leBytes 4 serialNumber
    | _, _ => leBytes 4 0

/-- Module-wide state of the fuses (R417): the current blob chunk. -/
def blobChunk (s : State) (sel : BitVec 16) : Bytes := chunkOf ((blobBytes s (sel.toNat / 256)).getD []) (sel.toNat % 256)

/-- 0x2000 to 0x20FF (R363, R417). -/
def value2000 (s : State) (k : Selects) (idx sub : Nat) : Bytes :=
  let d := s.dict
  match idx, sub with
  | 0x2000, 1 => (List.range 12).map Config.moduleSerialByte
  | 0x2000, 2 => ascii "EXG-M1-A96      "
  | 0x2000, _ => match s.sec.identityKey with
    | some p => sha3 p
    | none => leBytes 64 0
  | 0x2001, _ => leBytes 1 d.accessLevel.toNat
  | 0x2002, 1 => leBytes 2 d.timeoutS.toNat
  | 0x2002, _ => leBytes 4 d.raises.toNat
  | 0x2008, 1 => leBytes 1 d.nodeId.toNat
  | 0x2008, 2 => leBytes 1 d.busState.toNat
  | 0x2008, 3 => leBytes 1 d.txErrors.toNat
  | 0x2008, 4 => leBytes 1 d.rxErrors.toNat
  | 0x2008, 5 => leBytes 4 d.busOffs.toNat
  | 0x2008, 6 => leBytes 1 s.meter.mirror.nodeId.toNat
  | 0x2008, 7 => leBytes 1 d.severityMin.toNat
  | 0x2008, 8 => leBytes 4 d.emcyDropped.toNat
  | 0x2008, 9 => leBytes 4 d.aborts.toNat
  | 0x2008, 0x0A => leBytes 1 (nmtByte s)
  | 0x2008, _ => leBytes 4 d.nmtIgnored.toNat
  | 0x2010, n => dieRecord s n
  | 0x2018, 1 => leBytes 2 k.blob.toNat
  | _, _ => blobChunk s k.blob

/-- The highest sensor (R453): 0x8000 while none is sampled. -/
def hottest (temps : List (BitVec 16)) : BitVec 16 := if temps.isEmpty then 0x8000 else temps.getD (hottestSensor temps) 0x8000

/-- PowerState (R453). -/
def powerState (p : Power) : Nat :=
  boolNat (decide (p.powerStep ≠ 0)) + 2 * boolNat p.hot0 + 4 * boolNat p.hot1 + 8 * boolNat p.inputWarn +
  16 * boolNat (p.dips.any (fun d => d.2.window))

/-- 0x2100 to 0x23FF (R433, R453). Voltages are measured: free values. -/
def value2100 (s : State) (k : Selects) (idx sub : Nat) : Bytes :=
  let p := s.power
  let w := s.meter.weights
  match idx, sub with
  | 0x2100, 1 => leBytes 2 (clkaMHz s 0)
  | 0x2100, 2 => leBytes 2 (clkaMHz s 1)
  | 0x2100, 3 => leBytes 1 p.stepCap.toNat
  | 0x2100, _ => leBytes 1 (boolNat (!p.dieResetting0) + 2 * boolNat (!p.dieResetting1) + 12)
  | 0x2101, _ => leBytes 4 p.stepChanges.toNat
  | 0x2200, 1 => leBytes 2 p.limitW.toNat
  | 0x2200, 2 => leBytes 2 (meanOf 10 p.samples / 1000)
  | 0x2200, 3 => leBytes 2 (Config.railMillivolts 1 s.draws).toNat
  | 0x2200, _ => leBytes 1 (powerState p)
  | 0x2201, n => leBytes 2 (Config.railMillivolts n s.draws).toNat
  | 0x2202, n => leBytes 2 (p.temps.getD (n - 1) 0x8000#16).toNat
  | 0x2203, 1 => leBytes 2 (hottest p.temps).toNat
  | 0x2203, 2 => leBytes 4 p.hotEpisodes.toNat
  | 0x2203, _ => leBytes 4 s.rel.shutdowns.toNat
  | 0x2210, 2 => leBytes 1 p.resetCause.toNat
  | 0x2210, 3 => leBytes 2 p.drainMs.toNat
  | 0x2210, 4 => leBytes 1 p.bootStep.toNat
  | 0x2210, 5 => padTo 28 (p.bootTimes.flatMap (fun t => leBytes 4 t.toNat))
  | 0x2210, _ => leBytes 4 p.dieResets.toNat
  | 0x2280, 1 => leBytes 8 (s.ctx k.ctx.toNat).energy.toNat
  | 0x2280, 2 => leBytes 8 s.meter.unattributed.toNat
  | 0x2280, 3 => leBytes 2 w.engineBeat.toNat
  | 0x2280, 4 => leBytes 2 w.vectorBeat.toNat
  | 0x2280, 5 => w.byteFj
  | _, _ => leBytes 2 w.idleW.toNat

/-- 0x2400 to 0x25FF (R165). -/
def value2400 (s : State) (idx sub : Nat) : Bytes :=
  let m := s.mem
  let r := s.rel
  match idx, sub with
  | 0x2400, 1 => leBytes 8 m.hbmDecoded
  | 0x2400, _ => leBytes 2 m.hbmStacks.toNat
  | 0x2401, 1 => leBytes 1 m.population.toNat
  | 0x2401, 2 => leBytes 1 m.ddrType.toNat
  | 0x2401, 3 => leBytes 2 m.ddrRate.toNat
  | 0x2401, 4 => leBytes 2 m.ddrGib
  | 0x2401, 5 => leBytes 8 m.ddrWindow
  | 0x2401, _ => leBytes 4 journalBytes
  | 0x2402, n => leBytes 1 (smGet 0 m.scratch (n - 1))
  | 0x2403, _ => leBytes 1 r.scrubHours.toNat
  | 0x2404, 0x15 => leBytes 4 r.sramCorrected.toNat
  | 0x2404, 0x16 => leBytes 4 r.sliceRefetch.toNat
  | 0x2404, n => leBytes 4 (if n ≤ 12 then smGet 0#32 r.hbmCorrected (n - 1) else smGet 0#32 r.ddrCorrected (n - 13)).toNat
  | _, _ => []

/-- The logical digest of the selected context's plan, zero if none (R25). -/
def planField (s : State) (x n : Nat) (f : Plan → Bytes) : Bytes :=
  match (s.ctx x).plan with
  | some p => padTo n (f p)
  | none => leBytes n 0

/-- 0x2600 to 0x27FF (R25, R86, R113). -/
def value2600 (s : State) (k : Selects) (idx sub : Nat) : Bytes :=
  let e := s.core k.engineCore.toNat
  let sk := s.core k.skeinCore.toNat
  match idx, sub with
  | 0x2600, 1 => leBytes 2 ((List.range 192).filter s.present).length
  | 0x2600, 2 => leBytes 1 ((List.range 24).filter (fun c => decide (smGet 0 s.spares c ≠ 0))).length
  | 0x2600, _ => planField s k.ctx.toNat 64 (·.logical)
  | 0x2601, n => leBytes 4 (coreSlotWord s (n - 1))
  | 0x2602, n => leBytes 1 (let v := smGet 0 s.spares (n - 1); if v = 0 then 0xFF else v - 1)
  | 0x2610, 1 => leBytes 1 k.skeinCore.toNat
  | 0x2610, 2 => bitmapBytes 2 (fun q => decide (sk.fence q ≠ 0))
  | 0x2610, 3 => bitmapBytes 32 (fun r => tagValid (sk.tag r))
  | 0x2610, 4 => leBytes 2 s.mem.sealedSlots.toNat
  | 0x2610, _ => leBytes 2 s.sealedFree
  | 0x2611, 0x0F => leBytes 4 s.rel.slotFailures.toNat
  | 0x2611, n => leBytes 8 (if n ≤ 12 then smGet 0#64 s.rel.tatmHbm (n - 1) else smGet 0#64 s.rel.tatmIo (n - 13)).toNat
  | 0x2620, 1 => leBytes 1 k.engineCore.toNat
  | 0x2620, 2 => captureBytes e.capture
  | 0x2620, 3 => leBytes 1 (s.unitState .engine k.engineCore.toNat)
  | 0x2620, 4 => leBytes 8 e.engine.nextSeq.toNat
  | 0x2620, 5 => leBytes 8 e.engine.retired.toNat
  | 0x2620, 6 => leBytes 4 e.engine.refused.toNat
  | _, _ => bitmapBytes 24 (fun g => (s.core g).capture.valid)

/-- 0x2800 to 0x29FF (R53, R136, R264). -/
def value2800 (s : State) (k : Selects) (idx sub : Nat) : Bytes :=
  let c := s.core k.numericsCore.toNat
  let v := s.core k.vectorCore.toNat
  let t := s.training
  match idx, sub with
  | 0x2800, 1 => leBytes 1 k.numericsCore.toNat
  | 0x2800, 2 => leBytes 4 c.invalid.toNat
  | 0x2800, 3 => leBytes 4 c.overflow.toNat
  | 0x2800, 4 => leBytes 4 c.truncated.toNat
  | 0x2800, 5 => leBytes 4 c.flush.toNat
  | 0x2800, 6 => leBytes 1 c.sticky.toNat
  | 0x2800, _ => leBytes 1 (s.cores.foldl (fun a g => a ||| g.2.sticky) 0#4).toNat
  | 0x2808, 1 => leBytes 1 k.vectorCore.toNat
  | 0x2808, 2 => leBytes 4 v.vecInvalid.toNat
  | 0x2808, 3 => leBytes 4 v.vecOverflow.toNat
  | 0x2808, 4 => leBytes 4 v.vecDivZero.toNat
  | 0x2808, 5 => captureBytes v.vcapture
  | 0x2808, 6 => leBytes 1 (s.unitState .vector k.vectorCore.toNat)
  | 0x2808, _ => leBytes 8 v.vector.nextSeq.toNat
  | 0x2810, 1 => leBytes 1 t.log2Rate.toNat
  | 0x2810, 2 => leBytes 8 t.seed.toNat
  | 0x2810, 3 => leBytes 1 t.threshold.toNat
  | 0x2810, 4 => leBytes 8 t.sampled.toNat
  | 0x2810, 5 => leBytes 4 t.mismatches.toNat
  | 0x2810, _ => leBytes 4 t.events.toNat
  | 0x2811, n => leBytes 8 (smGet 0#64 t.histogram (n - 1)).toNat
  | 0x2812, n => padTo 32 (smGet [] t.slots (n - 1))
  | 0x2818, 1 => leBytes 8 t.updElements.toNat
  | _, _ => leBytes 8 t.updSkips.toNat

/-- The free amount of a resource kind (R180): per-core kinds the smallest over present cores, scratch the smallest over clusters
(DESIGN CHOICE, log entry 53), ranges the decoded bytes that no plan holds. -/
def resourceFree (s : State) (kind : Nat) : Nat :=
  let present := (List.range 192).filter s.present
  let least (l : List Nat) : Nat := match l with
    | [] => 0
    | a :: as => as.foldl min a
  let heldAt (k g : Nat) : Nat := (((heldBy s 256 k).filter (fun h => h.2.scope == g)).map (fun h => h.2.amount)).sum
  let ranges := heldBy s 256 9 ++ heldBy s 256 0x0A ++ heldBy s 256 0x0B
  let inDdr (a : Nat) : Bool := s.regionId a == some 16
  let heldIn (ddr : Bool) : Nat := ((ranges.filter (fun h => inDdr h.2.base == ddr)).map (fun h => h.2.amount)).sum
  let holds (p : Nat) : Bool := ranges.any (fun h =>
    (List.range (ceilDiv h.2.amount 4096)).any (fun i => s.translate (h.2.base + 4096 * i) == some (p * 4096)))
  let retired (ddr : Bool) : Nat :=
    (s.rel.granules.filter (fun p => decide (0x80000000000 ≤ p * 4096) == ddr && !(holds p))).length * 4096
  match kind with
  | 1 => boolNat (!present.isEmpty)
  | 2 => least (present.map (fun g => 0xF00000 - heldAt 2 g))
  | 3 => least ((List.range 24).map (fun c => 32 - heldAt 3 c - ((List.range 32).filter (fun g =>
      s.rel.scratchGranules.contains (c * 32 + g))).length))
  | 4 | 5 => if present.isEmpty then 0 else 256
  | 6 => countersFree s
  | 7 => poolFree s 256 7 4096
  | 8 => poolFree s 256 8 64
  | 9 | 0x0B => s.mem.hbmDecoded - heldIn false - retired false
  | 0x0A => s.mem.ddrWindow - heldIn true - retired true
  | _ => s.sealedFree

/-- QueueState (R238). -/
def queueStateByte (s : State) (x q : Nat) (k : Queue) : Nat :=
  boolNat k.error + 2 * boolNat (decide (512 ≤ k.accept.toNat - k.release.toNat)) +
  4 * boolNat (s.drinex.echoes.any (fun e => e.1 == x && e.2.1 == q))

/-- PhaseCurrent (R264). -/
def phaseByte (c : Context) : Nat :=
  let merged := match c.plan with
    | some p => p.phased && samePhase p c.phase ((c.phase + 1) % 3)
    | none => false
  c.phase + 4 * boolNat merged + 8 * boolNat c.flipping

/-- 0x2A00 to 0x2BFF (R180, R238, R264). -/
def value2A00 (s : State) (k : Selects) (idx sub : Nat) : Bytes :=
  let x := k.ctx.toNat
  let c := s.ctx x
  let q := s.queue x k.queue.toNat
  let v : VTensor := smGet {} c.vts k.vt.toNat
  match idx, sub with
  | 0x2A00, 1 => leBytes 1 x
  | 0x2A00, 3 => leBytes 1 (contextStateByte c)
  | 0x2A00, _ => leBytes 2 (256 - (s.contexts.filter (fun e => decide (e.2.st ≠ .free))).length)
  | 0x2A01, 1 => leBytes 1 k.queue.toNat
  | 0x2A01, 2 => queueConfigBytes q
  | 0x2A01, 3 => queuePointerBytes q
  | 0x2A01, 5 => leBytes 4 q.rejects.toNat
  | 0x2A01, 6 => leBytes 1 (queueStateByte s x k.queue.toNat q)
  | 0x2A01, 7 => leBytes 8 k.journalSeq.toNat
  | 0x2A01, _ => padTo 256 (journalSlot s x k.queue.toNat k.journalSeq)
  | 0x2A02, 1 => leBytes 2 k.vt.toNat
  | 0x2A02, _ => padTo 16 (leBytes 6 v.slot0.toNat ++ leBytes 6 v.slot1.toNat ++ leBytes 1 (boolNat v.current))
  | 0x2A08, 1 => leBytes 1 s.mem.journal.length
  | 0x2A08, 2 => bitmapBytes 1 s.mem.journal.contains
  | 0x2A08, 3 => leBytes 4 s.queueObjs.replays.toNat
  | 0x2A08, _ => leBytes 4 s.queueObjs.disagrees.toNat
  | 0x2A40, 1 => bitmapBytes 32 (fun n => (s.ctx n).plan.isSome)
  | 0x2A40, 2 => planField s x 8 (fun p => leBytes 8 p.planId.toNat)
  | 0x2A40, _ => planField s x 64 (·.mapping)
  | 0x2A41, 0 => leBytes 1 c.shortfallCount.toNat
  | 0x2A41, n => padTo 32 (c.shortfalls.getD (n - 1) [])
  | 0x2A42, n => leBytes 8 (resourceFree s n)
  | 0x2A43, _ => leBytes 4 0x100000
  | 0x2A50, 1 => leBytes 1 (phaseByte c)
  | 0x2A50, 2 => leBytes 4 c.flipCount.toNat
  | 0x2A50, _ => leBytes 2 (match c.plan with
    | some p => p.seeds.length
    | none => 0)
  | _, _ => []

/-- 0x2C00 to 0x2FFF (R207, R375). -/
def value2C00 (s : State) (k : Selects) (idx sub : Nat) : Bytes :=
  let e := s.transEntry k.syncCtx.toNat k.syncVid.toNat
  let kind (n : Nat) : Bool := trValid e && trKind e == n
  let d : IrqDest := smGet {} s.dests k.irqDest.toNat
  let q : IrqSource := smGet {} s.sources k.irqSource.toNat
  match idx, sub with
  | 0x2C00, 1 => leBytes 1 k.syncCtx.toNat
  | 0x2C00, 2 => leBytes 2 k.syncVid.toNat
  | 0x2C00, 3 => leBytes 8 e
  | 0x2C00, 4 => if kind 0 then counterRecord (s.ctr (trTarget e)) else leBytes 32 0
  | 0x2C00, 6 => leBytes 4 (countersFree s)
  | 0x2C00, _ => leBytes 2 (s.counters.filter (fun c => c.2.frozen)).length
  | 0x2C01, _ => if kind 2 then barrierRecord (s.barrier k.syncCtx.toNat (trTarget e)) else leBytes 168 0
  | 0x2C02, 1 => leBytes 4 s.syncFaults.toNat
  | 0x2C02, _ => leBytes 4 s.tailDiscards.toNat
  | 0x2E00, 1 => leBytes 2 k.irqSource.toNat
  | 0x2E00, _ => leBytes 4 (q.route.toNat + 0x10000 * boolNat q.enabled)
  | 0x2E01, 1 => sourceMap s (·.pending)
  | 0x2E01, _ => sourceMap s (·.enabled)
  | 0x2E02, 1 => leBytes 2 k.irqDest.toNat
  | 0x2E02, 2 => leBytes 2 d.limitCount.toNat
  | 0x2E02, 3 => leBytes 2 d.limitUs.toNat
  | 0x2E02, 4 => leBytes 2 d.count.toNat
  | _, _ => leBytes 4 d.deliveries.toNat

/-- 0x3000 to 0x37FF (R283, R318, R337). -/
def value3000 (s : State) (k : Selects) (idx sub : Nat) : Bytes :=
  let f := s.fabric
  let p := s.port k.port.toNat
  let d := s.drinex
  let c := s.coll
  match idx, sub with
  | 0x3000, 1 => leBytes 2 (match f.moduleId with
    | some m => m.toNat
    | none => 0xFFFF)
  | 0x3000, 2 => bitmapBytes 8 (fun n => decide ((s.port n).st = 2))
  | 0x3000, 3 => leBytes 1 (planesMask f).toNat
  | 0x3000, 4 => leBytes 2 f.retransmitUs.toNat
  | 0x3000, 5 => leBytes 2 f.deadlineMs.toNat
  | 0x3000, _ => leBytes 2 (f.trackers.filter (fun t => t.2.live)).length
  | 0x3001, 1 => leBytes 1 k.port.toNat
  | 0x3001, 2 => leBytes 1 p.st.toNat
  | 0x3001, 3 => padTo 8 p.peer
  | 0x3001, 5 => leBytes 8 p.corrected.toNat
  | 0x3001, 6 => leBytes 4 p.uncorrectable.toNat
  | 0x3001, 7 => leBytes 4 p.retries.toNat
  | 0x3001, 8 => leBytes 4 p.downs.toNat
  | 0x3001, _ => leBytes 4 0x40000
  | 0x3002, 1 => leBytes 8 f.retransmits.toNat
  | 0x3002, 2 => leBytes 4 f.unreachable.toNat
  | 0x3002, 0x0A => leBytes 4 f.resyncs.toNat
  | 0x3002, 0x0B => leBytes 4 f.tailInvalid.toNat
  | 0x3002, 0x0C => leBytes 4 f.crcDiscards.toNat
  | 0x3002, n => leBytes 4 (smGet 0#32 f.nacks (n - 2)).toNat
  | 0x3300, 1 => leBytes 1 d.st.toNat
  | 0x3300, 2 => leBytes 1 d.laneMap.toNat
  | 0x3300, 3 => leBytes 4 d.epoch.toNat
  | 0x3300, 5 => leBytes 8 d.corrected.toNat
  | 0x3300, 6 => leBytes 4 d.uncorrectable.toNat
  | 0x3300, 7 => leBytes 4 d.crcErrors.toNat
  | 0x3300, 8 => leBytes 4 d.replays.toNat
  | 0x3300, 9 => leBytes 4 d.downs.toNat
  | 0x3300, 0x0A => leBytes 4 d.degrades.toNat
  | 0x3300, 0x0B => leBytes 4 d.refused.toNat
  | 0x3300, 0x0C => leBytes 8 d.refusedAddr.toNat
  | 0x3300, 0x0D => leBytes 4 d.echoes.length
  | 0x3300, 0x0E => leBytes 4 d.echoResends.toNat
  | 0x3300, _ => leBytes 4 d.echoUnmatched.toNat
  | 0x3400, 1 => leBytes 2 (poolFree s 256 7 4096)
  | 0x3400, 2 => leBytes 1 (poolFree s 256 8 64)
  | 0x3400, 3 => leBytes 4 c.deadlineMs.toNat
  | 0x3400, 4 => leBytes 2 c.timeoutUs.toNat
  | 0x3400, 5 => leBytes 1 k.inst.toNat
  | 0x3400, 6 => instanceBytes (smGet {} c.instances k.inst.toNat)
  | 0x3400, 7 => leBytes 4 k.comm.toNat
  | 0x3400, _ => leBytes 4 (match (s.ctx k.ctx.toNat).plan with
    | some p => match p.comms.find? (fun m => decide (m.commId = k.comm)) with
      | some m => m.next.toNat
      | none => 0xFFFFFFFF
    | none => 0xFFFFFFFF)
  | 0x3401, 1 => leBytes 4 c.mismatches.toNat
  | 0x3401, 2 => leBytes 4 c.exhausted.toNat
  | 0x3401, 3 => leBytes 8 c.resends.toNat
  | 0x3401, 4 => leBytes 4 c.reruns.toNat
  | 0x3401, 5 => leBytes 4 c.discards.toNat
  | _, _ => leBytes 8 c.combinedElements.toNat

/-- Highest verdict over the keys of a unit (R386, R396). -/
def unitVerdict (s : State) (u : Nat) : Nat :=
  let p := BitVec.ofNat 64 (physicalUnit s u)
  ((s.rel.histories.filter (fun h => decide (h.key.unit = p))).map (·.verdict)).foldl max 0

/-- Record n of the log, zero if it is no longer held (R383, R396). -/
def recordAt (r : Reliability) (n : Nat) : Bytes :=
  if r.oldest.toNat ≤ n then padTo 64 (r.records.getD (n - r.oldest.toNat) []) else leBytes 64 0

/-- 0x3800 to 0x3BFF (R396). -/
def value3800 (s : State) (k : Selects) (idx sub : Nat) : Bytes :=
  let r := s.rel
  match idx, sub with
  | 0x3800, 1 => leBytes 4 r.recordCount.toNat
  | 0x3800, 2 => leBytes 4 k.faultRecord.toNat
  | 0x3800, 3 => recordAt r k.faultRecord.toNat
  | 0x3800, 4 => leBytes 4 r.oldest.toNat
  | 0x3800, _ => leBytes 2 r.intervalS.toNat
  | 0x3808, 1 => leBytes 8 s.clkc.toNat ++ leBytes 4 r.epoch.toNat ++ leBytes 4 0
  | 0x3808, _ => leBytes 4 r.hours
  | 0x3810, 1 => leBytes 8 k.ephUnit.toNat
  | 0x3810, 2 => leBytes 1 (unitVerdict s k.ephUnit.toNat)
  | 0x3810, 3 => leBytes 2 (r.histories.filter (fun h => decide (h.verdict = 2))).length
  | 0x3810, 4 => leBytes 2 r.permanent.toNat
  | 0x3810, 5 => leBytes 2 (r.granules.length + r.scratchGranules.length)
  | 0x3810, 6 => leBytes 4 r.dropped.toNat
  | 0x3810, _ => leBytes 4 r.wearMax.toNat
  | 0x3820, 2 => leBytes 1 (boolNat r.bundle.isSome + 2 * boolNat r.idleRunning)
  | 0x3820, 3 => match r.bundle with
    | some b => padTo 16 ((b.drop 8).take 16)
    | none => leBytes 16 0
  | 0x3820, 4 => leBytes 4 r.idleUs.toNat
  | 0x3820, 5 => leBytes 2 r.deadlineS.toNat
  | 0x3820, 6 => leBytes 4 r.passed.toNat
  | 0x3820, _ => leBytes 4 r.failed.toNat
  | 0x3828, 1 => leBytes 4 s.power.dipCount.toNat
  | 0x3828, 2 => padTo 16 s.power.lastDip
  | _, _ => leBytes 8 s.power.dipRecomputed.toNat

/-- 0x3C00 to 0x3FFF and 0x4800 (R417). DebugNonce is not here: each read makes its value. -/
def value3C00 (s : State) (k : Selects) (idx sub : Nat) : Bytes :=
  let c := s.sec
  let v := s.meter.mirror
  match idx, sub with
  | 0x3C00, 1 => leBytes 1 c.lifecycle.toNat
  | 0x3C00, _ => leBytes 1 c.fusesLeft.toNat
  | 0x3C02, 1 => leBytes 1 k.stage.toNat
  | 0x3C02, _ => sha3 (padTo 8192 c.staging)
  | 0x3C04, 2 => leBytes 4 c.fwOffset.toNat
  | 0x3C04, 4 => leBytes 1 (c.fwState.toNat + 8 * (if c.fwState ≠ 0 ∧ c.fwOwner = .mgmt then 2 else 0))
  | 0x3C04, _ => leBytes 1 c.fwHostEnable.toNat
  | 0x3C06, 1 => leBytes 4 c.control.running.toNat
  | 0x3C06, 2 => leBytes 4 c.fabricFw.running.toNat
  | 0x3C06, 3 => leBytes 4 v.version.toNat
  | 0x3C06, 4 => padTo 64 c.control.measure
  | 0x3C06, 5 => padTo 64 c.fabricFw.measure
  | 0x3C06, 6 => padTo 64 v.measure
  | 0x3C06, 7 => leBytes 1 (bankState c)
  | 0x3C06, _ => leBytes 1 c.control.minimum.toNat ++ leBytes 1 c.fabricFw.minimum.toNat
  | 0x3C08, _ => leBytes 1 c.override.toNat
  | 0x3C10, 2 => leBytes 1 (boolNat c.busy.isSome)
  | 0x3C10, _ => leBytes 4 c.tokenRejects.toNat
  | 0x3C20, 2 => slotDigest c.digests4
  | 0x3C20, _ => slotDigest c.digests5
  | 0x3C30, 2 => leBytes 1 c.attestState.toNat
  | 0x3C30, _ => sha3 (configurationRecord s)
  | _, _ => leBytes 1 c.tapCode.toNat

/-- A mirrored blob: 1, 2 or 3 (R430, R432). -/
def mirrorBlob (v : MeterView) (n : Nat) : Bytes :=
  match n with
  | 1 => v.blob1
  | 2 => v.blob2
  | 3 => v.blob3
  | _ => []

/-- 0x4000 to 0x47FF: the mirror (R431, R432). -/
def value4000 (s : State) (k : Selects) (idx sub : Nat) : Bytes :=
  let m := s.meter
  let v := m.mirror
  match idx, sub with
  | 0x4000, 1 => leBytes 8 v.energy.toNat
  | 0x4000, 2 => leBytes 4 v.power.toNat
  | 0x4000, 3 => leBytes 2 v.voltage.toNat
  | 0x4000, 4 => leBytes 4 v.current.toNat
  | 0x4000, _ => leBytes 1 v.status.toNat
  | 0x4001, 1 => leBytes 4 v.sealBreaks.toNat
  | 0x4001, 2 => leBytes 4 v.version.toNat
  | 0x4001, 3 => padTo 64 v.measure
  | 0x4001, 4 => leBytes 8 v.opSeconds.toNat
  | 0x4001, _ => leBytes 4 v.powerOns.toNat
  | 0x4002, 1 => leBytes 4 v.eventCount.toNat
  | 0x4002, 2 => leBytes 4 k.event.toNat
  | 0x4002, _ => mirrorEntry v k.event.toNat
  | 0x4003, 3 => leBytes 2 k.meterBlob.toNat
  | 0x4003, _ => chunkOf (mirrorBlob v (k.meterBlob.toNat / 256)) (k.meterBlob.toNat % 256)
  | 0x4008, 1 => leBytes 1 (boolNat m.fresh + 2 * boolNat m.rotated)
  | 0x4008, 2 => leBytes 4 ((s.clkc - m.frameTime).toNat / 1200000)
  | _, _ => leBytes 4 m.frameErrors.toNat

/-- 0x5000 (R238). -/
def value5000 (s : State) (sub : Nat) : Bytes :=
  match sub with
  | 2 => leBytes 8 s.queueObjs.snapAddress.toNat
  | _ => leBytes 1 s.queueObjs.snapDone.toNat

/-- HBM, DDR5 and journal objects that start-up has not yet brought up read zero: those of 0x2400, 0x2401 and 0x2A08.01 and .02 until
step 4 is done (R349, R451; DEDUCED, log entry 54). -/
def notUpYet (s : State) (idx sub : Nat) : Bool :=
  decide (s.device = .bootLimited) && decide (s.power.bootStep.toNat ≤ 4) &&
  ((decide (idx = 0x2400) || (decide (idx = 0x2401) && decide (sub ≠ 6))) || (decide (idx = 0x2A08) && decide (sub ≤ 2)))

/-- What an object of the module's dictionary holds, through some copies of the Select objects. -/
def rawValue (s : State) (k : Selects) (idx sub : Nat) : Bytes :=
  if idx < 0x2000 then value1000 s idx sub
  else if idx < 0x2100 then value2000 s k idx sub
  else if idx < 0x2400 then value2100 s k idx sub
  else if idx < 0x2600 then value2400 s idx sub
  else if idx < 0x2800 then value2600 s k idx sub
  else if idx < 0x2A00 then value2800 s k idx sub
  else if idx < 0x2C00 then value2A00 s k idx sub
  else if idx < 0x3000 then value2C00 s k idx sub
  else if idx < 0x3800 then value3000 s k idx sub
  else if idx < 0x3C00 then value3800 s k idx sub
  else if idx < 0x4000 then value3C00 s k idx sub
  else if idx < 0x4800 then value4000 s k idx sub
  else if idx < 0x5000 then value3C00 s k idx sub
  else value5000 s sub

/-- The value of a defined object: exactly as long as its size (R338 to R340, R349). -/
def objectValue (s : State) (k : Selects) (r : ObjRow) (idx sub : Nat) : Bytes :=
  if sub = 0 ∧ (findRow moduleObjects idx 0).isNone then leBytes 1 (topSub moduleObjects idx)
  else if notUpYet s idx sub then leBytes r.size 0
  else padTo r.size (rawValue s k idx sub)

/-- The condition an object sets on a read: a queue that exists, for 0x2A01.02 to .08 (R212). -/
def readCondition (s : State) (k : Selects) (idx sub : Nat) : Nat :=
  if idx = 0x2A01 ∧ 2 ≤ sub ∧ (s.ctx k.ctx.toNat).queueCount ≤ k.queue.toNat then abState else 0

/-- What a read changes: a capture's overwritten count clears (R65, R112); a measured voltage is drawn. -/
def readEffect (s : State) (k : Selects) (idx sub : Nat) : State :=
  if idx = 0x2620 ∧ sub = 2 then
    s.setCore k.engineCore.toNat (clearOverwritten (s.core k.engineCore.toNat) .engine)
  else if idx = 0x2808 ∧ sub = 5 then
    s.setCore k.vectorCore.toNat (clearOverwritten (s.core k.vectorCore.toNat) .vector)
  else if idx = 0x2201 ∨ (idx = 0x2200 ∧ sub = 3) then s.draw
  else s

/-- A read that has passed its checks: the state, the abort code and the value. DebugNonce makes a fresh one (R403). -/
def readObject (s : State) (k : Selects) (r : ObjRow) (idx sub : Nat) : State × Nat × Bytes :=
  if idx = 0x3C10 ∧ sub = 3 then ((freshNonce s).1, 0, (freshNonce s).2)
  else
    let c := readCondition s k idx sub
    if c ≠ 0 then (s, c, []) else (readEffect s k idx sub, 0, objectValue s k r idx sub)

/-! ### The metering node's dictionary (R424, R430) -/

/-- What an object of the metering node holds. -/
def meterValue (s : State) (idx sub : Nat) : Bytes :=
  let m := s.meter
  let d := m.die
  match idx, sub with
  | 0x1001, _ => leBytes 1 0
  | 0x1017, _ => leBytes 2 m.heartbeatMs.toNat
  | 0x1018, 1 => leBytes 4 0x0A7E
  | 0x1018, 2 => leBytes 4 0x00010101
  | 0x1018, 3 => leBytes 4 0x00010002
  | 0x1018, 4 => leBytes 4 serialNumber
  | 0x1800, 1 => leBytes 4 (match m.tpdo.cobId with
    | some v => v.toNat
    | none => 0x180 + d.nodeId.toNat)
  | 0x1800, 2 => leBytes 1 m.tpdo.typ.toNat
  | 0x1800, 3 => leBytes 2 m.tpdo.inhibit.toNat
  | 0x1800, 5 => leBytes 2 m.tpdo.event.toNat
  | 0x1A00, 0 => leBytes 1 2
  | 0x1A00, 1 => leBytes 4 0x40000140
  | 0x1A00, 2 => leBytes 4 0x40000220
  | 0x4000, 1 => leBytes 8 d.energy.toNat
  | 0x4000, 2 => leBytes 4 d.power.toNat
  | 0x4000, 3 => leBytes 2 d.voltage.toNat
  | 0x4000, 4 => leBytes 4 d.current.toNat
  | 0x4000, 5 => leBytes 1 d.status.toNat
  | 0x4001, 1 => leBytes 4 d.sealBreaks.toNat
  | 0x4001, 2 => leBytes 4 (meterVersion m)
  | 0x4001, 3 => meterMeasure m
  | 0x4001, 4 => leBytes 8 d.opSeconds.toNat
  | 0x4001, 5 => leBytes 4 d.powerOns.toNat
  | 0x4002, 1 => leBytes 4 d.eventCount.toNat
  | 0x4002, 2 => leBytes 4 m.eventSelect.toNat
  | 0x4002, 3 => eventEntry d.events d.eventCount.toNat m.eventSelect.toNat
  | 0x4003, 2 => leBytes 1 m.readState.toNat
  | 0x4003, 3 => leBytes 2 m.blobSelect.toNat
  | 0x4003, 4 => chunkOf ((meterBlob m (m.blobSelect.toNat / 256)).getD []) (m.blobSelect.toNat % 256)
  | 0x4004, 3 => leBytes 1 m.fwState.toNat
  | _, _ => []

/-- The value of a defined object of the metering node. -/
def meterObjectValue (s : State) (r : ObjRow) (idx sub : Nat) : Bytes :=
  if sub = 0 ∧ (findRow meterObjects idx 0).isNone then leBytes 1 (topSub meterObjects idx)
  else padTo r.size (meterValue s idx sub)

end Sys2Proof.Machine
end

