-- ==== Sys2Proof/Machine/DictWrite.lean ====
section
/-! DEFINITION. What a write of each object does once its port class, state and length have passed: range, condition and effect
(steps 6 and 7 of R342, and the Meaning columns of the object tables). -/

namespace Sys2Proof.Machine

/-! ### Select objects (R344) -/

/-- The copies that an access uses. -/
def State.selects (s : State) (a : Accessor) : Selects :=
  match a.cls with
  | .host => s.dict.host
  | .mgmt => s.dict.mgmt
  | .debug => s.dict.debug
  | .fabric => match s.dict.fabric.find? (fun e => decide (e.1 = a.src)) with
    | some e => e.2
    | none => {}
  | .metro => {}

/-- The copies of a source module, as the latest of at most 64. -/
def Dict.setFabric (d : Dict) (src : BitVec 14) (k : Selects) : Dict :=
  { d with fabric := ((src, k) :: d.fabric.filter (fun e => decide (e.1 ≠ src))).take 64 }

def State.setSelects (s : State) (a : Accessor) (k : Selects) : State :=
  match a.cls with
  | .host => { s with dict := { s.dict with host := k } }
  | .mgmt => { s with dict := { s.dict with mgmt := k } }
  | .debug => { s with dict := { s.dict with debug := k } }
  | .fabric => { s with dict := s.dict.setFabric a.src k }
  | .metro => s

/-- An access of a source module makes its copies the latest, created at their defaults. -/
def touchSelects (s : State) (a : Accessor) : State :=
  match a.cls with
  | .fabric => s.setSelects a (s.selects a)
  | _ => s

/-- A Select object takes a value, if it is in range (R53, R86, R113, R136, R207, R238, R264, R283, R318, R375, R396, R400, R417,
R432). -/
def selectWrite (k : Selects) (idx sub v : Nat) : Option Selects :=
  let core (f : BitVec 8 → Selects) : Option Selects := if v < 192 then some (f (BitVec.ofNat 8 v)) else none
  match idx, sub with
  | 0x2800, _ => core (fun c => { k with numericsCore := c })
  | 0x2610, _ => core (fun c => { k with skeinCore := c })
  | 0x2620, _ => core (fun c => { k with engineCore := c })
  | 0x2808, _ => core (fun c => { k with vectorCore := c })
  | 0x2A00, _ => some { k with ctx := BitVec.ofNat 8 v }
  | 0x2A01, 1 => if v < 8 then some { k with queue := BitVec.ofNat 8 v } else none
  | 0x2A01, _ => some { k with journalSeq := BitVec.ofNat 64 v }
  | 0x2A02, _ => if v < 4096 then some { k with vt := BitVec.ofNat 16 v } else none
  | 0x2C00, 1 => some { k with syncCtx := BitVec.ofNat 8 v }
  | 0x2C00, _ => if v < 4096 then some { k with syncVid := BitVec.ofNat 16 v } else none
  | 0x3001, _ => if v < 64 then some { k with port := BitVec.ofNat 8 v } else none
  | 0x3400, 5 => if v < 64 then some { k with inst := BitVec.ofNat 8 v } else none
  | 0x3400, _ => some { k with comm := BitVec.ofNat 32 v }
  | 0x2E00, _ => if v < 0x400 then some { k with irqSource := BitVec.ofNat 16 v } else none
  | 0x2E02, _ => if destCodeOk v then some { k with irqDest := BitVec.ofNat 16 v } else none
  | 0x3800, _ => some { k with faultRecord := BitVec.ofNat 32 v }
  | 0x3810, _ => if unitCodeOk v then some { k with ephUnit := BitVec.ofNat 64 v } else none
  | 0x2018, _ => if v / 256 < 5 then some { k with blob := BitVec.ofNat 16 v } else none
  | 0x3C02, _ => if v < 32 then some { k with stage := BitVec.ofNat 8 v } else none
  | 0x4002, _ => some { k with event := BitVec.ofNat 32 v }
  | 0x4003, _ => if 1 ≤ v / 256 ∧ v / 256 ≤ 3 then some { k with meterBlob := BitVec.ofNat 16 v } else none
  | _, _ => none

/-- A write of a Select object; JournalSeqSelect asks for a queue that exists (R212). -/
def writeSelect (s : State) (a : Accessor) (idx sub : Nat) (b : Bytes) : Answer :=
  match selectWrite (s.selects a) idx sub (leNat b) with
  | none => aborted s abRange
  | some k =>
    let c := readCondition s (s.selects a) idx sub
    if c ≠ 0 ∧ sub ≠ 1 then aborted s c else accepted (s.setSelects a k)

/-! ### Communication objects (R357, R359, R362) -/

def State.modDict (s : State) (f : Dict → Dict) : State := { s with dict := f s.dict }
def State.modTpdo (s : State) (n : Nat) (f : Tpdo → Tpdo) : State :=
  s.modDict (fun d => { d with tpdos := smMod {} d.tpdos n f })

/-- A COB-ID that a TPDO may take. -/
def tpdoIdOk (nodeId v : Nat) : Bool :=
  let id := v % 2 ^ 11
  !(bitAt v 29) && decide (bitsAt v 11 18 = 0) &&
  !(decide (id = 0) || decide (id = 0x80 + nodeId) || (decide (0x580 ≤ id) && decide (id ≤ 0x67F)) ||
    (decide (0x700 ≤ id) && decide (id ≤ 0x77F)) || decide (id = 0x7E4) || decide (id = 0x7E5))

/-- A mapping entry that names a basic numeric object that MGMT reads, in its own length. -/
def mappable (v : Nat) : Bool :=
  match objectRow moduleObjects (v / 65536) (v / 256 % 256) with
  | none => false
  | some r => !r.expert && r.num && decide (r.mgmt = 1 ∨ r.mgmt = 3) && decide (v % 256 = r.size * 8)

/-- TPDO n is disabled: bit 31 of its COB-ID is set. -/
def Dict.tpdoOff (d : Dict) (n : Nat) : Bool := (d.tpdoId n).getLsbD 31

/-- A mapping entry is written while the TPDO is disabled and its count reads 0. -/
def writeMapping (s : State) (n entry v : Nat) : Answer :=
  let t : Tpdo := smGet {} s.dict.tpdos n
  if !(mappable v) then aborted s abNoMap
  else if !(s.dict.tpdoOff n) || decide (t.count ≠ 0) then aborted s abState
  else accepted (s.modTpdo n (fun t => { t with mapping := smSet 0#32 t.mapping entry (BitVec.ofNat 32 v) }))

/-- MappedCount is written while the TPDO is disabled; the mapping it completes is at most 64 bytes, of mappable entries. -/
def writeMappedCount (s : State) (n v : Nat) : Answer :=
  let t : Tpdo := smGet {} s.dict.tpdos n
  let es := (List.range v).map (fun i => (smGet 0#32 t.mapping i).toNat)
  if 16 < v then aborted s abRange
  else if !(es.all mappable) then aborted s abNoMap
  else if 512 < (es.map (· % 256)).sum then aborted s abMapLong
  else if !(s.dict.tpdoOff n) then aborted s abState
  else accepted (s.modTpdo n (fun t => { t with count := BitVec.ofNat 8 v, last := [] }))

/-- A value in range is kept. -/
def setIf (s : State) (ok : Bool) (t : State) : Answer := if ok then accepted t else aborted s abRange

/-- 0x1000 to 0x1FFF. -/
def write1000 (s : State) (idx sub v : Nat) : Answer :=
  if 0x1800 ≤ idx ∧ idx < 0x1808 then
    let n := idx - 0x1800
    match sub with
    | 1 => setIf s (tpdoIdOk s.dict.nodeId.toNat v) (s.modTpdo n (fun t => { t with cobId := some (BitVec.ofNat 32 v) }))
    | 2 => setIf s (decide (v = 0xFE ∨ v = 0xFF)) (s.modTpdo n (fun t => { t with typ := BitVec.ofNat 8 v }))
    | 3 => accepted (s.modTpdo n (fun t => { t with inhibit := BitVec.ofNat 16 v }))
    | _ => accepted (s.modTpdo n (fun t => { t with event := BitVec.ofNat 16 v }))
  else if 0x1A00 ≤ idx then
    if sub = 0 then writeMappedCount s (idx - 0x1A00) v else writeMapping s (idx - 0x1A00) (sub - 1) v
  else match idx with
    | 0x1003 => setIf s (decide (v = 0)) (s.modDict (fun d => { d with history := [] }))
    | 0x1014 => setIf s (decide (bitsAt v 11 20 = 0)) (s.modDict (fun d => { d with cobIdEmcy := some (BitVec.ofNat 32 v) }))
    | 0x1015 => accepted (s.modDict (fun d => { d with inhibitEmcy := BitVec.ofNat 16 v }))
    | _ => setIf s (decide (v = 0 ∨ 100 ≤ v)) (s.modDict (fun d => { d with heartbeatMs := BitVec.ofNat 16 v }))

/-! ### AccessLevel (R345, R346) -/

/-- A raise is counted, announced by EMCY 0xFF04 and by source 0x390; the value held already changes nothing. -/
def writeLevel (s : State) (v : Nat) : Answer :=
  if 1 < v then aborted s abRange
  else if s.dict.accessLevel = BitVec.ofNat 8 v then accepted s
  else
    let t := s.modDict (fun d => { d with accessLevel := BitVec.ofNat 8 v })
    if v = 0 then accepted t
    else accepted (raise (emcy (t.modDict (fun d => { d with raises := satAdd d.raises 1 })) 0xFF04 0) 0x390)

/-- 0x2000 to 0x20FF. -/
def write2000 (s : State) (idx v : Nat) : Answer :=
  match idx with
  | 0x2001 => writeLevel s v
  | 0x2002 => accepted (s.modDict (fun d => { d with timeoutS := BitVec.ofNat 16 v }))
  | _ => accepted (s.modDict (fun d => { d with severityMin := BitVec.ofNat 8 v }))

/-! ### Counters of the units (R53, R136) -/

/-- NumericsClear: bit 0 the four counters, bit 1 the sticky flags. -/
def numericsClear (s : State) (g v : Nat) : State :=
  let c := s.core g
  let c := if bitAt v 0 then { c with invalid := 0, overflow := 0, truncated := 0, flush := 0 } else c
  s.setCore g (if bitAt v 1 then { c with sticky := 0 } else c)

/-- VecNumericsClear: the three counters. -/
def vecNumericsClear (s : State) (g v : Nat) : State :=
  if bitAt v 0 then s.setCore g { s.core g with vecInvalid := 0, vecOverflow := 0, vecDivZero := 0 } else s

/-! ### The other ranges -/

/-- Attribution weights (R433). -/
def State.modWeights (s : State) (f : MeterWeights → MeterWeights) : State :=
  s.modMeter (fun m => { m with weights := f m.weights })

/-- 0x2100 to 0x23FF (R433, R453). -/
def write2100 (s : State) (idx sub v : Nat) (b : Bytes) : Answer :=
  let p := s.power
  match idx, sub with
  | 0x2100, _ => setIf s (decide (v ≤ 3)) (settleSteps { s with power := { p with stepCap := BitVec.ofNat 8 v } })
  | 0x2200, _ => setIf s (decide (1000 ≤ v ∧ v ≤ 3000)) { s with power := { p with limitW := BitVec.ofNat 16 v } }
  | 0x2210, 1 => resetCommand s v
  | 0x2210, _ => setIf s (decide (v ≤ 10000)) { s with power := { p with drainMs := BitVec.ofNat 16 v } }
  | 0x2280, 3 => accepted (s.modWeights (fun w => { w with engineBeat := BitVec.ofNat 16 v }))
  | 0x2280, 4 => accepted (s.modWeights (fun w => { w with vectorBeat := BitVec.ofNat 16 v }))
  | 0x2280, 5 => accepted (s.modWeights (fun w => { w with byteFj := b }))
  | 0x2280, 6 => accepted (s.modWeights (fun w => { w with idleW := BitVec.ofNat 16 v }))
  | _, _ => attributionClear s v

/-- SealedSaveSlots (R86): not while a sealed context exists; in force from the next warm reset. -/
def writeSealedSlots (s : State) (v : Nat) : Answer :=
  if 1536 < v then aborted s abRange
  else if s.contexts.any (fun c => decide (c.2.st ≠ .free) && c.2.isSealed) then aborted s abState
  else accepted { s with mem := { s.mem with sealedSlots := BitVec.ofNat 16 v } }

/-- 0x2400 to 0x29FF (R53, R86, R136, R165, R264). -/
def write2400 (s : State) (k : Selects) (idx sub v : Nat) : Answer :=
  let t := s.training
  match idx, sub with
  | 0x2403, _ => setIf s (decide (1 ≤ v ∧ v ≤ 168)) { s with rel := { s.rel with scrubHours := BitVec.ofNat 8 v } }
  | 0x2610, _ => writeSealedSlots s v
  | 0x2800, _ => setIf s (decide (v < 4)) (numericsClear s k.numericsCore.toNat v)
  | 0x2808, _ => setIf s (decide (v < 2)) (vecNumericsClear s k.vectorCore.toNat v)
  | 0x2810, 1 => setIf s (decide (v = 0 ∨ (4 ≤ v ∧ v ≤ 20))) { s with training := { t with log2Rate := BitVec.ofNat 8 v } }
  | 0x2810, 2 => accepted { s with training := { t with seed := BitVec.ofNat 64 v } }
  | 0x2810, 3 => setIf s (decide (226 ≤ v)) { s with training := { t with threshold := BitVec.ofNat 8 v } }
  | _, _ => setIf s (decide (v < 4)) (watchClear s v)

/-- 0x2A00 to 0x2FFF and 0x5000 (R206, R209, R212, R236, R237, R375). -/
def write2A00 (s : State) (k : Selects) (idx sub v : Nat) (b : Bytes) : Answer :=
  let x := k.ctx.toNat
  let q := k.queue.toNat
  match idx, sub with
  | 0x2A00, _ => answerOf s (ctxCommand (endSnapshot s) x b)
  | 0x2A01, 2 => answerOf s (queueConfigure (endSnapshot s) x q b)
  | 0x2A01, _ => if v ≠ 1 then aborted s abRange else answerOf s (queueReset (endSnapshot s) x q)
  | 0x2C00, _ => answerOf s (counterCommand (endSnapshot s) k.syncCtx.toNat k.syncVid.toNat b)
  | 0x2E00, _ => answerOf s (irqRoute s k.irqSource.toNat v)
  | 0x2E01, 2 => accepted (irqClear s b)
  | 0x2E01, _ => answerOf s (irqSet s b)
  | 0x2E02, 2 => answerOf s (irqLimit s k.irqDest.toNat false v)
  | 0x2E02, _ => answerOf s (irqLimit s k.irqDest.toNat true v)
  | 0x5000, 2 => setIf s (decide (v % 4096 = 0)) { s with queueObjs := { s.queueObjs with snapAddress := BitVec.ofNat 64 v } }
  | _, _ => if v ≠ 1 then aborted s abRange else answerOf s (snapshotStart s)

/-- 0x3000 to 0x3BFF (R283, R318, R337, R396). `fails` are the units that a scheduled run finds failing. -/
def write3000 (s : State) (k : Selects) (idx sub v : Nat) (b : Bytes) (fails : List (EphKey × Nat)) : Answer :=
  let f := s.fabric
  let c := s.coll
  let r := s.rel
  match idx, sub with
  | 0x3000, 4 => setIf s (decide (20 ≤ v ∧ v ≤ 1000)) { s with fabric := { f with retransmitUs := BitVec.ofNat 16 v } }
  | 0x3000, _ => setIf s (decide (1 ≤ v ∧ v ≤ 1000)) { s with fabric := { f with deadlineMs := BitVec.ofNat 16 v } }
  | 0x3001, _ => answerOf s (portCommand s k.port.toNat v)
  | 0x3300, _ => answerOf s (drinexCommand s v)
  | 0x3400, 3 => setIf s (decide (10 ≤ v ∧ v ≤ 600000)) { s with coll := { c with deadlineMs := BitVec.ofNat 32 v } }
  | 0x3400, _ => setIf s (decide (5 ≤ v ∧ v ≤ 1000)) { s with coll := { c with timeoutUs := BitVec.ofNat 16 v } }
  | 0x3800, _ => setIf s (decide (1 ≤ v ∧ v ≤ 3600)) { s with rel := { r with intervalS := BitVec.ofNat 16 v } }
  | 0x3820, 1 => almanacCommand s b fails
  | 0x3820, 4 => setIf s (decide (100 ≤ v ∧ v ≤ 10000000)) { s with rel := { r with idleUs := BitVec.ofNat 32 v } }
  | _, _ => setIf s (decide (10 ≤ v)) { s with rel := { r with deadlineS := BitVec.ofNat 16 v } }

/-- A chunk of the staging area; not while DEBUG_ENTER reads it (R406). -/
def writeChunk (s : State) (n : Nat) (b : Bytes) : Answer :=
  if s.sec.busy = some 3 then aborted s abState else accepted (writeStage s n b)

/-- 0x3C00 to 0x3FFF (R402, R406, R407, R411, R412, R414). -/
def write3C00 (s : State) (a : Accessor) (k : Selects) (idx sub v : Nat) (b : Bytes) : Answer :=
  match idx, sub with
  | 0x3C02, _ => writeChunk s k.stage.toNat b
  | 0x3C04, 1 => fwCommand s a.cls b
  | 0x3C04, 2 => setIf s (decide (v % 256 = 0)) { s with sec := { s.sec with fwOffset := BitVec.ofNat 32 v } }
  | 0x3C04, 3 => fwData s a.cls b
  | 0x3C04, _ => setIf s (decide (v ≤ 1)) { s with sec := { s.sec with fwHostEnable := BitVec.ofNat 8 v } }
  | 0x3C08, _ => writeOverride s v
  | 0x3C10, _ => lifecycleCommand s b
  | 0x3C20, _ => keyCommand s b
  | _, _ => attestStart s b

/-- A write of a defined object of the module's dictionary that has passed steps 1 to 5. -/
def writeObject (s : State) (a : Accessor) (r : ObjRow) (idx sub : Nat) (b : Bytes) (fails : List (EphKey × Nat)) : Answer :=
  let k := s.selects a
  let v := leNat b
  if r.sel then writeSelect s a idx sub b
  else if idx < 0x2000 then write1000 s idx sub v
  else if idx < 0x2100 then write2000 s idx v
  else if idx < 0x2400 then write2100 s idx sub v b
  else if idx < 0x2A00 then write2400 s k idx sub v
  else if idx < 0x3000 then write2A00 s k idx sub v b
  else if idx < 0x3C00 then write3000 s k idx sub v b fails
  else if idx < 0x5000 then write3C00 s a k idx sub v b
  else write2A00 s k idx sub v b

/-! ### The metering node (R424, R427, R430, R434) -/

/-- A write of a defined object of the metering node. -/
def writeMeterObject (s : State) (idx sub : Nat) (b : Bytes) : Answer :=
  let v := leNat b
  let tp (f : Tpdo → Tpdo) : State := s.modMeter (fun m => { m with tpdo := f m.tpdo })
  match idx, sub with
  | 0x1017, _ => setIf s (decide (v = 0 ∨ 100 ≤ v)) (s.modMeter (fun m => { m with heartbeatMs := BitVec.ofNat 16 v }))
  | 0x1800, 1 => setIf s (tpdoIdOk s.meter.die.nodeId.toNat v) (tp (fun t => { t with cobId := some (BitVec.ofNat 32 v) }))
  | 0x1800, 2 => setIf s (decide (v = 0xFE ∨ v = 0xFF)) (tp (fun t => { t with typ := BitVec.ofNat 8 v }))
  | 0x1800, 3 => accepted (tp (fun t => { t with inhibit := BitVec.ofNat 16 v }))
  | 0x1800, _ => accepted (tp (fun t => { t with event := BitVec.ofNat 16 v }))
  | 0x4002, _ => accepted (s.modMeter (fun m => { m with eventSelect := BitVec.ofNat 32 v }))
  | 0x4003, 1 => readingStart s b
  | 0x4003, _ => setIf s (decide (v / 256 < 4)) (s.modMeter (fun m => { m with blobSelect := BitVec.ofNat 16 v }))
  | 0x4004, 1 => meterFwCommand s b
  | _, _ => meterFwData s b

end Sys2Proof.Machine
end

