-- ==== Sys2Proof/Machine/DictOps.lean ====
section
/-! DEFINITION. Serving an access to the dictionary: the ordered checks of R342, the reply, USDO sessions (R355, R360) and the test
access port (R361). -/

namespace Sys2Proof.Machine

/-! ### The checks of R342 -/

/-- Writes that Boot/Limited accepts (R349). -/
def bootWritable (r : ObjRow) (idx sub : Nat) : Bool :=
  (decide (0x1000 ≤ idx) && decide (idx ≤ 0x1FFF)) || (decide (idx = 0x2001) && decide (sub = 0)) || decide (idx = 0x2002) ||
  decide (idx = 0x2008) || (decide (0x3C00 ≤ idx) && decide (idx ≤ 0x3FFF)) || r.sel

/-- What a Blank or Decommissioned module still serves: identity, and the lifecycle objects (R401; DEDUCED, log entry 55). -/
def identityObject (idx : Nat) : Bool := [0x1000, 0x1008, 0x1018, 0x2000, 0x2010, 0x2018, 0x3C00, 0x3C10].contains idx

/-- The lifecycle state leaves only identity and PROVISION. -/
def State.sealedOff (s : State) : Bool := decide (s.sec.lifecycle = 0) || decide (s.sec.lifecycle = 4)

/-- Steps 1 to 4 of R342 on an access to the module's dictionary: the abort code, or the object's row. -/
def checkAccess (s : State) (cls : PortClass) (write : Bool) (idx sub : Nat) : Except Nat ObjRow :=
  if (rowsOf moduleObjects idx).isEmpty then .error abAbsent
  else match objectRow moduleObjects idx sub with
    | none => .error abSub
    | some r =>
      let right := r.right cls
      if r.expert && decide (s.dict.accessLevel = 0) then .error abAbsent
      else if !(decide (right = 3) || decide (right = if write then 2 else 1)) then .error abAccess
      else if s.sealedOff && !(identityObject idx) then .error abState
      else if write && decide (s.device = .bootLimited) && !(bootWritable r idx sub) then .error abState
      else .ok r

/-- An access that was aborted is counted (R363). -/
def countAbort (s : State) (code : Nat) : State :=
  if code = 0 then s else s.modDict (fun d => { d with aborts := satAdd d.aborts 1 })

/-- A read of the module's dictionary: the state, the abort code and the value. -/
def dictRead (s : State) (a : Accessor) (idx sub : Nat) : State × Nat × Bytes :=
  let s := touchSelects s a
  match checkAccess s a.cls false idx sub with
  | .error e => (countAbort s e, e, [])
  | .ok r =>
    let (t, code, v) := readObject s (s.selects a) r idx sub
    (countAbort t code, code, v)

/-- Steps 5 to 7 of a write, and its effect. -/
def applyWrite (s : State) (a : Accessor) (r : ObjRow) (idx sub : Nat) (b : Bytes) (fails : List (EphKey × Nat)) : Answer :=
  if b.length ≠ r.size then aborted (countAbort s abLength) abLength
  else
    let (t, code) := writeObject s a r idx sub b fails
    (countAbort t code, code)

/-- A write of the module's dictionary. -/
def dictWrite (s : State) (a : Accessor) (idx sub : Nat) (b : Bytes) (fails : List (EphKey × Nat)) : Answer :=
  let s := touchSelects s a
  match checkAccess s a.cls true idx sub with
  | .error e => aborted (countAbort s e) e
  | .ok r => applyWrite s a r idx sub b fails

/-! ### The metering node (R340, R430) -/

/-- The checks on an access to the metering node's own dictionary; METRO alone reaches it. -/
def checkMeter (write : Bool) (idx sub : Nat) : Except Nat ObjRow :=
  if (rowsOf meterObjects idx).isEmpty then .error abAbsent
  else match objectRow meterObjects idx sub with
    | none => .error abSub
    | some r =>
      if !(decide (r.metro = 3) || decide (r.metro = if write then 2 else 1)) then .error abAccess else .ok r

def meterRead (s : State) (idx sub : Nat) : State × Nat × Bytes :=
  match checkMeter false idx sub with
  | .error e => (s, e, [])
  | .ok r => (s, 0, meterObjectValue s r idx sub)

def meterWrite (s : State) (idx sub : Nat) (b : Bytes) : Answer :=
  match checkMeter true idx sub with
  | .error e => aborted s e
  | .ok r => if b.length ≠ r.size then aborted s abLength else writeMeterObject s idx sub b

/-! ### Arrival and reply (R340, R341) -/

/-- An access of a port class reaches its dictionary: Drinex is up; the CAN node has an ID and is on the bus (R351); the module is
powered; for METRO, the metering node has an ID. -/
def State.reached (s : State) (cls : PortClass) : Bool :=
  match cls with
  | .host => s.power.regulators && s.linkUp
  | .mgmt => s.power.regulators && decide (s.dict.nodeId ≠ 0xFF) && decide (s.dict.busState ≠ 2)
  | .fabric => s.power.regulators
  | .debug => s.power.regulators
  | .metro => decide (s.meter.die.nodeId ≠ 0xFF)

/-- The answer to a USDO request that came through the test access port waits to be shifted out (R361). -/
def tapAnswer (s : State) (code : Nat) (data : Bytes) : State :=
  s.modDict (fun d => { d with tapResponses := d.tapResponses ++ [Config.usdoResponse code data] })

/-- Owner of a USDO session: the CAN bus, the test port, or a source module (R355, R360). -/
def usdoOwner (p : UsdoPath) : Nat :=
  match p with
  | .can => 0
  | .fabric src _ => 1 + src.toNat
  | .tap => 0x10000

def usdoAccessor (p : UsdoPath) : Accessor :=
  match p with
  | .can => { cls := .mgmt, src := 0 }
  | .fabric src _ => { cls := .fabric, src := src }
  | .tap => { cls := .debug, src := 0 }

/-- A USDO response on its path: over CAN FD at 0x580 + node ID, in a DICT_RSP with the request's tag, or to the test port (R355, R360,
R361). The layout of its data field is CiA 1301's (log entry 56). -/
def usdoReply (s : State) (p : UsdoPath) (code : Nat) (data : Bytes) : State :=
  match p with
  | .can => s.send (.dictReply .mgmt (BitVec.ofNat 32 code) data)
  | .fabric src tag =>
    let b := Config.usdoResponse code data
    answer s src.toNat 0x0B tag (padTo (roundUp (max b.length 8) 8) b)
  | .tap => tapAnswer s code data

/-- Bytes of a value that one response carries. -/
def usdoRoom : Nat := Config.usdoChunk + 1

def State.session (s : State) (o : Nat) : Option UsdoSession := s.dict.sessions.find? (fun e => decide (e.owner = o))

def dropSession (s : State) (o : Nat) : State :=
  s.modDict (fun d => { d with sessions := d.sessions.filter (fun e => decide (e.owner ≠ o)) })

/-- An abort that no access made is counted and sent (R343, R355, R363). -/
def usdoAbort (s : State) (p : UsdoPath) (code : Nat) : State := usdoReply (countAbort s code) p code []

/-- A request that begins a transfer aborts the one that is open on its path (R355). -/
def beginTransfer (s : State) (p : UsdoPath) : State :=
  if (s.session (usdoOwner p)).isSome then usdoAbort (dropSession s (usdoOwner p)) p abGeneral else s

/-- No further segmented session may open across the fabric (R360). -/
def sessionsFull (s : State) (p : UsdoPath) : Bool :=
  match p with
  | .fabric _ _ => decide (16 ≤ (s.dict.sessions.filter (fun e => decide (1 ≤ e.owner) && decide (e.owner ≤ 0x4000))).length)
  | _ => false

def openSession (s : State) (e : UsdoSession) : State := s.modDict (fun d => { d with sessions := d.sessions ++ [e] })

/-- An upload begins: the whole value is taken now; what one response does not carry stays for its segments (R355). -/
def usdoUpload (s : State) (p : UsdoPath) (idx sub : Nat) : State :=
  let s := beginTransfer s p
  let long := match objectRow moduleObjects idx sub with
    | some r => decide (usdoRoom < r.size)
    | none => false
  if long && sessionsFull s p then usdoAbort s p abNoSession
  else
    let (t, code, v) := dictRead s (usdoAccessor p) idx sub
    let t := usdoReply t p code (v.take usdoRoom)
    if v.length ≤ usdoRoom then t
    else openSession t { owner := (usdoOwner p), download := false, index := BitVec.ofNat 16 idx, sub := BitVec.ofNat 8 sub
                         data := v.drop usdoRoom }

/-- A download begins: an expedited one is a whole write; a segmented one is checked at steps 1 to 4 (R355). -/
def usdoDownload (s : State) (p : UsdoPath) (idx sub : Nat) (expedited : Option Bytes) : State :=
  let s := beginTransfer s p
  match expedited with
  | some b =>
    let (t, code) := dictWrite s (usdoAccessor p) idx sub b []
    usdoReply t p code []
  | none =>
    let s := touchSelects s (usdoAccessor p)
    match checkAccess s (usdoAccessor p).cls true idx sub with
    | .error e => usdoAbort s p e
    | .ok _ =>
      if sessionsFull s p then usdoAbort s p abNoSession
      else usdoReply (openSession s { owner := (usdoOwner p), download := true, index := BitVec.ofNat 16 idx
                                      sub := BitVec.ofNat 8 sub, data := [] }) p 0 []

/-- The last segment of a download: steps 5 to 7, and the write applied whole; AccessLevel is not looked at again (R347, R355). -/
def finishDownload (s : State) (p : UsdoPath) (e : UsdoSession) (b : Bytes) : State :=
  let s := dropSession s (usdoOwner p)
  match objectRow moduleObjects e.index.toNat e.sub.toNat with
  | none => usdoAbort s p abSub
  | some r =>
    let (t, code) := applyWrite s (usdoAccessor p) r e.index.toNat e.sub.toNat b []
    usdoReply t p code []

/-- A segment of the open transfer (R355). -/
def usdoSegment (s : State) (p : UsdoPath) (data : Bytes) (last : Bool) : State :=
  match s.session (usdoOwner p) with
  | none => usdoAbort s p abGeneral
  | some e =>
    let s := touchSelects s (usdoAccessor p)
    let rest := dropSession s (usdoOwner p)
    if e.download then
      let b := e.data ++ data
      if last then finishDownload s p e b else usdoReply (openSession rest { e with data := b }) p 0 []
    else
      let t := usdoReply rest p 0 (e.data.take usdoRoom)
      if e.data.length ≤ usdoRoom then t else openSession t { e with data := e.data.drop usdoRoom }

/-- What a data field asks, served on its path (R355, R360, R361). -/
def usdoServe (s : State) (p : UsdoPath) (field : Bytes) : State :=
  match Config.usdoRequest field with
  | .other => usdoAbort s p abGeneral
  | .upload i k => usdoUpload s p i.toNat k.toNat
  | .download i k b => usdoDownload s p i.toNat k.toNat b
  | .segment b last => usdoSegment s p b last

/-! ### The test access port (R361) -/

/-- A DEBUG request that waits is served: accesses are served in order of arrival (R341). -/
def serveTap (s : State) : State :=
  match s.dict.tapRequest with
  | none => s
  | some b => usdoServe (s.modDict (fun d => { d with tapRequest := none })) .tap b

/-- The DICT instruction: the oldest response goes out, and a request comes in; one that finds an earlier one unanswered is
discarded and answered with 0x0504_0005. Non-zero reserved bits have no place in the operands. -/
def tapDict (s : State) (length : Nat) (request : Bytes) : State :=
  if !s.power.regulators then s
  else
    let out := s.dict.tapResponses.headD []
    let s := tapRun (s.modDict (fun d => { d with tapResponses := d.tapResponses.drop 1 })) 0xD4 544
      (out.length + 256 * leNat (out.take 64)) (fun c => { c with boundaryMode := 0 })
    if length = 0 then s
    else if s.dict.tapRequest.isSome then tapAnswer (countAbort s abNoSession) abNoSession []
    else s.modDict (fun d => { d with tapRequest := some (request.take length) })

/-- With nothing waiting in the queue, a DEBUG request is served and CLKC counts once (R341, R382; DESIGN CHOICE, log entry 2). -/
def quiet (s : State) : State := idle (serveTap s)

/-! ### Commands that are writes of one object -/

/-- A write from a port, with its reply: `metro` goes to the metering node's dictionary, every other class to the module's. -/
def dictCommandWith (s : State) (a : Accessor) (idx sub : Nat) (b : Bytes) (fails : List (EphKey × Nat)) : State :=
  if !(s.reached a.cls) then s
  else
    let (t, code) := if a.cls = .metro then meterWrite s idx sub b else dictWrite (serveTap s) a idx sub b fails
    t.send (.dictReply a.cls (BitVec.ofNat 32 code) [])

def dictCommand (s : State) (a : Accessor) (idx sub : Nat) (b : Bytes) : State := dictCommandWith s a idx sub b []

/-- A read from a port, with its reply. -/
def dictQuery (s : State) (a : Accessor) (idx sub : Nat) : State :=
  if !(s.reached a.cls) then s
  else
    let (t, code, v) := if a.cls = .metro then meterRead s idx sub else dictRead (serveTap s) a idx sub
    t.send (.dictReply a.cls (BitVec.ofNat 32 code) v)

/-- The 16 bytes of a command object: opcode, a first argument byte, a 64-bit operand (R206, R209, R396, R402, R407, R412). -/
def commandBytes (opcode arg operand : Nat) : Bytes := leBytes 1 opcode ++ leBytes 1 arg ++ leBytes 6 0 ++ leBytes 8 operand

/-! ### Core-private registers (R87, R118, R145, R146, R157, R369) -/

/-- A ring of 2^n entries of some size lies within local SRAM. -/
def ringFits (base log2 entry : Nat) : Bool := decide (base + entry * 2 ^ log2 ≤ 0x1000000)

/-- A write of a ring register; one that R87 does not allow is ignored. -/
def ringRegister (s : State) (u : UnitKind) (g : Nat) (off v : Nat) : State :=
  let r := s.unitOf u g
  let idleNow := decide (s.unitState u g = 0) && decide (r.head = r.tail)
  let put (r : UnitRing) : State := s.setCore g ((s.core g).setUnit u r)
  match off with
  | 0x00 =>
    let b := v % 2 ^ 24
    if idleNow && decide (b % 128 = 0) && ringFits b r.log2.toNat 128 then put { r with base := BitVec.ofNat 24 b } else s
  | 0x08 =>
    let n := v % 16
    if idleNow && decide (6 ≤ n) && decide (n ≤ 12) && ringFits r.base.toNat n 128 && ringFits r.cbase.toNat n 32 then
      put { r with log2 := BitVec.ofNat 4 n } else s
  | 0x10 => put { r with tail := BitVec.ofNat 32 v }
  | 0x20 =>
    let b := v % 2 ^ 24
    if idleNow && decide (b % 32 = 0) && ringFits b r.log2.toNat 32 then put { r with cbase := BitVec.ofNat 24 b } else s
  | 0x28 => if idleNow then put { r with nextSeq := BitVec.ofNat 64 v } else s
  | 0x38 => releaseWrite u g (BitVec.ofNat 32 v) s
  | _ => s

/-- A write to the core-private page by the core's own firmware; read-only and reserved offsets ignore it. -/
def coreRegister (s : State) (g off v : Nat) : State :=
  if !(s.present g) then s
  else if off < 0x100 then ringRegister s .engine g off v
  else if off < 0x200 then ringRegister s .vector g (off - 0x100) v
  else if off < 0x300 then ringRegister s .dma g (off - 0x200) v
  else if off = 0x308 ∧ v % 2 = 1 then s.setCore g { s.core g with line := false }
  else s

end Sys2Proof.Machine
end

