-- ==== Sys2Proof/Machine/Commands.lean ====
section
/-! DEFINITION. The commands that are accesses to one command object of the dictionary. -/

namespace Sys2Proof.Machine

/-- CREATE (R209). -/
def execCreate (acc : Accessor) (sealed peerOpen : Bool) (queues : Fin 8) (s : State) : Host.Outcome State Fault Refusal :=
  .next (dictCommand s acc 0x2A00 2 (commandBytes 1 0 (boolNat sealed + 2 * boolNat peerOpen + 4 * queues.val)))

/-- DESTROY (R209, R210). -/
def execDestroy (acc : Accessor) (s : State) : Host.Outcome State Fault Refusal :=
  .next (dictCommand s acc 0x2A00 2 (commandBytes 2 0 0))

/-- STOP (R208, R209). -/
def execStop (acc : Accessor) (s : State) : Host.Outcome State Fault Refusal :=
  .next (dictCommand s acc 0x2A00 2 (commandBytes 3 0 0))

/-- START (R208, R209). -/
def execStart (acc : Accessor) (s : State) : Host.Outcome State Fault Refusal :=
  .next (dictCommand s acc 0x2A00 2 (commandBytes 4 0 0))

/-- RESET (R209, R210). -/
def execReset (acc : Accessor) (s : State) : Host.Outcome State Fault Refusal :=
  .next (dictCommand s acc 0x2A00 2 (commandBytes 5 0 0))

/-- PEER_OPEN (R209, R211). -/
def execPeerOpen (acc : Accessor) (s : State) : Host.Outcome State Fault Refusal :=
  .next (dictCommand s acc 0x2A00 2 (commandBytes 6 0 0))

/-- PEER_CLOSE (R209, R211). -/
def execPeerClose (acc : Accessor) (s : State) : Host.Outcome State Fault Refusal :=
  .next (dictCommand s acc 0x2A00 2 (commandBytes 7 0 0))

/-- QUEUE_CONFIG (R212). -/
def execQueueConfig (acc : Accessor) (config : Bytes) (s : State) : Host.Outcome State Fault Refusal :=
  .next (dictCommand s acc 0x2A01 2 (config))

/-- QUEUE_RESET (R237). -/
def execQueueReset (acc : Accessor) (s : State) : Host.Outcome State Fault Refusal := .next (dictCommand s acc 0x2A01 4 ([1#8]))

/-- SNAPSHOT_COMMAND (R236). -/
def execSnapshotCommand (acc : Accessor) (s : State) : Host.Outcome State Fault Refusal :=
  .next (dictCommand s acc 0x5000 3 ([1#8]))

/-- SIGNAL_CMD (R206). -/
def execSignalCmd (acc : Accessor) (amount : BitVec 64) (s : State) : Host.Outcome State Fault Refusal :=
  .next (dictCommand s acc 0x2C00 5 (commandBytes 1 0 amount.toNat))

/-- DEBIT (R206). -/
def execDebit (acc : Accessor) (amount : BitVec 64) (s : State) : Host.Outcome State Fault Refusal :=
  .next (dictCommand s acc 0x2C00 5 (commandBytes 2 0 amount.toNat))

/-- SET_PRODUCED (R206). -/
def execSetProduced (acc : Accessor) (p : BitVec 64) (s : State) : Host.Outcome State Fault Refusal :=
  .next (dictCommand s acc 0x2C00 5 (commandBytes 3 0 p.toNat))

/-- SET_CONSUMED (R206). -/
def execSetConsumed (acc : Accessor) (c : BitVec 64) (s : State) : Host.Outcome State Fault Refusal :=
  .next (dictCommand s acc 0x2C00 5 (commandBytes 4 0 c.toNat))

/-- SET_MODE (R190, R206). -/
def execSetMode (acc : Accessor) (mode : BitVec 64) (s : State) : Host.Outcome State Fault Refusal :=
  .next (dictCommand s acc 0x2C00 5 (commandBytes 5 0 mode.toNat))

/-- CLEAR (R201, R206). -/
def execClear (acc : Accessor) (s : State) : Host.Outcome State Fault Refusal :=
  .next (dictCommand s acc 0x2C00 5 (commandBytes 6 0 0))

/-- CANCEL (R194, R206). -/
def execCancel (acc : Accessor) (s : State) : Host.Outcome State Fault Refusal :=
  .next (dictCommand s acc 0x2C00 5 (commandBytes 7 0 0))

/-- NUMERICS_CLEAR_COUNTERS (R53). -/
def execNumericsClearCounters (acc : Accessor) (s : State) : Host.Outcome State Fault Refusal :=
  .next (dictCommand s acc 0x2800 8 ([1#8]))

/-- NUMERICS_CLEAR_FLAGS (R53). -/
def execNumericsClearFlags (acc : Accessor) (s : State) : Host.Outcome State Fault Refusal :=
  .next (dictCommand s acc 0x2800 8 ([2#8]))

/-- VEC_NUMERICS_CLEAR (R136). -/
def execVecNumericsClear (acc : Accessor) (s : State) : Host.Outcome State Fault Refusal :=
  .next (dictCommand s acc 0x2808 8 ([1#8]))

/-- SEALED_SAVE_SLOTS_WRITE (R86). -/
def execSealedSaveSlotsWrite (acc : Accessor) (slots : BitVec 16) (s : State) : Host.Outcome State Fault Refusal :=
  .next (dictCommand s acc 0x2610 4 (leBytes 2 slots.toNat))

/-- WATCH_CLEAR_COUNTS (R264). -/
def execWatchClearCounts (acc : Accessor) (s : State) : Host.Outcome State Fault Refusal :=
  .next (dictCommand s acc 0x2810 7 ([1#8]))

/-- WATCH_CLEAR_EVENTS (R264). -/
def execWatchClearEvents (acc : Accessor) (s : State) : Host.Outcome State Fault Refusal :=
  .next (dictCommand s acc 0x2810 7 ([2#8]))

/-- PORT_ENABLE (R268, R283). -/
def execPortEnable (acc : Accessor) (s : State) : Host.Outcome State Fault Refusal := .next (dictCommand s acc 0x3001 4 ([1#8]))

/-- PORT_DISABLE (R268, R283). -/
def execPortDisable (acc : Accessor) (s : State) : Host.Outcome State Fault Refusal := .next (dictCommand s acc 0x3001 4 ([2#8]))

/-- PORT_RETRAIN (R268, R283). -/
def execPortRetrain (acc : Accessor) (s : State) : Host.Outcome State Fault Refusal := .next (dictCommand s acc 0x3001 4 ([3#8]))

/-- DRINEX_ENABLE (R320, R337). -/
def execDrinexEnable (acc : Accessor) (s : State) : Host.Outcome State Fault Refusal := .next (dictCommand s acc 0x3300 4 ([1#8]))

/-- DRINEX_DISABLE (R320, R337). -/
def execDrinexDisable (acc : Accessor) (s : State) : Host.Outcome State Fault Refusal := .next (dictCommand s acc 0x3300 4 ([2#8]))

/-- DRINEX_RETRAIN (R320, R337). -/
def execDrinexRetrain (acc : Accessor) (s : State) : Host.Outcome State Fault Refusal := .next (dictCommand s acc 0x3300 4 ([3#8]))

/-- ACCESS_LEVEL_WRITE (R345, R346). -/
def execAccessLevelWrite (acc : Accessor) (value : BitVec 8) (s : State) : Host.Outcome State Fault Refusal :=
  .next (dictCommand s acc 0x2001 0 ([value]))

/-- IRQ_PENDING_CLEAR (R372, R375). -/
def execIrqPendingClear (acc : Accessor) (bits : Bytes) (s : State) : Host.Outcome State Fault Refusal :=
  .next (dictCommand s acc 0x2E01 2 (bits))

/-- IRQ_PENDING_SET (R374). -/
def execIrqPendingSet (acc : Accessor) (bits : Bytes) (s : State) : Host.Outcome State Fault Refusal :=
  .next (dictCommand s acc 0x2E01 3 (bits))

/-- IRQ_SOURCE_ROUTE (R368, R370). -/
def execIrqSourceRoute (acc : Accessor) (value : BitVec 32) (s : State) : Host.Outcome State Fault Refusal :=
  .next (dictCommand s acc 0x2E00 2 (leBytes 4 value.toNat))

/-- COALESCE_LIMIT_WRITE (R371, R375). -/
def execCoalesceLimitWrite (acc : Accessor) (time : Bool) (value : BitVec 16) (s : State) : Host.Outcome State Fault Refusal :=
  .next (dictCommand s acc 0x2E02 (if time then 3 else 2) (leBytes 2 value.toNat))

/-- ALMANAC_LOAD (R389). -/
def execAlmanacLoad (acc : Accessor) (address : BitVec 64) (s : State) : Host.Outcome State Fault Refusal :=
  .next (dictCommand s acc 0x3820 1 (commandBytes 1 0 address.toNat))

/-- ALMANAC_IDLE_ON (R390). -/
def execAlmanacIdleOn (acc : Accessor) (s : State) : Host.Outcome State Fault Refusal :=
  .next (dictCommand s acc 0x3820 1 (commandBytes 2 0 0))

/-- ALMANAC_IDLE_OFF (R390). -/
def execAlmanacIdleOff (acc : Accessor) (s : State) : Host.Outcome State Fault Refusal :=
  .next (dictCommand s acc 0x3820 1 (commandBytes 3 0 0))

/-- RUN_SCHEDULED (R390), with the units that the run finds failing. -/
def execRunScheduled (acc : Accessor) (scope : BitVec 64) (failures : List (EphKey × Nat)) (s : State) :
    Host.Outcome State Fault Refusal := .next (dictCommandWith s acc 0x3820 1 (commandBytes 4 0 scope.toNat) failures)

/-- ALMANAC_UNLOAD (R389). -/
def execAlmanacUnload (acc : Accessor) (s : State) : Host.Outcome State Fault Refusal :=
  .next (dictCommand s acc 0x3820 1 (commandBytes 5 0 0))

/-- PROVISION (R402). -/
def execProvision (acc : Accessor) (s : State) : Host.Outcome State Fault Refusal :=
  .next (dictCommand s acc 0x3C10 1 (commandBytes 1 0 0))

/-- DEPLOY (R402). -/
def execDeploy (acc : Accessor) (s : State) : Host.Outcome State Fault Refusal :=
  .next (dictCommand s acc 0x3C10 1 (commandBytes 2 0 0))

/-- DEBUG_ENTER (R403). -/
def execDebugEnter (acc : Accessor) (s : State) : Host.Outcome State Fault Refusal :=
  .next (dictCommand s acc 0x3C10 1 (commandBytes 3 0 0))

/-- DEBUG_EXIT (R402). -/
def execDebugExit (acc : Accessor) (s : State) : Host.Outcome State Fault Refusal :=
  .next (dictCommand s acc 0x3C10 1 (commandBytes 4 0 0))

/-- DECOMMISSION (R404). -/
def execDecommission (acc : Accessor) (operand : BitVec 64) (s : State) : Host.Outcome State Fault Refusal :=
  .next (dictCommand s acc 0x3C10 1 (commandBytes 5 0 operand.toNat))

/-- DEBUG_NONCE_READ (R403). -/
def execDebugNonceRead (acc : Accessor) (s : State) : Host.Outcome State Fault Refusal := .next (dictQuery s acc 0x3C10 3)

/-- STAGE_CHUNK_WRITE (R406). -/
def execStageChunkWrite (acc : Accessor) (chunk : Bytes) (s : State) : Host.Outcome State Fault Refusal :=
  .next (dictCommand s acc 0x3C02 2 (chunk))

/-- KEY_STORE (R407). -/
def execKeyStore (acc : Accessor) (slot : BitVec 8) (s : State) : Host.Outcome State Fault Refusal :=
  .next (dictCommand s acc 0x3C20 1 (commandBytes 1 slot.toNat 0))

/-- CERT_STORE (R399, R407). -/
def execCertStore (acc : Accessor) (s : State) : Host.Outcome State Fault Refusal :=
  .next (dictCommand s acc 0x3C20 1 (commandBytes 2 0 0))

/-- FW_BEGIN (R412). -/
def execFwBegin (acc : Accessor) (image : BitVec 8) (total : BitVec 32) (s : State) : Host.Outcome State Fault Refusal :=
  .next (dictCommand s acc 0x3C04 1 (commandBytes 1 image.toNat total.toNat))

/-- FW_UPDATE_DATA (R412). -/
def execFwUpdateData (acc : Accessor) (data : Bytes) (s : State) : Host.Outcome State Fault Refusal :=
  .next (dictCommand s acc 0x3C04 3 (data))

/-- FW_VERIFY (R412). -/
def execFwVerify (acc : Accessor) (s : State) : Host.Outcome State Fault Refusal :=
  .next (dictCommand s acc 0x3C04 1 (commandBytes 2 0 0))

/-- FW_ACTIVATE (R412). -/
def execFwActivate (acc : Accessor) (mask : BitVec 8) (s : State) : Host.Outcome State Fault Refusal :=
  .next (dictCommand s acc 0x3C04 1 (commandBytes 3 mask.toNat 0))

/-- FW_ABORT (R412). -/
def execFwAbort (acc : Accessor) (s : State) : Host.Outcome State Fault Refusal :=
  .next (dictCommand s acc 0x3C04 1 (commandBytes 4 0 0))

/-- COMMIT_VERSION (R413). -/
def execCommitVersion (acc : Accessor) (mask : BitVec 8) (s : State) : Host.Outcome State Fault Refusal :=
  .next (dictCommand s acc 0x3C04 1 (commandBytes 5 mask.toNat 0))

/-- REVERT (R412). -/
def execRevert (acc : Accessor) (mask : BitVec 8) (s : State) : Host.Outcome State Fault Refusal :=
  .next (dictCommand s acc 0x3C04 1 (commandBytes 6 mask.toNat 0))

/-- OVERRIDE_ARM (R411). -/
def execOverrideArm (acc : Accessor) (s : State) : Host.Outcome State Fault Refusal := .next (dictCommand s acc 0x3C08 1 ([1#8]))

/-- OVERRIDE_DISARM (R411). -/
def execOverrideDisarm (acc : Accessor) (s : State) : Host.Outcome State Fault Refusal := .next (dictCommand s acc 0x3C08 1 ([0#8]))

/-- ATTEST_NONCE (R414). -/
def execAttestNonce (acc : Accessor) (nonce : Bytes) (s : State) : Host.Outcome State Fault Refusal :=
  .next (dictCommand s acc 0x3C30 1 (nonce))

/-- READING_NONCE (R427), through METRO. -/
def execReadingNonce (acc : Accessor) (nonce : Bytes) (s : State) : Host.Outcome State Fault Refusal :=
  .next (dictCommand s acc 0x4003 1 (nonce))

/-- METER_FW_BEGIN (R434), through METRO. -/
def execMeterFwBegin (acc : Accessor) (bytes : BitVec 32) (s : State) : Host.Outcome State Fault Refusal :=
  .next (dictCommand s acc 0x4004 1 (commandBytes 1 0 bytes.toNat))

/-- METER_FW_DATA (R434). -/
def execMeterFwData (acc : Accessor) (data : Bytes) (s : State) : Host.Outcome State Fault Refusal :=
  .next (dictCommand s acc 0x4004 2 (data))

/-- METER_FW_ACTIVATE (R434). -/
def execMeterFwActivate (acc : Accessor) (s : State) : Host.Outcome State Fault Refusal :=
  .next (dictCommand s acc 0x4004 1 (commandBytes 2 0 0))

/-- METER_FW_ABORT (R434). -/
def execMeterFwAbort (acc : Accessor) (s : State) : Host.Outcome State Fault Refusal :=
  .next (dictCommand s acc 0x4004 1 (commandBytes 3 0 0))

/-- ATTRIBUTION_CLEAR (R433). -/
def execAttributionClear (acc : Accessor) (s : State) : Host.Outcome State Fault Refusal :=
  .next (dictCommand s acc 0x2280 7 ([1#8]))

/-- WARM_RESET_COMMAND (R447, R453). -/
def execWarmResetCommand (acc : Accessor) (s : State) : Host.Outcome State Fault Refusal :=
  .next (dictCommand s acc 0x2210 1 ([1#8]))

/-- DIE_RESET_COMMAND (R449, R453). -/
def execDieResetCommand (acc : Accessor) (die : Fin 2) (s : State) : Host.Outcome State Fault Refusal :=
  .next (dictCommand s acc 0x2210 1 ([BitVec.ofNat 8 (2 + die.val)]))

/-- ERROR_HISTORY_CLEAR (R357). -/
def execErrorHistoryClear (acc : Accessor) (value : BitVec 8) (s : State) : Host.Outcome State Fault Refusal :=
  .next (dictCommand s acc 0x1003 0 ([value]))

end Sys2Proof.Machine
end

