-- ==== Sys2Proof/Machine/Contexts.lean ====
section
/-! DEFINITION. The events of contexts, queues and host descriptors (09_contexts_and_queues.md). The commands written
through the dictionary stand in DictionaryRows. -/

namespace Sys2Proof.Machine

/-- CONTEXT_RESET_FINISH: steps 2 to 4 of a RESET (R210). -/
def execContextResetFinish (x : CtxId) (s : State) : Host.Outcome State Fault Refusal := .next (resetFinish (endSnapshot s) x)

/-- ACCEPT: the next descriptor is read, journaled and echoed (R215, R221). -/
def execAccept (x : CtxId) (q : QueueId) (s : State) : Host.Outcome State Fault Refusal := .next (acceptStart (endSnapshot s) x q)

/-- ACCEPT_ADVANCE: copies are written and the echo is acknowledged; accept advances (R221). -/
def execAcceptAdvance (x : CtxId) (q : QueueId) (s : State) : Host.Outcome State Fault Refusal :=
  .next (acceptAdvanceTo (endSnapshot s) x q)

/-- RUN (R217, R218). -/
def execRun (x : CtxId) (q : QueueId) (s : State) : Host.Outcome State Fault Refusal := .next (hostOp 1 x q (endSnapshot s) (runBody x q))

/-- PLAN_LOAD (R217, R175). -/
def execPlanLoad (x : CtxId) (q : QueueId) (s : State) : Host.Outcome State Fault Refusal :=
  .next (hostOp 2 x q (endSnapshot s) (planLoadBody x q))

/-- PLAN_UNLOAD (R217, R177). -/
def execPlanUnload (x : CtxId) (q : QueueId) (s : State) : Host.Outcome State Fault Refusal :=
  .next (hostOp 3 x q (endSnapshot s) (planUnloadBody x q))

/-- PLAN_UNLOAD_TAKE_EFFECT (R177, R178). -/
def execPlanUnloadTakeEffect (x : CtxId) (s : State) : Host.Outcome State Fault Refusal := .next (unloadEffect (endSnapshot s) x)

/-- SYNC: only its wait, its fence and its signal (R217). -/
def execSync (x : CtxId) (q : QueueId) (s : State) : Host.Outcome State Fault Refusal :=
  .next (hostOp 4 x q (endSnapshot s) (fun s d => dispatchWith s x q d stDone))

/-- VT_SET (R217, R226). -/
def execVtSet (x : CtxId) (q : QueueId) (s : State) : Host.Outcome State Fault Refusal :=
  .next (hostOp 5 x q (endSnapshot s) (vtSetBody x q))

/-- COMMIT: the steps of R228 up to the state 2 block. -/
def execCommit (x : CtxId) (q : QueueId) (s : State) : Host.Outcome State Fault Refusal := .next (commitStep (endSnapshot s) x q)

/-- COMMIT_COMPLETE: step 6 of R228. -/
def execCommitComplete (x : CtxId) (q : QueueId) (s : State) : Host.Outcome State Fault Refusal :=
  .next (completeStep (endSnapshot s) x q)

/-- REPLAY (R231, R232). -/
def execReplay (x : CtxId) (s : State) : Host.Outcome State Fault Refusal := .next (replayStart (endSnapshot s) x)

/-- CANCEL_CASCADE (R233). -/
def execCancelCascade (x : CtxId) (q : QueueId) (seq : BitVec 64) (s : State) : Host.Outcome State Fault Refusal :=
  .next (cascadeStep (endSnapshot s) x q seq)

/-- SNAPSHOT_DONE: SnapshotDone is set and source 0x38E raised (R236). -/
def execSnapshotDone (s : State) : Host.Outcome State Fault Refusal :=
  .next (endSnapshot s)

/-- JOURNAL_RELOCATE (R225). -/
def execJournalRelocate (lost : Fin 8) (s : State) : Host.Outcome State Fault Refusal := .next (relocate (endSnapshot s) lost)

/-- JOURNAL_RELOCATION_COMPLETE (R225). -/
def execJournalRelocationComplete (s : State) : Host.Outcome State Fault Refusal := .next (relocationDone (endSnapshot s))

/-- PART_LOST (R234). -/
def execPartLost (part : Part) (s : State) : Host.Outcome State Fault Refusal := .next (losePart (endSnapshot s) part)

end Sys2Proof.Machine
end

