-- ==== Sys2Proof/Machine/MgmtOps.lean ====
section
/-! DEFINITION. The management bus: LSS (R351, R352, R424), NMT and heartbeat (R353, R354), EMCY spacing (R357), TPDOs (R358) and the
state of the CAN FD node (R350, R356). -/

namespace Sys2Proof.Machine

/-! ### LSS (R351, R424) -/

/-- The LSS address: the four values of 0x1018 (R351), and those of the metering node (R424). -/
def moduleLss : List Nat := [0x0A7E, 0x00010001, revisionNumber, serialNumber]
def meterLss : List Nat := [0x0A7E, 0x00010101, 0x00010002, serialNumber]

def lssReply (s : State) (command value : Nat) : State := s.send (.lss (BitVec.ofNat 8 command) (BitVec.ofNat 32 value))

/-- Both nodes stand on the bus: the module's while it is powered. -/
def lssBoth (s : State) (own metering : State → State) : State :=
  let s := if s.power.regulators then own s else s
  metering s

def setLss (s : State) (on : Bool) : State := s.modDict (fun d => { d with lssConfig := on })
def setMeterLss (s : State) (on : Bool) : State := s.modMeter (fun m => { m with lssConfig := on })

/-- Switch state global. -/
def lssGlobal (s : State) (on : Bool) : State := lssBoth s (fun s => setLss s on) (fun s => setMeterLss s on)

/-- Switch state selective: the node with this address enters the configuration state and answers. -/
def lssSelective (s : State) (address : List Nat) : State :=
  lssBoth s (fun s => if address = moduleLss then lssReply (setLss s true) 0x44 0 else s)
    (fun s => if address = meterLss then lssReply (setMeterLss s true) 0x44 0 else s)

/-- Node IDs that the module and the metering node accept; 0xFF leaves the node unconfigured (CiA 305; log entry 57). -/
def nodeIdOk (n : Nat) : Bool := (decide (1 ≤ n) && decide (n ≤ 63)) || decide (n = 0xFF)
def meterIdOk (n : Nat) : Bool := (decide (65 ≤ n) && decide (n ≤ 127)) || decide (n = 0xFF)

/-- Configure node-ID: error code 1 for an ID that the node does not accept. -/
def lssNodeId (s : State) (n : Nat) : State :=
  lssBoth s
    (fun s => if !s.dict.lssConfig then s
      else if nodeIdOk n then lssReply (s.modDict (fun d => { d with pendingNodeId := BitVec.ofNat 8 n })) 0x11 0
      else lssReply s 0x11 1)
    (fun s => if !s.meter.lssConfig then s
      else if meterIdOk n then lssReply (s.modMeter (fun m => { m with pendingNode := BitVec.ofNat 8 n })) 0x11 0
      else lssReply s 0x11 1)

/-- Configure bit timing: error code 1. -/
def lssTiming (s : State) : State :=
  lssBoth s (fun s => if s.dict.lssConfig then lssReply s 0x13 1 else s) (fun s => if s.meter.lssConfig then lssReply s 0x13 1 else s)

/-- The module's node ID is written to the SPI NOR, as an entry of class 0xF3; a node that had none takes it at once (R351, R384). -/
def storeNode (s : State) : State :=
  let n := s.dict.pendingNodeId
  let s := logEntry s 0xF3 0 1 0 (leBytes 1 n.toNat)
  let fresh := decide (s.dict.nodeId = 0xFF) && decide (n ≠ 0xFF)
  let s := s.modDict (fun d => { d with storedNodeId := n, nodeId := if fresh then n else d.nodeId
                                        busState := if fresh then 0 else d.busState })
  if fresh then pairCheck s else s

/-- The metering node's ID is stored, with an event of type 9 (R424, R428). -/
def storeMeterNode (s : State) : State :=
  let n := s.meter.pendingNode
  let s := meterEvent s 9 n.toNat s.meter.storedNode.toNat
  let fresh := decide (s.meter.die.nodeId = 0xFF)
  s.modMeter (fun m => { m with storedNode := n, die := { m.die with nodeId := if fresh then n else m.die.nodeId } })

/-- Store configuration. -/
def lssStore (s : State) : State :=
  lssBoth s (fun s => if s.dict.lssConfig then lssReply (storeNode s) 0x17 0 else s)
    (fun s => if s.meter.lssConfig then lssReply (storeMeterNode s) 0x17 0 else s)

/-- Inquire vendor, product, revision, serial number, node ID. -/
def lssInquire (s : State) (which : Nat) : State :=
  lssBoth s
    (fun s => if s.dict.lssConfig then lssReply s (0x5A + which) (moduleLss.getD which s.dict.nodeId.toNat) else s)
    (fun s => if s.meter.lssConfig then lssReply s (0x5A + which) (meterLss.getD which s.meter.die.nodeId.toNat) else s)

/-- One node's part in fastscan (CiA 305; PRESUMED, log entry 57): its position and configuration state, and whether it answers. A
node takes part while it has no ID and waits. -/
def fastscanStep (address : List Nat) (free : Bool) (pos id bits sub next : Nat) : Option (Nat × Bool) :=
  if !free then none
  else if bits = 0x80 then some (0, false)
  else if pos = sub ∧ bits < 32 ∧ sub < 4 ∧ id / 2 ^ bits = address.getD sub 0 / 2 ^ bits then
    some (next, decide (bits = 0) && decide (next < sub))
  else none

/-- Fastscan. -/
def lssFastscan (s : State) (id bits sub next : Nat) : State :=
  lssBoth s
    (fun s => match fastscanStep moduleLss (decide (s.dict.nodeId = 0xFF) && !s.dict.lssConfig) s.dict.lssMatched id bits sub next with
      | none => s
      | some (p, on) => lssReply (s.modDict (fun d => { d with lssMatched := p, lssConfig := on })) 0x4F 0)
    (fun s => match fastscanStep meterLss (decide (s.meter.die.nodeId = 0xFF) && !s.meter.lssConfig) s.meter.lssMatched id bits
        sub next with
      | none => s
      | some (p, on) => lssReply (s.modMeter (fun m => { m with lssMatched := p, lssConfig := on })) 0x4F 0)

/-! ### NMT (R353) -/

/-- A command that is ignored is counted. -/
def nmtIgnored (s : State) : State := s.modDict (fun d => { d with nmtIgnored := satAdd d.nmtIgnored 1 })

/-- A communication reset: the CAN FD controller restarts, 0x1000 to 0x1FFF take their defaults, and the boot-up message is sent. -/
def commReset (s : State) : State :=
  let fresh : Dict := {}
  let s := s.modDict (fun d => { d with
    errorRegister := 0, history := [], cobIdEmcy := none, inhibitEmcy := fresh.inhibitEmcy, heartbeatMs := fresh.heartbeatMs
    tpdos := fresh.tpdos, emcyQueue := [], emcyHeld := false, busState := 0, txErrors := 0, rxErrors := 0
    sessions := d.sessions.filter (fun e => decide (e.owner ≠ 0)) })
  sendBootUp s

/-- What the module's node does on an NMT command. -/
def nmtOwn (s : State) (command : Nat) : State :=
  match command with
  | 0x01 => match s.device with
    | .bootLimited => nmtIgnored s
    | .service => s
    | .quiesced => setDevice s .service
  | 0x02 => match s.device with
    | .bootLimited => nmtIgnored s
    | .service => setDevice s .quiesced
    | .quiesced => s
  | 0x80 => nmtIgnored s
  | 0x81 => warmCommanded s .warmNmt
  | _ => commReset s

/-- An NMT command on the bus: the module acts on its own ID or 0 once it has an ID; the metering node hears it too (R353, R425). -/
def nmtCommand (s : State) (command node : Nat) : State :=
  let mine := s.reached .mgmt && (decide (node = 0) || decide (node = s.dict.nodeId.toNat))
  meterNmt (if mine then nmtOwn s command else s) command node

/-- HEARTBEAT: the heartbeat timer of the nodes, where it is enabled (R354, R424). -/
def heartbeatDue (s : State) : State :=
  let s := if s.dict.heartbeatMs = 0 then s else sendHeartbeat s
  if s.meter.heartbeatMs = 0 then s else meterHeartbeat s

/-! ### EMCY spacing (R357) -/

/-- The inhibit spacing has passed: the next EMCY of the queue goes out. -/
def emcyNext (s : State) : State :=
  if !s.emcyOn then s
  else match s.dict.emcyQueue with
    | [] => s.modDict (fun d => { d with emcyHeld := false })
    | m :: ms => emcyOut (s.modDict (fun d => { d with emcyHeld := false, emcyQueue := ms })) m

/-! ### TPDOs (R358) -/

/-- The mapped values of TPDO n + 1, taken at one moment. -/
def tpdoValues (s : State) (n : Nat) : Bytes :=
  let t : Tpdo := smGet {} s.dict.tpdos n
  (List.range t.count.toNat).flatMap (fun i =>
    let e := (smGet 0#32 t.mapping i).toNat
    match objectRow moduleObjects (e / 65536) (e / 256 % 256) with
    | some r => objectValue s s.dict.mgmt r (e / 65536) (e / 256 % 256)
    | none => [])

/-- TPDO n + 1 may be sent: Operational, a node ID, enabled, something mapped. -/
def tpdoRuns (s : State) (n : Nat) : Bool :=
  decide (s.device = .service) && s.reached .mgmt && !(s.dict.tpdoOff n) && decide ((smGet ({} : Tpdo) s.dict.tpdos n).count ≠ 0)

/-- The inhibit time has passed since the last transmission: sampling periods are of 1 ms, inhibit units of 100 µs. -/
def Tpdo.clear (t : Tpdo) (tick : Nat) : Bool :=
  match t.lastTick with
  | none => true
  | some l => decide (t.inhibit.toNat ≤ (tick - l) * 10)

/-- A TPDO after a transmission of some bytes. -/
def Tpdo.sent (t : Tpdo) (b : Bytes) (tick : Nat) : Tpdo := { t with last := b, lastTick := some tick, due := false }

/-- TPDO n + 1 is sent where its values changed, or its event timer is due, and the inhibit time lets it; `timer` says that the event
timer expires now. -/
def tpdoTry (timer : Bool) (s : State) (n : Nat) : State :=
  let t : Tpdo := smGet {} s.dict.tpdos n
  if !(tpdoRuns s n) then s
  else
    let b := tpdoValues s n
    let wanted := decide (b ≠ t.last) || t.due || timer
    if !wanted then s
    else if t.clear s.dict.sampleTick then
      (s.modTpdo n (fun t => t.sent b s.dict.sampleTick)).send (.can ((s.dict.tpdoId n).setWidth 11) b)
    else if timer then s.modTpdo n (fun t => { t with due := true })
    else s

/-- The metering node's TPDO by the same rule (R424). -/
def meterTpdoTry (timer : Bool) (s : State) : State :=
  let t := s.meter.tpdo
  let id := match t.cobId with
    | some v => v.toNat
    | none => 0x180 + s.meter.die.nodeId.toNat
  if s.meter.nmt ≠ 0x05 ∨ s.meter.die.nodeId = 0xFF ∨ bitAt id 31 then s
  else
    let b := meterTpdoData s
    if !(decide (b ≠ t.last) || t.due || timer) then s
    else if t.clear s.dict.sampleTick then
      (s.modMeter (fun m => { m with tpdo := t.sent b s.dict.sampleTick })).send (.meterCan (BitVec.ofNat 11 id) b)
    else if timer then s.modMeter (fun m => { m with tpdo := { t with due := true } })
    else s

/-- TPDO_SAMPLE: one sampling period of 1 ms. -/
def tpdoSample (s : State) : State :=
  let s := s.modDict (fun d => { d with sampleTick := d.sampleTick + 1 })
  meterTpdoTry false ((List.range 8).foldl (tpdoTry false) s)

/-- TPDO_EVENT_TIMER: of TPDO n + 1; timer 0 also stands for the metering node's one TPDO (log entry 58). -/
def tpdoTimer (s : State) (n : Nat) : State :=
  let s := if (smGet ({} : Tpdo) s.dict.tpdos n).event = 0 then s else tpdoTry true s n
  if n = 0 ∧ s.meter.tpdo.event ≠ 0 then meterTpdoTry true s else s

/-! ### The CAN FD node's own state (R350, R356) -/

/-- BUS_OFF_RECOVERY: counted, announced; no error condition of the node is left. -/
def busRecovered (s : State) : State :=
  if s.dict.busState ≠ 2 ∨ !s.power.regulators then s
  else
    let s := s.modDict (fun d => { d with busState := 0, txErrors := 0, rxErrors := 0, busOffs := satAdd d.busOffs 1 })
    emcyClear (emcy s 0x8140 0)

/-- NODE_ERROR_PASSIVE: the error counters, and the state they put the node in. -/
def busErrors (s : State) (busOff : Bool) (tx rx : BitVec 8) : State :=
  if s.dict.nodeId = 0xFF ∨ !s.power.regulators then s
  else
    let old := s.dict.busState
    let t := s.modDict (fun d => { d with busState := if busOff then 2 else 1, txErrors := tx, rxErrors := rx })
    if busOff ∨ old = 1 then t else emcy t 0x8120 0

/-- CAN_RECEIVE_OVERRUN. -/
def canOverrun (s : State) : State := if s.reached .mgmt then emcy s 0x8110 0 else s

/-- ACCESS_LEVEL_TIMEOUT: no expert access for the time set (R346). -/
def levelTimeout (s : State) : State :=
  if s.dict.timeoutS = 0 then s else s.modDict (fun d => { d with accessLevel := 0 })

end Sys2Proof.Machine
end

