-- ==== Sys2Proof/Machine/Dictionary.lean ====
section
/-! DEFINITION. The paths to the dictionary (R341, R355, R360, R361), register writes (R87, R340), and the timers and lines of the
interrupt controller and of AccessLevel. -/

namespace Sys2Proof.Machine

/-- REGISTER_WRITE (R87, R118, R145, R157, R340): an object of the dictionary, or a register of a core-private page. -/
def execRegisterWrite (target : RegTarget) (s : State) : Host.Outcome State Fault Refusal := .next (match target with
    | .object acc index sub value => dictCommand s acc index.toNat sub.toNat value
    | .core g offset value => coreRegister s g.val offset.toNat value.toNat)

/-- USDO_UPLOAD (R355, R360, R361). -/
def execUsdoUpload (path : UsdoPath) (index : BitVec 16) (sub : BitVec 8) (s : State) : Host.Outcome State Fault Refusal :=
  .next (if s.reached (usdoAccessor path).cls then usdoUpload (serveTap s) path index.toNat sub.toNat else s)

/-- USDO_DOWNLOAD (R355, R360, R361). -/
def execUsdoDownload (path : UsdoPath) (index : BitVec 16) (sub : BitVec 8) (expedited : Option Bytes) (s : State) :
    Host.Outcome State Fault Refusal :=
  .next (if s.reached (usdoAccessor path).cls then usdoDownload (serveTap s) path index.toNat sub.toNat expedited else s)

/-- USDO_SEGMENT (R347, R355). -/
def execUsdoSegment (path : UsdoPath) (data : Bytes) (last : Bool) (s : State) : Host.Outcome State Fault Refusal :=
  .next (if s.reached (usdoAccessor path).cls then usdoSegment (serveTap s) path data last else s)

/-- USDO_TIMEOUT (R355). -/
def execUsdoTimeout (path : UsdoPath) (s : State) : Host.Outcome State Fault Refusal :=
  .next (if (s.session (usdoOwner path)).isSome then usdoAbort (dropSession s (usdoOwner path)) path abTimeout else s)

/-- TAP_DICT (R361). -/
def execTapDict (length : BitVec 8) (request : Bytes) (s : State) : Host.Outcome State Fault Refusal :=
  .next (tapDict s length.toNat request)

/-- DICT_RD (R326, R331). A header that is discarded is answered with 0x0609_0030. -/
def execDictRd (h : TxnHdr) (index : BitVec 16) (sub : BitVec 8) (s : State) : Host.Outcome State Fault Refusal := .next (if !s.linkUp then s
    else
      let s := tookTxn s h.cls h.length.toNat
      if !(hdrOk h 1 0 0 true) then dictCpl (hostRefused s) h.tag abRange [] else
      let (t, code, v) := dictRead (serveTap s) { cls := .host, src := 0 } index.toNat sub.toNat
      dictCpl t h.tag code v)

/-- DICT_WR (R326, R331). -/
def execDictWr (h : TxnHdr) (index : BitVec 16) (sub : BitVec 8) (data : Bytes) (s : State) : Host.Outcome State Fault Refusal := .next (if !s.linkUp then s
    else
      let s := tookTxn s h.cls h.length.toNat
      if !(hdrOk h 1 1 256 true) || decide (data.length ≠ h.length.toNat) then dictCpl (hostRefused s) h.tag abRange [] else
      let (t, code) := dictWrite (serveTap s) { cls := .host, src := 0 } index.toNat sub.toNat data []
      dictCpl t h.tag code [])

/-- DICT_REQ (R281, R360): one that was applied before is acknowledged again (R274). -/
def execDictReq (pkt : Packet) (s : State) : Host.Outcome State Fault Refusal := .next (withPacket s pkt 0x0A (fun s => tagged s pkt (ackAgain pkt) (fun s =>
    .ok (usdoServe (serveTap s) (.fabric pkt.src pkt.tag) pkt.payload))))

/-- DICT_RSP (R271, R360): the response acknowledges its request. -/
def execDictRsp (pkt : Packet) (s : State) : Host.Outcome State Fault Refusal := .next (withPacket s pkt 0x0B (fun s =>
    ackPackets s pkt.src.toNat (fun k => decide (k.tag = pkt.tag) && decide (k.typ = 0x0A))))

/-- LINE_ACK (R369). -/
def execLineAck (g : CoreId) (value : BitVec 1) (s : State) : Host.Outcome State Fault Refusal :=
  .next (coreRegister s g.val 0x308 value.toNat)

/-- COALESCE_TIMER (R371). -/
def execCoalesceTimer (dest : BitVec 16) (s : State) : Host.Outcome State Fault Refusal := .next (timerDue s dest.toNat)

/-- ACCESS_LEVEL_TIMEOUT (R346). -/
def execAccessLevelTimeout (s : State) : Host.Outcome State Fault Refusal := .next (levelTimeout s)

end Sys2Proof.Machine
end

