-- ==== Sys2Proof/Machine/Dma.lean ====
section
/-! DEFINITION. The meanings of the DMA engine's instructions and of the patrol scrub (06_memory_system.md). -/

namespace Sys2Proof.Machine

/-- DCOPY (R159). -/
def execDcopy (g : CoreId) (seq : BitVec 64) (det : Detect) (s : State) : Host.Outcome State Fault Refusal :=
  .next (dmaOp 0x80 g seq det s (dcopyBody det g))

/-- DFILL (R159). -/
def execDfill (g : CoreId) (seq : BitVec 64) (det : Detect) (s : State) : Host.Outcome State Fault Refusal :=
  .next (dmaOp 0x81 g seq det s (dfillBody det g))

/-- DHINIT: a checked header image is written, its tag, presence and check cleared (R153, R159). -/
def execDhinit (g : CoreId) (seq : BitVec 64) (det : Detect) (s : State) : Host.Outcome State Fault Refusal :=
  .next (dmaOp 0x82 g seq det s (dhinitBody det g))

/-- DHASH (R156). -/
def execDhash (g : CoreId) (seq : BitVec 64) (det : Detect) (s : State) : Host.Outcome State Fault Refusal :=
  .next (dmaOp 0x83 g seq det s (dhashBody det g))

/-- DINVAL (R151). -/
def execDinval (g : CoreId) (seq : BitVec 64) (det : Detect) (s : State) : Host.Outcome State Fault Refusal :=
  .next (dmaOp 0x84 g seq det s (dinvalBody g))

/-- DHALO (R163). -/
def execDhalo (g : CoreId) (seq : BitVec 64) (det : Detect) (s : State) : Host.Outcome State Fault Refusal :=
  .next (dmaOp 0x85 g seq det s (dhaloBody det g))

/-- PATROL_SCRUB meets an error at a module address: a corrected one is counted and recorded, an uncorrectable one
poisons its block and is recorded; without an error nothing changes (R164, R165, R378, R379). -/
def execPatrolScrub (det : Detect) (s : State) : Host.Outcome State Fault Refusal :=
  .next (
    match det with
    | .memCe a => corrected s { sev := 1, cls := 1, src := 7 } a
    | .memUe a =>
      match s.translate a with
      | none => s
      | some p => fault (s.poisonAt a) (memErrNote s { sev := 3, cls := 2, src := 7 } (.data a p))
    | _ => s)

end Sys2Proof.Machine
end

