-- ==== Sys2Proof/Machine/Drinex.lean ====
section
/-! DEFINITION. The Drinex commands (13_drinex_host_link.md). DICT_RD, DICT_WR and the DrinexCommand rows stand in
DictionaryRows. -/

namespace Sys2Proof.Machine

/-- DRINEX_TRAIN_START: a link that is down trains on all lanes (R320). -/
def execDrinexTrainStart (s : State) : Host.Outcome State Fault Refusal :=
  .next (if s.drinex.st = 0 && s.drinexTrains then drinexTrain s 0xFF false else s)

/-- DRINEX_TRAINED: width, parameter exchange, resume or fresh (R321, R322). The peer's epoch changes nothing here. -/
def execDrinexTrained (lanes : BitVec 8) (_peerEpoch : BitVec 32) (peerLast : BitVec 12) (peerResume : Bool)
    (credP credC credE : Nat) (s : State) : Host.Outcome State Fault Refusal :=
  .next (if s.drinex.st = 1 then drinexUp s lanes peerLast peerResume credP credC credE else s)

/-- DRINEX_LANE_FAIL: a lane fails in UP_X8; the link retrains onto the half that does not hold it (R321). -/
def execDrinexLaneFail (lane : Fin 8) (s : State) : Host.Outcome State Fault Refusal :=
  .next (if s.drinex.st = 2 then drinexTrain s (if lane.val < 4 then 0xF0 else 0x0F) true else s)

/-- DRINEX_DOWN: signal or lock lost on every lane of both halves (R320). -/
def execDrinexDown (s : State) : Host.Outcome State Fault Refusal := .next (drinexDown s)

/-- DRINEX_RETRY_LIMIT: one flit was sent 8 times in a row without acknowledgement (R325). -/
def execDrinexRetryLimit (s : State) : Host.Outcome State Fault Refusal :=
  .next (if s.linkUp && !s.drinex.replay.isEmpty then drinexDown s else s)

/-- DATA_FLIT: accepted in sequence, or discarded; an idle flit carries only acknowledgement and credits (R323, R325). -/
def execDataFlit (f : Flit) (s : State) : Host.Outcome State Fault Refusal :=
  let s := if s.linkUp then countFlit s f else s
  .next (if !s.linkUp then s
    else if !(flitGood f) then badFlit s
    else if f.kind = 1 then takeFlit s f
    else if f.kind ≠ 0 then s
    else if f.seq ≠ s.drinex.rxNext then discardFlit s
    else takeFlit { s with drinex := { s.drinex with rxNext := s.drinex.rxNext + 1, retryTime := none, ackDue := true } } f)

/-- RETRY_REQUEST: every unacknowledged flit from ack_seq + 1 goes out again, in order (R325). -/
def execRetryRequest (f : Flit) (s : State) : Host.Outcome State Fault Refusal :=
  let s := if s.linkUp then countFlit s f else s
  .next (if !s.linkUp then s
    else if !(flitGood f) then badFlit s
    else if f.kind ≠ 2 then s
    else
      let s := takeFlit s f
      let d := s.drinex
      { s with drinex := { d with replays := satAdd d.replays 1 } }.send (.flit 0 (d.rxNext - 1) d.replay))

/-- IDLE_FLIT_TIMER: an acknowledgement or slots owed go out in an idle flit (R325, R328; log entry 151). -/
def execIdleFlitTimer (s : State) : Host.Outcome State Fault Refusal :=
  .next (if s.linkUp && (s.drinex.ackDue || s.drinex.owes) then
    (returnCredits { s with drinex := { s.drinex with ackDue := false } }).send (.flit 1 (s.drinex.rxNext - 1) [])
  else s)

/-- MWR (R326, R329, R332). -/
def execMwr (h : TxnHdr) (address : BitVec 48) (data : Bytes) (det : Detect) (s : State) : Host.Outcome State Fault Refusal :=
  .next (if !s.linkUp then s
    else
      let s := tookTxn s h.cls h.length.toNat
      if !(hdrOk h 0 0 4096 false) || decide (data.length ≠ h.length.toNat) then hostRefused s
      else if s.device ≠ .service then hostRefused s
      else hostStore s address.toNat data det)

/-- MRD, of one slot (R326, R329, R332). A header that is discarded is answered with status 1. -/
def execMrd (h : TxnHdr) (address : BitVec 48) (det : Detect) (s : State) : Host.Outcome State Fault Refusal :=
  .next (if !s.linkUp then s
    else
      let s := tookTxn s h.cls 0
      if !(hdrOk h 1 0 4096 true) then cpl (hostRefused s) h.tag 1 []
      else if s.device = .bootLimited then cpl s h.tag 2 []
      else hostLoad s h.tag address.toNat h.length.toNat det)

/-- DOORBELL (R326, R330, R332). -/
def execDoorbell (h : TxnHdr) (x : CtxId) (q : QueueId) (newTail newRelease : BitVec 64) (s : State) :
    Host.Outcome State Fault Refusal :=
  .next (if !s.linkUp then s
    else
      let s := tookTxn s h.cls h.length.toNat
      if !(hdrOk h 0 16 16 false) || decide (s.device ≠ .service) then hostRefused s
      else hostDoorbell s x q newTail newRelease)

/-- ECHO_ACK (R326, R334). -/
def execEchoAck (h : TxnHdr) (x : CtxId) (q : QueueId) (commitKind : Bool) (seq : BitVec 64) (s : State) :
    Host.Outcome State Fault Refusal :=
  .next (if !s.linkUp then s
    else
      let s := tookTxn s h.cls h.length.toNat
      if !(hdrOk h 3 0 0 false) then hostRefused s
      else takeEchoAck s x q commitKind seq)

end Sys2Proof.Machine
end

