-- ==== Sys2Proof/Machine/Fabric.lean ====
section
/-! DEFINITION. The fabric commands (11_fabric.md): ports, packets at their target, answers at their source, and the
agent's timers. -/

namespace Sys2Proof.Machine

/-! ### Ports (R267 to R269) -/

/-- PORT_TRAIN_START: a port that is down trains, in start-up from step 6 on (R268, R451). -/
def execPortTrainStart (p : Fin 64) (s : State) : Host.Outcome State Fault Refusal :=
  let k := s.port p
  .next (if k.st = 0 && s.portsTrain then setPort s p { k.idle with st := 1, reported := none, plane := none } else s)

/-- PORT_TRAINED: the identity exchange (R267). -/
def execPortTrained (p : Fin 64) (plane : Nat) (switchId : BitVec 32) (switchPort : BitVec 16) (said : SwitchSays) (s : State) :
    Host.Outcome State Fault Refusal :=
  .next (portTrained s p plane switchId switchPort said)

/-- MODULE_ID_ADOPT (R267). -/
def execModuleIdAdopt (s : State) : Host.Outcome State Fault Refusal := .next (adoptId s)

/-- PORT_DOWN (R268); the reason does not change what follows. -/
def execPortDown (p : Fin 64) (_why : PortLoss) (s : State) : Host.Outcome State Fault Refusal := .next (portDown s p)

/-- LINK_CONTROL_FRAME: credits return, and packets that waited for them go out; or the sender resends from a packet count,
and at the eighth time in a row from the same one the port goes down (R268, R269). -/
def execLinkControlFrame (p : Fin 64) (ctl : LinkControl) (s : State) : Host.Outcome State Fault Refusal :=
  let k := s.port p
  .next (if k.st ≠ 2 then s
    else match ctl with
      | .credits vc units =>
        drainPort k.queue.length (setPort s p { k with credits := k.credits.set vc (k.credits.getD vc 0 + units) }) p
      | .resend count =>
        if k.txCount ≤ count then s
        else if k.resent.1 = count ∧ 7 ≤ k.resent.2 then portDown (linkResend s p count) p
        else linkResend s p count)

/-- UNCORRECTABLE_CODEWORD: the count of good packets is sent, and the packets it touches and those that come after them before
the resend, `packets` in all, are discarded (R269). -/
def execUncorrectableCodeword (p : Fin 64) (packets : Nat) (s : State) : Host.Outcome State Fault Refusal :=
  let k := s.port p
  .next (if k.st ≠ 2 then s
    else (setPort s p { k with uncorrectable := satAdd k.uncorrectable 1, discard := packets }).send
      (.linkControl p (.resend k.rxCount)))

/-! ### Packets at their target (R271 to R275) -/

/-- LOAD_REQ. A request that comes again is answered by reading again: its response is its acknowledgement. -/
def execLoadReq (pkt : Packet) (s : State) : Host.Outcome State Fault Refusal :=
  .next (withPacket s pkt 0x01 (fun s => served s pkt
    (fun s => match (serveLoad s pkt).2 with
      | none => (serveLoad s pkt).1
      | some r => nack s pkt r)
    (fun s => serveLoad s pkt)))

/-- STORE: an address and a length that are multiples of 8. -/
def execStore (pkt : Packet) (s : State) : Host.Outcome State Fault Refusal :=
  .next (withPacket s pkt 0x03 (fun s => served s pkt (ackAgain pkt)
    (fun s => if pkt.address.toNat % 8 ≠ 0 then (s, some 6) else serveStore s pkt (pktBody pkt))))

/-- STORE_BYTES: 1 to 56 bytes at any address. -/
def execStoreBytes (pkt : Packet) (s : State) : Host.Outcome State Fault Refusal :=
  .next (withPacket s pkt 0x04 (fun s => served s pkt (ackAgain pkt)
    (fun s => serveStore s pkt ((pkt.payload.drop 8).take (byteAt pkt.payload 0 % 64)))))

/-- SKEIN_ADD. A packet one of whose slots fails R77 has been applied, and is refused with reason 4. -/
def execSkeinAdd (pkt : Packet) (s : State) : Host.Outcome State Fault Refusal :=
  .next (withPacket s pkt 0x05 (fun s =>
    let r := serveSkein s pkt
    let t := tagged s pkt (ackAgain pkt) (fun _ => if r.2.2 then .ok r.1 else .error (r.2.1.getD 6))
    if r.2.2 && r.2.1.isSome && (s.tracker pkt.src.toNat).live && !((s.tracker pkt.src.toNat).seen pkt.tag) &&
      !(stateRefuses s 5) && decide ((pkt.tag - (s.tracker pkt.src.toNat).cum).toNat < 131072) then nack t pkt 4 else t))

/-- INT_ATOMIC. -/
def execIntAtomic (pkt : Packet) (s : State) : Host.Outcome State Fault Refusal :=
  .next (withPacket s pkt 0x06 (fun s => served s pkt (atomicAgain pkt) (fun s => serveAtomic s pkt)))

/-- SIGNAL: its trailer is held until cum passes its tag (R275). -/
def execSignal (pkt : Packet) (s : State) : Host.Outcome State Fault Refusal :=
  .next (withPacket s pkt 0x08 (fun s => tagged s pkt (ackAgain pkt) .ok))

/-- TAIL_SIGNAL_APPLY (R275). -/
def execTailSignalApply (src : BitVec 14) (s : State) : Host.Outcome State Fault Refusal := .next (applyTrailer (endSnapshot s) src)

/-- The plan of a context names a module: a member of a communicator, or the peer of a kind 1 entry (R281). -/
def namesPeer (c : Context) (m : Nat) : Bool :=
  (match c.plan with
   | some p => p.comms.any (fun k => k.members.contains m)
   | none => false) ||
  c.trans.any (fun e => trValid e.2.toNat && trKind e.2.toNat == 1 && trPeerMod e.2.toNat == m)

/-- DOORBELL of a peer (R214, R281). -/
def execFabricDoorbell (pkt : Packet) (s : State) : Host.Outcome State Fault Refusal :=
  .next (withPacket s pkt 0x09 (fun s =>
    let x := byteAt pkt.payload 0
    let q := byteAt pkt.payload 1 % 8
    let k := s.queue x q
    let good := (s.ctx x).peerOpen && k.configured && k.fabric && namesPeer (s.ctx x) pkt.src.toNat
    if good then
      tagged s pkt (ackAgain pkt) (fun s => .ok (ringDoorbell (endSnapshot s) x q (BitVec.ofNat 64 (leAt pkt.payload 8 8))
        (BitVec.ofNat 64 (leAt pkt.payload 16 8))))
    else
      let t := s.tracker pkt.src.toNat
      let r := tagged s pkt (ackAgain pkt) (fun _ => .error 2)
      if t.live && !(t.seen pkt.tag) && !(stateRefuses s 9) && decide ((pkt.tag - t.cum).toNat < 131072) then
        r.modQueue x q (fun k => { k with rejects := satAdd k.rejects 1 })
      else r))

/-- RESYNC at the target: the tracker is discarded with its trailers and cum is the new base (R280, R282). -/
def execResync (pkt : Packet) (s : State) : Host.Outcome State Fault Refusal :=
  .next (withPacket s pkt 0x0E (fun s =>
    let src := pkt.src.toNat
    let t := s.tracker src
    if s.device = .bootLimited then nack s pkt 3
    else if !t.live && !(trackerFree s src) then nack s pkt 5
    else
      let s := s.setTracker src { live := true, cum := pkt.tag }
      let s := { s with fabric := { s.fabric with
        tailInvalid := satAdd s.fabric.tailInvalid t.trailers.length, resyncs := satAdd s.fabric.resyncs 1 } }
      sendAck s src pkt.tag pkt.tag))

/-- ACK_TIMER: tags newly applied are acknowledged (R274). -/
def execAckTimer (src : BitVec 14) (s : State) : Host.Outcome State Fault Refusal :=
  let t := s.tracker src.toNat
  .next (if t.fresh = 0 then s
    else sendAck (s.setTracker src.toNat { t with fresh := 0 }) src.toNat (t.cum - 1) t.cum)

/-- TRACKER_EVICT (R274). -/
def execTrackerEvict (src : BitVec 14) (s : State) : Host.Outcome State Fault Refusal :=
  .next (s.setTracker src.toNat {})

/-! ### Answers at their source (R271, R274, R278 to R280) -/

/-- LOAD_RSP: the bytes go where the request said, and the request is acknowledged (R273). One that does not hold the bytes
requested, padded to 8, is discarded and counted (R270, R271). -/
def execLoadRsp (pkt : Packet) (s : State) : Host.Outcome State Fault Refusal :=
  .next (withPacket s pkt 0x02 (fun s => match s.outPacket pkt.src.toNat pkt.tag with
    | none => s
    | some o =>
      if o.typ = 1 ∧ (pktBody pkt).length ≠ roundUp (leAt o.payload 0 2 % 512) 8 then
        { s with fabric := { s.fabric with crcDiscards := satAdd s.fabric.crcDiscards 1 } }
      else if o.typ = 1 then
        ackPackets (takeLoad s o (pktBody pkt)) pkt.src.toNat (fun k => decide (k.tag = pkt.tag)) else s))

/-- ATOMIC_RSP: it acknowledges the atomic (R271). -/
def execAtomicRsp (pkt : Packet) (s : State) : Host.Outcome State Fault Refusal :=
  .next (withPacket s pkt 0x07 (fun s => ackPackets s pkt.src.toNat (fun k => decide (k.tag = pkt.tag) && decide (k.typ = 6))))

/-- ACK: tags below cum and tags of the bitmap are acknowledged; loads and atomics wait for their responses. The answer to a
RESYNC opens its stream (R271, R274, R280). -/
def execAck (pkt : Packet) (s : State) : Host.Outcome State Fault Refusal :=
  .next (withPacket s pkt 0x0C (fun s =>
    let dst := pkt.src.toNat
    let cum := BitVec.ofNat 32 (leAt pkt.payload 0 4)
    let base := BitVec.ofNat 32 (leAt pkt.payload 4 4)
    let map := leAt pkt.payload 8 8
    let t := s.stream dst
    let s := if t.resyncing && decide (cum = t.next) then
        let s := s.setStream dst { t with resyncing := false, resync := none }
        { s with fabric := { s.fabric with resyncs := satAdd s.fabric.resyncs 1 } }
      else s
    ackPackets s dst (fun o => decide (o.typ ≠ 1) && decide (o.typ ≠ 6) &&
      (decide ((o.tag - cum).toNat ≥ 2 ^ 31) || (decide ((o.tag - base).toNat < 64) && bitAt map (o.tag - base).toNat)))))

/-- NACK (R279, R280). -/
def execNack (pkt : Packet) (s : State) : Host.Outcome State Fault Refusal :=
  .next (withPacket s pkt 0x0D (fun s => takeNack s pkt.src.toNat pkt.tag (byteAt pkt.payload 0)))

/-- NACK_RETRY_AFTER: the packet goes out again (R279). -/
def execNackRetryAfter (dst : BitVec 14) (tag : BitVec 32) (s : State) : Host.Outcome State Fault Refusal :=
  .next (if s.fabric.retryAfter.contains (dst, tag) then
    resend { s with fabric := { s.fabric with retryAfter := s.fabric.retryAfter.filter (fun r => decide (r ≠ (dst, tag))) } }
      dst.toNat tag
  else s)

/-- ROUTE_FAIL of a switch: its plane is unreachable for the destination of the packet it holds, and that packet is sent again
at once (R278). -/
def execRouteFail (pkt : Packet) (s : State) : Host.Outcome State Fault Refusal :=
  .next (withPacket s pkt 0x0F (fun s =>
    let dst := leAt pkt.payload 2 2 % 2 ^ 14
    let tag := BitVec.ofNat 32 (leAt pkt.payload 6 4)
    let plane := pkt.port.val / 8
    let t := s.stream dst
    let s := if t.unreachable.contains plane then s else s.setStream dst { t with unreachable := t.unreachable ++ [plane] }
    resend s dst tag))

/-- PLANE_PROBE: the plane serves the destination again (R278). -/
def execPlaneProbe (dst : BitVec 14) (plane : Fin 8) (s : State) : Host.Outcome State Fault Refusal :=
  let t := s.stream dst.toNat
  .next (s.setStream dst.toNat { t with unreachable := t.unreachable.filter (fun k => decide (k ≠ plane.val)) })

/-- RETRANSMIT_TIMEOUT (R278). -/
def execRetransmitTimeout (dst : BitVec 14) (tag : BitVec 32) (s : State) : Host.Outcome State Fault Refusal :=
  .next (resend s dst.toNat tag)

/-- FABRIC_DEADLINE: the owner of the packet completes with FABRIC_UNREACHABLE, and the stream is abandoned (R280). -/
def execFabricDeadline (dst : BitVec 14) (tag : BitVec 32) (s : State) : Host.Outcome State Fault Refusal :=
  .next (match s.outPacket dst.toNat tag with
    | none => s
    | some p => abandonStream (nackFault s dst.toNat 0x10 tag p.owner) dst.toNat)

/-- RESYNC_RETRY_TIMER: RESYNC goes out once the wait after an abandonment is over, and again, as a retransmission, until the
target acknowledges it (R278, R280). -/
def execResyncRetryTimer (dst : BitVec 14) (s : State) : Host.Outcome State Fault Refusal :=
  let t := s.stream dst.toNat
  .next (if !t.resyncing then s
    else match t.resync with
      | none => beginStream s dst.toNat .command
      | some p => resend s dst.toNat p.tag)

end Sys2Proof.Machine
end

