-- ==== Sys2Proof/Machine/Management.lean ====
section
/-! DEFINITION. The commands of the management bus (14_object_dictionary.md). -/

namespace Sys2Proof.Machine

/-- SWITCH_STATE_GLOBAL (R351). -/
def execSwitchStateGlobal (configuration : Bool) (s : State) : Host.Outcome State Fault Refusal := .next (lssGlobal s configuration)

/-- SWITCH_STATE_SELECTIVE (R351, R424). -/
def execSwitchStateSelective (vendor product revision serial : BitVec 32) (s : State) : Host.Outcome State Fault Refusal :=
  .next (lssSelective s [vendor.toNat, product.toNat, revision.toNat, serial.toNat])

/-- CONFIGURE_NODE_ID (R351). -/
def execConfigureNodeId (node : BitVec 8) (s : State) : Host.Outcome State Fault Refusal := .next (lssNodeId s node.toNat)

/-- CONFIGURE_BIT_TIMING (R351). -/
def execConfigureBitTiming (_table _index : BitVec 8) (s : State) : Host.Outcome State Fault Refusal := .next (lssTiming s)

/-- STORE_CONFIGURATION (R351). -/
def execStoreConfiguration (s : State) : Host.Outcome State Fault Refusal := .next (lssStore s)

/-- INQUIRE_IDENTITY (R351). -/
def execInquireIdentity (which : Fin 5) (s : State) : Host.Outcome State Fault Refusal := .next (lssInquire s which.val)

/-- FASTSCAN (R351). -/
def execFastscan (idNumber : BitVec 32) (bitCheck lssSub lssNext : BitVec 8) (s : State) : Host.Outcome State Fault Refusal :=
  .next (lssFastscan s idNumber.toNat bitCheck.toNat lssSub.toNat lssNext.toNat)

/-- START_REMOTE_NODE (R353). -/
def execStartRemoteNode (node : BitVec 8) (s : State) : Host.Outcome State Fault Refusal := .next (nmtCommand s 0x01 node.toNat)

/-- STOP_REMOTE_NODE (R353). -/
def execStopRemoteNode (node : BitVec 8) (s : State) : Host.Outcome State Fault Refusal := .next (nmtCommand s 0x02 node.toNat)

/-- ENTER_PRE_OPERATIONAL (R353). -/
def execEnterPreOperational (node : BitVec 8) (s : State) : Host.Outcome State Fault Refusal := .next (nmtCommand s 0x80 node.toNat)

/-- RESET_NODE (R353). -/
def execResetNode (node : BitVec 8) (s : State) : Host.Outcome State Fault Refusal := .next (nmtCommand s 0x81 node.toNat)

/-- RESET_COMMUNICATION (R353). -/
def execResetCommunication (node : BitVec 8) (s : State) : Host.Outcome State Fault Refusal := .next (nmtCommand s 0x82 node.toNat)

/-- HEARTBEAT (R354). -/
def execHeartbeat (s : State) : Host.Outcome State Fault Refusal := .next (heartbeatDue s)

/-- EMCY_INHIBIT_TIMER (R357). -/
def execEmcyInhibitTimer (s : State) : Host.Outcome State Fault Refusal := .next (emcyNext s)

/-- TPDO_SAMPLE (R358). -/
def execTpdoSample (s : State) : Host.Outcome State Fault Refusal := .next (tpdoSample s)

/-- TPDO_EVENT_TIMER (R358). -/
def execTpdoEventTimer (n : Fin 8) (s : State) : Host.Outcome State Fault Refusal := .next (tpdoTimer s n.val)

/-- BUS_OFF_RECOVERY (R350). -/
def execBusOffRecovery (s : State) : Host.Outcome State Fault Refusal := .next (busRecovered s)

/-- NODE_ERROR_PASSIVE (R356, R363). -/
def execNodeErrorPassive (busOff : Bool) (tx rx : BitVec 8) (s : State) : Host.Outcome State Fault Refusal :=
  .next (busErrors s busOff tx rx)

/-- CAN_RECEIVE_OVERRUN (R356). -/
def execCanReceiveOverrun (s : State) : Host.Outcome State Fault Refusal := .next (canOverrun s)

end Sys2Proof.Machine
end

