-- ==== Sys2Proof/Machine/Metering.lean ====
section
/-! DEFINITION. The events of the metering unit and of attribution (18_metering.md). -/

namespace Sys2Proof.Machine

/-- REGISTER_COMMIT (R421). -/
def execRegisterCommit (s : State) : Host.Outcome State Fault Refusal := .next (meterTick s)

/-- REFERENCE_DEVIATION (R419). -/
def execReferenceDeviation (away : Bool) (ppm : BitVec 32) (s : State) : Host.Outcome State Fault Refusal :=
  .next (referenceEvent s away ppm.toNat)

/-- METER_CONDITION_CHANGE (R428). -/
def execMeterConditionChange (power away : Bool) (value : BitVec 32) (s : State) : Host.Outcome State Fault Refusal :=
  .next (conditionEvent s power away value.toNat)

/-- READING_DONE (R427). -/
def execReadingDone (s : State) : Host.Outcome State Fault Refusal := .next (readingFinish s)

/-- PERIODIC_READING (R427). -/
def execPeriodicReading (s : State) : Host.Outcome State Fault Refusal := .next (readingPeriodic s)

/-- MIRROR_FRAME (R431). -/
def execMirrorFrame (crcOk : Bool) (item : MirrorItem) (s : State) : Host.Outcome State Fault Refusal :=
  .next (takeMirror s crcOk item)

/-- MIRROR_TIMEOUT: no good dynamic frame for 2 s (R432). -/
def execMirrorTimeout (s : State) : Host.Outcome State Fault Refusal :=
  .next (s.modMeter (fun m => { m with fresh := false }))

/-- METER_NMT_COMMAND (R425). -/
def execMeterNmtCommand (command node : BitVec 8) (s : State) : Host.Outcome State Fault Refusal :=
  .next (meterNmt s command.toNat node.toNat)

/-- METERING_POWER_ON (R428). -/
def execMeteringPowerOn (selfTest : Option Nat) (s : State) : Host.Outcome State Fault Refusal := .next (meterPowerOn s selfTest)

/-- ATTRIBUTION_INTERVAL (R433). -/
def execAttributionInterval (activity : List Activity) (s : State) : Host.Outcome State Fault Refusal :=
  .next (apportion s activity)

end Sys2Proof.Machine
end

