-- ==== Sys2Proof/Machine/Reliability.lean ====
section
/-! DEFINITION. The events of Ephemeris, of the Almanac and of the core rails (16_reliability.md). -/

namespace Sys2Proof.Machine

/-- RETEST: the targeted re-test of a suspect key, once its unit is idle (R391). Which test fails is a free value. -/
def execRetest (key : EphKey) (pass : Bool) (s : State) : Host.Outcome State Fault Refusal :=
  .next (if keyIdle s key then retestResult s.draw key pass ((Config.syndromeBits s.draws).toNat % 4096) else s)

/-- RETEST_DEADLINE: the re-test of a unit that did not become idle; the work of the contexts stopped for it resumes where it was
(R391). -/
def execRetestDeadline (key : EphKey) (pass : Bool) (s : State) : Host.Outcome State Fault Refusal :=
  .next (retestResult s.draw key pass ((Config.syndromeBits s.draws).toNat % 4096))

/-- EPHEMERIS_COMPACT (R385). -/
def execEphemerisCompact (s : State) : Host.Outcome State Fault Refusal := .next (compact s)

/-- HOURS_CHECKPOINT (R386). -/
def execHoursCheckpoint (s : State) : Host.Outcome State Fault Refusal := .next (hoursTick s)

/-- ALMANAC_IDLE_STEP (R390). -/
def execAlmanacIdleStep (g : CoreId) (test : Nat) (pass : Bool) (s : State) : Host.Outcome State Fault Refusal :=
  .next (idleStep s g test pass)

/-- DIP_BEGIN: the core rail of a die falls below 690 mV (R392, R395). -/
def execDipBegin (die : Fin 4) (millivolts : BitVec 16) (s : State) : Host.Outcome State Fault Refusal :=
  .next (if millivolts.toNat < 690 then dipStart s die (coreRail die) millivolts.toNat else s)

/-- DIP_END: the core rail rises above its warning level again (R392). -/
def execDipEnd (die : Fin 4) (minMv : BitVec 16) (nanos : BitVec 32) (s : State) : Host.Outcome State Fault Refusal :=
  .next (dipFinish s die (coreRail die) minMv.toNat nanos.toNat)

/-- DIP_WINDOW_END (R394). -/
def execDipWindowEnd (die : Fin 2) (s : State) : Host.Outcome State Fault Refusal := .next (windowEnd s die)

/-- RAIL_DIP (R440). -/
def execRailDip (rail : Fin 15) (minMv : BitVec 16) (nanos : BitVec 32) (s : State) : Host.Outcome State Fault Refusal :=
  .next (otherDip s rail minMv.toNat nanos.toNat)

/-- CONTROL_CORE_PARITY_ERROR (R378). -/
def execControlCoreParityError (g : CoreId) (s : State) : Host.Outcome State Fault Refusal := .next (controlParity s g)

end Sys2Proof.Machine
end

