-- ==== Sys2Proof/Machine/Resets.lean ====
section
/-! DEFINITION. The events of power, temperature, resets, start-up and pins (19_clocks_power_reset.md; R463). -/

namespace Sys2Proof.Machine

/-- POWER_SAMPLE (R439). -/
def execPowerSample (milliwatts : BitVec 32) (s : State) : Host.Outcome State Fault Refusal := .next (samplePower s milliwatts.toNat)

/-- THERMAL_SAMPLE (R443, R444). -/
def execThermalSample (temps : List (BitVec 16)) (s : State) : Host.Outcome State Fault Refusal := .next (sampleTemps s temps)

/-- REFERENCE_LOSS (R438). -/
def execReferenceLoss (s : State) : Host.Outcome State Fault Refusal := .next (loseReference s)

/-- REFERENCE_WITHIN_LIMITS (R438). -/
def execReferenceWithinLimits (s : State) : Host.Outcome State Fault Refusal := .next (referenceBack s)

/-- INPUT_WARNING (R440). -/
def execInputWarning (away : Bool) (millivolts : BitVec 16) (s : State) : Host.Outcome State Fault Refusal :=
  .next (inputEvent s away millivolts.toNat)

/-- RAIL_RESET_LEVEL (R440, R441). -/
def execRailResetLevel (rail : Fin 15) (s : State) : Host.Outcome State Fault Refusal := .next (railReset s rail)

/-- WARM_RESET (R447). -/
def execWarmReset (why : ResetWhy) (s : State) : Host.Outcome State Fault Refusal := .next (warmReset s why)

/-- WARM_RESET_DRAIN_END (R447). -/
def execWarmResetDrainEnd (s : State) : Host.Outcome State Fault Refusal := .next (drainEnd s)

/-- DIE_RESET (R449). -/
def execDieReset (die : Fin 2) (s : State) : Host.Outcome State Fault Refusal := .next (dieReset s die)

/-- POWER_ON_RESET (R451, R463). -/
def execPowerOnReset (why : ResetWhy) (s : State) : Host.Outcome State Fault Refusal := .next (powerOn s why)

/-- BOOT_STEP_COMPLETE (R451, R452). -/
def execBootStepComplete (report : BootReport) (s : State) : Host.Outcome State Fault Refusal := .next (bootDone s report)

/-- BOOT_STEP_TIMEOUT (R452). -/
def execBootStepTimeout (s : State) : Host.Outcome State Fault Refusal := .next (bootLate s)

/-- JOURNAL_SWEEP (R448). -/
def execJournalSweep (s : State) : Host.Outcome State Fault Refusal := .next (sweep s)

/-- MODULE_RESET_PIN (R463). -/
def execModuleResetPin (s : State) : Host.Outcome State Fault Refusal := .next (resetPinLow s)

/-- MODULE_RESET_N_RISE (R445, R463). -/
def execModuleResetNRise (s : State) : Host.Outcome State Fault Refusal := .next (resetPinHigh s)

/-- POWER_ENABLE_HIGH (R463). -/
def execPowerEnableHigh (s : State) : Host.Outcome State Fault Refusal := .next (enableHigh s)

/-- POWER_ENABLE_LOW (R463). -/
def execPowerEnableLow (s : State) : Host.Outcome State Fault Refusal := .next (enableLow s)

/-- LIFECYCLE_COMMAND_FINISH (R402). -/
def execLifecycleCommandFinish (s : State) : Host.Outcome State Fault Refusal := .next (lifecycleFinish s)

end Sys2Proof.Machine
end

