-- ==== Sys2Proof/Machine/Security.lean ====
section
/-! DEFINITION. The events of firmware update and attestation, and the TAP instructions (17_security_and_firmware.md). -/

namespace Sys2Proof.Machine

/-- FW_ERASE_DONE (R412). -/
def execFwEraseDone (s : State) : Host.Outcome State Fault Refusal := .next (eraseDone s)

/-- ATTEST_DONE (R414). -/
def execAttestDone (s : State) : Host.Outcome State Fault Refusal := .next (attestFinish s)

/-- EXTEST (R416): the pins are driven from the boundary register. -/
def execExtest (cells : BitVec 1184) (s : State) : Host.Outcome State Fault Refusal :=
  .next (if s.pinsFree then tapRun s 0x00 1184 s.sec.boundary.toNat (fun c => { c with boundary := cells, boundaryMode := 1 })
    else tapBypass s 0x00)

/-- SAMPLE/PRELOAD (R416): the pins' values are shifted out and the register loaded. -/
def execSamplePreload (pins cells : BitVec 1184) (s : State) : Host.Outcome State Fault Refusal :=
  .next (tapRun s 0x02 1184 pins.toNat (fun c => { c with boundary := cells, boundaryMode := 0 }))

/-- CLAMP (R416). -/
def execClamp (s : State) : Host.Outcome State Fault Refusal :=
  .next (if s.pinsFree then tapRun s 0x03 1 0 (fun c => { c with boundaryMode := 2 }) else tapBypass s 0x03)

/-- HIGHZ (R416). -/
def execHighz (s : State) : Host.Outcome State Fault Refusal :=
  .next (if s.pinsFree then tapRun s 0x04 1 0 (fun c => { c with boundaryMode := 3 }) else tapBypass s 0x04)

/-- IDCODE (R416). -/
def execIdcode (s : State) : Host.Outcome State Fault Refusal :=
  .next (tapRun s 0x01 32 0x2E001A7F (fun c => { c with boundaryMode := 0 }))

/-- DMI_SELECT (R416): 0 to 191 a control core, 192 and 193 the management cores. -/
def execDmiSelect (value : BitVec 8) (s : State) : Host.Outcome State Fault Refusal :=
  .next (if s.sec.lifecycle ≠ 3 then tapBypass s 0xD8
    else tapRun s 0xD8 8 s.sec.dmiTarget.toNat (fun c =>
      { c with boundaryMode := 0, dmiTarget := if value.toNat ≤ 193 then value else c.dmiTarget }))

/-- DMI (R416): an access of the selected core's debug module, whose answer is open. -/
def execDmi (value : BitVec 41) (s : State) : Host.Outcome State Fault Refusal :=
  .next (if s.sec.lifecycle ≠ 3 then tapBypass s 0xD9
    else tapRun s 0xD9 41 (Config.dmiResponse s.sec.dmiCount s.sec.dmiTarget value).toNat (fun c =>
      { c with boundaryMode := 0, dmiCount := c.dmiCount + 1 }))

/-- SEALED_READ (R416): the 8 bytes at the previous offset come out, the new offset goes in. -/
def execSealedRead (value : BitVec 112) (s : State) : Host.Outcome State Fault Refusal :=
  .next (if s.sec.lifecycle ≠ 3 then tapBypass s 0xDC
    else tapRun s 0xDC 112 (sealedWord s s.sec.sealedOffset.toNat) (fun c =>
      { c with boundaryMode := 0, sealedOffset := BitVec.ofNat 48 (value.toNat % 2 ^ 48 / 8 * 8) }))

/-- BYPASS, and every code that the table does not list (R416). -/
def execBypass (code : BitVec 8) (_bit : BitVec 1) (s : State) : Host.Outcome State Fault Refusal :=
  .next (tapBypass s code.toNat)

end Sys2Proof.Machine
end

