-- ==== Sys2Proof/Machine/Vector.lean ====
section
/-! DEFINITION. The meanings of the vector unit's instructions (05_vector_unit.md). -/

namespace Sys2Proof.Machine

/-- VADD: a + b (R121, R122). -/
def execVadd (g : CoreId) (seq : BitVec 64) (det : Detect) (s : State) : Host.Outcome State Fault Refusal :=
  .next (vectorOp 0x40 g seq det s (elementBody det g))

/-- VSUB: a − b (R121, R122). -/
def execVsub (g : CoreId) (seq : BitVec 64) (det : Detect) (s : State) : Host.Outcome State Fault Refusal :=
  .next (vectorOp 0x41 g seq det s (elementBody det g))

/-- VMUL: a × b (R121, R122). -/
def execVmul (g : CoreId) (seq : BitVec 64) (det : Detect) (s : State) : Host.Outcome State Fault Refusal :=
  .next (vectorOp 0x42 g seq det s (elementBody det g))

/-- VFMA: a × b + c with one rounding (R121, R122). -/
def execVfma (g : CoreId) (seq : BitVec 64) (det : Detect) (s : State) : Host.Outcome State Fault Refusal :=
  .next (vectorOp 0x43 g seq det s (elementBody det g))

/-- VMIN: IEEE 754-2019 minimum (R121). -/
def execVmin (g : CoreId) (seq : BitVec 64) (det : Detect) (s : State) : Host.Outcome State Fault Refusal :=
  .next (vectorOp 0x44 g seq det s (elementBody det g))

/-- VMAX: IEEE 754-2019 maximum (R121). -/
def execVmax (g : CoreId) (seq : BitVec 64) (det : Detect) (s : State) : Host.Outcome State Fault Refusal :=
  .next (vectorOp 0x45 g seq det s (elementBody det g))

/-- VABS: the magnitude of a (R121). -/
def execVabs (g : CoreId) (seq : BitVec 64) (det : Detect) (s : State) : Host.Outcome State Fault Refusal :=
  .next (vectorOp 0x46 g seq det s (elementBody det g))

/-- VNEG: −a (R121). -/
def execVneg (g : CoreId) (seq : BitVec 64) (det : Detect) (s : State) : Host.Outcome State Fault Refusal :=
  .next (vectorOp 0x47 g seq det s (elementBody det g))

/-- VCMPLT: INT8 1 where a < b, else 0 (R121). -/
def execVcmplt (g : CoreId) (seq : BitVec 64) (det : Detect) (s : State) : Host.Outcome State Fault Refusal :=
  .next (vectorOp 0x48 g seq det s (elementBody det g))

/-- VSEL: a where c is not 0, else b (R121). -/
def execVsel (g : CoreId) (seq : BitVec 64) (det : Detect) (s : State) : Host.Outcome State Fault Refusal :=
  .next (vectorOp 0x49 g seq det s (elementBody det g))

/-- VCVT: a converted to out_format (R121, R122). -/
def execVcvt (g : CoreId) (seq : BitVec 64) (det : Detect) (s : State) : Host.Outcome State Fault Refusal :=
  .next (vectorOp 0x4A g seq det s (elementBody det g))

/-- VEXP: e^a, correctly rounded (R123). -/
def execVexp (g : CoreId) (seq : BitVec 64) (det : Detect) (s : State) : Host.Outcome State Fault Refusal :=
  .next (vectorOp 0x50 g seq det s (elementBody det g))

/-- VLOG: ln a, correctly rounded (R123). -/
def execVlog (g : CoreId) (seq : BitVec 64) (det : Detect) (s : State) : Host.Outcome State Fault Refusal :=
  .next (vectorOp 0x51 g seq det s (elementBody det g))

/-- VTANH: tanh a, correctly rounded (R123). -/
def execVtanh (g : CoreId) (seq : BitVec 64) (det : Detect) (s : State) : Host.Outcome State Fault Refusal :=
  .next (vectorOp 0x52 g seq det s (elementBody det g))

/-- VSIGM: 1 / (1 + e^−a), correctly rounded (R123). -/
def execVsigm (g : CoreId) (seq : BitVec 64) (det : Detect) (s : State) : Host.Outcome State Fault Refusal :=
  .next (vectorOp 0x53 g seq det s (elementBody det g))

/-- VRSQRT: 1/√a, correctly rounded (R123). -/
def execVrsqrt (g : CoreId) (seq : BitVec 64) (det : Detect) (s : State) : Host.Outcome State Fault Refusal :=
  .next (vectorOp 0x54 g seq det s (elementBody det g))

/-- VERF: erf a, correctly rounded (R123). -/
def execVerf (g : CoreId) (seq : BitVec 64) (det : Detect) (s : State) : Host.Outcome State Fault Refusal :=
  .next (vectorOp 0x55 g seq det s (elementBody det g))

/-- VDIV: a / b (R121, R122). -/
def execVdiv (g : CoreId) (seq : BitVec 64) (det : Detect) (s : State) : Host.Outcome State Fault Refusal :=
  .next (vectorOp 0x56 g seq det s (elementBody det g))

/-- VSQRT: √a (R121, R122). -/
def execVsqrt (g : CoreId) (seq : BitVec 64) (det : Detect) (s : State) : Host.Outcome State Fault Refusal :=
  .next (vectorOp 0x57 g seq det s (elementBody det g))

/-- VEXPD: e^(a − b), the difference exact (R123). -/
def execVexpd (g : CoreId) (seq : BitVec 64) (det : Detect) (s : State) : Host.Outcome State Fault Refusal :=
  .next (vectorOp 0x58 g seq det s (elementBody det g))

/-- VRSUM: every a(r, n) is added into register red_base + r (R121, R126). -/
def execVrsum (g : CoreId) (seq : BitVec 64) (det : Detect) (s : State) : Host.Outcome State Fault Refusal :=
  .next (vectorOp 0x60 g seq det s (reductionBody det g))

/-- VRSSQ: every a(r, n)² is added (R121, R126). -/
def execVrssq (g : CoreId) (seq : BitVec 64) (det : Detect) (s : State) : Host.Outcome State Fault Refusal :=
  .next (vectorOp 0x61 g seq det s (reductionBody det g))

/-- VRDOT: every a(r, n) × b(r, n) is added (R121, R126). -/
def execVrdot (g : CoreId) (seq : BitVec 64) (det : Detect) (s : State) : Host.Outcome State Fault Refusal :=
  .next (vectorOp 0x62 g seq det s (reductionBody det g))

/-- VRSEXP: every e^(a(r, n) − b(r)), rounded under RNE, is added (R121, R126). -/
def execVrsexp (g : CoreId) (seq : BitVec 64) (det : Detect) (s : State) : Host.Outcome State Fault Refusal :=
  .next (vectorOp 0x63 g seq det s (reductionBody det g))

/-- VRMAX: the maximum of each row (R121, R132). -/
def execVrmax (g : CoreId) (seq : BitVec 64) (det : Detect) (s : State) : Host.Outcome State Fault Refusal :=
  .next (vectorOp 0x64 g seq det s (maxBody det g))

/-- VRDRN: registers are converted and written as one row (R127, R128). -/
def execVrdrn (g : CoreId) (seq : BitVec 64) (det : Detect) (s : State) : Host.Outcome State Fault Refusal :=
  .next (vectorOp 0x68 g seq det s (vrdrnBody det g))

/-- VRSAV: registers are saved (R127). -/
def execVrsav (g : CoreId) (seq : BitVec 64) (det : Detect) (s : State) : Host.Outcome State Fault Refusal :=
  .next (vectorOp 0x69 g seq det s (vrsavBody det g))

/-- VRRST: registers are restored (R127). -/
def execVrrst (g : CoreId) (seq : BitVec 64) (det : Detect) (s : State) : Host.Outcome State Fault Refusal :=
  .next (vectorOp 0x6A g seq det s (vrrstBody det))

/-- VRATM: registers are sent as addends (R127). -/
def execVratm (g : CoreId) (seq : BitVec 64) (det : Detect) (s : State) : Host.Outcome State Fault Refusal :=
  .next (vectorOp 0x6B g seq det s (vratmBody det g))

/-- VRNG: the Philox word of each element (R129). -/
def execVrng (g : CoreId) (seq : BitVec 64) (det : Detect) (s : State) : Host.Outcome State Fault Refusal :=
  .next (vectorOp 0x70 g seq det s (elementBody det g))

/-- VUNI: a uniform FP32 value in [0, 1) (R129). -/
def execVuni (g : CoreId) (seq : BitVec 64) (det : Detect) (s : State) : Host.Outcome State Fault Refusal :=
  .next (vectorOp 0x71 g seq det s (elementBody det g))

/-- VDROP: a × scalar_b or +0 by the element's word (R129). -/
def execVdrop (g : CoreId) (seq : BitVec 64) (det : Detect) (s : State) : Host.Outcome State Fault Refusal :=
  .next (vectorOp 0x72 g seq det s (elementBody det g))

end Sys2Proof.Machine
end

