-- ==== Sys2Proof/Machine/Dispatch.lean ====
section
/-! DEFINITION. The dispatch of a command to its meaning, one arm per constructor of Instr. -/

namespace Sys2Proof.Machine

def exec (i : Instr) (s : State) : Host.Outcome State Fault Refusal :=
  match i with
  | .ringTailWrite u g tail descs => Sys2Proof.Machine.execRingTailWrite u g tail descs s
  | .ringReleaseWrite u g release => Sys2Proof.Machine.execRingReleaseWrite u g release s
  | .descriptorFetch u g det => Sys2Proof.Machine.execDescriptorFetch u g det s
  | .tzro g seq det => Sys2Proof.Machine.execTzro g seq det s
  | .tpre g seq det => Sys2Proof.Machine.execTpre g seq det s
  | .trst g seq det => Sys2Proof.Machine.execTrst g seq det s
  | .tmul g seq beats det => Sys2Proof.Machine.execTmul g seq beats det s
  | .tdrn g seq det => Sys2Proof.Machine.execTdrn g seq det s
  | .tsav g seq det => Sys2Proof.Machine.execTsav g seq det s
  | .tatm g seq det => Sys2Proof.Machine.execTatm g seq det s
  | .tmov g seq det => Sys2Proof.Machine.execTmov g seq det s
  | .tsig g seq => Sys2Proof.Machine.execTsig g seq s
  | .rowFenceRelease g group => Sys2Proof.Machine.execRowFenceRelease g group s
  | .engineRetire u g seq => Sys2Proof.Machine.execEngineRetire u g seq s
  | .captureRead u g => Sys2Proof.Machine.execCaptureRead u g s
  | .numericsClearCounters acc => Sys2Proof.Machine.execNumericsClearCounters acc s
  | .numericsClearFlags acc => Sys2Proof.Machine.execNumericsClearFlags acc s
  | .vecNumericsClear acc => Sys2Proof.Machine.execVecNumericsClear acc s
  | .skeinAtomicApply index det => Sys2Proof.Machine.execSkeinAtomicApply index det s
  | .headerMerge header tag presence => Sys2Proof.Machine.execHeaderMerge header tag presence s
  | .contextSwitch x g => Sys2Proof.Machine.execContextSwitch x g s
  | .contextRestore x g => Sys2Proof.Machine.execContextRestore x g s
  | .sealedSaveSlotsWrite acc slots => Sys2Proof.Machine.execSealedSaveSlotsWrite acc slots s
  | .vadd g seq det => Sys2Proof.Machine.execVadd g seq det s
  | .vsub g seq det => Sys2Proof.Machine.execVsub g seq det s
  | .vmul g seq det => Sys2Proof.Machine.execVmul g seq det s
  | .vfma g seq det => Sys2Proof.Machine.execVfma g seq det s
  | .vmin g seq det => Sys2Proof.Machine.execVmin g seq det s
  | .vmax g seq det => Sys2Proof.Machine.execVmax g seq det s
  | .vabs g seq det => Sys2Proof.Machine.execVabs g seq det s
  | .vneg g seq det => Sys2Proof.Machine.execVneg g seq det s
  | .vcmplt g seq det => Sys2Proof.Machine.execVcmplt g seq det s
  | .vsel g seq det => Sys2Proof.Machine.execVsel g seq det s
  | .vcvt g seq det => Sys2Proof.Machine.execVcvt g seq det s
  | .vexp g seq det => Sys2Proof.Machine.execVexp g seq det s
  | .vlog g seq det => Sys2Proof.Machine.execVlog g seq det s
  | .vtanh g seq det => Sys2Proof.Machine.execVtanh g seq det s
  | .vsigm g seq det => Sys2Proof.Machine.execVsigm g seq det s
  | .vrsqrt g seq det => Sys2Proof.Machine.execVrsqrt g seq det s
  | .verf g seq det => Sys2Proof.Machine.execVerf g seq det s
  | .vdiv g seq det => Sys2Proof.Machine.execVdiv g seq det s
  | .vsqrt g seq det => Sys2Proof.Machine.execVsqrt g seq det s
  | .vexpd g seq det => Sys2Proof.Machine.execVexpd g seq det s
  | .vrsum g seq det => Sys2Proof.Machine.execVrsum g seq det s
  | .vrssq g seq det => Sys2Proof.Machine.execVrssq g seq det s
  | .vrdot g seq det => Sys2Proof.Machine.execVrdot g seq det s
  | .vrsexp g seq det => Sys2Proof.Machine.execVrsexp g seq det s
  | .vrmax g seq det => Sys2Proof.Machine.execVrmax g seq det s
  | .vrdrn g seq det => Sys2Proof.Machine.execVrdrn g seq det s
  | .vrsav g seq det => Sys2Proof.Machine.execVrsav g seq det s
  | .vrrst g seq det => Sys2Proof.Machine.execVrrst g seq det s
  | .vratm g seq det => Sys2Proof.Machine.execVratm g seq det s
  | .vrng g seq det => Sys2Proof.Machine.execVrng g seq det s
  | .vuni g seq det => Sys2Proof.Machine.execVuni g seq det s
  | .vdrop g seq det => Sys2Proof.Machine.execVdrop g seq det s
  | .dcopy g seq det => Sys2Proof.Machine.execDcopy g seq det s
  | .dfill g seq det => Sys2Proof.Machine.execDfill g seq det s
  | .dhinit g seq det => Sys2Proof.Machine.execDhinit g seq det s
  | .dhash g seq det => Sys2Proof.Machine.execDhash g seq det s
  | .dinval g seq det => Sys2Proof.Machine.execDinval g seq det s
  | .dhalo g seq det => Sys2Proof.Machine.execDhalo g seq det s
  | .patrolScrub det => Sys2Proof.Machine.execPatrolScrub det s
  | .create acc sealed peerOpen queues => Sys2Proof.Machine.execCreate acc sealed peerOpen queues s
  | .destroy acc => Sys2Proof.Machine.execDestroy acc s
  | .stop acc => Sys2Proof.Machine.execStop acc s
  | .start acc => Sys2Proof.Machine.execStart acc s
  | .reset acc => Sys2Proof.Machine.execReset acc s
  | .contextResetFinish x => Sys2Proof.Machine.execContextResetFinish x s
  | .peerOpen acc => Sys2Proof.Machine.execPeerOpen acc s
  | .peerClose acc => Sys2Proof.Machine.execPeerClose acc s
  | .queueConfig acc config => Sys2Proof.Machine.execQueueConfig acc config s
  | .queueReset acc => Sys2Proof.Machine.execQueueReset acc s
  | .accept x q => Sys2Proof.Machine.execAccept x q s
  | .acceptAdvance x q => Sys2Proof.Machine.execAcceptAdvance x q s
  | .run x q => Sys2Proof.Machine.execRun x q s
  | .planLoad x q => Sys2Proof.Machine.execPlanLoad x q s
  | .planUnload x q => Sys2Proof.Machine.execPlanUnload x q s
  | .planUnloadTakeEffect x => Sys2Proof.Machine.execPlanUnloadTakeEffect x s
  | .sync x q => Sys2Proof.Machine.execSync x q s
  | .vtSet x q => Sys2Proof.Machine.execVtSet x q s
  | .commit x q => Sys2Proof.Machine.execCommit x q s
  | .commitComplete x q => Sys2Proof.Machine.execCommitComplete x q s
  | .replay x => Sys2Proof.Machine.execReplay x s
  | .cancelCascade x q seq => Sys2Proof.Machine.execCancelCascade x q seq s
  | .snapshotCommand acc => Sys2Proof.Machine.execSnapshotCommand acc s
  | .snapshotDone => Sys2Proof.Machine.execSnapshotDone s
  | .journalRelocate lost => Sys2Proof.Machine.execJournalRelocate lost s
  | .partLost part => Sys2Proof.Machine.execPartLost part s
  | .counterSignal p amount src => Sys2Proof.Machine.execCounterSignal p amount src s
  | .counterWait p waiter => Sys2Proof.Machine.execCounterWait p waiter s
  | .counterGrant p => Sys2Proof.Machine.execCounterGrant p s
  | .cancelMark p => Sys2Proof.Machine.execCancelMark p s
  | .barrierEnter x slot member src => Sys2Proof.Machine.execBarrierEnter x slot member src s
  | .signalCmd acc amount => Sys2Proof.Machine.execSignalCmd acc amount s
  | .debit acc amount => Sys2Proof.Machine.execDebit acc amount s
  | .setProduced acc p => Sys2Proof.Machine.execSetProduced acc p s
  | .setConsumed acc c => Sys2Proof.Machine.execSetConsumed acc c s
  | .setMode acc mode => Sys2Proof.Machine.execSetMode acc mode s
  | .clear acc => Sys2Proof.Machine.execClear acc s
  | .cancel acc => Sys2Proof.Machine.execCancel acc s
  | .upd x q sums det => Sys2Proof.Machine.execUpd x q sums det s
  | .upda x q sums det => Sys2Proof.Machine.execUpda x q sums det s
  | .phaseFlip x => Sys2Proof.Machine.execPhaseFlip x s
  | .watchRecompute g seq det => Sys2Proof.Machine.execWatchRecompute g seq det s
  | .watchClearCounts acc => Sys2Proof.Machine.execWatchClearCounts acc s
  | .watchClearEvents acc => Sys2Proof.Machine.execWatchClearEvents acc s
  | .portTrainStart p => Sys2Proof.Machine.execPortTrainStart p s
  | .portTrained p plane switchId switchPort said => Sys2Proof.Machine.execPortTrained p plane switchId switchPort said s
  | .moduleIdAdopt => Sys2Proof.Machine.execModuleIdAdopt s
  | .portDown p why => Sys2Proof.Machine.execPortDown p why s
  | .portEnable acc => Sys2Proof.Machine.execPortEnable acc s
  | .portDisable acc => Sys2Proof.Machine.execPortDisable acc s
  | .portRetrain acc => Sys2Proof.Machine.execPortRetrain acc s
  | .linkControlFrame p ctl => Sys2Proof.Machine.execLinkControlFrame p ctl s
  | .loadReq pkt => Sys2Proof.Machine.execLoadReq pkt s
  | .loadRsp pkt => Sys2Proof.Machine.execLoadRsp pkt s
  | .store pkt => Sys2Proof.Machine.execStore pkt s
  | .storeBytes pkt => Sys2Proof.Machine.execStoreBytes pkt s
  | .skeinAdd pkt => Sys2Proof.Machine.execSkeinAdd pkt s
  | .intAtomic pkt => Sys2Proof.Machine.execIntAtomic pkt s
  | .atomicRsp pkt => Sys2Proof.Machine.execAtomicRsp pkt s
  | .signal pkt => Sys2Proof.Machine.execSignal pkt s
  | .tailSignalApply src => Sys2Proof.Machine.execTailSignalApply src s
  | .fabricDoorbell pkt => Sys2Proof.Machine.execFabricDoorbell pkt s
  | .dictReq pkt => Sys2Proof.Machine.execDictReq pkt s
  | .dictRsp pkt => Sys2Proof.Machine.execDictRsp pkt s
  | .ack pkt => Sys2Proof.Machine.execAck pkt s
  | .nack pkt => Sys2Proof.Machine.execNack pkt s
  | .resync pkt => Sys2Proof.Machine.execResync pkt s
  | .routeFail pkt => Sys2Proof.Machine.execRouteFail pkt s
  | .retransmitTimeout dst tag => Sys2Proof.Machine.execRetransmitTimeout dst tag s
  | .fabricDeadline dst tag => Sys2Proof.Machine.execFabricDeadline dst tag s
  | .resyncRetryTimer dst => Sys2Proof.Machine.execResyncRetryTimer dst s
  | .ackTimer src => Sys2Proof.Machine.execAckTimer src s
  | .trackerEvict src => Sys2Proof.Machine.execTrackerEvict src s
  | .planeProbe dst plane => Sys2Proof.Machine.execPlaneProbe dst plane s
  | .transitUp f => Sys2Proof.Machine.execTransitUp f s
  | .transitDown f => Sys2Proof.Machine.execTransitDown f s
  | .abort f => Sys2Proof.Machine.execAbort f s
  | .rerun f => Sys2Proof.Machine.execRerun f s
  | .credit f => Sys2Proof.Machine.execCredit f s
  | .chunkCombine comm seq chunk det => Sys2Proof.Machine.execChunkCombine comm seq chunk det s
  | .slotWaitTimeout comm seq => Sys2Proof.Machine.execSlotWaitTimeout comm seq s
  | .transitTimeout comm seq round index => Sys2Proof.Machine.execTransitTimeout comm seq round index s
  | .collectiveDeadline comm seq => Sys2Proof.Machine.execCollectiveDeadline comm seq s
  | .drinexTrainStart => Sys2Proof.Machine.execDrinexTrainStart s
  | .drinexTrained lanes peerEpoch peerLast peerResume credP credC credE => Sys2Proof.Machine.execDrinexTrained lanes peerEpoch peerLast peerResume credP credC credE s
  | .drinexLaneFail lane => Sys2Proof.Machine.execDrinexLaneFail lane s
  | .drinexDown => Sys2Proof.Machine.execDrinexDown s
  | .drinexRetryLimit => Sys2Proof.Machine.execDrinexRetryLimit s
  | .dataFlit f => Sys2Proof.Machine.execDataFlit f s
  | .retryRequest f => Sys2Proof.Machine.execRetryRequest f s
  | .idleFlitTimer => Sys2Proof.Machine.execIdleFlitTimer s
  | .drinexEnable acc => Sys2Proof.Machine.execDrinexEnable acc s
  | .drinexDisable acc => Sys2Proof.Machine.execDrinexDisable acc s
  | .drinexRetrain acc => Sys2Proof.Machine.execDrinexRetrain acc s
  | .mwr h address data det => Sys2Proof.Machine.execMwr h address data det s
  | .mrd h address det => Sys2Proof.Machine.execMrd h address det s
  | .doorbell h x q newTail newRelease => Sys2Proof.Machine.execDoorbell h x q newTail newRelease s
  | .dictRd h index sub => Sys2Proof.Machine.execDictRd h index sub s
  | .dictWr h index sub data => Sys2Proof.Machine.execDictWr h index sub data s
  | .echoAck h x q commitKind seq => Sys2Proof.Machine.execEchoAck h x q commitKind seq s
  | .accessLevelWrite acc value => Sys2Proof.Machine.execAccessLevelWrite acc value s
  | .accessLevelTimeout => Sys2Proof.Machine.execAccessLevelTimeout s
  | .registerWrite target => Sys2Proof.Machine.execRegisterWrite target s
  | .usdoUpload path index sub => Sys2Proof.Machine.execUsdoUpload path index sub s
  | .usdoDownload path index sub expedited => Sys2Proof.Machine.execUsdoDownload path index sub expedited s
  | .usdoSegment path data last => Sys2Proof.Machine.execUsdoSegment path data last s
  | .usdoTimeout path => Sys2Proof.Machine.execUsdoTimeout path s
  | .tapDict length request => Sys2Proof.Machine.execTapDict length request s
  | .switchStateGlobal configuration => Sys2Proof.Machine.execSwitchStateGlobal configuration s
  | .switchStateSelective vendor product revision serial => Sys2Proof.Machine.execSwitchStateSelective vendor product revision serial s
  | .configureNodeId node => Sys2Proof.Machine.execConfigureNodeId node s
  | .configureBitTiming table index => Sys2Proof.Machine.execConfigureBitTiming table index s
  | .storeConfiguration => Sys2Proof.Machine.execStoreConfiguration s
  | .inquireIdentity which => Sys2Proof.Machine.execInquireIdentity which s
  | .fastscan idNumber bitCheck lssSub lssNext => Sys2Proof.Machine.execFastscan idNumber bitCheck lssSub lssNext s
  | .startRemoteNode node => Sys2Proof.Machine.execStartRemoteNode node s
  | .stopRemoteNode node => Sys2Proof.Machine.execStopRemoteNode node s
  | .enterPreOperational node => Sys2Proof.Machine.execEnterPreOperational node s
  | .resetNode node => Sys2Proof.Machine.execResetNode node s
  | .resetCommunication node => Sys2Proof.Machine.execResetCommunication node s
  | .heartbeat => Sys2Proof.Machine.execHeartbeat s
  | .emcyInhibitTimer => Sys2Proof.Machine.execEmcyInhibitTimer s
  | .errorHistoryClear acc value => Sys2Proof.Machine.execErrorHistoryClear acc value s
  | .tpdoSample => Sys2Proof.Machine.execTpdoSample s
  | .tpdoEventTimer n => Sys2Proof.Machine.execTpdoEventTimer n s
  | .busOffRecovery => Sys2Proof.Machine.execBusOffRecovery s
  | .irqPendingClear acc bits => Sys2Proof.Machine.execIrqPendingClear acc bits s
  | .irqPendingSet acc bits => Sys2Proof.Machine.execIrqPendingSet acc bits s
  | .irqSourceRoute acc value => Sys2Proof.Machine.execIrqSourceRoute acc value s
  | .coalesceLimitWrite acc time value => Sys2Proof.Machine.execCoalesceLimitWrite acc time value s
  | .coalesceTimer dest => Sys2Proof.Machine.execCoalesceTimer dest s
  | .lineAck g value => Sys2Proof.Machine.execLineAck g value s
  | .retest key pass => Sys2Proof.Machine.execRetest key pass s
  | .retestDeadline key pass => Sys2Proof.Machine.execRetestDeadline key pass s
  | .ephemerisCompact => Sys2Proof.Machine.execEphemerisCompact s
  | .hoursCheckpoint => Sys2Proof.Machine.execHoursCheckpoint s
  | .almanacLoad acc address => Sys2Proof.Machine.execAlmanacLoad acc address s
  | .almanacIdleOn acc => Sys2Proof.Machine.execAlmanacIdleOn acc s
  | .almanacIdleOff acc => Sys2Proof.Machine.execAlmanacIdleOff acc s
  | .runScheduled acc scope failures => Sys2Proof.Machine.execRunScheduled acc scope failures s
  | .almanacUnload acc => Sys2Proof.Machine.execAlmanacUnload acc s
  | .almanacIdleStep g test pass => Sys2Proof.Machine.execAlmanacIdleStep g test pass s
  | .dipBegin die millivolts => Sys2Proof.Machine.execDipBegin die millivolts s
  | .dipEnd die minMv nanos => Sys2Proof.Machine.execDipEnd die minMv nanos s
  | .dipWindowEnd die => Sys2Proof.Machine.execDipWindowEnd die s
  | .provision acc => Sys2Proof.Machine.execProvision acc s
  | .deploy acc => Sys2Proof.Machine.execDeploy acc s
  | .debugEnter acc => Sys2Proof.Machine.execDebugEnter acc s
  | .debugExit acc => Sys2Proof.Machine.execDebugExit acc s
  | .decommission acc operand => Sys2Proof.Machine.execDecommission acc operand s
  | .debugNonceRead acc => Sys2Proof.Machine.execDebugNonceRead acc s
  | .stageChunkWrite acc chunk => Sys2Proof.Machine.execStageChunkWrite acc chunk s
  | .keyStore acc slot => Sys2Proof.Machine.execKeyStore acc slot s
  | .certStore acc => Sys2Proof.Machine.execCertStore acc s
  | .fwBegin acc image total => Sys2Proof.Machine.execFwBegin acc image total s
  | .fwEraseDone => Sys2Proof.Machine.execFwEraseDone s
  | .fwUpdateData acc data => Sys2Proof.Machine.execFwUpdateData acc data s
  | .fwVerify acc => Sys2Proof.Machine.execFwVerify acc s
  | .fwActivate acc mask => Sys2Proof.Machine.execFwActivate acc mask s
  | .fwAbort acc => Sys2Proof.Machine.execFwAbort acc s
  | .commitVersion acc mask => Sys2Proof.Machine.execCommitVersion acc mask s
  | .revert acc mask => Sys2Proof.Machine.execRevert acc mask s
  | .overrideArm acc => Sys2Proof.Machine.execOverrideArm acc s
  | .overrideDisarm acc => Sys2Proof.Machine.execOverrideDisarm acc s
  | .attestNonce acc nonce => Sys2Proof.Machine.execAttestNonce acc nonce s
  | .attestDone => Sys2Proof.Machine.execAttestDone s
  | .extest cells => Sys2Proof.Machine.execExtest cells s
  | .samplePreload pins cells => Sys2Proof.Machine.execSamplePreload pins cells s
  | .clamp => Sys2Proof.Machine.execClamp s
  | .highz => Sys2Proof.Machine.execHighz s
  | .idcode => Sys2Proof.Machine.execIdcode s
  | .dmiSelect value => Sys2Proof.Machine.execDmiSelect value s
  | .dmi value => Sys2Proof.Machine.execDmi value s
  | .sealedRead value => Sys2Proof.Machine.execSealedRead value s
  | .bypass code bit => Sys2Proof.Machine.execBypass code bit s
  | .registerCommit => Sys2Proof.Machine.execRegisterCommit s
  | .referenceDeviation away ppm => Sys2Proof.Machine.execReferenceDeviation away ppm s
  | .meterConditionChange power away value => Sys2Proof.Machine.execMeterConditionChange power away value s
  | .readingNonce acc nonce => Sys2Proof.Machine.execReadingNonce acc nonce s
  | .readingDone => Sys2Proof.Machine.execReadingDone s
  | .periodicReading => Sys2Proof.Machine.execPeriodicReading s
  | .mirrorFrame crcOk item => Sys2Proof.Machine.execMirrorFrame crcOk item s
  | .mirrorTimeout => Sys2Proof.Machine.execMirrorTimeout s
  | .meterNmtCommand command node => Sys2Proof.Machine.execMeterNmtCommand command node s
  | .meterFwBegin acc bytes => Sys2Proof.Machine.execMeterFwBegin acc bytes s
  | .meterFwData acc data => Sys2Proof.Machine.execMeterFwData acc data s
  | .meterFwActivate acc => Sys2Proof.Machine.execMeterFwActivate acc s
  | .meterFwAbort acc => Sys2Proof.Machine.execMeterFwAbort acc s
  | .attributionInterval activity => Sys2Proof.Machine.execAttributionInterval activity s
  | .attributionClear acc => Sys2Proof.Machine.execAttributionClear acc s
  | .powerSample milliwatts => Sys2Proof.Machine.execPowerSample milliwatts s
  | .thermalSample temps => Sys2Proof.Machine.execThermalSample temps s
  | .referenceLoss => Sys2Proof.Machine.execReferenceLoss s
  | .inputWarning away millivolts => Sys2Proof.Machine.execInputWarning away millivolts s
  | .railResetLevel rail => Sys2Proof.Machine.execRailResetLevel rail s
  | .railDip rail minMv nanos => Sys2Proof.Machine.execRailDip rail minMv nanos s
  | .warmResetCommand acc => Sys2Proof.Machine.execWarmResetCommand acc s
  | .dieResetCommand acc die => Sys2Proof.Machine.execDieResetCommand acc die s
  | .warmReset why => Sys2Proof.Machine.execWarmReset why s
  | .warmResetDrainEnd => Sys2Proof.Machine.execWarmResetDrainEnd s
  | .dieReset die => Sys2Proof.Machine.execDieReset die s
  | .powerOnReset why => Sys2Proof.Machine.execPowerOnReset why s
  | .bootStepComplete report => Sys2Proof.Machine.execBootStepComplete report s
  | .bootStepTimeout => Sys2Proof.Machine.execBootStepTimeout s
  | .journalSweep => Sys2Proof.Machine.execJournalSweep s
  | .moduleResetPin => Sys2Proof.Machine.execModuleResetPin s
  | .powerEnableHigh => Sys2Proof.Machine.execPowerEnableHigh s
  | .powerEnableLow => Sys2Proof.Machine.execPowerEnableLow s
  | .uncorrectableCodeword p packets => Sys2Proof.Machine.execUncorrectableCodeword p packets s
  | .nackRetryAfter dst tag => Sys2Proof.Machine.execNackRetryAfter dst tag s
  | .controlCoreParityError g => Sys2Proof.Machine.execControlCoreParityError g s
  | .referenceWithinLimits => Sys2Proof.Machine.execReferenceWithinLimits s
  | .moduleResetNRise => Sys2Proof.Machine.execModuleResetNRise s
  | .lifecycleCommandFinish => Sys2Proof.Machine.execLifecycleCommandFinish s
  | .journalRelocationComplete => Sys2Proof.Machine.execJournalRelocationComplete s
  | .nodeErrorPassive busOff tx rx => Sys2Proof.Machine.execNodeErrorPassive busOff tx rx s
  | .canReceiveOverrun => Sys2Proof.Machine.execCanReceiveOverrun s
  | .meteringPowerOn selfTest => Sys2Proof.Machine.execMeteringPowerOn selfTest s

end Sys2Proof.Machine
end

