-- ==== Sys2Proof/Machine/Step.lean ====
section
/-! DEFINITION. One step of the block: the command at the front of the queue, or an idle tick of CLKC. -/

namespace Sys2Proof.Machine

/-- One step. The command at the front of the queue runs on the state with the queue's rest; with nothing waiting the
block is quiet: a DEBUG request is served and CLKC counts once (R341, R382; DESIGN CHOICE, log entry 2). -/
def step (s : State) : Host.Outcome State Fault Refusal :=
  match s.pending with
  | [] => .next (quiet s)
  | c :: rest => exec c { s with pending := rest }

/-- The table gives no bits to any command, so no word spells one: the state stays (log entry 1). -/
def State.withFetchWord (s : State) (_nbits _w : Nat) : State := s

end Sys2Proof.Machine
end

