-- ==== Sys2Proof/WellFormed.lean ====
section
/-! DEFINITION. Which operands a sender can put into a command: the lengths that the rules of spec/ give its fields. -/

namespace Sys2Proof

/-- A packet as it comes over the wire: at most 384 payload bytes in whole units of 8 (R270). -/
def Packet.wf (p : Packet) : Bool := decide (p.payload.length ≤ 384) && decide (p.payload.length % 8 = 0)

/-- A Transit frame: at most 64 payload bytes in whole units of 8 (R305). -/
def Frame.wf (f : Frame) : Bool := decide (f.payload.length ≤ 64) && decide (f.payload.length % 8 = 0)

/-- The sums that reach an update name each element once, in ascending order (R246). -/
def sumsWf : List SentSum → Bool
  | a :: b :: l => decide (a.lin < b.lin) && sumsWf (b :: l)
  | _ => true

/-- A command a sender can put together. -/
def Instr.wf : Instr → Bool
  | .ringTailWrite _ _ _ descs => descs.all (fun d => decide (d.length = 128))
  | .tmul _ _ beats _ => decide (beats ≠ some 0)
  | .queueConfig _ config => decide (config.length = 32)
  | .upd _ _ sums _ => sumsWf sums
  | .upda _ _ sums _ => sumsWf sums
  | .portTrained _ _ _ _ said => decide (said.credits.length = 4)
  | .loadReq pkt => pkt.wf
  | .loadRsp pkt => pkt.wf
  | .store pkt => pkt.wf
  | .storeBytes pkt => pkt.wf
  | .skeinAdd pkt => pkt.wf
  | .intAtomic pkt => pkt.wf
  | .atomicRsp pkt => pkt.wf
  | .signal pkt => pkt.wf
  | .fabricDoorbell pkt => pkt.wf
  | .dictReq pkt => pkt.wf
  | .dictRsp pkt => pkt.wf
  | .ack pkt => pkt.wf
  | .nack pkt => pkt.wf
  | .resync pkt => pkt.wf
  | .routeFail pkt => pkt.wf
  | .transitUp f => f.wf
  | .transitDown f => f.wf
  | .abort f => f.wf
  | .rerun f => f.wf
  | .credit f => f.wf
  | .mwr _ _ data _ => decide (data.length ≤ 4096)
  | .dictWr _ _ _ data => decide (data.length ≤ 256)
  | .tapDict _ request => decide (request.length ≤ 64)
  | .irqPendingClear _ bits => decide (bits.length = 128)
  | .irqPendingSet _ bits => decide (bits.length = 128)
  | .thermalSample temps => decide (temps.length = 64)
  | .bootStepComplete r => decide (r.spd.length ≤ 8)
  | .stageChunkWrite _ chunk => decide (chunk.length = 256)
  | .fwUpdateData _ data => decide (data.length ≤ 256)
  | .attestNonce _ nonce => decide (nonce.length = 32)
  | .readingNonce _ nonce => decide (nonce.length = 32)
  | .meterFwData _ data => decide (data.length ≤ 256)
  | _ => true

end Sys2Proof
end

