-- ==== Sys2Proof/Safety.lean ====
section
/-! DEFINITION. The terms that claims about the block are stated in: an answer with a property, the canonical form of memory,
and the conditions and outcomes that the rules of spec/ speak of. -/

namespace Sys2Proof.Machine

/-- A meaning goes on, into a state with the property. -/
def Goes (o : Host.Outcome State Fault Refusal) (P : State → Prop) : Prop := ∃ t, o = .next t ∧ P t

/-- Memory is in canonical form: listed addresses strictly rise and no listed byte is the 0 that an unlisted one reads as. -/
def Memory.wf (m : Memory) : Bool := smWf 0#8 m.cells

/-- The tables that keyed parts of the state are read from are in canonical form, memory among them. -/
def State.wf (s : State) : Bool :=
  s.mem.wf && smWf {} s.cores && smWf {} s.counters && smWf {} s.contexts && smWf {} s.sources && smWf {} s.dests &&
  smWf {} s.power.dips && smWf {} s.fabric.ports && smWf {} s.fabric.streams && smWf {} s.fabric.trackers && smWf {} s.coll.instances &&
  s.cores.all (fun c => smWf 0 c.2.fences)

/-! ### Instructions of the units (R105 to R107) -/

/-- A detection that acts while the command runs, or none (R378): those of memory and of the shared cache act before it. -/
def inRun (d : Detect) : Bool :=
  match d with
  | .memUe _ => false
  | .memCe _ => false
  | .cacheUe _ => false
  | _ => true

/-- What an instruction runs on as it issues: memory and its core as they are, and what its entry holds from earlier beats. -/
def startRun (s : State) (g : Nat) (e : WinEntry) : Run :=
  { mem := s.mem, core := s.core g, pos := e.beats, event := e.event, invalid := e.flags.getLsbD 0
    ovf := e.flags.getLsbD 1, trunc := e.flags.getLsbD 2 }

/-- An instruction of a unit has been dispatched under its opcode, its turn has come (R106), its wait is over (R186), it has no space
to reserve for its signal (R189), and fence_all does not hold it (R72); no other instruction of the unit carries its seq. -/
def Dispatched (s : State) (u : UnitKind) (op : Nat) (g : CoreId) (seq : BitVec 64) (e : WinEntry) : Bool :=
  s.wf && decide (findEntry (s.unitOf u g).window seq = some e) &&
  (s.unitOf u g).window.all (fun x => decide (x.seq ≠ seq) || decide (x = e)) && decide (dOpcode e.desc = op) && !(s.unitOf u g).stopped &&
  s.present g && decide (e.status = 0) && (decide (e.phase = .waiting) || decide (e.phase = .running)) && orderOk s u g (s.unitOf u g).window e &&
  decide (waitOf s g u e = .ready) &&
  !(needsReserve s g e) &&
  (!(dFence e.desc) || (earlier (s.unitOf u g).window seq).all (fun x => decide (x.phase = .retired)))

/-- The instruction has issued with the outcome of its run: memory and addends are the run's, its entry has the phase and
status, and no other core and nothing else of the state has changed but the count of failed slots. -/
def Issued (s t : State) (u : UnitKind) (g : CoreId) (seq : BitVec 64) (e : WinEntry) (r : Run) (ph : Phase) : Prop :=
  t.mem = r.mem ∧ t.addends = s.addends ++ r.addends ∧
  (∃ e', findEntry (t.unitOf u g).window seq = some e' ∧ e'.phase = ph ∧ e'.status = BitVec.ofNat 16 r.status ∧
    e'.beats = r.pos ∧ e'.desc = e.desc) ∧
  (t.core g).skein = r.core.skein ∧ (t.core g).tags = r.core.tags ∧ (t.core g).red = r.core.red ∧
  (∀ h, h ≠ g.val → t.core h = s.core h) ∧
  { t with mem := s.mem, addends := s.addends, cores := s.cores, rel := s.rel } = s

/-- A run that ends without a fault record and sends no packet. -/
def Run.plain (r : Run) : Prop := r.notes = [] ∧ r.packets = []

/-! ### Accesses to the dictionary (R341, R342) -/

/-- A write of an object of the module's dictionary arrives and passes the checks of path, existence, level, right and state; no
DEBUG request waits before it. -/
def Admitted (s : State) (acc : Accessor) (idx sub : Nat) : Bool :=
  s.reached acc.cls && decide (acc.cls ≠ .metro) && decide (s.dict.tapRequest = none) &&
  (match checkAccess (touchSelects s acc) acc.cls true idx sub with
   | .ok _ => true
   | .error _ => false)

/-- The outcome of a command that was accepted: the state, with the reply that carries abort code 0. -/
def Replied (acc : Accessor) (t : State) : Host.Outcome State Fault Refusal := .next (t.send (.dictReply acc.cls 0 []))


/-- An access that was accepted: its reply with abort code 0, on a state with the property. -/
def Answered (o : Host.Outcome State Fault Refusal) (acc : Accessor) (P : State → Prop) : Prop := ∃ u, o = Replied acc u ∧ P u

/-! ### Host descriptors (R216, R217) -/

/-- A host descriptor that the module has taken up for its dispatch. -/
def State.taken (s : State) (x q : Nat) (d : HostDesc) : State :=
  (s.modDesc x q d.seq (fun k => { k with phase := .waiting })).modDesc x q d.seq
    (fun k => { k with granted := k.granted || dWaitEn k.bytes })

/-- The first undispatched descriptor of a queue has the opcode and meets every condition for its dispatch: its context's state
dispatches it, its fence, its wait and no cascade hold it, no snapshot is under way, and its fields are in order (R208, R216,
R217, R233, R236). -/
def HostReady (s : State) (x : CtxId) (q : QueueId) (op : Nat) (d : HostDesc) : Bool :=
  decide ((s.queue x q).descs.find? (·.undispatched) = some d) && decide (byteAt d.bytes 8 = op) &&
  decide (s.device ≠ .bootLimited) && !s.queueObjs.snapBusy && stateDispatches (s.ctx x) q d &&
  (!(dFence d.bytes) || decide ((s.queue x q).descs.head?.map (·.seq) = some d.seq)) && !(cascadeHolds (s.ctx x) d) &&
  hostReservedOk d.bytes &&
  syncFieldsOk s x 576 (dWaitEn d.bytes) (dWaitVid d.bytes) (dSigEn d.bytes) (dSigVid d.bytes) (dSigAmt d.bytes) &&
  decide (hostWait (s.taken x q d) x d = .ready)

/-- The descriptor has dispatched, and its work has ended with a status that its commit will carry. -/
def HostDone (t : State) (x : CtxId) (q : QueueId) (d : HostDesc) (st : BitVec 16) : Prop :=
  ∃ e, t.desc? x q d.seq = some e ∧ e.phase = .dispatched ∧ e.outcomes = [st] ∧ e.workDone = true


/-! ### Packets and frames (R270, R274) -/

/-- A packet of a type reaches the module over a port that is up and discards nothing, or from itself, and passes the checks of R270 and R271. -/
def Arrives (s : State) (p : Packet) (typ : Nat) : Bool :=
  decide (s.fabric.moduleId = some p.dst) && (decide (s.fabric.moduleId = some p.src) || (decide ((s.port p.port).st = 2) && decide ((s.port p.port).discard = 0))) &&
  p.crcOk && decide (p.typ.toNat = typ) && decide (p.units.toNat ≤ 48) && decide (p.units.toNat * 8 = p.payload.length) &&
  payloadOk p

/-- The state with the packet taken in at its port, unless it is the module's own (R269, R272). -/
def State.arrived (s : State) (p : Packet) : State :=
  if s.fabric.moduleId = some p.src then s else takeIn s p.port p

/-- A request that its source's tracker has not applied and that lies in its window; the module's state takes every type but, in
Quiesced, new data and doorbells (R274, R282). -/
def FreshRequest (s : State) (p : Packet) : Bool :=
  (s.tracker p.src.toNat).live && !((s.tracker p.src.toNat).seen p.tag) &&
  decide ((p.tag - (s.tracker p.src.toNat).cum).toNat < 131072) && decide (s.device ≠ .bootLimited) && !(stateRefuses s p.typ.toNat)

/-- The stream to a module has begun and nothing waits in it. -/
def StreamIdle (s : State) (dst : Nat) : Bool := (s.stream dst).begun && (s.stream dst).waiting.isEmpty

/-- A Transit frame with a good CRC is for this module and from a member of its communicator, which a context holds, while no
snapshot is under way (R236, R305). -/
def FrameArrives (s : State) (f : Frame) (x : Nat) (c : Comm) : Bool :=
  f.crcOk && !s.queueObjs.snapBusy && decide (s.fabric.moduleId = some f.dst) && decide (s.commOf f.comm = some (x, c)) && c.members.contains f.src.toNat

/-- The RUN of an instance stands dispatched in a queue of its context, and no PERMUTE of that context uses the instance. -/
def RunOf (s : State) (i : Instance) (q : Nat) (e : HostDesc) : Prop :=
  i.desc = some (q, e.seq) ∧ q < 8 ∧ s.desc? i.ctx q e.seq = some e ∧ e.phase = .dispatched ∧
    (s.ctx i.ctx).permute ≠ some (i.commId, i.seq)

/-- The RUN of an instance has met a status, and its part of the call has ended. -/
def RunMet (t : State) (i : Instance) (q : Nat) (e : HostDesc) (st : BitVec 16) : Prop :=
  ∃ e', t.desc? i.ctx q e.seq = some e' ∧ e'.outcomes = e.outcomes ++ [st] ∧ e'.workDone = true ∧ e'.released = true

end Sys2Proof.Machine
end

