-- ==== Sys2Proof/Certificates/Slice0/Obligations.lean ====
section
/-! DEFINITION. The statements about the block, one definition each, for the provers. -/

open Sys2Proof Sys2Proof.Machine

/-! ### Rings and instructions of the units (03, 04, 05, 06) -/

/-- R87, R88, R146: a fetch takes the descriptor at the head, gives it the next sequence number and advances both; nothing is fetched from an empty
ring, by a stopped unit, or while the completion ring has no released slot; firmware stores descriptors and moves the tail, and a release index
moves only over records already written. The model's choices in it: log entry 73. -/
def Obligations.RingsFetchAndMove : Prop :=
  (∀ (s : State) (u : UnitKind) (g : CoreId) (det : Detect) (d : Bytes),
       let r := s.unitOf u g
       inRun det = true → (∀ p, det ≠ .parity p) →
       r.stopped = false → s.present g = true → r.head ≠ r.tail →
       (r.head - r.release).toNat < 2 ^ r.log2.toNat →
       readMem s s.mem 128 (localBase g + r.base.toNat + r.head.toNat % 2 ^ r.log2.toNat * 128) = .ok d →
       Goes (exec (.descriptorFetch u g det) s) (fun t =>
         (t.unitOf u g).head = r.head + 1 ∧ (t.unitOf u g).nextSeq = r.nextSeq + 1 ∧
         (∃ e, (t.unitOf u g).window = r.window ++ [e] ∧ e.seq = r.nextSeq ∧ e.index = r.head ∧ e.desc = d ∧ e.phase = .fetched ∧
           (e.status = 0 ↔ dSeq d = r.nextSeq.toNat ∧ opListed u (dOpcode d) = true)) ∧
         { t with cores := s.cores, contexts := s.contexts } = s ∧ ((s.core g).job = none → t.contexts = s.contexts) ∧
         ∀ h, h ≠ g.val → t.core h = s.core h)) ∧
  (∀ (s : State) (u : UnitKind) (g : CoreId),
       let r := s.unitOf u g
       (r.stopped = true ∨ r.head = r.tail ∨ 2 ^ r.log2.toNat ≤ (r.head - r.release).toNat) →
       exec (.descriptorFetch u g .clean) s = .next s) ∧
  ((∀ (s : State) (u : UnitKind) (g : CoreId) (tail : BitVec 32) (descs : List Bytes), s.present g = true →
       exec (.ringTailWrite u g tail descs) s =
         .next ({ s with mem := (storeDescs s u g (s.unitOf u g).tail descs).mem }.setCore g
           ((s.core g).setUnit u { s.unitOf u g with tail := tail }))) ∧
     (∀ (s : State) (u : UnitKind) (g : CoreId) (n : BitVec 32),
       let r := s.unitOf u g
       s.present g = true → (n - r.release).toNat ≤ (r.compHead - r.release).toNat →
       exec (.ringReleaseWrite u g n) s = .next (s.setCore g ((s.core g).setUnit u { r with release := n }))) ∧
     (∀ (s : State) (u : UnitKind) (g : CoreId) (n : BitVec 32),
       let r := s.unitOf u g
       (r.compHead - r.release).toNat < (n - r.release).toNat → exec (.ringReleaseWrite u g n) s = .next s))

/-- R66 to R97: a tensor instruction that is dispatched and held by nothing issues with the outcome of its run; TDRN may leave its tile to the
numerics watch; TSIG changes neither memory nor the skein. The model's choices in it: log entries 4, 5 and 105. -/
def Obligations.TensorInstructionsIssue : Prop :=
  (∀ (s : State) (g : CoreId) (seq : BitVec 64) (det : Detect) (e : WinEntry), inRun det = true → engineEmpty e.desc = false →
       let r0 := startRun s g e
       (Dispatched s .engine 1 g seq e = true → engineHeld s g e.desc = false → (tzroBody det s e r0).plain →
         Goes (exec (.tzro g seq det) s) (fun t => Issued s t .engine g seq e (tzroBody det s e r0) .executed)) ∧
       (Dispatched s .engine 2 g seq e = true → engineHeld s g e.desc = false → (tpreBody det s e r0).plain →
         Goes (exec (.tpre g seq det) s) (fun t => Issued s t .engine g seq e (tpreBody det s e r0) .executed)) ∧
       (Dispatched s .engine 3 g seq e = true → engineHeld s g e.desc = false → (trstBody det s e r0).plain →
         Goes (exec (.trst g seq det) s) (fun t => Issued s t .engine g seq e (trstBody det s e r0) .executed)) ∧
       (∀ beats, Dispatched s .engine 4 g seq e = true → (s.core g).progress = none → engineHeld s g e.desc = false →
         (tmulBody beats det g s e r0).plain →
         Goes (exec (.tmul g seq beats det) s) (fun t =>
           Issued s t .engine g seq e (tmulBody beats det g s e r0) (tmulPhase e.desc (tmulBody beats det g s e r0)))) ∧
       (Dispatched s .engine 6 g seq e = true → engineHeld s g e.desc = false → (tsavBody det g s e r0).plain →
         Goes (exec (.tsav g seq det) s) (fun t => Issued s t .engine g seq e (tsavBody det g s e r0) .executed)) ∧
       (Dispatched s .engine 7 g seq e = true → engineHeld s g e.desc = false → (tatmBody det g s e r0).plain →
         Goes (exec (.tatm g seq det) s) (fun t => Issued s t .engine g seq e (tatmBody det g s e r0) .executed)) ∧
       (Dispatched s .engine 8 g seq e = true → engineHeld s g e.desc = false → (tmovBody det s e r0).plain →
         Goes (exec (.tmov g seq det) s) (fun t => Issued s t .engine g seq e (tmovBody det s e r0) .executed))) ∧
  (∀ (s : State) (g : CoreId) (seq : BitVec 64) (det : Detect) (e : WinEntry), inRun det = true →
       (Dispatched s .engine 5 g seq e = true → engineEmpty e.desc = false → engineHeld s g e.desc = false →
         (tdrnBody det g s e (startRun s g e)).plain →
         Goes (exec (.tdrn g seq det) s) (fun t => Issued s t .engine g seq e (tdrnBody det g s e (startRun s g e)) .executed)) ∧
       (Dispatched s .engine 9 g seq e = true → engineHeld s g e.desc = false →
         Goes (exec (.tsig g seq) s) (fun t => Issued s t .engine g seq e (startRun s g e) .executed)))

/-- R67: "TZRO sets every entry of the named rows to finite zero with all state bits clear, and writes the row tags." -/
def Obligations.TzroZeroesItsRows : Prop :=
  ∀ (s : State) (g : CoreId) (seq : BitVec 64) (e : WinEntry),
    Dispatched s .engine 1 g seq e = true → engineEmpty e.desc = false → engineHeld s g e.desc = false →
    Goes (exec (.tzro g seq .clean) s) (fun t =>
      (∀ bt ∈ iterRows e.desc (dMExt e.desc), ∀ j < dPly e.desc, ∀ col < 512,
        smGet ({} : Entry) (t.core g).skein ((skeinRow e.desc bt.1 bt.2 + j) * 512 + col) = {}) ∧
      (∀ bt ∈ iterRows e.desc (dMExt e.desc), ∀ j < dPly e.desc,
        (t.core g).tag (skeinRow e.desc bt.1 bt.2 + j) = mkTag (ofSigned 16 (dLsb e.desc)) (dClass e.desc) (dPly e.desc) j) ∧
      t.mem = s.mem)

/-- R105, R107, R109, R146: a refused TZRO runs no part of its work: memory, addends and the skein stay and its entry carries the status; the oldest
instruction of a unit retires: its completion record is written at its slot, and of memory only the 32 bytes of the record change. The model's
choices in it: log entry 5. -/
def Obligations.RefusalAndRetirement : Prop :=
  (∀ (s : State) (g : CoreId) (seq : BitVec 64) (det : Detect) (e : WinEntry) (st : Nat), inRun det = true →
       findEntry (s.unitOf .engine g).window seq = some e → e.phase = .fetched → e.status = 0 → dOpcode e.desc = 1 →
       (s.unitOf .engine g).stopped = false → s.present g = true → orderOk s .engine g (s.unitOf .engine g).window e = true →
       engineCheck g s e = .refuse st → e.reserved = false →
       Goes (exec (.tzro g seq det) s) (fun t =>
         t.mem = s.mem ∧ t.addends = s.addends ∧ (t.core g).skein = (s.core g).skein ∧
         (∃ e', findEntry (t.unitOf .engine g).window seq = some e' ∧ e'.status = BitVec.ofNat 16 st ∧ e'.desc = e.desc) ∧
         { t with cores := s.cores } = s)) ∧
  (∀ (s : State) (u : UnitKind) (g : CoreId) (seq : BitVec 64) (e : WinEntry),
       let r := s.unitOf u g
       s.wf = true → s.present g = true → r.window = [e] → e.seq = seq → e.phase = .executed → e.status = 0 →
       effectsDone s u g e = true → dSigEn e.desc = false → dIrq e.desc = false → s.dipOpen g = false → e.event = none →
       (s.core g).job = none → (s.core g).work = [] →
       let a := localBase g + r.cbase.toNat + e.index.toNat % 2 ^ r.log2.toNat * 32
       Goes (exec (.engineRetire u g seq) s) (fun t =>
         (t.unitOf u g).window = [] ∧ (t.unitOf u g).compHead = e.index + 1 ∧ (t.unitOf u g).retired = seq + 1 ∧
         t.mem = s.mem.putBytes a (completionRecord g { e with phase := .retired, retireTime := s.clkc }) ∧
         (∀ p, (p < a ∨ a + 32 ≤ p) → t.mem.byte p = s.mem.byte p) ∧
         (t.core g).skein = (s.core g).skein ∧ { t with cores := s.cores, mem := s.mem } = s))

/-- R121, R133: a vector instruction that is dispatched and held by nothing issues with the outcome of its run. The model's choices in it: log
entries 5, 15 and 16. -/
def Obligations.VectorInstructionsIssue : Prop :=
  ∀ (s : State) (g : CoreId) (seq : BitVec 64) (det : Detect) (e : WinEntry), inRun det = true → vRows e.desc ≠ 0 →
    let r0 := startRun s g e
    let runs (op : Nat) (c : Instr) (r : Run) : Prop := Dispatched s .vector op g seq e = true → r.plain →
      Goes (exec c s) (fun t => Issued s t .vector g seq e r .executed)
    let el := elementBody det g s e r0
    let red := reductionBody det g s e r0
    (runs 0x40 (.vadd g seq det) el ∧ runs 0x41 (.vsub g seq det) el ∧ runs 0x42 (.vmul g seq det) el ∧
     runs 0x43 (.vfma g seq det) el ∧ runs 0x44 (.vmin g seq det) el ∧ runs 0x45 (.vmax g seq det) el ∧
     runs 0x46 (.vabs g seq det) el ∧ runs 0x47 (.vneg g seq det) el ∧ runs 0x48 (.vcmplt g seq det) el ∧
     runs 0x49 (.vsel g seq det) el ∧ runs 0x4A (.vcvt g seq det) el) ∧
    (runs 0x50 (.vexp g seq det) el ∧ runs 0x51 (.vlog g seq det) el ∧ runs 0x52 (.vtanh g seq det) el ∧
     runs 0x53 (.vsigm g seq det) el ∧ runs 0x54 (.vrsqrt g seq det) el ∧ runs 0x55 (.verf g seq det) el ∧
     runs 0x56 (.vdiv g seq det) el ∧ runs 0x57 (.vsqrt g seq det) el ∧ runs 0x58 (.vexpd g seq det) el) ∧
    (runs 0x60 (.vrsum g seq det) red ∧ runs 0x61 (.vrssq g seq det) red ∧ runs 0x62 (.vrdot g seq det) red ∧
     runs 0x63 (.vrsexp g seq det) red ∧ runs 0x64 (.vrmax g seq det) (maxBody det g s e r0)) ∧
    (runs 0x68 (.vrdrn g seq det) (vrdrnBody det g s e r0) ∧ runs 0x69 (.vrsav g seq det) (vrsavBody det g s e r0) ∧
     runs 0x6A (.vrrst g seq det) (vrrstBody det s e r0) ∧
     (s.dipOpen g = false → runs 0x6B (.vratm g seq det) (vratmBody det g s e r0))) ∧
    (runs 0x70 (.vrng g seq det) el ∧ runs 0x71 (.vuni g seq det) el ∧ runs 0x72 (.vdrop g seq det) el)

/-- R157, R159: a DMA instruction that is dispatched and not empty issues with the outcome of its run. The model's choices in it: log entries 5, 16
and 18. -/
def Obligations.DmaInstructionsIssue : Prop :=
  ∀ (s : State) (g : CoreId) (seq : BitVec 64) (det : Detect) (e : WinEntry), inRun det = true → dmaEmpty e.desc = false →
    let r0 := startRun s g e
    let runs (op : Nat) (c : Instr) (r : Run) : Prop := Dispatched s .dma op g seq e = true → r.plain →
      Goes (exec c s) (fun t => Issued s t .dma g seq e r .executed)
    runs 0x80 (.dcopy g seq det) (dcopyBody det g s e r0) ∧ runs 0x81 (.dfill g seq det) (dfillBody det g s e r0) ∧
    runs 0x82 (.dhinit g seq det) (dhinitBody det g s e r0) ∧ runs 0x83 (.dhash g seq det) (dhashBody det g s e r0) ∧
    runs 0x84 (.dinval g seq det) (dinvalBody g s e r0) ∧ runs 0x85 (.dhalo g seq det) (dhaloBody det g s e r0)

/-- R53, R65, R71, R112, R136, R164, R379: a fence release clears one group's fence; a capture read sends the 32 bytes of the capture and clears its
overwritten count alone; patrol scrub poisons the block in which it finds an uncorrectable error; the clears of the numeric counters. The model's
choices in it: log entries 5 and 60. -/
def Obligations.FencesCapturesScrubsAndClears : Prop :=
  ((∀ (s : State) (g : CoreId) (q : Fin 16), s.wf = true →
       Goes (exec (.rowFenceRelease g q) s) (fun t =>
         (t.core g).fence q = 0 ∧ (∀ k, k ≠ q.val → (t.core g).fence k = (s.core g).fence k) ∧
         (t.core g).skein = (s.core g).skein ∧ (∀ h, h ≠ g.val → t.core h = s.core h) ∧ { t with cores := s.cores } = s)) ∧
     (∀ (s : State) (g : CoreId), s.wf = true →
       Goes (exec (.captureRead .engine g) s) (fun t =>
         t.out = .capture g (captureBytes (s.core g).capture) :: s.out ∧
         t.core g = { s.core g with capture := { (s.core g).capture with overwritten := 0 } } ∧
         { t with cores := s.cores, out := s.out } = s)) ∧
     (∀ (s : State) (g : CoreId), s.wf = true →
       Goes (exec (.captureRead .vector g) s) (fun t =>
         t.out = .capture g (captureBytes (s.core g).vcapture) :: s.out ∧
         t.core g = { s.core g with vcapture := { (s.core g).vcapture with overwritten := 0 } } ∧
         { t with cores := s.cores, out := s.out } = s))) ∧
  ((∀ (s : State) (a p : Nat), s.translate a = some p →
       Goes (exec (.patrolScrub (.memUe a)) s) (fun t =>
         t.mem.poisoned p = true ∧ t.mem.cells = s.mem.cells ∧ t.rel.recordCount = s.rel.recordCount + 1)) ∧
     (∀ s : State, exec (.patrolScrub .clean) s = .next s)) ∧
  (∀ (s : State) (acc : Accessor),
       let s0 := touchSelects s acc
       let e := (s.selects acc).numericsCore.toNat
       let v := (s.selects acc).vectorCore.toNat
       (Admitted s acc 0x2800 8 = true → exec (.numericsClearCounters acc) s =
         Replied acc (s0.setCore e { s0.core e with invalid := 0, overflow := 0, truncated := 0, flush := 0 })) ∧
       (Admitted s acc 0x2800 8 = true → exec (.numericsClearFlags acc) s = Replied acc (s0.setCore e { s0.core e with sticky := 0 })) ∧
       (Admitted s acc 0x2808 8 = true → exec (.vecNumericsClear acc) s =
         Replied acc (s0.setCore v { s0.core v with vecInvalid := 0, vecOverflow := 0, vecDivZero := 0 })) ∧
       (∀ n : BitVec 16, Admitted s acc 0x2610 4 = true → n.toNat ≤ 1536 →
         s.contexts.any (fun c => decide (c.2.st ≠ .free) && c.2.isSealed) = false →
         exec (.sealedSaveSlotsWrite acc n) s = Replied acc { s0 with mem := { s0.mem with sealedSlots := n } }))

/-- R62, R78, R154: an addend whose target and own slots pass their check is combined exactly and written whole, and leaves the list of addends
under way; a header merge writes the larger exponent tag and the OR of the presence bits and clears the check. -/
def Obligations.AddendsAndHeadersAreCombined : Prop :=
  (∀ (s : State) (i : Nat) (a : Addend) (old : Bytes) (st ad : Term) (m : Memory), s.addends[i]? = some a →
       readMem s s.mem (24 * a.ply) a.target = .ok old → loadElement a.ply old = (st, none) → loadElement a.ply a.elem = (ad, none) →
       writeMem s s.mem none a.target (termBytes a.ply (addTerm (some (plyWidth a.ply)) st ad)) = (m, none) →
       Goes (exec (.skeinAtomicApply i .clean) s) (fun t =>
         t.mem = m ∧ t.addends = s.addends.eraseIdx i ∧ { t with mem := s.mem, addends := s.addends, rel := s.rel } = s)) ∧
  ((∀ (s : State) (a : BitVec 48) (tag : BitVec 16) (pres : BitVec 3) (h : Bytes) (m : Memory),
       let t16 : Option Int := if tag = 0x8000#16 then none else some tag.toInt
       a.toNat % 64 = 0 → readMem s s.mem 64 a.toNat = .ok h →
       writeMem s s.mem none a.toNat (mergeHeaderBytes h t16 pres.toNat) = (m, none) →
       exec (.headerMerge a tag pres) s = .next { s with mem := m }) ∧
     (∀ (h : Bytes) (tag : Option Int) (pres : Nat), h.length = 64 → pres < 8 →
       (mergeHeaderBytes h tag pres).length = 64 ∧
       hdrPresence (mergeHeaderBytes h tag pres) = Nat.lor (hdrPresence h) pres ∧
       hdrTagBits (mergeHeaderBytes h tag pres) = tagBits (maxTag (hdrTag h) tag) % 65536 ∧
       hdrCheckValid (mergeHeaderBytes h tag pres) = false ∧ leAt (mergeHeaderBytes h tag pres) 56 8 = 0) ∧
     (∀ (s : State) (a : BitVec 48) (tag : BitVec 16) (pres : BitVec 3), a.toNat % 64 ≠ 0 →
       exec (.headerMerge a tag pres) s = .next s))

/-- R82, R83, R84, R134: a context switch of a drained core writes the two save areas, stops the units and leaves the core without a context; a
restore loads rows, tags and registers of the context's areas and lets the units run; what firmware took out of the rings at the switch it puts
back at the restore. The model's choices in it: log entries 124 and 142. -/
def Obligations.ContextsAreSwitchedAndRestored : Prop :=
  (∀ (s : State) (x : CtxId) (g : CoreId) (ea va : Nat), s.wf = true →
       saveArea s x g = some (ea, va) → (s.core g).owner = some x → (∀ u, (s.unitOf u g).window = []) → canStop s g = true →
       Goes (exec (.contextSwitch x g) s) (fun t =>
         t.mem = saveVector s (saveEngine s s.mem g ea) g va ∧ (t.core g).owner = none ∧
         (∀ u, (t.unitOf u g).stopped = true ∧ (t.unitOf u g).tail = (t.unitOf u g).head) ∧ g.val ∈ (t.ctx x).saved ∧
         (t.core g).job = none ∧ (t.core g).work = [] ∧
         smGet {} (t.ctx x).parked g =
           { job := (s.core g).job, work := (s.core g).work, running := stoppedTmul s x g
             rings := [UnitKind.engine, .vector, .dma].flatMap (ringRest { s with mem := t.mem } g)
             seqs := ((s.core g).engine.nextSeq, (s.core g).vector.nextSeq, (s.core g).dma.nextSeq) } ∧
         (∀ h, h ≠ g.val → t.core h = s.core h) ∧
         { t with cores := s.cores, mem := s.mem, contexts := s.contexts } = s)) ∧
  (∀ (s : State) (x : CtxId) (g : CoreId) (ea va : Nat), s.wf = true →
       saveArea s x g = some (ea, va) → g.val ∈ (s.ctx x).saved → (s.core g).owner = none → s.present g = true →
       Goes (exec (.contextRestore x g) s) (fun t =>
         (restoreEntries s (ea + 4096) 131072).2 = [] → (restoreEntries s (va + 4096) 1280).2 = [] →
         (t.core g).owner = some x ∧ (t.core g).skein = (restoreEntries s (ea + 4096) 131072).1 ∧
         (t.core g).red = (restoreEntries s (va + 4096) 1280).1 ∧ (t.core g).tags = restoreTags s (ea + 1024) ∧
         (∀ u, (t.unitOf u g).stopped = false) ∧ g.val ∉ (t.ctx x).saved ∧
         (let p : Parked := smGet {} (s.ctx x).parked g
          (p = {} → (s.core g).work = [] → t.mem = s.mem) ∧
          (p ≠ {} → (t.core g).job = p.job ∧ smGet {} (t.ctx x).parked g = {} ∧ (p.work = [] → p.running = none →
            (t.core g).engine.nextSeq = p.seqs.1 ∧ (t.core g).vector.nextSeq = p.seqs.2.1 ∧ (t.core g).dma.nextSeq = p.seqs.2.2 ∧
            ∀ u, (t.unitOf u g).head = (s.unitOf u g).head ∧
              (t.unitOf u g).tail = (s.unitOf u g).head + BitVec.ofNat 32 (p.rings.filter (fun d => decide (d.1 = u))).length)))))

/-- R11, R62, R75, R77: a window value is read back from its saved element, which passes the residue comparison of every slot; the sum of terms
depends on no order, and, without a bound, on no grouping. -/
def Obligations.SkeinElementsAndSums : Prop :=
  (∀ (p : Nat) (t : Term), 0 < p → t.cls < 4 → t.cause < 16 → stateByteOk (t.cls * 64 + t.cause * 4) = true →
       (if t.cls = 0 then inWindow (128 * p) t.v = true else t.v = 0) →
       loadElement p (termBytes p t) = (t, none) ∧ (termBytes p t).length = 24 * p) ∧
  ((∀ (w : Option Nat) (a b : Term), addTerm w a b = addTerm w b a) ∧
     (∀ a b c : Term,
       let l := addTerm none (addTerm none a b) c
       let r := addTerm none a (addTerm none b c)
       l.cls = r.cls ∧ (l.cls = 0 → l.v = r.v) ∧ l.trunc = r.trunc ∧ l.ovf = r.ovf) ∧
     (∀ (w : Nat) (a b : Term), a.cls = 0 → b.cls = 0 → inWindow w (a.v + b.v) = true →
       (addTerm (some w) a b).cls = 0 ∧ (addTerm (some w) a b).v = a.v + b.v ∧
       (addTerm (some w) a b).ovf = (a.ovf || b.ovf)) ∧
     (∀ (w : Nat) (a b : Term), a.cls = 0 → b.cls = 0 → inWindow w (a.v + b.v) = false →
       (addTerm (some w) a b).cls = (if a.v + b.v < 0 then 2 else 1) ∧ (addTerm (some w) a b).ovf = true))

/-- R45 to R47, R124 to R127: values of vector elements, and a NaN operand gives the canonical NaN. -/
def Obligations.VectorElementValues : Prop :=
  (∀ (d : Bytes) (u a b c : Nat), a < 2 ^ 32 → b < 2 ^ 32 → fpVal a ≠ .nan → fpVal b ≠ .nan →
       (dOpcode d = 0x46 → (vCompute d u a b c).bits = a % 2 ^ 31) ∧
       (dOpcode d = 0x47 → (vCompute d u a b c).bits % 2 ^ 31 = a % 2 ^ 31 ∧ (vCompute d u a b c).bits / 2 ^ 31 = 1 - a / 2 ^ 31) ∧
       (dOpcode d = 0x49 → (vCompute d u a b c).bits = if c % 2 ^ 31 = 0 then b else a) ∧
       (dOpcode d = 0x48 → ((vCompute d u a b c).bits = 0x3F800000 ∨ (vCompute d u a b c).bits = 0) ∧
         ((vCompute d u a b c).bits = 0x3F800000 → (vCompute d u b a c).bits = 0)) ∧
       (dOpcode d = 0x44 ∨ dOpcode d = 0x45 → (vCompute d u a b c).bits = a ∨ (vCompute d u a b c).bits = b) ∧
       (dOpcode d = 0x40 ∨ dOpcode d = 0x42 → vCompute d u a b c = vCompute d u b a c)) ∧
  (∀ (d : Bytes) (u a b c : Nat), fpVal a = .nan →
       dOpcode d ∈ [0x40, 0x41, 0x42, 0x44, 0x45, 0x46, 0x56] → vCompute d u a b c = { bits := 0x7FC00000 })


/-! ### Contexts, queues and host descriptors (09) -/

/-- R208 to R211: the context commands act from the states their table allows, and a context reset finishes once nothing of the context runs. The
model's choices in it: log entries 60 and 101. -/
def Obligations.ContextCommandsChangeTheContext : Prop :=
  (∀ (s : State) (acc : Accessor), s.wf = true → s.queueObjs.snapBusy = false → Admitted s acc 0x2A00 2 = true →
       let s0 := touchSelects s acc
       let x := (s.selects acc).ctx.toNat
       let c := s.ctx x
       (∀ sealed peer (n : Fin 8), c.st = .free → exec (.create acc sealed peer n) s = Replied acc (s0.setCtx x
         { st := .opened, isSealed := sealed, peerOpen := peer, queueCount := n.val + 1, inDebug := decide (s.sec.lifecycle = 3#8)
           energy := c.energy, energyCarry := c.energyCarry })) ∧
       (c.st = .opened → outstandingIn c = false → Answered (exec (.destroy acc) s) acc (fun u =>
         u.ctx x = { energy := c.energy, energyCarry := c.energyCarry } ∧ (∀ g : CoreId, ∀ y, (u.core g).owner = some y → y.val ≠ x) ∧
         (∀ p, (u.ctr p).allocated = true → (u.ctr p).owner.toNat ≠ x) ∧ u.mem.cells = s.mem.cells)) ∧
       (c.st = .opened ∨ c.st = .ready → Answered (exec (.stop acc) s) acc (fun u =>
         (u.ctx x).st = .stopped ∧ (u.ctx x).before = c.st ∧ (∀ g ∈ s.coresOf x, ∀ k, (u.unitOf k g).stopped = true) ∧ u.mem = s.mem)) ∧
       (c.st = .stopped → Answered (exec (.start acc) s) acc (fun u =>
         (u.ctx x).st = c.before ∧ (∀ g ∈ s.coresOf x, ∀ k, (u.unitOf k g).stopped = false) ∧
         { u with contexts := s0.contexts, cores := s0.cores } = s0)) ∧
       (c.st ≠ .free → Answered (exec (.reset acc) s) acc (fun u =>
         (u.ctx x).st = .resetting ∧ (u.ctx x).replaySet = [] ∧ u.sec.staging = [] ∧ u.sec.nonce = none ∧
         (∀ g ∈ s.coresOf x, ∀ k, (u.unitOf k g).stopped = true ∧ (u.unitOf k g).tail = (u.unitOf k g).head) ∧ u.mem = s.mem)) ∧
       (c.st = .opened ∨ c.st = .ready ∨ c.st = .stopped →
         exec (.peerOpen acc) s = Replied acc (s0.setCtx x { c with peerOpen := true }) ∧
         exec (.peerClose acc) s = Replied acc (s0.setCtx x { c with peerOpen := false }))) ∧
  (∀ (s : State) (x : CtxId), s.wf = true → s.queueObjs.snapBusy = false →
       let c := s.ctx x
       c.st = .resetting → (∀ g ∈ s.coresOf x, coreDrained s g = true) → outstandingIn c = false →
       (c.isSealed = true → s.sec.busy = none) →
       Goes (exec (.contextResetFinish x) s) (fun t =>
         (t.ctx x).st = (if c.plan.isSome then .ready else .opened) ∧ (t.ctx x).queues = c.queues ∧ (t.ctx x).vts = c.vts ∧
         (t.ctx x).plan = c.plan ∧
         (∀ p, c.plan = some p → ∀ r ∈ p.trans, r.kind = 0 → (t.ctr (trTarget (s.transEntry x r.vid.toNat))).produced = 0 ∧
           (t.ctr (trTarget (s.transEntry x r.vid.toNat))).consumed = 0) ∧
         (∀ g ∈ s.coresOf x, (t.core g).job = none ∧ ∀ k, (t.unitOf k g).stopped = false) ∧
         { t with contexts := s.contexts, counters := s.counters, cores := s.cores } = s))

/-- R212, R215, R221, R237: a queue is configured, reset, reads its next descriptor at accept, and advances accept once the accept-echo is
acknowledged. The model's choices in it: log entries 60 and 100. -/
def Obligations.QueuesAcceptDescriptors : Prop :=
  (∀ (s : State) (acc : Accessor) (b : Bytes),
    let s0 := touchSelects s acc
    let x := (s.selects acc).ctx.toNat
    let q := (s.selects acc).queue.toNat
    let v := BitVec.ofNat 64 (leAt b 16 8)
    s.queueObjs.snapBusy = false → Admitted s acc 0x2A01 2 = true → b.length = 32 → q < (s.ctx x).queueCount → (s.ctx x).st = .opened ∨ (s.ctx x).st = .stopped →
    (s.queue x q).outstanding = false → leAt b 0 6 % 128 = 0 → 6 ≤ byteAt b 6 → byteAt b 6 ≤ 9 → byteAt b 7 ≤ 1 →
    leAt b 8 6 % 64 = 0 → 0x300 ≤ leAt b 14 2 → leAt b 14 2 ≤ 0x37F → zeroRange b 24 32 = true →
    decodedRange s0 (leAt b 0 6) (128 * 2 ^ byteAt b 6) = true → decodedRange s0 (leAt b 8 6) 16384 = true →
    exec (.queueConfig acc b) s = Replied acc (s0.modQueue x q (fun k =>
      { k with configured := true, ringBase := leAt b 0 6, ringLog2 := byteAt b 6, fabric := byteAt b 7 == 1
               cringBase := leAt b 8 6, irqVector := BitVec.ofNat 16 (leAt b 14 2), baseSeq := v, tail := v, accept := v
               dispatch := v, complete := v, release := v, accepting := none, acceptEchoed := false
               resetting := false, descs := [] }))) ∧
  (∀ (s : State) (acc : Accessor),
    let x := (s.selects acc).ctx.toNat
    let q := (s.selects acc).queue.toNat
    let k := s.queue x q
    s.wf = true → s.queueObjs.snapBusy = false → Admitted s acc 0x2A01 4 = true → q < (s.ctx x).queueCount → (s.ctx x).st ≠ .free → k.configured = true → k.accepting = none →
    (∀ d ∈ k.descs, d.undispatched = true → byteAt d.bytes 8 ≠ 1) →
    Answered (exec (.queueReset acc) s) acc (fun u =>
      (u.queue x q).error = false ∧ (u.queue x q).tail = k.accept ∧ (u.queue x q).accept = k.accept ∧
      (∀ d ∈ (u.queue x q).descs, d.undispatched = true → 0 < d.attempts) ∧ (u.queue x q).descs.length = k.descs.length ∧ u.mem = s.mem)) ∧
  (∀ (s : State) (x : CtxId) (q : QueueId) (d : Bytes),
    let k := s.queue x q
    s.queueObjs.snapBusy = false → mayAccept s x q = true → readMem s s.mem 128 (k.ringBase + k.accept.toNat % 2 ^ k.ringLog2 * 128) = .ok d →
    dSeq d = k.accept.toNat →
    Goes (exec (.accept x q) s) (fun t =>
      t.queue x q = { k with accepting := some { seq := k.accept, bytes := d }, acceptEchoed := false } ∧
      t.mem = (journalWrite s x q k.accept 0 (acceptBlock s x q k.accept d)).mem ∧
      t.drinex.echoes.contains (x.val, q.val, false, k.accept) = true)) ∧
  (∀ (s : State) (x : CtxId) (q : QueueId) (d : HostDesc),
    let k := s.queue x q
    s.queueObjs.snapBusy = false → k.accepting = some d → k.acceptEchoed = true → s.echoDue x q false = false →
    s.mem.relocating = none → k.resetting = false →
    Goes (exec (.acceptAdvance x q) s) (fun t =>
      (t.queue x q).accept = k.accept + 1 ∧ (t.queue x q).accepting = none ∧
      (t.queue x q).descs = k.descs ++ [{ d with acceptTime := s.clkc, order := (s.ctx x).accepts }] ∧
      { t with contexts := s.contexts } = s))

/-- R217: SYNC, VT_SET, PLAN_UNLOAD and PLAN_LOAD dispatch; an admitted plan makes its context READY, a refused one leaves its plan as it was. The
model's choices in it: log entry 99. -/
def Obligations.HostDescriptorsDispatch : Prop :=
  ∀ (s : State) (x : CtxId) (q : QueueId) (d : HostDesc), s.wf = true →
    let w := s.taken x q d
    (HostReady s x q 4 d = true → Goes (exec (.sync x q) s) (fun t => HostDone t x q d 0 ∧
      { t with contexts := s.contexts, queueObjs := s.queueObjs } = s)) ∧
    (HostReady s x q 5 d = true → hAddr0 d.bytes % 64 = 0 → hAddr1 d.bytes % 64 = 0 →
      (w.ctx x).allDescs.any (fun e => (dualsOf e.2.bytes).any (fun b => b.1 == hOpId d.bytes)) = false →
      Goes (exec (.vtSet x q) s) (fun t => HostDone t x q d 0 ∧ { t with contexts := s.contexts, queueObjs := s.queueObjs } = s)) ∧
    (HostReady s x q 3 d = true → (s.ctx x).unloading = none →
      Goes (exec (.planUnload x q) s) (fun t => HostDone t x q d 0 ∧ (t.ctx x).unloading = some d.order ∧
        { t with contexts := s.contexts, queueObjs := s.queueObjs } = s)) ∧
    (HostReady s x q 2 d = true → s.contexts.any (fun c => c.2.unloading.isSome) = false → s.power.draining = none →
      let a := admitPlan (clearShortfalls w x) x (hAddr0 d.bytes) (hostActor x q d.seq)
      Goes (exec (.planLoad x q) s) (fun t => HostDone t x q d (BitVec.ofNat 16 a.2) ∧
        (a.2 = 0 → (t.ctx x).st = .ready ∧ (t.ctx x).plan.isSome = true) ∧
        (a.2 ≠ 0 → (t.ctx x).st = (s.ctx x).st ∧ (t.ctx x).plan = (s.ctx x).plan)))

/-- R172, R173, R217, R218, R220, R226: a RUN of a product whose bindings, phase and cores are in order dispatches: its bindings are resolved, its
tiles chosen, its headers made ready, its present cores take it up, and each core with tiles gets their descriptors as its work, the first of them
in its ring. The model's choices in it: log entries 100 and 142. -/
def Obligations.RunDispatchesItsTiles : Prop :=
  ∀ (s : State) (x : CtxId) (q : QueueId) (d : HostDesc) (p : Plan) (o : OpRec) (ts : List (Placement × Nat × Tile))
    (s1 : State) (r : Option Product),
    let w := s.taken x q d
    let gs := opCores p (hOpId d.bytes)
    let res := (List.range (hCount d.bytes)).flatMap (fun i => resolveBinding (w.ctx x) (hBinding d.bytes i))
    s.wf = true → HostReady s x q 1 d = true → (s.ctx x).plan = some p → p.op (hOpId d.bytes) = some o → o.kind = 1#8 →
    bindingsOk w (w.ctx x) p o d.bytes = true → phaseLets (w.ctx x) p (hOpId d.bytes) = true → dualHeld (w.ctx x) d = false →
    hM d.bytes ≠ 0 → hN d.bytes ≠ 0 → hK d.bytes ≠ 0 → hBatch d.bytes ≠ 0 →
    coresFree w x q d.seq gs = true → tilesFor w p o d.bytes = some ts → (∀ t ∈ ts, s.present t.2.2.core = true) →
    partMissing p o (hK d.bytes) = false → prepareProduct w x p o { d with resolved := res } = .ok (s1, r) →
    Goes (exec (.run x q) s) (fun t =>
      (∃ e, t.desc? x q d.seq = some e ∧ e.phase = .dispatched ∧ e.resolved = res ∧ e.tiles = ts.map (·.2.2) ∧ e.outcomes = []) ∧
      (∀ g ∈ gs, s.present g = true → (t.core g).owner = some x ∧ (t.core g).job = some (q, d.seq)) ∧
      (∀ g < 192, g ∉ gs → t.core g = s.core g) ∧ (r = none → t.mem = s1.mem) ∧
      (∀ pr, r = some pr → ∀ g ∈ gs, s.present g = true → ts.any (fun t => t.2.2.core == g) = true →
        (s.core g).watch = none → ringsIdle (s.core g) = true →
        let work := (ts.filter (fun t => t.2.2.core == g)).flatMap (fun t => pr.tile s.training t.1 t.2.1 t.2.2)
        (t.core g).work = work.tail ∧
        (∀ e rest, work = e :: rest → ((t.core g).unit e.1).tail = ((s.core g).unit e.1).tail + 1)) ∧
      { t with contexts := s.contexts, cores := s.cores, queueObjs := s.queueObjs, mem := s.mem } = s)

/-- R177, R228, R229: an unload takes effect; a descriptor whose work has ended commits with its status, its block in the journal and its echo sent;
once that is acknowledged its record is written, complete advances and a VT_SET's slots take effect. The model's choices in it: log entries 99 and
100. -/
def Obligations.DescriptorsCommitAndComplete : Prop :=
  (∀ (s : State) (x : CtxId) (n : Nat), s.wf = true → s.queueObjs.snapBusy = false → (s.ctx x).unloading = some n →
    (∀ d ∈ (s.ctx x).allDescs, d.2.undispatched = true ∧ n < d.2.order) →
    Goes (exec (.planUnloadTakeEffect x) s) (fun t =>
      (t.ctx x).plan = none ∧ (t.ctx x).unloading = none ∧ (t.ctx x).queues = (s.ctx x).queues ∧
      ((s.ctx x).st = .ready → (t.ctx x).st = .opened) ∧ (∀ g : CoreId, (t.core g).owner ≠ some x) ∧
      (∀ p, (t.ctr p).allocated = true → (t.ctr p).owner.toNat ≠ x.val) ∧ t.mem.cells = s.mem.cells)) ∧
  (∀ (s : State) (x : CtxId) (q : QueueId) (d : HostDesc), s.wf = true → s.queueObjs.snapBusy = false →
    (s.queue x q).descs.find? (fun d => !d.decided) = some d → d.phase = .dispatched → d.marked = false → (s.ctx x).st ≠ .resetting →
    s.mem.relocating = none → s.device ≠ .bootLimited → attemptEnded s x q d = true → lowestFailure d.outcomes = none →
    peerUnreachable s x d.bytes = false → byteAt d.bytes 8 ≠ 1 →
    let fl := recordFlags d
    Goes (exec (.commit x q) s) (fun t =>
      (∃ e, t.desc? x q d.seq = some e ∧ e.phase = .committed ∧ e.status = BitVec.ofNat 16 (statusOf d.outcomes) ∧ e.flips = 0 ∧
        e.echoed = false) ∧
      t.mem = (journalWrite s x q d.seq 192 (commitBlock s 2 0 (statusOf d.outcomes) fl d.seq 0 [])).mem ∧
      t.drinex.echoes.contains (x.val, q.val, true, d.seq) = true)) ∧
  (∀ (s s1 : State) (x : CtxId) (q : QueueId) (d : HostDesc) (cs : List Bytes), s.wf = true → s.queueObjs.snapBusy = false →
    (s.queue x q).descs.find? (fun d => !d.decided) = some d → d.phase = .dispatched → d.marked = false → (s.ctx x).st ≠ .resetting →
    s.mem.relocating = none → s.device ≠ .bootLimited → attemptEnded s x q d = true → lowestFailure d.outcomes = none →
    peerUnreachable s x d.bytes = false → byteAt d.bytes 8 = 1 →
    commitHeld (s.ctx x) d = false → d.call = none → d.checks = [] →
    (dFence d.bytes = false → hashOutputs s d = .ok (s1, cs)) → (dFence d.bytes = true → cs = []) →
    Goes (exec (.commit x q) s) (fun t =>
      (∃ e, t.desc? x q d.seq = some e ∧ e.phase = .committed ∧ e.status = BitVec.ofNat 16 (statusOf d.outcomes) ∧
        e.flips = BitVec.ofNat 8 (if dFence d.bytes then 0 else flipBits d.bytes) ∧
        e.checks = (if dFence d.bytes then [] else [(d.attempts, cs)])) ∧
      t.drinex.echoes.contains (x.val, q.val, true, d.seq) = true)) ∧
  (∀ (s : State) (x : CtxId) (q : QueueId) (d : HostDesc) (rest : List HostDesc) (m : Memory), s.wf = true →
    s.queueObjs.snapBusy = false → (s.queue x q).descs = d :: rest → (s.queue x q).configured = true → d.isCommitted = true → s.device ≠ .bootLimited →
    s.drinex.echoes.contains (x.val, q.val, true, d.seq) = false → s.mem.relocating = none →
    dSigEn d.bytes = false → dIrq d.bytes = false → (s.ctx x).replaySet.contains (q.val, d.seq) = false →
    writeMem s s.mem none ((s.queue x q).cringBase + d.seq.toNat % 512 * 32) (hostRecord s x q d) = (m, none) →
    Goes (exec (.commitComplete x q) s) (fun t =>
      t.mem = m ∧ (t.queue x q).descs = rest ∧ (t.queue x q).complete = d.seq + 1 ∧
      (∀ g ∈ s.coresFor x q d.seq, (t.core g).job = none) ∧
      (2 ≤ d.status.toNat → (t.ctx x).vts = (s.ctx x).vts) ∧
      (d.status.toNat < 2 → byteAt d.bytes 8 = 5 → (t.ctx x).vts = smSet {} (s.ctx x).vts (hOpId d.bytes)
        { slot0 := BitVec.ofNat 48 (hAddr0 d.bytes), slot1 := BitVec.ofNat 48 (hAddr1 d.bytes), current := hCurrent d.bytes }) ∧
      ((s.ctx x).replayed = [] → t.counters = s.counters) ∧
      { t with mem := s.mem, contexts := s.contexts, cores := s.cores, counters := s.counters } = s))

/-- R225, R232 to R236: replay and cascades, snapshots, the journal's relocation, and parts that leave service. The model's choices in it: log
entries 60, 102, 149 and 150. -/
def Obligations.RecoverySnapshotsAndLosses : Prop :=
  ((∀ (s : State) (x : CtxId) (k : Nat) (h : HostDesc), s.wf = true → s.queueObjs.snapBusy = false → replayHead s x = some (k, h) →
       (s.ctx x).st = .ready ∨ (s.ctx x).st = .recovering → replayWaits s x (replayGroup s x h) = false → (∀ e ∈ (s.ctx x).allDescs, e.2.call = none) →
       Goes (exec (.replay x) s) (fun t =>
         (t.ctx x).st = .recovering ∧ (t.ctx x).replaySet.contains (k, h.seq) = true ∧
         (∀ r ∈ h.named, (t.ctr r.1).frozen = false → (t.ctr r.1).monotonic = true) ∧ t.mem = s.mem)) ∧
     (∀ (s : State) (x : CtxId) (q : QueueId) (seq : BitVec 64) (k : Cascade), s.wf = true → s.queueObjs.snapBusy = false →
       (s.ctx x).cascades.find? (fun k => k.queue == q.val && decide (k.seq = seq)) = some k → k.started = true →
       cascadeNext (s.ctx x) k = none → (∀ m ∈ k.members, ∀ d ∈ (s.ctx x).allDescs, ¬(d.1 = m.1 ∧ d.2.seq = m.2)) →
       markUnderWay s x k.vids = false →
       Goes (exec (.cancelCascade x q seq) s) (fun t =>
         (∀ e ∈ (t.ctx x).cascades, ¬(e.queue = q.val ∧ e.seq = seq)) ∧
         (∀ v ∈ k.vids, trValid (s.transEntry x v) = true → trKind (s.transEntry x v) = 0 →
           (s.ctr (trTarget (s.transEntry x v))).waiters = [] → (t.ctr (trTarget (s.transEntry x v))).cancelled = false ∧
           (t.ctr (trTarget (s.transEntry x v))).produced = 0) ∧
         { t with contexts := s.contexts, counters := s.counters } = s)) ∧
     (∀ (s : State) (x : CtxId) (q : QueueId) (seq : BitVec 64) (k : Cascade), s.wf = true →
       (s.ctx x).cascades.find? (fun k => k.queue == q.val && decide (k.seq = seq)) = some k → k.started = false →
       Goes (exec (.cancelCascade x q seq) s) (fun t =>
         ∃ k', k' ∈ (t.ctx x).cascades ∧ k'.queue = q.val ∧ k'.seq = seq ∧ k'.started = true))) ∧
  ((∀ (s : State) (acc : Accessor) (r : Nat),
       let s0 := touchSelects s acc
       let a := s.queueObjs.snapAddress.toNat
       Admitted s acc 0x5000 3 = true → s.queueObjs.snapBusy = false → a % 4096 = 0 → s0.rangeOk none a snapshotBytes = true →
       s0.regionId a = some r → r ≤ 16 →
       exec (.snapshotCommand acc) s = Replied acc (takeSnapshot { s0 with
         queueObjs := { s.queueObjs with snapBusy := true, snapDone := 0 } } a)) ∧
     (∀ (s : State) (x : CtxId) (q : QueueId) (seq : BitVec 64) (p : Fin 65536) (a : BitVec 32) (w : Actor) (k : Fin 256) (m : Nat)
         (f : Frame) (comm n : BitVec 32) (j : Nat) (det : Detect) (rd ix : BitVec 3) (src : BitVec 14),
       ∀ c ∈ [Instr.accept x q, .acceptAdvance x q, .run x q, .planLoad x q, .planUnload x q, .planUnloadTakeEffect x, .sync x q, .vtSet x q,
         .commit x q, .commitComplete x q, .replay x, .cancelCascade x q seq, .contextResetFinish x, .journalRelocationComplete,
         .counterSignal p a w, .counterWait p w, .counterGrant p, .cancelMark p, .barrierEnter x k m w, .transitUp f, .transitDown f, .abort f,
         .rerun f, .credit f, .chunkCombine comm n j det, .slotWaitTimeout comm n, .transitTimeout comm n rd ix, .collectiveDeadline comm n,
         .tailSignalApply src],
       exec c s = exec c (if s.queueObjs.snapBusy = true then
         raise { s with queueObjs := { s.queueObjs with snapBusy := false, snapDone := 1 } } 0x38E else s)) ∧
     (∀ s : State, s.queueObjs.snapBusy = true →
       exec .snapshotDone s = .next (raise { s with queueObjs := { s.queueObjs with snapBusy := false, snapDone := 1 } } 0x38E)) ∧
     (∀ (s : State) (lost : Fin 8) (r c : Nat) (rest : List Nat), s.mem.journal.contains lost.val = true →
       s.mem.channels.getLsbD lost = false → s.mem.journal.filter (· ≠ lost.val) = r :: rest →
       (let can (k : Nat) : Prop := k < 8 ∧ k / 4 = lost.val / 4 ∧ k ≠ lost.val ∧ s.mem.channels.getLsbD k = true ∧ k ∉ r :: rest
        can c ∧ ∀ k < c, ¬can k) →
       Goes (exec (.journalRelocate lost) s) (fun t =>
         t.mem = { s.mem with journal := r :: rest, relocating := some (r, c) })) ∧
     (∀ (s : State) (r c : Nat), s.wf = true → s.mem.relocating = some (r, c) →
       Goes (exec .journalRelocationComplete s) (fun t =>
         t.mem.journal = s.mem.journal ++ [c] ∧ t.mem.relocating = none ∧
         (∀ i < journalBytes, t.mem.byte (channelBase c + i) = s.mem.byte (channelBase r + i)) ∧
         (∀ a, (a < channelBase c ∨ channelBase c + journalBytes ≤ a) → t.mem.byte a = s.mem.byte a))) ∧
     (∀ (s : State) (d : Fin 2), Goes (exec (.partLost (.computeDie d)) s) (fun t =>
       (∀ g : CoreId, g.val / 96 = d.val → t.present g = false) ∧ (∀ i < 6, t.mem.hbmStacks.getLsbD (6 * d.val + i) = false))) ∧
     (∀ (s : State) (h : Fin 12), Goes (exec (.partLost (.stack h)) s) (fun t =>
       t.mem = { s.mem with hbmStacks := s.mem.hbmStacks &&& ~~~(1#12 <<< h.val) })) ∧
     (∀ (s : State) (m : Fin 8), Goes (exec (.partLost (.ddr m)) s) (fun t =>
       t.mem = { s.mem with channels := s.mem.channels &&& ~~~(1#8 <<< m.val) })) ∧
     (∀ (s : State) (d : Fin 2), Goes (exec (.partLost (.ioDie d)) s) (fun t =>
       (∀ i < 4, t.mem.channels.getLsbD (4 * d.val + i) = false) ∧
       (d.val = 0 → t.drinex.st = (if s.drinex.st = 4 then 4 else 0) ∧ t.dict.busState = 2))) ∧
     (∀ s : State, Goes (exec (.partLost .adapter) s) (fun t => t.drinex.st = (if s.drinex.st = 4 then 4 else 0) ∧ t.mem = s.mem)))


/-! ### Synchronisation (08) -/

/-- R186 to R189: a signal adds its amount to a counter, freezes a service-mode counter that it would overflow, and, where it is the signal of a
message on its way, releases that message's reservation; a signal at a frozen counter leaves it as it is. The model's choices in it: log entry 29.
-/
def Obligations.SignalsReachCounters : Prop :=
  ∀ (s : State) (p : Fin 65536) (a : BitVec 32) (src : Actor), s.wf = true → s.queueObjs.snapBusy = false →
    let c := s.ctr p
    let sum := c.produced + BitVec.ofNat 64 a.toNat
    let quiet := ∀ m ∈ s.signals, m.cancel = true ∨ m.src ≠ src
    (quiet → c.frozen = false → c.monotonic = true ∨ c.produced.toNat + a.toNat ≤ c.buffers.toNat →
      exec (.counterSignal p a src) s = .next (s.setCtr p { c with produced := sum })) ∧
    (quiet → c.frozen = false → c.monotonic = false → c.buffers.toNat < c.produced.toNat + a.toNat → a ≠ 0 →
      Goes (exec (.counterSignal p a src) s) (fun t =>
        t.ctr p = { c with frozen := true, cancelled := true, cause := 2, waiters := [] } ∧
        t.syncFaults = satAdd s.syncFaults 1 ∧ t.rel.recordCount = s.rel.recordCount + 1 ∧
        (∀ k, k ≠ p.val → t.ctr k = s.ctr k) ∧ t.mem = s.mem)) ∧
    (∀ m rest, s.signals = m :: rest → m.cancel = false → m.src = src → m.target s = (0, p.val) → m.amount.toNat = a.toNat →
      c.frozen = false → c.monotonic = true →
      exec (.counterSignal p a src) s = .next ({ s with signals := rest }.setCtr p
        { c with produced := sum, reserved := if m.reserved then c.reserved - a else c.reserved })) ∧
    (quiet → c.frozen = true → Goes (exec (.counterSignal p a src) s) (fun t =>
      (∀ k, t.ctr k = s.ctr k) ∧ t.mem = s.mem ∧ t.cores = s.cores))

/-- R186, R188, R193, R194: a wait joins the waiters of its counter; a grant takes one credit and releases the first of them; a cancel mark releases
them all. The model's choices in it: log entries 29 and 30. -/
def Obligations.WaitersAreGrantedInOrder : Prop :=
  ∀ (s : State) (p : Fin 65536), s.wf = true → s.queueObjs.snapBusy = false →
    let c := s.ctr p
    (∀ (u : UnitKind) (g : CoreId) seq e, s.mayWait p (.core u g seq) = true → c.cancelled = false → c.frozen = false →
      findEntry (s.unitOf u g).window seq = some e →
      Goes (exec (.counterWait p (.core u g seq)) s) (fun t =>
        t.ctr p = { c with waiters := c.waiters ++ [.core u g seq] } ∧
        (∃ e', findEntry (t.unitOf u g).window seq = some e' ∧ e'.queued = true ∧ e'.desc = e.desc) ∧
        { t with counters := s.counters, cores := s.cores } = s)) ∧
    (∀ (u : UnitKind) (g : CoreId) seq e rest, c.waiters = .core u g seq :: rest → c.frozen = false → c.cancelled = false → c.eligible = true →
      findEntry (s.unitOf u g).window seq = some e →
      Goes (exec (.counterGrant p) s) (fun t =>
        t.ctr p = (if c.monotonic then { c with waiters := rest, grants := c.grants + 1, consumed := c.consumed + 1 }
          else { c with waiters := rest, grants := c.grants + 1, produced := c.produced - 1 }) ∧
        (∃ e', findEntry (t.unitOf u g).window seq = some e' ∧ e'.granted = true ∧ e'.desc = e.desc) ∧
        { t with counters := s.counters, cores := s.cores } = s)) ∧
    (c.frozen = false → Goes (exec (.cancelMark p) s) (fun t =>
      t.ctr p = { c with cancelled := true, waiters := [] } ∧ (∀ k, k ≠ p.val → t.ctr k = s.ctr k) ∧
      (∀ (u : UnitKind) (g : CoreId) seq e, .core u g seq ∈ c.waiters → findEntry (s.unitOf u g).window seq = some e →
        ∃ e', findEntry (t.unitOf u g).window seq = some e' ∧ e'.cancelled = true) ∧
      { t with counters := s.counters, cores := s.cores, contexts := s.contexts, signals := s.signals } = s))

/-- R199 to R201: a member enters a barrier of one module once and, early, a second time; the last entry completes the round; a third entry poisons
the barrier with a fault record; a poisoned barrier takes no entry. The model's choices in it: log entry 29. -/
def Obligations.BarriersTakeEntries : Prop :=
  ∀ (s : State) (x : CtxId) (k : Fin 256) (m : Nat) (src : Actor), s.wf = true → s.queueObjs.snapBusy = false →
    let b := s.barrier x k
    b.comm = none → s.signals = [] →
    (b.poisoned = false → m ∈ b.members → m ∉ b.e0 → (∃ n ∈ b.members, n ≠ m ∧ n ∉ b.e0) →
      exec (.barrierEnter x k m src) s = .next (s.setBarrier x k { b with e0 := m :: b.e0 })) ∧
    (b.poisoned = false → m ∈ b.members → m ∉ b.e0 → (∀ n ∈ b.members, n = m ∨ n ∈ b.e0) → (∃ n ∈ b.members, n ∉ b.e1) →
      Goes (exec (.barrierEnter x k m src) s) (fun t =>
        t.barrier x k = { b with gen := b.gen + 1, e0 := b.e1, e1 := [] } ∧
        { t with contexts := s.contexts, cores := s.cores } = s)) ∧
    (b.poisoned = false → m ∈ b.members → m ∈ b.e0 → m ∉ b.e1 →
      exec (.barrierEnter x k m src) s = .next (s.setBarrier x k { b with e1 := m :: b.e1 })) ∧
    (b.poisoned = false → m ∈ b.members → m ∈ b.e0 → m ∈ b.e1 →
      Goes (exec (.barrierEnter x k m src) s) (fun t =>
        t.barrier x k = { b with poisoned := true, overrun := true } ∧
        t.rel.recordCount = s.rel.recordCount + 1 ∧ t.mem = s.mem)) ∧
    (b.poisoned = true → exec (.barrierEnter x k m src) s = .next s)

/-- R206: the counter commands act on the counter that the port class has selected, under the conditions of the table. The model's choices in it:
log entry 60. -/
def Obligations.CounterCommandsAct : Prop :=
  ∀ (s : State) (acc : Accessor), s.wf = true → s.queueObjs.snapBusy = false → Admitted s acc 0x2C00 5 = true →
    let s0 := touchSelects s acc
    let x := (s.selects acc).syncCtx.toNat
    let v := (s.selects acc).syncVid.toNat
    let e := s.transEntry x v
    let p := trTarget e
    let c := s.ctr p
    trValid e = true → trKind e = 0 →
    (∀ n : BitVec 64, n.toNat < 2 ^ 32 → c.frozen = false → c.monotonic = true ∨ c.produced.toNat + n.toNat ≤ c.buffers.toNat →
      exec (.signalCmd acc n) s = Replied acc (s0.setCtr p { c with produced := c.produced + n })) ∧
    (∀ n : BitVec 64, n.toNat < 2 ^ 32 → c.frozen = false → c.monotonic = false → n.toNat ≤ c.produced.toNat →
      exec (.debit acc n) s = Replied acc (s0.setCtr p { c with produced := c.produced - n })) ∧
    (∀ n : BitVec 64, n.toNat < 2 ^ 32 → c.frozen = false → c.monotonic = false → c.produced.toNat < n.toNat →
      Answered (exec (.debit acc n) s) acc (fun u =>
        u.ctr p = { c with frozen := true, cancelled := true, cause := 1, waiters := [] } ∧
        u.syncFaults = satAdd s.syncFaults 1 ∧ u.rel.recordCount = s.rel.recordCount + 1)) ∧
    (∀ n : BitVec 64, c.frozen = false → c.monotonic = true → s.producerNames x p = false →
      exec (.setProduced acc n) s = Replied acc (s0.setCtr p { c with produced := n })) ∧
    (∀ n : BitVec 64, c.frozen = false → c.monotonic = true → c.waiters = [] →
      exec (.setConsumed acc n) s = Replied acc (s0.setCtr p { c with consumed := n })) ∧
    (c.frozen = false → s.counterIdle x v p = true → c.monotonic = false →
      exec (.setMode acc 1) s = Replied acc (s0.setCtr p { c with monotonic := true, consumed := 0 })) ∧
    (c.frozen = false → s.counterIdle x v p = true → c.monotonic = true → 0 ≤ c.diff → c.diff ≤ c.buffers.toNat →
      exec (.setMode acc 0) s = Replied acc (s0.setCtr p { c with monotonic := false, produced := c.produced - c.consumed, consumed := 0 })) ∧
    (c.waiters = [] → exec (.clear acc) s =
      Replied acc (s0.setCtr p { c with produced := 0, consumed := 0, frozen := false, cancelled := false, cause := 0 })) ∧
    (c.frozen = false → Answered (exec (.cancel acc) s) acc (fun u =>
      u.ctr p = { c with cancelled := true, waiters := [] } ∧ (∀ k, k ≠ p → u.ctr k = s.ctr k) ∧ u.mem = s.mem))


/-! ### Training support (10) -/

/-- R248, R250, R251: an update whose reduced gradients have come writes its shard and counts its elements; an element with a non-finite input is
skipped, with every slot as it was read. The model's choices in it: log entries 40 and 41. -/
def Obligations.UpdatesWriteTheShard : Prop :=
  (∀ (s : State) (x : CtxId) (q : QueueId) (sent : List SentSum) (grads : List (Nat × ExactVal)) (det : Detect) (i : Instance) (c : Call),
    inRun det = true → updSums s i c sent = some grads → grads ≠ [] → i.desc.isSome = true →
    let r := updRun s det c grads
    r.status = 0 →
    let wrote (t : State) : Prop := t.mem = r.s.mem ∧ t.training = { s.training with
        updElements := satAdd s.training.updElements r.done, updSkips := satAdd s.training.updSkips r.skips } ∧
      { t with mem := s.mem, training := s.training, contexts := s.contexts, coll := s.coll } = s
    (updCall s x q 0x30 0x31 = some (i, c) → Goes (exec (.upd x q sent det) s) wrote) ∧
    (updCall s x q 0x32 0x33 = some (i, c) → Goes (exec (.upda x q sent det) s) wrote)) ∧
  (∀ (f : Fmt) (mode u : Nat) (p : Nat → Nat) (mom : Bool) (i : UpdIn),
    (exactFinite i.s = false ∨ exactFinite (fpVal (rnTimes i.s (p 0)).bits) = false ∨ exactFinite (f.decode i.w) = false ∨
      (mom = true ∧ exactFinite (fpVal i.m) = false)) →
    let o := updElem f mode u p mom i
    o.skip = true ∧ o.w = i.w ∧ o.m = i.m ∧ o.v = i.v) ∧
  (∀ (f : Fmt) (mode u : Nat) (p : Nat → Nat) (i : UpdIn),
    (exactFinite i.s = false ∨ exactFinite (fpVal (rnTimes i.s (p 0)).bits) = false ∨ exactFinite (f.decode i.w) = false ∨
      exactFinite (fpVal i.m) = false ∨ exactFinite (fpVal i.v) = false) →
    let o := updaElem f mode u p i
    o.skip = true ∧ o.w = i.w ∧ o.m = i.m ∧ o.v = i.v)

/-- R256, R258 to R264: a phase whose maps name this module alone flips, and rows that its map moves stand on their new engine; a sampled tile is
recomputed and compared, and its bin follows the relative difference. The model's choices in it: log entries 42, 104, 145, 146 and 147. -/
def Obligations.PhasesFlipAndTilesAreWatched : Prop :=
  ((∀ (s : State) (x : CtxId) (p : Plan) (q : Nat), s.wf = true →
       let c := s.ctx x
       c.plan = some p → nextPhase p c.phase = some q → c.permute = none →
       (c.flipping = false ∧ c.st = .ready ∧ flipReady c p q = true ∧ movedTensors p c.phase q = []) ∨
         (c.flipping = true ∧ c.flipTensors = [] ∧ (c.flipStage = 2 ∨ 4 ≤ c.flipStage)) →
       (∀ e ∈ p.phases, (e.kind = 2 ∨ e.kind = 3) → (e.phase = c.phase ∨ e.phase = q) → e.modId = s.me) ∨
         p.comms.find? (·.flip) = none →
       Goes (exec (.phaseFlip x) s) (fun t =>
         t.ctx x = { c with phase := q, flipping := false, flipStage := 0, flipTensors := [], flipCount := satAdd c.flipCount 1 } ∧
         (rowMoves s p c.phase q = [] → t.cores = s.cores) ∧
         (∀ (g h : Nat), rowMoves s p c.phase q = [(g, h)] → (s.core g).owner = some x → (s.core h).owner = none ∨ (s.core h).owner = some x →
           smWf 0#32 (s.core g).tags = true → smWf {} (s.core g).skein = true →
           smWf 0#32 (s.core h).tags = true → smWf {} (s.core h).skein = true →
           (∀ r, tagValid ((s.core g).tag r) = true → (t.core h).tag r = (s.core g).tag r ∧
             ∀ col < 512, smGet {} (t.core h).skein (r * 512 + col) = smGet {} (s.core g).skein (r * 512 + col)) ∧
           (∀ k, k ≠ h → t.core k = s.core k)) ∧
         { t with contexts := s.contexts, cores := s.cores } = s)) ∧
     (∀ (s : State) (g : CoreId) (seq j : BitVec 64) (d : Bytes) (x : CtxId) (q : QueueId) (p : Plan) (h : HostDesc) (o : OpRec), s.wf = true →
       (s.core g).watch = some (seq, d) → (s.core g).owner = some x → (s.core g).job = some (q, j) → (s.core g).work = [] →
       (s.ctx x).plan = some p → s.desc? x q j = some h → p.op (hOpId h.bytes) = some o →
       (∀ pairs, watchPairs s p o h d = .ok pairs →
         let event := ∃ e ∈ pairs, watchCompare e.1 e.2 = none ∨ watchOver s.training.threshold.toInt e.1 e.2 = true
         Goes (exec (.watchRecompute g seq .clean) s) (fun t =>
           (t.core g).watch = none ∧ t.training.sampled = satAdd s.training.sampled 1 ∧
           (event → t.training.events = satAdd s.training.events 1 ∧ t.training.nextSlot = (s.training.nextSlot + 1) % 16) ∧
           (¬event → t.training.events = s.training.events ∧ t.training.slots = s.training.slots) ∧ t.mem = s.mem)) ∧
       (∀ err, watchPairs s p o h d = .error err →
         Goes (exec (.watchRecompute g seq .clean) s) (fun t => (t.core g).watch = none ∧ t.training = s.training ∧
           t.rel.recordCount = s.rel.recordCount + 1 ∧ t.mem = s.mem)) ∧
       (∀ n, Goes (exec (.watchRecompute g seq (.parity n)) s) (fun t => (t.core g).watch = none ∧ t.training = s.training ∧
         t.rel.recordCount = s.rel.recordCount + 1 ∧ t.mem = s.mem))) ∧
     (∀ (s : State) (g : CoreId) (seq w : BitVec 64) (d : Bytes) (det : Detect), (s.core g).watch = some (w, d) → w ≠ seq →
       exec (.watchRecompute g seq det) s = .next s) ∧
     (∀ (s : State) (acc : Accessor), Admitted s acc 0x2810 7 = true →
       let s0 := touchSelects s acc
       exec (.watchClearCounts acc) s = Replied acc { s0 with training :=
         { s.training with sampled := 0, mismatches := 0, events := 0, histogram := [] } } ∧
       exec (.watchClearEvents acc) s = Replied acc { s0 with training := { s.training with slots := [], nextSlot := 0 } })) ∧
  (∀ (mn en mw ew : Int),
       let lo := min en ew
       let diff := mn * 2 ^ (en - lo).toNat - mw * 2 ^ (ew - lo).toNat
       (diff = 0 ↔ watchBin mn en mw ew = 0) ∧ (diff ≠ 0 → mw = 0 → watchBin mn en mw ew = 15) ∧
       (∀ k : Nat, 2 ≤ k → k ≤ 14 → (watchBin mn en mw ew = k ↔ diff ≠ 0 ∧ mw ≠ 0 ∧
         ratioAtLeast diff lo mw ew (2 * (k : Int) - 32) = true ∧ ratioAtLeast diff lo mw ew (2 * (k : Int) - 30) = false)) ∧
       (diff ≠ 0 → mw ≠ 0 → (watchBin mn en mw ew = 1 ↔ ratioAtLeast diff lo mw ew (-28) = false)))


/-! ### Fabric (11) -/

/-- R267 to R269: a port trains, reports what its switch said, goes up under the module's ID or is MISCABLED with a fault record, and goes down; the
module adopts an ID; the port commands; credits, resends and uncorrectable codewords. The model's choices in it: log entries 36, 43, 44 and 137. -/
def Obligations.FabricPortsChangeState : Prop :=
  ∀ (s : State) (p : Fin 64), s.wf = true →
    let k := s.port p
    (k.st = 0 → s.portsTrain = true → Goes (exec (.portTrainStart p) s) (fun t =>
      t.port p = { k.idle with st := 1, reported := none, plane := none } ∧ t.mem = s.mem)) ∧
    (∀ plane sw swPort m cr, k.st = 1 →
      (plane = p.val / 8 → s.fabric.moduleId = none → Goes (exec (.portTrained p plane sw swPort { moduleId := m, credits := cr }) s) (fun t =>
        (t.port p).st = 1 ∧ (t.port p).reported = some m ∧ (t.port p).plane = some plane ∧ (t.port p).credits = cr)) ∧
      (plane = p.val / 8 → s.fabric.moduleId = some m → Goes (exec (.portTrained p plane sw swPort { moduleId := m, credits := cr }) s) (fun t =>
        (t.port p).st = 2 ∧ (t.port p).reported = some m ∧ (t.port p).rxCount = 0 ∧ (t.port p).txCount = 0 ∧ (t.port p).credits = cr)) ∧
      (plane ≠ p.val / 8 ∨ (∃ m', s.fabric.moduleId = some m' ∧ m' ≠ m) → Goes (exec (.portTrained p plane sw swPort { moduleId := m, credits := cr }) s) (fun t =>
        (t.port p).st = 3 ∧ t.rel.recordCount = s.rel.recordCount + 1))) ∧
    (∀ m r, s.fabric.moduleId = none → mostReported s.fabric = some m → k.st = 1 → k.reported = some r →
      Goes (exec .moduleIdAdopt s) (fun t => t.fabric.moduleId = some m ∧
        (t.port p).st = (if r = m ∧ k.plane = some (p.val / 8) then 2 else 3) ∧ t.mem = s.mem)) ∧
    (∀ why, (k.st = 1 → Goes (exec (.portDown p why) s) (fun t => t.port p = { k with st := 0 })) ∧
      (k.st = 2 → ¬(k.downHour = s.rel.hours ∧ 7 ≤ k.downsInHour) → Goes (exec (.portDown p why) s) (fun t =>
        (t.port p).st = 0 ∧ (t.port p).downs = satAdd k.downs 1 ∧ t.rel.recordCount = s.rel.recordCount ∧ t.mem = s.mem)) ∧
      (k.st = 2 → k.downHour = s.rel.hours → 7 ≤ k.downsInHour → Goes (exec (.portDown p why) s) (fun t =>
        (t.port p).st = 5 ∧ (t.port p).downs = satAdd k.downs 1))) ∧
    (∀ acc : Accessor, Admitted s acc 0x3001 4 = true →
      let n := (s.selects acc).port.toNat
      let st := (s.port n).st
      (st = 4 ∨ st = 5 → Answered (exec (.portEnable acc) s) acc (fun u => (u.port n).st = 0 ∧ (u.port n).downsInHour = 0)) ∧
      (st ≠ 4 → st ≠ 5 → exec (.portEnable acc) s = Replied acc (touchSelects s acc)) ∧
      (st ≠ 5 → Answered (exec (.portDisable acc) s) acc (fun u => u.port n = { (s.port n).idle with st := 4 })) ∧
      (st ≠ 4 → st ≠ 5 → Answered (exec (.portRetrain acc) s) acc (fun u =>
        u.port n = { (s.port n).idle with st := 1, reported := none, plane := none })) ∧
      (st = 4 ∨ st = 5 → exec (.portRetrain acc) s = Replied acc (touchSelects s acc))) ∧
    (∀ vc units, k.st = 2 →
      (k.queue = [] → Goes (exec (.linkControlFrame p (.credits vc units)) s) (fun t =>
        t.port p = { k with credits := k.credits.set vc (k.credits.getD vc 0 + units) } ∧ t.out = s.out)) ∧
      (∀ q, k.queue = [q] → q.vc.toNat = vc.val → k.credits.length = 4 → q.cost ≤ k.credits.getD vc 0 + units →
        Goes (exec (.linkControlFrame p (.credits vc units)) s) (fun t =>
          (t.port p).queue = [] ∧ (t.port p).txCount = k.txCount + 1 ∧
          (t.port p).credits = k.credits.set vc (k.credits.getD vc 0 + units - q.cost) ∧ t.out = .packet q :: s.out))) ∧
    (∀ n, k.st = 2 →
      (k.txCount ≤ n → exec (.linkControlFrame p (.resend n)) s = .next s) ∧
      (n < k.txCount → ¬(k.resent.1 = n ∧ 7 ≤ k.resent.2) → Goes (exec (.linkControlFrame p (.resend n)) s) (fun t =>
        t.port p = { k with retries := satAdd k.retries 1, resent := (n, if k.resent.1 = n then k.resent.2 + 1 else 1) } ∧
        t.out = ((k.replay.drop (k.replay.length - (k.txCount - n))).map Output.packet).reverse ++ s.out)) ∧
      (n < k.txCount → k.resent.1 = n → 7 ≤ k.resent.2 → Goes (exec (.linkControlFrame p (.resend n)) s) (fun t =>
        (t.port p).st ≠ 2 ∧ (t.port p).downs = satAdd k.downs 1))) ∧
    (∀ n, k.st = 2 → Goes (exec (.uncorrectableCodeword p n) s) (fun t =>
      t.port p = { k with uncorrectable := satAdd k.uncorrectable 1, discard := n } ∧ t.out = .linkControl p (.resend k.rxCount) :: s.out))

/-- R273 to R275, R280 to R282: a fresh request takes its effect once and its tag is marked applied; a held trailer signals its counter; RESYNC
begins the tracker anew. The model's choices in it: log entries 33, 35, 38, 39 and 61. -/
def Obligations.FabricRequestsAreServed : Prop :=
  ∀ (s : State) (p : Packet),
    let a := s.arrived p
    let ad := p.address.toNat
    let src := p.src.toNat
    (Arrives s p 1 = true → FreshRequest s p = true →
      (let n := leAt p.payload 0 2 % 512
       ∀ bs, 0 < n → n ≤ 384 → reachable a ad n = none → readMem a a.mem n ad = .ok bs →
        exec (.loadReq p) s = .next (markApplied (answer a src 2 p.tag (padTo (roundUp n 8) bs)) p))) ∧
    (∀ m, Arrives s p 3 = true → FreshRequest s p = true → ad % 8 = 0 → reachable a ad (pktBody p).length = none →
      writeMem a a.mem none ad (pktBody p) = (m, none) → exec (.store p) s = .next (markApplied { a with mem := m } p)) ∧
    (∀ m, Arrives s p 4 = true → FreshRequest s p = true →
      (let bs := (p.payload.drop 8).take (byteAt p.payload 0 % 64)
       reachable a ad bs.length = none → writeMem a a.mem none ad bs = (m, none) →
        exec (.storeBytes p) s = .next (markApplied { a with mem := m } p))) ∧
    (Arrives s p 5 = true → FreshRequest s p = true → (serveSkein a p).2 = (none, true) →
      exec (.skeinAdd p) s = .next (markApplied (serveSkein a p).1 p)) ∧
    (∀ b old v m, Arrives s p 6 = true → FreshRequest s p = true → byteAt p.payload 1 = b → b = 4 ∨ b = 8 → ad % b = 0 →
      reachable a ad b = none → atomicMemory a ad = true → readMem a a.mem b ad = .ok old →
      intOp (byteAt p.payload 0) (8 * b) (leNat old) (leAt p.payload 8 b) = some v → writeMem a a.mem none ad (leBytes b v) = (m, none) →
      Goes (exec (.intAtomic p) s) (fun t => t.mem = m ∧
        (if src % 2 = 0 then t.fabric.results0 else t.fabric.results1).head? = some (p.src, p.tag, BitVec.ofNat 64 (leNat old)))) ∧
    (Arrives s p 8 = true → FreshRequest s p = true → Goes (exec (.signal p) s) (fun t =>
      (∃ h, (t.tracker src).trailers = (s.tracker src).trailers ++ [h] ∧ h.tag = p.tag ∧ h.ctx.toNat = byteAt (pktTrailer p) 4 ∧
        h.amount.toNat = byteAt (pktTrailer p) 5 / 2 ∧ h.cancel = bitAt (byteAt (pktTrailer p) 5) 0) ∧ t.mem = s.mem ∧ t.counters = s.counters)) ∧
    (Arrives s p 9 = true → FreshRequest s p = true →
      (let x := byteAt p.payload 0
       let q := byteAt p.payload 1 % 8
       let k := s.queue x q
       let nt := BitVec.ofNat 64 (leAt p.payload 8 8)
       let nr := BitVec.ofNat 64 (leAt p.payload 16 8)
       (s.ctx x).peerOpen = true → k.configured = true → k.fabric = true → namesPeer (s.ctx x) src = true →
       nt ≠ BitVec.allOnes 64 → nr ≠ BitVec.allOnes 64 → k.tail.toNat ≤ nt.toNat → nt.toNat ≤ k.accept.toNat + 2 ^ k.ringLog2 →
       k.release.toNat ≤ nr.toNat → nr.toNat ≤ k.complete.toNat →
       Goes (exec (.fabricDoorbell p) s) (fun t => t.queue x q = { k with tail := nt, release := nr } ∧ t.mem = s.mem))) ∧
    (Arrives s p 0x0A = true → FreshRequest s p = true →
      exec (.dictReq p) s = .next (markApplied (usdoServe (serveTap a) (.fabric p.src p.tag) p.payload) p)) ∧
    (Arrives s p 0x0E = true → s.device ≠ .bootLimited → (s.tracker src).live = true ∨ trackerFree s src = true →
      Goes (exec (.resync p) s) (fun t => t.tracker src = { live := true, cum := p.tag } ∧
        t.fabric.tailInvalid = satAdd s.fabric.tailInvalid (s.tracker src).trailers.length ∧
        t.fabric.resyncs = satAdd s.fabric.resyncs 1 ∧ t.mem = s.mem)) ∧
    (∀ (n : BitVec 14) (h : HeldTrailer), s.wf = true → (s.tracker n.toNat).live = true →
      (s.tracker n.toNat).trailers.find? (fun h => decide ((h.tag - (s.tracker n.toNat).cum).toNat ≥ 2 ^ 31)) = some h →
      (let e := s.transEntry h.ctx.toNat h.vid.toNat
       let c := s.ctr (trTarget e)
       trValid e = true → trKind e = 0 → c.frozen = false →
       (h.cancel = false → c.monotonic = true ∨ c.produced.toNat + h.amount.toNat ≤ c.buffers.toNat →
         Goes (exec (.tailSignalApply n) s) (fun t =>
           t.ctr (trTarget e) = { c with produced := c.produced + BitVec.ofNat 64 h.amount.toNat } ∧
           (t.tracker n.toNat).trailers = (s.tracker n.toNat).trailers.filter (fun k => decide (k.tag ≠ h.tag)))) ∧
       (h.cancel = true → Goes (exec (.tailSignalApply n) s) (fun t =>
         t.ctr (trTarget e) = { c with cancelled := true, waiters := [] })))) ∧
    (∀ (n : BitVec 14) (h : HeldTrailer), s.wf = true → (s.tracker n.toNat).live = true →
      (s.tracker n.toNat).trailers.find? (fun h => decide ((h.tag - (s.tracker n.toNat).cum).toNat ≥ 2 ^ 31)) = some h →
      (let e := s.transEntry h.ctx.toNat h.vid.toNat
       let c := s.ctr (trTarget e)
       let dropped (t : State) : Prop := t.counters = s.counters ∧ t.rel.recordCount = s.rel.recordCount + 1 ∧
         (t.tracker n.toNat).trailers = (s.tracker n.toNat).trailers.filter (fun k => decide (k.tag ≠ h.tag))
       (trValid e = true → trKind e = 0 → c.frozen = true → Goes (exec (.tailSignalApply n) s) (fun t =>
         dropped t ∧ t.tailDiscards = satAdd s.tailDiscards 1)) ∧
       (trValid e = false ∨ trKind e ≠ 0 → Goes (exec (.tailSignalApply n) s) (fun t =>
         dropped t ∧ t.fabric.tailInvalid = satAdd s.fabric.tailInvalid 1))))

/-- R274: "A packet is applied at most once. A packet whose tag is below cum, or whose bit is set, is not applied again; the target only
acknowledges it again." Memory, contexts, counters and cores stay. The model's choices in it: log entry 63. -/
def Obligations.RepeatedPacketsAreNotAppliedAgain : Prop :=
  ∀ (s : State) (p : Packet), (s.tracker p.src.toNat).live = true → (s.tracker p.src.toNat).seen p.tag = true →
    let same (t : State) : Prop := t.mem = s.mem ∧ t.contexts = s.contexts ∧ t.counters = s.counters ∧ t.cores = s.cores ∧
      t.signals = s.signals ∧ ∀ src, t.tracker src = s.tracker src
    let plain (t : State) : Prop := same t ∧ { t with fabric := s.fabric, out := s.out } = s
    Goes (exec (.store p) s) plain ∧ Goes (exec (.storeBytes p) s) plain ∧ Goes (exec (.skeinAdd p) s) plain ∧
    Goes (exec (.intAtomic p) s) plain ∧ Goes (exec (.signal p) s) plain ∧ Goes (exec (.fabricDoorbell p) s) plain ∧
    Goes (exec (.dictReq p) s) plain

/-- R271, R274, R278 to R280: responses and acknowledgements free their packets, a NACK ends its owner, and lost packets, RESYNC among them, are
sent again on another plane until the stream is abandoned. The model's choices in it: log entries 34, 35, 37 and 138. -/
def Obligations.StreamsAreAcknowledgedAndResent : Prop :=
  (∀ (s : State) (p : Packet),
    let a := s.arrived p
    let src := p.src.toNat
    let st := s.stream src
    (∀ o m, Arrives s p 2 = true → StreamIdle s src = true → s.outPacket src p.tag = some o → o.typ = 1 → o.dest < 2 ^ 48 →
      (pktBody p).length = roundUp (leAt o.payload 0 2 % 512) 8 →
      (let cl := match o.owner with
         | .core _ g _ => some (g.val / 8)
         | _ => none
       writeMem a a.mem cl o.dest ((pktBody p).take (leAt o.payload 0 2)) = (m, none) →
        exec (.loadRsp p) s = .next ({ a with mem := m }.setStream src
          { st with
            unacked := st.unacked.filter (fun k => !(decide (k.tag = p.tag)))
            tails := (st.tails ++ ((st.unacked.filter (fun (k : OutPacket) => decide (k.tag = p.tag) && k.tail)).map (fun (k : OutPacket) => (k.tag, k.owner)))).filter
              (fun x => decide ((st.next - x.1).toNat ≤ 131072)) }))) ∧
    (∀ o, Arrives s p 2 = true → s.outPacket src p.tag = some o → o.typ = 1 →
      (pktBody p).length ≠ roundUp (leAt o.payload 0 2 % 512) 8 →
      exec (.loadRsp p) s = .next { a with fabric := { a.fabric with crcDiscards := satAdd a.fabric.crcDiscards 1 } }) ∧
    (Arrives s p 7 = true → StreamIdle s src = true → Goes (exec (.atomicRsp p) s) (fun t =>
      (∀ o, o ∈ (t.stream src).unacked ↔ o ∈ st.unacked ∧ ¬(o.tag = p.tag ∧ o.typ = 6)) ∧ t.mem = s.mem)) ∧
    (Arrives s p 0x0B = true → StreamIdle s src = true → Goes (exec (.dictRsp p) s) (fun t =>
      (∀ o, o ∈ (t.stream src).unacked ↔ o ∈ st.unacked ∧ ¬(o.tag = p.tag ∧ o.typ = 0x0A)) ∧ t.mem = s.mem)) ∧
    (Arrives s p 0x0C = true → StreamIdle s src = true →
      (let cum := BitVec.ofNat 32 (leAt p.payload 0 4)
       let base := BitVec.ofNat 32 (leAt p.payload 4 4)
       Goes (exec (.ack p) s) (fun t =>
        (∀ o, o ∈ (t.stream src).unacked ↔ o ∈ st.unacked ∧ ¬(o.typ ≠ 1 ∧ o.typ ≠ 6 ∧ (2 ^ 31 ≤ (o.tag - cum).toNat ∨
          ((o.tag - base).toNat < 64 ∧ bitAt (leAt p.payload 8 8) (o.tag - base).toNat = true)))) ∧
        (t.stream src).resyncing = (st.resyncing && !(decide (cum = st.next))) ∧
        (st.resyncing = true → cum = st.next → (t.stream src).resync = none) ∧ t.mem = s.mem))) ∧
    (∀ o, Arrives s p 0x0D = true → s.outPacket src p.tag = some o →
      (byteAt p.payload 0 = 5 → Goes (exec (.nack p) s) (fun t =>
        t.fabric.retryAfter.contains (p.src, p.tag) = true ∧ t.stream src = st)) ∧
      (byteAt p.payload 0 = 7 → Goes (exec (.nack p) s) (fun t =>
        (t.stream src).unacked = [] ∧ (t.stream src).resyncing = true)) ∧
      (o.typ = 0x0E → byteAt p.payload 0 ≠ 5 → byteAt p.payload 0 ≠ 7 → Goes (exec (.nack p) s) (fun t =>
        (t.stream src).waiting = [] ∧ t.rel.recordCount = s.rel.recordCount + 1)) ∧
      (o.typ ≠ 0x0E → byteAt p.payload 0 ≠ 5 → byteAt p.payload 0 ≠ 7 → ∀ (u : UnitKind) (g : CoreId) (q : BitVec 64) (e : WinEntry),
        o.owner = .core u g q → findEntry (s.unitOf u g).window q = some e → e.status = 0 →
        Goes (exec (.nack p) s) (fun t => t.rel.recordCount = s.rel.recordCount + 1 ∧
          ∃ e', findEntry (t.unitOf u g).window q = some e' ∧
            e'.status = (if byteAt p.payload 0 = 4 then 0x0501#16 else 0x0701#16)))) ∧
    (Arrives s p 0x0F = true → Goes (exec (.routeFail p) s) (fun t =>
      (t.stream (leAt p.payload 2 2 % 2 ^ 14)).unreachable.contains (p.port.val / 8) = true ∧ t.mem = s.mem))) ∧
  (∀ (s : State) (dst : BitVec 14), s.wf = true →
    let st := s.stream dst.toNat
    (∀ tag o k, s.outPacket dst.toNat tag = some o → s.fabric.moduleId ≠ some dst →
      nextPlane s.fabric ([o.plane] ++ st.unreachable) 8 st.rotor = some k →
      let again (t : State) : Prop := t.outPacket dst.toNat tag = some { o with plane := k, resent := true } ∧
        t.fabric.retransmits = satAdd s.fabric.retransmits 1 ∧ t.mem = s.mem
      Goes (exec (.retransmitTimeout dst tag) s) again ∧
      (s.fabric.retryAfter.contains (dst, tag) = true → Goes (exec (.nackRetryAfter dst tag) s) (fun t =>
        again t ∧ t.fabric.retryAfter.contains (dst, tag) = false))) ∧
    (∀ tag o, s.outPacket dst.toNat tag = some o → Goes (exec (.fabricDeadline dst tag) s) (fun t =>
      (t.stream dst.toNat).unacked = [] ∧ (t.stream dst.toNat).resyncing = true ∧ t.rel.recordCount = s.rel.recordCount + 1)) ∧
    (∀ k, st.resyncing = true → st.resync = none → s.fabric.moduleId ≠ some dst → nextPlane s.fabric st.unreachable 8 st.rotor = some k →
      (let port := s.port (choosePort s.fabric k 0)
       port.queue = [] → 0 < port.credits.getD 0 0 →
       Goes (exec (.resyncRetryTimer dst) s) (fun t => (∃ pk, t.out = .packet pk :: s.out ∧ pk.typ = 0x0E ∧ pk.tag = st.next ∧ pk.dst = dst) ∧
         ∃ o, (t.stream dst.toNat).resync = some o ∧ o.tag = st.next ∧ o.typ = 0x0E))) ∧
    (∀ o, st.resyncing = true → st.resync = some o →
      exec (.resyncRetryTimer dst) s = exec (.retransmitTimeout dst o.tag) s) ∧
    (∀ plane : Fin 8, Goes (exec (.planeProbe dst plane) s) (fun t =>
      t.stream dst.toNat = { st with unreachable := st.unreachable.filter (fun k => decide (k ≠ plane.val)) } ∧
      { t with fabric := s.fabric } = s)) ∧
    ((s.tracker dst.toNat).live = true → (s.tracker dst.toNat).fresh ≠ 0 → Goes (exec (.ackTimer dst) s) (fun t =>
      t.tracker dst.toNat = { s.tracker dst.toNat with fresh := 0 } ∧ t.mem = s.mem)) ∧
    (s.wf = true → Goes (exec (.trackerEvict dst) s) (fun t =>
      t.tracker dst.toNat = {} ∧ (∀ k, k ≠ dst.toNat → t.tracker k = s.tracker k) ∧ { t with fabric := s.fabric } = s)))


/-! ### Collectives and the Transit lane (12) -/

/-- R291, R294, R306, R307, R310 to R313: an UP of a child is kept once; RELEASE DOWN releases the RUN, a poisoned OPEN DOWN ends it with
COLL_MISMATCH while the instance stays until every tree's has passed, an ABORT from above ends it with its status; RERUN begins the next attempt; a CREDIT is kept. The model's choices in it: log entries 20, 28 and 132. -/
def Obligations.TransitFramesMoveInstances : Prop :=
  ∀ (s : State) (f : Frame) (x : Nat) (c : Comm) (i : Instance), s.wf = true →
    FrameArrives s f x c = true →
    s.inst? f.comm f.seq = some i →
    (f.attempt.toNat = i.attempt → fromChild s c f.tree.toNat f = true → i.ups.any (sameFrame f) = false →
      (f.round = 3#3 ∧ i.releaseSent = false) ∨ (f.round = 0#3 ∧ i.dispatched s = false) →
      Goes (exec (.transitUp f) s) (fun t => (∃ j, t.inst? f.comm f.seq = some j ∧ j = { i with ups := i.ups ++ [f] }) ∧
        { t with coll := s.coll } = s)) ∧
    (f.attempt.toNat = i.attempt → fromChild s c f.tree.toNat f = true → i.ups.any (sameFrame f) = true → f.round ≠ 4#3 →
      Goes (exec (.transitUp f) s) (fun t => { t with out := s.out } = s)) ∧
    (∀ q e, f.attempt.toNat = i.attempt → i.st < 6 → fromParent s c f.tree.toNat f = true → i.fromAbove.any (sameFrame f) = false →
      RunOf s i q e →
      (f.round = 3#3 → Goes (exec (.transitDown f) s) (fun t =>
        (∃ e', t.desc? i.ctx q e.seq = some e' ∧ e'.released = true ∧ e'.outcomes = e.outcomes) ∧
        { t with coll := s.coll, contexts := s.contexts, out := s.out } = s)) ∧
      (f.round = 0#3 →
        (let got := roundFrames (i.fromAbove ++ [f]) 0 f.tree.toNat f.src.toNat
         f.tree.toNat ∈ openTrees s i → roundComplete got = true → bitAt (byteAt (openHead got) 14) 0 = true →
         Goes (exec (.transitDown f) s) (fun t => RunMet t i q e 0x0401 ∧ t.coll.mismatches = satAdd s.coll.mismatches 1 ∧
          (∀ tree ∈ openTrees s i, ∀ l, treeParent tree c.members s.me = some l →
            roundComplete (roundFrames (i.fromAbove ++ [f]) 0 tree l.2) = false →
            ∃ j, t.inst? f.comm f.seq = some j ∧ j.st = 6) ∧
          t.mem = s.mem)))) ∧
    (∀ q e, f.round ≠ 4#3 → f.attempt.toNat = i.attempt → fromChild s c 0 f = false → fromParent s c 0 f = true → i.st ≠ 7 →
      RunOf s i q e → Goes (exec (.abort f) s) (fun t => RunMet t i q e (BitVec.ofNat 16 (leAt f.payload 0 2)) ∧ t.mem = s.mem)) ∧
    (byteAt f.payload 0 = i.attempt + 1 → i.attempt + 1 ≤ 3 → i.st < 6 → fromParent s c 0 f = true →
      (i.dispatched s = false ∨ ∀ tree ∈ openTrees s i, treeChildren tree c.members s.me ≠ []) →
      Goes (exec (.rerun f) s) (fun t => t.coll.reruns = satAdd s.coll.reruns 1 ∧ t.mem = s.mem ∧
        ∃ j, t.inst? f.comm f.seq = some j ∧ j.attempt = i.attempt + 1 ∧ j.st = 1 ∧ j.ups = [] ∧ j.fromAbove = [])) ∧
    (f.attempt.toNat = i.attempt → fromParent s c (leAt f.payload 0 6 % 2) f = true → i.credits.contains (leAt f.payload 0 6) = false →
      Goes (exec (.credit f) s) (fun t => (∃ j, t.inst? f.comm f.seq = some j ∧
        j = { i with credits := i.credits ++ [leAt f.payload 0 6] }) ∧ { t with coll := s.coll } = s))

/-- R292, R297, R303, R307, R311: a node combines a chunk whose inputs are all there; a call without a slot is aborted; an unanswered UP is sent
again; a member that misses its deadline ends with FABRIC_UNREACHABLE. The model's choices in it: log entries 23, 24 and 150. -/
def Obligations.ChunksAndCollectiveTimers : Prop :=
  (∀ (s : State) (comm seq : BitVec 32) (chunk : Nat) (i : Instance) (c : Call) (own : List Term) (got : List (List Term)),
    let kids := treeChildren (chunk % 2) c.comm.members s.me
    let k := c.coding s
    let span := c.span chunk
    s.wf = true → s.queueObjs.snapBusy = false → s.inst? comm seq = some i → callOf s i = some c → i.st = 3 → chunk < c.chunks → c.transit = false → i.combined.contains chunk = false →
    (∀ l ∈ kids, ∃ e ∈ i.inputs, e.1 = l.2 ∧ e.2.1 = chunk) →
    ((treeParent (chunk % 2) c.comm.members s.me).isSome = true → 8 ≤ chunk → i.credits.contains (chunk - 8) = true) →
    packageTerms s i c k span.1 span.2 = .ok own → childChunks s c k chunk span.2 kids = .ok got →
    Goes (exec (.chunkCombine comm seq chunk .clean) s) (fun t =>
      t.coll.combinedElements = satAdd s.coll.combinedElements span.2 ∧
      ∃ j, t.inst? comm seq = some j ∧ j.combined = i.combined ++ [chunk])) ∧
  (∀ (s : State) (comm seq : BitVec 32) (x : Nat) (c : Comm), s.coll.slotless.contains (comm, seq) = true → s.commOf comm = some (x, c) →
    Goes (exec (.slotWaitTimeout comm seq) s) (fun t =>
      t.coll.exhausted = satAdd s.coll.exhausted 1 ∧ t.coll.slotless.contains (comm, seq) = false ∧
      t.pastCall comm seq = some { comm := comm, seq := seq, status := 0x0402, downs := [] } ∧
      (smGet ({} : IrqSource) t.sources 0x389).pending = true ∧ t.mem = s.mem)) ∧
  (∀ (s : State) (comm seq : BitVec 32) (round index : BitVec 3) (i : Instance), round ≠ 4#3 → round ≠ 2#3 →
    s.wf = true → s.queueObjs.snapBusy = false → s.inst? comm seq = some i →
    let due (u : Frame × Nat) : Bool := decide (u.1.round = round) && decide (u.1.index = index)
    Goes (exec (.transitTimeout comm seq round index) s) (fun t =>
      (∃ j, t.inst? comm seq = some j ∧ j = { i with pendingUp := mapWhere due (fun u => (u.1, u.2 + 1)) i.pendingUp }) ∧
      t.coll.resends = satAdd s.coll.resends (i.pendingUp.filter due).length ∧ { t with coll := s.coll, out := s.out } = s)) ∧
  (∀ (s : State) (comm seq : BitVec 32) (i : Instance) (q : Nat) (e : HostDesc), s.wf = true → s.queueObjs.snapBusy = false →
    s.inst? comm seq = some i → i.st < 5 →
    i.releaseSent = false → RunOf s i q e →
    Goes (exec (.collectiveDeadline comm seq) s) (fun t => RunMet t i q e 0x0701 ∧ t.mem = s.mem))


/-! ### Drinex (13) -/

/-- R320 to R323, R325: the link trains, goes up at the width its lanes allow, in resume or fresh mode, and goes down; the link commands; data flits
are taken in sequence only, what the FEC reports of any flit is counted (R337), and an idle flit returns the slots owed. The model's choices in it:
log entries 43, 45, 46, 47 and 151. -/
def Obligations.DrinexLinkAndFlits : Prop :=
  ∀ (s : State),
    let s0 := s
    let d := s.drinex
    (d.st = 0 → s.drinexTrains = true → Goes (exec .drinexTrainStart s) (fun t =>
      t.drinex.st = 1 ∧ t.drinex.lanesAllowed = 0xFF ∧ t.mem = s.mem)) ∧
    (∀ lanes epoch last res p c e, d.st = 1 →
      let use := chooseLanes (lanes &&& d.lanesAllowed)
      Goes (exec (.drinexTrained lanes epoch last res p c e) s) (fun t =>
        (use = 0 → t.drinex.st = 0) ∧ (use = 0xFF → t.drinex.st = 2) ∧ (use ≠ 0 → use ≠ 0xFF → t.drinex.st = 3) ∧
        (use ≠ 0 → t.drinex.laneMap = use) ∧
        (use ≠ 0 → d.resume = true → res = true → d.holds last = true → t.drinex.epoch = d.epoch ∧ t.drinex.rxNext = d.rxNext) ∧
        (use ≠ 0 → ¬(d.resume = true ∧ res = true ∧ d.holds last = true) → t.drinex.epoch = d.epoch + 1 ∧ t.drinex.rxNext = 0 ∧
          t.drinex.resume = true) ∧ t.mem = s.mem)) ∧
    (∀ lane : Fin 8, d.st = 2 → Goes (exec (.drinexLaneFail lane) s) (fun t =>
      t.drinex.st = 1 ∧ t.drinex.lanesAllowed = (if lane.val < 4 then 0xF0 else 0x0F) ∧ t.drinex.replay = d.replay)) ∧
    (d.st ≠ 0 → d.st ≠ 4 → Goes (exec .drinexDown s) (fun t =>
      t.drinex.st = 0 ∧ t.drinex.downs = (if s.linkUp then satAdd d.downs 1 else d.downs) ∧ t.mem = s.mem)) ∧
    (s.linkUp = true → d.replay ≠ [] → Goes (exec .drinexRetryLimit s) (fun t =>
      t.drinex.st = 0 ∧ t.drinex.downs = satAdd d.downs 1 ∧ t.mem = s.mem)) ∧
    (∀ acc : Accessor, Admitted s acc 0x3300 4 = true →
      (d.st = 4 → Answered (exec (.drinexEnable acc) s) acc (fun u => u.drinex.st = 0)) ∧
      (d.st ≠ 4 → exec (.drinexEnable acc) s = Replied acc (touchSelects s acc)) ∧
      Answered (exec (.drinexDisable acc) s) acc (fun u => u.drinex.st = 4 ∧ u.drinex.laneMap = 0) ∧
      (d.st ≠ 4 → Answered (exec (.drinexRetrain acc) s) acc (fun u => u.drinex.st = 1 ∧ u.drinex.lanesAllowed = 0xFF)) ∧
      (d.st = 4 → exec (.drinexRetrain acc) s = Replied acc (touchSelects s acc))) ∧
    (∀ f : Flit, s.linkUp = true → flitGood f = true → f.kind = 0 → d.waiting = [] →
      let s := countFlit s f
      let d := s.drinex
      let took (d : Drinex) : Drinex :=
        let d := if f.ackValid then d.acked f.ackSeq else d
        { d with creditP := d.creditP + f.creditP.toNat, creditC := d.creditC + f.creditC.toNat, creditE := d.creditE + f.creditE.toNat }
      (f.seq = d.rxNext → exec (.dataFlit f) s0 = .next { s with
        drinex := took { d with rxNext := d.rxNext + 1, retryTime := none, ackDue := true } }) ∧
      (f.seq ≠ d.rxNext → d.retryTime = none → exec (.dataFlit f) s0 =
        .next ({ s with drinex := { d with retryTime := some s.clkc } }.send (.flit 2 (d.rxNext - 1) []))) ∧
      (f.seq ≠ d.rxNext → ∀ t, d.retryTime = some t → (s.clkc - t).toNat < 2400 → exec (.dataFlit f) s0 = .next s)) ∧
    (∀ f : Flit, s.linkUp = true → flitGood f = true → f.kind = 2 → f.ackValid = true → d.waiting = [] →
      let s := countFlit s f
      let d := s.drinex
      Goes (exec (.retryRequest f) s0) (fun t =>
        t.drinex.replay = (d.acked f.ackSeq).replay ∧ t.drinex.replays = satAdd d.replays 1 ∧
        t.out = .flit 0 (d.rxNext - 1) (d.acked f.ackSeq).replay :: s.out ∧ { t with drinex := d, out := s.out } = s)) ∧
    (s.linkUp = true → d.ackDue = true ∨ d.owes = true → exec .idleFlitTimer s =
      .next ((returnCredits { s with drinex := { d with ackDue := false } }).send (.flit 1 (d.rxNext - 1) []))) ∧
    (d.owes = true → d.owedP ≤ 255 → d.owedN ≤ 255 → d.owedE ≤ 255 → returnCredits s =
      { s with drinex := { d with owedP := 0, owedN := 0, owedE := 0 }, out := .drinexCredits d.owedP d.owedN d.owedE :: s.out })

/-- R329 to R332, R334: host transactions in the device states that serve them: a write changes memory alone, a read and a dictionary access are
answered with their tag, a doorbell moves its queue's pointers, an acknowledged echo is no longer outstanding; the slots of each are free again
(R328). The model's choices in it: log entries 5 and 59. -/
def Obligations.HostTransactionsAreServed : Prop :=
  ∀ (s : State) (h : TxnHdr), s.linkUp = true →
    let host : Accessor := { cls := .host, src := 0 }
    let u : State := tookTxn s h.cls h.length.toNat
    let one : State := tookTxn s h.cls 0
    let bump : State := hostRefused u
    (h.cls = 0 → u.drinex = { s.drinex with owedP := s.drinex.owedP + 1 + (h.length.toNat + 15) / 16 }) ∧
    (h.cls = 1 → one.drinex = { s.drinex with owedN := s.drinex.owedN + 1 }) ∧
    (∀ (a : BitVec 48) (data : Bytes) m, hdrOk h 0 0 4096 false = true → data.length = h.length.toNat →
      (s.device = .service → data ≠ [] → u.rangeOk none a.toNat data.length = true →
        hostWrite u (data.length / 64 + 2) s.mem a.toNat data = (m, none) → exec (.mwr h a data .clean) s = .next { u with mem := m }) ∧
      (s.device = .service → data = [] → exec (.mwr h a data .clean) s = .next u) ∧
      (s.device = .service → data ≠ [] → u.rangeOk none a.toNat data.length = false →
        exec (.mwr h a data .clean) s = .next { bump with drinex := { bump.drinex with refusedAddr := BitVec.ofNat 64 a.toNat } }) ∧
      (s.device ≠ .service → exec (.mwr h a data .clean) s = .next bump)) ∧
    (∀ (a : BitVec 48) bs, hdrOk h 1 0 4096 true = true →
      (s.device ≠ .bootLimited → h.length ≠ 0 → one.rangeOk none a.toNat h.length.toNat = true →
        readMem one s.mem h.length.toNat a.toNat = .ok bs → exec (.mrd h a .clean) s = .next (sendTxn one 2 bs.length (.cpl h.tag 0 bs))) ∧
      (s.device ≠ .bootLimited → h.length = 0 → exec (.mrd h a .clean) s = .next (sendTxn one 2 0 (.cpl h.tag 0 []))) ∧
      (s.device = .bootLimited → exec (.mrd h a .clean) s = .next (sendTxn one 2 0 (.cpl h.tag 2 [])))) ∧
    (∀ (x : CtxId) (q : QueueId) (newTail newRelease : BitVec 64), hdrOk h 0 16 16 false = true → s.device = .service → s.queueObjs.snapBusy = false →
      let k := s.queue x q
      let nt := if newTail = BitVec.allOnes 64 then k.tail else newTail
      let nr := if newRelease = BitVec.allOnes 64 then k.release else newRelease
      let bad := nt.toNat < k.tail.toNat ∨ nr.toNat < k.release.toNat ∨ k.accept.toNat + 2 ^ k.ringLog2 < nt.toNat ∨ k.complete.toNat < nr.toNat
      (s.ctx x).st ≠ .free → q.val < (s.ctx x).queueCount → k.configured = true → k.fabric = false →
      (¬bad → Goes (exec (.doorbell h x q newTail newRelease) s) (fun t =>
        t.queue x q = { k with tail := nt, release := nr } ∧ { t with contexts := s.contexts } = u)) ∧
      (bad → Goes (exec (.doorbell h x q newTail newRelease) s) (fun t =>
        t.queue x q = { k with rejects := satAdd k.rejects 1 } ∧ { t with contexts := s.contexts } = u))) ∧
    (∀ (idx : BitVec 16) (sub : BitVec 8) r t v, hdrOk h 1 0 0 true = true → s.dict.tapRequest = none →
      checkAccess u .host false idx.toNat sub.toNat = .ok r → readObject u (s.selects host) r idx.toNat sub.toNat = (t, 0, v) →
      exec (.dictRd h idx sub) s = .next (sendTxn t 2 v.length (.dictCpl h.tag 0 v))) ∧
    (∀ (idx : BitVec 16) (sub : BitVec 8) (b : Bytes) r t, hdrOk h 1 1 256 true = true → b.length = h.length.toNat →
      s.dict.tapRequest = none → checkAccess u .host true idx.toNat sub.toNat = .ok r → b.length = r.size →
      writeObject u host r idx.toNat sub.toNat b [] = (t, 0) →
      exec (.dictWr h idx sub b) s = .next (sendTxn t 2 0 (.dictCpl h.tag 0 []))) ∧
    (∀ (x : CtxId) (q : QueueId) (ck : Bool) (seq : BitVec 64), hdrOk h 3 0 0 false = true → s.power.sweeping = false →
      let e := (x.val, q.val, ck, seq)
      (s.drinex.echoes.contains e = true → Goes (exec (.echoAck h x q ck seq) s) (fun t =>
        t.drinex.echoes.contains e = false ∧ (∀ k, k ≠ e → t.drinex.echoes.contains k = s.drinex.echoes.contains k) ∧
        (ck = false → ∀ d, (s.queue x q).accepting = some d → d.seq = seq → (t.queue x q).acceptEchoed = true) ∧
        (ck = true → ∀ d, s.desc? x q seq = some d → ∃ d', t.desc? x q seq = some d' ∧ d'.echoed = true) ∧ t.mem = s.mem)) ∧
      (s.drinex.echoes.contains e = false → exec (.echoAck h x q ck seq) s = .next { u with drinex :=
        { u.drinex with echoUnmatched := satAdd s.drinex.echoUnmatched 1 } }))

/-- R329: bytes that a host write has put into one 64-byte block are the bytes that a read of the same addresses answers afterwards. -/
def Obligations.HostReadsBackWhatItWrote : Prop :=
  ∀ (s : State) (h r : TxnHdr) (a : BitVec 48) (data : Bytes), s.wf = true → s.linkUp = true → s.device = .service →
    hdrOk h 0 0 4096 false = true → data.length = h.length.toNat → hdrOk r 1 0 4096 true = true → r.length = h.length → data ≠ [] →
    a.toNat % 64 + data.length ≤ 64 → s.rangeOk none a.toNat data.length = true →
    (∀ p, s.translate a.toNat = some p → s.dark p = false ∧ (s.mem.poisoned p = false ∨ data.length = 64)) →
    Goes (exec (.mwr h a data .clean) s) (fun t =>
      exec (.mrd r a .clean) t = .next (sendTxn (tookTxn t r.cls 0) 2 data.length (.cpl r.tag 0 data)) ∧
      { t with mem := s.mem } = tookTxn s h.cls h.length.toNat)


/-! ### The dictionary and the management bus (14) -/

/-- R342: the module checks an access in order and the first check that fails decides: an index that does not exist or is hidden, a sub-index that
does not, a right the port does not hold, a state that does not permit the write. A read that passes them yields exactly the object's bytes. The
model's choices in it: log entry 55. -/
def Obligations.AccessChecksAreOrdered : Prop :=
  (∀ (s : State) (cls : PortClass) (write : Bool) (idx sub : Nat),
    let rows := rowsOf moduleObjects idx
    let ok (r : ObjRow) : Prop := r.right cls = 3 ∨ r.right cls = (if write then 2 else 1)
    (rows = [] → checkAccess s cls write idx sub = .error 0x06020000) ∧
    (rows ≠ [] → objectRow moduleObjects idx sub = none → checkAccess s cls write idx sub = .error 0x06090011) ∧
    (∀ r, objectRow moduleObjects idx sub = some r →
      (r.expert = true → s.dict.accessLevel = 0 → checkAccess s cls write idx sub = .error 0x06020000) ∧
      ((r.expert = false ∨ s.dict.accessLevel ≠ 0) → ¬ok r → checkAccess s cls write idx sub = .error 0x06010000) ∧
      ((r.expert = false ∨ s.dict.accessLevel ≠ 0) → ok r → 1 ≤ s.sec.lifecycle.toNat → s.sec.lifecycle.toNat ≤ 3 →
        (write = true → s.device = .bootLimited → bootWritable r idx sub = false →
          checkAccess s cls write idx sub = .error 0x08000022) ∧
        ((write = false ∨ s.device ≠ .bootLimited ∨ bootWritable r idx sub = true) → checkAccess s cls write idx sub = .ok r)))) ∧
  (∀ (s t : State) (a : Accessor) (idx sub : Nat) (v : Bytes) r, a.cls ≠ .metro → dictRead s a idx sub = (t, 0, v) →
    objectRow moduleObjects idx sub = some r → v.length = r.size)

/-- R342 to R346, R354, R357: AccessLevel takes 0 and 1, a raise is counted and announced, its timeout lowers it; a write of an object of its length
that the object takes has its effect, any other length is aborted; the control firmware's ring registers. The model's choices in it: log entries 59,
60, 72 and 73. -/
def Obligations.AccessLevelAndObjectWrites : Prop :=
  ∀ (s : State) (acc : Accessor),
    let d := s.dict
    let s' := touchSelects s acc
    (Admitted s acc 0x2001 0 = true → ∀ v : BitVec 8,
      (v.toNat ≤ 1 → v = d.accessLevel → exec (.accessLevelWrite acc v) s = Replied acc s) ∧
      (1 < v.toNat → exec (.accessLevelWrite acc v) s = .next ((countAbort s abRange).send (.dictReply acc.cls 0x06090030 []))) ∧
      (v = 0 → exec (.accessLevelWrite acc v) s = Replied acc { s with dict := { d with accessLevel := 0 } }) ∧
      (v = 1 → d.accessLevel = 0 → Answered (exec (.accessLevelWrite acc v) s) acc (fun u =>
        u.dict.accessLevel = 1 ∧ u.dict.raises = satAdd d.raises 1 ∧ (smGet {} u.sources 0x390).pending = true ∧
        { u with dict := d, sources := s.sources, dests := s.dests, cores := s.cores, drinex := s.drinex, out := s.out } = s))) ∧
    (exec .accessLevelTimeout s = .next (if d.timeoutS = 0 then s else { s with dict := { d with accessLevel := 0 } })) ∧
    (Admitted s acc 0x1003 0 = true → ∀ v : BitVec 8,
      (v = 0 → exec (.errorHistoryClear acc v) s = Replied acc { s with dict := { d with history := [] } }) ∧
      (v ≠ 0 → exec (.errorHistoryClear acc v) s = .next ((countAbort s abRange).send (.dictReply acc.cls 0x06090030 [])))) ∧
    (Admitted s acc 0x1017 0 = true → ∀ v : BitVec 16, (v = 0 ∨ 100 ≤ v.toNat) →
      exec (.registerWrite (.object acc 0x1017 0 (leBytes 2 v.toNat))) s = Replied acc { s with dict := { d with heartbeatMs := v } }) ∧
    (∀ (idx : BitVec 16) (sub : BitVec 8) (b : Bytes) (r : ObjRow) (t : State), Admitted s acc idx.toNat sub.toNat = true →
      objectRow moduleObjects idx.toNat sub.toNat = some r →
      (b.length = r.size → writeObject s' acc r idx.toNat sub.toNat b [] = (t, 0) →
        exec (.registerWrite (.object acc idx sub b)) s = Replied acc t) ∧
      (b.length ≠ r.size → exec (.registerWrite (.object acc idx sub b)) s =
        .next ((countAbort s' abLength).send (.dictReply acc.cls 0x06070010 [])))) ∧
    (∀ (g : CoreId) (v : BitVec 64), s.present g = true →
      exec (.registerWrite (.core g 0x010 v)) s =
        .next (s.setCore g ((s.core g).setUnit .engine { s.unitOf .engine g with tail := v.setWidth 32 })))

/-- R355, R360, R361: USDO transfers, expedited and segmented, on the CAN bus, the fabric and the test port; a session that times out ends; the test
port shifts out the oldest response and takes a request. The model's choices in it: log entries 56, 60 and 61. -/
def Obligations.UsdoSessionsAndTestPort : Prop :=
  (∀ (s : State) (p : UsdoPath),
    let acc := usdoAccessor p
    let o := usdoOwner p
    let s' := touchSelects s acc
    s.reached acc.cls = true → s.dict.tapRequest = none →
    (∀ (idx : BitVec 16) (sub : BitVec 8) r t v, s.session o = none → checkAccess s' acc.cls false idx.toNat sub.toNat = .ok r →
      readObject s' (s'.selects acc) r idx.toNat sub.toNat = (t, 0, v) →
      (r.size ≤ usdoRoom → v.length ≤ usdoRoom → exec (.usdoUpload p idx sub) s = .next (usdoReply t p 0 v)) ∧
      (usdoRoom < v.length → sessionsFull s p = false → Goes (exec (.usdoUpload p idx sub) s) (fun u =>
        u.out = (usdoReply t p 0 (v.take usdoRoom)).out ∧
        u.session o = some { owner := o, download := false, index := idx, sub := sub, data := v.drop usdoRoom }))) ∧
    (∀ (idx : BitVec 16) (sub : BitVec 8) r, s.session o = none → checkAccess s' acc.cls true idx.toNat sub.toNat = .ok r →
      (∀ (b : Bytes) t, b.length = r.size → writeObject s' acc r idx.toNat sub.toNat b [] = (t, 0) →
        exec (.usdoDownload p idx sub (some b)) s = .next (usdoReply t p 0 [])) ∧
      (sessionsFull s p = false → Goes (exec (.usdoDownload p idx sub none) s) (fun u =>
        u.session o = some { owner := o, download := true, index := idx, sub := sub, data := [] } ∧ u.mem = s.mem))) ∧
    (∀ (e : UsdoSession) (data : Bytes), s.session o = some e → e.download = true →
      Goes (exec (.usdoSegment p data false) s) (fun u => u.session o = some { e with data := e.data ++ data } ∧ u.mem = s.mem)) ∧
    (∀ (e : UsdoSession) (data : Bytes) r t, s.session o = some e → e.download = true →
      objectRow moduleObjects e.index.toNat e.sub.toNat = some r → (e.data ++ data).length = r.size →
      writeObject (dropSession s' o) acc r e.index.toNat e.sub.toNat (e.data ++ data) [] = (t, 0) →
      exec (.usdoSegment p data true) s = .next (usdoReply t p 0 [])) ∧
    (∀ (e : UsdoSession) (last : Bool), s.session o = some e → e.download = false →
      Goes (exec (.usdoSegment p [] last) s) (fun u =>
        u.out = (usdoReply (dropSession s' o) p 0 (e.data.take usdoRoom)).out ∧
        u.session o = (if e.data.length ≤ usdoRoom then none else some { e with data := e.data.drop usdoRoom }) ∧ u.mem = s.mem))) ∧
  (∀ (s : State) (p : UsdoPath), (s.session (usdoOwner p)).isSome = true →
    exec (.usdoTimeout p) s = .next (usdoAbort (dropSession s (usdoOwner p)) p 0x05040000)) ∧
  (∀ (s : State) (n : BitVec 8) (request : Bytes), s.power.regulators = true →
    let rest := s.dict.tapResponses.drop 1
    Goes (exec (.tapDict n request) s) (fun t =>
      (n = 0 → t.dict.tapRequest = s.dict.tapRequest ∧ t.dict.tapResponses = rest) ∧
      (n ≠ 0 → s.dict.tapRequest = none → t.dict.tapRequest = some (request.take n.toNat) ∧ t.dict.tapResponses = rest) ∧
      (n ≠ 0 → s.dict.tapRequest ≠ none → t.dict.tapRequest = s.dict.tapRequest ∧
        t.dict.tapResponses = rest ++ [Config.usdoResponse 0x05040005 []]) ∧
      t.out = .tap 544 ((s.dict.tapResponses.headD []).length + 256 * leNat ((s.dict.tapResponses.headD []).take 64)) :: s.out ∧
      { t with dict := s.dict, sec := s.sec, out := s.out } = s))

/-- R351, R424: LSS switches, configures and stores the two nodes' IDs, refuses other timings, answers identity and finds a free node. The model's
choices in it: log entry 57. -/
def Obligations.LssConfiguresTheNodes : Prop :=
  ∀ (s : State), s.power.regulators = true →
    let d := s.dict
    (∀ on, exec (.switchStateGlobal on) s =
      .next { s with dict := { d with lssConfig := on }, meter := { s.meter with lssConfig := on } }) ∧
    (exec (.switchStateSelective 0x0A7E 0x00010001 0x00020001 Config.serialNumber) s =
      .next ({ s with dict := { d with lssConfig := true } }.send (.lss 0x44 0))) ∧
    (d.lssConfig = true → s.meter.lssConfig = false →
      (∀ n : BitVec 8, (1 ≤ n.toNat ∧ n.toNat ≤ 63 → exec (.configureNodeId n) s =
          .next ({ s with dict := { d with pendingNodeId := n } }.send (.lss 0x11 0))) ∧
        (n = 0 ∨ (64 ≤ n.toNat ∧ n.toNat ≤ 127) → exec (.configureNodeId n) s = .next (s.send (.lss 0x11 1)))) ∧
      (∀ table index, exec (.configureBitTiming table index) s = .next (s.send (.lss 0x13 1))) ∧
      Goes (exec .storeConfiguration s) (fun t =>
        t.dict.storedNodeId = d.pendingNodeId ∧ (d.nodeId = 0xFF → t.dict.nodeId = d.pendingNodeId) ∧
        (d.nodeId ≠ 0xFF → t.dict.nodeId = d.nodeId) ∧ t.mem = s.mem ∧ t.cores = s.cores ∧ t.contexts = s.contexts) ∧
      exec (.inquireIdentity 0) s = .next (s.send (.lss 0x5A 0x0A7E)) ∧
      exec (.inquireIdentity 1) s = .next (s.send (.lss 0x5B 0x00010001)) ∧
      exec (.inquireIdentity 2) s = .next (s.send (.lss 0x5C 0x00020001)) ∧
      exec (.inquireIdentity 4) s = .next (s.send (.lss 0x5E (d.nodeId.setWidth 32)))) ∧
    (d.nodeId = 0xFF → d.lssConfig = false → s.meter.die.nodeId ≠ 0xFF → ∀ (id : BitVec 32) (sub next : BitVec 8),
      exec (.fastscan id 0x80 sub next) s = .next ({ s with dict := { d with lssMatched := 0, lssConfig := false } }.send (.lss 0x4F 0)))

/-- R353, R354: NMT commands act as their table allows: in Quiesced START enters Service, in Service STOP enters Quiesced, others are counted or
begin a reset; the heartbeat reports the device state. The model's choices in it: log entries 67 and 68. -/
def Obligations.NmtCommandsAct : Prop :=
  ∀ (s : State) (n : BitVec 8), s.reached .mgmt = true → n = s.dict.nodeId → s.meter.die.nodeId = 0xFF →
    let d := s.dict
    let ignored : State := { s with dict := { d with nmtIgnored := satAdd d.nmtIgnored 1 } }
    (s.device = .bootLimited → exec (.startRemoteNode n) s = .next ignored) ∧
    (s.device = .service → exec (.startRemoteNode n) s = .next s) ∧
    (s.device = .quiesced → Goes (exec (.startRemoteNode n) s) (fun t =>
      t.device = .service ∧ t.mem = s.mem ∧ t.dict = d ∧ t.contexts = s.contexts)) ∧
    (s.device = .bootLimited → exec (.stopRemoteNode n) s = .next ignored) ∧
    (s.device = .quiesced → exec (.stopRemoteNode n) s = .next s) ∧
    (s.device = .service → Goes (exec (.stopRemoteNode n) s) (fun t =>
      t.device = .quiesced ∧ t.out = .can (BitVec.ofNat 11 (0x700 + d.nodeId.toNat)) [0x04#8] :: s.out ∧
      { t with device := s.device, out := s.out } = s)) ∧
    (exec (.enterPreOperational n) s = .next ignored) ∧
    (s.starting = false → s.power.draining = none → exec (.resetNode n) s =
      .next { s with power := { s.power with draining := some .warmNmt } }) ∧
    Goes (exec (.resetCommunication n) s) (fun t =>
      t.dict.history = [] ∧ t.dict.errorRegister = 0 ∧ t.dict.heartbeatMs = 0x03E8 ∧ t.dict.inhibitEmcy = 0x0A ∧ t.dict.cobIdEmcy = none ∧
      t.device = s.device ∧ t.out = .can (BitVec.ofNat 11 (0x700 + d.nodeId.toNat)) [0x00#8] :: s.out ∧
      { t with dict := d, out := s.out } = s) ∧
    (s.meter.heartbeatMs = 0 → d.heartbeatMs ≠ 0 → exec .heartbeat s =
      .next (s.send (.can (BitVec.ofNat 11 (0x700 + d.nodeId.toNat)) (leBytes 1 (nmtByte s))))) ∧
    (s.meter.heartbeatMs = 0 → d.heartbeatMs = 0 → exec .heartbeat s = .next s)

/-- R350, R356 to R358: the waiting EMCYs go out in order, a TPDO is sent when a value has changed and its inhibit time has passed, and the CAN
node's errors are announced. The model's choices in it: log entries 12, 58 and 71. -/
def Obligations.EmergenciesAndTpdos : Prop :=
  ∀ (s : State),
    let d := s.dict
    let id := d.emcyId.setWidth 11
    (s.emcyOn = true → d.emcyQueue = [] → exec .emcyInhibitTimer s = .next { s with dict := { d with emcyHeld := false } }) ∧
    (∀ m ms, s.emcyOn = true → d.emcyQueue = m :: ms → exec .emcyInhibitTimer s =
      .next { s with
        dict := { d with emcyHeld := decide (d.inhibitEmcy ≠ 0), emcyQueue := ms }
        out := .can id (emcyBytes m) :: s.out }) ∧
    Goes (exec .tpdoSample s) (fun t => t.dict.sampleTick = d.sampleTick + 1 ∧ t.mem = s.mem ∧ t.cores = s.cores ∧ t.contexts = s.contexts ∧
      (∀ n < 8, tpdoRuns s n = true → (∀ k < 8, k ≠ n → tpdoRuns s k = false) → tpdoValues { s with dict := { d with sampleTick := d.sampleTick + 1 } } n ≠ (smGet {} d.tpdos n : Tpdo).last →
        (smGet ({} : Tpdo) d.tpdos n).clear (d.sampleTick + 1) = true →
        .can ((d.tpdoId n).setWidth 11) (tpdoValues { s with dict := { d with sampleTick := d.sampleTick + 1 } } n) ∈ t.out)) ∧
    (∀ n : Fin 8, (smGet ({} : Tpdo) d.tpdos n).event ≠ 0 → tpdoRuns s n = true → (smGet ({} : Tpdo) d.tpdos n).clear d.sampleTick = true →
      s.meter.tpdo.event = 0 → Goes (exec (.tpdoEventTimer n) s) (fun t =>
        t.out = .can ((d.tpdoId n).setWidth 11) (tpdoValues s n) :: s.out ∧ { t with dict := d, out := s.out } = s)) ∧
    (s.power.regulators = true → d.nodeId ≠ 0xFF →
      (d.busState = 2 → Goes (exec .busOffRecovery s) (fun t =>
        t.dict.busState = 0 ∧ t.dict.busOffs = satAdd d.busOffs 1 ∧ { t with dict := d, out := s.out } = s)) ∧
      (∀ off tx rx, Goes (exec (.nodeErrorPassive off tx rx) s) (fun t =>
        t.dict.busState = (if off then 2 else 1) ∧ t.dict.txErrors = tx ∧ t.dict.rxErrors = rx ∧
        (off = false → d.busState ≠ 1 → t.dict.errorRegister = d.errorRegister ||| 0x11) ∧ { t with dict := d, out := s.out } = s)) ∧
      (d.busState ≠ 2 → Goes (exec .canReceiveOverrun s) (fun t =>
        t.dict.errorRegister = d.errorRegister ||| 0x11 ∧
        (s.emcyOn = true → t.dict.history.head? = some (BitVec.ofNat 32 (0x8110 + (d.errorRegister ||| 0x11).toNat * 2 ^ 16))) ∧
        { t with dict := d, out := s.out } = s)))


/-! ### Interrupts (15) -/

/-- R365, R368 to R371, R374, R375: the pending bits are cleared and set by source, a set of a dead source changes nothing, a route and the limits
of a destination take the value written, a timer that is due delivers, line_ack clears the line. The model's choices in it: log entry 60. -/
def Obligations.InterruptControllerCommandsAct : Prop :=
  ∀ (s : State) (acc : Accessor), s.wf = true →
    let src (u : State) (n : Nat) : IrqSource := smGet {} u.sources n
    let dst (u : State) (n : Nat) : IrqDest := smGet {} u.dests n
    let refused : State := (countAbort s abRange).send (.dictReply acc.cls 0x06090030 [])
    (∀ bits : Bytes, bits.length = 128 →
      let named (n : Nat) : Bool := bitAt (byteAt bits (n / 8)) (n % 8)
      (Admitted s acc 0x2E01 2 = true → Answered (exec (.irqPendingClear acc bits) s) acc (fun u =>
        (∀ n < 1024, src u n = { src s n with pending := (src s n).pending && !(named n) }) ∧ { u with sources := s.sources } = s)) ∧
      (Admitted s acc 0x2E01 3 = true →
        ((∀ n < 1024, named n = true → s.sourceDead n = false) → Answered (exec (.irqPendingSet acc bits) s) acc (fun u =>
          (∀ n < 1024, src u n = { src s n with pending := (src s n).pending || named n }) ∧
          (∀ n < 1024, named n = false ∨ (src s n).enabled = false ∨ (src s n).pending = true) → { u with sources := s.sources } = s)) ∧
        (∀ n < 1024, named n = true → s.sourceDead n = true → exec (.irqPendingSet acc bits) s = .next refused))) ∧
    (∀ v : BitVec 32, Admitted s acc 0x2E00 2 = true →
      let n := (s.selects acc).irqSource.toNat
      (v.toNat / 2 ^ 17 = 0 → destCodeOk (v.toNat % 2 ^ 16) = true → Answered (exec (.irqSourceRoute acc v) s) acc (fun u =>
        src u n = { src s n with enabled := v.getLsbD 16, route := v.setWidth 16 } ∧ (∀ m, m ≠ n → src u m = src s m) ∧
        ((src s n).pending = false ∨ v.getLsbD 16 = false → { u with sources := s.sources } = s) ∧
        (∀ d, d ≠ (v.setWidth 16 : BitVec 16).toNat → dst u d = dst s d) ∧ u.mem = s.mem)) ∧
      ((v.toNat / 2 ^ 17 ≠ 0 ∨ destCodeOk (v.toNat % 2 ^ 16) = false) → exec (.irqSourceRoute acc v) s = .next refused)) ∧
    (∀ (time : Bool) (v : BitVec 16), Admitted s acc 0x2E02 (if time then 3 else 2) = true →
      let n := (s.selects acc).irqDest.toNat
      let count := if time then (dst s n).limitCount else v
      let us := if time then v else (dst s n).limitUs
      let due : Prop := 0 < (dst s n).count.toNat ∧ (count.toNat ≤ (dst s n).count.toNat ∨
        ∃ t, (dst s n).started = some t ∧ us.toNat * 1200 ≤ (s.clkc - t).toNat)
      (v = 0 → exec (.coalesceLimitWrite acc time v) s = .next refused) ∧
      (v ≠ 0 → ¬due → Answered (exec (.coalesceLimitWrite acc time v) s) acc (fun u =>
        dst u n = { dst s n with limitCount := count, limitUs := us } ∧ { u with dests := s.dests } = s)) ∧
      (v ≠ 0 → due → Answered (exec (.coalesceLimitWrite acc time v) s) acc (fun u =>
        dst u n = { count := 0, started := none, limitCount := count, limitUs := us, deliveries := satAdd (dst s n).deliveries 1 } ∧
        u.sources = s.sources ∧ u.mem = s.mem))) ∧
    (∀ dest : BitVec 16,
      let d := dst s dest.toNat
      (d.started = none ∨ d.count = 0 → exec (.coalesceTimer dest) s = .next s) ∧
      (d.started ≠ none → d.count ≠ 0 → Goes (exec (.coalesceTimer dest) s) (fun t =>
        dst t dest.toNat = { d with count := 0, started := none, deliveries := satAdd d.deliveries 1 } ∧
        (∀ g : CoreId, dest.toNat = 0x1000 + g.val → s.present g = true → (t.core g).line = true) ∧
        t.sources = s.sources ∧ t.mem = s.mem))) ∧
    (∀ g : CoreId, (s.present g = true → exec (.lineAck g 1) s = .next (s.setCore g { s.core g with line := false })) ∧
      exec (.lineAck g 0) s = .next s)


/-! ### Reliability (16) -/

/-- R380, R381, R383, R386: a fault is recorded and announced; an event of a counted class at a key that is not permanent makes it transient, and
suspect from its third event within 24 operating hours. The model's choices in it: log entry 97. -/
def Obligations.FaultsAreRecordedAndCounted : Prop :=
  ∀ (s : State) (n : FaultNote), n.cls ≠ 1 →
    let t := fault s n
    let k := n.ephKey
    let h := s.rel.history k
    let events := s.rel.now :: h.events.filter (fun e => decide (s.rel.now < e + 144))
    t.rel.recordCount = s.rel.recordCount + 1 ∧ (smGet {} t.sources 0x380).pending = true ∧ t.mem = s.mem ∧ t.contexts = s.contexts ∧
    (s.rel.records.length ≤ 1024 → t.rel.records.length ≤ 1024) ∧
    (countedClass n.cls = false → t.rel.histories = s.rel.histories) ∧
    (countedClass n.cls = true → s.rel.permanentUnit k.unit = false →
      (t.rel.history k).events = events ∧
      (t.rel.history k).verdict = (if h.verdict = 2 ∨ 3 ≤ events.length then 2 else 1) ∧
      (h.verdict ≠ 2 → 3 ≤ events.length → (smGet {} t.sources 0x381).pending = true)) ∧
    (countedClass n.cls = true → s.rel.permanentUnit k.unit = true → 3 ≤ (t.rel.history k).verdict)

/-- R385, R386, R391: a re-test that passes clears a suspect key, one that fails makes it permanent and retires the unit; compaction copies the live
entries forward; operating time is checkpointed. The model's choices in it: log entries 48 and 97. -/
def Obligations.RetestsDecideVerdicts : Prop :=
  ∀ (s : State) (k : EphKey),
    let h := s.rel.history k
    let decides (c : Bool → Instr) : Prop :=
      Goes (exec (c true) s) (fun t => t.rel.history k = { h with verdict := 1, events := [] } ∧ t.rel.passed = satAdd s.rel.passed 1 ∧
        { t with rel := s.rel, draws := s.draws } = s) ∧
      Goes (exec (c false) s) (fun t => ∃ u, t = retireUnit u k ∧ 3 ≤ (u.rel.history k).verdict ∧ u.rel.failed = satAdd s.rel.failed 1 ∧
        (smGet {} u.sources 0x381).pending = true ∧ u.mem = s.mem ∧ u.contexts = s.contexts)
    (h.verdict = 2 → keyIdle s k = true → decides (fun pass => .retest k pass)) ∧
    (keyIdle s k = false → ∀ pass, exec (.retest k pass) s = .next s) ∧
    (h.verdict = 2 → decides (fun pass => .retestDeadline k pass)) ∧
    (16 ≤ s.rel.flashErased → exec .ephemerisCompact s = .next s) ∧
    (∀ b rest, s.rel.flashErased < 16 → s.rel.flashBlocks = b :: rest → Goes (exec .ephemerisCompact s) (fun t =>
      (∀ e ∈ liveEntries b rest.flatten, ∃ blk ∈ t.rel.flashBlocks, e ∈ blk) ∧ (∀ e ∈ rest.flatten, e ∈ t.rel.flashBlocks.flatten) ∧
      t.rel.oldestBlock = (s.rel.oldestBlock + 1) % 1024 ∧ t.rel.histories = s.rel.histories ∧ { t with rel := s.rel } = s)) ∧
    Goes (exec .hoursCheckpoint s) (fun t => t.rel.now = s.rel.now + 1 ∧ t.rel.histories = s.rel.histories ∧ { t with rel := s.rel } = s)

/-- R388 to R391, R396: the Almanac is loaded if its bundle passes, runs idle or scheduled, and is unloaded; a step on an idle core passes or is
recorded. The model's choices in it: log entries 48, 60 and 98. -/
def Obligations.AlmanacCommandsAct : Prop :=
  ∀ (s : State),
    let r := s.rel
    (∀ acc : Accessor, Admitted s acc 0x3820 1 = true →
      (∀ (a : BitVec 64) b, bundleAt s a.toNat = some b → bundleOk s.sec b = true →
        exec (.almanacLoad acc a) s = Replied acc { s with rel := { r with bundle := some b } }) ∧
      (∀ a : BitVec 64, (∀ b, bundleAt s a.toNat = some b → bundleOk s.sec b = false) →
        Answered (exec (.almanacLoad acc a) s) acc (fun u => u.rel.bundle = r.bundle ∧ u.rel.recordCount = r.recordCount + 1 ∧ u.mem = s.mem)) ∧
      exec (.almanacIdleOn acc) s = Replied acc { s with rel := { r with idleRunning := true } } ∧
      exec (.almanacIdleOff acc) s = Replied acc { s with rel := { r with idleRunning := false } } ∧
      exec (.almanacUnload acc) s = Replied acc { s with rel := { r with bundle := none } } ∧
      (∀ (scope : BitVec 64), unitCodeOk scope.toNat = true →
        (r.bundle ≠ none → Answered (exec (.runScheduled acc scope []) s) acc (fun u =>
          u.rel.failed = r.failed ∧ u.rel.bundle = r.bundle ∧ { u with rel := r, draws := s.draws } = s)) ∧
        (r.bundle ≠ none → ∀ f : EphKey × Nat, testedUnit s scope.toNat f.1 = true → Answered (exec (.runScheduled acc scope [f]) s) acc (fun u =>
          u.rel.failed = satAdd r.failed 1 ∧ u.rel.recordCount = r.recordCount + 1 ∧ u.mem = s.mem ∧ u.contexts = s.contexts)) ∧
        (r.bundle ≠ none → ∀ f : EphKey × Nat, testedUnit s scope.toNat f.1 = false → Answered (exec (.runScheduled acc scope [f]) s) acc (fun u =>
          u.rel.failed = r.failed ∧ u.rel.recordCount = r.recordCount ∧ u.mem = s.mem ∧ u.contexts = s.contexts)) ∧
        (r.bundle = none → ∀ fs, exec (.runScheduled acc scope fs) s =
          .next ((countAbort s abState).send (.dictReply acc.cls 0x08000022 []))))) ∧
    (∀ (g : CoreId) (test : Nat) b, r.bundle = some b → r.idleRunning = true → s.present g = true → coreIdle (s.core g) = true →
      test < leAt b 28 4 →
      exec (.almanacIdleStep g test true) s = .next { s with rel := { r with passed := satAdd r.passed 1 } } ∧
      Goes (exec (.almanacIdleStep g test false) s) (fun t =>
        t.rel.failed = satAdd r.failed 1 ∧ t.rel.recordCount = r.recordCount + 1 ∧ t.mem = s.mem ∧ t.contexts = s.contexts)) ∧
    (∀ (g : CoreId) (test : Nat) (pass : Bool), r.idleRunning = false → exec (.almanacIdleStep g test pass) s = .next s)

/-- R378, R392 to R395, R440: a core rail below its warning level opens the die's window and is announced; its end is recorded; at the window's end
the held signals leave; other rails leave a record alone; a parity error in a control core fails what is in flight there. The model's choices in it:
log entry 96. -/
def Obligations.DipsAndControlCoreFaults : Prop :=
  ∀ (s : State), s.wf = true →
    (∀ (die : Fin 4) (mv : BitVec 16),
      let d := s.dip die
      let n := if d.second = clkcSecond s.clkc then d.inSecond + 1 else 1
      (690 ≤ mv.toNat ∨ d.low = true → exec (.dipBegin die mv) s = .next s) ∧
      (mv.toNat < 690 → d.low = false → n ≤ 16 → Goes (exec (.dipBegin die mv) s) (fun t =>
        (t.dip die).low = true ∧ (t.dip die).dipStart = s.clkc ∧ ((t.dip die).window = (d.window || decide (die.val < 2))) ∧
        (t.dip die).recompute = d.recompute ∧ t.power.dipCount = satAdd s.power.dipCount 1 ∧
        (smGet {} t.sources 0x384).pending = true ∧ t.dict.errorRegister = s.dict.errorRegister ||| 5 ∧ t.mem = s.mem)) ∧
      (∀ (nanos : BitVec 32), (d.low = false → exec (.dipEnd die mv nanos) s = .next s) ∧
        (d.low = true → Goes (exec (.dipEnd die mv nanos) s) (fun t =>
          t.dip die = { d with low := false } ∧ t.rel.recordCount = s.rel.recordCount + 1 ∧
          t.power.lastDip = leBytes 8 d.dipStart.toNat ++ leBytes 1 (coreRail die) ++ [0#8] ++ leBytes 2 mv.toNat ++ leBytes 4 nanos.toNat ∧
          t.mem = s.mem ∧ t.contexts = s.contexts)))) ∧
    (∀ die : Fin 2,
      let d := s.dip die
      (d.window = false ∨ d.low = true → exec (.dipWindowEnd die) s = .next s) ∧
      (d.window = true → d.low = false → Goes (exec (.dipWindowEnd die) s) (fun t =>
        t.dip die = { d with window := false, recompute := [], heldSignals := [] } ∧
        t.signals = s.signals ++ d.heldSignals.map (·.msg) ∧ t.mem = s.mem ∧ t.cores = s.cores))) ∧
    (∀ (rail : Fin 15) (mv : BitVec 16) (nanos : BitVec 32),
      (rail.val = 0 → exec (.railDip rail mv nanos) s = .next s) ∧
      (rail.val = 1 ∨ 8 ≤ rail.val → Goes (exec (.railDip rail mv nanos) s) (fun t =>
        t.rel.recordCount = s.rel.recordCount + 1 ∧ t.power = s.power ∧ t.mem = s.mem ∧ t.contexts = s.contexts)) ∧
      (∀ die < 4, 2 ≤ rail.val → rail.val ≤ 7 → die = (if rail.val < 4 then rail.val - 2 else rail.val - 4) → (s.dip die).low = false →
        (if (s.dip die).second = clkcSecond s.clkc then (s.dip die).inSecond + 1 else 1) ≤ 16 →
        Goes (exec (.railDip rail mv nanos) s) (fun t => (t.dip die).low = false ∧ t.rel.recordCount = s.rel.recordCount + 1 ∧
          t.power.lastDip = leBytes 8 s.clkc.toNat ++ leBytes 1 rail.val ++ [0#8] ++ leBytes 2 mv.toNat ++ leBytes 4 nanos.toNat ∧
          t.mem = s.mem))) ∧
    (∀ g : CoreId, (s.present g = false → exec (.controlCoreParityError g) s = .next s) ∧
      (s.present g = true → Goes (exec (.controlCoreParityError g) s) (fun t =>
        t.rel.recordCount = s.rel.recordCount + 1 ∧ t.mem = s.mem ∧ t.addends = s.addends ∧
        (∀ u, ∀ e ∈ (s.unitOf u g).window, e.phase ≠ .retired →
          ∃ e' ∈ (t.unitOf u g).window, e'.seq = e.seq ∧ e'.desc = e.desc ∧ e'.phase = .executed ∧
            (e.status = 0 → e'.status = BitVec.ofNat 16 stData)))))


/-! ### Lifecycle, keys, firmware, attestation, TAP (17) -/

/-- R402 to R404: the lifecycle commands begin from their states alone, one at a time, and finish in theirs; a nonce is given to MGMT and serves one
token. The model's choices in it: log entries 60, 79, 80, 81 and 113. -/
def Obligations.LifecycleCommandsAct : Prop :=
  ∀ (s : State) (acc : Accessor),
    let c := s.sec
    let refused (u : State) : Host.Outcome State Fault Refusal := .next ((countAbort u abState).send (.dictReply acc.cls 0x08000022 []))
    (Admitted s acc 0x3C10 1 = true →
      (c.busy ≠ none → ∀ v : BitVec 64, exec (.provision acc) s = refused s ∧ exec (.deploy acc) s = refused s ∧
        exec (.debugEnter acc) s = refused s ∧ exec (.debugExit acc) s = refused s ∧ exec (.decommission acc v) s = refused s) ∧
      (c.busy = none →
        (exec (.provision acc) s = if c.lifecycle = 0 then Replied acc { s with
            draws := s.draws + 1
            sec := { c with seed := some (bytesOf 32 (Config.entropyByte s.draws)), busy := some 1 } } else refused s) ∧
        (exec (.deploy acc) s = if c.lifecycle = 1 then Replied acc { s with sec := { c with override := 0, busy := some 2 } } else refused s) ∧
        ((c.lifecycle = 1 ∨ c.lifecycle = 2) → 3 ≤ c.fusesLeft.toNat →
          let entered := { c with nonce := none, beforeDebug := c.lifecycle, busy := some 3 }
          (tokenOk s = true → Answered (exec (.debugEnter acc) s) acc (fun u => u.sec = entered ∧
            ((∀ x ∈ s.contexts, condemned x.2 false = false) → u = { s with sec := entered }))) ∧
          (tokenOk s = false → exec (.debugEnter acc) s =
            refused { s with sec := { c with nonce := none, tokenRejects := satAdd c.tokenRejects 1 } })) ∧
        (((c.lifecycle ≠ 1 ∧ c.lifecycle ≠ 2) ∨ c.fusesLeft.toNat < 3) → exec (.debugEnter acc) s = refused s) ∧
        (c.lifecycle = 3 → Answered (exec (.debugExit acc) s) acc (fun u => u.sec = { c with busy := some c.beforeDebug } ∧
          ((∀ x ∈ s.contexts, condemned x.2 true = false) → u = { s with sec := { c with busy := some c.beforeDebug } }))) ∧
        (c.lifecycle ≠ 3 → exec (.debugExit acc) s = refused s) ∧
        (∀ v : BitVec 64, exec (.decommission acc v) s = if c.lifecycle ≠ 4 ∧ v.toNat = serialNumber then
          Replied acc { s with
            mem := s.mem.zeroSealed
            sec := { c with seed := none, key4 := [], key5 := [], certificate := [], staging := [], busy := some 4 } } else refused s))) ∧
    (s.reached acc.cls = true → s.dict.tapRequest = none → ∀ r, checkAccess s acc.cls false 0x3C10 3 = .ok r →
      let n := bytesOf 32 (Config.entropyByte s.draws)
      exec (.debugNonceRead acc) s = .next { s with
        draws := s.draws + 1
        sec := { c with nonce := some n, nonceTime := s.clkc }
        out := .dictReply acc.cls 0 n :: s.out }) ∧
    (s.reached .host = true → s.dict.tapRequest = none → Goes (exec (.debugNonceRead { cls := .host, src := 0 }) s) (fun t => t.sec = c)) ∧
    (c.busy = none → exec .lifecycleCommandFinish s = .next s) ∧
    (∀ l, c.busy = some l → l ≠ 4 → Goes (exec .lifecycleCommandFinish s) (fun t =>
      t.sec = { c with busy := none, lifecycle := l, fusesLeft := c.fusesLeft - 1 } ∧
      (l ≠ 3 → c.lifecycle ≠ 3 → { t with sec := c } = s))) ∧
    (c.busy = some 4 → c.lifecycle ≠ 3 → s.power.regulators = true → s.starting = false → Goes (exec .lifecycleCommandFinish s) (fun t =>
      t.sec.lifecycle = 4 ∧ t.sec.busy = none ∧ t.device = .bootLimited ∧ t.rel.epoch = s.rel.epoch + 1))

/-- R399, R406, R407, R412, R413: staging, keys and certificate; a firmware update begins, takes its data, is verified, made pending, aborted,
committed or reverted, by the class that began it. The model's choices in it: log entries 60 and 84. -/
def Obligations.KeysAndFirmwareUpdates : Prop :=
  ∀ (s : State) (acc : Accessor),
    let c := s.sec
    let refused (code : Nat) : Host.Outcome State Fault Refusal :=
      .next ((countAbort s code).send (.dictReply acc.cls (BitVec.ofNat 32 code) []))
    (∀ chunk : Bytes, Admitted s acc 0x3C02 2 = true → chunk.length = 256 →
      let n := (s.selects acc).stage.toNat
      (c.busy = some 3 → exec (.stageChunkWrite acc chunk) s = refused abState) ∧
      (c.busy ≠ some 3 → Answered (exec (.stageChunkWrite acc chunk) s) acc (fun u =>
        u.sec.staging.length = 8192 ∧ (n < 32 → (u.sec.staging.drop (256 * n)).take 256 = chunk) ∧
        (∀ i < 8192, (i < 256 * n ∨ 256 * n + 256 ≤ i) → byteAt u.sec.staging i = byteAt c.staging i) ∧
        { u with sec := { u.sec with staging := c.staging } } = s))) ∧
    (Admitted s acc 0x3C20 1 = true →
      let key := (padTo 8192 c.staging).take 2592
      let cert := (padTo 8192 c.staging).take 7424
      let stores : Prop := 1 ≤ c.lifecycle.toNat ∧ c.lifecycle.toNat ≤ 3
      (stores → c.digests4.length < 4 → exec (.keyStore acc 4) s =
        Replied acc { s with sec := { c with key4 := key, digests4 := sha3 key :: c.digests4 } }) ∧
      (stores → c.digests5.length < 4 → exec (.keyStore acc 5) s =
        Replied acc { s with sec := { c with key5 := key, digests5 := sha3 key :: c.digests5 } }) ∧
      (4 ≤ c.digests4.length → exec (.keyStore acc 4) s = refused abState) ∧
      (4 ≤ c.digests5.length → exec (.keyStore acc 5) s = refused abState) ∧
      (∀ slot, slot ≠ 4 → slot ≠ 5 → exec (.keyStore acc slot) s = refused abRange) ∧
      (c.lifecycle = 1 → certOk c cert = true → exec (.certStore acc) s = Replied acc { s with sec := { c with certificate := cert } }) ∧
      ((c.lifecycle ≠ 1 ∨ certOk c cert = false) → exec (.certStore acc) s = refused abState)) ∧
    (Admitted s acc 0x3C04 1 = true → updateRights c acc.cls = true → otherSession c acc.cls = false →
      let bad := fun (m : Nat) (p : Nat → Bank → Bool) => (∃ t, (t = 1 ∨ t = 2) ∧ bitAt m (t - 1) = true ∧ p t (c.image t).inactive = false) ∨
        compatible s (wouldBoot s m) = false
      let pends := fun (m : Nat) (u : State) (st : BitVec 3) => u.sec.fwState = st ∧
        (∀ t, (t = 1 ∨ t = 2) → u.sec.image t = { c.image t with pending := (c.image t).pending || bitAt m (t - 1) })
      (∀ (m : BitVec 8) (total : BitVec 32), (m = 1 ∨ m = 2) → total.toNat ≤ bankSize m.toNat → c.fwState ≠ 1 → c.fwState ≠ 2 →
        Answered (exec (.fwBegin acc m total) s) acc (fun u =>
          u.sec.fwState = 1 ∧ u.sec.fwOwner = acc.cls ∧ u.sec.fwImage = m ∧ u.sec.fwTotal = total ∧ u.sec.fwOffset = 0 ∧ u.sec.fwReceived = 0 ∧
          (u.sec.image m.toNat).inactive = { bytes := [], verified := false, valid := false } ∧
          (u.sec.image m.toNat).activeB = (c.image m.toNat).activeB ∧ u.sec.image (3 - m.toNat) = c.image (3 - m.toNat) ∧
          { u with sec := c } = s)) ∧
      (c.fwState = 2 → (List.range (ceilDiv c.fwTotal.toNat 256)).all (fun k => bitAt c.fwReceived k) = true →
        Answered (exec (.fwVerify acc) s) acc (fun u =>
          let t := c.fwImage.toNat
          let k := { (c.image t).inactive with valid := true }
          u.sec.fwState = (if bankOk c t k && steppingsOk s k.bytes then 3 else 4) ∧
          (u.sec.image t).inactive.verified = (bankOk c t k && steppingsOk s k.bytes) ∧ { u with sec := c } = s)) ∧
      (c.fwState ≠ 2 → exec (.fwVerify acc) s = refused abState) ∧
      (∀ m : BitVec 8, m.toNat ≤ 3 → c.fwState ≠ 1 → c.fwState ≠ 2 →
        (¬bad m.toNat (fun _ k => k.verified) → Answered (exec (.fwActivate acc m) s) acc (fun u => pends m.toNat u 0 ∧ { u with sec := c } = s)) ∧
        (bad m.toNat (fun _ k => k.verified) → exec (.fwActivate acc m) s = refused abState)) ∧
      (c.fwState ≠ 0 → Answered (exec (.fwAbort acc) s) acc (fun u =>
        u.sec.fwState = 0 ∧ (u.sec.image c.fwImage.toNat).inactive.valid = false ∧ { u with sec := c } = s)) ∧
      (c.fwState = 0 → exec (.fwAbort acc) s = refused abState) ∧
      (∀ m : BitVec 8, m.toNat ≤ 3 → acc.cls = .mgmt →
        (c.overrideUsed = false → (∀ t, (t = 1 ∨ t = 2) → bitAt m.toNat (t - 1) = true → (c.image t).present = true) →
          Answered (exec (.commitVersion acc m) s) acc (fun u =>
            (∀ t, (t = 1 ∨ t = 2) → (u.sec.image t).minimum = if bitAt m.toNat (t - 1) = true ∧ (c.image t).minimum.toNat < (c.image t).secver.toNat
              then (c.image t).secver else (c.image t).minimum) ∧ { u with sec := c } = s)) ∧
        (c.overrideUsed = true → exec (.commitVersion acc m) s = refused abState)) ∧
      (∀ m : BitVec 8, m.toNat ≤ 3 →
        (¬bad m.toNat (fun t k => bankOk c t k) → Answered (exec (.revert acc m) s) acc (fun u => pends m.toNat u c.fwState ∧ { u with sec := c } = s)) ∧
        (bad m.toNat (fun t k => bankOk c t k) → exec (.revert acc m) s = refused abState))) ∧
    (Admitted s acc 0x3C04 1 = true → updateRights c acc.cls = true → otherSession c acc.cls = true → exec (.fwVerify acc) s = refused abState) ∧
    (c.fwState = 1 → exec .fwEraseDone s = .next { s with sec := { c with fwState := 2 } }) ∧
    (c.fwState ≠ 1 → exec .fwEraseDone s = .next s) ∧
    (∀ data : Bytes, Admitted s acc 0x3C04 3 = true → updateRights c acc.cls = true → otherSession c acc.cls = false → data.length = 256 →
      let o := c.fwOffset.toNat
      ((c.fwState ≠ 2 ∨ c.fwTotal.toNat ≤ o) → exec (.fwUpdateData acc data) s = refused abState) ∧
      (c.fwState = 2 → o < c.fwTotal.toNat → Answered (exec (.fwUpdateData acc data) s) acc (fun u =>
        u.sec.fwOffset = c.fwOffset + 256 ∧ bitAt u.sec.fwReceived (o / 256) = true ∧
        (((u.sec.image c.fwImage.toNat).inactive.bytes.drop o).take 256 = data) ∧
        (∀ i < o, i < (c.image c.fwImage.toNat).inactive.bytes.length →
          (u.sec.image c.fwImage.toNat).inactive.bytes[i]? = (c.image c.fwImage.toNat).inactive.bytes[i]?) ∧ { u with sec := c } = s)))

/-- R411, R414, R416: the override is armed and disarmed, a report is requested and made, the TAP instructions shift and load their registers, or
act as BYPASS where their condition fails. The model's choices in it: log entries 60, 85, 113 and 114. -/
def Obligations.OverrideAttestationAndTap : Prop :=
  (∀ (s : State) (acc : Accessor),
    let c := s.sec
    let s' := touchSelects s acc
    (Admitted s acc 0x3C08 1 = true →
      ((c.lifecycle = 1 ∨ c.lifecycle = 3) → exec (.overrideArm acc) s = Replied acc { s with sec := { c with override := 1 } }) ∧
      (c.lifecycle = 2 → exec (.overrideArm acc) s = .next ((countAbort s abState).send (.dictReply acc.cls 0x08000022 []))) ∧
      exec (.overrideDisarm acc) s = Replied acc { s with sec := { c with override := 0 } }) ∧
    (∀ nonce : Bytes, Admitted s acc 0x3C30 1 = true → nonce.length = 32 →
      (c.attestState ≠ 1 → c.identityKey ≠ none →
        exec (.attestNonce acc nonce) s = Replied acc { s' with sec := { c with attestState := 1, attestNonce := nonce } }) ∧
      ((c.attestState = 1 ∨ c.identityKey = none) →
        exec (.attestNonce acc nonce) s = .next ((countAbort s' abState).send (.dictReply acc.cls 0x08000022 [])))) ∧
    (∀ seed, c.attestState = 1 → c.identity = some seed → Goes (exec .attestDone s) (fun t =>
      t.sec.attestState = 2 ∧ t.sec.report.length = 5888 ∧ (t.sec.report.drop 16).take 32 = padTo 32 c.attestNonce ∧
      (t.sec.report.take 3 = [1#8, 0#8, BitVec.ofNat 8 c.lifecycle.toNat]) ∧ { t with sec := c, draws := s.draws } = s)) ∧
    (c.attestState ≠ 1 → exec .attestDone s = .next s)) ∧
  (∀ (s : State),
    let c := s.sec
    let shifted (code : BitVec 8) (f : Security → Security) (width value : Nat) : Host.Outcome State Fault Refusal :=
      .next { s with sec := f { c with tapCode := code }, out := .tap width value :: s.out }
    let bypass (code : BitVec 8) := shifted code (fun k => { k with boundaryMode := 0 }) 1 0
    (s.pinsFree = true →
      (∀ cells, exec (.extest cells) s = shifted 0x00 (fun k => { k with boundary := cells, boundaryMode := 1 }) 1184 c.boundary.toNat) ∧
      exec .clamp s = shifted 0x03 (fun k => { k with boundaryMode := 2 }) 1 0 ∧
      exec .highz s = shifted 0x04 (fun k => { k with boundaryMode := 3 }) 1 0) ∧
    (s.pinsFree = false → (∀ cells, exec (.extest cells) s = bypass 0x00) ∧ exec .clamp s = bypass 0x03 ∧ exec .highz s = bypass 0x04) ∧
    (∀ pins cells, exec (.samplePreload pins cells) s = shifted 0x02 (fun k => { k with boundary := cells, boundaryMode := 0 }) 1184 pins.toNat) ∧
    (exec .idcode s = shifted 0x01 (fun k => { k with boundaryMode := 0 }) 32 0x2E001A7F) ∧
    (c.lifecycle = 3 →
      (∀ v : BitVec 8, exec (.dmiSelect v) s = shifted 0xD8 (fun k =>
        { k with boundaryMode := 0, dmiTarget := if v.toNat ≤ 193 then v else c.dmiTarget }) 8 c.dmiTarget.toNat) ∧
      (∀ v, Goes (exec (.dmi v) s) (fun t => t.sec = { c with tapCode := 0xD9, boundaryMode := 0, dmiCount := c.dmiCount + 1 } ∧
        (∃ out, t.out = .tap 41 out :: s.out ∧ out < 2 ^ 41) ∧ { t with sec := c, out := s.out } = s)) ∧
      (∀ v : BitVec 112, exec (.sealedRead v) s = shifted 0xDC (fun k =>
        { k with boundaryMode := 0, sealedOffset := BitVec.ofNat 48 (v.toNat % 2 ^ 48 / 8 * 8) }) 112
        (if c.sealedOffset.toNat + 8 ≤ s.mem.sealedBytes then leNat (getSave s (s.mem.sealedBase + c.sealedOffset.toNat) 8) else 0))) ∧
    (c.lifecycle ≠ 3 → (∀ v, exec (.dmiSelect v) s = bypass 0xD8) ∧ (∀ v, exec (.dmi v) s = bypass 0xD9) ∧
      (∀ v, exec (.sealedRead v) s = bypass 0xDC)) ∧
    (∀ code bit, exec (.bypass code bit) s = bypass code))


/-! ### Metering (18) -/

/-- R419, R421, R426 to R428, R431, R432: the register advances and is committed, deviations and conditions are logged, readings are signed of the
values sampled, the mirror takes good frames. The model's choices in it: log entries 75 and 87. -/
def Obligations.MeterRegisterReadingsAndMirror : Prop :=
  ∀ (s : State),
    let m := s.meter
    let entryType (t : State) : Nat := byteAt (smGet [] t.meter.die.events (m.die.eventCount.toNat % 1024)) 4
    let logged (t : State) (typ : Nat) : Prop := t.meter.die.eventCount = m.die.eventCount + 1 ∧ entryType t = typ ∧
      t.meter.die.energy = m.die.energy ∧ t.meter.committed = m.committed ∧ { t with meter := m } = s
    Goes (exec .registerCommit s) (fun t =>
      t.meter.die.energy = m.die.energy + Config.meterEnergyStep m.samples ∧ t.meter.committed = t.meter.die.energy ∧
      t.meter.samples = m.samples + 1 ∧ t.meter.die.eventCount = m.die.eventCount ∧ { t with meter := m } = s) ∧
    (∀ ppm : BitVec 32,
      (m.internal = false → 500 < ppm.toNat → Goes (exec (.referenceDeviation true ppm) s) (fun t =>
        t.meter.internal = true ∧ t.meter.die.status.getLsbD 2 = true ∧ logged t 7)) ∧
      (m.internal = true → ppm.toNat ≤ 500 → Goes (exec (.referenceDeviation false ppm) s) (fun t =>
        t.meter.internal = false ∧ t.meter.die.status.getLsbD 2 = false ∧ logged t 7)) ∧
      (ppm.toNat ≤ 500 → exec (.referenceDeviation true ppm) s = .next s)) ∧
    (∀ (power away : Bool) (v : BitVec 32),
      let bit := if power then 0 else 1
      (m.die.status.getLsbD bit = away → exec (.meterConditionChange power away v) s = .next s) ∧
      (m.die.status.getLsbD bit ≠ away → Goes (exec (.meterConditionChange power away v) s) (fun t =>
        t.meter.die.status.getLsbD bit = away ∧ (∀ i < 8, i ≠ bit → t.meter.die.status.getLsbD i = m.die.status.getLsbD i) ∧
        logged t (if power then 6 else 5)))) ∧
    (∀ (src : BitVec 14) (nonce : Bytes), m.die.nodeId ≠ 0xFF → nonce.length = 32 →
      let acc : Accessor := { cls := .metro, src := src }
      (m.readState ≠ 1 → exec (.readingNonce acc nonce) s =
        Replied acc { s with meter := { m with readState := 1, readSample := readingBody m 0 nonce } }) ∧
      (m.readState = 1 → exec (.readingNonce acc nonce) s = .next (s.send (.dictReply .metro 0x08000022 [])))) ∧
    (m.readState = 1 → Goes (exec .readingDone s) (fun t => t.meter.readState = 2 ∧ t.meter.die.blob0.length = 4864 ∧
      (m.readSample.length = 192 → t.meter.die.blob0.take 192 = m.readSample) ∧
      t.meter.die.blob3 = m.die.blob3 ∧ { t with meter := m, draws := s.draws } = s)) ∧
    (m.readState ≠ 1 → exec .readingDone s = .next s) ∧
    Goes (exec .periodicReading s) (fun t => t.meter.die.blob3.length = 4864 ∧ byteAt t.meter.die.blob3 2 = 1 ∧
      leAt t.meter.die.blob3 8 8 = m.die.energy.toNat ∧ t.meter.die.blob0 = m.die.blob0 ∧ { t with meter := m, draws := s.draws } = s) ∧
    (∀ item, exec (.mirrorFrame false item) s = .next { s with meter := { m with frameErrors := satAdd m.frameErrors 1 } }) ∧
    Goes (exec (.mirrorFrame true .dynamic) s) (fun t =>
      t.meter.mirror.energy = m.die.energy ∧ t.meter.mirror.power = m.die.power ∧ t.meter.mirror.status = m.die.status ∧
      t.meter.mirror.sealBreaks = m.die.sealBreaks ∧ t.meter.mirror.eventCount = m.die.eventCount ∧ t.meter.mirror.nodeId = m.die.nodeId ∧
      t.meter.fresh = true ∧ t.meter.frameTime = s.clkc ∧ t.meter.die = m.die ∧ t.mem = s.mem ∧
      ((m.mirror.eventCount ≠ m.die.eventCount ∨ m.mirror.sealBreaks ≠ m.die.sealBreaks) → (smGet {} t.sources 0x391).pending = true)) ∧
    (exec (.mirrorFrame true .identity) s = .next { s with meter := { m with mirror := { m.mirror with identity := meterRecord } } }) ∧
    (exec (.mirrorFrame true .rotationEnd) s = .next { s with meter := { m with rotated := true } }) ∧
    (exec .mirrorTimeout s = .next { s with meter := { m with fresh := false } })

/-- R425, R428, R433, R434: the metering node's own NMT states, its firmware replaced only by an image that passes its checks and then counted, its
power-on, and the apportioning of the register's advance, which sums exactly. The model's choices in it: log entries 68, 69, 88 and 89. -/
def Obligations.MeterNodeFirmwareAndAttribution : Prop :=
  ∀ (s : State),
    let m := s.meter
    (∀ node : BitVec 8, m.die.nodeId ≠ 0xFF → (node = 0 ∨ node = m.die.nodeId) →
      Goes (exec (.meterNmtCommand 0x01 node) s) (fun t => t.meter.nmt = 0x05 ∧ { t with meter := m, out := s.out } = s) ∧
      Goes (exec (.meterNmtCommand 0x02 node) s) (fun t => t.meter.nmt = 0x04 ∧ { t with meter := m, out := s.out } = s) ∧
      Goes (exec (.meterNmtCommand 0x80 node) s) (fun t => t.meter.nmt = 0x7F ∧ { t with meter := m, out := s.out } = s) ∧
      (∀ c : BitVec 8, (c = 0x81 ∨ c = 0x82) → Goes (exec (.meterNmtCommand c node) s) (fun t =>
        t.meter.nmt = 0x05 ∧ t.meter.heartbeatMs = 0x03E8 ∧ t.meter.die.nodeId = m.storedNode ∧ t.meter.die.energy = m.die.energy ∧
        { t with meter := m, out := s.out } = s))) ∧
    (m.die.nodeId = 0xFF → ∀ c node, exec (.meterNmtCommand c node) s = .next s) ∧
    (∀ src : BitVec 14, m.die.nodeId ≠ 0xFF →
      let acc : Accessor := { cls := .metro, src := src }
      let refused (code : BitVec 32) : Host.Outcome State Fault Refusal := .next (s.send (.dictReply .metro code []))
      (∀ n : BitVec 32, (512 * 1024 < n.toNat → exec (.meterFwBegin acc n) s = refused 0x06090030) ∧
        (n.toNat ≤ 512 * 1024 → m.fwState ≠ 1 → exec (.meterFwBegin acc n) s =
          Replied acc { s with meter := { m with fwState := 1, fwSize := n, staging := [] } })) ∧
      (∀ data : Bytes, data.length = 256 →
        (m.fwState = 1 → m.staging.length < m.fwSize.toNat → exec (.meterFwData acc data) s =
          Replied acc { s with meter := { m with staging := m.staging ++ data } }) ∧
        ((m.fwState ≠ 1 ∨ m.fwSize.toNat ≤ m.staging.length) → exec (.meterFwData acc data) s = refused 0x08000022)) ∧
      (m.fwState = 1 → exec (.meterFwAbort acc) s = Replied acc { s with meter := { m with fwState := 0, staging := [] } }) ∧
      (m.fwState ≠ 1 → exec (.meterFwAbort acc) s = refused 0x08000022 ∧ exec (.meterFwActivate acc) s = refused 0x08000022) ∧
      (m.fwState = 1 →
        let reason := meterImageReason m m.staging
        (reason = 0 → Answered (exec (.meterFwActivate acc) s) acc (fun u =>
          u.meter.die.sealBreaks = m.die.sealBreaks + 1 ∧ u.meter.die.eventCount = m.die.eventCount + 1 ∧ u.meter.image = m.staging ∧
          u.meter.fwState = 0 ∧ u.meter.die.energy = m.die.energy ∧ m.minimum.toNat ≤ u.meter.minimum.toNat ∧
          { u with meter := m, out := s.out } = s)) ∧
        (reason ≠ 0 → Answered (exec (.meterFwActivate acc) s) acc (fun u =>
          u.meter.die.sealBreaks = m.die.sealBreaks ∧ u.meter.die.eventCount = m.die.eventCount + 1 ∧ u.meter.image = m.image ∧
          u.meter.fwState = 3 ∧ { u with meter := m } = s)))) ∧
    (∀ test : Option Nat, Goes (exec (.meteringPowerOn test) s) (fun t =>
      t.meter.die.energy = m.committed ∧ t.meter.die.powerOns = m.die.powerOns + 1 ∧ t.meter.readState = 0 ∧ t.meter.nmt = 0x05 ∧
      t.meter.die.eventCount = m.die.eventCount + (if test = none then 1 else 2) ∧ t.meter.die.status = (if test = none then 0 else 8) ∧
      t.meter.image = m.image ∧ { t with meter := m, out := s.out } = s)) ∧
    (s.wf = true → ∀ activity : List Activity,
      let sum (u : State) : BitVec 64 := ((List.finRange 256).map (fun x => (u.ctx x.val).energy)).sum + u.meter.unattributed
      let advance : BitVec 64 := match m.lastEnergy with
        | some e => m.mirror.energy - e
        | none => 0
      Goes (exec (.attributionInterval activity) s) (fun t => sum t = sum s + advance ∧ t.meter.die = m.die ∧ t.meter.inForce = m.weights ∧
        { t with meter := m, contexts := s.contexts } = s)) ∧
    (s.wf = true → ∀ acc : Accessor, Admitted s acc 0x2280 7 = true → Answered (exec (.attributionClear acc) s) acc (fun u =>
      u.meter.unattributed = 0 ∧ (∀ x, (u.ctx x).energy = 0 ∧ (u.ctx x).st = (s.ctx x).st) ∧ u.meter.die = m.die ∧
      { u with meter := m, contexts := s.contexts } = s))


/-! ### Clocks, power, resets and start-up (19) -/

/-- R438 to R440, R443, R444: the power step goes to 3 above 3,300 W, hot groups slow down and are announced, two samples beyond the shutdown level
turn the regulators off, an input warning is announced, and rails at their reset level act on what they feed. The model's choices in it: log entries
90, 92 and 96. -/
def Obligations.PowerAndTemperatureControl : Prop :=
  ∀ (s : State),
    let p := s.power
    (∀ mw : BitVec 32,
      (p.regulators = false → exec (.powerSample mw) s = .next s) ∧
      (s.controlled = true → 3300000 < mw.toNat → Goes (exec (.powerSample mw) s) (fun t =>
        t.power.powerStep = 3 ∧ t.power.step0 = 3 ∧ t.power.step1 = 3 ∧ { t with power := p } = s)) ∧
      (s.controlled = true → p.inputWarn = false → p.inputHold ≤ 1 → p.fasterHold = 0 → 9 ≤ p.sinceSlower → 9 ≤ p.samples.length →
        mw.toNat ≤ 3300000 → p.limitW.toNat * 1000 < meanOf 10 (mw.toNat :: p.samples) → Goes (exec (.powerSample mw) s) (fun t =>
        t.power.powerStep = slower p.powerStep ∧ t.power.sinceSlower = 0 ∧ { t with power := p } = s)) ∧
      (p.regulators = true → s.controlled = false → exec (.powerSample mw) s =
        .next { s with power := { p with samples := (mw.toNat :: p.samples).take 100 } })) ∧
    (∀ temps : List (BitVec 16), p.regulators = true →
      (s.controlled = false → (beyondLimit temps = false ∨ p.overLimit = false) → exec (.thermalSample temps) s =
        .next { s with power := { p with temps := temps, overLimit := beyondLimit temps } }) ∧
      (s.controlled = true → (beyondLimit temps = false ∨ p.overLimit = false) → Goes (exec (.thermalSample temps) s) (fun t =>
        t.power.temps = temps ∧ t.power.hot0 = groupHot temps 0 ∧ t.power.hot1 = groupHot temps 1 ∧
        (groupHot temps 0 = true → 9 ≤ p.hotTicks0 → t.power.thermalStep0 = slower p.thermalStep0) ∧
        (groupHot temps 0 = true → p.hot0 = false → (smGet {} t.sources 0x385).pending = true) ∧
        (groupHot temps 0 = true → p.hot0 = false → p.hot1 = true → t.power.hotEpisodes = satAdd p.hotEpisodes 1) ∧
        t.mem = s.mem ∧ t.contexts = s.contexts)) ∧
      (beyondLimit temps = true → p.overLimit = true → Goes (exec (.thermalSample temps) s) (fun t =>
        t.power.regulators = false ∧ t.power.thermalLatch = true ∧ t.power.offCause = 6 ∧ t.rel.shutdowns = satAdd s.rel.shutdowns 1 ∧
        t.mem.cells = [] ∧ t.cores = [] ∧ t.contexts = [] ∧ t.meter.die = s.meter.die))) ∧
    (∀ mv : BitVec 16,
      (p.inputWarn = false → p.regulators = true → Goes (exec (.inputWarning true mv) s) (fun t =>
        t.power.inputWarn = true ∧ t.power.powerStep = 3 ∧ (smGet {} t.sources 0x383).pending = true ∧
        t.dict.errorRegister = s.dict.errorRegister ||| 5 ∧
        (mv.toNat < 42000 → t.meter.committed = s.meter.die.energy ∧ t.meter.die.eventCount = s.meter.die.eventCount + 1) ∧
        (42000 ≤ mv.toNat → t.meter = s.meter) ∧ t.mem = s.mem)) ∧
      (p.inputWarn = true → Goes (exec (.inputWarning false mv) s) (fun t =>
        t.power.inputWarn = false ∧ t.power.inputHold = 100 ∧ { t with power := p, dict := s.dict, out := s.out } = s)) ∧
      (∀ away, p.inputWarn = away → exec (.inputWarning away mv) s = .next s)) ∧
    (p.regulators = true → s.startingPower = false → Goes (exec .referenceLoss s) (fun t =>
      t.device = .bootLimited ∧ t.power.resetCause = 8 ∧ t.power.refLost = true ∧ t.power.bootStep = 1 ∧ t.clkc = 0)) ∧
    (p.regulators = false → exec .referenceLoss s = .next s) ∧
    (exec .referenceWithinLimits s = .next { s with power := { p with refLost := false } }) ∧
    (∀ rail : Fin 15,
      (rail.val = 0 → exec (.railResetLevel rail) s = .next s) ∧
      (rail.val = 1 → Goes (exec (.railResetLevel rail) s) (fun t =>
        t.power.regulators = false ∧ t.power.inputLost = true ∧ t.mem.cells = [] ∧ t.meter.die = s.meter.die)) ∧
      (∀ d : Fin 2, (rail.val = 2 + d.val ∨ rail.val = 4 + d.val) → p.regulators = true → s.starting = false → p.draining = none →
        Goes (exec (.railResetLevel rail) s) (fun t => t.dieResetting d = true ∧
          t.power.dieResets = (if s.dieResetting d then p.dieResets else satAdd p.dieResets 1) ∧ t.sec.nonce = none ∧ t.mem = s.mem)) ∧
      ((rail.val = 6 ∨ rail.val = 7 ∨ rail.val = 14) → p.regulators = true → s.startingPower = false →
        Goes (exec (.railResetLevel rail) s) (fun t => t.device = .bootLimited ∧ t.power.resetCause = 9 ∧ t.clkc = 0)) ∧
      ((rail.val = 8 ∨ rail.val = 9) → s.wf = true → p.regulators = true → Goes (exec (.railResetLevel rail) s) (fun t =>
        (∀ q < 64, q / 4 % 2 = rail.val - 8 → (t.port q).st ≠ 1 ∧ (t.port q).st ≠ 2) ∧ t.mem = s.mem)) ∧
      ((rail.val = 10 ∨ rail.val = 11) → p.regulators = true → Goes (exec (.railResetLevel rail) s) (fun t =>
        ∀ h < 12, t.mem.hbmStacks.getLsbD h = (s.mem.hbmStacks.getLsbD h && decide (h / 6 ≠ rail.val - 10)))) ∧
      ((rail.val = 12 ∨ rail.val = 13) → p.regulators = true → Goes (exec (.railResetLevel rail) s) (fun t =>
        ∀ c < 8, t.mem.channels.getLsbD c = (s.mem.channels.getLsbD c && decide (c / 4 ≠ rail.val - 12)))))

/-- R445 to R447, R449, R450, R453, R463: the resets, what each of power-on, pin and warm scope keeps and clears, and how they are commanded,
absorbed and held. The model's choices in it: log entries 91, 92, 93, 94 and 95. -/
def Obligations.ResetsKeepAndClear : Prop :=
  ∀ (s : State),
    let p := s.power
    let started (t : State) (cause : BitVec 8) : Prop := t.device = .bootLimited ∧ t.clkc = 0 ∧ t.power.bootStep = 1 ∧ t.power.resetCause = cause ∧
      t.rel.epoch = s.rel.epoch + 1 ∧ t.rel.bundle = none ∧ t.rel.histories = s.rel.histories ∧ t.cores = [] ∧ t.dict.accessLevel = 0 ∧
      t.sec.staging = [] ∧ t.sec.nonce = none ∧ t.sec.lifecycle = s.sec.lifecycle ∧ t.sec.seed = s.sec.seed ∧ t.meter.die = s.meter.die ∧
      t.fabric.moduleId = none ∧ (∀ n, (smGet {} t.sources n).pending = false)
    let lost (t : State) : Prop := t.mem.cells = [] ∧ t.contexts = [] ∧ t.counters = [] ∧ t.sources = [] ∧ t.sec.override = 0 ∧ t.rel.recordCount = 0
    (∀ acc : Accessor, Admitted s acc 0x2210 1 = true →
      let busy := p.draining.isSome || s.startingWarm
      let refused : Host.Outcome State Fault Refusal := .next ((countAbort s abState).send (.dictReply acc.cls 0x08000022 []))
      (busy = true → exec (.warmResetCommand acc) s = refused ∧ ∀ die, exec (.dieResetCommand acc die) s = refused) ∧
      (busy = false → p.regulators = true → s.starting = false →
        exec (.warmResetCommand acc) s = Replied acc { s with power := { p with draining := some .warmCommand } } ∧
        (∀ die : Fin 2, s.dieResetting die = true → exec (.dieResetCommand acc die) s = refused) ∧
        (∀ die : Fin 2, s.dieResetting die = false → Answered (exec (.dieResetCommand acc die) s) acc (fun u =>
          u.dieResetting die = true ∧ u.power.dieResets = satAdd p.dieResets 1 ∧ u.sec.staging = [] ∧ u.mem = s.mem)))) ∧
    (p.regulators = true → s.starting = false → p.draining = none → Goes (exec (.warmReset .warmFirmware) s) (fun t => started t 5 ∧
      (s.wf = true → (∀ a, a < 0x80000000000 → t.mem.byte a = 0 ∨ t.mem.byte a = s.mem.byte a) ∧
        (∀ a, 0x80000000000 ≤ a → a < 0x100000000000 → t.mem.byte a = s.mem.byte a) ∧ (∀ a, 0x100000000000 ≤ a → t.mem.byte a = 0)) ∧
      t.sec.override = s.sec.override ∧ t.rel.recordCount = s.rel.recordCount ∧ t.contexts = s.contexts)) ∧
    (p.regulators = true → s.starting = false → ∀ w, p.draining = some w → Goes (exec (.warmReset w) s) (fun t =>
      t.device = .bootLimited ∧ t.power.resetCause = warmCause w ∧ t.power.draining = none ∧ t.rel.epoch = s.rel.epoch + 1 ∧ t.cores = [])) ∧
    ((p.regulators = false ∨ s.starting = true) → p.draining = none → ∀ w, exec (.warmReset w) s = .next s) ∧
    (p.draining = none → exec .warmResetDrainEnd s = .next s) ∧
    (∀ w x q d, p.draining = some w → s.contexts = [(x, { s.ctx x with queues := [(q, { s.queue x q with descs := [d] })] })] → d.decided = false →
      Goes (exec .warmResetDrainEnd s) (fun t => ∃ d', t.desc? x q d.seq = some d' ∧ d'.phase = .committed ∧ d'.status = BitVec.ofNat 16 stCancelled ∧
        d'.flags = 0 ∧ d'.flips = 0)) ∧
    (∀ d : Fin 2, s.dieResetting d = true → Goes (exec (.dieReset d) s) (fun t => t.dieResetting d = false ∧ t.clkc = s.clkc ∧ t.rel.epoch = s.rel.epoch ∧
      (s.wf = true → s.queueObjs.snapBusy = false → (∀ x, (s.ctx x).st ≠ .recovering) →
        (∀ g : CoreId, g.val / 96 = d.val → t.core g = {}) ∧
        (∀ g : CoreId, g.val / 96 ≠ d.val → t.core g = s.core g)))) ∧
    (∀ d : Fin 2, (p.regulators = false ∨ s.starting = true) → s.dieResetting d = false → exec (.dieReset d) s = .next s) ∧
    (p.regulators = false → p.powerEnable = true → p.thermalLatch = false →
      (Goes (exec (.powerOnReset .inputReset) s) (fun t => started t p.offCause ∧ lost t ∧ t.power.regulators = true ∧ t.power.inputLost = false)) ∧
      (p.inputLost = true → ∀ w, w ≠ .inputReset → exec (.powerOnReset w) s = .next s)) ∧
    (p.regulators = true → ∀ w, w ≠ .inputReset → exec (.powerOnReset w) s = .next s) ∧
    (p.powerEnable = true → p.regulators = true → s.startingPower = false → Goes (exec .moduleResetPin s) (fun t =>
      started t 2 ∧ lost t ∧ t.power.pinHeld = true ∧ t.power.resetN = false)) ∧
    (p.powerEnable = false → exec .moduleResetPin s = .next { s with power := { p with resetN := false } }) ∧
    (exec .moduleResetNRise s = .next { s with power := { p with resetN := true, pinHeld := false } }) ∧
    (p.regulators = false → p.inputLost = false → p.thermalLatch = false → Goes (exec .powerEnableHigh s) (fun t => started t p.offCause ∧ lost t)) ∧
    (p.regulators = true → exec .powerEnableHigh s = .next { s with power := { p with powerEnable := true } }) ∧
    (p.regulators = true → Goes (exec .powerEnableLow s) (fun t =>
      t.power.regulators = false ∧ t.power.powerEnable = false ∧ t.power.thermalLatch = false ∧ t.mem.cells = [] ∧ t.contexts = [] ∧
      t.meter.die = s.meter.die ∧ t.rel.histories = s.rel.histories))

/-- R410, R448, R451, R452: start-up runs its seven steps in order; a step that fails or is late stops it in Boot/Limited; the sweep of a warm reset
echoes the previous epoch's slots; step 7 ends in Service. The model's choices in it: log entries 83 and 93. -/
def Obligations.StartUpRunsItsSteps : Prop :=
  ∀ (s : State) (r : BootReport),
    let p := s.power
    let timed : State := { s with power := { p with bootTimes := p.bootTimes ++ [r.millis] } }
    (s.starting = false → exec (.bootStepComplete r) s = .next s ∧ exec .bootStepTimeout s = .next s) ∧
    (s.starting = true →
      (p.bootStep = 1 → (p.pinHeld = true ∨ p.refLost = true) → exec (.bootStepComplete r) s = .next s) ∧
      (p.bootStep = 1 → p.pinHeld = false → p.refLost = false → Goes (exec (.bootStepComplete r) s) (fun t => t.power.bootStep = 2 ∧
        (s.dict.nodeId ≠ 0xFF → s.dict.busState ≠ 2 → t.out = .can (BitVec.ofNat 11 (0x700 + s.dict.nodeId.toNat)) [0#8] :: s.out) ∧
        t.device = .bootLimited ∧ t.mem = s.mem)) ∧
      (p.bootStep = 2 →
        let c := bootCheck timed ([2#8, 8#8, 9#8].contains p.resetCause)
        Goes (exec (.bootStepComplete r) s) (fun t => t.sec.override = 0 ∧ t.mem = s.mem ∧
          (c.2 = true → t.power.bootStep = 3 ∧ t.power.bootFailed = false) ∧ (c.2 = false → t.power.bootStep = 2 ∧ t.power.bootFailed = true))) ∧
      (p.bootStep = 3 → r.failedSlots = [] → exec (.bootStepComplete r) s = .next (nextStep timed)) ∧
      (p.bootStep = 4 →
        (∀ c, offending r.spd = some c → Goes (exec (.bootStepComplete r) s) (fun t =>
          t.power.bootStep = 4 ∧ t.power.bootFailed = true ∧ t.rel.recordCount = s.rel.recordCount + 1)) ∧
        (offending r.spd = none → Goes (exec (.bootStepComplete r) s) (fun t => t.power.bootStep = 5 ∧ t.mem.cells = s.mem.cells ∧
          (∀ h : Fin 12, t.mem.hbmStacks.getLsbD h = (!(r.failedStacks.contains h) && !(s.rel.leaving.contains h.val))) ∧
          (∀ c < 8, t.mem.population.getLsbD c = (r.spd.getD c none).isSome)))) ∧
      (p.bootStep = 5 → r.failedSlots = [] → exec (.bootStepComplete r) s = .next (nextStep timed)) ∧
      (p.bootStep = 6 → exec (.bootStepComplete r) s = .next (nextStep timed)) ∧
      (p.bootStep = 7 → p.sweepDone = false → exec (.bootStepComplete r) s = .next s) ∧
      (p.bootStep = 7 → p.sweepDone = true → Goes (exec (.bootStepComplete r) s) (fun t =>
        t.device = .service ∧ t.power.bootStep = 0 ∧ t.mem.journal = [0, 4].filter (fun c => s.mem.channels.getLsbD c) ∧
        t.mem.cells = s.mem.cells ∧ t.contexts = s.contexts)) ∧
      Goes (exec .bootStepTimeout s) (fun t => t.power.bootFailed = true ∧ t.power.bootStep = p.bootStep ∧
        t.rel.recordCount = s.rel.recordCount + 1 ∧ t.device = .bootLimited ∧ t.mem = s.mem)) ∧
    ((s.device ≠ .bootLimited ∨ p.bootStep ≠ 7 ∨ p.sweepDone = true ∨ p.sweeping = true ∨ s.linkUp = false) → exec .journalSweep s = .next s) ∧
    (s.device = .bootLimited → p.bootStep = 7 → p.sweepDone = false → p.sweeping = false → s.linkUp = true →
      (previousSlots s = [] → Goes (exec .journalSweep s) (fun t => t.power.sweepDone = true ∧ t.power.sweeping = false ∧ t.counters = [] ∧
        (∀ x, (t.ctx x).st = .free) ∧ t.mem = s.mem.zeroJournal)) ∧
      (∀ k, previousSlots s = [k] → byteAt (journalSlot s k.1 k.2.1 k.2.2) 192 = 2 → Goes (exec .journalSweep s) (fun t =>
        t.power.sweeping = true ∧ t.power.sweepDone = false ∧ t.drinex.echoes = [(k.1, k.2.1, true, k.2.2)] ∧ t.mem = s.mem)))


/-! ### The whole block -/

/-- A step with a command at the front of the queue is that command's effect on the state with the queue's rest; with nothing waiting (log entry 2,
the model's choice) a DEBUG request that waits is served and CLKC counts once. -/
def Obligations.StepRunsTheFrontCommand : Prop :=
  (∀ (s : State) (c : Instr) (rest : List Instr), step { s with pending := c :: rest } = exec c { s with pending := rest }) ∧
  (∀ (s : State), s.pending = [] →
       step s = .next { serveTap s with clkc := (serveTap s).clkc + 1 } ∧
       (s.dict.tapRequest = none → step s = .next { s with clkc := s.clkc + 1 }))

/-- R445 to R447, R451: right after reset the module is in Boot/Limited at step 1 with its regulators on, nothing in memory, contexts and counters,
objects at their defaults, and its tables in canonical form. The model's choices in it: log entries 8, 77 and 111. -/
def Obligations.ResetStateIsPowerOn : Prop :=
  State.reset.wf = true ∧ State.reset.pending = [] ∧ State.reset.device = .bootLimited ∧ State.reset.power.bootStep = 1 ∧
  State.reset.power.resetCause = 1 ∧ State.reset.power.regulators = true ∧ State.reset.power.limitW = 0x0BB8 ∧ State.reset.power.drainMs = 0x03E8 ∧
  State.reset.clkc = 0 ∧ State.reset.mem.cells = [] ∧ State.reset.contexts = [] ∧ State.reset.counters = [] ∧ State.reset.sources = [] ∧
  State.reset.dests = [] ∧ State.reset.dict.accessLevel = 0 ∧ State.reset.dict.timeoutS = 0x0384 ∧ State.reset.dict.heartbeatMs = 0x03E8 ∧
  State.reset.dict.inhibitEmcy = 0x000A ∧ State.reset.rel.intervalS = 0x003C ∧ State.reset.rel.idleUs = 0x01F4 ∧ State.reset.rel.deadlineS = 0x0258 ∧
  State.reset.sec.attestState = 0 ∧ State.reset.sec.fwState = 0 ∧ State.reset.sec.override = 0 ∧ State.reset.drinex.st = 0

/-- Every step answers a next state, and takes exactly the front command off the queue: no command adds, drops or reorders others. The model's
choices in it: log entries 2 and 3. -/
def Obligations.EveryStepTakesTheFrontCommand : Prop :=
  ∀ (s : State), Goes (step s) (fun t => t.pending = s.pending.tail)

/-- Every step keeps memory and the tables that state is read from in canonical form, so that equal contents are equal states. The model's choices
in it: log entry 8. -/
def Obligations.StepsKeepTablesCanonical : Prop :=
  ∀ (s t : State), s.wf = true → step s = .next t → t.wf = true


/-! ### Rules of spec/ stated whole -/

/-- R379: "An uncorrectable error in a 64-byte block of HBM, DDR5, local SRAM or scratch poisons that block. [...] every later read returns a
detected data error. A write of the whole block clears the poison. A partial write of a poisoned block writes nothing and is itself a detected data
error." Patrol scrub poisons in the same way. -/
def Obligations.PoisonedBlocksFailUntilRewritten : Prop :=
  (∀ (s : State) (m : Memory) (n a i p : Nat), i < n → s.translate (a + i) = some p → s.dark p = false → m.poisoned p = true →
    (∀ j < i, ∃ q, s.translate (a + j) = some q ∧ s.dark q = false ∧ m.poisoned q = false) →
    readMem s m n a = .error (.data (a + i) p)) ∧
  (∀ (s : State) (m : Memory) (cl : Option Nat) (a p : Nat) (bs : Bytes), s.translate a = some p → s.dark p = false →
    (bs ≠ [] → a % 64 + bs.length ≤ 64 → bs.length < 64 → m.poisoned p = true → writeMem s m cl a bs = (m, some (.data a p))) ∧
    (a % 64 = 0 → bs.length = 64 →
      ∃ m', writeMem s m cl a bs = (m', none) ∧ m'.poisoned p = false ∧ ∀ q, q / 64 ≠ p / 64 → m'.poisoned q = m.poisoned q)) ∧
  (∀ (s : State) (a p : Nat), s.translate a = some p →
    (let t := s.poisonAt a
     t.mem.poisoned p = true ∧ (∀ q, q / 64 ≠ p / 64 → t.mem.poisoned q = s.mem.poisoned q) ∧ t.mem.cells = s.mem.cells) ∧
    Goes (exec (.patrolScrub (.memUe a)) s) (fun t =>
      t.mem.poisoned p = true ∧ (∀ q, q / 64 ≠ p / 64 → t.mem.poisoned q = s.mem.poisoned q) ∧ t.mem.cells = s.mem.cells))

/-- R365: "When a source's event occurs, the controller sets the pending bit. A further event that occurs while the pending bit is already set
leaves it set and has no other effect. Hardware clears no pending bit. Host software or firmware clears it through IrqPendingClear. Disabling a
source does not clear its pending bit." Said here of the controller's own commands; a source is one that its core, if it is per-core, has present
(R366). The model's choices in it: log entry 60. -/
def Obligations.PendingBitsAreSetAndCleared : Prop :=
  ∀ (s : State), s.wf = true →
    let src (u : State) (n : Nat) : IrqSource := smGet {} u.sources n
    (∀ n, s.sourceDead n = false → src (raise s n) n = { src s n with pending := true } ∧ (∀ k, k ≠ n → src (raise s n) k = src s k)) ∧
    (∀ n, (src s n).pending = true → raise s n = s) ∧
    (∀ dest : BitVec 16, Goes (exec (.coalesceTimer dest) s) (fun t => t.sources = s.sources)) ∧
    (∀ (g : CoreId) (v : BitVec 1), Goes (exec (.lineAck g v) s) (fun t => t.sources = s.sources)) ∧
    (∀ (acc : Accessor) (bits : Bytes), Admitted s acc 0x2E01 2 = true → bits.length = 128 →
      Answered (exec (.irqPendingClear acc bits) s) acc (fun u =>
        ∀ n < 1024, src u n = { src s n with pending := (src s n).pending && !(bitAt (byteAt bits (n / 8)) (n % 8)) })) ∧
    (∀ (acc : Accessor) (v : BitVec 32), Admitted s acc 0x2E00 2 = true → v.toNat / 2 ^ 17 = 0 → destCodeOk (v.toNat % 2 ^ 16) = true →
      Answered (exec (.irqSourceRoute acc v) s) acc (fun u => ∀ n, (src u n).pending = (src s n).pending))

/-- R186 and R188: what a wait, a signal of amount a and a DEBIT do to the credit count n of a service-mode counter and to the counts P and C of a
monotonic one; an instruction that waits is held until it is granted. Nothing of the counter's own is on its way, it is neither frozen nor marked,
and n is within the limit buffers. -/
def Obligations.CountersCountCredits : Prop :=
  ∀ (s : State) (p : Fin 65536), s.wf = true → s.queueObjs.snapBusy = false →
    let c := s.ctr p
    let granted (t : State) (w : Actor) : Prop := ∀ (u : UnitKind) (g : CoreId) (q : BitVec 64) (e : WinEntry), w = .core u g q →
      findEntry (s.unitOf u g).window q = some e → ∃ e', findEntry (t.unitOf u g).window q = some e' ∧ e'.desc = e.desc ∧ e'.granted = true
    c.frozen = false → c.cancelled = false →
    (∀ (u : UnitKind) (g : CoreId) (e : WinEntry), dWaitEn e.desc = true → e.cancelled = false →
      (let w := s.transEntry (s.ownerOf g) (dWaitVid e.desc)
       trKind w = 0 → trTarget w = p.val →
       (e.granted = false → waitOf s g u e = .held) ∧ (e.granted = true → waitOf s g u e = .ready))) ∧
    (c.monotonic = false → c.produced.toNat ≤ c.buffers.toNat →
      (c.produced = 0 → exec (.counterGrant p) s = .next s) ∧
      (∀ w rest, c.waiters = w :: rest → c.produced ≠ 0 → Goes (exec (.counterGrant p) s) (fun t =>
        t.ctr p = { c with waiters := rest, grants := c.grants + 1, produced := c.produced - 1 } ∧ granted t w)) ∧
      (∀ (a : BitVec 32) src, (∀ m ∈ s.signals, m.cancel = true ∨ m.src ≠ src) → Goes (exec (.counterSignal p a src) s) (fun t =>
        (c.buffers.toNat < c.produced.toNat + a.toNat → (t.ctr p).produced = c.produced ∧ (t.ctr p).frozen = true ∧ (t.ctr p).cause = 2) ∧
        (c.produced.toNat + a.toNat ≤ c.buffers.toNat → (t.ctr p).produced.toNat = c.produced.toNat + a.toNat ∧ (t.ctr p).frozen = false))) ∧
      (∀ (acc : Accessor) (a : BitVec 64), Admitted s acc 0x2C00 5 = true → a.toNat < 2 ^ 32 →
        (let e := s.transEntry (s.selects acc).syncCtx.toNat (s.selects acc).syncVid.toNat
         trValid e = true → trKind e = 0 → trTarget e = p.val → Answered (exec (.debit acc a) s) acc (fun u =>
          (c.produced.toNat < a.toNat → (u.ctr p).produced = c.produced ∧ (u.ctr p).frozen = true ∧ (u.ctr p).cause = 1) ∧
          (a.toNat ≤ c.produced.toNat → (u.ctr p).produced.toNat = c.produced.toNat - a.toNat ∧ (u.ctr p).frozen = false))))) ∧
    (c.monotonic = true →
      ((c.produced - c.consumed).toInt ≤ 0 → exec (.counterGrant p) s = .next s) ∧
      (∀ w rest, c.waiters = w :: rest → 0 < (c.produced - c.consumed).toInt → Goes (exec (.counterGrant p) s) (fun t =>
        t.ctr p = { c with waiters := rest, grants := c.grants + 1, consumed := c.consumed + 1 } ∧ granted t w)) ∧
      (∀ (a : BitVec 32) src, (∀ m ∈ s.signals, m.cancel = true ∨ m.src ≠ src) →
        exec (.counterSignal p a src) s = .next (s.setCtr p { c with produced := c.produced + a.setWidth 64 })) ∧
      (∀ (acc : Accessor) (a : BitVec 64), Admitted s acc 0x2C00 5 = true → a.toNat < 2 ^ 32 →
        (let e := s.transEntry (s.selects acc).syncCtx.toNat (s.selects acc).syncVid.toNat
         trValid e = true → trKind e = 0 → trTarget e = p.val → exec (.debit acc a) s =
          .next ((countAbort (touchSelects s acc) abState).send (.dictReply acc.cls 0x08000022 [])))))

/-- R200: "A wait by member m on its barrier consumes nothing. It holds while m is in E0 or in E1, that is, until every round that m has entered is
complete. A member that waits without having entered is granted at once." A held TSIG stays as it is; when a round completes, a waiting unit whose
member has no entry left is granted, and one that has entered the next round is not. -/
def Obligations.BarrierWaitsHoldMembersInside : Prop :=
  (∀ (s : State) (u : UnitKind) (g : CoreId) (e : WinEntry), dWaitEn e.desc = true → e.granted = false → e.cancelled = false →
    let x := s.ownerOf g
    let w := s.transEntry x (dWaitVid e.desc)
    let b := s.barrier x (trTarget w)
    let m := memberIndex (.core u g e.seq)
    trKind w = 2 → b.poisoned = false →
    ((m ∈ b.e0 ∨ m ∈ b.e1) → waitOf s g u e = .held) ∧ (m ∉ b.e0 → m ∉ b.e1 → waitOf s g u e = .ready)) ∧
  (∀ (s : State) (x : CtxId) (d : HostDesc), dWaitEn d.bytes = true → d.granted = false → d.cancelled = false →
    let w := s.transEntry x (dWaitVid d.bytes)
    let b := s.barrier x (trTarget w)
    trKind w = 2 → b.poisoned = false →
    ((576 ∈ b.e0 ∨ 576 ∈ b.e1) → hostWait s x d = .held) ∧ (576 ∉ b.e0 → 576 ∉ b.e1 → hostWait s x d = .ready)) ∧
  (∀ (s : State) (g : CoreId) (seq : BitVec 64) (e : WinEntry), s.wf = true → (s.unitOf .engine g).window = [e] → e.seq = seq →
    e.phase = .waiting → waitOf s g .engine e = .held → exec (.tsig g seq) s = .next s) ∧
  (∀ (s : State) (x : CtxId) (k : Fin 256) (n : Nat) (src : Actor) (u : UnitKind) (g : CoreId) (e : WinEntry), s.wf = true →
    s.queueObjs.snapBusy = false →
    let b := s.barrier x k
    let w := s.transEntry x (dWaitVid e.desc)
    let m := memberIndex (.core u g e.seq)
    b.comm = none → s.signals = [] → b.poisoned = false → n ∈ b.members → n ∉ b.e0 → (∀ i ∈ b.members, i = n ∨ i ∈ b.e0) →
    (∃ i ∈ b.members, i ∉ b.e1) → (s.core g).owner = some x → (s.unitOf u g).window = [e] → e.phase = .waiting → dWaitEn e.desc = true →
    e.granted = false → e.cancelled = false → trValid w = true → trKind w = 2 → trTarget w = k.val →
    Goes (exec (.barrierEnter x k n src) s) (fun t => t.barrier x k = { b with gen := b.gen + 1, e0 := b.e1, e1 := [] } ∧
      ∃ e', (t.unitOf u g).window = [e'] ∧ e'.granted = !(b.e1.contains m)))

/-- R425: the metering node acts on NMT: START lets its TPDO go out again; STOP and ENTER PRE-OPERATIONAL end it while its objects are still served;
both resets reset communication only. Measurement, signing, the log and the mirror run in every state, and no command changes the register, the log
or a counter. The model's choices in it: log entry 69. -/
def Obligations.MeterNodeActsOnNmt : Prop :=
  ∀ (s : State) (c node : BitVec 8),
    let m := s.meter
    m.die.nodeId ≠ 0xFF → (node = 0 ∨ node = m.die.nodeId) →
    Goes (exec (.meterNmtCommand c node) s) (fun t =>
      (c = 0x01 → t.meter.nmt = 0x05) ∧
      ((c = 0x02 ∨ c = 0x80) → (∀ timer, meterTpdoTry timer t = t) ∧ t.reached .metro = true ∧
        { t.meter with nmt := m.nmt } = m) ∧
      ((c = 0x81 ∨ c = 0x82) → t.meter.nmt = 0x05 ∧ t.meter.tpdo = {} ∧ t.meter.heartbeatMs = 0x03E8 ∧
        { t.meter with nmt := m.nmt, tpdo := m.tpdo, heartbeatMs := m.heartbeatMs, lssConfig := m.lssConfig, lssMatched := m.lssMatched
                       pendingNode := m.pendingNode, die := m.die } = m) ∧
      { t.meter.die with nodeId := m.die.nodeId } = m.die ∧ t.meter.committed = m.committed ∧ t.meter.samples = m.samples ∧
      { t with meter := m, out := s.out } = s) ∧
    (m.nmt = 0x05 → m.tpdo.cobId = none → meterTpdoData s ≠ m.tpdo.last → m.tpdo.clear s.dict.sampleTick = true →
      (meterTpdoTry false s).out = .meterCan (BitVec.ofNat 11 (0x180 + m.die.nodeId.toNat)) (meterTpdoData s) :: s.out) ∧
    (∀ v power away (value : BitVec 32) item,
      let as (u : State) : State := { u with meter := { u.meter with nmt := v } }
      ∀ i ∈ [Instr.registerCommit, .readingDone, .periodicReading, .mirrorTimeout, .mirrorFrame true item,
          .meterConditionChange power away value, .referenceDeviation away value],
        ∀ t, exec i s = .next t → exec i (as s) = .next (as t))
end

