-- ==== Sys2Proof/Laws/Dictionary.lean ====
section
/-! SUPPORT. What a write of a dictionary object answers once its checks have passed (R342), and the replies of R340. -/

namespace Sys2Proof.Machine

/-- The parts of Admitted. -/
theorem admitted_iff {s : State} {acc : Accessor} {idx sub : Nat} : Admitted s acc idx sub = true ↔
    s.reached acc.cls = true ∧ acc.cls ≠ .metro ∧ s.dict.tapRequest = none ∧
      ∃ r, checkAccess (touchSelects s acc) acc.cls true idx sub = .ok r := by
  unfold Admitted
  cases checkAccess (touchSelects s acc) acc.cls true idx sub <;> simp [and_assoc]

/-- The row that checkAccess answers is the object's. -/
theorem checkAccess_row {s : State} {cls : PortClass} {w : Bool} {idx sub : Nat} {r : ObjRow}
    (h : checkAccess s cls w idx sub = .ok r) : objectRow moduleObjects idx sub = some r := by
  unfold checkAccess at h
  split at h
  · cases h
  · split at h
    · cases h
    · rename_i r' hr
      simp only at h
      repeat' split at h
      all_goals first | exact (Except.ok.inj h) ▸ hr | exact absurd h (by simp)

/-- A DEBUG request that does not wait is not served. -/
theorem serveTap_none {s : State} (h : s.dict.tapRequest = none) : serveTap s = s := by
  unfold serveTap
  rw [h]

/-- An admitted write of the object's length that the object takes is the write, with its reply. -/
theorem dictCommandWith_admitted {s t : State} {acc : Accessor} {idx sub : Nat} {b : Bytes} {fails : List (EphKey × Nat)}
    {r : ObjRow} (h : Admitted s acc idx sub = true) (hr : objectRow moduleObjects idx sub = some r) (hl : b.length = r.size)
    (hw : writeObject (touchSelects s acc) acc r idx sub b fails = (t, 0)) :
    dictCommandWith s acc idx sub b fails = t.send (.dictReply acc.cls 0 []) := by
  obtain ⟨h1, h2, h3, r', h4⟩ := admitted_iff.1 h
  have hr' : r' = r := Option.some.inj ((checkAccess_row h4).symm.trans hr)
  subst hr'
  simp [dictCommandWith, h1, h2, serveTap_none h3, dictWrite, h4, applyWrite, hl, hw, countAbort]

/-- An admitted write of another length is aborted with 0x0607_0010. -/
theorem dictCommandWith_length {s : State} {acc : Accessor} {idx sub : Nat} {b : Bytes} {fails : List (EphKey × Nat)}
    {r : ObjRow} (h : Admitted s acc idx sub = true) (hr : objectRow moduleObjects idx sub = some r) (hl : b.length ≠ r.size) :
    dictCommandWith s acc idx sub b fails =
      (countAbort (touchSelects s acc) abLength).send (.dictReply acc.cls (BitVec.ofNat 32 abLength) []) := by
  obtain ⟨h1, h2, h3, r', h4⟩ := admitted_iff.1 h
  have hr' : r' = r := Option.some.inj ((checkAccess_row h4).symm.trans hr)
  subst hr'
  simp [dictCommandWith, h1, h2, serveTap_none h3, dictWrite, h4, applyWrite, hl, aborted]

end Sys2Proof.Machine
end

