-- ==== Sys2Proof/Laws/Maps.lean ====
section
/-! SUPPORT. The laws of sparse tables: what a lookup finds after an update, and that updates keep the canonical form. -/

namespace Sys2Proof.Machine

variable {α : Type} [DecidableEq α] {d y : α} {m : SMap α} {x k lo : Nat}

omit [DecidableEq α] in
theorem smGet_smPut_same (d y : α) (m : SMap α) (x : Nat) : smGet d (smPut m x y) x = y := by
  induction m with
  | nil => simp [smPut, smGet]
  | cons p m ih =>
    obtain ⟨k, v⟩ := p
    simp only [smPut]
    split
    · simp [smGet]
    · split
      · simp [smGet]
      · simp [smGet, *]

omit [DecidableEq α] in
theorem smGet_smPut_other (d y : α) (m : SMap α) {x k : Nat} (h : k ≠ x) : smGet d (smPut m x y) k = smGet d m k := by
  induction m with
  | nil =>
    simp only [smPut, smGet]
    split
    · omega
    · split <;> rfl
  | cons p m ih =>
    obtain ⟨j, v⟩ := p
    simp only [smPut]
    split
    · subst_vars
      simp only [smGet]
      split
      · omega
      · rfl
    · split
      · simp only [smGet]
        repeat' split
        all_goals first | omega | rfl
      · simp only [smGet, ih]

/-- Every key below the bound is unlisted. -/
theorem smGet_of_wfFrom (h : smWfFrom d lo m = true) (hx : x < lo) : smGet d m x = d := by
  induction m generalizing lo with
  | nil => rfl
  | cons p m ih =>
    obtain ⟨k, v⟩ := p
    simp only [smWfFrom, Bool.and_eq_true, decide_eq_true_eq] at h
    simp only [smGet]
    rw [if_neg (by omega), if_pos (by omega)]

theorem smGet_smDrop_same (h : smWfFrom d lo m = true) : smGet d (smDrop m x) x = d := by
  induction m generalizing lo with
  | nil => rfl
  | cons p m ih =>
    obtain ⟨k, v⟩ := p
    simp only [smWfFrom, Bool.and_eq_true, decide_eq_true_eq] at h
    simp only [smDrop]
    split
    · exact smGet_of_wfFrom h.2 (by omega)
    · split
      · simp only [smGet]; rw [if_neg ‹_›, if_pos ‹_›]
      · simp only [smGet]; rw [if_neg ‹_›, if_neg ‹_›]; exact ih h.2

theorem smGet_smDrop_other (h : smWfFrom d lo m = true) (hk : k ≠ x) : smGet d (smDrop m x) k = smGet d m k := by
  induction m generalizing lo with
  | nil => rfl
  | cons p m ih =>
    obtain ⟨j, v⟩ := p
    simp only [smWfFrom, Bool.and_eq_true, decide_eq_true_eq] at h
    simp only [smDrop]
    split
    · subst_vars
      simp only [smGet]
      rw [if_neg (by omega)]
      split
      · exact smGet_of_wfFrom h.2 (by omega)
      · rfl
    · split
      · rfl
      · simp only [smGet, ih h.2]

theorem smGet_smSet (h : smWf d m = true) (x k : Nat) (y : α) :
    smGet d (smSet d m x y) k = if k = x then y else smGet d m k := by
  unfold smSet
  split
  · subst_vars
    split
    · subst_vars; exact smGet_smDrop_same h
    · exact smGet_smDrop_other h ‹_›
  · split
    · subst_vars; exact smGet_smPut_same ..
    · exact smGet_smPut_other _ _ _ ‹_›

/-- A value other than the default is read back from any table. -/
theorem smGet_smSet_ne (hy : y ≠ d) (m : SMap α) (x : Nat) : smGet d (smSet d m x y) x = y := by
  rw [smSet, if_neg hy]; exact smGet_smPut_same ..

theorem smGet_smSet_ne_other (hy : y ≠ d) (m : SMap α) (hk : k ≠ x) : smGet d (smSet d m x y) k = smGet d m k := by
  rw [smSet, if_neg hy]; exact smGet_smPut_other _ _ _ hk

/-- Listing the value that a key already reads, when it is not the default, changes nothing. -/
theorem smSet_smGet (h : smGet d m x ≠ d) : smSet d m x (smGet d m x) = m := by
  rw [smSet, if_neg h]
  induction m with
  | nil => exact absurd rfl h
  | cons p m ih =>
    obtain ⟨k, v⟩ := p
    simp only [smGet] at h ⊢
    simp only [smPut]
    split
    · subst_vars; simp
    · rename_i hk
      rw [if_neg hk] at h
      split
      · rename_i hlt; rw [if_pos hlt] at h; exact absurd rfl h
      · rename_i hlt; rw [if_neg hlt] at h; rw [ih h]

theorem smWfFrom_mono {hi : Nat} (hle : lo ≤ hi) (h : smWfFrom d hi m = true) : smWfFrom d lo m = true := by
  cases m with
  | nil => rfl
  | cons p m =>
    obtain ⟨k, v⟩ := p
    simp only [smWfFrom, Bool.and_eq_true, decide_eq_true_eq] at h ⊢
    exact ⟨⟨by omega, h.1.2⟩, h.2⟩

theorem smWfFrom_smPut (hy : y ≠ d) (hx : lo ≤ x) (h : smWfFrom d lo m = true) : smWfFrom d lo (smPut m x y) = true := by
  induction m generalizing lo with
  | nil => simp [smPut, smWfFrom, hy, hx]
  | cons p m ih =>
    obtain ⟨k, v⟩ := p
    simp only [smWfFrom, Bool.and_eq_true, decide_eq_true_eq] at h
    simp only [smPut]
    split
    · subst_vars; simp [smWfFrom, hy, h.2, h.1.1]
    · split
      · simp only [smWfFrom, Bool.and_eq_true, decide_eq_true_eq]
        exact ⟨⟨hx, hy⟩, ⟨by omega, h.1.2⟩, h.2⟩
      · simp only [smWfFrom, Bool.and_eq_true, decide_eq_true_eq]
        exact ⟨h.1, ih (by omega) h.2⟩

theorem smWfFrom_smDrop (h : smWfFrom d lo m = true) : smWfFrom d lo (smDrop m x) = true := by
  induction m generalizing lo with
  | nil => rfl
  | cons p m ih =>
    obtain ⟨k, v⟩ := p
    have h' := h
    simp only [smWfFrom, Bool.and_eq_true, decide_eq_true_eq] at h
    simp only [smDrop]
    split
    · exact smWfFrom_mono (by omega) h.2
    · split
      · exact h'
      · simp only [smWfFrom, Bool.and_eq_true, decide_eq_true_eq]; exact ⟨h.1, ih h.2⟩

/-- An update keeps the canonical form. -/
theorem smWf_smSet (h : smWf d m = true) (x : Nat) (y : α) : smWf d (smSet d m x y) = true := by
  unfold smSet
  split
  · exact smWfFrom_smDrop h
  · exact smWfFrom_smPut ‹_› (Nat.zero_le _) h

theorem smWf_smMod (h : smWf d m = true) (x : Nat) (f : α → α) : smWf d (smMod d m x f) = true := smWf_smSet h ..

theorem smWfFrom_filter (p : Nat × α → Bool) (h : smWfFrom d lo m = true) : smWfFrom d lo (m.filter p) = true := by
  induction m generalizing lo with
  | nil => rfl
  | cons e m ih =>
    obtain ⟨k, v⟩ := e
    simp only [smWfFrom, Bool.and_eq_true, decide_eq_true_eq] at h
    simp only [List.filter]
    split
    · simp only [smWfFrom, Bool.and_eq_true, decide_eq_true_eq]; exact ⟨h.1, ih h.2⟩
    · exact smWfFrom_mono (by omega) (ih h.2)

/-- Leaving entries out keeps the canonical form. -/
theorem smWf_filter (p : Nat × α → Bool) (h : smWf d m = true) : smWf d (m.filter p) = true := smWfFrom_filter p h

end Sys2Proof.Machine
end

