-- ==== Sys2Proof/Laws/Memory.lean ====
section
/-! SUPPORT. The laws of memory: a byte read after a write, and every operation on memory keeps the canonical form. -/

namespace Sys2Proof.Machine

theorem Memory.byte_setByte {m : Memory} (h : m.wf = true) (p q : Nat) (b : BitVec 8) :
    (m.setByte p b).byte q = if q = p then b else m.byte q := smGet_smSet h ..

theorem Memory.wf_setByte {m : Memory} (h : m.wf = true) (p : Nat) (b : BitVec 8) : (m.setByte p b).wf = true :=
  smWf_smSet h ..

theorem Memory.wf_putBytes {m : Memory} (h : m.wf = true) (p : Nat) (bs : Bytes) : (m.putBytes p bs).wf = true := by
  induction bs generalizing m p with
  | nil => exact h
  | cons b bs ih => exact ih (wf_setByte h p b) (p + 1)

/-- A byte outside the bytes put reads as before. -/
theorem Memory.byte_putBytes_outside {m : Memory} (h : m.wf = true) (p : Nat) (bs : Bytes) {q : Nat}
    (hq : q < p ∨ p + bs.length ≤ q) : (m.putBytes p bs).byte q = m.byte q := by
  induction bs generalizing m p with
  | nil => rfl
  | cons b bs ih =>
    simp only [List.length_cons] at hq
    rw [Memory.putBytes, ih (wf_setByte h p b) (p + 1) (by omega), byte_setByte h, if_neg (by omega)]

/-- A byte put reads back. -/
theorem Memory.byte_putBytes_inside {m : Memory} (h : m.wf = true) (p : Nat) (bs : Bytes) {i : Nat} (hi : i < bs.length) :
    (m.putBytes p bs).byte (p + i) = bs[i] := by
  induction bs generalizing m p i with
  | nil => exact absurd hi (by simp)
  | cons b bs ih =>
    cases i with
    | zero =>
      rw [Memory.putBytes, byte_putBytes_outside (wf_setByte h p b) (p + 1) bs (by omega), byte_setByte h]
      simp
    | succ i =>
      have := ih (wf_setByte h p b) (p + 1) (by simpa using hi)
      rw [Memory.putBytes, show p + (i + 1) = p + 1 + i by omega, this]
      rfl

theorem Memory.wf_poisonBlock {m : Memory} (h : m.wf = true) (p : Nat) : (m.poisonBlock p).wf = true := by
  unfold Memory.poisonBlock; split <;> exact h

theorem Memory.wf_cacheUpdate {m : Memory} (h : m.wf = true) (cl : Option Nat) (p : Nat) (bs : Bytes) :
    (cacheUpdate m cl p bs).wf = true := by
  unfold cacheUpdate
  split
  · exact h
  · dsimp only; split <;> exact h

theorem Memory.wf_writeBlock {env : State} {m m' : Memory} {cl : Option Nat} {a : Nat} {bs : Bytes} (h : m.wf = true)
    (hw : writeBlock env m cl a bs = .ok m') : m'.wf = true := by
  unfold writeBlock at hw
  split at hw
  · cases hw
  · split at hw
    · cases hw
    · split at hw
      · cases hw
      · simp only [Except.ok.injEq] at hw
        subst hw
        refine wf_cacheUpdate (wf_putBytes ?_ _ _) _ _ _
        split <;> exact h

theorem Memory.wf_writeBlocks {env : State} {cl : Option Nat} (n : Nat) {m : Memory} (a : Nat) (bs : Bytes) (h : m.wf = true) :
    (writeBlocks env cl n m a bs).1.wf = true := by
  induction n generalizing m a bs with
  | zero => exact h
  | succ n ih =>
    unfold writeBlocks
    split
    · exact h
    · dsimp only
      split
      · exact h
      · rename_i hw; exact ih _ _ (wf_writeBlock h hw)

/-- A write at a module address keeps the canonical form, whatever it met. -/
theorem Memory.wf_writeMem (env : State) {m : Memory} (cl : Option Nat) (a : Nat) (bs : Bytes) (h : m.wf = true) :
    (writeMem env m cl a bs).1.wf = true := wf_writeBlocks _ _ _ h

theorem Memory.wf_mergeHeader (env : State) {m : Memory} (a : Nat) (tag : Option Int) (pres : Nat) (h : m.wf = true) :
    (mergeHeader env m a tag pres).1.wf = true := by
  unfold mergeHeader
  split
  · exact h
  · exact wf_writeMem _ _ _ _ h

theorem Memory.wf_cacheAllocate (env : State) {m : Memory} (cl line : Nat) (data : Bytes) (h : m.wf = true) :
    (cacheAllocate env m cl line data).wf = true := by
  unfold cacheAllocate; dsimp only; split <;> exact h

theorem Memory.wf_readLine (env : State) {m : Memory} (cl policy a n : Nat) (h : m.wf = true) :
    (readLine env m cl policy a n).1.wf = true := by
  unfold readLine
  split
  · exact h
  · dsimp only
    split
    · exact h
    · split
      · exact h
      · split
        · exact h
        · split
          · exact wf_cacheAllocate _ _ _ _ h
          · exact h

theorem Memory.wf_readLines (env : State) (cl policy k : Nat) {m : Memory} (a n : Nat) (h : m.wf = true) :
    (readLines env cl policy k m a n).1.wf = true := by
  induction k generalizing m a n with
  | zero => exact h
  | succ k ih =>
    unfold readLines
    split
    · exact h
    · dsimp only
      split
      · rename_i hr; have := wf_readLine env cl policy a (min n (256 - a % 256)) h; rw [hr] at this; exact this
      · rename_i m1 bs hr
        have h1 : m1.wf = true := by
          have := wf_readLine env cl policy a (min n (256 - a % 256)) h; rw [hr] at this; exact this
        have h2 := ih (a + min n (256 - a % 256)) (n - min n (256 - a % 256)) h1
        split <;> (rename_i hq; rw [hq] at h2; exact h2)

/-- A DMA read keeps the canonical form. -/
theorem Memory.wf_readCached (env : State) {m : Memory} (cl policy a n : Nat) (h : m.wf = true) :
    (readCached env m cl policy a n).1.wf = true := wf_readLines _ _ _ _ _ _ h

theorem Memory.wf_zeroJournal {m : Memory} (h : m.wf = true) : m.zeroJournal.wf = true := smWf_filter _ h

theorem Memory.wf_dropLocal {m : Memory} (g : Nat) (h : m.wf = true) : (m.dropLocal g).wf = true := smWf_filter _ h

theorem Memory.wf_zeroDie {m : Memory} (d : Nat) (h : m.wf = true) : (m.zeroDie d).wf = true := smWf_filter _ h

theorem Memory.wf_zeroSealed {m : Memory} (h : m.wf = true) : m.zeroSealed.wf = true := smWf_filter _ h

theorem Memory.wf_afterReset {m : Memory} (scope : Scope) (h : m.wf = true) : (m.afterReset scope).wf = true := by
  cases scope with
  | warm => exact smWf_filter _ (wf_zeroSealed (m := { m.zeroSealed with sealedInForce := m.sealedSlots }) (wf_zeroSealed h))
  | _ => rfl

theorem Memory.wf_invalidate {m : Memory} (cl : Nat) (gone : Nat → Bool) (h : m.wf = true) : (invalidate m cl gone).wf = true := h

theorem Memory.wf_zeroSave (s : State) {m : Memory} (a n : Nat) (h : m.wf = true) : (zeroSave s m a n).wf = true := smWf_filter _ h

theorem Memory.wf_putSave (s : State) {m : Memory} (a : Nat) (bs : Bytes) (h : m.wf = true) : (putSave s m a bs).wf = true := by
  induction bs generalizing m a with
  | nil => exact h
  | cons b bs ih => exact ih _ (wf_setByte h _ _)

/-- Fields put one after another keep the canonical form. -/
theorem Memory.wf_foldl {α : Type} (f : Memory → α → Memory) (hf : ∀ m x, Memory.wf m = true → Memory.wf (f m x) = true) (l : List α)
    {m : Memory} (h : m.wf = true) : (l.foldl f m).wf = true := by
  induction l generalizing m with
  | nil => exact h
  | cons x l ih => exact ih (hf _ _ h)

/-- The save areas of a context switch keep the canonical form. -/
theorem Memory.wf_saveEngine (s : State) {m : Memory} (g a : Nat) (h : m.wf = true) : (saveEngine s m g a).wf = true :=
  wf_foldl _ (fun _ _ h => wf_putSave _ _ _ h) _ (wf_foldl _ (fun _ _ h => wf_putSave _ _ _ h) _
    (wf_putSave _ _ _ (wf_zeroSave _ _ _ h)))

theorem Memory.wf_saveVector (s : State) {m : Memory} (g a : Nat) (h : m.wf = true) : (saveVector s m g a).wf = true :=
  wf_foldl _ (fun _ _ h => wf_putSave _ _ _ h) _ (wf_foldl _ (fun _ _ h => wf_putSave _ _ _ h) _
    (wf_putSave _ _ _ (wf_zeroSave _ _ _ h)))

end Sys2Proof.Machine
end

