-- ==== Sys2Proof/Laws/State.lean ====
section
/-! SUPPORT. What each update of the state leaves as it was, field by field, and what the updates of keyed parts read back. -/

namespace Sys2Proof.Machine

@[simp] theorem idle_pending (s : State) : (idle s).pending = s.pending := rfl
@[simp] theorem idle_out (s : State) : (idle s).out = s.out := rfl
@[simp] theorem idle_draws (s : State) : (idle s).draws = s.draws := rfl
@[simp] theorem idle_clkc (s : State) : (idle s).clkc = s.clkc + 1 := rfl
@[simp] theorem idle_device (s : State) : (idle s).device = s.device := rfl
@[simp] theorem idle_mem (s : State) : (idle s).mem = s.mem := rfl
@[simp] theorem idle_cores (s : State) : (idle s).cores = s.cores := rfl
@[simp] theorem idle_slotMap (s : State) : (idle s).slotMap = s.slotMap := rfl
@[simp] theorem idle_spares (s : State) : (idle s).spares = s.spares := rfl
@[simp] theorem idle_counters (s : State) : (idle s).counters = s.counters := rfl
@[simp] theorem idle_syncFaults (s : State) : (idle s).syncFaults = s.syncFaults := rfl
@[simp] theorem idle_tailDiscards (s : State) : (idle s).tailDiscards = s.tailDiscards := rfl
@[simp] theorem idle_signals (s : State) : (idle s).signals = s.signals := rfl
@[simp] theorem idle_addends (s : State) : (idle s).addends = s.addends := rfl
@[simp] theorem idle_contexts (s : State) : (idle s).contexts = s.contexts := rfl
@[simp] theorem idle_queueObjs (s : State) : (idle s).queueObjs = s.queueObjs := rfl
@[simp] theorem idle_training (s : State) : (idle s).training = s.training := rfl
@[simp] theorem idle_fabric (s : State) : (idle s).fabric = s.fabric := rfl
@[simp] theorem idle_coll (s : State) : (idle s).coll = s.coll := rfl
@[simp] theorem idle_drinex (s : State) : (idle s).drinex = s.drinex := rfl
@[simp] theorem idle_dict (s : State) : (idle s).dict = s.dict := rfl
@[simp] theorem idle_sources (s : State) : (idle s).sources = s.sources := rfl
@[simp] theorem idle_dests (s : State) : (idle s).dests = s.dests := rfl
@[simp] theorem idle_rel (s : State) : (idle s).rel = s.rel := rfl
@[simp] theorem idle_sec (s : State) : (idle s).sec = s.sec := rfl
@[simp] theorem idle_meter (s : State) : (idle s).meter = s.meter := rfl
@[simp] theorem idle_power (s : State) : (idle s).power = s.power := rfl

@[simp] theorem State.send_pending (s : State) (o : Output) : (s.send o).pending = s.pending := rfl
@[simp] theorem State.send_out (s : State) (o : Output) : (s.send o).out = o :: s.out := rfl
@[simp] theorem State.send_draws (s : State) (o : Output) : (s.send o).draws = s.draws := rfl
@[simp] theorem State.send_clkc (s : State) (o : Output) : (s.send o).clkc = s.clkc := rfl
@[simp] theorem State.send_device (s : State) (o : Output) : (s.send o).device = s.device := rfl
@[simp] theorem State.send_mem (s : State) (o : Output) : (s.send o).mem = s.mem := rfl
@[simp] theorem State.send_cores (s : State) (o : Output) : (s.send o).cores = s.cores := rfl
@[simp] theorem State.send_slotMap (s : State) (o : Output) : (s.send o).slotMap = s.slotMap := rfl
@[simp] theorem State.send_spares (s : State) (o : Output) : (s.send o).spares = s.spares := rfl
@[simp] theorem State.send_counters (s : State) (o : Output) : (s.send o).counters = s.counters := rfl
@[simp] theorem State.send_syncFaults (s : State) (o : Output) : (s.send o).syncFaults = s.syncFaults := rfl
@[simp] theorem State.send_tailDiscards (s : State) (o : Output) : (s.send o).tailDiscards = s.tailDiscards := rfl
@[simp] theorem State.send_signals (s : State) (o : Output) : (s.send o).signals = s.signals := rfl
@[simp] theorem State.send_addends (s : State) (o : Output) : (s.send o).addends = s.addends := rfl
@[simp] theorem State.send_contexts (s : State) (o : Output) : (s.send o).contexts = s.contexts := rfl
@[simp] theorem State.send_queueObjs (s : State) (o : Output) : (s.send o).queueObjs = s.queueObjs := rfl
@[simp] theorem State.send_training (s : State) (o : Output) : (s.send o).training = s.training := rfl
@[simp] theorem State.send_fabric (s : State) (o : Output) : (s.send o).fabric = s.fabric := rfl
@[simp] theorem State.send_coll (s : State) (o : Output) : (s.send o).coll = s.coll := rfl
@[simp] theorem State.send_drinex (s : State) (o : Output) : (s.send o).drinex = s.drinex := rfl
@[simp] theorem State.send_dict (s : State) (o : Output) : (s.send o).dict = s.dict := rfl
@[simp] theorem State.send_sources (s : State) (o : Output) : (s.send o).sources = s.sources := rfl
@[simp] theorem State.send_dests (s : State) (o : Output) : (s.send o).dests = s.dests := rfl
@[simp] theorem State.send_rel (s : State) (o : Output) : (s.send o).rel = s.rel := rfl
@[simp] theorem State.send_sec (s : State) (o : Output) : (s.send o).sec = s.sec := rfl
@[simp] theorem State.send_meter (s : State) (o : Output) : (s.send o).meter = s.meter := rfl
@[simp] theorem State.send_power (s : State) (o : Output) : (s.send o).power = s.power := rfl

@[simp] theorem State.draw_pending (s : State) : (s.draw).pending = s.pending := rfl
@[simp] theorem State.draw_out (s : State) : (s.draw).out = s.out := rfl
@[simp] theorem State.draw_draws (s : State) : (s.draw).draws = s.draws + 1 := rfl
@[simp] theorem State.draw_clkc (s : State) : (s.draw).clkc = s.clkc := rfl
@[simp] theorem State.draw_device (s : State) : (s.draw).device = s.device := rfl
@[simp] theorem State.draw_mem (s : State) : (s.draw).mem = s.mem := rfl
@[simp] theorem State.draw_cores (s : State) : (s.draw).cores = s.cores := rfl
@[simp] theorem State.draw_slotMap (s : State) : (s.draw).slotMap = s.slotMap := rfl
@[simp] theorem State.draw_spares (s : State) : (s.draw).spares = s.spares := rfl
@[simp] theorem State.draw_counters (s : State) : (s.draw).counters = s.counters := rfl
@[simp] theorem State.draw_syncFaults (s : State) : (s.draw).syncFaults = s.syncFaults := rfl
@[simp] theorem State.draw_tailDiscards (s : State) : (s.draw).tailDiscards = s.tailDiscards := rfl
@[simp] theorem State.draw_signals (s : State) : (s.draw).signals = s.signals := rfl
@[simp] theorem State.draw_addends (s : State) : (s.draw).addends = s.addends := rfl
@[simp] theorem State.draw_contexts (s : State) : (s.draw).contexts = s.contexts := rfl
@[simp] theorem State.draw_queueObjs (s : State) : (s.draw).queueObjs = s.queueObjs := rfl
@[simp] theorem State.draw_training (s : State) : (s.draw).training = s.training := rfl
@[simp] theorem State.draw_fabric (s : State) : (s.draw).fabric = s.fabric := rfl
@[simp] theorem State.draw_coll (s : State) : (s.draw).coll = s.coll := rfl
@[simp] theorem State.draw_drinex (s : State) : (s.draw).drinex = s.drinex := rfl
@[simp] theorem State.draw_dict (s : State) : (s.draw).dict = s.dict := rfl
@[simp] theorem State.draw_sources (s : State) : (s.draw).sources = s.sources := rfl
@[simp] theorem State.draw_dests (s : State) : (s.draw).dests = s.dests := rfl
@[simp] theorem State.draw_rel (s : State) : (s.draw).rel = s.rel := rfl
@[simp] theorem State.draw_sec (s : State) : (s.draw).sec = s.sec := rfl
@[simp] theorem State.draw_meter (s : State) : (s.draw).meter = s.meter := rfl
@[simp] theorem State.draw_power (s : State) : (s.draw).power = s.power := rfl

@[simp] theorem State.setCore_pending (s : State) (g : Nat) (c : Core) : (s.setCore g c).pending = s.pending := rfl
@[simp] theorem State.setCore_out (s : State) (g : Nat) (c : Core) : (s.setCore g c).out = s.out := rfl
@[simp] theorem State.setCore_draws (s : State) (g : Nat) (c : Core) : (s.setCore g c).draws = s.draws := rfl
@[simp] theorem State.setCore_clkc (s : State) (g : Nat) (c : Core) : (s.setCore g c).clkc = s.clkc := rfl
@[simp] theorem State.setCore_device (s : State) (g : Nat) (c : Core) : (s.setCore g c).device = s.device := rfl
@[simp] theorem State.setCore_mem (s : State) (g : Nat) (c : Core) : (s.setCore g c).mem = s.mem := rfl
@[simp] theorem State.setCore_cores (s : State) (g : Nat) (c : Core) : (s.setCore g c).cores = smSet {} s.cores g c := rfl
@[simp] theorem State.setCore_slotMap (s : State) (g : Nat) (c : Core) : (s.setCore g c).slotMap = s.slotMap := rfl
@[simp] theorem State.setCore_spares (s : State) (g : Nat) (c : Core) : (s.setCore g c).spares = s.spares := rfl
@[simp] theorem State.setCore_counters (s : State) (g : Nat) (c : Core) : (s.setCore g c).counters = s.counters := rfl
@[simp] theorem State.setCore_syncFaults (s : State) (g : Nat) (c : Core) : (s.setCore g c).syncFaults = s.syncFaults := rfl
@[simp] theorem State.setCore_tailDiscards (s : State) (g : Nat) (c : Core) : (s.setCore g c).tailDiscards = s.tailDiscards := rfl
@[simp] theorem State.setCore_signals (s : State) (g : Nat) (c : Core) : (s.setCore g c).signals = s.signals := rfl
@[simp] theorem State.setCore_addends (s : State) (g : Nat) (c : Core) : (s.setCore g c).addends = s.addends := rfl
@[simp] theorem State.setCore_contexts (s : State) (g : Nat) (c : Core) : (s.setCore g c).contexts = s.contexts := rfl
@[simp] theorem State.setCore_queueObjs (s : State) (g : Nat) (c : Core) : (s.setCore g c).queueObjs = s.queueObjs := rfl
@[simp] theorem State.setCore_training (s : State) (g : Nat) (c : Core) : (s.setCore g c).training = s.training := rfl
@[simp] theorem State.setCore_fabric (s : State) (g : Nat) (c : Core) : (s.setCore g c).fabric = s.fabric := rfl
@[simp] theorem State.setCore_coll (s : State) (g : Nat) (c : Core) : (s.setCore g c).coll = s.coll := rfl
@[simp] theorem State.setCore_drinex (s : State) (g : Nat) (c : Core) : (s.setCore g c).drinex = s.drinex := rfl
@[simp] theorem State.setCore_dict (s : State) (g : Nat) (c : Core) : (s.setCore g c).dict = s.dict := rfl
@[simp] theorem State.setCore_sources (s : State) (g : Nat) (c : Core) : (s.setCore g c).sources = s.sources := rfl
@[simp] theorem State.setCore_dests (s : State) (g : Nat) (c : Core) : (s.setCore g c).dests = s.dests := rfl
@[simp] theorem State.setCore_rel (s : State) (g : Nat) (c : Core) : (s.setCore g c).rel = s.rel := rfl
@[simp] theorem State.setCore_sec (s : State) (g : Nat) (c : Core) : (s.setCore g c).sec = s.sec := rfl
@[simp] theorem State.setCore_meter (s : State) (g : Nat) (c : Core) : (s.setCore g c).meter = s.meter := rfl
@[simp] theorem State.setCore_power (s : State) (g : Nat) (c : Core) : (s.setCore g c).power = s.power := rfl

@[simp] theorem State.setCtx_pending (s : State) (x : Nat) (c : Context) : (s.setCtx x c).pending = s.pending := rfl
@[simp] theorem State.setCtx_out (s : State) (x : Nat) (c : Context) : (s.setCtx x c).out = s.out := rfl
@[simp] theorem State.setCtx_draws (s : State) (x : Nat) (c : Context) : (s.setCtx x c).draws = s.draws := rfl
@[simp] theorem State.setCtx_clkc (s : State) (x : Nat) (c : Context) : (s.setCtx x c).clkc = s.clkc := rfl
@[simp] theorem State.setCtx_device (s : State) (x : Nat) (c : Context) : (s.setCtx x c).device = s.device := rfl
@[simp] theorem State.setCtx_mem (s : State) (x : Nat) (c : Context) : (s.setCtx x c).mem = s.mem := rfl
@[simp] theorem State.setCtx_cores (s : State) (x : Nat) (c : Context) : (s.setCtx x c).cores = s.cores := rfl
@[simp] theorem State.setCtx_slotMap (s : State) (x : Nat) (c : Context) : (s.setCtx x c).slotMap = s.slotMap := rfl
@[simp] theorem State.setCtx_spares (s : State) (x : Nat) (c : Context) : (s.setCtx x c).spares = s.spares := rfl
@[simp] theorem State.setCtx_counters (s : State) (x : Nat) (c : Context) : (s.setCtx x c).counters = s.counters := rfl
@[simp] theorem State.setCtx_syncFaults (s : State) (x : Nat) (c : Context) : (s.setCtx x c).syncFaults = s.syncFaults := rfl
@[simp] theorem State.setCtx_tailDiscards (s : State) (x : Nat) (c : Context) : (s.setCtx x c).tailDiscards = s.tailDiscards := rfl
@[simp] theorem State.setCtx_signals (s : State) (x : Nat) (c : Context) : (s.setCtx x c).signals = s.signals := rfl
@[simp] theorem State.setCtx_addends (s : State) (x : Nat) (c : Context) : (s.setCtx x c).addends = s.addends := rfl
@[simp] theorem State.setCtx_contexts (s : State) (x : Nat) (c : Context) : (s.setCtx x c).contexts = smSet {} s.contexts x c := rfl
@[simp] theorem State.setCtx_queueObjs (s : State) (x : Nat) (c : Context) : (s.setCtx x c).queueObjs = s.queueObjs := rfl
@[simp] theorem State.setCtx_training (s : State) (x : Nat) (c : Context) : (s.setCtx x c).training = s.training := rfl
@[simp] theorem State.setCtx_fabric (s : State) (x : Nat) (c : Context) : (s.setCtx x c).fabric = s.fabric := rfl
@[simp] theorem State.setCtx_coll (s : State) (x : Nat) (c : Context) : (s.setCtx x c).coll = s.coll := rfl
@[simp] theorem State.setCtx_drinex (s : State) (x : Nat) (c : Context) : (s.setCtx x c).drinex = s.drinex := rfl
@[simp] theorem State.setCtx_dict (s : State) (x : Nat) (c : Context) : (s.setCtx x c).dict = s.dict := rfl
@[simp] theorem State.setCtx_sources (s : State) (x : Nat) (c : Context) : (s.setCtx x c).sources = s.sources := rfl
@[simp] theorem State.setCtx_dests (s : State) (x : Nat) (c : Context) : (s.setCtx x c).dests = s.dests := rfl
@[simp] theorem State.setCtx_rel (s : State) (x : Nat) (c : Context) : (s.setCtx x c).rel = s.rel := rfl
@[simp] theorem State.setCtx_sec (s : State) (x : Nat) (c : Context) : (s.setCtx x c).sec = s.sec := rfl
@[simp] theorem State.setCtx_meter (s : State) (x : Nat) (c : Context) : (s.setCtx x c).meter = s.meter := rfl
@[simp] theorem State.setCtx_power (s : State) (x : Nat) (c : Context) : (s.setCtx x c).power = s.power := rfl

@[simp] theorem State.setCtr_pending (s : State) (p : Nat) (c : Counter) : (s.setCtr p c).pending = s.pending := rfl
@[simp] theorem State.setCtr_out (s : State) (p : Nat) (c : Counter) : (s.setCtr p c).out = s.out := rfl
@[simp] theorem State.setCtr_draws (s : State) (p : Nat) (c : Counter) : (s.setCtr p c).draws = s.draws := rfl
@[simp] theorem State.setCtr_clkc (s : State) (p : Nat) (c : Counter) : (s.setCtr p c).clkc = s.clkc := rfl
@[simp] theorem State.setCtr_device (s : State) (p : Nat) (c : Counter) : (s.setCtr p c).device = s.device := rfl
@[simp] theorem State.setCtr_mem (s : State) (p : Nat) (c : Counter) : (s.setCtr p c).mem = s.mem := rfl
@[simp] theorem State.setCtr_cores (s : State) (p : Nat) (c : Counter) : (s.setCtr p c).cores = s.cores := rfl
@[simp] theorem State.setCtr_slotMap (s : State) (p : Nat) (c : Counter) : (s.setCtr p c).slotMap = s.slotMap := rfl
@[simp] theorem State.setCtr_spares (s : State) (p : Nat) (c : Counter) : (s.setCtr p c).spares = s.spares := rfl
@[simp] theorem State.setCtr_counters (s : State) (p : Nat) (c : Counter) : (s.setCtr p c).counters = smSet {} s.counters p c := rfl
@[simp] theorem State.setCtr_syncFaults (s : State) (p : Nat) (c : Counter) : (s.setCtr p c).syncFaults = s.syncFaults := rfl
@[simp] theorem State.setCtr_tailDiscards (s : State) (p : Nat) (c : Counter) : (s.setCtr p c).tailDiscards = s.tailDiscards := rfl
@[simp] theorem State.setCtr_signals (s : State) (p : Nat) (c : Counter) : (s.setCtr p c).signals = s.signals := rfl
@[simp] theorem State.setCtr_addends (s : State) (p : Nat) (c : Counter) : (s.setCtr p c).addends = s.addends := rfl
@[simp] theorem State.setCtr_contexts (s : State) (p : Nat) (c : Counter) : (s.setCtr p c).contexts = s.contexts := rfl
@[simp] theorem State.setCtr_queueObjs (s : State) (p : Nat) (c : Counter) : (s.setCtr p c).queueObjs = s.queueObjs := rfl
@[simp] theorem State.setCtr_training (s : State) (p : Nat) (c : Counter) : (s.setCtr p c).training = s.training := rfl
@[simp] theorem State.setCtr_fabric (s : State) (p : Nat) (c : Counter) : (s.setCtr p c).fabric = s.fabric := rfl
@[simp] theorem State.setCtr_coll (s : State) (p : Nat) (c : Counter) : (s.setCtr p c).coll = s.coll := rfl
@[simp] theorem State.setCtr_drinex (s : State) (p : Nat) (c : Counter) : (s.setCtr p c).drinex = s.drinex := rfl
@[simp] theorem State.setCtr_dict (s : State) (p : Nat) (c : Counter) : (s.setCtr p c).dict = s.dict := rfl
@[simp] theorem State.setCtr_sources (s : State) (p : Nat) (c : Counter) : (s.setCtr p c).sources = s.sources := rfl
@[simp] theorem State.setCtr_dests (s : State) (p : Nat) (c : Counter) : (s.setCtr p c).dests = s.dests := rfl
@[simp] theorem State.setCtr_rel (s : State) (p : Nat) (c : Counter) : (s.setCtr p c).rel = s.rel := rfl
@[simp] theorem State.setCtr_sec (s : State) (p : Nat) (c : Counter) : (s.setCtr p c).sec = s.sec := rfl
@[simp] theorem State.setCtr_meter (s : State) (p : Nat) (c : Counter) : (s.setCtr p c).meter = s.meter := rfl
@[simp] theorem State.setCtr_power (s : State) (p : Nat) (c : Counter) : (s.setCtr p c).power = s.power := rfl

@[simp] theorem State.modEntry_pending (s : State) (u : UnitKind) (g : Nat) (q : BitVec 64) (f : WinEntry → WinEntry) : (s.modEntry u g q f).pending = s.pending := rfl
@[simp] theorem State.modEntry_out (s : State) (u : UnitKind) (g : Nat) (q : BitVec 64) (f : WinEntry → WinEntry) : (s.modEntry u g q f).out = s.out := rfl
@[simp] theorem State.modEntry_draws (s : State) (u : UnitKind) (g : Nat) (q : BitVec 64) (f : WinEntry → WinEntry) : (s.modEntry u g q f).draws = s.draws := rfl
@[simp] theorem State.modEntry_clkc (s : State) (u : UnitKind) (g : Nat) (q : BitVec 64) (f : WinEntry → WinEntry) : (s.modEntry u g q f).clkc = s.clkc := rfl
@[simp] theorem State.modEntry_device (s : State) (u : UnitKind) (g : Nat) (q : BitVec 64) (f : WinEntry → WinEntry) : (s.modEntry u g q f).device = s.device := rfl
@[simp] theorem State.modEntry_mem (s : State) (u : UnitKind) (g : Nat) (q : BitVec 64) (f : WinEntry → WinEntry) : (s.modEntry u g q f).mem = s.mem := rfl
@[simp] theorem State.modEntry_slotMap (s : State) (u : UnitKind) (g : Nat) (q : BitVec 64) (f : WinEntry → WinEntry) : (s.modEntry u g q f).slotMap = s.slotMap := rfl
@[simp] theorem State.modEntry_spares (s : State) (u : UnitKind) (g : Nat) (q : BitVec 64) (f : WinEntry → WinEntry) : (s.modEntry u g q f).spares = s.spares := rfl
@[simp] theorem State.modEntry_counters (s : State) (u : UnitKind) (g : Nat) (q : BitVec 64) (f : WinEntry → WinEntry) : (s.modEntry u g q f).counters = s.counters := rfl
@[simp] theorem State.modEntry_syncFaults (s : State) (u : UnitKind) (g : Nat) (q : BitVec 64) (f : WinEntry → WinEntry) : (s.modEntry u g q f).syncFaults = s.syncFaults := rfl
@[simp] theorem State.modEntry_tailDiscards (s : State) (u : UnitKind) (g : Nat) (q : BitVec 64) (f : WinEntry → WinEntry) : (s.modEntry u g q f).tailDiscards = s.tailDiscards := rfl
@[simp] theorem State.modEntry_signals (s : State) (u : UnitKind) (g : Nat) (q : BitVec 64) (f : WinEntry → WinEntry) : (s.modEntry u g q f).signals = s.signals := rfl
@[simp] theorem State.modEntry_addends (s : State) (u : UnitKind) (g : Nat) (q : BitVec 64) (f : WinEntry → WinEntry) : (s.modEntry u g q f).addends = s.addends := rfl
@[simp] theorem State.modEntry_contexts (s : State) (u : UnitKind) (g : Nat) (q : BitVec 64) (f : WinEntry → WinEntry) : (s.modEntry u g q f).contexts = s.contexts := rfl
@[simp] theorem State.modEntry_queueObjs (s : State) (u : UnitKind) (g : Nat) (q : BitVec 64) (f : WinEntry → WinEntry) : (s.modEntry u g q f).queueObjs = s.queueObjs := rfl
@[simp] theorem State.modEntry_training (s : State) (u : UnitKind) (g : Nat) (q : BitVec 64) (f : WinEntry → WinEntry) : (s.modEntry u g q f).training = s.training := rfl
@[simp] theorem State.modEntry_fabric (s : State) (u : UnitKind) (g : Nat) (q : BitVec 64) (f : WinEntry → WinEntry) : (s.modEntry u g q f).fabric = s.fabric := rfl
@[simp] theorem State.modEntry_coll (s : State) (u : UnitKind) (g : Nat) (q : BitVec 64) (f : WinEntry → WinEntry) : (s.modEntry u g q f).coll = s.coll := rfl
@[simp] theorem State.modEntry_drinex (s : State) (u : UnitKind) (g : Nat) (q : BitVec 64) (f : WinEntry → WinEntry) : (s.modEntry u g q f).drinex = s.drinex := rfl
@[simp] theorem State.modEntry_dict (s : State) (u : UnitKind) (g : Nat) (q : BitVec 64) (f : WinEntry → WinEntry) : (s.modEntry u g q f).dict = s.dict := rfl
@[simp] theorem State.modEntry_sources (s : State) (u : UnitKind) (g : Nat) (q : BitVec 64) (f : WinEntry → WinEntry) : (s.modEntry u g q f).sources = s.sources := rfl
@[simp] theorem State.modEntry_dests (s : State) (u : UnitKind) (g : Nat) (q : BitVec 64) (f : WinEntry → WinEntry) : (s.modEntry u g q f).dests = s.dests := rfl
@[simp] theorem State.modEntry_rel (s : State) (u : UnitKind) (g : Nat) (q : BitVec 64) (f : WinEntry → WinEntry) : (s.modEntry u g q f).rel = s.rel := rfl
@[simp] theorem State.modEntry_sec (s : State) (u : UnitKind) (g : Nat) (q : BitVec 64) (f : WinEntry → WinEntry) : (s.modEntry u g q f).sec = s.sec := rfl
@[simp] theorem State.modEntry_meter (s : State) (u : UnitKind) (g : Nat) (q : BitVec 64) (f : WinEntry → WinEntry) : (s.modEntry u g q f).meter = s.meter := rfl
@[simp] theorem State.modEntry_power (s : State) (u : UnitKind) (g : Nat) (q : BitVec 64) (f : WinEntry → WinEntry) : (s.modEntry u g q f).power = s.power := rfl

@[simp] theorem State.modDesc_pending (s : State) (x q : Nat) (k : BitVec 64) (f : HostDesc → HostDesc) : (s.modDesc x q k f).pending = s.pending := rfl
@[simp] theorem State.modDesc_out (s : State) (x q : Nat) (k : BitVec 64) (f : HostDesc → HostDesc) : (s.modDesc x q k f).out = s.out := rfl
@[simp] theorem State.modDesc_draws (s : State) (x q : Nat) (k : BitVec 64) (f : HostDesc → HostDesc) : (s.modDesc x q k f).draws = s.draws := rfl
@[simp] theorem State.modDesc_clkc (s : State) (x q : Nat) (k : BitVec 64) (f : HostDesc → HostDesc) : (s.modDesc x q k f).clkc = s.clkc := rfl
@[simp] theorem State.modDesc_device (s : State) (x q : Nat) (k : BitVec 64) (f : HostDesc → HostDesc) : (s.modDesc x q k f).device = s.device := rfl
@[simp] theorem State.modDesc_mem (s : State) (x q : Nat) (k : BitVec 64) (f : HostDesc → HostDesc) : (s.modDesc x q k f).mem = s.mem := rfl
@[simp] theorem State.modDesc_cores (s : State) (x q : Nat) (k : BitVec 64) (f : HostDesc → HostDesc) : (s.modDesc x q k f).cores = s.cores := rfl
@[simp] theorem State.modDesc_slotMap (s : State) (x q : Nat) (k : BitVec 64) (f : HostDesc → HostDesc) : (s.modDesc x q k f).slotMap = s.slotMap := rfl
@[simp] theorem State.modDesc_spares (s : State) (x q : Nat) (k : BitVec 64) (f : HostDesc → HostDesc) : (s.modDesc x q k f).spares = s.spares := rfl
@[simp] theorem State.modDesc_counters (s : State) (x q : Nat) (k : BitVec 64) (f : HostDesc → HostDesc) : (s.modDesc x q k f).counters = s.counters := rfl
@[simp] theorem State.modDesc_syncFaults (s : State) (x q : Nat) (k : BitVec 64) (f : HostDesc → HostDesc) : (s.modDesc x q k f).syncFaults = s.syncFaults := rfl
@[simp] theorem State.modDesc_tailDiscards (s : State) (x q : Nat) (k : BitVec 64) (f : HostDesc → HostDesc) : (s.modDesc x q k f).tailDiscards = s.tailDiscards := rfl
@[simp] theorem State.modDesc_signals (s : State) (x q : Nat) (k : BitVec 64) (f : HostDesc → HostDesc) : (s.modDesc x q k f).signals = s.signals := rfl
@[simp] theorem State.modDesc_addends (s : State) (x q : Nat) (k : BitVec 64) (f : HostDesc → HostDesc) : (s.modDesc x q k f).addends = s.addends := rfl
@[simp] theorem State.modDesc_queueObjs (s : State) (x q : Nat) (k : BitVec 64) (f : HostDesc → HostDesc) : (s.modDesc x q k f).queueObjs = s.queueObjs := rfl
@[simp] theorem State.modDesc_training (s : State) (x q : Nat) (k : BitVec 64) (f : HostDesc → HostDesc) : (s.modDesc x q k f).training = s.training := rfl
@[simp] theorem State.modDesc_fabric (s : State) (x q : Nat) (k : BitVec 64) (f : HostDesc → HostDesc) : (s.modDesc x q k f).fabric = s.fabric := rfl
@[simp] theorem State.modDesc_coll (s : State) (x q : Nat) (k : BitVec 64) (f : HostDesc → HostDesc) : (s.modDesc x q k f).coll = s.coll := rfl
@[simp] theorem State.modDesc_drinex (s : State) (x q : Nat) (k : BitVec 64) (f : HostDesc → HostDesc) : (s.modDesc x q k f).drinex = s.drinex := rfl
@[simp] theorem State.modDesc_dict (s : State) (x q : Nat) (k : BitVec 64) (f : HostDesc → HostDesc) : (s.modDesc x q k f).dict = s.dict := rfl
@[simp] theorem State.modDesc_sources (s : State) (x q : Nat) (k : BitVec 64) (f : HostDesc → HostDesc) : (s.modDesc x q k f).sources = s.sources := rfl
@[simp] theorem State.modDesc_dests (s : State) (x q : Nat) (k : BitVec 64) (f : HostDesc → HostDesc) : (s.modDesc x q k f).dests = s.dests := rfl
@[simp] theorem State.modDesc_rel (s : State) (x q : Nat) (k : BitVec 64) (f : HostDesc → HostDesc) : (s.modDesc x q k f).rel = s.rel := rfl
@[simp] theorem State.modDesc_sec (s : State) (x q : Nat) (k : BitVec 64) (f : HostDesc → HostDesc) : (s.modDesc x q k f).sec = s.sec := rfl
@[simp] theorem State.modDesc_meter (s : State) (x q : Nat) (k : BitVec 64) (f : HostDesc → HostDesc) : (s.modDesc x q k f).meter = s.meter := rfl
@[simp] theorem State.modDesc_power (s : State) (x q : Nat) (k : BitVec 64) (f : HostDesc → HostDesc) : (s.modDesc x q k f).power = s.power := rfl

@[simp] theorem State.modQueue_pending (s : State) (x q : Nat) (f : Queue → Queue) : (s.modQueue x q f).pending = s.pending := rfl
@[simp] theorem State.modQueue_out (s : State) (x q : Nat) (f : Queue → Queue) : (s.modQueue x q f).out = s.out := rfl
@[simp] theorem State.modQueue_draws (s : State) (x q : Nat) (f : Queue → Queue) : (s.modQueue x q f).draws = s.draws := rfl
@[simp] theorem State.modQueue_clkc (s : State) (x q : Nat) (f : Queue → Queue) : (s.modQueue x q f).clkc = s.clkc := rfl
@[simp] theorem State.modQueue_device (s : State) (x q : Nat) (f : Queue → Queue) : (s.modQueue x q f).device = s.device := rfl
@[simp] theorem State.modQueue_mem (s : State) (x q : Nat) (f : Queue → Queue) : (s.modQueue x q f).mem = s.mem := rfl
@[simp] theorem State.modQueue_cores (s : State) (x q : Nat) (f : Queue → Queue) : (s.modQueue x q f).cores = s.cores := rfl
@[simp] theorem State.modQueue_slotMap (s : State) (x q : Nat) (f : Queue → Queue) : (s.modQueue x q f).slotMap = s.slotMap := rfl
@[simp] theorem State.modQueue_spares (s : State) (x q : Nat) (f : Queue → Queue) : (s.modQueue x q f).spares = s.spares := rfl
@[simp] theorem State.modQueue_counters (s : State) (x q : Nat) (f : Queue → Queue) : (s.modQueue x q f).counters = s.counters := rfl
@[simp] theorem State.modQueue_syncFaults (s : State) (x q : Nat) (f : Queue → Queue) : (s.modQueue x q f).syncFaults = s.syncFaults := rfl
@[simp] theorem State.modQueue_tailDiscards (s : State) (x q : Nat) (f : Queue → Queue) : (s.modQueue x q f).tailDiscards = s.tailDiscards := rfl
@[simp] theorem State.modQueue_signals (s : State) (x q : Nat) (f : Queue → Queue) : (s.modQueue x q f).signals = s.signals := rfl
@[simp] theorem State.modQueue_addends (s : State) (x q : Nat) (f : Queue → Queue) : (s.modQueue x q f).addends = s.addends := rfl
@[simp] theorem State.modQueue_queueObjs (s : State) (x q : Nat) (f : Queue → Queue) : (s.modQueue x q f).queueObjs = s.queueObjs := rfl
@[simp] theorem State.modQueue_training (s : State) (x q : Nat) (f : Queue → Queue) : (s.modQueue x q f).training = s.training := rfl
@[simp] theorem State.modQueue_fabric (s : State) (x q : Nat) (f : Queue → Queue) : (s.modQueue x q f).fabric = s.fabric := rfl
@[simp] theorem State.modQueue_coll (s : State) (x q : Nat) (f : Queue → Queue) : (s.modQueue x q f).coll = s.coll := rfl
@[simp] theorem State.modQueue_drinex (s : State) (x q : Nat) (f : Queue → Queue) : (s.modQueue x q f).drinex = s.drinex := rfl
@[simp] theorem State.modQueue_dict (s : State) (x q : Nat) (f : Queue → Queue) : (s.modQueue x q f).dict = s.dict := rfl
@[simp] theorem State.modQueue_sources (s : State) (x q : Nat) (f : Queue → Queue) : (s.modQueue x q f).sources = s.sources := rfl
@[simp] theorem State.modQueue_dests (s : State) (x q : Nat) (f : Queue → Queue) : (s.modQueue x q f).dests = s.dests := rfl
@[simp] theorem State.modQueue_rel (s : State) (x q : Nat) (f : Queue → Queue) : (s.modQueue x q f).rel = s.rel := rfl
@[simp] theorem State.modQueue_sec (s : State) (x q : Nat) (f : Queue → Queue) : (s.modQueue x q f).sec = s.sec := rfl
@[simp] theorem State.modQueue_meter (s : State) (x q : Nat) (f : Queue → Queue) : (s.modQueue x q f).meter = s.meter := rfl
@[simp] theorem State.modQueue_power (s : State) (x q : Nat) (f : Queue → Queue) : (s.modQueue x q f).power = s.power := rfl

@[simp] theorem State.setBarrier_pending (s : State) (x k : Nat) (b : Barrier) : (s.setBarrier x k b).pending = s.pending := rfl
@[simp] theorem State.setBarrier_out (s : State) (x k : Nat) (b : Barrier) : (s.setBarrier x k b).out = s.out := rfl
@[simp] theorem State.setBarrier_draws (s : State) (x k : Nat) (b : Barrier) : (s.setBarrier x k b).draws = s.draws := rfl
@[simp] theorem State.setBarrier_clkc (s : State) (x k : Nat) (b : Barrier) : (s.setBarrier x k b).clkc = s.clkc := rfl
@[simp] theorem State.setBarrier_device (s : State) (x k : Nat) (b : Barrier) : (s.setBarrier x k b).device = s.device := rfl
@[simp] theorem State.setBarrier_mem (s : State) (x k : Nat) (b : Barrier) : (s.setBarrier x k b).mem = s.mem := rfl
@[simp] theorem State.setBarrier_cores (s : State) (x k : Nat) (b : Barrier) : (s.setBarrier x k b).cores = s.cores := rfl
@[simp] theorem State.setBarrier_slotMap (s : State) (x k : Nat) (b : Barrier) : (s.setBarrier x k b).slotMap = s.slotMap := rfl
@[simp] theorem State.setBarrier_spares (s : State) (x k : Nat) (b : Barrier) : (s.setBarrier x k b).spares = s.spares := rfl
@[simp] theorem State.setBarrier_counters (s : State) (x k : Nat) (b : Barrier) : (s.setBarrier x k b).counters = s.counters := rfl
@[simp] theorem State.setBarrier_syncFaults (s : State) (x k : Nat) (b : Barrier) : (s.setBarrier x k b).syncFaults = s.syncFaults := rfl
@[simp] theorem State.setBarrier_tailDiscards (s : State) (x k : Nat) (b : Barrier) : (s.setBarrier x k b).tailDiscards = s.tailDiscards := rfl
@[simp] theorem State.setBarrier_signals (s : State) (x k : Nat) (b : Barrier) : (s.setBarrier x k b).signals = s.signals := rfl
@[simp] theorem State.setBarrier_addends (s : State) (x k : Nat) (b : Barrier) : (s.setBarrier x k b).addends = s.addends := rfl
@[simp] theorem State.setBarrier_queueObjs (s : State) (x k : Nat) (b : Barrier) : (s.setBarrier x k b).queueObjs = s.queueObjs := rfl
@[simp] theorem State.setBarrier_training (s : State) (x k : Nat) (b : Barrier) : (s.setBarrier x k b).training = s.training := rfl
@[simp] theorem State.setBarrier_fabric (s : State) (x k : Nat) (b : Barrier) : (s.setBarrier x k b).fabric = s.fabric := rfl
@[simp] theorem State.setBarrier_coll (s : State) (x k : Nat) (b : Barrier) : (s.setBarrier x k b).coll = s.coll := rfl
@[simp] theorem State.setBarrier_drinex (s : State) (x k : Nat) (b : Barrier) : (s.setBarrier x k b).drinex = s.drinex := rfl
@[simp] theorem State.setBarrier_dict (s : State) (x k : Nat) (b : Barrier) : (s.setBarrier x k b).dict = s.dict := rfl
@[simp] theorem State.setBarrier_sources (s : State) (x k : Nat) (b : Barrier) : (s.setBarrier x k b).sources = s.sources := rfl
@[simp] theorem State.setBarrier_dests (s : State) (x k : Nat) (b : Barrier) : (s.setBarrier x k b).dests = s.dests := rfl
@[simp] theorem State.setBarrier_rel (s : State) (x k : Nat) (b : Barrier) : (s.setBarrier x k b).rel = s.rel := rfl
@[simp] theorem State.setBarrier_sec (s : State) (x k : Nat) (b : Barrier) : (s.setBarrier x k b).sec = s.sec := rfl
@[simp] theorem State.setBarrier_meter (s : State) (x k : Nat) (b : Barrier) : (s.setBarrier x k b).meter = s.meter := rfl
@[simp] theorem State.setBarrier_power (s : State) (x k : Nat) (b : Barrier) : (s.setBarrier x k b).power = s.power := rfl

@[simp] theorem State.setStream_pending (s : State) (d : Nat) (t : Stream) : (s.setStream d t).pending = s.pending := rfl
@[simp] theorem State.setStream_out (s : State) (d : Nat) (t : Stream) : (s.setStream d t).out = s.out := rfl
@[simp] theorem State.setStream_draws (s : State) (d : Nat) (t : Stream) : (s.setStream d t).draws = s.draws := rfl
@[simp] theorem State.setStream_clkc (s : State) (d : Nat) (t : Stream) : (s.setStream d t).clkc = s.clkc := rfl
@[simp] theorem State.setStream_device (s : State) (d : Nat) (t : Stream) : (s.setStream d t).device = s.device := rfl
@[simp] theorem State.setStream_mem (s : State) (d : Nat) (t : Stream) : (s.setStream d t).mem = s.mem := rfl
@[simp] theorem State.setStream_cores (s : State) (d : Nat) (t : Stream) : (s.setStream d t).cores = s.cores := rfl
@[simp] theorem State.setStream_slotMap (s : State) (d : Nat) (t : Stream) : (s.setStream d t).slotMap = s.slotMap := rfl
@[simp] theorem State.setStream_spares (s : State) (d : Nat) (t : Stream) : (s.setStream d t).spares = s.spares := rfl
@[simp] theorem State.setStream_counters (s : State) (d : Nat) (t : Stream) : (s.setStream d t).counters = s.counters := rfl
@[simp] theorem State.setStream_syncFaults (s : State) (d : Nat) (t : Stream) : (s.setStream d t).syncFaults = s.syncFaults := rfl
@[simp] theorem State.setStream_tailDiscards (s : State) (d : Nat) (t : Stream) : (s.setStream d t).tailDiscards = s.tailDiscards := rfl
@[simp] theorem State.setStream_signals (s : State) (d : Nat) (t : Stream) : (s.setStream d t).signals = s.signals := rfl
@[simp] theorem State.setStream_addends (s : State) (d : Nat) (t : Stream) : (s.setStream d t).addends = s.addends := rfl
@[simp] theorem State.setStream_contexts (s : State) (d : Nat) (t : Stream) : (s.setStream d t).contexts = s.contexts := rfl
@[simp] theorem State.setStream_queueObjs (s : State) (d : Nat) (t : Stream) : (s.setStream d t).queueObjs = s.queueObjs := rfl
@[simp] theorem State.setStream_training (s : State) (d : Nat) (t : Stream) : (s.setStream d t).training = s.training := rfl
@[simp] theorem State.setStream_coll (s : State) (d : Nat) (t : Stream) : (s.setStream d t).coll = s.coll := rfl
@[simp] theorem State.setStream_drinex (s : State) (d : Nat) (t : Stream) : (s.setStream d t).drinex = s.drinex := rfl
@[simp] theorem State.setStream_dict (s : State) (d : Nat) (t : Stream) : (s.setStream d t).dict = s.dict := rfl
@[simp] theorem State.setStream_sources (s : State) (d : Nat) (t : Stream) : (s.setStream d t).sources = s.sources := rfl
@[simp] theorem State.setStream_dests (s : State) (d : Nat) (t : Stream) : (s.setStream d t).dests = s.dests := rfl
@[simp] theorem State.setStream_rel (s : State) (d : Nat) (t : Stream) : (s.setStream d t).rel = s.rel := rfl
@[simp] theorem State.setStream_sec (s : State) (d : Nat) (t : Stream) : (s.setStream d t).sec = s.sec := rfl
@[simp] theorem State.setStream_meter (s : State) (d : Nat) (t : Stream) : (s.setStream d t).meter = s.meter := rfl
@[simp] theorem State.setStream_power (s : State) (d : Nat) (t : Stream) : (s.setStream d t).power = s.power := rfl

@[simp] theorem State.setTracker_pending (s : State) (d : Nat) (t : Tracker) : (s.setTracker d t).pending = s.pending := rfl
@[simp] theorem State.setTracker_out (s : State) (d : Nat) (t : Tracker) : (s.setTracker d t).out = s.out := rfl
@[simp] theorem State.setTracker_draws (s : State) (d : Nat) (t : Tracker) : (s.setTracker d t).draws = s.draws := rfl
@[simp] theorem State.setTracker_clkc (s : State) (d : Nat) (t : Tracker) : (s.setTracker d t).clkc = s.clkc := rfl
@[simp] theorem State.setTracker_device (s : State) (d : Nat) (t : Tracker) : (s.setTracker d t).device = s.device := rfl
@[simp] theorem State.setTracker_mem (s : State) (d : Nat) (t : Tracker) : (s.setTracker d t).mem = s.mem := rfl
@[simp] theorem State.setTracker_cores (s : State) (d : Nat) (t : Tracker) : (s.setTracker d t).cores = s.cores := rfl
@[simp] theorem State.setTracker_slotMap (s : State) (d : Nat) (t : Tracker) : (s.setTracker d t).slotMap = s.slotMap := rfl
@[simp] theorem State.setTracker_spares (s : State) (d : Nat) (t : Tracker) : (s.setTracker d t).spares = s.spares := rfl
@[simp] theorem State.setTracker_counters (s : State) (d : Nat) (t : Tracker) : (s.setTracker d t).counters = s.counters := rfl
@[simp] theorem State.setTracker_syncFaults (s : State) (d : Nat) (t : Tracker) : (s.setTracker d t).syncFaults = s.syncFaults := rfl
@[simp] theorem State.setTracker_tailDiscards (s : State) (d : Nat) (t : Tracker) : (s.setTracker d t).tailDiscards = s.tailDiscards := rfl
@[simp] theorem State.setTracker_signals (s : State) (d : Nat) (t : Tracker) : (s.setTracker d t).signals = s.signals := rfl
@[simp] theorem State.setTracker_addends (s : State) (d : Nat) (t : Tracker) : (s.setTracker d t).addends = s.addends := rfl
@[simp] theorem State.setTracker_contexts (s : State) (d : Nat) (t : Tracker) : (s.setTracker d t).contexts = s.contexts := rfl
@[simp] theorem State.setTracker_queueObjs (s : State) (d : Nat) (t : Tracker) : (s.setTracker d t).queueObjs = s.queueObjs := rfl
@[simp] theorem State.setTracker_training (s : State) (d : Nat) (t : Tracker) : (s.setTracker d t).training = s.training := rfl
@[simp] theorem State.setTracker_coll (s : State) (d : Nat) (t : Tracker) : (s.setTracker d t).coll = s.coll := rfl
@[simp] theorem State.setTracker_drinex (s : State) (d : Nat) (t : Tracker) : (s.setTracker d t).drinex = s.drinex := rfl
@[simp] theorem State.setTracker_dict (s : State) (d : Nat) (t : Tracker) : (s.setTracker d t).dict = s.dict := rfl
@[simp] theorem State.setTracker_sources (s : State) (d : Nat) (t : Tracker) : (s.setTracker d t).sources = s.sources := rfl
@[simp] theorem State.setTracker_dests (s : State) (d : Nat) (t : Tracker) : (s.setTracker d t).dests = s.dests := rfl
@[simp] theorem State.setTracker_rel (s : State) (d : Nat) (t : Tracker) : (s.setTracker d t).rel = s.rel := rfl
@[simp] theorem State.setTracker_sec (s : State) (d : Nat) (t : Tracker) : (s.setTracker d t).sec = s.sec := rfl
@[simp] theorem State.setTracker_meter (s : State) (d : Nat) (t : Tracker) : (s.setTracker d t).meter = s.meter := rfl
@[simp] theorem State.setTracker_power (s : State) (d : Nat) (t : Tracker) : (s.setTracker d t).power = s.power := rfl

@[simp] theorem State.modDict_pending (s : State) (f : Dict → Dict) : (s.modDict f).pending = s.pending := rfl
@[simp] theorem State.modDict_out (s : State) (f : Dict → Dict) : (s.modDict f).out = s.out := rfl
@[simp] theorem State.modDict_draws (s : State) (f : Dict → Dict) : (s.modDict f).draws = s.draws := rfl
@[simp] theorem State.modDict_clkc (s : State) (f : Dict → Dict) : (s.modDict f).clkc = s.clkc := rfl
@[simp] theorem State.modDict_device (s : State) (f : Dict → Dict) : (s.modDict f).device = s.device := rfl
@[simp] theorem State.modDict_mem (s : State) (f : Dict → Dict) : (s.modDict f).mem = s.mem := rfl
@[simp] theorem State.modDict_cores (s : State) (f : Dict → Dict) : (s.modDict f).cores = s.cores := rfl
@[simp] theorem State.modDict_slotMap (s : State) (f : Dict → Dict) : (s.modDict f).slotMap = s.slotMap := rfl
@[simp] theorem State.modDict_spares (s : State) (f : Dict → Dict) : (s.modDict f).spares = s.spares := rfl
@[simp] theorem State.modDict_counters (s : State) (f : Dict → Dict) : (s.modDict f).counters = s.counters := rfl
@[simp] theorem State.modDict_syncFaults (s : State) (f : Dict → Dict) : (s.modDict f).syncFaults = s.syncFaults := rfl
@[simp] theorem State.modDict_tailDiscards (s : State) (f : Dict → Dict) : (s.modDict f).tailDiscards = s.tailDiscards := rfl
@[simp] theorem State.modDict_signals (s : State) (f : Dict → Dict) : (s.modDict f).signals = s.signals := rfl
@[simp] theorem State.modDict_addends (s : State) (f : Dict → Dict) : (s.modDict f).addends = s.addends := rfl
@[simp] theorem State.modDict_contexts (s : State) (f : Dict → Dict) : (s.modDict f).contexts = s.contexts := rfl
@[simp] theorem State.modDict_queueObjs (s : State) (f : Dict → Dict) : (s.modDict f).queueObjs = s.queueObjs := rfl
@[simp] theorem State.modDict_training (s : State) (f : Dict → Dict) : (s.modDict f).training = s.training := rfl
@[simp] theorem State.modDict_fabric (s : State) (f : Dict → Dict) : (s.modDict f).fabric = s.fabric := rfl
@[simp] theorem State.modDict_coll (s : State) (f : Dict → Dict) : (s.modDict f).coll = s.coll := rfl
@[simp] theorem State.modDict_drinex (s : State) (f : Dict → Dict) : (s.modDict f).drinex = s.drinex := rfl
@[simp] theorem State.modDict_dict (s : State) (f : Dict → Dict) : (s.modDict f).dict = f s.dict := rfl
@[simp] theorem State.modDict_sources (s : State) (f : Dict → Dict) : (s.modDict f).sources = s.sources := rfl
@[simp] theorem State.modDict_dests (s : State) (f : Dict → Dict) : (s.modDict f).dests = s.dests := rfl
@[simp] theorem State.modDict_rel (s : State) (f : Dict → Dict) : (s.modDict f).rel = s.rel := rfl
@[simp] theorem State.modDict_sec (s : State) (f : Dict → Dict) : (s.modDict f).sec = s.sec := rfl
@[simp] theorem State.modDict_meter (s : State) (f : Dict → Dict) : (s.modDict f).meter = s.meter := rfl
@[simp] theorem State.modDict_power (s : State) (f : Dict → Dict) : (s.modDict f).power = s.power := rfl

@[simp] theorem State.modTpdo_pending (s : State) (n : Nat) (f : Tpdo → Tpdo) : (s.modTpdo n f).pending = s.pending := rfl
@[simp] theorem State.modTpdo_out (s : State) (n : Nat) (f : Tpdo → Tpdo) : (s.modTpdo n f).out = s.out := rfl
@[simp] theorem State.modTpdo_draws (s : State) (n : Nat) (f : Tpdo → Tpdo) : (s.modTpdo n f).draws = s.draws := rfl
@[simp] theorem State.modTpdo_clkc (s : State) (n : Nat) (f : Tpdo → Tpdo) : (s.modTpdo n f).clkc = s.clkc := rfl
@[simp] theorem State.modTpdo_device (s : State) (n : Nat) (f : Tpdo → Tpdo) : (s.modTpdo n f).device = s.device := rfl
@[simp] theorem State.modTpdo_mem (s : State) (n : Nat) (f : Tpdo → Tpdo) : (s.modTpdo n f).mem = s.mem := rfl
@[simp] theorem State.modTpdo_cores (s : State) (n : Nat) (f : Tpdo → Tpdo) : (s.modTpdo n f).cores = s.cores := rfl
@[simp] theorem State.modTpdo_slotMap (s : State) (n : Nat) (f : Tpdo → Tpdo) : (s.modTpdo n f).slotMap = s.slotMap := rfl
@[simp] theorem State.modTpdo_spares (s : State) (n : Nat) (f : Tpdo → Tpdo) : (s.modTpdo n f).spares = s.spares := rfl
@[simp] theorem State.modTpdo_counters (s : State) (n : Nat) (f : Tpdo → Tpdo) : (s.modTpdo n f).counters = s.counters := rfl
@[simp] theorem State.modTpdo_syncFaults (s : State) (n : Nat) (f : Tpdo → Tpdo) : (s.modTpdo n f).syncFaults = s.syncFaults := rfl
@[simp] theorem State.modTpdo_tailDiscards (s : State) (n : Nat) (f : Tpdo → Tpdo) : (s.modTpdo n f).tailDiscards = s.tailDiscards := rfl
@[simp] theorem State.modTpdo_signals (s : State) (n : Nat) (f : Tpdo → Tpdo) : (s.modTpdo n f).signals = s.signals := rfl
@[simp] theorem State.modTpdo_addends (s : State) (n : Nat) (f : Tpdo → Tpdo) : (s.modTpdo n f).addends = s.addends := rfl
@[simp] theorem State.modTpdo_contexts (s : State) (n : Nat) (f : Tpdo → Tpdo) : (s.modTpdo n f).contexts = s.contexts := rfl
@[simp] theorem State.modTpdo_queueObjs (s : State) (n : Nat) (f : Tpdo → Tpdo) : (s.modTpdo n f).queueObjs = s.queueObjs := rfl
@[simp] theorem State.modTpdo_training (s : State) (n : Nat) (f : Tpdo → Tpdo) : (s.modTpdo n f).training = s.training := rfl
@[simp] theorem State.modTpdo_fabric (s : State) (n : Nat) (f : Tpdo → Tpdo) : (s.modTpdo n f).fabric = s.fabric := rfl
@[simp] theorem State.modTpdo_coll (s : State) (n : Nat) (f : Tpdo → Tpdo) : (s.modTpdo n f).coll = s.coll := rfl
@[simp] theorem State.modTpdo_drinex (s : State) (n : Nat) (f : Tpdo → Tpdo) : (s.modTpdo n f).drinex = s.drinex := rfl
@[simp] theorem State.modTpdo_sources (s : State) (n : Nat) (f : Tpdo → Tpdo) : (s.modTpdo n f).sources = s.sources := rfl
@[simp] theorem State.modTpdo_dests (s : State) (n : Nat) (f : Tpdo → Tpdo) : (s.modTpdo n f).dests = s.dests := rfl
@[simp] theorem State.modTpdo_rel (s : State) (n : Nat) (f : Tpdo → Tpdo) : (s.modTpdo n f).rel = s.rel := rfl
@[simp] theorem State.modTpdo_sec (s : State) (n : Nat) (f : Tpdo → Tpdo) : (s.modTpdo n f).sec = s.sec := rfl
@[simp] theorem State.modTpdo_meter (s : State) (n : Nat) (f : Tpdo → Tpdo) : (s.modTpdo n f).meter = s.meter := rfl
@[simp] theorem State.modTpdo_power (s : State) (n : Nat) (f : Tpdo → Tpdo) : (s.modTpdo n f).power = s.power := rfl

@[simp] theorem State.modMeter_pending (s : State) (f : Metering → Metering) : (s.modMeter f).pending = s.pending := rfl
@[simp] theorem State.modMeter_out (s : State) (f : Metering → Metering) : (s.modMeter f).out = s.out := rfl
@[simp] theorem State.modMeter_draws (s : State) (f : Metering → Metering) : (s.modMeter f).draws = s.draws := rfl
@[simp] theorem State.modMeter_clkc (s : State) (f : Metering → Metering) : (s.modMeter f).clkc = s.clkc := rfl
@[simp] theorem State.modMeter_device (s : State) (f : Metering → Metering) : (s.modMeter f).device = s.device := rfl
@[simp] theorem State.modMeter_mem (s : State) (f : Metering → Metering) : (s.modMeter f).mem = s.mem := rfl
@[simp] theorem State.modMeter_cores (s : State) (f : Metering → Metering) : (s.modMeter f).cores = s.cores := rfl
@[simp] theorem State.modMeter_slotMap (s : State) (f : Metering → Metering) : (s.modMeter f).slotMap = s.slotMap := rfl
@[simp] theorem State.modMeter_spares (s : State) (f : Metering → Metering) : (s.modMeter f).spares = s.spares := rfl
@[simp] theorem State.modMeter_counters (s : State) (f : Metering → Metering) : (s.modMeter f).counters = s.counters := rfl
@[simp] theorem State.modMeter_syncFaults (s : State) (f : Metering → Metering) : (s.modMeter f).syncFaults = s.syncFaults := rfl
@[simp] theorem State.modMeter_tailDiscards (s : State) (f : Metering → Metering) : (s.modMeter f).tailDiscards = s.tailDiscards := rfl
@[simp] theorem State.modMeter_signals (s : State) (f : Metering → Metering) : (s.modMeter f).signals = s.signals := rfl
@[simp] theorem State.modMeter_addends (s : State) (f : Metering → Metering) : (s.modMeter f).addends = s.addends := rfl
@[simp] theorem State.modMeter_contexts (s : State) (f : Metering → Metering) : (s.modMeter f).contexts = s.contexts := rfl
@[simp] theorem State.modMeter_queueObjs (s : State) (f : Metering → Metering) : (s.modMeter f).queueObjs = s.queueObjs := rfl
@[simp] theorem State.modMeter_training (s : State) (f : Metering → Metering) : (s.modMeter f).training = s.training := rfl
@[simp] theorem State.modMeter_fabric (s : State) (f : Metering → Metering) : (s.modMeter f).fabric = s.fabric := rfl
@[simp] theorem State.modMeter_coll (s : State) (f : Metering → Metering) : (s.modMeter f).coll = s.coll := rfl
@[simp] theorem State.modMeter_drinex (s : State) (f : Metering → Metering) : (s.modMeter f).drinex = s.drinex := rfl
@[simp] theorem State.modMeter_dict (s : State) (f : Metering → Metering) : (s.modMeter f).dict = s.dict := rfl
@[simp] theorem State.modMeter_sources (s : State) (f : Metering → Metering) : (s.modMeter f).sources = s.sources := rfl
@[simp] theorem State.modMeter_dests (s : State) (f : Metering → Metering) : (s.modMeter f).dests = s.dests := rfl
@[simp] theorem State.modMeter_rel (s : State) (f : Metering → Metering) : (s.modMeter f).rel = s.rel := rfl
@[simp] theorem State.modMeter_sec (s : State) (f : Metering → Metering) : (s.modMeter f).sec = s.sec := rfl
@[simp] theorem State.modMeter_meter (s : State) (f : Metering → Metering) : (s.modMeter f).meter = f s.meter := rfl
@[simp] theorem State.modMeter_power (s : State) (f : Metering → Metering) : (s.modMeter f).power = s.power := rfl

@[simp] theorem State.modDie_pending (s : State) (f : MeterDie → MeterDie) : (s.modDie f).pending = s.pending := rfl
@[simp] theorem State.modDie_out (s : State) (f : MeterDie → MeterDie) : (s.modDie f).out = s.out := rfl
@[simp] theorem State.modDie_draws (s : State) (f : MeterDie → MeterDie) : (s.modDie f).draws = s.draws := rfl
@[simp] theorem State.modDie_clkc (s : State) (f : MeterDie → MeterDie) : (s.modDie f).clkc = s.clkc := rfl
@[simp] theorem State.modDie_device (s : State) (f : MeterDie → MeterDie) : (s.modDie f).device = s.device := rfl
@[simp] theorem State.modDie_mem (s : State) (f : MeterDie → MeterDie) : (s.modDie f).mem = s.mem := rfl
@[simp] theorem State.modDie_cores (s : State) (f : MeterDie → MeterDie) : (s.modDie f).cores = s.cores := rfl
@[simp] theorem State.modDie_slotMap (s : State) (f : MeterDie → MeterDie) : (s.modDie f).slotMap = s.slotMap := rfl
@[simp] theorem State.modDie_spares (s : State) (f : MeterDie → MeterDie) : (s.modDie f).spares = s.spares := rfl
@[simp] theorem State.modDie_counters (s : State) (f : MeterDie → MeterDie) : (s.modDie f).counters = s.counters := rfl
@[simp] theorem State.modDie_syncFaults (s : State) (f : MeterDie → MeterDie) : (s.modDie f).syncFaults = s.syncFaults := rfl
@[simp] theorem State.modDie_tailDiscards (s : State) (f : MeterDie → MeterDie) : (s.modDie f).tailDiscards = s.tailDiscards := rfl
@[simp] theorem State.modDie_signals (s : State) (f : MeterDie → MeterDie) : (s.modDie f).signals = s.signals := rfl
@[simp] theorem State.modDie_addends (s : State) (f : MeterDie → MeterDie) : (s.modDie f).addends = s.addends := rfl
@[simp] theorem State.modDie_contexts (s : State) (f : MeterDie → MeterDie) : (s.modDie f).contexts = s.contexts := rfl
@[simp] theorem State.modDie_queueObjs (s : State) (f : MeterDie → MeterDie) : (s.modDie f).queueObjs = s.queueObjs := rfl
@[simp] theorem State.modDie_training (s : State) (f : MeterDie → MeterDie) : (s.modDie f).training = s.training := rfl
@[simp] theorem State.modDie_fabric (s : State) (f : MeterDie → MeterDie) : (s.modDie f).fabric = s.fabric := rfl
@[simp] theorem State.modDie_coll (s : State) (f : MeterDie → MeterDie) : (s.modDie f).coll = s.coll := rfl
@[simp] theorem State.modDie_drinex (s : State) (f : MeterDie → MeterDie) : (s.modDie f).drinex = s.drinex := rfl
@[simp] theorem State.modDie_dict (s : State) (f : MeterDie → MeterDie) : (s.modDie f).dict = s.dict := rfl
@[simp] theorem State.modDie_sources (s : State) (f : MeterDie → MeterDie) : (s.modDie f).sources = s.sources := rfl
@[simp] theorem State.modDie_dests (s : State) (f : MeterDie → MeterDie) : (s.modDie f).dests = s.dests := rfl
@[simp] theorem State.modDie_rel (s : State) (f : MeterDie → MeterDie) : (s.modDie f).rel = s.rel := rfl
@[simp] theorem State.modDie_sec (s : State) (f : MeterDie → MeterDie) : (s.modDie f).sec = s.sec := rfl
@[simp] theorem State.modDie_power (s : State) (f : MeterDie → MeterDie) : (s.modDie f).power = s.power := rfl

@[simp] theorem State.modMirror_pending (s : State) (f : MeterView → MeterView) : (s.modMirror f).pending = s.pending := rfl
@[simp] theorem State.modMirror_out (s : State) (f : MeterView → MeterView) : (s.modMirror f).out = s.out := rfl
@[simp] theorem State.modMirror_draws (s : State) (f : MeterView → MeterView) : (s.modMirror f).draws = s.draws := rfl
@[simp] theorem State.modMirror_clkc (s : State) (f : MeterView → MeterView) : (s.modMirror f).clkc = s.clkc := rfl
@[simp] theorem State.modMirror_device (s : State) (f : MeterView → MeterView) : (s.modMirror f).device = s.device := rfl
@[simp] theorem State.modMirror_mem (s : State) (f : MeterView → MeterView) : (s.modMirror f).mem = s.mem := rfl
@[simp] theorem State.modMirror_cores (s : State) (f : MeterView → MeterView) : (s.modMirror f).cores = s.cores := rfl
@[simp] theorem State.modMirror_slotMap (s : State) (f : MeterView → MeterView) : (s.modMirror f).slotMap = s.slotMap := rfl
@[simp] theorem State.modMirror_spares (s : State) (f : MeterView → MeterView) : (s.modMirror f).spares = s.spares := rfl
@[simp] theorem State.modMirror_counters (s : State) (f : MeterView → MeterView) : (s.modMirror f).counters = s.counters := rfl
@[simp] theorem State.modMirror_syncFaults (s : State) (f : MeterView → MeterView) : (s.modMirror f).syncFaults = s.syncFaults := rfl
@[simp] theorem State.modMirror_tailDiscards (s : State) (f : MeterView → MeterView) : (s.modMirror f).tailDiscards = s.tailDiscards := rfl
@[simp] theorem State.modMirror_signals (s : State) (f : MeterView → MeterView) : (s.modMirror f).signals = s.signals := rfl
@[simp] theorem State.modMirror_addends (s : State) (f : MeterView → MeterView) : (s.modMirror f).addends = s.addends := rfl
@[simp] theorem State.modMirror_contexts (s : State) (f : MeterView → MeterView) : (s.modMirror f).contexts = s.contexts := rfl
@[simp] theorem State.modMirror_queueObjs (s : State) (f : MeterView → MeterView) : (s.modMirror f).queueObjs = s.queueObjs := rfl
@[simp] theorem State.modMirror_training (s : State) (f : MeterView → MeterView) : (s.modMirror f).training = s.training := rfl
@[simp] theorem State.modMirror_fabric (s : State) (f : MeterView → MeterView) : (s.modMirror f).fabric = s.fabric := rfl
@[simp] theorem State.modMirror_coll (s : State) (f : MeterView → MeterView) : (s.modMirror f).coll = s.coll := rfl
@[simp] theorem State.modMirror_drinex (s : State) (f : MeterView → MeterView) : (s.modMirror f).drinex = s.drinex := rfl
@[simp] theorem State.modMirror_dict (s : State) (f : MeterView → MeterView) : (s.modMirror f).dict = s.dict := rfl
@[simp] theorem State.modMirror_sources (s : State) (f : MeterView → MeterView) : (s.modMirror f).sources = s.sources := rfl
@[simp] theorem State.modMirror_dests (s : State) (f : MeterView → MeterView) : (s.modMirror f).dests = s.dests := rfl
@[simp] theorem State.modMirror_rel (s : State) (f : MeterView → MeterView) : (s.modMirror f).rel = s.rel := rfl
@[simp] theorem State.modMirror_sec (s : State) (f : MeterView → MeterView) : (s.modMirror f).sec = s.sec := rfl
@[simp] theorem State.modMirror_power (s : State) (f : MeterView → MeterView) : (s.modMirror f).power = s.power := rfl

@[simp] theorem State.setDip_pending (s : State) (d : Nat) (k : Dip) : (s.setDip d k).pending = s.pending := rfl
@[simp] theorem State.setDip_out (s : State) (d : Nat) (k : Dip) : (s.setDip d k).out = s.out := rfl
@[simp] theorem State.setDip_draws (s : State) (d : Nat) (k : Dip) : (s.setDip d k).draws = s.draws := rfl
@[simp] theorem State.setDip_clkc (s : State) (d : Nat) (k : Dip) : (s.setDip d k).clkc = s.clkc := rfl
@[simp] theorem State.setDip_device (s : State) (d : Nat) (k : Dip) : (s.setDip d k).device = s.device := rfl
@[simp] theorem State.setDip_mem (s : State) (d : Nat) (k : Dip) : (s.setDip d k).mem = s.mem := rfl
@[simp] theorem State.setDip_cores (s : State) (d : Nat) (k : Dip) : (s.setDip d k).cores = s.cores := rfl
@[simp] theorem State.setDip_slotMap (s : State) (d : Nat) (k : Dip) : (s.setDip d k).slotMap = s.slotMap := rfl
@[simp] theorem State.setDip_spares (s : State) (d : Nat) (k : Dip) : (s.setDip d k).spares = s.spares := rfl
@[simp] theorem State.setDip_counters (s : State) (d : Nat) (k : Dip) : (s.setDip d k).counters = s.counters := rfl
@[simp] theorem State.setDip_syncFaults (s : State) (d : Nat) (k : Dip) : (s.setDip d k).syncFaults = s.syncFaults := rfl
@[simp] theorem State.setDip_tailDiscards (s : State) (d : Nat) (k : Dip) : (s.setDip d k).tailDiscards = s.tailDiscards := rfl
@[simp] theorem State.setDip_signals (s : State) (d : Nat) (k : Dip) : (s.setDip d k).signals = s.signals := rfl
@[simp] theorem State.setDip_addends (s : State) (d : Nat) (k : Dip) : (s.setDip d k).addends = s.addends := rfl
@[simp] theorem State.setDip_contexts (s : State) (d : Nat) (k : Dip) : (s.setDip d k).contexts = s.contexts := rfl
@[simp] theorem State.setDip_queueObjs (s : State) (d : Nat) (k : Dip) : (s.setDip d k).queueObjs = s.queueObjs := rfl
@[simp] theorem State.setDip_training (s : State) (d : Nat) (k : Dip) : (s.setDip d k).training = s.training := rfl
@[simp] theorem State.setDip_fabric (s : State) (d : Nat) (k : Dip) : (s.setDip d k).fabric = s.fabric := rfl
@[simp] theorem State.setDip_coll (s : State) (d : Nat) (k : Dip) : (s.setDip d k).coll = s.coll := rfl
@[simp] theorem State.setDip_drinex (s : State) (d : Nat) (k : Dip) : (s.setDip d k).drinex = s.drinex := rfl
@[simp] theorem State.setDip_dict (s : State) (d : Nat) (k : Dip) : (s.setDip d k).dict = s.dict := rfl
@[simp] theorem State.setDip_sources (s : State) (d : Nat) (k : Dip) : (s.setDip d k).sources = s.sources := rfl
@[simp] theorem State.setDip_dests (s : State) (d : Nat) (k : Dip) : (s.setDip d k).dests = s.dests := rfl
@[simp] theorem State.setDip_rel (s : State) (d : Nat) (k : Dip) : (s.setDip d k).rel = s.rel := rfl
@[simp] theorem State.setDip_sec (s : State) (d : Nat) (k : Dip) : (s.setDip d k).sec = s.sec := rfl
@[simp] theorem State.setDip_meter (s : State) (d : Nat) (k : Dip) : (s.setDip d k).meter = s.meter := rfl

/-! ### Units of a core -/

@[simp] theorem Core.unit_setUnit (c : Core) (u : UnitKind) (r : UnitRing) : (c.setUnit u r).unit u = r := by
  cases u <;> rfl

@[simp] theorem Core.unit_setUnit_other (c : Core) {u v : UnitKind} (r : UnitRing) (h : v ≠ u) :
    (c.setUnit u r).unit v = c.unit v := by
  cases u <;> cases v <;> first | rfl | exact absurd rfl h

@[simp] theorem Core.setUnit_unit (c : Core) (u : UnitKind) : c.setUnit u (c.unit u) = c := by
  cases u <;> rfl

@[simp] theorem Core.setUnit_skein (c : Core) (u : UnitKind) (r : UnitRing) : (c.setUnit u r).skein = c.skein := by
  cases u <;> rfl

@[simp] theorem Core.setUnit_tags (c : Core) (u : UnitKind) (r : UnitRing) : (c.setUnit u r).tags = c.tags := by
  cases u <;> rfl

@[simp] theorem Core.setUnit_red (c : Core) (u : UnitKind) (r : UnitRing) : (c.setUnit u r).red = c.red := by
  cases u <;> rfl

/-! ### Reading back -/

theorem State.core_setCore {s : State} {g : Nat} {c : Core} (hc : c ≠ {}) : (s.setCore g c).core g = c :=
  smGet_smSet_ne hc ..

theorem State.core_setCore_other {s : State} {g h : Nat} {c : Core} (hc : c ≠ {}) (hh : h ≠ g) :
    (s.setCore g c).core h = s.core h := smGet_smSet_ne_other hc _ hh

theorem State.core_setCore_wf {s : State} (hs : smWf {} s.cores = true) (g h : Nat) (c : Core) :
    (s.setCore g c).core h = if h = g then c else s.core h := smGet_smSet hs ..

theorem State.ctr_setCtr_wf {s : State} (hs : smWf {} s.counters = true) (p q : Nat) (c : Counter) :
    (s.setCtr p c).ctr q = if q = p then c else s.ctr q := smGet_smSet hs ..

theorem State.ctx_setCtx_wf {s : State} (hs : smWf {} s.contexts = true) (x y : Nat) (c : Context) :
    (s.setCtx x c).ctx y = if y = x then c else s.ctx y := smGet_smSet hs ..

/-- A core written back over itself leaves the state as it was, when it is listed. -/
theorem State.setCore_core {s : State} {g : Nat} (h : s.core g ≠ {}) : s.setCore g (s.core g) = s := by
  show { s with cores := smSet {} s.cores g (smGet {} s.cores g) } = s
  rw [smSet_smGet h]

end Sys2Proof.Machine
end

