-- ==== Sys2Proof/Laws/Sync.lean ====
section
/-! SUPPORT. What raising a source, ending a snapshot and leaving the waits of counters can change. -/

namespace Sys2Proof.Machine

/-- Returned slots change the link's count of slots owed, and what the module sends. -/
theorem returnCredits_frame (s : State) : { returnCredits s with drinex := s.drinex, out := s.out } = s := by
  unfold returnCredits
  dsimp only
  split <;> rfl

theorem drainTxns_frame (n : Nat) (s : State) : { drainTxns n s with drinex := s.drinex, out := s.out } = s := by
  induction n generalizing s with
  | zero => rfl
  | succ n ih =>
    unfold drainTxns
    split
    · rfl
    · split
      · rfl
      · refine (congrArg (fun (t : State) => { t with drinex := s.drinex, out := s.out }) (ih _)).trans ?_
        exact congrArg (fun (t : State) => { t with drinex := s.drinex, out := s.out }) (returnCredits_frame _)

/-- A transaction sent changes the link's credits and waiting transactions, and what the module sends. -/
theorem sendTxn_frame (s : State) (c n : Nat) (o : Output) : { sendTxn s c n o with drinex := s.drinex, out := s.out } = s := by
  unfold sendTxn
  exact congrArg (fun (t : State) => { t with drinex := s.drinex, out := s.out }) (drainTxns_frame _ _)

theorem sendIntr_frame (s : State) (v : BitVec 6) : { sendIntr s v with drinex := s.drinex, out := s.out } = s := by
  unfold sendIntr
  split
  · exact sendTxn_frame ..
  · split <;> rfl

/-- A delivery changes the table of destinations, the line of a core, and what the module sends and holds for Drinex. -/
theorem deliver_frame (s : State) (d : Nat) :
    { deliver s d with dests := s.dests, cores := s.cores, drinex := s.drinex, out := s.out } = s := by
  unfold deliver
  dsimp only
  split
  · exact congrArg (fun (t : State) => { t with dests := s.dests, cores := s.cores }) (sendIntr_frame _ _)
  · split <;> rfl

theorem deliverIfDue_frame (s : State) (d : Nat) :
    { deliverIfDue s d with dests := s.dests, cores := s.cores, drinex := s.drinex, out := s.out } = s := by
  unfold deliverIfDue
  dsimp only
  generalize hc : (_ && _ : Bool) = c
  cases c
  · rfl
  · exact deliver_frame s d

/-- An event of a source changes the two tables of the interrupt controller, and what its destination's delivery does. -/
theorem raise_frame (s : State) (n : Nat) :
    { raise s n with sources := s.sources, dests := s.dests, cores := s.cores, drinex := s.drinex, out := s.out } = s := by
  unfold raise
  dsimp only
  split
  · rfl
  · split
    · exact congrArg (fun (t : State) => { t with sources := s.sources, dests := s.dests }) (deliverIfDue_frame _ _)
    · rfl

/-- The end of a snapshot sets its two objects and raises its source (R236). -/
theorem endSnapshot_frame (s : State) :
    { endSnapshot s with
      queueObjs := s.queueObjs, sources := s.sources, dests := s.dests, cores := s.cores, drinex := s.drinex, out := s.out } = s := by
  unfold endSnapshot
  split
  · exact congrArg (fun (t : State) => { t with queueObjs := s.queueObjs })
      (raise_frame { s with queueObjs := { s.queueObjs with snapBusy := false, snapDone := 1 } } _)
  · rfl

@[simp] theorem endSnapshot_mem (s : State) : (endSnapshot s).mem = s.mem := by
  have h := congrArg State.mem (endSnapshot_frame s); exact h

@[simp] theorem endSnapshot_contexts (s : State) : (endSnapshot s).contexts = s.contexts := by
  have h := congrArg State.contexts (endSnapshot_frame s); exact h

@[simp] theorem endSnapshot_counters (s : State) : (endSnapshot s).counters = s.counters := by
  have h := congrArg State.counters (endSnapshot_frame s); exact h

@[simp] theorem endSnapshot_signals (s : State) : (endSnapshot s).signals = s.signals := by
  have h := congrArg State.signals (endSnapshot_frame s); exact h

@[simp] theorem endSnapshot_fabric (s : State) : (endSnapshot s).fabric = s.fabric := by
  have h := congrArg State.fabric (endSnapshot_frame s); exact h

@[simp] theorem endSnapshot_coll (s : State) : (endSnapshot s).coll = s.coll := by
  have h := congrArg State.coll (endSnapshot_frame s); exact h

@[simp] theorem endSnapshot_rel (s : State) : (endSnapshot s).rel = s.rel := by
  have h := congrArg State.rel (endSnapshot_frame s); exact h

@[simp] theorem endSnapshot_device (s : State) : (endSnapshot s).device = s.device := by
  have h := congrArg State.device (endSnapshot_frame s); exact h

@[simp] theorem endSnapshot_clkc (s : State) : (endSnapshot s).clkc = s.clkc := by
  have h := congrArg State.clkc (endSnapshot_frame s); exact h

/-- With no snapshot in progress nothing ends (R236). -/
theorem endSnapshot_idle {s : State} (h : s.queueObjs.snapBusy = false) : endSnapshot s = s := by
  simp [endSnapshot, h]

/-- After it none is in progress. -/
@[simp] theorem endSnapshot_snapBusy (s : State) : (endSnapshot s).queueObjs.snapBusy = false := by
  unfold endSnapshot
  split
  · have h := congrArg (fun (t : State) => t.queueObjs.snapBusy)
      (raise_frame { s with queueObjs := { s.queueObjs with snapBusy := false, snapDone := 1 } } 0x38E)
    exact h
  · simp_all

@[simp] theorem endSnapshot_endSnapshot (s : State) : endSnapshot (endSnapshot s) = endSnapshot s :=
  endSnapshot_idle (endSnapshot_snapBusy s)

end Sys2Proof.Machine
end

