-- ==== Sys2Proof/Laws/Units.lean ====
section
/-! SUPPORT. The spec lemma of the units: a dispatched instruction that nothing holds issues with the outcome of its run, and what
that leaves. -/

namespace Sys2Proof.Machine

theorem mapWhere_id {α : Type} {p : α → Bool} {f : α → α} {l : List α} (h : ∀ x ∈ l, p x = true → f x = x) :
    mapWhere p f l = l := by
  unfold mapWhere
  conv => rhs; rw [← List.map_id l]
  refine List.map_congr_left (fun x hx => ?_)
  by_cases hp : p x = true
  · simp [hp, h x hx hp]
  · simp [hp]

theorem Core.ne_default_of_window {c : Core} {u : UnitKind} (h : (c.unit u).window ≠ []) : c ≠ {} := by
  rintro rfl; cases u <;> exact h rfl

theorem findEntry_mem {w : List WinEntry} {q : BitVec 64} {e : WinEntry} (h : findEntry w q = some e) : e ∈ w :=
  List.mem_of_find?_eq_some h

theorem findEntry_seq {w : List WinEntry} {q : BitVec 64} {e : WinEntry} (h : findEntry w q = some e) : e.seq = q := by
  have := List.find?_some h; simpa using this

/-- An update of the entry with a seq is found under it. -/
theorem findEntry_mapWhere {w : List WinEntry} {q : BitVec 64} {e : WinEntry} {f : WinEntry → WinEntry}
    (h : findEntry w q = some e) (hf : ∀ x, (f x).seq = x.seq) :
    findEntry (mapWhere (fun x => decide (x.seq = q)) f w) q = some (f e) := by
  unfold findEntry mapWhere at *
  induction w with
  | nil => cases h
  | cons x w ih =>
    simp only [List.find?_cons] at h
    simp only [List.map_cons, List.find?_cons]
    by_cases hx : x.seq = q
    · simp only [hx, decide_true] at h ⊢
      cases h
      simp [hf, hx]
    · simp only [hx, decide_false] at h ⊢
      simpa [hx] using ih h

/-- Writing an entry of a window over itself leaves the state as it was. -/
theorem State.modEntry_id {s : State} {u : UnitKind} {g : Nat} {q : BitVec 64} {f : WinEntry → WinEntry}
    (hw : (s.unitOf u g).window ≠ []) (h : ∀ x ∈ (s.unitOf u g).window, x.seq = q → f x = x) : s.modEntry u g q f = s := by
  unfold State.modEntry
  have : mapWhere (fun e => decide (e.seq = q)) f ((s.core g).unit u).window = ((s.core g).unit u).window :=
    mapWhere_id (fun x hx hp => h x hx (by simpa using hp))
  simp only [this]
  rw [Core.setUnit_unit, State.setCore_core (Core.ne_default_of_window hw)]

theorem preDetect_inRun {s : State} {det : Detect} {a : Actor} (h : inRun det = true) : preDetect s det a = s := by
  cases det <;> first | rfl | cases h

/-- What Dispatched says, taken apart. -/
theorem dispatched_iff {s : State} {u : UnitKind} {op : Nat} {g : CoreId} {q : BitVec 64} {e : WinEntry}
    (h : Dispatched s u op g q e = true) :
    s.wf = true ∧ findEntry (s.unitOf u g).window q = some e ∧ (∀ x ∈ (s.unitOf u g).window, x.seq = q → x = e) ∧ dOpcode e.desc = op ∧
    (s.unitOf u g).stopped = false ∧ s.present g = true ∧ e.status = 0 ∧ (e.phase = .waiting ∨ e.phase = .running) ∧
    orderOk s u g (s.unitOf u g).window e = true ∧ waitOf s g u e = .ready ∧ needsReserve s g e = false ∧
    (!(dFence e.desc) || (earlier (s.unitOf u g).window q).all (fun x => decide (x.phase = .retired))) = true := by
  simp only [Dispatched, Bool.and_eq_true, decide_eq_true_eq, Bool.not_eq_true'] at h
  obtain ⟨⟨⟨⟨⟨⟨⟨⟨⟨⟨⟨h0, h1⟩, h2⟩, h3⟩, h4⟩, h5⟩, h6⟩, h7⟩, h8⟩, h9⟩, h10⟩, h11⟩ := h
  refine ⟨h0, h1, ?_, h3, h4, h5, h6, ?_, h8, h9, h10, h11⟩
  · intro x hx hq
    have := List.all_eq_true.mp h2 x hx
    simpa [hq] using this
  · simpa using h7

/-- A dispatched instruction that neither its unit's rules hold nor is empty issues with the outcome of its run. -/
theorem unitOp_issues {u : UnitKind} {op : Nat} {g : CoreId} {q : BitVec 64} {det : Detect} {s : State} {e : WinEntry}
    (hd : inRun det = true) (h : Dispatched s u op g q e = true) (check : State → WinEntry → Verdict)
    (ask : State → WinEntry → State) (rules : State → WinEntry → OpRules) (body : State → WinEntry → Run → Run)
    (phase : Run → Phase) (hh : (rules s e).held = false) (he : (rules s e).empty = false) :
    unitOp u op g q det s check ask rules body phase =
      finish s u g e (body s e (startRun s g e)) (phase (body s e (startRun s g e))) (u != .engine || op != 9) := by
  obtain ⟨-, h1, h2, h3, h4, h5, h6, h7, h8, h9, h10, h11⟩ := dispatched_iff h
  have hph : e.phase ≠ .fetched ∧ e.phase ≠ .executed ∧ e.phase ≠ .retired := by
    rcases h7 with h | h <;> simp [h]
  have hw : (s.unitOf u g).window ≠ [] := List.ne_nil_of_mem (findEntry_mem h1)
  have hid : s.modEntry u g q (fun e => if e.phase = .fetched then { e with phase := .waiting, issueTime := s.clkc } else e) = s :=
    State.modEntry_id hw (fun x hx hq => by rw [h2 x hx hq, if_neg hph.1])
  have hres : takeReserve s u g e = s := by simp [takeReserve, h10]
  have hok : reserveOk s g e = true := by simp [reserveOk, h10]
  have hf : (dFence e.desc && !((earlier (s.unitOf u g).window q).all (fun x => decide (x.phase = .retired)))) = false := by
    revert h11; cases dFence e.desc <;> simp
  unfold unitOp
  simp only [h1, h3, h4, h5, h6, h8, hph.1, hph.2.1, hph.2.2, preDetect_inRun hd, hid, h9, hok, hres, hf, hh, he]
  simp [startRun]

/-- What issuing leaves, for a run without fault records and packets whose body kept the rings of its core. -/
theorem finish_issued {s : State} {u : UnitKind} {g : CoreId} {q : BitVec 64} {e : WinEntry} {r : Run} {ph : Phase}
    {worked : Bool} (hf : findEntry (s.unitOf u g).window q = some e) (hr : (r.core.unit u).window = (s.unitOf u g).window) (hp : r.plain) :
    Issued s (finish s u g e r ph worked) u g q e r ph := by
  obtain ⟨hn, hk⟩ := hp
  have hq := findEntry_seq hf
  have hw : (r.core.unit u).window ≠ [] := by rw [hr]; exact List.ne_nil_of_mem (findEntry_mem hf)
  have hc := Core.ne_default_of_window hw
  subst hq
  let f (x : WinEntry) : WinEntry :=
    { x with phase := ph, status := BitVec.ofNat 16 r.status
             flags := BitVec.ofNat 16 (flagWord r.status r.invalid r.ovf r.trunc x.desc)
             event := r.event, flushed := r.flushed, divZero := r.divZero, beats := r.pos, tailed := ridesTail s g e r
             opcode := BitVec.ofNat 8 (dOpcode x.desc)
             issueTime := if worked && decide (x.phase ≠ .running) then s.clkc else x.issueTime }
  let s1 : State := { s with mem := r.mem, addends := s.addends ++ r.addends
                             rel := { s.rel with slotFailures := satAdd s.rel.slotFailures r.slotFails } }
  have hfin : finish s u g e r ph worked = (s1.setCore g r.core).modEntry u g e.seq f := by
    unfold finish
    simp [hn, hk, writeNotes, sendAll, s1, f]
  have hcore : (s1.setCore g r.core).core g = r.core := State.core_setCore hc
  have hunit : (s1.setCore g r.core).unitOf u g = r.core.unit u := by rw [State.unitOf, hcore]
  have hfw : mapWhere (fun x => decide (x.seq = e.seq)) f (r.core.unit u).window ≠ [] := by
    intro h0; exact hw (by simpa [mapWhere] using h0)
  set c' : Core := r.core.setUnit u
    { r.core.unit u with window := mapWhere (fun x => decide (x.seq = e.seq)) f (r.core.unit u).window } with hc'
  have hc'ne : c' ≠ {} := Core.ne_default_of_window (u := u) (by rw [hc']; simpa using hfw)
  have ht : finish s u g e r ph worked = (s1.setCore g r.core).setCore g c' := by
    rw [hfin]; unfold State.modEntry; rw [hcore]
  have htc : (finish s u g e r ph worked).core g = c' := by rw [ht]; exact State.core_setCore hc'ne
  rw [Issued, htc]
  refine ⟨by rw [ht]; rfl, by rw [ht]; rfl, ⟨f e, ?_, rfl, rfl, rfl, rfl⟩, ?_, ?_, ?_, ?_, ?_⟩
  · rw [State.unitOf, htc, hc', Core.unit_setUnit]
    exact findEntry_mapWhere (by rw [hr]; exact hf) (fun _ => rfl)
  · rw [hc']; simp
  · rw [hc']; simp
  · rw [hc']; simp
  · intro h hh
    rw [ht, State.core_setCore_other hc'ne hh, State.core_setCore_other hc hh]
    rfl
  · rw [ht]; rfl

end Sys2Proof.Machine
end

