-- ==== Sys2Proof/Tests/Slice0.lean ====
section
/-! SUPPORT. The model's own tests: ill-formed terms that WellFormed refuses, values that the spec writes out, and for each statement a
state and operands that meet its hypotheses, on small states built by the helpers below. -/

namespace Sys2Proof.Tests

set_option Elab.async false

open Sys2Proof Sys2Proof.Machine

/-! ### Small states -/

/-- n bytes, zero but at the positions listed. -/
def raw (n : Nat) (at_ : List (Nat × Nat)) : Bytes :=
  (List.range n).map (fun i => BitVec.ofNat 8 ((at_.find? (fun p => p.1 == i)).getD (0, 0)).2)

/-- A module in Service: core 0 present, Drinex up, CAN node 1 on the bus, module ID 5, all DDR5 channels populated. -/
def base : State :=
  { device := .service, slotMap := [(0, 1), (1, 2)], drinex := { st := 2, laneMap := 0xFF }
    fabric := { moduleId := some 5, ports := [(0, { st := 2, txCount := 4 }), (8, { st := 2 })] }
    dict := { nodeId := 1, busState := 0, accessLevel := 1 }, sec := { lifecycle := 1 }
    power := { bootStep := 0, powerStep := 0 }, mem := { channels := 0xFF, population := 0xFF, ddrGib := 1 } }

def host : Accessor := { cls := .host, src := 0 }
def mgmt : Accessor := { cls := .mgmt, src := 0 }
def debugPort : Accessor := { cls := .debug, src := 0 }
def metro : Accessor := { cls := .metro, src := 0 }

/-- A dispatched instruction with these descriptor bytes, alone in the window of a unit of core 0. -/
def entry (n : Nat) (at_ : List (Nat × Nat)) : WinEntry := { desc := raw n at_, phase := .waiting }
def ring (e : WinEntry) : UnitRing := { window := [e], head := 1, tail := 1, nextSeq := 1 }
def withUnit (u : UnitKind) (e : WinEntry) : State :=
  { base with cores := [(0, ({ owner := some 0 } : Core).setUnit u (ring e))] }

/-! ### WellFormed refuses (R246, R267, R270, R305) -/

def packet (typ : Nat) (payload : Bytes) (tail : Bool := false) : Packet := Packet.sealed
  { port := 0, typ := BitVec.ofNat 6 typ, vc := 0, tail := tail, retransmit := false, units := BitVec.ofNat 6 (payload.length / 8)
    dst := 5, src := 7, tag := 0, address := 0, payload := payload, crc := 0, symbols := 0 }

def frame (round : BitVec 3) (payload : Bytes) (dst : BitVec 14 := 5) (src : BitVec 14 := 6) : Frame := Frame.sealed
  { typ := 0x10, retransmit := false, round := round, dst := dst, src := src, comm := 1, seq := 1, stage := 0, tree := 0
    attempt := 1, index := 0, last := true, payload := payload, crc := 0 }

def sum (lin : Nat) : SentSum := { lin := lin, field := [], anchor := 0 }
def badPacket : Packet := packet 1 (raw 7 [])
def badFrame : Frame := frame 0 (raw 72 [])

theorem test_wf_refuses :
    [Instr.ringTailWrite .engine 0 1 [[]], .tmul 0 0 (some 0) .clean, .queueConfig host [], .upd 0 0 [sum 1, sum 1] .clean,
     .upda 0 0 [sum 1, sum 0] .clean, .portTrained 0 0 0 0 { moduleId := 0, credits := [1] }, .loadReq badPacket, .loadRsp badPacket, .store badPacket,
     .storeBytes badPacket, .skeinAdd badPacket, .intAtomic badPacket, .atomicRsp badPacket, .signal badPacket, .fabricDoorbell badPacket,
     .dictReq badPacket, .dictRsp badPacket, .ack badPacket, .nack badPacket, .resync badPacket, .routeFail badPacket,
     .transitUp badFrame, .transitDown badFrame, .abort badFrame, .rerun badFrame, .credit badFrame,
     .dictWr { cls := 1, tag := 0, length := 0, reserved := false } 0 0 (raw 257 []), .tapDict 0 (raw 65 []), .irqPendingClear host [],
     .irqPendingSet host [], .thermalSample [], .bootStepComplete { failedSlots := [], failedStacks := [], spd := List.replicate 9 none, millis := 0 },
     .stageChunkWrite mgmt [], .fwUpdateData mgmt (raw 257 []), .attestNonce mgmt [], .readingNonce metro [],
     .meterFwData metro (raw 257 [])].all (fun i => !i.wf) = true := by decide +kernel

theorem test_wf_refuses_long_write :
    (Instr.mwr { cls := 0, tag := 0, length := 0, reserved := false } 0 (List.replicate 4097 0) .clean).wf = false := by decide +kernel

/-! ### Values that the spec writes out -/

/-- R239: seed 0 and a counter of zeros. -/
theorem test_philox : philox 0 0 0 0 0 0 = [0x6627E8D5, 0xE169C58D, 0xBC57AC4C, 0x9B00DBD8] := by decide +kernel

/-! ### Units: what the statements suppose is met -/

def engineEntry (op : Nat) : WinEntry :=
  entry 128 [(8, op), (18, 1), (20, 1), (22, 4), (28, 1), (40, 1), (44, 1), (64, 3), (72, 1), (76, 1)]
def vectorEntry (op : Nat) : WinEntry := entry 128 [(8, op), (16, 1), (18, 1), (23, 1), (24, 1), (22, 1)]
def dmaEntry (op : Nat) : WinEntry :=
  entry 128 [(8, op), (29, if op = 0x85 then 0 else 1), (32, 1), (36, 1), (40, 1), (44, 1), (109, 2)]

/-- A run without a fault record or a packet. -/
def quietRun (r : Run) : Bool := r.notes.isEmpty && r.packets.isEmpty

theorem witness_TensorInstructionsIssue :
    let e := engineEntry
    let s (op : Nat) := withUnit .engine (e op)
    let r (op : Nat) := startRun (s op) 0 (e op)
    ([1, 2, 3, 4, 5, 6, 7, 8, 9].all (fun op => Dispatched (s op) .engine op 0 0 (e op) && !(engineHeld (s op) 0 (e op).desc)) &&
      [1, 2, 3, 4, 5, 6, 7, 8].all (fun op => !(engineEmpty (e op).desc)) &&
      decide (((s 4).core 0).progress = none)) = true ∧
    (quietRun (tzroBody .clean (s 1) (e 1) (r 1)) && quietRun (tpreBody .clean (s 2) (e 2) (r 2)) &&
      quietRun (trstBody .clean (s 3) (e 3) (r 3)) && quietRun (tmulBody (some 1) .clean 0 (s 4) (e 4) (r 4)) &&
      quietRun (tdrnBody .clean 0 (s 5) (e 5) (r 5)) && quietRun (tsavBody .clean 0 (s 6) (e 6) (r 6)) &&
      quietRun (tatmBody .clean 0 (s 7) (e 7) (r 7)) && quietRun (tmovBody .clean (s 8) (e 8) (r 8))) = true := by decide +kernel

theorem witness_VectorInstructionsIssue :
    let s (op : Nat) := withUnit .vector (vectorEntry op)
    let el := [0x40, 0x41, 0x42, 0x43, 0x44, 0x45, 0x46, 0x47, 0x48, 0x49, 0x4A, 0x50, 0x51, 0x52, 0x53, 0x54, 0x55, 0x56, 0x57, 0x58,
      0x70, 0x71, 0x72]
    let red := [0x60, 0x61, 0x62, 0x63]
    ((el ++ red ++ [0x64, 0x68, 0x69, 0x6A, 0x6B]).all (fun op =>
      Dispatched (s op) .vector op 0 0 (vectorEntry op) && decide (vRows (vectorEntry op).desc ≠ 0)) && !((s 0x6B).dipOpen 0)) = true := by
  decide +kernel

theorem witness_VectorRuns :
    let s (op : Nat) := withUnit .vector (vectorEntry op)
    let r (op : Nat) := startRun (s op) 0 (vectorEntry op)
    ([0x40, 0x43, 0x48, 0x4A, 0x72].all (fun op => quietRun (elementBody .clean 0 (s op) (vectorEntry op) (r op))) &&
      [0x60, 0x61, 0x62, 0x63].all (fun op => quietRun (reductionBody .clean 0 (s op) (vectorEntry op) (r op))) &&
      quietRun (maxBody .clean 0 (s 0x64) (vectorEntry 0x64) (r 0x64)) && quietRun (vrdrnBody .clean 0 (s 0x68) (vectorEntry 0x68) (r 0x68)) &&
      quietRun (vrsavBody .clean 0 (s 0x69) (vectorEntry 0x69) (r 0x69)) && quietRun (vrrstBody .clean (s 0x6A) (vectorEntry 0x6A) (r 0x6A)) &&
      quietRun (vratmBody .clean 0 (s 0x6B) (vectorEntry 0x6B) (r 0x6B))) = true := by decide +kernel

theorem witness_DmaInstructionsIssue :
    let s (op : Nat) := withUnit .dma (dmaEntry op)
    let r (op : Nat) := startRun (s op) 0 (dmaEntry op)
    ([0x80, 0x81, 0x82, 0x83, 0x84, 0x85].all (fun op =>
      Dispatched (s op) .dma op 0 0 (dmaEntry op) && !(dmaEmpty (dmaEntry op).desc)) &&
      quietRun (dcopyBody .clean 0 (s 0x80) (dmaEntry 0x80) (r 0x80)) && quietRun (dfillBody .clean 0 (s 0x81) (dmaEntry 0x81) (r 0x81)) &&
      quietRun (dhinitBody .clean 0 (s 0x82) (dmaEntry 0x82) (r 0x82)) && quietRun (dhashBody .clean 0 (s 0x83) (dmaEntry 0x83) (r 0x83)) &&
      quietRun (dinvalBody 0 (s 0x84) (dmaEntry 0x84) (r 0x84)) &&
      quietRun (dhaloBody .clean 0 (s 0x85) (dmaEntry 0x85) (r 0x85))) = true := by decide +kernel

/-- Core 0 with one descriptor of opcode op and seq 0 waiting in local SRAM for a unit's fetch. -/
def toFetch (u : UnitKind) (op : Nat) : State :=
  { base with
    cores := [(0, ({} : Core).setUnit u { tail := 1 })]
    mem := base.mem.putBytes (localBase 0) (raw 128 [(8, op)]) }

theorem witness_RingsFetchAndMove :
    let s := toFetch .engine 9
    let full : State := { base with cores := [(0, ({} : Core).setUnit .dma { tail := 65, head := 64 })] }
    (s.present 0 && !((s.unitOf .engine 0).stopped) && decide ((s.unitOf .engine 0).head ≠ (s.unitOf .engine 0).tail) &&
      decide (readMem s s.mem 128 (localBase 0) = .ok (raw 128 [(8, 9)])) &&
      decide (2 ^ 6 ≤ ((full.unitOf .dma 0).head - (full.unitOf .dma 0).release).toNat)) = true := by decide +kernel

theorem witness_TzroZeroesItsRows :
    let e := engineEntry 1
    (Dispatched (withUnit .engine e) .engine 1 0 0 e && !(engineEmpty e.desc) && !(engineHeld (withUnit .engine e) 0 e.desc)) = true := by
  decide +kernel

/-- A TZRO fetched with a reserved ply, which dispatch refuses. -/
def badTzro : WinEntry := { engineEntry 1 with phase := .fetched, desc := raw 128 [(8, 1), (18, 1), (20, 1), (22, 12), (28, 1)] }
/-- A TSIG whose work has ended. -/
def doneTsig : WinEntry := { engineEntry 9 with phase := .executed }

theorem witness_RefusalAndRetirement :
    let s := withUnit .engine badTzro
    let t := withUnit .engine doneTsig
    decide (findEntry (s.unitOf .engine 0).window 0 = some badTzro ∧ badTzro.status = 0 ∧ dOpcode badTzro.desc = 1 ∧
      s.present 0 = true ∧ orderOk s .engine 0 (s.unitOf .engine 0).window badTzro = true ∧ engineCheck 0 s badTzro = .refuse stBad ∧
      t.wf = true ∧ (t.unitOf .engine 0).window = [doneTsig] ∧ effectsDone t .engine 0 doneTsig = true ∧
      dSigEn doneTsig.desc = false ∧ dIrq doneTsig.desc = false ∧ t.dipOpen 0 = false ∧ (t.core 0).job = none) = true := by decide +kernel

theorem witness_FencesCapturesScrubsAndClears :
    decide (base.wf = true ∧ base.translate 0 = some (stackBase 0) ∧ Admitted base mgmt 0x2800 8 = true ∧
      Admitted base mgmt 0x2808 8 = true ∧ Admitted base mgmt 0x2610 4 = true) = true := by decide +kernel

/-- An addend of 1 under way to a finite-zero element at address 0. -/
def oneAddend : Addend :=
  { target := 0, ply := 1, cls := 0, lsb := 0, elem := termBytes 1 { cls := 0, cause := 0, v := 1 }, src := .command }

theorem witness_AddendsAndHeadersAreCombined :
    let s := { base with addends := [oneAddend] }
    decide (readMem s s.mem 24 0 = .ok (raw 24 []) ∧ loadElement 1 (raw 24 []) = ({}, none) ∧
      loadElement 1 oneAddend.elem = ({ cls := 0, cause := 0, v := 1 }, none) ∧
      (writeMem s s.mem none 0 (termBytes 1 (addTerm (some (plyWidth 1)) {} { cls := 0, cause := 0, v := 1 }))).2 = none ∧
      readMem s s.mem 64 0x40 = .ok (raw 64 []) ∧ (writeMem s s.mem none 0x40 (mergeHeaderBytes (raw 64 []) (some 3) 5)).2 = none) = true := by
  decide +kernel

def plan0 : Plan :=
  { planId := 9, groups := [(0, [0])], resources := [{ kind := 0x0B, scope := 0, amount := 3184640, base := 0x100000 }] }
/-- Context 0 is READY with a plan on core 0. -/
def planned : State := { base with contexts := [(0, { st := .ready, plan := some plan0 })], cores := [(0, { owner := some 0 })] }
def savedOnce : State := { base with contexts := [(0, { st := .ready, plan := some plan0, saved := [0] })] }

theorem witness_ContextsAreSwitchedAndRestored :
    decide (planned.wf = true ∧ saveArea planned 0 0 = some (0x100000, 0x100000 + engineAreaBytes) ∧ (planned.core 0).owner = some 0 ∧
      canStop planned 0 = true ∧ savedOnce.wf = true ∧ saveArea savedOnce 0 0 = some (0x100000, 0x100000 + engineAreaBytes) ∧
      0 ∈ (savedOnce.ctx 0).saved ∧ (savedOnce.core 0).owner = none ∧ savedOnce.present 0 = true) = true := by decide +kernel

theorem witness_SkeinElementsAndSums :
    decide (stateByteOk (3 * 64 + 2 * 4) = true ∧ inWindow (128 * 5) (2 ^ 639 - 1) = true ∧ inWindow 128 (2 ^ 127 - 1 + 0) = true ∧
      inWindow 128 (2 ^ 127 - 1 + 1) = false) = true := by decide +kernel

theorem witness_VectorElementValues :
    decide (fpVal 0x7F7FFFFF ≠ .nan ∧ fpVal 0 ≠ .nan ∧ fpVal 0x7FC00000 = .nan ∧ dOpcode (raw 16 [(8, 0x46)]) = 0x46) = true := by
  decide +kernel

/-! ### Contexts, queues and host descriptors -/

def withQueue (c : Context) (k : Queue) : State := { base with contexts := [(0, { c with queues := [(0, k)] })] }
def queue0 (ds : List HostDesc) : Queue :=
  { configured := true, ringBase := 0x2000, cringBase := 0x4000, tail := 1, accept := 1, descs := ds }
/-- A descriptor of opcode op that has been accepted with seq 0. -/
def hostDesc (op : Nat) (more : List (Nat × Nat)) : HostDesc := { bytes := raw 128 ((8, op) :: more) }

theorem witness_ContextCommandsChangeTheContext :
    let s (c : Context) : State := withQueue c {}
    ([({} : Context), { st := .opened }, { st := .ready }, { st := .stopped }, { st := .resetting }].all (fun c =>
      (s c).wf && Admitted (s c) host 0x2A00 2 && !(outstandingIn ((s c).ctx 0)) && ((s c).coresOf 0).all (coreDrained (s c)))) = true := by
  decide +kernel

/-- QueueConfig bytes: ring at 0x2000 of 2^6 entries, completion ring at 0x4000, source 0x37F. -/
def queueConfigBytes : Bytes := raw 32 [(1, 0x20), (6, 6), (9, 0x40), (14, 0x7F), (15, 3)]

/-- One descriptor of opcode SYNC and seq 0 stands in the ring of queue 0. -/
def toAccept : State :=
  let s := withQueue { st := .ready } { queue0 [] with accept := 0 }
  { s with mem := s.mem.putBytes (stackBase 2) (raw 128 [(8, 4)]) }
def accepted0 : State :=
  withQueue { st := .ready } { queue0 [] with accept := 0, accepting := some (hostDesc 4 []), acceptEchoed := true }

theorem witness_QueuesAcceptDescriptors :
    let s := withQueue { st := .opened } {}
    let r := withQueue { st := .ready } (queue0 [hostDesc 4 []])
    decide (Admitted s host 0x2A01 2 = true ∧ queueConfigBytes.length = 32 ∧ (s.queue 0 0).outstanding = false ∧
      leAt queueConfigBytes 0 6 = 0x2000 ∧ byteAt queueConfigBytes 6 = 6 ∧ leAt queueConfigBytes 8 6 = 0x4000 ∧
      leAt queueConfigBytes 14 2 = 0x37F ∧ zeroRange queueConfigBytes 24 32 = true ∧ decodedRange s 0x2000 8192 = true ∧
      decodedRange s 0x4000 16384 = true ∧ r.wf = true ∧ Admitted r host 0x2A01 4 = true ∧ (r.queue 0 0).configured = true ∧
      (r.queue 0 0).accepting = none ∧ mayAccept toAccept 0 0 = true ∧
      readMem toAccept toAccept.mem 128 0x2000 = .ok (raw 128 [(8, 4)]) ∧ accepted0.echoDue 0 0 false = false) = true := by decide +kernel

def ready0 (d : HostDesc) : State := withQueue { st := .ready } (queue0 [d])

theorem witness_HostDescriptorsDispatch :
    ([2, 3, 4, 5].all (fun op => let s := ready0 (hostDesc op []); s.wf && HostReady s 0 0 op (hostDesc op []) &&
      decide ((s.ctx 0).unloading = none ∧ s.power.draining = none ∧ hAddr0 (hostDesc op []).bytes = 0) &&
      !(s.contexts.any (fun c => c.2.unloading.isSome)))) = true := by decide +kernel

def tensor (id : Nat) : TensorRec :=
  { tensorId := BitVec.ofNat 32 id, format := 3, rank := 2, blockDim := 0, cls := 0, ply := 1, windowRule := 0, lsb := 0, mode := 0, scale := 0
    anchorA := 0, anchorB := 0, dims := [1, 1] }
def product : OpRec :=
  { opId := 0, kind := 1, sign := false, inputs := [1, 2], preloads := [], outputs := [3], subOp := 0, partialTo := 0, kTotal := 1
    encoding := 0, reduceOp := 0, units := 0, count := 0, rootUnit := 0 }
def partRun : Placement :=
  { opId := 0, group := 0, policy := 1, slot := 0, bufBase := 0, bufBytes := 0, hFixed := 1, kcFixed := 1, kFirst := 0, kCount := 1 }
/-- A plan of one product of 1 × 1 × 1 on core 0, in tiles of height 1. -/
def planRun : Plan :=
  { plan0 with
    tensors := [tensor 1, tensor 2, tensor 3], ops := [product]
    placements := [partRun] }
/-- RUN of the product with three bindings at 0x1000, 0x2000 and 0x3000, the last written. -/
def runDesc : HostDesc :=
  hostDesc 1 [(18, 3), (20, 1), (24, 1), (28, 1), (32, 1), (65, 0x10), (73, 0x20), (81, 0x30), (86, 2)]
def toRun : State := withQueue { st := .ready, plan := some planRun } (queue0 [runDesc])

/-- What the RUN's dispatch makes ready for its tiles. -/
def prepared : Option Product :=
  let w := toRun.taken 0 0 runDesc
  let res := (List.range (hCount runDesc.bytes)).flatMap (fun i => resolveBinding (w.ctx 0) (hBinding runDesc.bytes i))
  match prepareProduct w 0 planRun product { runDesc with resolved := res } with
  | .ok (_, r) => r
  | .error _ => none

/-- R173: the tile of a product of 1 × 1 × 1 is TZRO, its two operands by DCOPY, TMUL and TDRN. -/
theorem witness_RunDispatchesItsTiles :
    let w := toRun.taken 0 0 runDesc
    decide (toRun.wf = true ∧ HostReady toRun 0 0 1 runDesc = true ∧ planRun.op 0 = some product ∧
      bindingsOk w (w.ctx 0) planRun product runDesc.bytes = true ∧ phaseLets (w.ctx 0) planRun 0 = true ∧
      dualHeld (w.ctx 0) runDesc = false ∧ hM runDesc.bytes = 1 ∧ hN runDesc.bytes = 1 ∧ hK runDesc.bytes = 1 ∧ hBatch runDesc.bytes = 1 ∧
      coresFree w 0 0 0 (opCores planRun 0) = true ∧
      tilesFor w planRun product runDesc.bytes = some [(partRun, 0, { core := 0, batch := 0, mOrigin := 0, nOrigin := 0, height := 1, kc := 1 })] ∧
      partMissing planRun product 1 = false ∧ toRun.present 0 = true ∧ ringsIdle (toRun.core 0) = true ∧
      (prepared.map (fun (pr : Product) => (pr.tile w.training partRun 0 { core := 0, batch := 0, mOrigin := 0, nOrigin := 0, height := 1, kc := 1 }).map
        (fun e => dOpcode e.2))) = some [0x01, 0x80, 0x80, 0x04, 0x05]) = true := by
  decide +kernel

def ended (op : Nat) (st : BitVec 16) : HostDesc := { hostDesc op [] with phase := .dispatched, outcomes := [st], workDone := true, released := true }
def committed0 (op : Nat) : HostDesc := { hostDesc op [] with phase := .committed, echoed := true, attempts := 1 }

theorem witness_DescriptorsCommitAndComplete :
    let u := withQueue { st := .ready, plan := some plan0, unloading := some 7 } (queue0 [{ hostDesc 4 [] with order := 8 }])
    let c (op : Nat) := ready0 (ended op 0)
    let k := ready0 (committed0 5)
    decide (u.wf = true ∧ (u.ctx 0).allDescs.all (fun d => d.2.undispatched && decide (7 < d.2.order)) = true ∧ (c 4).wf = true ∧
      (c 1).mem.relocating = none ∧ attemptEnded (c 4) 0 0 (ended 4 0) = true ∧ attemptEnded (c 1) 0 0 (ended 1 0) = true ∧
      lowestFailure (ended 1 0).outcomes = none ∧ commitHeld ((c 1).ctx 0) (ended 1 0) = false ∧
      (hashOutputs (c 1) (ended 1 0)).toOption = some (c 1, []) ∧ k.wf = true ∧ (committed0 5).isCommitted = true ∧
      (k.ctx 0).replaySet.contains (0, 0#64) = false ∧ dSigEn (committed0 5).bytes = false ∧ dIrq (committed0 5).bytes = false ∧
      (writeMem k k.mem none 0x4000 (hostRecord k 0 0 (committed0 5))).2 = none) = true := by decide +kernel

/-- A RUN whose first attempt met a retired core. -/
def toReplay : HostDesc := { hostDesc 1 [] with phase := .dispatched, attempts := 1, outcomes := [BitVec.ofNat 16 stRetired] }
def cascade0 (started : Bool) : Cascade := { queue := 0, seq := 9, upto := 5, vids := [3], started := started }

theorem witness_RecoverySnapshotsAndLosses :
    let r := withQueue { st := .ready, plan := some plan0 } (queue0 [toReplay])
    let c (b : Bool) := withQueue { st := .ready, cascades := [cascade0 b] } (queue0 [])
    let m : State := { base with mem := { base.mem with channels := 0xFE } }
    decide (r.wf = true ∧ replayHead r 0 = some (0, toReplay) ∧ toReplay.call = none ∧ (c true).wf = true ∧
      cascadeNext ((c true).ctx 0) (cascade0 true) = none ∧ markUnderWay (c true) 0 [3] = false ∧ (cascade0 false).started = false ∧
      Admitted base host 0x5000 3 = true ∧ base.rangeOk none 0 snapshotBytes = true ∧ base.regionId 0 = some 0 ∧
      m.mem.journal.contains 0 = true ∧ m.mem.channels.getLsbD 0 = false ∧ m.mem.journal.filter (· ≠ 0) = [4] ∧
      m.mem.channels.getLsbD 1 = true ∧ (0 < 1 ∧ 1 / 4 = 0 / 4)) = true := by decide +kernel

/-! ### Counters, barriers and training -/

/-- Context 0 names counter 0 as vid 1 and barrier 0 as vid 2; c is the counter and b the barrier. -/
def synced (c : Counter) (b : Barrier) (signals : List SignalMsg) : State :=
  { base with
    counters := [(0, { c with allocated := true })], signals := signals
    dict := { base.dict with host := { syncVid := 1 } }
    contexts := [(0, { st := .ready, barriers := [(0, { b with members := [0, 192] })]
                       trans := [(1, BitVec.ofNat 64 (mkTrans 0 0 0 0)), (2, BitVec.ofNat 64 (mkTrans 0 2 0 0))] })] }
def message : SignalMsg := { ctx := 0, vid := 1, amount := 3, member := 0, reserved := true, cancel := false, src := .command }

theorem witness_SignalsReachCounters :
    let s := synced { buffers := 4, produced := 1 } {} []
    let m := synced { monotonic := true, reserved := 3 } {} [message]
    decide (s.wf = true ∧ (s.ctr 0).frozen = false ∧ (s.ctr 0).produced.toNat + 3 = (s.ctr 0).buffers.toNat ∧
      (s.ctr 0).buffers.toNat < (s.ctr 0).produced.toNat + 4 ∧ m.signals = [message] ∧ message.target m = (0, 0) ∧
      (m.ctr 0).monotonic = true ∧ (synced { frozen := true } {} []).wf = true) = true := by decide +kernel

/-- A TSIG of core 0 that waits on vid v. -/
def waitingOn (v : Nat) : WinEntry := entry 128 [(8, 9), (10, v), (11, 0x80)]
def waits (c : Counter) (v : Nat) : State :=
  { synced c {} [] with cores := [(0, { owner := some 0, engine := ring (waitingOn v) })] }

theorem witness_WaitersAreGrantedInOrder :
    let a := waits { buffers := 4, produced := 1 } 1
    let b := waits { buffers := 4, produced := 1, waiters := [.core .engine 0 0] } 1
    decide (a.wf = true ∧ a.mayWait 0 (.core .engine 0 0) = true ∧ (a.ctr 0).cancelled = false ∧ (a.ctr 0).frozen = false ∧
      findEntry (a.unitOf .engine 0).window 0 = some (waitingOn 1) ∧ b.wf = true ∧ (b.ctr 0).eligible = true) = true := by decide +kernel

theorem witness_BarriersTakeEntries :
    let s (e0 e1 : List Nat) (p : Bool) := synced {} { e0 := e0, e1 := e1, poisoned := p } []
    decide ((s [] [] false).wf = true ∧ ((s [] [] false).barrier 0 0).comm = none ∧ 0 ∈ ((s [] [] false).barrier 0 0).members ∧
      192 ∉ ((s [192] [] false).barrier 0 0).e1 ∧ ((s [0] [0] false).barrier 0 0).poisoned = false ∧
      ((s [] [] true).barrier 0 0).poisoned = true) = true := by decide +kernel

theorem witness_CounterCommandsAct :
    let s (c : Counter) := synced c {} []
    decide ((s {}).wf = true ∧ Admitted (s {}) host 0x2C00 5 = true ∧ trValid ((s {}).transEntry 0 1) = true ∧
      trKind ((s {}).transEntry 0 1) = 0 ∧ (s {}).producerNames 0 0 = false ∧ (s {}).counterIdle 0 1 0 = true ∧
      0 ≤ ((s { monotonic := true, produced := 4, buffers := 4 }).ctr 0).diff ∧
      ((s { monotonic := true, produced := 4, buffers := 4 }).ctr 0).diff ≤ 4) = true := by decide +kernel

theorem witness_CountersCountCredits :
    let s (c : Counter) := synced c {} []
    decide ((s { buffers := 4, produced := 4 }).wf = true ∧ Admitted (s { buffers := 4, produced := 4 }) host 0x2C00 5 = true ∧
      ((s { buffers := 4, produced := 4, waiters := [.command] }).ctr 0).produced ≠ 0 ∧
      trTarget ((s {}).transEntry ((s {}).selects host).syncCtx.toNat ((s {}).selects host).syncVid.toNat) = 0 ∧
      0 < (((s { monotonic := true, produced := 1 }).ctr 0).produced - ((s { monotonic := true, produced := 1 }).ctr 0).consumed).toInt) = true := by
  decide +kernel

theorem witness_BarrierWaitsHoldMembersInside :
    let s (e0 : List Nat) : State := { synced {} { e0 := e0 } [] with cores := [(0, { owner := some 0, engine := ring (waitingOn 2) })] }
    decide (dWaitEn (waitingOn 2).desc = true ∧ trKind ((s []).transEntry ((s []).ownerOf 0) 2) = 2 ∧ waitOf (s [0]) 0 .engine (waitingOn 2) = .held ∧
      memberIndex (.core .engine 0 0) = 0 ∧ (s [0]).wf = true ∧ ((s [0]).unitOf .engine 0).window = [waitingOn 2] ∧
      trTarget ((s []).transEntry 0 2) = 0 ∧ (s [0]).signals = [] ∧ ∀ i ∈ ((s [0]).barrier 0 0).members, i = 192 ∨ i ∈ ((s [0]).barrier 0 0).e0) = true := by
  decide +kernel

/-- A phase map of three operations and three stages, one to a phase, and a RUN of phase 1 accepted in phase 0. -/
def planPhases : Plan :=
  let e (kind n : Nat) : PhaseEntry :=
    { phase := n, kind := kind, opId := BitVec.ofNat 16 n, stage := n, modId := 5, queue := 0, group := 0, header := 0, tensor := 0, first := 0, count := 0 }
  { plan0 with phases := [e 1 0, e 1 1, e 1 2, e 2 0, e 2 1, e 2 2] }
def toFlip : State := withQueue { st := .ready, plan := some planPhases } (queue0 [hostDesc 1 [(16, 1)]])

theorem witness_PhasesFlipAndTilesAreWatched :
    let w : State := { toRun with cores := [(0, { owner := some 0, job := some (0, 0), watch := some (0, raw 128 []) })] }
    decide (toFlip.wf = true ∧ nextPhase planPhases 0 = some 1 ∧ flipReady (toFlip.ctx 0) planPhases 1 = true ∧
      movedTensors planPhases 0 1 = [] ∧ w.wf = true ∧ (w.ctx 0).plan = some planRun ∧
      w.desc? 0 0 0 = some runDesc ∧ (watchPairs w planRun product runDesc (raw 128 [])).toOption = some [] ∧ Admitted base mgmt 0x2810 7 = true ∧
      ratioAtLeast 1 0 1 0 (-28) = true ∧ ratioAtLeast 1 (-40) 1 0 (-28) = false) = true := by decide +kernel

/-! ### Collectives and the Transit lane -/

/-- A collective of 9 elements, without a unit of this module, on communicator 1 of the members ms. -/
def planColl (kind count : Nat) (ms : List Nat) : Plan :=
  { plan0 with
    tensors := [tensor 1, tensor 2, tensor 3, tensor 4]
    ops := [{ product with kind := BitVec.ofNat 8 kind, inputs := [1, 2, 3], outputs := [4], count := count }]
    comms := [{ commId := 1, flip := false, members := ms, next := 0 }]
    calls := [{ opId := 0, vid := 0, commId := 1, unitFirst := 0, unitHeld := 0, staging := 0 }] }
def callRun : HostDesc := { hostDesc 1 [] with phase := .dispatched, call := some (1, 1) }
/-- Instance (1, 1) of a call that this module has dispatched. -/
def calling (kind count : Nat) (ms : List Nat) (i : Instance) : State :=
  let s := withQueue { st := .ready, plan := some (planColl kind count ms) } (queue0 [callRun])
  { s with coll := { s.coll with instances := [(0, { i with commId := 1, seq := 1, desc := some (0, 0) })] } }

def updState (kind : Nat) : State := calling kind 1 [5] { st := 4 }

theorem witness_UpdatesWriteTheShard :
    ([0x30, 0x32].all (fun k => match updCall (updState k) 0 0 k (k + 1) with
      | none => false
      | some (i, c) => i.desc.isSome && decide (updShard (updState k) c = [0] ∧ (updRun (updState k) .clean c [(0, .fin 0 0)]).status = 0)) &&
      !(exactFinite .nan)) = true := by decide +kernel

theorem witness_TransitFramesMoveInstances :
    let up (s : State) (f : Frame) := FrameArrives s f 0 { commId := 1, flip := false, members := [5, 6], next := 0 }
    let s := calling 0x11 9 [5, 6] { st := 1 }
    let t := { s with fabric := { s.fabric with moduleId := some 6 } }
    let f := frame 3 [] 6 5
    decide (s.wf = true ∧ up s (frame 3 []) = true ∧ up t f = true ∧ (s.inst? 1 1).isSome = true ∧
      (fromChild s { commId := 1, flip := false, members := [5, 6], next := 0 } 0 (frame 3 []) ||
        fromParent s { commId := 1, flip := false, members := [5, 6], next := 0 } 0 (frame 3 [])) = true ∧
      s.desc? 0 0 0 = some callRun ∧ (s.ctx 0).permute = none) = true := by decide +kernel

/-- Module 1 of nine, a child of module 0 in tree 0, with a call on the Transit lane. -/
def midTree : State :=
  let s := calling 0x11 1 (List.range 9) { st := 2 }
  { s with fabric := { s.fabric with moduleId := some 1 } }
def rerunFrame : Frame := frame 0 (raw 8 [(0, 2)]) 1 0

theorem witness_Rerun :
    let c : Comm := { commId := 1, flip := false, members := List.range 9, next := 0 }
    decide (FrameArrives midTree rerunFrame 0 c = true ∧ fromParent midTree c 0 rerunFrame = true ∧
      (midTree.inst? 1 1).any (fun i => decide (byteAt rerunFrame.payload 0 = i.attempt + 1 ∧ i.st < 6) &&
        (openTrees midTree i).all (fun tree => !(treeChildren tree c.members midTree.me).isEmpty))) = true := by decide +kernel

theorem witness_ChunksAndCollectiveTimers :
    let s := calling 0x11 9 [5] { st := 3 }
    let i : Instance := { st := 3, commId := 1, seq := 1, desc := some (0, 0) }
    let slotless : State := { s with coll := { s.coll with slotless := [(1, 2)] } }
    decide (s.wf = true ∧ s.inst? 1 1 = some i ∧ (callOf s i).any (fun c =>
        decide (0 < c.chunks) && !(c.transit) && (treeChildren 0 c.comm.members s.me).isEmpty &&
        decide ((packageTerms s i c (c.coding s) 0 9).toOption = some []) &&
        decide ((childChunks s c (c.coding s) 0 9 []).toOption = some [])) = true ∧
      slotless.commOf 1 = some (0, { commId := 1, flip := false, members := [5], next := 0 })) = true := by decide +kernel
/-! ### Fabric -/

def withPort (p : Nat) (k : Port) : State := { base with fabric := { base.fabric with ports := smSet {} base.fabric.ports p k } }

theorem witness_FabricPortsChangeState :
    let bare (k : Port) : State := { base with fabric := { ports := [(3, k)] } }
    decide ((withPort 3 {}).wf = true ∧ (withPort 3 {}).portsTrain = true ∧ ((withPort 3 {}).port 3).st = 0 ∧
      ((withPort 3 { st := 1 }).port 3).st = 1 ∧ (withPort 3 {}).fabric.moduleId = some 5 ∧ (bare { st := 1 }).fabric.moduleId = none ∧
      mostReported (bare { st := 1, reported := some 9, plane := some 0 }).fabric = some 9 ∧
      (base.port 0).st = 2 ∧ (base.port 0).downHour = base.rel.hours ∧ (base.port 0).downsInHour = 0 ∧
      (withPort 3 { st := 2, downsInHour := 7 }).rel.hours = 0 ∧ Admitted base mgmt 0x3001 4 = true ∧ (base.selects mgmt).port = 0 ∧
      Admitted (withPort 0 { st := 5 }) mgmt 0x3001 4 = true ∧ 3 < (base.port 0).txCount) = true := by decide +kernel

/-- A plan of context 0 holds 4 KiB of HBM and a communicator with module 7, whose packets have a tracker. -/
def planPeer : Plan :=
  { plan0 with resources := [{ kind := 9, scope := 0, amount := 4096, base := 0 }], comms := [{ commId := 1, flip := false, members := [5, 7], next := 0 }] }
def peered : State :=
  { base with
    contexts := [(0, { st := .ready, peerOpen := true, queueCount := 1, plan := some planPeer
                       queues := [(0, { configured := true, fabric := true, ringLog2 := 6 })]
                       trans := [(1, BitVec.ofNat 64 (mkTrans 0 0 0 0))] })]
    counters := [(0, { allocated := true, buffers := 4 })]
    fabric := { base.fabric with trackers := [(7, { live := true })] } }

theorem witness_FabricRequestsAreServed :
    let ok (typ : Nat) (bs : Bytes) := Arrives peered (packet typ bs) typ && FreshRequest peered (packet typ bs)
    (ok 1 (raw 8 [(0, 8)]) && ok 3 (raw 16 []) && ok 4 (raw 16 [(0, 3)]) && ok 5 (raw 24 []) && ok 6 (raw 16 [(1, 4), (8, 1)]) &&
      ok 9 (raw 24 [(8, 1)]) && ok 0x0A (raw 8 []) && ok 0x0E [] &&
      (let p := packet 8 (raw 8 []) true
       Arrives peered p 8 && FreshRequest peered p)) = true ∧
    decide (reachable (peered.arrived (packet 3 [])) 0 16 = none ∧ (readMem peered peered.mem 8 0).toOption = some (raw 8 []) ∧
      (writeMem peered peered.mem none 0 (raw 16 [])).2 = none ∧ atomicMemory peered 0 = true ∧ intOp 0 32 0 1 = some 1 ∧
      (peered.queue 0 0).configured = true ∧ (peered.queue 0 0).fabric = true ∧ (peered.ctx 0).peerOpen = true ∧ namesPeer (peered.ctx 0) 7 = true ∧
      (peered.tracker 7).live = true) = true := by decide +kernel

/-- A trailer of module 7 that cum has passed. -/
def trailing (cancel : Bool) : State :=
  { peered with fabric := { peered.fabric with trackers := [(7, { live := true, cum := 1, trailers :=
      [{ tag := 0, count := 0, ctx := 0, cancel := cancel, amount := 2, vid := 1 }] })] } }

theorem witness_TrailersApply :
    decide ((trailing false).wf = true ∧ ((trailing false).tracker 7).trailers.find? (fun h => decide ((h.tag - 1#32).toNat ≥ 2 ^ 31)) =
        some { tag := 0, count := 0, ctx := 0, cancel := false, amount := 2, vid := 1 } ∧
      trValid ((trailing false).transEntry 0 1) = true ∧ trKind ((trailing false).transEntry 0 1) = 0 ∧
      ((trailing false).ctr 0).frozen = false ∧ ((trailing true).tracker 7).live = true) = true := by decide +kernel

/-- R271: a SKEIN_ADD of 24 bytes has elements of one form, and a finite zero is added. -/
theorem witness_SkeinAddIsServed : (serveSkein (peered.arrived (packet 5 (raw 24 []))) (packet 5 (raw 24 []))).2 = (none, true) := by
  have h : skeinForms (pktBody (packet 5 (raw 24 []))).length = [1] := by decide +kernel
  unfold serveSkein
  simp only [h, List.length_singleton, Nat.mod_one]
  decide +kernel

theorem witness_RepeatedPacketsAreNotAppliedAgain :
    let s := { peered with fabric := { peered.fabric with trackers := [(7, { live := true, cum := 1 })] } }
    ((s.tracker 7).live && (s.tracker 7).seen 0) = true := by decide +kernel

/-- Packets of type typ and tag 0 to module 7 that wait for their answer. -/
def sending (typ : Nat) (o : Actor) : State :=
  { withUnit .dma (dmaEntry 0x80) with
    fabric := { base.fabric with
      trackers := [(7, { live := true, fresh := 1 })]
      retryAfter := [(7, 0)]
      streams := [(7, { begun := true, next := 1, unacked :=
        [{ tag := 0, typ := BitVec.ofNat 6 typ, address := 0, payload := raw 8 [(0, 8)], tail := false, plane := 0, owner := o, dest := 0x80, resent := false }] })] } }

theorem witness_StreamsAreAcknowledgedAndResent :
    let s (typ : Nat) := sending typ (.core .dma 0 0)
    let ok (typ ty : Nat) (bs : Bytes) := Arrives (s typ) (packet ty bs) ty && StreamIdle (s typ) 7
    (ok 1 2 (raw 8 []) && ok 6 7 (raw 8 []) && ok 0x0A 0x0B (raw 8 []) && ok 3 0x0C (raw 16 []) && ok 3 0x0D (raw 8 [(0, 2)]) &&
      ok 3 0x0F (raw 16 []) && (s 1).wf && ((s 3).outPacket 7 0).isSome && ((s 1).outPacket 7 0).any (fun o => decide (o.typ = 1 ∧ o.dest < 2 ^ 48)) &&
      decide ((writeMem (s 1) (s 1).mem (some 0) 0x80 (raw 8 [])).2 = none ∧ (findEntry ((s 3).unitOf .dma 0).window 0).map (·.status) = some 0 ∧
        nextPlane (s 3).fabric ([0] ++ ((s 3).stream 7).unreachable) 8 ((s 3).stream 7).rotor = some 1 ∧
        nextPlane (s 3).fabric ((s 3).stream 7).unreachable 8 ((s 3).stream 7).rotor = some 0 ∧
        (s 3).fabric.moduleId ≠ some 7 ∧ (s 3).fabric.retryAfter.contains (7, 0) = true ∧ ((s 3).tracker 7).fresh ≠ 0)) = true := by decide +kernel
/-! ### Drinex -/

def linked (d : Drinex) : State := { base with drinex := d }
def hdr (cls tag length : Nat) : TxnHdr := { cls := BitVec.ofNat 2 cls, tag := BitVec.ofNat 8 tag, length := BitVec.ofNat 13 length, reserved := false }
def flit (kind seq : Nat) : Flit :=
  { crcOk := true, kind := BitVec.ofNat 4 kind, seq := BitVec.ofNat 12 seq, ackSeq := 1, ackValid := true, creditP := 1, creditN := 0
    creditC := 2, creditE := 3, slots := 0, reserved := false, symbols := 0, badCodewords := 0 }

theorem witness_DrinexLinkAndFlits :
    let up := linked { st := 2, laneMap := 0xFF, replay := [1, 2], rxNext := 7, ackDue := true }
    decide ((linked {}).drinexTrains = true ∧ (linked {}).drinex.st = 0 ∧ chooseLanes 0x0F = 0x0F ∧ chooseLanes 0x11 = 0 ∧
      ({ st := 1, resume := true, replay := [1, 2] } : Drinex).holds 0 = true ∧ up.linkUp = true ∧ up.drinex.replay ≠ [] ∧
      Admitted up mgmt 0x3300 4 = true ∧ Admitted (linked { st := 4 }) mgmt 0x3300 4 = true ∧ flitGood (flit 0 7) = true ∧ flitGood (flit 2 0) = true ∧
      up.drinex.waiting = [] ∧ up.drinex.retryTime = none) = true := by decide +kernel

/-- Slots owed at the bound of one header and within it (R323, R328). -/
theorem witness_returnCredits :
    decide (({ owedP := 255 } : Drinex).owes = true ∧ ({ owedN := 2, owedE := 1 } : Drinex).owes = true) = true := by decide +kernel

/-- R324, R328: a write of 33 bytes takes a header slot and three data slots, which the next completion's flit returns. -/
theorem test_mwr_slots_come_back :
    let s := (linked { st := 2, creditC := 9 })
    (match exec (.mwr (hdr 0 0 33) 0 (List.replicate 33 0) .clean) s with
     | .next t => match exec (.mrd (hdr 1 9 0) 0 .clean) t with
       | .next u => t.drinex.owedP == 4 && !u.drinex.owes && u.out.contains (.drinexCredits 4 1 0)
       | _ => false
     | _ => false) = true := by decide +kernel

def served0 : State := withQueue { st := .opened } { queue0 [] with accept := 3, complete := 2 }

theorem witness_HostTransactionsAreServed :
    let s := tookTxn served0 0 16
    decide (s.linkUp = true ∧ s.device = .service ∧ hdrOk (hdr 0 0 3) 0 0 4096 false = true ∧ s.rangeOk none 0 3 = true ∧
      (hostWrite s (3 / 64 + 2) s.mem 0 [1, 2, 3]).2 = none ∧ s.rangeOk none (2 ^ 48 - 4) 3 = false ∧ hdrOk (hdr 1 9 3) 1 0 4096 true = true ∧
      (readMem s s.mem 3 0).toOption = some (raw 3 []) ∧ hdrOk (hdr 0 0 16) 0 16 16 false = true ∧ (s.ctx 0).st ≠ .free ∧
      0 < (s.ctx 0).queueCount ∧ (s.queue 0 0).configured = true ∧ (s.queue 0 0).fabric = false ∧ hdrOk (hdr 1 9 0) 1 0 0 true = true ∧
      s.dict.tapRequest = none ∧ (checkAccess s .host false 0x2001 0).isOk = true ∧ (objectRow moduleObjects 0x2001 0).map (fun r => (readObject s (s.selects host) r 0x2001 0).2) = some (0, [1]) ∧
      hdrOk (hdr 1 9 8) 1 1 256 true = true ∧ (checkAccess s .host true 0x2A00 1).isOk = true ∧ hdrOk (hdr 3 0 0) 3 0 0 false = true ∧
      s.power.sweeping = false) = true := by decide +kernel

theorem witness_HostReadsBackWhatItWrote :
    decide (base.wf = true ∧ base.linkUp = true ∧ base.device = .service ∧ hdrOk (hdr 0 0 3) 0 0 4096 false = true ∧
      hdrOk (hdr 1 9 3) 1 0 4096 true = true ∧ base.rangeOk none 61 3 = true ∧ base.translate 61 = some (stackBase 0 + 61) ∧
      base.dark (stackBase 0 + 61) = false ∧ base.mem.poisoned (stackBase 0 + 61) = false) = true := by decide +kernel
/-! ### The dictionary and the management bus -/

theorem witness_AccessChecksAreOrdered :
    let row (idx sub : Nat) := objectRow moduleObjects idx sub
    decide (rowsOf moduleObjects 0x0FFF = [] ∧ rowsOf moduleObjects 0x2001 ≠ [] ∧ row 0x2001 9 = none ∧
      (row 0x3300 3).map (fun r => (r.expert, r.right .host)) = some (true, 1) ∧ (row 0x3300 4).map (fun r => r.right .mgmt) = some 2 ∧
      (row 0x2E00 2).map (fun r => (r.expert, r.right .mgmt, bootWritable r 0x2E00 2)) = some (false, 3, false) ∧
      (row 0x2001 0).map (fun r => bootWritable r 0x2001 0) = some true ∧ base.sec.lifecycle = 1 ∧
      (dictRead base mgmt 0x2001 0).2 = (0, [1])) = true := by decide +kernel

theorem witness_AccessLevelAndObjectWrites :
    let e := { base with dict := { base.dict with accessLevel := 0 } }
    decide (Admitted e mgmt 0x2001 0 = true ∧ Admitted base mgmt 0x2001 0 = true ∧ e.dict.accessLevel = 0 ∧ Admitted base mgmt 0x1003 0 = true ∧
      Admitted base mgmt 0x1017 0 = true ∧ (objectRow moduleObjects 0x1017 0).map (·.size) = some 2 ∧
      (objectRow moduleObjects 0x1017 0).map (fun r => (writeObject base mgmt r 0x1017 0 [100, 0] []).2) = some 0 ∧ base.present 0 = true) = true := by
  decide +kernel

/-- A download on the CAN bus has received one of two bytes of HeartbeatTime. -/
def downloading : State := { base with dict := { base.dict with sessions := [{ owner := 0, download := true, index := 0x1017, sub := 0, data := [100] }] } }
/-- An upload on the CAN bus has bytes left. -/
def uploading : State := { base with dict := { base.dict with sessions := [{ owner := 0, download := false, index := 0x1018, sub := 1, data := [1] }] } }

theorem witness_UsdoSessionsAndTestPort :
    decide (base.reached .mgmt = true ∧ base.dict.tapRequest = none ∧ base.session (usdoOwner .can) = none ∧
      (checkAccess base .mgmt false 0x2001 0).toOption.map (·.size) = some 1 ∧
      (objectRow moduleObjects 0x2001 0).map (fun r => (readObject base (base.selects mgmt) r 0x2001 0).2) = some (0, [1]) ∧
      (checkAccess base .mgmt true 0x1017 0).toOption.map (·.size) = some 2 ∧ sessionsFull base .can = false ∧
      (downloading.session 0).map (·.download) = some true ∧ (objectRow moduleObjects 0x1017 0).map (·.size) = some ([100, 0] : List (BitVec 8)).length ∧
      (objectRow moduleObjects 0x1017 0).map (fun r => (writeObject (dropSession downloading 0) mgmt r 0x1017 0 [100, 0] []).2) = some 0 ∧
      (uploading.session 0).map (·.download) = some false ∧ base.power.regulators = true) = true := by decide +kernel

/-- A response has room for one byte at least, so the value of AccessLevel is uploaded in one. -/
theorem witness_UsdoUploadInOne : 1 ≤ usdoRoom := Nat.le_add_left 1 Config.usdoChunk

def configuring (node : BitVec 8) : State := { base with dict := { base.dict with lssConfig := true, nodeId := node, pendingNodeId := 9 } }
def unnamed : State := { base with dict := { base.dict with nodeId := 0xFF }, meter := { base.meter with die := { base.meter.die with nodeId := 2 } } }

theorem witness_LssConfiguresTheNodes :
    decide (base.power.regulators = true ∧ (configuring 0xFF).dict.lssConfig = true ∧ (configuring 1).meter.lssConfig = false ∧
      (configuring 0xFF).dict.nodeId = 0xFF ∧ unnamed.dict.nodeId = 0xFF ∧ unnamed.dict.lssConfig = false ∧ unnamed.meter.die.nodeId ≠ 0xFF) = true := by
  decide +kernel

theorem witness_NmtCommandsAct :
    let s (d : DeviceState) : State := { base with device := d }
    decide ((s .bootLimited).reached .mgmt = true ∧ (s .service).reached .mgmt = true ∧ (s .quiesced).reached .mgmt = true ∧ base.dict.nodeId = 1 ∧
      base.meter.die.nodeId = 0xFF ∧ base.starting = false ∧ base.power.draining = none ∧ base.meter.heartbeatMs = 0x03E8 ∧
      ({ base with meter := { base.meter with heartbeatMs := 0 } } : State).dict.heartbeatMs ≠ 0) = true := by decide +kernel

def waitingEmcy : State := { base with dict := { base.dict with emcyQueue := [{ code := 0xFF03, reg := 1, unit := 0, time := 0 }] } }

theorem witness_EmergenciesAndTpdos :
    let t := { base with dict := { base.dict with sampleTick := 1 } }
    decide (waitingEmcy.emcyOn = true ∧ base.dict.emcyQueue = [] ∧ tpdoRuns base 0 = true ∧ (List.range 8).all (fun k => decide (k = 0) || !(tpdoRuns base k)) = true ∧
      tpdoValues t 0 ≠ (smGet {} base.dict.tpdos 0 : Tpdo).last ∧ (smGet ({} : Tpdo) base.dict.tpdos 0).clear 1 = true ∧
      (smGet ({} : Tpdo) base.dict.tpdos 0).event ≠ 0 ∧ (smGet ({} : Tpdo) base.dict.tpdos 0).clear 0 = true ∧
      ({ base with meter := { base.meter with tpdo := { event := 0 } } } : State).meter.tpdo.event = 0 ∧ base.dict.nodeId ≠ 0xFF ∧
      ({ base with dict := { base.dict with busState := 2 } } : State).dict.busState = 2) = true := by decide +kernel
/-! ### Interrupts -/

def irqState (src : IrqSource) (d : IrqDest) : State := { base with sources := smSet {} [] 0x380 src, dests := smSet {} [] 0 d }

theorem witness_InterruptControllerCommandsAct :
    let s := irqState { pending := true, enabled := true } { count := 3, started := some 0, limitCount := 8, limitUs := 100 }
    decide (s.wf = true ∧ Admitted s mgmt 0x2E01 2 = true ∧ Admitted s mgmt 0x2E01 3 = true ∧ Admitted s mgmt 0x2E00 2 = true ∧
      Admitted s mgmt 0x2E02 2 = true ∧ Admitted s mgmt 0x2E02 3 = true ∧ (s.selects mgmt).irqSource = 0 ∧ (s.selects mgmt).irqDest = 0 ∧
      (List.range 1024).all (fun n => !(bitAt (byteAt (raw 128 [(112, 1)]) (n / 8)) (n % 8)) || !(s.sourceDead n)) = true ∧ base.sourceDead 1000 = true ∧
      destCodeOk 0x0000 = true ∧ destCodeOk 0x2FFF = false ∧ (smGet ({} : IrqDest) s.dests 0).count = 3 ∧ (smGet ({} : IrqDest) s.dests 0).started ≠ none ∧
      s.present 0 = true) = true := by decide +kernel

/-! ### Reliability -/

/-- The tensor engine of core 0 of compute die 0, in class 5. -/
def engineKey : EphKey := { unit := BitVec.ofNat 64 (unitCode 2 1 0 0 0 0 0), cls := 5, key := 0, granule := none }
/-- The key has a verdict. -/
def suspect (v : Nat) : State := { base with rel := { base.rel with histories := [{ key := engineKey, events := [0, 0, 0], verdict := v }] } }

theorem witness_FaultsAreRecordedAndCounted :
    let n (c : Nat) : FaultNote := { unit := unitCode 2 1 0 0 0 0 0, src := 1, sev := 3, cls := c }
    decide ((n 5).cls ≠ 1 ∧ countedClass 7 = false ∧ countedClass 5 = true ∧ base.rel.records.length ≤ 1024 ∧
      (suspect 2).rel.permanentUnit (n 5).ephKey.unit = false ∧ (suspect 3).rel.permanentUnit (n 5).ephKey.unit = true) = true := by decide +kernel

theorem witness_RetestsDecideVerdicts :
    let busy := { suspect 2 with cores := [(0, { engine := ring (engineEntry 9) })] }
    let blocks : State := { base with rel := { base.rel with flashErased := 15, flashBlocks := [[raw 64 []], [raw 64 [(0, 1)]]] } }
    decide (((suspect 2).rel.history engineKey).verdict = 2 ∧ keyIdle (suspect 2) engineKey = true ∧ keyIdle busy engineKey = false ∧
      16 ≤ base.rel.flashErased ∧ blocks.rel.flashErased < 16) = true := by decide +kernel

/-- A held bundle of 4 tests, and the Almanac runs on idle cores. -/
def almanac : State := { base with rel := { base.rel with bundle := some (raw 64 [(28, 4)]), idleRunning := true } }

theorem witness_AlmanacCommandsAct :
    decide (Admitted base mgmt 0x3820 1 = true ∧ bundleAt base 0 = some [] ∧ bundleOk base.sec [] = false ∧ unitCodeOk engineKey.unit.toNat = true ∧
      almanac.rel.bundle ≠ none ∧ almanac.present 0 = true ∧ coreIdle (almanac.core 0) = true ∧ 3 < leAt (raw 64 [(28, 4)]) 28 4 ∧
      base.rel.idleRunning = false ∧ base.rel.bundle = none ∧ testedUnit almanac engineKey.unit.toNat engineKey = true ∧
      testedUnit almanac (unitCode 2 1 1 0 0 0 0) engineKey = false ∧ unitCodeOk (unitCode 2 1 1 0 0 0 0) = true) = true := by decide +kernel

/-- Compute die 0 is in a dip, or its dip has ended and its window is open. -/
def dipping (low : Bool) : State := { base with power := { base.power with dips := [(0, { low := low, window := true })] } }

theorem witness_DipsAndControlCoreFaults :
    let d : Dip := base.dip 0
    decide (base.wf = true ∧ d.low = false ∧ (if d.second = clkcSecond base.clkc then d.inSecond + 1 else 1) ≤ 16 ∧ (dipping true).wf = true ∧
      ((dipping true).dip 0).low = true ∧ ((dipping false).dip 0).window = true ∧ ((dipping false).dip 0).low = false ∧
      base.present 0 = true ∧ ({ base with slotMap := [] } : State).present 0 = false ∧
      (withUnit .engine (engineEntry 9)).present 0 = true ∧ (engineEntry 9).phase ≠ .retired) = true := by decide +kernel
/-! ### Security -/

def secured (f : Security → Security) : State := { base with sec := f base.sec }

theorem witness_LifecycleCommandsAct :
    let inState (l : BitVec 8) : State := secured (fun c => { c with lifecycle := l })
    decide ([1#8, 2#8, 3#8].all (fun l => Admitted (inState l) mgmt 0x3C10 1) = true ∧ base.sec.busy = none ∧ base.sec.nonce = none ∧
      tokenOk base = false ∧ 3 ≤ base.sec.fusesLeft.toNat ∧ (secured (fun c => { c with busy := some 3 })).sec.busy = some 3 ∧
      (checkAccess base .mgmt false 0x3C10 3).isOk = true ∧ base.reached .host = true ∧ base.dict.tapRequest = none ∧
      base.power.regulators = true ∧ base.starting = false) = true := by decide +kernel

theorem witness_KeysAndFirmwareUpdates :
    let receiving := secured (fun c => { c with fwState := 2, fwOwner := .mgmt, fwImage := 1, fwTotal := 256, fwReceived := 1 })
    let begun := secured (fun c => { c with fwState := 1, fwOwner := .mgmt, fwImage := 1 })
    decide (Admitted base mgmt 0x3C02 2 = true ∧ (base.selects mgmt).stage = 0 ∧ Admitted base mgmt 0x3C20 1 = true ∧
      base.sec.digests4.length < 4 ∧ base.sec.lifecycle = 1 ∧ Admitted base mgmt 0x3C04 1 = true ∧ updateRights base.sec .mgmt = true ∧
      otherSession base.sec .mgmt = false ∧ (256 : Nat) ≤ bankSize 1 ∧ base.sec.fwState = 0 ∧ otherSession receiving.sec .mgmt = false ∧
      (List.range (ceilDiv receiving.sec.fwTotal.toNat 256)).all (fun k => bitAt receiving.sec.fwReceived k) = true ∧
      otherSession { begun.sec with fwOwner := .host } .mgmt = true ∧ begun.sec.fwState = 1 ∧ Admitted receiving mgmt 0x3C04 3 = true ∧
      receiving.sec.fwOffset.toNat < receiving.sec.fwTotal.toNat ∧ base.sec.overrideUsed = false ∧
      (List.range 2).all (fun t => !(bitAt 0 t) || (base.sec.image (t + 1)).present) = true) = true := by decide +kernel

/-- PROVISION of a Blank module in Boot/Limited, and DECOMMISSION with the module's own serial number. -/
theorem witness_BlankAndDecommission :
    Admitted { secured (fun c => { c with lifecycle := 0 }) with device := .bootLimited } mgmt 0x3C10 1 = true ∧
      (Config.serialNumber.setWidth 64).toNat = serialNumber := by
  refine ⟨by decide +kernel, ?_⟩
  simp only [BitVec.toNat_setWidth, serialNumber]
  omega

/-- R412: the banks that no bit of an empty mask names pass, and images without manifest entries go together. -/
theorem witness_FwActivate : compatible base (wouldBoot base 0) = true := by decide +kernel

theorem witness_OverrideAttestationAndTap :
    let seeded := secured (fun c => { c with seed := some (raw 32 []) })
    decide (Admitted base mgmt 0x3C08 1 = true ∧ base.sec.lifecycle = 1 ∧ Admitted seeded mgmt 0x3C30 1 = true ∧ seeded.sec.attestState = 0 ∧
      seeded.sec.identityKey.isSome = true ∧ base.sec.identityKey = none ∧ (secured (fun c => { c with attestState := 1 })).sec.attestState = 1 ∧
      seeded.sec.identity = some (raw 32 []) ∧ base.pinsFree = false ∧ ({ base with device := .bootLimited } : State).pinsFree = true ∧
      (secured (fun c => { c with lifecycle := 3 })).sec.lifecycle = 3) = true := by decide +kernel

/-! ### Metering -/

/-- The metering node has node ID 2. -/
def metered (f : Metering → Metering) : State :=
  let m := f base.meter
  { base with meter := { m with die := { m.die with nodeId := 2 } } }

theorem witness_MeterRegisterReadingsAndMirror :
    decide (base.meter.internal = false ∧ (metered (fun m => { m with internal := true })).meter.internal = true ∧
      base.meter.die.status.getLsbD 0 ≠ true ∧ (metered id).meter.die.nodeId ≠ 0xFF ∧ base.meter.readState ≠ 1 ∧
      (metered (fun m => { m with readState := 1, readSample := raw 192 [] })).meter.readSample.length = 192 ∧
      (metered (fun m => { m with die := { m.die with sealBreaks := 1 } })).meter.mirror.sealBreaks = 0) = true := by decide +kernel

theorem witness_MeterNodeFirmwareAndAttribution :
    let s := metered (fun m => { m with fwState := 1, fwSize := 256 })
    decide (s.meter.die.nodeId ≠ 0xFF ∧ base.meter.die.nodeId = 0xFF ∧ s.meter.fwState = 1 ∧ s.meter.staging.length < s.meter.fwSize.toNat ∧
      (metered id).meter.fwState = 0 ∧ meterImageReason s.meter s.meter.staging ≠ 0 ∧ base.wf = true ∧ Admitted base mgmt 0x2280 7 = true) = true := by
  decide +kernel

theorem witness_MeterNodeActsOnNmt :
    let s := metered id
    decide (s.meter.die.nodeId = 2 ∧ s.meter.nmt = 0x05 ∧ s.meter.tpdo.cobId = none ∧ meterTpdoData s ≠ s.meter.tpdo.last ∧
      s.meter.tpdo.clear s.dict.sampleTick = true) = true := by decide +kernel
/-! ### Power, resets and start-up -/

def powered (f : Power → Power) : State := { base with power := f base.power }
/-- 79 sensors at a value in tenths of a degree. -/
def sensors (v : Nat) : List (BitVec 16) := List.replicate 256 (BitVec.ofNat 16 v)

theorem witness_PowerAndTemperatureControl :
    let held := powered (fun p => { p with sinceSlower := 9, samples := List.replicate 9 3200000 })
    decide (base.controlled = true ∧ base.power.inputWarn = false ∧ held.power.limitW.toNat * 1000 < meanOf 10 (3200000 :: held.power.samples) ∧
      ({ base with device := .bootLimited, power := { base.power with bootStep := 2 } } : State).controlled = false ∧
      beyondLimit (sensors 500) = false ∧ beyondLimit (sensors 900) = true ∧ groupHot (sensors 810) 0 = true ∧ beyondLimit (sensors 810) = false ∧
      (powered (fun p => { p with overLimit := true })).power.overLimit = true ∧ (powered (fun p => { p with inputWarn := true })).power.inputWarn = true ∧
      base.power.regulators = true ∧ base.startingPower = false ∧ base.starting = false ∧ base.power.draining = none ∧ base.wf = true) = true := by
  decide +kernel

/-- The regulators are off, with power_enable asserted, and the input back. -/
def dark (lost : Bool) : State := powered (fun p => { p with regulators := false, inputLost := lost })
def drainingWarm : State := { withQueue { st := .ready } (queue0 [hostDesc 4 []]) with power := { base.power with draining := some .warmCommand } }

theorem witness_ResetsKeepAndClear :
    decide (Admitted base mgmt 0x2210 1 = true ∧ base.power.draining = none ∧ base.startingWarm = false ∧ base.starting = false ∧
      Admitted drainingWarm mgmt 0x2210 1 = true ∧ drainingWarm.contexts = [(0, { drainingWarm.ctx 0 with queues := [(0, { drainingWarm.queue 0 0 with descs := [hostDesc 4 []] })] })] ∧
      (hostDesc 4 []).decided = false ∧ (powered (fun p => { p with dieResetting0 := true })).dieResetting 0 = true ∧
      (dark false).power.powerEnable = true ∧ (dark false).power.thermalLatch = false ∧ (dark true).power.inputLost = true ∧
      base.startingPower = false ∧ (base.ctx 0).st ≠ .recovering ∧ base.wf = true) = true := by decide +kernel

/-- Start-up at a step. -/
def booting (n : Nat) (f : Power → Power) : State := { powered (fun p => f { p with bootStep := BitVec.ofNat 8 n }) with device := .bootLimited }
def bootReport : BootReport := { failedSlots := [], failedStacks := [], spd := List.replicate 8 none, millis := 5 }

theorem witness_StartUpRunsItsSteps :
    let s := booting 7 (fun p => { p with sweepDone := false })
    decide (base.starting = false ∧ (List.range 8).all (fun n => (booting n id).starting) = true ∧ (booting 1 id).power.refLost = false ∧
      (booting 1 id).power.pinHeld = false ∧ offending (List.replicate 8 none) = some 0 ∧ s.power.sweepDone = false ∧ s.power.sweeping = false ∧
      s.linkUp = true ∧ previousSlots s = [] ∧ (booting 7 id).power.sweepDone = true) = true := by decide +kernel

/-! ### Memory, and the whole block -/

def poisonedBase : State := base.poisonAt 64

theorem witness_PoisonedBlocksFailUntilRewritten :
    let p := stackBase 0 + 64
    decide (poisonedBase.translate 64 = some p ∧ poisonedBase.dark p = false ∧ poisonedBase.mem.poisoned p = true ∧
      poisonedBase.translate 63 = some (stackBase 0 + 63) ∧ poisonedBase.mem.poisoned (stackBase 0 + 63) = false) = true ∧
    64 % 64 + (raw 3 []).length ≤ 64 ∧ (raw 64 []).length = 64 := by decide +kernel

theorem witness_PendingBitsAreSetAndCleared :
    decide (base.wf = true ∧ base.sourceDead 0x380 = false ∧ ((smGet {} (raise base 0x380).sources 0x380) : IrqSource).pending = true) = true := by
  decide +kernel

theorem witness_StepsKeepTablesCanonical :
    let s : State := { base with pending := [Instr.accessLevelTimeout] }
    s.wf = true ∧ ∃ t, step s = .next t := ⟨by decide +kernel, _, rfl⟩

theorem witness_StepRunsTheFrontCommand : base.pending = [] ∧ base.dict.tapRequest = none := ⟨rfl, rfl⟩

end Sys2Proof.Tests
end

section
/-! PROOFS. TZRO (R67): what beginning the tile rows of a descriptor leaves in the skein and in the row tags. -/

namespace Sys2Proof.Machine

/-- A key that no entry of a table carries reads as the default. -/
theorem smGet_of_unlisted {α : Type} {d : α} {m : SMap α} {x : Nat} (h : ∀ e ∈ m, e.1 ≠ x) : smGet d m x = d := by
  induction m with
  | nil => rfl
  | cons e m ih =>
    rw [List.forall_mem_cons] at h
    rw [smGet, if_neg h.1, ih h.2, ite_self]

/-! ### Row tags (R59) -/

/-- A tag carries its valid bit, so it is not the 0 that an unwritten row reads. -/
theorem mkTag_ne_zero (lsb : Nat) {cls ply pos : Nat} (hc : cls < 4) (hp : ply < 8) (hj : pos < 8) :
    mkTag lsb cls ply pos ≠ 0#32 := by
  intro h
  have h' := congrArg BitVec.toNat h
  simp only [mkTag, BitVec.toNat_ofNat] at h'
  omega

theorem Core.tag_setTag {t : BitVec 32} (ht : t ≠ 0#32) (c : Core) (row k : Nat) :
    (c.setTag row t).tag k = if k = row then t else c.tag k := by
  split
  next h => subst h; exact smGet_smSet_ne ht ..
  next h => exact smGet_smSet_ne_other ht _ h

/-- Tags written to the rows from one on: the k-th holds the k-th tag, and every other row keeps its own. -/
theorem Core.tag_foldl_setTag (c : Core) (row n : Nat) (f : Nat → BitVec 32) (hf : ∀ j < n, f j ≠ 0#32) (k : Nat) :
    ((List.range n).foldl (fun c j => c.setTag (row + j) (f j)) c).tag k =
      if row ≤ k ∧ k < row + n then f (k - row) else c.tag k := by
  induction n with
  | zero => rw [if_neg (by omega)]; rfl
  | succ n ih =>
    rw [List.range_succ, List.foldl_append, List.foldl_cons, List.foldl_nil, tag_setTag (hf n n.lt_succ_self),
      ih fun j hj => hf j (by omega)]
    by_cases hk : k = row + n
    · rw [if_pos hk, if_pos (by omega), hk, Nat.add_sub_cancel_left]
    · rw [if_neg hk]
      exact if_congr (by omega) rfl rfl

/-- The tag that R59 gives to the row of ply j of a tile row. -/
def plyTag (d : Bytes) (j : Nat) : BitVec 32 := mkTag (ofSigned 16 (dLsb d)) (dClass d) (dPly d) j

theorem plyTag_ne_zero {d : Bytes} {j : Nat} (hj : j < dPly d) : plyTag d j ≠ 0#32 :=
  have hp : dPly d < 8 := Nat.mod_lt _ (by decide)
  mkTag_ne_zero _ (Nat.mod_lt _ (by decide)) hp (hj.trans hp)

theorem beginRow_tag (c : Core) (d : Bytes) (row k : Nat) :
    (beginRow c d row).tag k = if row ≤ k ∧ k < row + dPly d then plyTag d (k - row) else c.tag k :=
  Core.tag_foldl_setTag c row (dPly d) (plyTag d) (fun _ => plyTag_ne_zero) k

@[simp] theorem Core.setTag_skein (c : Core) (row : Nat) (t : BitVec 32) : (c.setTag row t).skein = c.skein := rfl

@[simp] theorem Core.setTag_unit (c : Core) (row : Nat) (t : BitVec 32) (u : UnitKind) : (c.setTag row t).unit u = c.unit u := by
  cases u <;> rfl

@[simp] theorem beginRow_skein (c : Core) (d : Bytes) (row : Nat) : (beginRow c d row).skein = c.skein := by
  unfold beginRow
  exact List.foldlRecOn (motive := fun x : Core => x.skein = c.skein) _ _ rfl fun _ h _ _ => (Core.setTag_skein ..).trans h

@[simp] theorem beginRow_unit (c : Core) (d : Bytes) (row : Nat) (u : UnitKind) : (beginRow c d row).unit u = c.unit u := by
  unfold beginRow
  exact List.foldlRecOn (motive := fun x : Core => x.unit u = c.unit u) _ _ rfl fun _ h _ _ => (Core.setTag_unit ..).trans h

/-! ### One tile row zeroed -/

/-- What TZRO does to its core at the tile row of a pair (iteration, tile row). -/
def zeroRow (d : Bytes) (c : Core) (bt : Nat × Nat) : Core :=
  let row := skeinRow d bt.1 bt.2
  beginRow (c.clearRows row (row + dPly d)) d row

@[simp] theorem zeroRow_unit (d : Bytes) (c : Core) (bt : Nat × Nat) (u : UnitKind) : (zeroRow d c bt).unit u = c.unit u := by
  rw [zeroRow, beginRow_unit]
  cases u <;> rfl

/-- An entry is left by zeroing a tile row when it was there and lies outside of the rows of that tile row. -/
theorem mem_zeroRow_skein {d : Bytes} {c : Core} {bt : Nat × Nat} {e : Nat × Entry} :
    e ∈ (zeroRow d c bt).skein ↔
      e ∈ c.skein ∧ (e.1 < skeinRow d bt.1 bt.2 * 512 ∨ (skeinRow d bt.1 bt.2 + dPly d) * 512 ≤ e.1) := by
  simp [zeroRow, Core.clearRows]

theorem zeroRow_tag (d : Bytes) (c : Core) (bt : Nat × Nat) (k : Nat) :
    (zeroRow d c bt).tag k = if skeinRow d bt.1 bt.2 ≤ k ∧ k < skeinRow d bt.1 bt.2 + dPly d
      then plyTag d (k - skeinRow d bt.1 bt.2) else c.tag k := beginRow_tag ..

/-- A skein row that two tile rows of one instruction share has the same ply in both: their first rows lie a whole number of
tile rows apart (R57, R99). -/
theorem skeinRow_add_inj {d : Bytes} {b t b' t' i j : Nat} (hi : i < dPly d) (hj : j < dPly d)
    (h : skeinRow d b t + i = skeinRow d b' t' + j) : i = j := by
  have hrow (b t k : Nat) : skeinRow d b t + k = dRow d + (dPly d * (b * dCStride d + t) + k) := by
    unfold skeinRow; ring
  rw [hrow, hrow] at h
  have hmod := congrArg (· % dPly d) (Nat.add_left_cancel h)
  simpa only [Nat.mul_add_mod, Nat.mod_eq_of_lt hi, Nat.mod_eq_of_lt hj] using hmod

/-- The rows of a tile row have no listed entry, each column being finite zero with clear state bits, and carry their tags. -/
def RowZeroed (d : Bytes) (c : Core) (bt : Nat × Nat) : Prop :=
  ∀ j < dPly d, (∀ col < 512, ∀ e ∈ c.skein, e.1 ≠ (skeinRow d bt.1 bt.2 + j) * 512 + col) ∧
    c.tag (skeinRow d bt.1 bt.2 + j) = plyTag d j

theorem rowZeroed_zeroRow (d : Bytes) (c : Core) (bt : Nat × Nat) : RowZeroed d (zeroRow d c bt) bt := by
  intro j hj
  refine ⟨fun col hcol e he => ?_, ?_⟩
  · obtain ⟨-, hout⟩ := mem_zeroRow_skein.1 he
    omega
  · rw [zeroRow_tag, if_pos (by omega), Nat.add_sub_cancel_left]

/-- Zeroing another tile row, even one that shares rows with it, keeps a tile row zeroed. -/
theorem RowZeroed.zeroRow {d : Bytes} {c : Core} {bt : Nat × Nat} (h : RowZeroed d c bt) (bt' : Nat × Nat) :
    RowZeroed d (zeroRow d c bt') bt := by
  intro j hj
  obtain ⟨hskein, htag⟩ := h j hj
  refine ⟨fun col hcol e he => hskein col hcol e (mem_zeroRow_skein.1 he).1, ?_⟩
  rw [zeroRow_tag]
  split
  next hin =>
    have heq := skeinRow_add_inj (i := skeinRow d bt.1 bt.2 + j - skeinRow d bt'.1 bt'.2) (b := bt'.1) (t := bt'.2)
      (b' := bt.1) (t' := bt.2) (by omega) hj (by omega)
    rw [heq]
  next => exact htag

/-! ### All tile rows -/

theorem foldl_zeroRow_unit (d : Bytes) (bts : List (Nat × Nat)) (c : Core) (u : UnitKind) :
    (bts.foldl (zeroRow d) c).unit u = c.unit u :=
  List.foldlRecOn (motive := fun x : Core => x.unit u = c.unit u) _ _ rfl fun x h bt _ => (zeroRow_unit d x bt u).trans h

/-- The later tile rows keep a zeroed one, and each is zeroed in its turn. -/
theorem rowZeroed_foldl_zeroRow {d : Bytes} {bts : List (Nat × Nat)} {bt : Nat × Nat} (hbt : bt ∈ bts) (c : Core) :
    RowZeroed d (bts.foldl (zeroRow d) c) bt := by
  induction bts generalizing c with
  | nil => cases hbt
  | cons bt' bts ih =>
    cases hbt with
    | head => exact List.foldlRecOn (motive := fun x => RowZeroed d x bt) bts _ (rowZeroed_zeroRow d c bt) fun _ h bt' _ => h.zeroRow bt'
    | tail _ hbt => exact ih hbt _

/-- Without a detection a row runs unmarked. -/
theorem Run.rowItem_clean (env : State) (width : Nat) {r : Run} (hr : r.halted = false) (f : Run → Option Nat → Run) :
    r.rowItem env .clean width f = f { r with pos := r.pos + 1 } none := by
  simp [Run.rowItem, hr]

/-- Without a detection TZRO zeroes its tile rows in order and does nothing else. -/
theorem tzroBody_clean (env : State) (e : WinEntry) {r : Run} (hr : r.halted = false) :
    tzroBody .clean env e r =
      { r with core := (iterRows e.desc (dMExt e.desc)).foldl (zeroRow e.desc) r.core
               pos := r.pos + (iterRows e.desc (dMExt e.desc)).length } := by
  unfold tzroBody
  dsimp only
  generalize iterRows e.desc (dMExt e.desc) = bts
  induction bts generalizing r with
  | nil => rfl
  | cons bt bts ih =>
    rw [List.foldl_cons, Run.rowItem_clean env 512 hr, List.length_cons, Nat.add_comm bts.length, ← Nat.add_assoc]
    exact ih (r := { r with core := zeroRow e.desc r.core bt, pos := r.pos + 1 }) hr

/-- A TZRO that is dispatched, names rows and is not held issues with the outcome of its run. -/
theorem exec_tzro_dispatched {s : State} {g : CoreId} {seq : BitVec 64} {det : Detect} {e : WinEntry} (hdet : inRun det = true)
    (h : Dispatched s .engine 1 g seq e = true) (hempty : engineEmpty e.desc = false) (hheld : engineHeld s g e.desc = false) :
    exec (.tzro g seq det) s = .next (finish s .engine g e (tzroBody det s e (startRun s g e)) .executed true) := by
  have hissue := unitOp_issues hdet h (engineCheck g) (askHeader .engine g (fun d => oHdr d))
    (fun s e => { opcode := 1, empty := engineEmpty e.desc && decide (1 ≠ 9), held := engineHeld s g e.desc })
    (tzroBody det) (fun _ => .executed) hheld (by simp [hempty])
  exact congrArg Host.Outcome.next hissue

/-- Settles O3: a clean run zeroes the tile rows one after another, and none undoes what an earlier one wrote. -/
theorem tzroZeroesItsRows : Obligations.TzroZeroesItsRows := by
  unfold Obligations.TzroZeroesItsRows
  intro s g seq e hdisp hempty hheld
  refine ⟨_, exec_tzro_dispatched rfl hdisp hempty hheld, ?_⟩
  obtain ⟨-, hfind, -⟩ := dispatched_iff hdisp
  have hrun := tzroBody_clean s e (r := startRun s g e) rfl
  have hissued := finish_issued (u := .engine) (ph := .executed) (worked := true) hfind
    (r := tzroBody .clean s e (startRun s g e)) (by rw [hrun]; exact congrArg UnitRing.window (foldl_zeroRow_unit ..))
    (by rw [hrun]; exact ⟨rfl, rfl⟩)
  rw [hrun] at hissued ⊢
  obtain ⟨hmem, -, -, hskein, htags, -, -, -⟩ := hissued
  refine ⟨fun bt hbt j hj col hcol => ?_, fun bt hbt j hj => ?_, hmem⟩
  · obtain ⟨hunlisted, -⟩ := rowZeroed_foldl_zeroRow hbt (startRun s g e).core j hj
    rw [hskein]
    exact smGet_of_unlisted (hunlisted col hcol)
  · obtain ⟨-, htag⟩ := rowZeroed_foldl_zeroRow hbt (startRun s g e).core j hj
    rw [Core.tag, htags]
    exact htag

end Sys2Proof.Machine
end

section
/-! PROOFS. Sync counters (R186, R188): what a wait, a grant, a signal and a DEBIT leave of a counter. -/

namespace Sys2Proof.Machine

/-! ### Tables of a well-formed state -/

theorem State.wf_tables {s : State} (h : s.wf = true) :
    smWf {} s.cores = true ∧ smWf {} s.counters = true ∧ smWf {} s.contexts = true := by
  simp only [State.wf, Bool.and_eq_true] at h
  obtain ⟨⟨⟨⟨⟨⟨⟨⟨⟨⟨⟨-, hcores⟩, hcounters⟩, hcontexts⟩, -⟩, -⟩, -⟩, -⟩, -⟩, -⟩, -⟩, -⟩ := h
  exact ⟨hcores, hcounters, hcontexts⟩

theorem State.ctr_setCtr_same {s : State} (hs : s.wf = true) (p : Nat) (c : Counter) : (s.setCtr p c).ctr p = c := by
  obtain ⟨-, hcounters, -⟩ := State.wf_tables hs
  rw [State.ctr_setCtr_wf hcounters, if_pos rfl]

/-- Counters are read from their table alone. -/
theorem State.ctr_congr {s t : State} (h : t.counters = s.counters) (p : Nat) : t.ctr p = s.ctr p :=
  congrArg (fun m => smGet ({} : Counter) m p) h

/-! ### What faults, blame and released waiters leave of the counters -/

@[simp] theorem raise_counters (s : State) (n : Nat) : (raise s n).counters = s.counters := by
  have h := congrArg State.counters (raise_frame s n); exact h

@[simp] theorem emcyOut_counters (s : State) (m : Emcy) : (emcyOut s m).counters = s.counters := by
  simp only [emcyOut, apply_ite State.counters, ite_self]

@[simp] theorem emcy_counters (s : State) (code unit : Nat) : (emcy s code unit).counters = s.counters := by
  simp only [emcy, apply_ite State.counters, emcyOut_counters, ite_self]

@[simp] theorem writeRecord_counters (s : State) (n : FaultNote) (v w : Nat) : (writeRecord s n v w).counters = s.counters := by
  simp only [writeRecord, apply_ite State.counters, emcy_counters, raise_counters, ite_self]

/-- A fault of a class that Ephemeris does not count is recorded, and changes no counter (R187, R383). -/
theorem fault_counters {n : FaultNote} (h : countedClass n.cls = false) (s : State) : (fault s n).counters = s.counters := by
  simp [fault, h]

@[simp] theorem State.noteOf_cls (s : State) (a : Actor) (n : FaultNote) : (s.noteOf a n).cls = n.cls := by
  cases a <;> rfl

@[simp] theorem State.blame_counters (s : State) (a : Actor) (st : BitVec 16) : (s.blame a st).counters = s.counters := by
  unfold State.blame; split <;> rfl

@[simp] theorem State.cancelWaiter_counters (s : State) (a : Actor) : (s.cancelWaiter a).counters = s.counters := by
  cases a <;> rfl

@[simp] theorem State.grantTo_counters (s : State) (a : Actor) : (s.grantTo a).counters = s.counters := by
  cases a <;> rfl

/-- Releasing the waiters of a counter empties its list of them, and changes no other counter (R194). -/
theorem releaseWaiters_counters (s : State) (p : Nat) :
    (releaseWaiters s p).counters = (s.setCtr p { s.ctr p with waiters := [] }).counters := by
  unfold releaseWaiters
  dsimp only
  refine List.foldlRecOn (motive := fun t : State => t.counters = (s.setCtr p { s.ctr p with waiters := [] }).counters)
    _ _ rfl fun t h a _ => ?_
  split
  · rw [State.blame_counters, State.cancelWaiter_counters, h]
  · rw [State.cancelWaiter_counters, h]

/-- A counter with the mark and the cause of a freeze (R187). -/
def Counter.freeze (c : Counter) (cause : Nat) : Counter :=
  { c with frozen := true, cancelled := true, cause := BitVec.ofNat 2 cause }

/-- A counter that freezes keeps its counts; its waiters are released (R187). -/
theorem freezeCounter_ctr {s : State} (hs : s.wf = true) (p cause : Nat) (src : Actor) :
    (freezeCounter s p cause src).ctr p = { (s.ctr p).freeze cause with waiters := [] } := by
  obtain ⟨-, hcounters, -⟩ := State.wf_tables hs
  unfold freezeCounter
  dsimp only
  rw [State.ctr_congr (releaseWaiters_counters _ p)]
  generalize ht : State.blame _ src _ = t
  have hct : t.counters = (s.setCtr p ((s.ctr p).freeze cause)).counters := by
    rw [← ht, State.blame_counters, raise_counters, fault_counters (by simp [countedClass])]
    rfl
  have htwf : smWf {} t.counters = true := hct ▸ smWf_smSet hcounters ..
  rw [State.ctr_setCtr_wf htwf, if_pos rfl, State.ctr_congr hct, State.ctr_setCtr_same hs]

/-! ### Waits -/

theorem waitOf_granted {s : State} {u : UnitKind} {g : Nat} {e : WinEntry} (h : e.granted = true) : waitOf s g u e = .ready := by
  simp [waitOf, h]

/-- A wait on a counter that carries no mark holds until it is granted (R186, R188). -/
theorem waitOf_counter {s : State} {u : UnitKind} {g : Nat} {e : WinEntry} (hen : dWaitEn e.desc = true) (hgrant : e.granted = false)
    (hcancel : e.cancelled = false) (hkind : trKind (s.transEntry (s.ownerOf g) (dWaitVid e.desc)) = 0)
    (hc : (s.ctr (trTarget (s.transEntry (s.ownerOf g) (dWaitVid e.desc)))).cancelled = false)
    (hf : (s.ctr (trTarget (s.transEntry (s.ownerOf g) (dWaitVid e.desc)))).frozen = false) : waitOf s g u e = .held := by
  simp [waitOf, hen, hgrant, hcancel, State.waitMarked, hkind, hc, hf]

/-! ### Grants (R186, R188, R193) -/

/-- A counter after a grant to the first of its waiters: one credit less, or one more consumed. -/
def Counter.grant (c : Counter) (rest : List Actor) : Counter :=
  if c.monotonic then { c with waiters := rest, grants := c.grants + 1, consumed := c.consumed + 1 }
  else { c with waiters := rest, grants := c.grants + 1, produced := c.produced - 1 }

theorem Counter.eligible_service {c : Counter} (hm : c.monotonic = false) : c.eligible = decide (c.produced ≠ 0) := by
  simp [Counter.eligible, hm]

theorem Counter.eligible_monotonic {c : Counter} (hm : c.monotonic = true) :
    c.eligible = decide (0 < (c.produced - c.consumed).toInt) := by
  simp [Counter.eligible, hm, Counter.diff]

theorem Counter.grant_service {c : Counter} (hm : c.monotonic = false) (rest : List Actor) :
    c.grant rest = { c with waiters := rest, grants := c.grants + 1, produced := c.produced - 1 } := by
  simp [Counter.grant, hm]

theorem Counter.grant_monotonic {c : Counter} (hm : c.monotonic = true) (rest : List Actor) :
    c.grant rest = { c with waiters := rest, grants := c.grants + 1, consumed := c.consumed + 1 } := by
  simp [Counter.grant, hm]

/-- A counter without credit grants nothing. -/
theorem grantFirst_ineligible {s : State} {p : Nat} (h : (s.ctr p).eligible = false) : grantFirst s p = s := by
  unfold grantFirst
  dsimp only
  split
  · rfl
  · simp [h]

theorem grantFirst_eligible {s : State} {p : Nat} {w : Actor} {rest : List Actor} (hw : (s.ctr p).waiters = w :: rest)
    (hf : (s.ctr p).frozen = false) (hc : (s.ctr p).cancelled = false) (he : (s.ctr p).eligible = true) :
    grantFirst s p = (s.setCtr p ((s.ctr p).grant rest)).grantTo w := by
  unfold grantFirst Counter.grant
  simp [hw, hf, hc, he]

theorem exec_counterGrant {s : State} (h : s.queueObjs.snapBusy = false) (p : Fin 65536) :
    exec (.counterGrant p) s = .next (grantFirst s p) :=
  congrArg (fun t => Host.Outcome.next (grantFirst t p)) (endSnapshot_idle h)

/-- A unit's ring after an entry of one unit has changed. -/
theorem State.unitOf_modEntry_wf {s : State} (hs : smWf {} s.cores = true) (u v : UnitKind) (g h : Nat) (q : BitVec 64)
    (f : WinEntry → WinEntry) : (s.modEntry u g q f).unitOf v h =
      if v = u ∧ h = g then { s.unitOf u g with window := mapWhere (fun e => decide (e.seq = q)) f (s.unitOf u g).window }
      else s.unitOf v h := by
  unfold State.modEntry
  rw [State.unitOf, State.core_setCore_wf hs]
  by_cases hg : h = g
  · subst hg
    by_cases hu : v = u
    · subst hu; simp [State.unitOf]
    · simp [hu, State.unitOf]
  · simp [hg, State.unitOf]

/-- A fetched instruction whose wait is granted (R193). -/
def WinEntry.grant (e : WinEntry) : WinEntry := { e with granted := true, queued := false }

/-- A grant changes the granted instruction's entry and no other (R193). -/
theorem State.window_grantTo {s : State} (hs : smWf {} s.cores = true) (a : Actor) (u : UnitKind) (g : CoreId) :
    ((s.grantTo a).unitOf u g).window = mapWhere (fun e => decide (a = .core u g e.seq)) WinEntry.grant (s.unitOf u g).window := by
  cases a with
  | core v h q =>
    rw [State.grantTo, State.unitOf_modEntry_wf hs]
    by_cases hvh : v = u ∧ h = g
    · obtain ⟨rfl, rfl⟩ := hvh
      simp [mapWhere, WinEntry.grant, eq_comm]
    · have hne (e : WinEntry) : Actor.core v h q ≠ .core u g e.seq := fun heq => by
        injection heq with hv hh; exact hvh ⟨hv, hh⟩
      have hother : ¬(u = v ∧ g.val = h.val) := fun heq => hvh ⟨heq.1.symm, Fin.ext heq.2.symm⟩
      rw [if_neg hother, mapWhere_id fun e _ he => absurd (of_decide_eq_true he) (hne e)]
  | host => simp [State.grantTo, State.unitOf, State.core, mapWhere]
  | command => simp [State.grantTo, mapWhere]
  | fabricAgent => simp [State.grantTo, mapWhere]

/-- The instruction of a waiter w stands granted in t, as it was in s otherwise. -/
def GrantedIn (s t : State) (w : Actor) : Prop :=
  ∀ (u : UnitKind) (g : CoreId) (q : BitVec 64) (e : WinEntry), w = .core u g q → findEntry (s.unitOf u g).window q = some e →
    ∃ e', findEntry (t.unitOf u g).window q = some e' ∧ e'.desc = e.desc ∧ e'.granted = true

theorem grantTo_grants {s : State} (hs : smWf {} s.cores = true) (w : Actor) : GrantedIn s (s.grantTo w) w := by
  rintro u g q e rfl hfind
  refine ⟨e.grant, ?_, rfl, rfl⟩
  rw [State.window_grantTo hs]
  simpa [eq_comm] using findEntry_mapWhere (f := WinEntry.grant) hfind fun _ => rfl

/-- COUNTER_GRANT with credit at hand: the counter pays the first waiter, whose instruction is granted. -/
theorem counterGrant_grants {s : State} {p : Fin 65536} {w : Actor} {rest : List Actor} (hs : s.wf = true)
    (hsnap : s.queueObjs.snapBusy = false) (hw : (s.ctr p).waiters = w :: rest)
    (hf : (s.ctr p).frozen = false) (hc : (s.ctr p).cancelled = false) (he : (s.ctr p).eligible = true) :
    Goes (exec (.counterGrant p) s) fun t => t.ctr p = (s.ctr p).grant rest ∧ GrantedIn s t w := by
  refine ⟨_, exec_counterGrant hsnap p, ?_⟩
  rw [grantFirst_eligible hw hf hc he]
  refine ⟨?_, grantTo_grants (s := s.setCtr p ((s.ctr p).grant rest)) (State.wf_tables hs).1 w⟩
  rw [State.ctr_congr (State.grantTo_counters ..), State.ctr_setCtr_same hs]

/-! ### Signals (R186, R188) -/

theorem takeSignal_of_none {f : SignalMsg → Bool} {ms : List SignalMsg} (h : ∀ m ∈ ms, f m = false) :
    takeSignal f ms = (none, ms) := by
  induction ms with
  | nil => rfl
  | cons m ms ih =>
    rw [List.forall_mem_cons] at h
    simp [takeSignal, h.1, ih h.2]

/-- A signal that no message on its way announces reserves nothing at its counter. -/
theorem exec_counterSignal {s : State} (hsnap : s.queueObjs.snapBusy = false) (p : Fin 65536) (a : BitVec 32) {src : Actor}
    (h : ∀ m ∈ s.signals, m.cancel = true ∨ m.src ≠ src) :
    exec (.counterSignal p a src) s = .next (signalCounter s p a.toNat src false) := by
  have hnone := takeSignal_of_none (ms := s.signals)
    (f := fun m => !m.cancel && decide (m.src = src) && decide (m.target s = (0, p.val)) && decide (m.amount.toNat = a.toNat))
    fun m hm => by rcases h m hm with hc | hc <;> simp [hc]
  show execCounterSignal p a src s = _
  simp only [execCounterSignal, endSnapshot_idle hsnap, hnone]

theorem signalCounter_monotonic {s : State} {p : Nat} (hf : (s.ctr p).frozen = false) (hm : (s.ctr p).monotonic = true)
    (a : Nat) (src : Actor) :
    signalCounter s p a src false = s.setCtr p { s.ctr p with produced := (s.ctr p).produced + BitVec.ofNat 64 a } := by
  simp [signalCounter, hf, hm]

theorem signalCounter_within {s : State} {p a : Nat} (hf : (s.ctr p).frozen = false) (hm : (s.ctr p).monotonic = false)
    (h : (s.ctr p).produced.toNat + a ≤ (s.ctr p).buffers.toNat) (src : Actor) :
    signalCounter s p a src false = s.setCtr p { s.ctr p with produced := (s.ctr p).produced + BitVec.ofNat 64 a } := by
  simp [signalCounter, hf, hm, Nat.not_lt.mpr h]

theorem signalCounter_overflow {s : State} {p a : Nat} (hf : (s.ctr p).frozen = false) (hm : (s.ctr p).monotonic = false)
    (ha : a ≠ 0) (h : (s.ctr p).buffers.toNat < (s.ctr p).produced.toNat + a) (src : Actor) :
    signalCounter s p a src false = freezeCounter s p 2 src := by
  simp [signalCounter, hf, hm, h, ha]

/-- R186: a signal beyond the limit freezes a service-mode counter and leaves n; any other adds its amount. -/
theorem counterSignal_service {s : State} {p : Fin 65536} {a : BitVec 32} {src : Actor} (hs : s.wf = true)
    (hsnap : s.queueObjs.snapBusy = false) (hf : (s.ctr p).frozen = false) (hm : (s.ctr p).monotonic = false)
    (hn : (s.ctr p).produced.toNat ≤ (s.ctr p).buffers.toNat) (h : ∀ m ∈ s.signals, m.cancel = true ∨ m.src ≠ src) :
    Goes (exec (.counterSignal p a src) s) fun t =>
      ((s.ctr p).buffers.toNat < (s.ctr p).produced.toNat + a.toNat →
        (t.ctr p).produced = (s.ctr p).produced ∧ (t.ctr p).frozen = true ∧ (t.ctr p).cause = 2) ∧
      ((s.ctr p).produced.toNat + a.toNat ≤ (s.ctr p).buffers.toNat →
        (t.ctr p).produced.toNat = (s.ctr p).produced.toNat + a.toNat ∧ (t.ctr p).frozen = false) := by
  refine ⟨_, exec_counterSignal hsnap p a h, fun hover => ?_, fun hfit => ?_⟩
  · rw [signalCounter_overflow hf hm (by omega) hover, freezeCounter_ctr hs]
    exact ⟨rfl, rfl, rfl⟩
  · rw [signalCounter_within hf hm hfit, State.ctr_setCtr_same hs]
    refine ⟨?_, hf⟩
    have hbound := (s.ctr p).buffers.isLt
    rw [BitVec.toNat_add, BitVec.toNat_ofNat, Nat.add_mod_mod, Nat.mod_eq_of_lt (by omega)]

/-! ### DEBIT (R186, R206) -/

theorem leNat_leBytes (n v : Nat) : leNat (leBytes n v) = v % 256 ^ n := by
  induction n generalizing v with
  | zero => simp [leBytes, leNat, Nat.mod_one]
  | succ n ih =>
    rw [leBytes, leNat, ih, BitVec.toNat_ofNat, pow_succ' 256 n, Nat.mod_mul]

@[simp] theorem leBytes_length (n v : Nat) : (leBytes n v).length = n := by
  induction n generalizing v with
  | zero => rfl
  | succ n ih => simp [leBytes, ih]

/-- The opcode, the reserved bytes and the operand of a command whose argument byte is 0. -/
theorem commandBytes_fields {op v : Nat} (hop : op < 256) (hv : v < 2 ^ 64) :
    byteAt (commandBytes op 0 v) 0 = op ∧ zeroRange (commandBytes op 0 v) 1 8 = true ∧ leAt (commandBytes op 0 v) 8 8 = v := by
  refine ⟨?_, ?_, ?_⟩
  · simpa [commandBytes, byteAt, leBytes] using hop
  · have hreserved : leAt (commandBytes op 0 v) 1 (8 - 1) = leNat (leBytes 1 0 ++ leBytes 6 0) := rfl
    rw [zeroRange, hreserved]
    rfl
  · have hoper : leAt (commandBytes op 0 v) 8 8 = leNat ((leBytes 8 v).take 8) := rfl
    rw [hoper, List.take_of_length_le (by simp), leNat_leBytes]
    exact Nat.mod_eq_of_lt hv

@[simp] theorem commandBytes_length (op arg v : Nat) : (commandBytes op arg v).length = 16 := by simp [commandBytes]

/-- An access that arrives changes the dictionary alone. -/
theorem touchSelects_frame (s : State) (acc : Accessor) : { touchSelects s acc with dict := s.dict } = s := by
  unfold touchSelects State.setSelects
  split
  · rename_i h; simp [h]
  · rfl

/-- The copies that an access uses are those it makes the latest (R344). -/
@[simp] theorem touchSelects_selects (s : State) (acc : Accessor) : (touchSelects s acc).selects acc = s.selects acc := by
  obtain ⟨cls, src⟩ := acc
  cases cls with
  | fabric => simp [touchSelects, State.setSelects, State.selects, Dict.setFabric]
  | _ => rfl

@[simp] theorem touchSelects_counters (s : State) (acc : Accessor) : (touchSelects s acc).counters = s.counters := by
  have h := congrArg State.counters (touchSelects_frame s acc); exact h

@[simp] theorem touchSelects_contexts (s : State) (acc : Accessor) : (touchSelects s acc).contexts = s.contexts := by
  have h := congrArg State.contexts (touchSelects_frame s acc); exact h

@[simp] theorem touchSelects_queueObjs (s : State) (acc : Accessor) : (touchSelects s acc).queueObjs = s.queueObjs := by
  have h := congrArg State.queueObjs (touchSelects_frame s acc); exact h

@[simp] theorem touchSelects_ctr (s : State) (acc : Accessor) (p : Nat) : (touchSelects s acc).ctr p = s.ctr p :=
  State.ctr_congr (touchSelects_counters s acc) p

@[simp] theorem touchSelects_transEntry (s : State) (acc : Accessor) (x v : Nat) :
    (touchSelects s acc).transEntry x v = s.transEntry x v := by
  simp [State.transEntry, State.ctx]

@[simp] theorem touchSelects_wf (s : State) (acc : Accessor) : (touchSelects s acc).wf = s.wf := by
  have h := congrArg State.wf (touchSelects_frame s acc); exact h

/-- An admitted write of the object's length is the write, with the reply that carries its abort code (R340, R342). -/
theorem dictCommandWith_answers {s : State} {acc : Accessor} {idx sub : Nat} {b : Bytes} {fails : List (EphKey × Nat)} {r : ObjRow}
    {ans : Answer} (h : Admitted s acc idx sub = true) (hr : objectRow moduleObjects idx sub = some r) (hl : b.length = r.size)
    (hw : writeObject (touchSelects s acc) acc r idx sub b fails = ans) :
    dictCommandWith s acc idx sub b fails = (countAbort ans.1 ans.2).send (.dictReply acc.cls (BitVec.ofNat 32 ans.2) []) := by
  obtain ⟨hreach, hmetro, htap, r', hcheck⟩ := admitted_iff.1 h
  obtain rfl : r' = r := Option.some.inj ((checkAccess_row hcheck).symm.trans hr)
  simp [dictCommandWith, hreach, hmetro, serveTap_none htap, dictWrite, hcheck, applyWrite, hl, hw]

/-- The row of CounterCommand (R207). -/
def counterCommandRow : ObjRow :=
  { idx := 0x2C00, lo := 5, hi := 5, size := 16, host := 2, fabric := 0, mgmt := 2, debug := 2, metro := 0
    expert := true, num := false, sel := false }

theorem objectRow_counterCommand : objectRow moduleObjects 0x2C00 5 = some counterCommandRow := by decide +kernel

theorem writeObject_counterCommand (s : State) (acc : Accessor) (b : Bytes) (fails : List (EphKey × Nat)) :
    writeObject s acc counterCommandRow 0x2C00 5 b fails = answerOf s
      (counterCommand (endSnapshot s) (s.selects acc).syncCtx.toNat (s.selects acc).syncVid.toNat b) := rfl

section
variable {s : State} {acc : Accessor} {b : Bytes} (hsnap : s.queueObjs.snapBusy = false) (h : Admitted s acc 0x2C00 5 = true)
  (hl : b.length = 16)
include hsnap h hl

/-- An admitted write of CounterCommand acts on the counter that the port class has selected (R206). -/
theorem dictCommand_counterCommand_ok {t : State}
    (hr : counterCommand (touchSelects s acc) (s.selects acc).syncCtx.toNat (s.selects acc).syncVid.toNat b = .ok t) :
    dictCommand s acc 0x2C00 5 b = t.send (.dictReply acc.cls 0 []) := by
  refine dictCommandWith_admitted h objectRow_counterCommand hl ?_
  rw [writeObject_counterCommand, endSnapshot_idle (by simpa using hsnap), touchSelects_selects, hr]
  rfl

/-- One that the counter does not allow is counted and answered with its abort code (R206, R343). -/
theorem dictCommand_counterCommand_error {e : Nat}
    (hr : counterCommand (touchSelects s acc) (s.selects acc).syncCtx.toNat (s.selects acc).syncVid.toNat b = .error e) :
    dictCommand s acc 0x2C00 5 b =
      (countAbort (touchSelects s acc) e).send (.dictReply acc.cls (BitVec.ofNat 32 e) []) := by
  refine dictCommandWith_answers (ans := (touchSelects s acc, e)) h objectRow_counterCommand hl ?_
  rw [writeObject_counterCommand, endSnapshot_idle (by simpa using hsnap), touchSelects_selects, hr]
  rfl

end

theorem exec_debit (acc : Accessor) (a : BitVec 64) (s : State) :
    exec (.debit acc a) s = .next (dictCommand s acc 0x2C00 5 (commandBytes 2 0 a.toNat)) := rfl

/-- DEBIT on a counter that is not frozen: an abort in monotonic mode, an underflow beyond n, else n less the amount. -/
theorem counterCommand_debit {s : State} {x vid v : Nat} (hvalid : trValid (s.transEntry x vid) = true)
    (hkind : trKind (s.transEntry x vid) = 0) (hf : (s.ctr (trTarget (s.transEntry x vid))).frozen = false) (hv : v < 2 ^ 32) :
    counterCommand s x vid (commandBytes 2 0 v) =
      let p := trTarget (s.transEntry x vid)
      if (s.ctr p).monotonic then .error abState
      else if v > (s.ctr p).produced.toNat then .ok (freezeCounter s p 1 .command)
      else .ok (s.setCtr p { s.ctr p with produced := (s.ctr p).produced - BitVec.ofNat 64 v }) := by
  obtain ⟨hop, hzero, hoper⟩ := commandBytes_fields (op := 2) (v := v) (by decide) (by omega)
  simp [counterCommand, hop, hzero, hoper, hvalid, hkind, hf, show ¬ 4294967296 ≤ v from Nat.not_le.mpr hv]

section
variable {s : State} {p : Fin 65536} {acc : Accessor} {a : BitVec 64} (hsnap : s.queueObjs.snapBusy = false)
  (hf : (s.ctr p).frozen = false) (h : Admitted s acc 0x2C00 5 = true) (ha : a.toNat < 2 ^ 32)
  (hvalid : trValid (s.transEntry (s.selects acc).syncCtx.toNat (s.selects acc).syncVid.toNat) = true)
  (hkind : trKind (s.transEntry (s.selects acc).syncCtx.toNat (s.selects acc).syncVid.toNat) = 0)
  (htarget : trTarget (s.transEntry (s.selects acc).syncCtx.toNat (s.selects acc).syncVid.toNat) = p.val)
include hsnap hf h ha hvalid hkind htarget

/-- R186: a DEBIT beyond n freezes a service-mode counter and leaves n; any other takes its amount. -/
theorem debit_service (hs : s.wf = true) (hm : (s.ctr p).monotonic = false) : Answered (exec (.debit acc a) s) acc fun u =>
    ((s.ctr p).produced.toNat < a.toNat →
      (u.ctr p).produced = (s.ctr p).produced ∧ (u.ctr p).frozen = true ∧ (u.ctr p).cause = 1) ∧
    (a.toNat ≤ (s.ctr p).produced.toNat →
      (u.ctr p).produced.toNat = (s.ctr p).produced.toNat - a.toNat ∧ (u.ctr p).frozen = false) := by
  have hcmd := counterCommand_debit (s := touchSelects s acc) (v := a.toNat) (by simpa using hvalid) (by simpa using hkind)
    (by simpa [htarget] using hf) ha
  simp only [touchSelects_transEntry, htarget, touchSelects_ctr, hm, Bool.false_eq_true, if_false] at hcmd
  have hwf : (touchSelects s acc).wf = true := by simpa using hs
  have hreply {t : State} (ht : counterCommand (touchSelects s acc) (s.selects acc).syncCtx.toNat (s.selects acc).syncVid.toNat
      (commandBytes 2 0 a.toNat) = .ok t) : exec (.debit acc a) s = Replied acc t := by
    rw [exec_debit, dictCommand_counterCommand_ok hsnap h (by simp) ht, Replied]
  by_cases hunder : (s.ctr p).produced.toNat < a.toNat
  · rw [if_pos hunder] at hcmd
    refine ⟨_, hreply hcmd, fun _ => ?_, fun hle => by omega⟩
    rw [freezeCounter_ctr hwf, touchSelects_ctr]
    exact ⟨rfl, rfl, rfl⟩
  · rw [if_neg hunder] at hcmd
    refine ⟨_, hreply hcmd, fun hlt => by omega, fun hle => ?_⟩
    rw [State.ctr_setCtr_same hwf]
    refine ⟨?_, hf⟩
    rw [BitVec.ofNat_toNat, BitVec.setWidth_eq, BitVec.toNat_sub_of_le (BitVec.le_def.mpr hle)]

/-- R188: a DEBIT on a monotonic counter is aborted under R206. -/
theorem debit_monotonic (hm : (s.ctr p).monotonic = true) : exec (.debit acc a) s =
    .next ((countAbort (touchSelects s acc) abState).send (.dictReply acc.cls 0x08000022 [])) := by
  have hcmd := counterCommand_debit (s := touchSelects s acc) (v := a.toNat) (by simpa using hvalid) (by simpa using hkind)
    (by simpa [htarget] using hf) ha
  simp only [touchSelects_transEntry, htarget, touchSelects_ctr, hm, if_true] at hcmd
  have hcode : BitVec.ofNat 32 abState = 0x08000022 := rfl
  rw [exec_debit, dictCommand_counterCommand_error hsnap h (by simp) hcmd, hcode]

end

/-- Settles O58: an ungranted wait holds; a grant, a signal and a DEBIT change the counts as the two modes say. -/
theorem countersCountCredits : Obligations.CountersCountCredits := by
  unfold Obligations.CountersCountCredits
  intro s p hs hsnap c granted hf hc
  refine ⟨fun u g e hen hcancel hkind htarget => ⟨fun hgrant => ?_, waitOf_granted⟩, fun hm hn => ⟨fun hzero => ?_, ?_, ?_, ?_⟩,
    fun hm => ⟨fun hle => ?_, ?_, ?_, ?_⟩⟩
  · exact waitOf_counter hen hgrant hcancel hkind (by rw [htarget]; exact hc) (by rw [htarget]; exact hf)
  · rw [exec_counterGrant hsnap, grantFirst_ineligible]
    rw [Counter.eligible_service hm]; exact decide_eq_false (not_not_intro hzero)
  · intro w rest hw hne
    rw [← Counter.grant_service hm]
    exact counterGrant_grants hs hsnap hw hf hc (by rw [Counter.eligible_service hm]; exact decide_eq_true hne)
  · exact fun a src hsrc => counterSignal_service hs hsnap hf hm hn hsrc
  · exact fun acc a hadm ha hvalid hkind htarget => debit_service hsnap hf hadm ha hvalid hkind htarget hs hm
  · rw [exec_counterGrant hsnap, grantFirst_ineligible]
    rw [Counter.eligible_monotonic hm]; exact decide_eq_false (not_lt.mpr hle)
  · intro w rest hw hpos
    rw [← Counter.grant_monotonic hm]
    exact counterGrant_grants hs hsnap hw hf hc (by rw [Counter.eligible_monotonic hm]; exact decide_eq_true hpos)
  · intro a src hsrc
    rw [exec_counterSignal hsnap p a hsrc, signalCounter_monotonic hf hm, BitVec.ofNat_toNat]
  · exact fun acc a hadm ha hvalid hkind htarget => debit_monotonic hsnap hf hadm ha hvalid hkind htarget hm

end Sys2Proof.Machine
end

section
/-! PROOFS. Barriers (R199, R200): a wait holds its member while it is inside, and a round that completes grants the waits of the
members that have not entered the next. -/

namespace Sys2Proof.Machine

/-! ### Waits on a barrier (R200) -/

theorem Barrier.inside_iff (b : Barrier) (a : Actor) : b.inside a = true ↔ memberIndex a ∈ b.e0 ∨ memberIndex a ∈ b.e1 := by
  simp [Barrier.inside]

/-- The wait of a unit on a barrier that is not poisoned: held while its member is inside. -/
theorem waitOf_barrier {s : State} {u : UnitKind} {g : CoreId} {e : WinEntry} (hen : dWaitEn e.desc = true)
    (hgrant : e.granted = false) (hcancel : e.cancelled = false)
    (hkind : trKind (s.transEntry (s.ownerOf g) (dWaitVid e.desc)) = 2)
    (hpoison : (s.barrier (s.ownerOf g) (trTarget (s.transEntry (s.ownerOf g) (dWaitVid e.desc)))).poisoned = false) :
    waitOf s g u e =
      if (s.barrier (s.ownerOf g) (trTarget (s.transEntry (s.ownerOf g) (dWaitVid e.desc)))).inside (.core u g e.seq)
      then .held else .ready := by
  cases u <;> simp [waitOf, hen, hgrant, hcancel, State.waitMarked, hkind, hpoison, Barrier.inside]

/-- The wait of a host descriptor on a barrier that is not poisoned: held while the host queues are inside. -/
theorem hostWait_barrier {s : State} {x : Nat} {d : HostDesc} (hen : dWaitEn d.bytes = true)
    (hgrant : d.granted = false) (hcancel : d.cancelled = false) (hkind : trKind (s.transEntry x (dWaitVid d.bytes)) = 2)
    (hpoison : (s.barrier x (trTarget (s.transEntry x (dWaitVid d.bytes)))).poisoned = false) :
    hostWait s x d =
      if 576 ∈ (s.barrier x (trTarget (s.transEntry x (dWaitVid d.bytes)))).e0 ∨
        576 ∈ (s.barrier x (trTarget (s.transEntry x (dWaitVid d.bytes)))).e1
      then .held else .ready := by
  simp [hostWait, hen, hgrant, hcancel, State.waitMarked, hkind, hpoison]

/-- A dispatched instruction whose wait holds stays as it is (R106, R186, R200). -/
theorem unitOp_held {u : UnitKind} {op : Nat} {g : CoreId} {q : BitVec 64} {det : Detect} {s : State} {e : WinEntry}
    (hdet : inRun det = true) (hfind : findEntry (s.unitOf u g).window q = some e)
    (hall : ∀ x ∈ (s.unitOf u g).window, x.seq = q → x = e) (hphase : e.phase = .waiting) (hwait : waitOf s g u e = .held)
    (check : State → WinEntry → Verdict) (ask : State → WinEntry → State) (rules : State → WinEntry → OpRules)
    (body : State → WinEntry → Run → Run) (phase : Run → Phase) : unitOp u op g q det s check ask rules body phase = s := by
  have hne : e.phase ≠ .fetched := by simp [hphase]
  have hid : s.modEntry u g q (fun e => if e.phase = .fetched then { e with phase := .waiting, issueTime := s.clkc } else e) = s :=
    State.modEntry_id (List.ne_nil_of_mem (findEntry_mem hfind)) fun x hx hq => by rw [hall x hx hq, if_neg hne]
  unfold unitOp
  simp only [hfind, preDetect_inRun hdet, if_neg hne, hid, hwait, ite_self]

/-! ### Barriers written and read back -/

theorem State.contexts_setBarrier_wf {s : State} (hs : smWf {} s.contexts = true) (x k : Nat) (b : Barrier) :
    smWf {} (s.setBarrier x k b).contexts = true := smWf_smSet hs ..

theorem State.barrier_setBarrier {s : State} (hs : smWf {} s.contexts = true) (x k : Nat) {b : Barrier} (hb : b ≠ {}) :
    (s.setBarrier x k b).barrier x k = b := by
  rw [State.barrier, State.setBarrier, State.ctx_setCtx_wf hs, if_pos rfl]
  exact smGet_smSet_ne hb ..

theorem State.transEntry_setBarrier {s : State} (hs : smWf {} s.contexts = true) (x k : Nat) (b : Barrier) (y v : Nat) :
    (s.setBarrier x k b).transEntry y v = s.transEntry y v := by
  rw [State.transEntry, State.setBarrier, State.ctx_setCtx_wf hs]
  split
  · subst_vars; rfl
  · rfl

theorem Barrier.ne_default_of_member {b : Barrier} {n : Nat} (h : n ∈ b.members) : b ≠ {} := by
  rintro rfl; cases h

/-! ### A round completes (R199) -/

theorem Barrier.full_iff (b : Barrier) : b.full = true ↔ ∀ i ∈ b.members, i ∈ b.e0 := by
  simp [Barrier.full]

/-- A barrier that a member has entered for its round. -/
def Barrier.enter (b : Barrier) (n : Nat) : Barrier := { b with e0 := n :: b.e0 }

/-- A member that is not in E0 enters it (R199). -/
theorem enterBarrier_first {s : State} {x k n : Nat} (hpoison : (s.barrier x k).poisoned = false)
    (hmem : n ∈ (s.barrier x k).members) (hout : n ∉ (s.barrier x k).e0) (vid : Nat) (src : Actor) :
    enterBarrier s x k vid n src = checkBarrier (s.setBarrier x k ((s.barrier x k).enter n)) x k := by
  simp [enterBarrier, hpoison, hmem, hout, Barrier.enter]

/-- A full barrier of one module advances, once where the next round is not full (R199). -/
theorem checkBarrier_advances {s : State} {x k : Nat} {b : Barrier} (hb : s.barrier x k = b) (hpoison : b.poisoned = false)
    (hmembers : b.members ≠ []) (hfull : b.full = true) (hcomm : b.comm = none) (hnext : b.advance.full = false) :
    checkBarrier s x k = releaseBarrier (s.setBarrier x k b.advance) x k := by
  have hne : b.members.isEmpty = false := List.isEmpty_eq_false_iff.mpr hmembers
  simp [checkBarrier, hb, hpoison, hne, hfull, hcomm, hnext]

/-- The next round of a barrier has begun in t, and the waits that the completed one held are still to be granted. -/
structure NextRound (s t : State) (x k : Nat) : Prop where
  barrier : t.barrier x k = (s.barrier x k).advance
  cores : t.cores = s.cores
  transEntry : ∀ y v, t.transEntry y v = s.transEntry y v
  contexts_wf : smWf {} t.contexts = true

/-- The last member to enter completes the round; the next one, with the entries made early, is not complete. -/
theorem enterBarrier_completes {s : State} {x k n : Nat} (hs : smWf {} s.contexts = true) (hcomm : (s.barrier x k).comm = none)
    (hpoison : (s.barrier x k).poisoned = false) (hmem : n ∈ (s.barrier x k).members) (hout : n ∉ (s.barrier x k).e0)
    (hrest : ∀ i ∈ (s.barrier x k).members, i = n ∨ i ∈ (s.barrier x k).e0)
    (hearly : ∃ i ∈ (s.barrier x k).members, i ∉ (s.barrier x k).e1) (vid : Nat) (src : Actor) :
    ∃ t, NextRound s t x k ∧ enterBarrier s x k vid n src = releaseBarrier t x k := by
  set b := s.barrier x k with hb
  have hwf := State.contexts_setBarrier_wf hs x k (b.enter n)
  have hread : (s.setBarrier x k (b.enter n)).barrier x k = b.enter n :=
    State.barrier_setBarrier hs x k (Barrier.ne_default_of_member (n := n) hmem)
  have hfull : (b.enter n).full = true := (Barrier.full_iff _).mpr fun i hi => List.mem_cons.mpr (hrest i hi)
  have hopen : b.advance.full = false := by
    obtain ⟨i, hi, hnot⟩ := hearly
    exact Bool.eq_false_iff.mpr fun h => hnot ((Barrier.full_iff _).mp h i hi)
  refine ⟨(s.setBarrier x k (b.enter n)).setBarrier x k b.advance,
    ⟨State.barrier_setBarrier hwf x k (Barrier.ne_default_of_member (n := n) hmem), rfl, fun y v => ?_,
      State.contexts_setBarrier_wf hwf ..⟩, ?_⟩
  · rw [State.transEntry_setBarrier hwf, State.transEntry_setBarrier hs]
  · rw [enterBarrier_first hpoison hmem hout]
    exact checkBarrier_advances (b := b.enter n) hread hpoison (List.ne_nil_of_mem hmem) hfull hcomm hopen

theorem exec_barrierEnter {s : State} (hsnap : s.queueObjs.snapBusy = false) (hsig : s.signals = []) (x : CtxId) (k : Fin 256)
    (n : Nat) (src : Actor) : ∃ vid, exec (.barrierEnter x k n src) s = .next (enterBarrier s x k vid n src) := by
  show ∃ vid, execBarrierEnter x k n src s = _
  simp only [execBarrierEnter, endSnapshot_idle hsnap, takeSignal_of_none (ms := s.signals) (by simp [hsig])]
  exact ⟨_, rfl⟩

/-! ### Waits granted (R200) -/

theorem mapWhere_mapWhere {α : Type} {p q : α → Bool} {f : α → α} {l : List α} (hq : ∀ x, q (f x) = q x) (hf : ∀ x, f (f x) = f x) :
    mapWhere q f (mapWhere p f l) = mapWhere (fun x => p x || q x) f l := by
  simp only [mapWhere, List.map_map]
  refine List.map_congr_left fun x _ => ?_
  by_cases hp : p x <;> by_cases hqx : q x <;> simp [hp, hqx, hq, hf]

theorem State.cores_grantTo_wf {s : State} (hs : smWf {} s.cores = true) (a : Actor) : smWf {} (s.grantTo a).cores = true := by
  cases a with
  | core => exact smWf_smSet hs ..
  | _ => exact hs

theorem State.contexts_grantTo_wf {s : State} (hs : smWf {} s.contexts = true) (a : Actor) :
    smWf {} (s.grantTo a).contexts = true := by
  cases a with
  | host => exact smWf_smSet hs ..
  | _ => exact hs

/-- A grant leaves every barrier as it was (R200). -/
theorem State.barrier_grantTo {s : State} (hs : smWf {} s.contexts = true) (a : Actor) (x k : Nat) :
    (s.grantTo a).barrier x k = s.barrier x k := by
  cases a with
  | host y q seq =>
    rw [State.barrier, State.grantTo, State.modDesc, State.ctx_setCtx_wf hs]
    split
    · subst_vars; rfl
    · rfl
  | _ => rfl

/-- Granting a list of waits changes the entries of the granted instructions and no others. -/
theorem State.window_foldl_grantTo {s : State} (hs : smWf {} s.cores = true) (l : List Actor) (u : UnitKind) (g : CoreId) :
    ((l.foldl State.grantTo s).unitOf u g).window =
      mapWhere (fun e => decide (.core u g e.seq ∈ l)) WinEntry.grant (s.unitOf u g).window := by
  induction l generalizing s with
  | nil => simp [mapWhere]
  | cons a l ih =>
    rw [List.foldl_cons, ih (State.cores_grantTo_wf hs a), State.window_grantTo hs,
      mapWhere_mapWhere (f := WinEntry.grant) (fun _ => rfl) (fun _ => rfl)]
    simp [eq_comm, Bool.decide_or]

theorem State.barrier_foldl_grantTo {s : State} (hs : smWf {} s.contexts = true) (l : List Actor) (x k : Nat) :
    (l.foldl State.grantTo s).barrier x k = s.barrier x k := by
  induction l generalizing s with
  | nil => rfl
  | cons a l ih => rw [List.foldl_cons, ih (State.contexts_grantTo_wf hs a), State.barrier_grantTo hs]

/-- A key whose value is not the default is listed with it. -/
theorem smGet_mem {α : Type} {d : α} {m : SMap α} {x : Nat} (h : smGet d m x ≠ d) : (x, smGet d m x) ∈ m := by
  by_contra hno
  induction m with
  | nil => exact h rfl
  | cons p m ih =>
    obtain ⟨k, v⟩ := p
    simp only [smGet] at h hno
    split at h
    · subst_vars; simp at hno
    · rename_i hk
      split at h
      · exact h rfl
      · rename_i hlt
        rw [if_neg hk, if_neg hlt] at hno
        exact ih h fun hin => hno (List.mem_cons_of_mem _ hin)

/-- An instruction whose wait names the barrier and is not granted waits on it. -/
theorem mem_barrierWaiters {s : State} {x k : Nat} {u : UnitKind} {g : CoreId} {e : WinEntry}
    (howner : (s.core g).owner.map (·.val) = some x) (hmem : e ∈ (s.unitOf u g).window) (hphase : e.phase = .waiting)
    (hen : dWaitEn e.desc = true) (hgrant : e.granted = false) (hcancel : e.cancelled = false)
    (hvalid : trValid (s.transEntry x (dWaitVid e.desc)) = true) (hkind : trKind (s.transEntry x (dWaitVid e.desc)) = 2)
    (htarget : trTarget (s.transEntry x (dWaitVid e.desc)) = k) : .core u g e.seq ∈ s.barrierWaiters x k := by
  have hcore : (g.val, s.core g) ∈ s.cores := smGet_mem (Core.ne_default_of_window (List.ne_nil_of_mem hmem))
  refine List.mem_append_left _ (List.mem_flatMap.mpr ⟨_, hcore, ?_⟩)
  dsimp only
  rw [if_pos (decide_eq_true howner), List.mem_flatMap]
  refine ⟨u, by cases u <;> simp, List.mem_filterMap.mpr ⟨e, hmem, ?_⟩⟩
  simp [hphase, hen, hgrant, hcancel, hvalid, hkind, htarget]

/-- The waiters of a barrier whose member is outside are granted, and no others (R200). -/
theorem window_releaseBarrier {s : State} (hs : smWf {} s.cores = true) (x k : Nat) (u : UnitKind) (g : CoreId) :
    ((releaseBarrier s x k).unitOf u g).window =
      mapWhere (fun e => decide (.core u g e.seq ∈ s.barrierWaiters x k) && !(s.barrier x k).inside (.core u g e.seq)) WinEntry.grant
        (s.unitOf u g).window := by
  rw [releaseBarrier, State.window_foldl_grantTo hs]
  simp only [List.mem_filter, Bool.decide_and, Bool.decide_eq_true]

theorem barrier_releaseBarrier {s : State} (hs : smWf {} s.contexts = true) (x k : Nat) :
    (releaseBarrier s x k).barrier x k = s.barrier x k := State.barrier_foldl_grantTo hs ..

/-- A single waiter of a barrier that is released is granted when its member is outside. -/
theorem window_releaseBarrier_singleton {s : State} (hs : smWf {} s.cores = true) {x k : Nat} {u : UnitKind} {g : CoreId}
    {e : WinEntry} (hwin : (s.unitOf u g).window = [e]) (hgrant : e.granted = false)
    (hwaits : .core u g e.seq ∈ s.barrierWaiters x k) :
    ∃ e', ((releaseBarrier s x k).unitOf u g).window = [e'] ∧ e'.granted = !(s.barrier x k).inside (.core u g e.seq) := by
  rw [window_releaseBarrier hs, hwin]
  refine ⟨_, rfl, ?_⟩
  cases hin : (s.barrier x k).inside (.core u g e.seq) <;> simp [hwaits, hin, hgrant, WinEntry.grant]

/-- Settles O59: the wait of a member inside is held, a held TSIG stays, and a completed round grants the waits of members that have
not entered the next. -/
theorem barrierWaitsHoldMembersInside : Obligations.BarrierWaitsHoldMembersInside := by
  unfold Obligations.BarrierWaitsHoldMembersInside
  refine ⟨?_, ?_, ?_, ?_⟩
  · intro s u g e hen hgrant hcancel x w b m hkind hpoison
    have hwait := waitOf_barrier (u := u) hen hgrant hcancel hkind hpoison
    refine ⟨fun hin => ?_, fun h0 h1 => ?_⟩
    · rw [hwait, if_pos ((Barrier.inside_iff _ _).mpr hin)]
    · rw [hwait, if_neg fun hin => ((Barrier.inside_iff _ _).mp hin).elim h0 h1]
  · intro s x d hen hgrant hcancel w b hkind hpoison
    have hwait := hostWait_barrier hen hgrant hcancel hkind hpoison
    exact ⟨fun hin => by rw [hwait, if_pos hin], fun h0 h1 => by rw [hwait, if_neg (not_or.mpr ⟨h0, h1⟩)]⟩
  · intro s g seq e hs hwin hseq hphase hwait
    have hfind : findEntry (s.unitOf .engine g).window seq = some e := by simp [findEntry, hwin, hseq]
    exact congrArg Host.Outcome.next (unitOp_held rfl hfind (by simp [hwin]) hphase hwait ..)
  · intro s x k n src u g e hs hsnap b w m hcomm hsig hpoison hmem hout hrest hearly howner hwin hphase hen hgrant hcancel hvalid
      hkind htarget
    obtain ⟨hcores, -, hcontexts⟩ := State.wf_tables hs
    obtain ⟨vid, hexec⟩ := exec_barrierEnter hsnap hsig x k n src
    obtain ⟨t, hnext, hround⟩ := enterBarrier_completes hcontexts hcomm hpoison hmem hout hrest hearly vid src
    have hunit : t.unitOf u g = s.unitOf u g := congrArg (fun m => (smGet ({} : Core) m g).unit u) hnext.cores
    have howner' : (t.core g).owner.map (·.val) = some x.val := by rw [State.core, hnext.cores]; exact congrArg _ howner
    have htrans := hnext.transEntry x (dWaitVid e.desc)
    have hwaits : .core u g e.seq ∈ t.barrierWaiters x k :=
      mem_barrierWaiters howner' (by simp [hunit, hwin]) hphase hen hgrant hcancel (htrans ▸ hvalid) (htrans ▸ hkind)
        (htrans ▸ htarget)
    obtain ⟨e', hwin', hgrant'⟩ := window_releaseBarrier_singleton (hnext.cores ▸ hcores) (hunit ▸ hwin) hgrant hwaits
    refine ⟨releaseBarrier t x k, hround ▸ hexec, (barrier_releaseBarrier hnext.contexts_wf x k).trans hnext.barrier, e', hwin', ?_⟩
    simp [hgrant', hnext.barrier, Barrier.inside, Barrier.advance, m, b]

end Sys2Proof.Machine
end

section
/-! PROOFS. Poison (R379): a poisoned block fails every read of it and every partial write, a write of the whole block clears it, and an
uncorrectable error sets it. -/

namespace Sys2Proof.Machine

/-! ### What writes, faults and poison leave of memory -/

@[simp] theorem Memory.putBytes_poison (m : Memory) (p : Nat) (bs : Bytes) : (m.putBytes p bs).poison = m.poison := by
  induction bs generalizing m p with
  | nil => rfl
  | cons b bs ih => exact ih (m.setByte p b) (p + 1)

@[simp] theorem cacheUpdate_poison (m : Memory) (cl : Option Nat) (p : Nat) (bs : Bytes) : (cacheUpdate m cl p bs).poison = m.poison := by
  cases cl with
  | none => rfl
  | some c => simp only [cacheUpdate, apply_ite Memory.poison, ite_self]

@[simp] theorem raise_mem (s : State) (n : Nat) : (raise s n).mem = s.mem := by
  have h := congrArg State.mem (raise_frame s n); exact h

@[simp] theorem emcyOut_mem (s : State) (m : Emcy) : (emcyOut s m).mem = s.mem := by
  simp only [emcyOut, apply_ite State.mem, ite_self]

@[simp] theorem emcy_mem (s : State) (code unit : Nat) : (emcy s code unit).mem = s.mem := by
  simp only [emcy, apply_ite State.mem, emcyOut_mem, ite_self]

@[simp] theorem writeRecord_mem (s : State) (n : FaultNote) (v w : Nat) : (writeRecord s n v w).mem = s.mem := by
  simp only [writeRecord, apply_ite State.mem, emcy_mem, raise_mem, ite_self]

/-- A fault of any class, counted or not, leaves memory as it was (R383). -/
@[simp] theorem fault_mem (s : State) (n : FaultNote) : (fault s n).mem = s.mem := by
  simp only [fault, apply_ite State.mem, raise_mem, writeRecord_mem, ite_self]

/-! ### Which blocks are poisoned -/

/-- Poisoning a block poisons its addresses and no others. -/
theorem Memory.poisoned_poisonBlock (m : Memory) (p q : Nat) :
    (m.poisonBlock p).poisoned q = (decide (q / 64 = p / 64) || m.poisoned q) := by
  unfold Memory.poisonBlock
  split
  · rename_i hp
    by_cases hq : q / 64 = p / 64
    · simpa [Memory.poisoned, hq] using hp
    · simp [hq]
  · simp [Memory.poisoned]

@[simp] theorem Memory.poisonBlock_cells (m : Memory) (p : Nat) : (m.poisonBlock p).cells = m.cells := by
  unfold Memory.poisonBlock; split <;> rfl

/-- Poisoning a block changes no other block and no stored byte. -/
theorem Memory.poisonBlock_poisons_alone (m : Memory) (p : Nat) :
    (m.poisonBlock p).poisoned p = true ∧ (∀ q, q / 64 ≠ p / 64 → (m.poisonBlock p).poisoned q = m.poisoned q) ∧
      (m.poisonBlock p).cells = m.cells :=
  ⟨by simp [poisoned_poisonBlock], fun q hq => by simp [poisoned_poisonBlock, hq], m.poisonBlock_cells p⟩

theorem State.poisonAt_mem {s : State} {a p : Nat} (h : s.translate a = some p) : (s.poisonAt a).mem = s.mem.poisonBlock p := by
  simp [State.poisonAt, h]

/-! ### Reads -/

/-- A read that begins in a poisoned block stops there. -/
theorem readMem_poisoned {s : State} {m : Memory} {a p : Nat} (ha : s.translate a = some p) (hdark : s.dark p = false)
    (hp : m.poisoned p = true) (n : Nat) : readMem s m (n + 1) a = .error (.data a p) := by
  simp [readMem, ha, hdark, hp]

/-- A read whose first byte is sound fails as the read of the rest does. -/
theorem readMem_error_of_rest {s : State} {m : Memory} {n a q : Nat} {e : MemErr} (ha : s.translate a = some q)
    (hdark : s.dark q = false) (hq : m.poisoned q = false) (hrest : readMem s m n (a + 1) = .error e) :
    readMem s m (n + 1) a = .error e := by
  simp [readMem, ha, hdark, hq, hrest]

/-- A read meets the first poisoned byte of its range, however far in it lies (R379). -/
theorem readMem_first_poisoned {s : State} {m : Memory} {n a i p : Nat} (hi : i < n) (ha : s.translate (a + i) = some p)
    (hdark : s.dark p = false) (hp : m.poisoned p = true)
    (hsound : ∀ j < i, ∃ q, s.translate (a + j) = some q ∧ s.dark q = false ∧ m.poisoned q = false) :
    readMem s m n a = .error (.data (a + i) p) := by
  obtain ⟨n, rfl⟩ := Nat.exists_eq_add_one_of_ne_zero (Nat.ne_zero_of_lt hi)
  induction i generalizing n a with
  | zero => exact readMem_poisoned ha hdark hp n
  | succ i ih =>
    obtain ⟨q, hq, hqdark, hqsound⟩ := hsound 0 (Nat.succ_pos i)
    obtain ⟨n, rfl⟩ := Nat.exists_eq_add_one_of_ne_zero (Nat.ne_zero_of_lt (Nat.lt_of_succ_lt_succ hi))
    have shift (j : Nat) : a + (j + 1) = a + 1 + j := by omega
    rw [shift] at ha ⊢
    refine readMem_error_of_rest hq hqdark hqsound (ih ha (fun j hj => ?_) n (Nat.lt_of_succ_lt_succ hi))
    rw [← shift]
    exact hsound (j + 1) (Nat.succ_lt_succ hj)

/-! ### Writes within one block -/

/-- A partial write of a poisoned block is a detected data error (R379). -/
theorem writeBlock_partial_poisoned {s : State} {m : Memory} {a p : Nat} {bs : Bytes} (ha : s.translate a = some p)
    (hdark : s.dark p = false) (hp : m.poisoned p = true) (hlen : bs.length < 64) (cl : Option Nat) :
    writeBlock s m cl a bs = .error (.data a p) := by
  simp [writeBlock, ha, hdark, hp, hlen]

/-- A write of a whole block succeeds, and takes its block alone out of the poisoned ones (R379). -/
theorem writeBlock_whole {s : State} {m : Memory} {a p : Nat} {bs : Bytes} (ha : s.translate a = some p) (hdark : s.dark p = false)
    (hlen : bs.length = 64) (cl : Option Nat) :
    ∃ m', writeBlock s m cl a bs = .ok m' ∧ m'.poison = m.poison.filter (fun b => decide (b ≠ p / 64)) := by
  simp [writeBlock, ha, hdark, hlen]

/-- Bytes that lie in one block are all of the write's first block, and leave nothing for the next. -/
theorem take_drop_one_block {bs : Bytes} {a : Nat} (hfit : a % 64 + bs.length ≤ 64) :
    bs.take (64 - a % 64) = bs ∧ bs.drop (64 - a % 64) = [] :=
  ⟨List.take_of_length_le (by omega), List.drop_eq_nil_of_le (by omega)⟩

/-- A write that lies in one block and fails there writes nothing. -/
theorem writeMem_error_of_one_block {s : State} {m : Memory} {cl : Option Nat} {a : Nat} {bs : Bytes} {e : MemErr} (hne : bs ≠ [])
    (hfit : a % 64 + bs.length ≤ 64) (hw : writeBlock s m cl a bs = .error e) : writeMem s m cl a bs = (m, some e) := by
  obtain ⟨htake, -⟩ := take_drop_one_block hfit
  simp [writeMem, writeBlocks, hne, htake, hw]

/-- A write that lies in one block and succeeds there is done. -/
theorem writeMem_of_one_block {s : State} {m m' : Memory} {cl : Option Nat} {a : Nat} {bs : Bytes} (hne : bs ≠ [])
    (hfit : a % 64 + bs.length ≤ 64) (hw : writeBlock s m cl a bs = .ok m') : writeMem s m cl a bs = (m', none) := by
  obtain ⟨htake, hdrop⟩ := take_drop_one_block hfit
  simp [writeMem, writeBlocks, hne, htake, hdrop, hw]

/-- A write of a whole block clears its poison and no other's (R379). -/
theorem writeMem_whole_block {s : State} {m : Memory} {a p : Nat} {bs : Bytes} (ha : s.translate a = some p) (hdark : s.dark p = false)
    (halign : a % 64 = 0) (hlen : bs.length = 64) (cl : Option Nat) :
    ∃ m', writeMem s m cl a bs = (m', none) ∧ m'.poisoned p = false ∧ ∀ q, q / 64 ≠ p / 64 → m'.poisoned q = m.poisoned q := by
  obtain ⟨m', hw, hpoison⟩ := writeBlock_whole (m := m) ha hdark hlen cl
  have hne : bs ≠ [] := List.ne_nil_of_length_pos (by omega)
  refine ⟨m', writeMem_of_one_block hne (by omega) hw, ?_, fun q hq => ?_⟩
  · simp [Memory.poisoned, hpoison]
  · simp [Memory.poisoned, hpoison, hq]

/-! ### Patrol scrub -/

/-- Patrol scrub that meets an uncorrectable error poisons its block, and records it (R164, R379). -/
theorem exec_patrolScrub_memUe {s : State} {a p : Nat} (ha : s.translate a = some p) :
    exec (.patrolScrub (.memUe a)) s = .next (fault (s.poisonAt a) (memErrNote s { sev := 3, cls := 2, src := 7 } (.data a p))) := by
  show execPatrolScrub (.memUe a) s = _
  simp [execPatrolScrub, ha]

/-- Settles O56: a read stops at its first poisoned byte, a write within one block is decided by that block, and an uncorrectable error,
met by an access or by patrol scrub, leaves memory with its block poisoned and nothing else changed. -/
theorem poisonedBlocksFailUntilRewritten : Obligations.PoisonedBlocksFailUntilRewritten := by
  unfold Obligations.PoisonedBlocksFailUntilRewritten
  refine ⟨?_, ?_, ?_⟩
  · intro s m n a i p hi ha hdark hp hsound
    exact readMem_first_poisoned hi ha hdark hp hsound
  · intro s m cl a p bs ha hdark
    refine ⟨fun hne hfit hlen hp => ?_, fun halign hlen => writeMem_whole_block ha hdark halign hlen cl⟩
    exact writeMem_error_of_one_block hne hfit (writeBlock_partial_poisoned ha hdark hp hlen cl)
  · intro s a p ha
    have hmem := s.mem.poisonBlock_poisons_alone p
    rw [← State.poisonAt_mem ha] at hmem
    refine ⟨hmem, _, exec_patrolScrub_memUe ha, ?_⟩
    simpa only [fault_mem] using hmem

end Sys2Proof.Machine
end

section
/-! PROOFS. What every operation keeps, first part: the commands that wait and the canonical form of the tables (O54, O55), stated once for each
operation on the state. The shared operations: memory, counters, barriers, packets, faults and interrupts. -/

namespace Sys2Proof.Machine
variable {s t u : State} {q r : Run}

/-! ### What every operation keeps -/

/-- The table of cores is in canonical form, and so are the fence counts of each core. -/
def CoresCanon (cs : SMap Core) : Prop := smWf {} cs = true ∧ ∀ c ∈ cs, smWf 0 c.2.fences = true

/-- The tables that `State.wf` speaks of. -/
theorem State.wf_iff {s : State} : s.wf = true ↔ s.mem.wf = true ∧ CoresCanon s.cores ∧ smWf {} s.counters = true ∧
    smWf {} s.contexts = true ∧ smWf {} s.sources = true ∧ smWf {} s.dests = true ∧ smWf {} s.power.dips = true ∧
    smWf {} s.fabric.ports = true ∧ smWf {} s.fabric.streams = true ∧ smWf {} s.fabric.trackers = true ∧
    smWf {} s.coll.instances = true := by
  simp only [State.wf, CoresCanon, Bool.and_eq_true, List.all_eq_true, and_assoc]
  tauto

/-- A state that an operation makes of another: the commands that wait stay, and so does the canonical form of the tables. -/
structure Keeps (s t : State) : Prop where
  pending : t.pending = s.pending
  wf : s.wf = true → t.wf = true

theorem keeps_refl (s : State) : Keeps s s := ⟨rfl, id⟩

/-- A state with the same waiting commands keeps what another does, if it keeps the form of each table. -/
theorem keeps_mk (h : Keeps s t) {out draws clkc device mem cores slotMap spares counters syncFaults tailDiscards signals addends
    contexts queueObjs training fabric coll drinex dict sources dests rel sec meter power}
    (hmem : t.mem.wf = true → mem.wf = true) (hcores : CoresCanon t.cores → CoresCanon cores)
    (hcounters : smWf {} t.counters = true → smWf {} counters = true)
    (hcontexts : smWf {} t.contexts = true → smWf {} contexts = true)
    (hsources : smWf {} t.sources = true → smWf {} sources = true)
    (hdests : smWf {} t.dests = true → smWf {} dests = true)
    (hdips : smWf {} t.power.dips = true → smWf {} power.dips = true)
    (hports : smWf {} t.fabric.ports = true → smWf {} fabric.ports = true)
    (hstreams : smWf {} t.fabric.streams = true → smWf {} fabric.streams = true)
    (htrackers : smWf {} t.fabric.trackers = true → smWf {} fabric.trackers = true)
    (hinstances : smWf {} t.coll.instances = true → smWf {} coll.instances = true) :
    Keeps s (State.mk t.pending out draws clkc device mem cores slotMap spares counters syncFaults tailDiscards signals addends
      contexts queueObjs training fabric coll drinex dict sources dests rel sec meter power) := by
  refine ⟨h.pending, fun hs => ?_⟩
  obtain ⟨h1, h2, h3, h4, h5, h6, h7, h8, h9, h10, h11⟩ := State.wf_iff.1 (h.wf hs)
  exact State.wf_iff.2 ⟨hmem h1, hcores h2, hcounters h3, hcontexts h4, hsources h5, hdests h6, hdips h7, hports h8, hstreams h9,
    htrackers h10, hinstances h11⟩

/-- A change of memory alone. -/
theorem keeps_mem (h : Keeps s t) {m} (hm : t.mem.wf = true → m.wf = true) : Keeps s { t with mem := m } :=
  keeps_mk h hm id id id id id id id id id id

/-- What a write leaves of memory, also where it fails. -/
theorem keeps_written (h : Keeps s t) {cl a bs m e} (hw : writeMem t t.mem cl a bs = (m, e)) : Keeps s { t with mem := m } :=
  keeps_mem h fun hm => by have hkeep := Memory.wf_writeMem t cl a bs hm; rwa [hw] at hkeep

theorem keeps_merged (h : Keeps s t) {a tag pres m e} (hw : mergeHeader t t.mem a tag pres = (m, e)) : Keeps s { t with mem := m } :=
  keeps_mem h fun hm => by have hkeep := Memory.wf_mergeHeader t a tag pres hm; rwa [hw] at hkeep

theorem keeps_ite {c : Prop} [Decidable c] {a b : State} (ha : Keeps s a) (hb : Keeps s b) : Keeps s (if c then a else b) := by
  split
  · exact ha
  · exact hb

theorem keeps_foldl {α : Type} {f : State → α → State} (hf : ∀ t a, Keeps s t → Keeps s (f t a)) (l : List α) (h : Keeps s t) :
    Keeps s (l.foldl f t) := by
  induction l generalizing t with
  | nil => exact h
  | cons a l ih => exact ih (hf _ _ h)

/-! ### Tables -/

theorem mem_smPut {α : Type} {m : SMap α} {x : Nat} {y : α} {p : Nat × α} (h : p ∈ smPut m x y) : p = (x, y) ∨ p ∈ m := by
  induction m with
  | nil => exact .inl (by simpa [smPut] using h)
  | cons q m ih =>
    simp only [smPut] at h
    grind

theorem mem_smDrop {α : Type} {m : SMap α} {x : Nat} {p : Nat × α} (h : p ∈ smDrop m x) : p ∈ m := by
  induction m with
  | nil => exact h
  | cons q m ih =>
    simp only [smDrop] at h
    grind

/-- An update of a table lists the value written and values that stood there. -/
theorem mem_smSet {α : Type} [DecidableEq α] {d : α} {m : SMap α} {x : Nat} {y : α} {p : Nat × α} (h : p ∈ smSet d m x y) :
    p = (x, y) ∨ p ∈ m := by
  unfold smSet at h
  split at h
  · exact .inr (mem_smDrop h)
  · exact mem_smPut h

/-- A value changed under every key keeps the canonical form, the keys that read the default left out. -/
theorem smWf_smMap {α : Type} [DecidableEq α] {d : α} {m : SMap α} (h : smWf d m = true) (f : Nat → α → α) :
    smWf d (smMap d f m) = true := by
  unfold smWf smMap at *
  generalize 0 = lo at h
  induction m generalizing lo with
  | nil => rfl
  | cons q m ih =>
    simp only [smWfFrom, Bool.and_eq_true, decide_eq_true_eq] at h
    simp only [List.map_cons, List.filter_cons]
    split
    · simp_all [smWfFrom]
    · exact smWfFrom_mono (by omega) (ih _ h.2)

theorem CoresCanon.core {cs : SMap Core} (h : CoresCanon cs) (g : Nat) : smWf 0 (smGet {} cs g).fences = true := by
  by_cases hg : smGet {} cs g = {}
  · rw [hg]; rfl
  · exact h.2 _ (smGet_mem hg)

theorem CoresCanon.smSet {cs : SMap Core} {g : Nat} {c : Core} (h : CoresCanon cs)
    (hc : smWf 0 (smGet {} cs g).fences = true → smWf 0 c.fences = true) : CoresCanon (smSet {} cs g c) := by
  refine ⟨smWf_smSet h.1 .., fun p hp => ?_⟩
  rcases mem_smSet hp with rfl | hp
  · exact hc (h.core g)
  · exact h.2 _ hp

@[simp] theorem Core.setUnit_fences (c : Core) (u : UnitKind) (r : UnitRing) : (c.setUnit u r).fences = c.fences := by
  cases u <;> rfl

/-! ### Shared operations -/

theorem keeps_idle (h : Keeps s t) : Keeps s (idle t) := by
  unfold idle
  grind [keeps_mk]

theorem keeps_setCore (h : Keeps s t) {g c} (hc : smWf 0 (t.core g).fences = true → smWf 0 c.fences = true) :
    Keeps s (t.setCore g c) :=
  keeps_mk h id (fun hcores => hcores.smSet hc) id id id id id id id id id

/-- The fence counts of every core of a state in canonical form are so. -/
theorem Keeps.fences (h : Keeps s t) (hs : s.wf = true) (g : Nat) : smWf 0 (t.core g).fences = true :=
  have ⟨_, hcores, _⟩ := State.wf_iff.1 (h.wf hs)
  hcores.core g

/-- A core written whole, whose fence counts come from elsewhere in the state. -/
theorem keeps_putCore (h : Keeps s t) {g c} (hc : s.wf = true → smWf 0 c.fences = true) : Keeps s (t.setCore g c) := by
  refine ⟨h.pending, fun hs => ?_⟩
  exact (keeps_setCore (keeps_refl t) fun _ => hc hs).wf (h.wf hs)

theorem keeps_setCtx (h : Keeps s t) (x c) : Keeps s (t.setCtx x c) := by
  unfold State.setCtx
  grind [keeps_mk, smWf_smSet]

theorem keeps_setCtr (h : Keeps s t) (p c) : Keeps s (t.setCtr p c) := by
  unfold State.setCtr
  grind [keeps_mk, smWf_smSet]

theorem keeps_send (h : Keeps s t) (o) : Keeps s (t.send o) := by
  unfold State.send
  grind [keeps_mk]

theorem keeps_draw (h : Keeps s t) : Keeps s (t.draw) := by
  unfold State.draw
  grind [keeps_mk]

theorem keeps_returnCredits (h : Keeps s t) : Keeps s (returnCredits t) := by
  unfold returnCredits
  grind [keeps_mk]

theorem keeps_drainTxns (h : Keeps s t) (n) : Keeps s (drainTxns n t) := by
  induction n generalizing t with
  | zero => exact h
  | succ n ih =>
    unfold drainTxns
    grind [keeps_returnCredits, keeps_mk]

theorem keeps_sendTxn (h : Keeps s t) (cls bytes o) : Keeps s (sendTxn t cls bytes o) := by
  unfold sendTxn
  grind [keeps_drainTxns, keeps_mk]

theorem keeps_sendIntr (h : Keeps s t) (n) : Keeps s (sendIntr t n) := by
  unfold sendIntr
  grind [keeps_sendTxn, keeps_mk]

theorem keeps_releaseIntr (h : Keeps s t) : Keeps s (releaseIntr t) := by
  unfold releaseIntr
  grind [keeps_sendIntr, keeps_mk, keeps_foldl]

theorem keeps_deliver (h : Keeps s t) (dest) : Keeps s (deliver t dest) := by
  unfold deliver
  grind [keeps_sendIntr, keeps_setCore, keeps_mk, smWf_smSet]

theorem keeps_deliverIfDue (h : Keeps s t) (dest) : Keeps s (deliverIfDue t dest) := by
  unfold deliverIfDue
  grind [keeps_deliver]

theorem keeps_destEvent (h : Keeps s t) (dest) : Keeps s (destEvent t dest) := by
  unfold destEvent
  grind [keeps_deliverIfDue, keeps_mk, smWf_smSet]

theorem keeps_raise (h : Keeps s t) (n) : Keeps s (raise t n) := by
  unfold raise
  grind [keeps_destEvent, keeps_mk, smWf_smSet]

theorem keeps_emcyOut (h : Keeps s t) (m) : Keeps s (emcyOut t m) := by
  unfold emcyOut
  grind [keeps_mk]

theorem keeps_emcy (h : Keeps s t) (code unit) : Keeps s (emcy t code unit) := by
  unfold emcy
  grind [keeps_emcyOut, keeps_mk]

theorem keeps_emcyClear (h : Keeps s t) : Keeps s (emcyClear t) := by
  unfold emcyClear
  grind [keeps_emcyOut, keeps_mk]

theorem keeps_writeRecord (h : Keeps s t) (n verdict window) : Keeps s (writeRecord t n verdict window) := by
  unfold writeRecord
  grind [keeps_raise, keeps_emcy, keeps_mk]

theorem keeps_fault (h : Keeps s t) (n) : Keeps s (fault t n) := by
  unfold fault
  grind [keeps_writeRecord, keeps_raise, keeps_mk]

theorem keeps_sendFrame (h : Keeps s t) (f k) : Keeps s (sendFrame t f k) := by
  unfold sendFrame
  grind [keeps_send]

theorem keeps_sendAllFrames (h : Keeps s t) (links f) : Keeps s (sendAllFrames t links f) := by
  unfold sendAllFrames
  grind [keeps_sendFrame, keeps_foldl]

theorem keeps_barrierAbort (h : Keeps s t) (comm gen status) : Keeps s (barrierAbort t comm gen status) := by
  unfold barrierAbort
  grind [keeps_sendAllFrames]

theorem keeps_modEntry (h : Keeps s t) (u g seq f) : Keeps s (t.modEntry u g seq f) := by
  unfold State.modEntry
  exact keeps_setCore h (by simp)

theorem keeps_modDesc (h : Keeps s t) (x q seq f) : Keeps s (t.modDesc x q seq f) := by
  unfold State.modDesc
  grind [keeps_setCtx]

theorem keeps_State_blame (h : Keeps s t) (a status) : Keeps s (t.blame a status) := by
  unfold State.blame
  grind [keeps_modDesc]

theorem keeps_grantTo (h : Keeps s t) (a) : Keeps s (t.grantTo a) := by
  unfold State.grantTo
  grind [keeps_modEntry, keeps_modDesc]

theorem keeps_cancelWaiter (h : Keeps s t) (a) : Keeps s (t.cancelWaiter a) := by
  unfold State.cancelWaiter
  grind [keeps_modEntry, keeps_modDesc]

theorem keeps_releaseWaiters (h : Keeps s t) (p) : Keeps s (releaseWaiters t p) := by
  unfold releaseWaiters
  grind [keeps_setCtr, keeps_cancelWaiter, keeps_State_blame, keeps_foldl]

theorem keeps_markCounter (h : Keeps s t) (p) : Keeps s (markCounter t p) := by
  unfold markCounter
  grind [keeps_releaseWaiters, keeps_setCtr]

theorem keeps_freezeCounter (h : Keeps s t) (p cause src) : Keeps s (freezeCounter t p cause src) := by
  unfold freezeCounter
  grind [keeps_setCtr, keeps_fault, keeps_raise, keeps_releaseWaiters, keeps_State_blame, keeps_mk]

theorem keeps_signalCounter (h : Keeps s t) (p a src reserved) : Keeps s (signalCounter t p a src reserved) := by
  unfold signalCounter
  grind [keeps_State_blame, keeps_setCtr, keeps_freezeCounter, keeps_mk]

theorem keeps_endSnapshot (h : Keeps s t) : Keeps s (endSnapshot t) := by
  unfold endSnapshot
  grind [keeps_raise, keeps_mk]

theorem keeps_returnReserve (h : Keeps s t) (p a) : Keeps s (returnReserve t p a) := by
  unfold returnReserve
  grind [keeps_setCtr]

theorem keeps_returnHeld (h : Keeps s t) (m) : Keeps s (returnHeld t m) := by
  unfold returnHeld
  grind [keeps_returnReserve]

theorem keeps_grantFirst (h : Keeps s t) (p) : Keeps s (grantFirst t p) := by
  unfold grantFirst
  grind [keeps_grantTo, keeps_setCtr]

theorem keeps_returnCredit (h : Keeps s t) (p) : Keeps s (returnCredit t p) := by
  unfold returnCredit
  grind [keeps_setCtr, keeps_signalCounter]

theorem keeps_arriveWaiter (h : Keeps s t) (p a) : Keeps s (arriveWaiter t p a) := by
  unfold arriveWaiter
  grind [keeps_setCtr, keeps_releaseWaiters]

theorem keeps_setBarrier (h : Keeps s t) (x slot b) : Keeps s (t.setBarrier x slot b) := by
  unfold State.setBarrier
  grind [keeps_setCtx]

theorem keeps_releaseBarrier (h : Keeps s t) (x slot) : Keeps s (releaseBarrier t x slot) := by
  unfold releaseBarrier
  grind [keeps_grantTo, keeps_foldl]

theorem keeps_completeRound (h : Keeps s t) (x slot) : Keeps s (completeRound t x slot) := by
  unfold completeRound
  grind [keeps_releaseBarrier, keeps_setBarrier, keeps_mk]

theorem keeps_multiBarrier (h : Keeps s t) (n k i) : Keeps s (multiBarrier n t k i) := by
  induction n generalizing t k i with
  | zero => exact h
  | succ n ih =>
    unfold multiBarrier
    grind [keeps_sendFrame, keeps_sendAllFrames, keeps_completeRound, keeps_mk]

theorem keeps_checkBarrier (h : Keeps s t) (x slot) : Keeps s (checkBarrier t x slot) := by
  unfold checkBarrier
  grind [keeps_multiBarrier, keeps_releaseBarrier, keeps_setBarrier]

theorem keeps_poisonHere (h : Keeps s t) (x slot overrun mismatch) : Keeps s (poisonHere t x slot overrun mismatch) := by
  unfold poisonHere
  grind [keeps_setBarrier, keeps_raise, keeps_cancelWaiter, keeps_State_blame, keeps_foldl]

theorem keeps_poisonBarrier (h : Keeps s t) (x slot overrun) : Keeps s (poisonBarrier t x slot overrun) := by
  unfold poisonBarrier
  grind [keeps_barrierAbort, keeps_poisonHere]

theorem keeps_enterBarrier (h : Keeps s t) (x slot vid m src) : Keeps s (enterBarrier t x slot vid m src) := by
  unfold enterBarrier
  grind [keeps_checkBarrier, keeps_setBarrier, keeps_fault, keeps_poisonBarrier, keeps_State_blame, keeps_mk]

theorem keeps_markVid (h : Keeps s t) (x vid) : Keeps s (markVid t x vid) := by
  unfold markVid
  grind [keeps_markCounter, keeps_poisonBarrier]

theorem keeps_waitBlame (h : Keeps s t) (x vid a) : Keeps s (t.waitBlame x vid a) := by
  unfold State.waitBlame
  grind [keeps_State_blame]

theorem keeps_setPort (h : Keeps s t) (p k) : Keeps s (setPort t p k) := by
  unfold setPort
  grind [keeps_raise, keeps_emcy, keeps_emcyClear, keeps_mk, smWf_smSet, keeps_foldl]

theorem keeps_setStream (h : Keeps s t) (dst n) : Keeps s (t.setStream dst n) := by
  unfold State.setStream
  grind [keeps_mk, smWf_smSet]

theorem keeps_transmit (h : Keeps s t) (p pkt) : Keeps s (transmit t p pkt) := by
  unfold transmit
  grind [keeps_send, keeps_mk, smWf_smSet]

theorem keeps_drainPort (h : Keeps s t) (n k) : Keeps s (drainPort n t k) := by
  induction n generalizing t with
  | zero => exact h
  | succ n ih =>
    unfold drainPort
    grind [keeps_transmit, keeps_mk, smWf_smSet]

theorem keeps_portSend (h : Keeps s t) (p pkt) : Keeps s (portSend t p pkt) := by
  unfold portSend
  grind [keeps_drainPort, keeps_mk, smWf_smSet]

theorem keeps_linkResend (h : Keeps s t) (p count) : Keeps s (linkResend t p count) := by
  unfold linkResend
  grind [keeps_send, keeps_mk, smWf_smSet, keeps_foldl]

theorem keeps_takeIn (h : Keeps s t) (p pkt) : Keeps s (takeIn t p pkt) := by
  unfold takeIn
  grind [keeps_send, keeps_mk, smWf_smSet, keeps_foldl]

theorem keeps_emitPacket (h : Keeps s t) (dst typ tag address payload tail again avoid trunc) :
    Keeps s (emitPacket t dst typ tag address payload tail again avoid trunc).1 := by
  unfold emitPacket
  grind [keeps_portSend, keeps_setStream, keeps_send]

theorem keeps_emit (h : Keeps s t) (dst typ tag address payload tail trunc) :
    Keeps s (emit t dst typ tag address payload tail trunc).1 := by
  unfold emit
  grind [keeps_emitPacket]

theorem keeps_answer (h : Keeps s t) (dst typ tag payload) : Keeps s (answer t dst typ tag payload) := by
  unfold answer
  grind [keeps_emit]

theorem keeps_beginStream (h : Keeps s t) (dst owner) : Keeps s (beginStream t dst owner) := by
  unfold beginStream
  grind [keeps_emit, keeps_setStream]

theorem keeps_sendNow (h : Keeps s t) (dst p) : Keeps s (sendNow t dst p) := by
  unfold sendNow
  grind [keeps_emit, keeps_setStream]

theorem keeps_drainWaiting (h : Keeps s t) (n k) : Keeps s (drainWaiting n t k) := by
  induction n generalizing t with
  | zero => exact h
  | succ n ih =>
    unfold drainWaiting
    grind [keeps_sendNow, keeps_setStream]

theorem keeps_failOwner (h : Keeps s t) (a status) : Keeps s (failOwner t a status) := by
  unfold failOwner
  grind [keeps_modEntry, keeps_State_blame, keeps_mk]

theorem keeps_sendPacket (h : Keeps s t) (dst typ address payload tail owner dest trunc) :
    Keeps s (sendPacket t dst typ address payload tail owner dest trunc) := by
  unfold sendPacket
  grind [keeps_failOwner, keeps_beginStream, keeps_drainWaiting, keeps_setStream]

theorem keeps_sendSignal (h : Keeps s t) (entry cancel amount owner) : Keeps s (sendSignal t entry cancel amount owner) := by
  unfold sendSignal
  grind [keeps_sendPacket, keeps_foldl]

theorem keeps_portFault (h : Keeps s t) (p key target) : Keeps s (portFault t p key target) := by
  unfold portFault
  grind [keeps_fault]

theorem keeps_portDown (h : Keeps s t) (p) : Keeps s (portDown t p) := by
  unfold portDown
  grind [keeps_setPort, keeps_portFault]

theorem keeps_corrected (h : Keeps s t) (n a) : Keeps s (corrected t n a) := by
  unfold corrected
  grind [keeps_fault, keeps_draw, keeps_mk]

theorem keeps_poisonAt (h : Keeps s t) (a) : Keeps s (t.poisonAt a) := by
  unfold State.poisonAt
  grind [keeps_mk, Memory.wf_poisonBlock]

end Sys2Proof.Machine
end

section
/-! PROOFS. What every operation keeps, second part: a run of a unit keeps memory in canonical form, and of its core the fence counts and the rings. -/

namespace Sys2Proof.Machine
variable {q r : Run}

/-! ### What every run of an instruction keeps -/

/-- A core that an operation of a running instruction makes of another: its rings stay, and so does the canonical form of its fence
counts. -/
structure Core.Keeps (b c : Core) : Prop where
  fences : smWf 0 b.fences = true → smWf 0 c.fences = true
  engine : c.engine = b.engine
  vector : c.vector = b.vector
  dma    : c.dma = b.dma

/-- What an instruction does to its run: the rings of its core stay, and so does the canonical form of memory and of the fence
counts. -/
structure Run.Keeps (q r : Run) : Prop where
  mem  : q.mem.wf = true → r.mem.wf = true
  core : Core.Keeps q.core r.core

variable {b c : Core}

theorem Core.Keeps.unit (h : Core.Keeps b c) (u : UnitKind) : c.unit u = b.unit u := by
  cases u
  · exact h.engine
  · exact h.vector
  · exact h.dma

theorem coreKeeps_refl (c : Core) : Core.Keeps c c := ⟨id, rfl, rfl, rfl⟩

theorem runKeeps_refl (r : Run) : Run.Keeps r r := ⟨id, coreKeeps_refl r.core⟩

theorem coreKeeps_mk (h : Core.Keeps b c) {skein tags fences capture vcapture invalid overflow truncated flush sticky
    vecInvalid vecOverflow vecDivZero red redTags line progress owner job watch work open_}
    (hf : smWf 0 c.fences = true → smWf 0 fences = true) :
    Core.Keeps b (Core.mk c.engine c.vector c.dma skein tags fences capture vcapture invalid overflow truncated flush sticky
      vecInvalid vecOverflow vecDivZero red redTags line progress owner job watch work open_) :=
  ⟨fun hb => hf (h.fences hb), h.engine, h.vector, h.dma⟩

theorem runKeeps_mk {mem core status halted invalid ovf trunc event flushed divZero notes addends pos tag pres slotFails packets}
    (hm : q.mem.wf = true → mem.wf = true) (hc : Core.Keeps q.core core) :
    Run.Keeps q (Run.mk mem core status halted invalid ovf trunc event flushed divZero notes addends pos tag pres slotFails packets) :=
  ⟨hm, hc⟩

theorem coreKeeps_foldl {α : Type} {f : Core → α → Core} (hf : ∀ c a, Core.Keeps b c → Core.Keeps b (f c a)) (l : List α)
    (h : Core.Keeps b c) : Core.Keeps b (l.foldl f c) := by
  induction l generalizing c with
  | nil => exact h
  | cons a l ih => exact ih (hf _ _ h)

theorem runKeeps_foldl {α : Type} {f : Run → α → Run} (hf : ∀ r a, Run.Keeps q r → Run.Keeps q (f r a)) (l : List α)
    (h : Run.Keeps q r) : Run.Keeps q (l.foldl f r) := by
  induction l generalizing r with
  | nil => exact h
  | cons a l ih => exact ih (hf _ _ h)

/-- Items that hand on a run and what they have gathered keep what the run keeps. -/
theorem runKeeps_foldl_fst {α β : Type} {f : Run × β → α → Run × β} (hf : ∀ p a, Run.Keeps q p.1 → Run.Keeps q (f p a).1) (l : List α)
    {p : Run × β} (h : Run.Keeps q p.1) : Run.Keeps q (l.foldl f p).1 := by
  induction l generalizing p with
  | nil => exact h
  | cons a l ih => exact ih (hf _ _ h)

/-- Updates one after another keep the canonical form of a table. -/
theorem smWf_foldl {α β : Type} [DecidableEq α] {d : α} {f : SMap α → β → SMap α}
    (hf : ∀ m x, smWf d m = true → smWf d (f m x) = true) (l : List β) {m : SMap α} (h : smWf d m = true) :
    smWf d (l.foldl f m) = true := by
  induction l generalizing m with
  | nil => exact h
  | cons x l ih => exact ih (hf _ _ h)

theorem runKeeps_halt (h : Run.Keeps q r) (n) : Run.Keeps q (r.halt n) := by
  unfold Run.halt
  grind [runKeeps_mk, Run.Keeps.core, Run.Keeps.mem]

theorem runKeeps_mark (h : Run.Keeps q r) (n) : Run.Keeps q (r.mark n) := by
  unfold Run.mark
  grind [runKeeps_mk, Run.Keeps.core, Run.Keeps.mem]

theorem runKeeps_memErr (h : Run.Keeps q r) (env e) : Run.Keeps q (r.memErr env e) := by
  unfold Run.memErr
  grind [runKeeps_halt]

theorem runKeeps_item (h : Run.Keeps q r) {f} (env det) (hf : ∀ r a1, Run.Keeps q r → Run.Keeps q (f r a1)) :
    Run.Keeps q (Run.item env det r f) := by
  unfold Run.item
  grind [runKeeps_halt, runKeeps_mark, runKeeps_mk, Run.Keeps.core, Run.Keeps.mem]

theorem runKeeps_rowItem (h : Run.Keeps q r) {f} (env det width) (hf : ∀ r a1, Run.Keeps q r → Run.Keeps q (f r a1)) :
    Run.Keeps q (Run.rowItem env det width r f) := by
  unfold Run.rowItem
  grind [runKeeps_halt, runKeeps_mark, runKeeps_mk, Run.Keeps.core, Run.Keeps.mem]

theorem runKeeps_beat (h : Run.Keeps q r) {f} (env det) (hf : ∀ r, Run.Keeps q r → Run.Keeps q (f r)) :
    Run.Keeps q (Run.beat env det r f) := by
  unfold Run.beat
  grind [runKeeps_halt, runKeeps_mk, Run.Keeps.core, Run.Keeps.mem]

theorem runKeeps_slotFail (h : Run.Keeps q r) (count j a) : Run.Keeps q (r.slotFail count j a) := by
  unfold Run.slotFail
  grind [runKeeps_mk, Run.Keeps.core, Run.Keeps.mem]

theorem runKeeps_invalidEvent (h : Run.Keeps q r) (seq row col batch k cause) :
    Run.Keeps q (r.invalidEvent seq row col batch k cause) := by
  unfold Run.invalidEvent
  grind [runKeeps_mk, Run.Keeps.core, Run.Keeps.mem]

theorem runKeeps_merge (h : Run.Keeps q r) (tag pres) : Run.Keeps q (r.merge tag pres) := by
  unfold Run.merge
  grind [runKeeps_mk, Run.Keeps.core, Run.Keeps.mem]

theorem runKeeps_write (h : Run.Keeps q r) (env cl w a bs) : Run.Keeps q (r.write env cl w a bs) := by
  unfold Run.write
  grind [runKeeps_memErr, runKeeps_mk, Memory.wf_writeMem, Run.Keeps.core, Run.Keeps.mem]

theorem runKeeps_mergeAt (h : Run.Keeps q r) (env a) : Run.Keeps q (r.mergeAt env a) := by
  unfold Run.mergeAt
  grind [runKeeps_memErr, runKeeps_mk, Memory.wf_mergeHeader, Run.Keeps.core, Run.Keeps.mem]

theorem coreKeeps_setTerm (h : Core.Keeps b c) (row p col n) : Core.Keeps b (c.setTerm row p col n) := by
  unfold Core.setTerm
  grind [coreKeeps_mk]

theorem coreKeeps_clearRows (h : Core.Keeps b c) (lo hi) : Core.Keeps b (c.clearRows lo hi) := by
  unfold Core.clearRows
  grind [coreKeeps_mk]

theorem coreKeeps_setTag (h : Core.Keeps b c) (row n) : Core.Keeps b (c.setTag row n) := by
  unfold Core.setTag
  grind [smWf_smSet, coreKeeps_mk]

theorem coreKeeps_clearNamedTags (h : Core.Keeps b c) (d) : Core.Keeps b (clearNamedTags c d) := by
  unfold clearNamedTags
  grind [coreKeeps_setTag, coreKeeps_foldl]

theorem coreKeeps_clearRedTags (h : Core.Keeps b c) (base n) : Core.Keeps b (clearRedTags c base n) := by
  unfold clearRedTags
  grind [smWf_smMod, coreKeeps_mk, coreKeeps_foldl]

theorem coreKeeps_refuseTags (h : Core.Keeps b c) (u d) : Core.Keeps b (refuseTags u c d) := by
  unfold refuseTags
  grind [coreKeeps_clearNamedTags, coreKeeps_clearRedTags]

theorem coreKeeps_countNumeric (h : Core.Keeps b c) (e) : Core.Keeps b (countNumeric c e) := by
  unfold countNumeric
  grind [coreKeeps_mk]

theorem coreKeeps_countVector (h : Core.Keeps b c) (e) : Core.Keeps b (countVector c e) := by
  unfold countVector
  grind [coreKeeps_mk]

theorem coreKeeps_beginRow (h : Core.Keeps b c) (d row) : Core.Keeps b (beginRow c d row) := by
  unfold beginRow
  grind [coreKeeps_setTag, coreKeeps_foldl]

theorem runKeeps_tzroBody (h : Run.Keeps q r) (det env e) : Run.Keeps q (tzroBody det env e r) := by
  unfold tzroBody
  grind [runKeeps_rowItem, coreKeeps_beginRow, coreKeeps_clearRows, coreKeeps_setTerm, runKeeps_mk, runKeeps_foldl, Run.Keeps.core,
    Run.Keeps.mem]

theorem coreKeeps_placeRow (h : Core.Keeps b c) (row p mark terms) : Core.Keeps b (placeRow c row p mark terms) := by
  unfold placeRow
  grind [coreKeeps_setTerm, coreKeeps_foldl]

theorem runKeeps_tpreBody (h : Run.Keeps q r) (det env e) : Run.Keeps q (tpreBody det env e r) := by
  unfold tpreBody
  refine runKeeps_foldl (fun r bt h => runKeeps_rowItem h env det _ fun r mark h => ?_) _ h
  dsimp only
  split
  · exact runKeeps_memErr h ..
  · exact runKeeps_mk h.mem (coreKeeps_placeRow (coreKeeps_beginRow (coreKeeps_clearRows h.core ..) ..) ..)

theorem runKeeps_trstBody (h : Run.Keeps q r) (det env e) : Run.Keeps q (trstBody det env e r) := by
  unfold trstBody
  refine runKeeps_foldl (fun r bt h => runKeeps_rowItem h env det _ fun r mark h => ?_) _ h
  dsimp only
  split
  · exact runKeeps_memErr h ..
  · refine runKeeps_foldl (fun r i h => ?_) _
      (runKeeps_mk h.mem (coreKeeps_placeRow (coreKeeps_beginRow (coreKeeps_clearRows h.core ..) ..) ..))
    split
    · exact runKeeps_slotFail h ..
    · exact h

theorem runKeeps_addColumn (h : Run.Keeps q r) (d seq b n k kFirst mark ps) : Run.Keeps q (addColumn d seq b n k kFirst mark r ps) := by
  unfold addColumn
  grind [coreKeeps_setTerm, runKeeps_invalidEvent, runKeeps_mk, Run.Keeps.core, Run.Keeps.mem]

theorem runKeeps_tmulBeat (h : Run.Keeps q r) (det env g e) : Run.Keeps q (tmulBeat det env g e r) := by
  unfold tmulBeat
  refine runKeeps_rowItem h env det _ fun r mark h => ?_
  split
  · exact runKeeps_memErr h ..
  · split
    · exact runKeeps_memErr h ..
    · exact runKeeps_foldl (fun r n h => runKeeps_addColumn h ..) _ h

theorem runKeeps_tmulLoop (h : Run.Keeps q r) (det env g e n) : Run.Keeps q (tmulLoop det env g e n r) := by
  induction n generalizing r with
  | zero => exact h
  | succ n ih =>
    unfold tmulLoop
    split
    · exact h
    · exact ih (runKeeps_tmulBeat h ..)

theorem coreKeeps_fenceAfter (h : Core.Keeps b c) (d lo hi) : Core.Keeps b (fenceAfter c d lo hi) := by
  unfold fenceAfter
  refine coreKeeps_mk h fun hf => ?_
  have hkeep : smWf 0 (if hi - lo ≥ 14 then [] else c.fences) = true := by
    split
    · rfl
    · exact hf
  exact smWf_foldl (fun m q hm => smWf_smMod hm ..) _ hkeep

theorem runKeeps_tmulBody (h : Run.Keeps q r) (beats det g env e) : Run.Keeps q (tmulBody beats det g env e r) := by
  unfold tmulBody
  grind [runKeeps_tmulLoop, coreKeeps_fenceAfter, runKeeps_mk, Run.Keeps.core, Run.Keeps.mem]

theorem runKeeps_clearRead (h : Run.Keeps q r) (d b n) : Run.Keeps q (clearRead d b n r) := by
  unfold clearRead
  grind [coreKeeps_clearRows, runKeeps_mk, Run.Keeps.core, Run.Keeps.mem]

theorem runKeeps_readRows (h : Run.Keeps q r) {f} (det env e width) (hf : ∀ a0 a1 a2 r, Run.Keeps q r → Run.Keeps q (f a0 a1 a2 r)) :
    Run.Keeps q (readRows det env e width f r) := by
  unfold readRows
  grind [runKeeps_rowItem, runKeeps_clearRead, runKeeps_foldl]

theorem runKeeps_drainElem {p : Run × Bytes} (h : Run.Keeps q p.1) (env g e b n mark k) :
    Run.Keeps q (drainElem env g e b n mark p k).1 := by
  unfold drainElem
  grind [runKeeps_merge, runKeeps_invalidEvent, runKeeps_mk, Run.Keeps.core, Run.Keeps.mem]

theorem runKeeps_tdrnBody (h : Run.Keeps q r) (det g env e) : Run.Keeps q (tdrnBody det g env e r) := by
  unfold tdrnBody
  grind [runKeeps_readRows, runKeeps_drainElem, runKeeps_write, runKeeps_mergeAt, runKeeps_foldl, runKeeps_foldl_fst]

theorem runKeeps_tsavBody (h : Run.Keeps q r) (det g env e) : Run.Keeps q (tsavBody det g env e r) := by
  unfold tsavBody
  grind [runKeeps_readRows, runKeeps_merge, runKeeps_write, runKeeps_mergeAt, runKeeps_foldl]

theorem runKeeps_tatmBody (h : Run.Keeps q r) (det g env e) : Run.Keeps q (tatmBody det g env e r) := by
  unfold tatmBody
  grind [runKeeps_readRows, runKeeps_mk, Run.Keeps.core, Run.Keeps.mem]

theorem runKeeps_tmovBody (h : Run.Keeps q r) (det env e) : Run.Keeps q (tmovBody det env e r) := by
  unfold tmovBody
  refine runKeeps_foldl (fun r n h => runKeeps_rowItem h env det _ fun r mark h => ?_) _ h
  extract_lets old new moved cleared
  have hmoved : Core.Keeps q.core moved :=
    coreKeeps_foldl (fun c j h => coreKeeps_setTag (coreKeeps_mk (coreKeeps_clearRows h ..) id) ..) _ h.core
  have hcleared : Core.Keeps q.core cleared := by
    unfold cleared
    split
    · exact coreKeeps_foldl (fun c j h => coreKeeps_setTag h ..) _ (coreKeeps_clearRows hmoved ..)
    · exact hmoved
  refine runKeeps_mk h.mem ?_
  split
  · exact coreKeeps_setTerm hcleared ..
  · exact hcleared

theorem coreKeeps_clearOverwritten (h : Core.Keeps b c) (u) : Core.Keeps b (clearOverwritten c u) := by
  unfold clearOverwritten
  grind [coreKeeps_mk]

theorem coreKeeps_spoilSkein (h : Core.Keeps b c) (key) : Core.Keeps b (spoilSkein c key) := by
  unfold spoilSkein
  grind [coreKeeps_setTerm]

theorem coreKeeps_spoilRed (h : Core.Keeps b c) (key) : Core.Keeps b (spoilRed c key) := by
  unfold spoilRed
  grind [smWf_smSet, coreKeeps_mk, coreKeeps_foldl]

theorem runKeeps_deliverTo (h : Run.Keeps q r) (env cl dst bs) : Run.Keeps q (r.deliverTo env cl dst bs) := by
  unfold Run.deliverTo
  grind [runKeeps_write, runKeeps_mk, Run.Keeps.core, Run.Keeps.mem]

theorem runKeeps_dcopyBody (h : Run.Keeps q r) (det g env e) : Run.Keeps q (dcopyBody det g env e r) := by
  unfold dcopyBody
  grind [runKeeps_beat, runKeeps_memErr, runKeeps_deliverTo, runKeeps_mk, Memory.wf_readCached, runKeeps_foldl, Run.Keeps.core,
    Run.Keeps.mem]

theorem runKeeps_dfillBody (h : Run.Keeps q r) (det g env e) : Run.Keeps q (dfillBody det g env e r) := by
  unfold dfillBody
  grind [runKeeps_beat, runKeeps_deliverTo, runKeeps_foldl]

theorem runKeeps_dhinitBody (h : Run.Keeps q r) (det g env e) : Run.Keeps q (dhinitBody det g env e r) := by
  unfold dhinitBody
  refine runKeeps_beat h env det fun r h => ?_
  split
  · exact runKeeps_memErr h ..
  · exact runKeeps_write h ..

theorem runKeeps_dhashBody (h : Run.Keeps q r) (det g env e) : Run.Keeps q (dhashBody det g env e r) := by
  unfold dhashBody
  grind [runKeeps_beat, runKeeps_memErr, runKeeps_write]

theorem runKeeps_dinvalBody (h : Run.Keeps q r) (g env e) : Run.Keeps q (dinvalBody g env e r) := by
  unfold dinvalBody
  grind [runKeeps_mk, Memory.wf_invalidate, Run.Keeps.core, Run.Keeps.mem]

theorem runKeeps_dhaloBody (h : Run.Keeps q r) (det g env e) : Run.Keeps q (dhaloBody det g env e r) := by
  unfold dhaloBody
  grind [runKeeps_beat, runKeeps_memErr, runKeeps_write, runKeeps_mk, runKeeps_foldl, Run.Keeps.core, Run.Keeps.mem]

theorem runKeeps_vEvent (h : Run.Keeps q r) (seq row col cause) : Run.Keeps q (r.vEvent seq row col cause) := by
  unfold Run.vEvent
  grind [runKeeps_invalidEvent]

theorem runKeeps_vElement {p : Run × List Nat} (h : Run.Keeps q p.1) (env det g e row x) :
    Run.Keeps q (vElement env det g e row p x).1 := by
  unfold vElement
  grind [runKeeps_merge, runKeeps_mark, runKeeps_vEvent, runKeeps_mk, Run.Keeps.core, Run.Keeps.mem]

theorem runKeeps_vWrite (h : Run.Keeps q r) (env g d a bits) : Run.Keeps q (vWrite env g d a r bits) := by
  unfold vWrite
  grind [runKeeps_write]

theorem runKeeps_vHeader (h : Run.Keeps q r) (env d) : Run.Keeps q (r.vHeader env d) := by
  unfold Run.vHeader
  grind [runKeeps_mergeAt]

theorem runKeeps_elementBody (h : Run.Keeps q r) (det g env e) : Run.Keeps q (elementBody det g env e r) := by
  unfold elementBody
  grind [runKeeps_beat, runKeeps_memErr, runKeeps_vElement, runKeeps_vWrite, runKeeps_vHeader, runKeeps_mk, runKeeps_foldl,
    Run.Keeps.core, Run.Keeps.mem, runKeeps_foldl_fst]

theorem coreKeeps_setReg (h : Core.Keeps b c) (r p n) : Core.Keeps b (c.setReg r p n) := by
  unfold Core.setReg
  grind [coreKeeps_mk]

theorem coreKeeps_setRegTag (h : Core.Keeps b c) (r n) : Core.Keeps b (c.setRegTag r n) := by
  unfold Core.setRegTag
  grind [smWf_smSet, coreKeeps_mk]

theorem coreKeeps_beginReg (h : Core.Keeps b c) (d i) : Core.Keeps b (beginReg d c i) := by
  unfold beginReg
  grind [coreKeeps_setRegTag, coreKeeps_setReg]

theorem runKeeps_redEvents (h : Run.Keeps q r) (d seq row old tree xs) : Run.Keeps q (redEvents d seq row old tree xs r) := by
  unfold redEvents
  refine runKeeps_foldl_fst (fun p x h => ?_) _ h
  grind [runKeeps_vEvent, runKeeps_invalidEvent, runKeeps_mk, Run.Keeps.core, Run.Keeps.mem]

theorem runKeeps_redBeat (h : Run.Keeps q r) (env det g e row n0) : Run.Keeps q (redBeat env det g e row n0 r) := by
  unfold redBeat
  grind [runKeeps_memErr, runKeeps_redEvents, runKeeps_mark, coreKeeps_setReg, runKeeps_mk, Run.Keeps.core, Run.Keeps.mem]

theorem runKeeps_reductionBody (h : Run.Keeps q r) (det g env e) : Run.Keeps q (reductionBody det g env e r) := by
  unfold reductionBody
  extract_lets d begun
  have hbegun : Run.Keeps q begun := runKeeps_mk h.mem (coreKeeps_foldl (fun c i h => coreKeeps_beginReg h ..) _ h.core)
  split
  · exact runKeeps_mk hbegun.mem hbegun.core
  · exact runKeeps_foldl (fun r b h => runKeeps_beat h env det fun r h => runKeeps_redBeat h ..) _ hbegun

theorem runKeeps_maxBody (h : Run.Keeps q r) (det g env e) : Run.Keeps q (maxBody det g env e r) := by
  unfold maxBody
  extract_lets d rows ended
  have hrows : Run.Keeps q rows := runKeeps_foldl (fun r row h => runKeeps_beat h env det fun r h => by
    grind [runKeeps_memErr, runKeeps_mark, runKeeps_merge, runKeeps_vWrite, runKeeps_mk, Run.Keeps.core, Run.Keeps.mem]) _ h
  have hended : Run.Keeps q ended := runKeeps_vHeader hrows ..
  split
  · exact runKeeps_mk hended.mem hended.core
  · exact hended

theorem runKeeps_ifColumns (h : Run.Keeps q r) {f} (d) (hf : ∀ r, Run.Keeps q r → Run.Keeps q (f r)) : Run.Keeps q (r.ifColumns d f) := by
  unfold Run.ifColumns
  grind [runKeeps_mk, Run.Keeps.core, Run.Keeps.mem]

theorem runKeeps_vrdrnBody (h : Run.Keeps q r) (det g env e) : Run.Keeps q (vrdrnBody det g env e r) := by
  unfold vrdrnBody
  refine runKeeps_ifColumns h _ fun r h => runKeeps_vHeader (runKeeps_foldl (fun r i h => runKeeps_item h env det fun r mark h => ?_) _ h) ..
  grind [runKeeps_vEvent, runKeeps_merge, runKeeps_vWrite, runKeeps_mk, Run.Keeps.core, Run.Keeps.mem]

theorem runKeeps_vrsavBody (h : Run.Keeps q r) (det g env e) : Run.Keeps q (vrsavBody det g env e r) := by
  unfold vrsavBody
  grind [runKeeps_ifColumns, runKeeps_item, runKeeps_write, runKeeps_merge, runKeeps_vHeader, runKeeps_foldl]

theorem runKeeps_vrrstBody (h : Run.Keeps q r) (det env e) : Run.Keeps q (vrrstBody det env e r) := by
  unfold vrrstBody
  generalize savedWindow (vIn e.desc) = w
  refine runKeeps_ifColumns h _ fun r h => runKeeps_foldl (fun r i h => runKeeps_item h env det fun r mark h => ?_) _ h
  dsimp only
  split
  · exact runKeeps_memErr h ..
  · split
    · exact runKeeps_slotFail (runKeeps_mk h.mem (coreKeeps_setRegTag (coreKeeps_setReg h.core ..) ..)) ..
    · exact runKeeps_mk h.mem (coreKeeps_setRegTag (coreKeeps_setReg h.core ..) ..)

theorem runKeeps_vratmBody (h : Run.Keeps q r) (det g env e) : Run.Keeps q (vratmBody det g env e r) := by
  unfold vratmBody
  grind [runKeeps_ifColumns, runKeeps_item, runKeeps_mk, runKeeps_foldl, Run.Keeps.core, Run.Keeps.mem]

theorem coreKeeps_putRow (h : Core.Keeps b c) (r) : Core.Keeps b (putRow c r) := by
  unfold putRow
  grind [smWf_smSet, coreKeeps_mk, coreKeeps_foldl]

end Sys2Proof.Machine
end

section
/-! PROOFS. What every operation keeps, third part: the units and their instructions, context save, plans. -/

namespace Sys2Proof.Machine
variable {s t u : State} {q r : Run}

theorem keeps_refetchLine (h : Keeps s t) (cl addr n) : Keeps s (refetchLine t cl addr n) := by
  unfold refetchLine
  grind [keeps_fault, keeps_draw, Memory.wf, keeps_mk, smWf_smMod]

theorem keeps_preDetect (h : Keeps s t) (det a) : Keeps s (preDetect t det a) := by
  unfold preDetect
  grind [keeps_refetchLine, keeps_poisonAt, keeps_corrected]

theorem keeps_writeNotes (h : Keeps s t) (a opcode notes) : Keeps s (writeNotes t a opcode notes) := by
  unfold writeNotes
  grind [keeps_fault, keeps_foldl]

theorem keeps_returnReservation (h : Keeps s t) (u g e) : Keeps s (returnReservation t u g e) := by
  unfold returnReservation
  grind [keeps_returnReserve, keeps_endSnapshot, keeps_modEntry]

/-- The fence counts of a core whose tags a refusal clears stay. -/
@[simp] theorem fences_refuseTags (u : UnitKind) (c : Core) (d : Bytes) (h : smWf 0 c.fences = true) :
    smWf 0 (refuseTags u c d).fences = true :=
  (coreKeeps_refuseTags (coreKeeps_refl c) u d).fences h

theorem keeps_refuse (h : Keeps s t) (u g e status) : Keeps s (refuse t u g e status) := by
  unfold refuse
  grind [keeps_returnReservation, keeps_modEntry, keeps_setCore, fences_refuseTags]

theorem keeps_takeReserve (h : Keeps s t) (u g e) : Keeps s (takeReserve t u g e) := by
  unfold takeReserve
  grind [keeps_modEntry, keeps_setCtr, keeps_endSnapshot]

theorem keeps_sendAll (h : Keeps s t) (a entry tail count trunc packets) : Keeps s (sendAll t a entry tail count trunc packets) := by
  induction packets generalizing t with
  | nil => exact h
  | cons p packets ih =>
    unfold sendAll
    grind [keeps_sendPacket]

theorem keeps_finish (h : Keeps s t) {u e r ph worked} {g : CoreId} (hm : t.mem.wf = true → r.mem.wf = true)
    (hc : smWf 0 (t.core g).fences = true → smWf 0 r.core.fences = true) : Keeps s (finish t u g e r ph worked) := by
  have hcore (hs : s.wf = true) := hc (h.fences hs g)
  unfold finish
  grind [keeps_sendAll, keeps_mk, keeps_putCore, keeps_modEntry, keeps_writeNotes]

theorem keeps_unitOp (h : Keeps s t) {u opcode seq det check ask rules body phase} {g : CoreId} (hask : ∀ t e, Keeps s t → Keeps s (ask t e))
    (hbody : ∀ t e r, Run.Keeps r (body t e r)) : Keeps s (unitOp u opcode g seq det t check ask rules body phase) := by
  have hrun {t : State} (h : Keeps s t) (env : State) (e : WinEntry) (r : Run) (ph : Phase) (w : Bool) (hm : r.mem = t.mem)
      (hc : r.core = t.core g) : Keeps s (finish t u g e (body env e r) ph w) :=
    keeps_finish h (fun hw => (hbody env e r).mem (hm ▸ hw)) (fun hf => (hbody env e r).core.fences (hc ▸ hf))
  unfold unitOp
  dsimp only
  split
  · exact h
  · split
    · exact h
    · have hdet := keeps_preDetect h det (unitActor u g seq)
      split
      · exact hask _ _ hdet
      · exact keeps_writeNotes (keeps_modEntry hdet ..) ..
      · exact keeps_refuse hdet ..
      · have hissue (f : WinEntry → WinEntry) := keeps_modEntry hdet u g seq f
        split
        · exact keeps_refuse (keeps_waitBlame (hissue _) ..) ..
        · exact hissue _
        · split
          · exact keeps_modEntry (hissue _) ..
          · have hres (f : WinEntry → WinEntry) (e : WinEntry) := keeps_takeReserve (hissue f) u g e
            split
            · exact keeps_modEntry (hres _ _) ..
            · split
              · exact keeps_finish (hres _ _) id id
              · exact hrun (hres _ _) _ _ _ _ _ rfl rfl

theorem keeps_noteNamed (h : Keeps s t) (a d) : Keeps s (noteNamed t a d) := by
  unfold noteNamed
  grind [keeps_modDesc]

theorem fences_setUnit (u : UnitKind) (r : UnitRing) (c : Core) (h : smWf 0 c.fences = true) :
    smWf 0 (c.setUnit u r).fences = true := by
  rwa [Core.setUnit_fences]

theorem keeps_fetch (h : Keeps s t) (u g det) : Keeps s (fetch u g det t) := by
  have hdet := keeps_preDetect h det (unitActor u g (t.unitOf u g).nextSeq)
  fun_cases fetch
  case case1 => exact hdet
  case case2 => exact keeps_writeNotes (keeps_setCore hdet (fences_setUnit _ _ _)) ..
  case case3 => exact keeps_writeNotes (keeps_setCore hdet (fences_setUnit _ _ _)) ..
  case case4 => exact keeps_noteNamed (keeps_setCore hdet (fences_setUnit _ _ _)) ..

theorem keeps_issueNext (h : Keeps s t) (g) : Keeps s (issueNext t g) := by
  unfold issueNext
  dsimp only
  split
  · exact h
  · split
    · exact h
    · refine keeps_setCore ?_ (by simp [State.core])
      grind [keeps_mk, Memory.wf_putBytes]

theorem keeps_writeRecords (h : Keeps s t) (u g n) : Keeps s (writeRecords u g n t) := by
  induction n generalizing t with
  | zero => exact h
  | succ n ih =>
    unfold writeRecords
    dsimp only
    split
    · exact h
    · split
      · exact h
      · have hrecord (p : Nat) (bs : Bytes) : Keeps s { t with mem := t.mem.putBytes p bs } := by grind [keeps_mk, Memory.wf_putBytes]
        grind [keeps_issueNext, keeps_modDesc, keeps_State_blame, keeps_raise, keeps_setCore, Core.setUnit_fences]

theorem fences_countNumeric (c : Core) (e : WinEntry) (h : smWf 0 c.fences = true) : smWf 0 (countNumeric c e).fences = true :=
  (coreKeeps_countNumeric (coreKeeps_refl c) e).fences h

theorem fences_countVector (c : Core) (e : WinEntry) (h : smWf 0 c.fences = true) : smWf 0 (countVector c e).fences = true :=
  (coreKeeps_countVector (coreKeeps_refl c) e).fences h

theorem keeps_reportNumeric (h : Keeps s t) (u g e) : Keeps s (reportNumeric t u g e) := by
  unfold reportNumeric
  grind [fences_countNumeric, keeps_setCore, keeps_raise, fences_countVector]

theorem keeps_produceSignal (h : Keeps s t) (u g e) : Keeps s (produceSignal t u g e) := by
  unfold produceSignal
  grind [keeps_sendSignal, keeps_poisonBarrier, keeps_mk, smWf_smSet]

theorem keeps_enterDip (h : Keeps s t) (u g e) : Keeps s (enterDip t u g e) := by
  unfold enterDip
  grind [keeps_mk, smWf_smSet]

theorem keeps_noteTile (h : Keeps s t) (u g e) : Keeps s (noteTile t u g e) := by
  unfold noteTile
  grind [keeps_setCore]

theorem keeps_noteDip (h : Keeps s t) (u g e) : Keeps s (noteDip t u g e) := by
  unfold noteDip
  grind [keeps_noteTile, keeps_enterDip]

theorem keeps_retire (h : Keeps s t) (u g seq) : Keeps s (retire u g seq t) := by
  unfold retire
  extract_lets ring
  split
  · exact h
  · extract_lets refusedHeld s1 e1 e2 lost _ s2 e3 s3 good s4 s5 s6 s7 r s8
    have h1 : Keeps s s1 := by grind [keeps_setCore, fences_refuseTags]
    have h2 : Keeps s s2 := by grind [keeps_mk]
    have h3 : Keeps s s3 := keeps_modEntry h2 ..
    have h4 : Keeps s s4 := by grind [keeps_returnReservation]
    have h7 : Keeps s s7 := keeps_noteDip (keeps_produceSignal (keeps_reportNumeric h4 ..) ..) ..
    have h8 : Keeps s s8 := by grind [keeps_setCore, Core.setUnit_fences]
    grind [keeps_writeRecords]

theorem keeps_askHeader (h : Keeps s t) (u g target e) : Keeps s (askHeader u g target t e) := by
  unfold askHeader
  grind [keeps_modEntry, keeps_failOwner, keeps_sendPacket]

theorem keeps_engineOp (h : Keeps s t) (opcode) (g : CoreId) (seq det) {body} (hbody : ∀ t e r, Run.Keeps r (body t e r)) (phase) :
    Keeps s (engineOp opcode g seq det t body phase) := by
  unfold engineOp
  exact keeps_unitOp h (fun t e h => keeps_askHeader h ..) hbody

theorem keeps_storeDescs (h : Keeps s t) (u g i descs) : Keeps s (storeDescs t u g i descs) := by
  induction descs generalizing t i with
  | nil => exact h
  | cons d descs ih => exact ih (keeps_mk h (fun hm => Memory.wf_writeMem _ _ _ _ hm) id id id id id id id id id id) _

theorem keeps_releaseWrite (h : Keeps s t) (u g release) : Keeps s (releaseWrite u g release t) := by
  unfold releaseWrite
  grind [keeps_setCore, Core.setUnit_fences]

theorem keeps_resumeTmul (h : Keeps s t) (g seq) : Keeps s (resumeTmul g seq t) := by
  unfold resumeTmul
  grind [keeps_modEntry, keeps_setCore]

theorem keeps_reloadTmul (h : Keeps s t) (g) : Keeps s (reloadTmul g t) := by
  fun_cases reloadTmul
  case case5 => exact keeps_setCore h id
  all_goals exact h

theorem keeps_noteWatch (h : Keeps s t) (g seq) : Keeps s (noteWatch t g seq) := by
  unfold noteWatch
  grind [keeps_setCore]

theorem keeps_abandonOne (h : Keeps s t) (u g e) : Keeps s (abandonOne u g t e) := by
  unfold abandonOne
  grind [keeps_returnReservation, keeps_returnCredit, keeps_setCtr]

theorem keeps_abandon (h : Keeps s t) (u g) : Keeps s (abandon u g t) := by
  unfold abandon
  grind [keeps_abandonOne, keeps_setCore, Core.setUnit_fences, keeps_foldl]

theorem keeps_parkCore (h : Keeps s t) (x g running) : Keeps s (parkCore t x g running) := by
  unfold parkCore
  exact keeps_setCore (keeps_setCtx h ..) (by simp [State.core])

theorem keeps_putBack (h : Keeps s t) (g d) : Keeps s (putBack t g d) := by
  unfold putBack
  grind [keeps_setCore, Core.setUnit_fences, keeps_mk, Memory.wf_putBytes]

theorem keeps_unparkCore (h : Keeps s t) (x g) : Keeps s (unparkCore t x g) := by
  have hcore (hs : s.wf = true) := h.fences hs g
  unfold unparkCore
  grind [keeps_setCtx, keeps_putCore, keeps_foldl, keeps_putBack, keeps_mk, Memory.wf_putBytes]

theorem keeps_dmaOp (h : Keeps s t) (opcode) (g : CoreId) (seq det) {body} (hbody : ∀ t e r, Run.Keeps r (body t e r)) :
    Keeps s (dmaOp opcode g seq det t body) := by
  unfold dmaOp
  exact keeps_unitOp h (fun t e h => h) hbody

theorem keeps_vectorOp (h : Keeps s t) (opcode) (g : CoreId) (seq det) {body} (hbody : ∀ t e r, Run.Keeps r (body t e r)) :
    Keeps s (vectorOp opcode g seq det t body) := by
  unfold vectorOp
  exact keeps_unitOp h (fun t e h => keeps_askHeader h ..) hbody

theorem keeps_settleScratch (h : Keeps s t) : Keeps s (settleScratch t) := by
  unfold settleScratch
  grind [keeps_foldl, keeps_mk, Memory.wf, invalidate]

theorem keeps_loadTrans (h : Keeps s t) (x p n phys) : Keeps s (loadTrans x p t n phys) := by
  unfold loadTrans
  grind [keeps_setCtx, keeps_setCtr, keeps_setBarrier, smWf_smSet]

theorem keeps_loadAllTrans (h : Keeps s t) (x p fs ts) : Keeps s (loadAllTrans x p fs ts t) := by
  induction ts generalizing t fs with
  | nil => exact h
  | cons r ts ih =>
    unfold loadAllTrans
    grind [keeps_loadTrans]

theorem keeps_takePlan (h : Keeps s t) (x p) : Keeps s (takePlan t x p) := by
  unfold takePlan
  grind [keeps_setCtx, keeps_setBarrier, keeps_loadAllTrans, keeps_setCtr, keeps_settleScratch, keeps_mk, keeps_foldl]

theorem keeps_dropPlan (h : Keeps s t) (x) : Keeps s (dropPlan t x) := by
  unfold dropPlan
  grind [keeps_setCtx, keeps_settleScratch, keeps_mk, smWf_filter]

theorem keeps_clearShortfalls (h : Keeps s t) (x) : Keeps s (clearShortfalls t x) := by
  unfold clearShortfalls
  grind [keeps_setCtx]

theorem keeps_admitPlan (h : Keeps s t) (x a who) : Keeps s (admitPlan t x a who).1 := by
  unfold admitPlan
  grind [keeps_writeNotes, keeps_takePlan, keeps_setCtx]

end Sys2Proof.Machine
end

section
/-! PROOFS. What every operation keeps, fourth part: collective instances and what a RUN makes ready. -/

namespace Sys2Proof.Machine
variable {s t u : State} {q r : Run}

theorem keeps_initHeader (h : Keeps s t) {n hint a} (e : initHeader t n hint a = .ok u) : Keeps s u := by
  unfold initHeader at e
  grind [keeps_mk, Memory.wf_writeMem]

theorem keeps_modQueue (h : Keeps s t) (x q f) : Keeps s (t.modQueue x q f) := by
  unfold State.modQueue
  grind [keeps_setCtx]

theorem keeps_failFlip (h : Keeps s t) (x status) : Keeps s (failFlip t x status) := by
  unfold failFlip
  grind [keeps_setCtx, keeps_setBarrier, keeps_modQueue, keeps_modDesc]

theorem keeps_writeRuns (h : Keeps s t) (base n) : Keeps s (writeRuns t base n).1 := by
  induction n generalizing t with
  | nil => exact h
  | cons r n ih =>
    unfold writeRuns
    grind [keeps_mk, Memory.wf_writeMem]

theorem keeps_modInst (h : Keeps s t) (comm seq f) : Keeps s (t.modInst comm seq f) := by
  unfold State.modInst
  grind [keeps_mk, smWf_smMod]

theorem smWf_smDrop {α : Type} [DecidableEq α] {d : α} {m : SMap α} (h : smWf d m = true) (x : Nat) : smWf d (smDrop m x) = true :=
  smWfFrom_smDrop h

/-- A value that is not the table's default can be written without a test. -/
theorem smWf_smPut {α : Type} [DecidableEq α] {d : α} {m : SMap α} (h : smWf d m = true) (x : Nat) {y : α} (hy : y ≠ d) :
    smWf d (smPut m x y) = true :=
  smWfFrom_smPut hy (Nat.zero_le _) h

theorem keeps_freeInst (h : Keeps s t) (i status) : Keeps s (t.freeInst i status) := by
  unfold State.freeInst
  grind [keeps_mk, smWf_smDrop]

theorem keeps_takeSlot (h : Keeps s t) {x c seq} (e : takeSlot t x c seq = some u) : Keeps s u := by
  revert e
  fun_cases takeSlot <;> rintro ⟨⟩
  refine keeps_mk h id id id id id id id id id id fun hi => smWf_smPut hi _ fun hd => ?_
  exact absurd (congrArg Instance.st hd) (by simp)

theorem keeps_sendUps (h : Keeps s t) (i round tree link pays) : Keeps s (sendUps t i round tree link pays) := by
  unfold sendUps
  grind [keeps_modInst, keeps_sendFrame, keeps_foldl]

theorem keeps_sendDowns (h : Keeps s t) (i round tree pays) : Keeps s (sendDowns t i round tree pays) := by
  unfold sendDowns
  grind [keeps_modInst, keeps_sendFrame, keeps_foldl]

theorem keeps_Instance_blame (h : Keeps s t) (i status) : Keeps s (Instance.blame t i status) := by
  unfold Instance.blame
  grind [keeps_modDesc]

theorem keeps_dropPermute (h : Keeps s t) (i status) : Keeps s (dropPermute t i status) := by
  unfold dropPermute
  grind [keeps_failFlip]

theorem keeps_poisonInst (h : Keeps s t) (i reason) : Keeps s (poisonInst t i reason) := by
  unfold poisonInst
  grind [keeps_dropPermute, keeps_Instance_blame, keeps_modInst, keeps_raise, keeps_mk]

theorem keeps_abortDown (h : Keeps s t) (i status) : Keeps s (abortDown t i status) := by
  unfold abortDown
  grind [keeps_modInst, keeps_sendFrame, keeps_freeInst, keeps_dropPermute, keeps_Instance_blame, keeps_foldl]

theorem keeps_abortUp (h : Keeps s t) (i status) : Keeps s (abortUp t i status) := by
  unfold abortUp
  grind [keeps_sendFrame, keeps_abortDown]

theorem keeps_memberAbort (h : Keeps s t) (i status) : Keeps s (memberAbort t i status) := by
  unfold memberAbort
  grind [keeps_modInst, keeps_Instance_blame, keeps_abortUp]

theorem keeps_endCall (h : Keeps s t) (c seq status) : Keeps s (endCall t c seq status) := by
  unfold endCall
  grind [keeps_memberAbort, keeps_sendFrame, keeps_mk, keeps_foldl]

theorem keeps_advanceCall (h : Keeps s t) (x comm) : Keeps s (advanceCall t x comm) := by
  unfold advanceCall
  grind [keeps_setCtx]

theorem keeps_applyRelease (h : Keeps s t) (i) : Keeps s (applyRelease t i) := by
  unfold applyRelease
  grind [keeps_sendDowns, keeps_modDesc, keeps_setCtx, keeps_freeInst]

theorem keeps_tryRelease (h : Keeps s t) (comm seq) : Keeps s (tryRelease t comm seq) := by
  unfold tryRelease
  grind [keeps_sendUps, keeps_applyRelease]

theorem keeps_giveRelease (h : Keeps s t) (comm seq) : Keeps s (giveRelease t comm seq) := by
  unfold giveRelease
  grind [keeps_tryRelease, keeps_modInst]

theorem keeps_tryAnchor (h : Keeps s t) (comm seq first) : Keeps s (tryAnchor t comm seq first) := by
  unfold tryAnchor
  grind [keeps_sendFrame, keeps_modInst, keeps_foldl]

theorem keeps_tryAnchors (h : Keeps s t) (comm seq) : Keeps s (tryAnchors t comm seq) := by
  unfold tryAnchors
  grind [keeps_tryAnchor, keeps_foldl]

/-- The header merge that follows the elements of a result, unless their write failed. -/
theorem wf_mergedAfter {t : State} {err : Option MemErr} {b : Bool} {a : Nat} {x : Option Int × Nat} {m : Memory} {e : Option MemErr}
    (hm : t.mem.wf = true) (h : (match err with
      | some e => (t.mem, some e)
      | none => if b then (t.mem, none) else mergeHeader t t.mem a x.1 x.2) = (m, e)) : m.wf = true := by
  grind [Memory.wf_mergeHeader]

theorem keeps_writeElems (h : Keeps s t) (i c lo es at_) : Keeps s (writeElems t i c lo es at_) := by
  have hfail {t : State} (h : Keeps s t) (e : MemErr) : Keeps s (writeNotes (i.blame t stData) (hostActor c.x c.q c.desc.seq) 1
      [memErrNote t { sev := 3, cls := 2 } e]) := keeps_writeNotes (keeps_Instance_blame h ..) ..
  have hwritten {p : State × Option MemErr} {base runs} (h : Keeps s t) (e : writeRuns t base runs = p) : Keeps s p.1 :=
    e ▸ keeps_writeRuns h ..
  fun_cases writeElems
  case case1 => exact hfail h _
  case case2 x hw _ _ _ hm => exact keeps_mk (hwritten h hw) (wf_mergedAfter · hm) id id id id id id id id id id
  case case3 x hw _ _ _ _ hm => exact hfail (keeps_mk (hwritten h hw) (wf_mergedAfter · hm) id id id id id id id id id id) _

theorem keeps_raiseNumeric (h : Keeps s t) (c r) : Keeps s (raiseNumeric t c r) := by
  unfold raiseNumeric
  grind [keeps_modDesc]

theorem keeps_doneInst (h : Keeps s t) (i empty) : Keeps s (doneInst t i empty) := by
  unfold doneInst
  grind [keeps_modDesc, keeps_modInst, keeps_giveRelease]

theorem keeps_openDone (h : Keeps s t) (i data) : Keeps s (openDone t i data) := by
  unfold openDone
  grind [keeps_modInst, keeps_doneInst, keeps_writeElems, keeps_tryAnchors]

theorem keeps_openEnds (h : Keeps s t) (comm seq) : Keeps s (openEnds t comm seq) := by
  unfold openEnds
  grind [keeps_poisonInst, keeps_freeInst, keeps_openDone]

/-- The count of combined elements is in no table. -/
theorem keeps_combined (h : Keeps s t) (n) : Keeps s { t with coll := { t.coll with combinedElements := n } } :=
  keeps_mk h id id id id id id id id id id id

/-- The numeric events of a result, if there is one and no reason against it. -/
theorem keeps_raisedResult (h : Keeps s t) (o : Option (Call × List Bytes × Bool × Bool × Bool)) {c : Prop} [Decidable c] :
    Keeps s (match o with
      | some r => if c then t else raiseNumeric t r.1 r.2
      | none => t) := by
  split
  · exact keeps_ite h (keeps_raiseNumeric h ..)
  · exact h

theorem keeps_tryOpen (h : Keeps s t) (comm seq tree) : Keeps s (tryOpen t comm seq tree) := by
  fun_cases tryOpen
  case case4 => exact keeps_memberAbort (keeps_writeNotes h ..) ..
  case case5 => exact keeps_sendUps (keeps_combined h _) ..
  case case6 =>
    refine keeps_openEnds (keeps_modInst (keeps_sendDowns ?_ ..) ..) ..
    exact keeps_raisedResult (keeps_combined h _) _
  all_goals exact h

theorem keeps_openCall (h : Keeps s t) (comm seq f) : Keeps s (openCall t comm seq f) := by
  unfold openCall
  grind [keeps_modInst, keeps_tryOpen, keeps_foldl]

theorem keeps_renew (h : Keeps s t) (i) : Keeps s (Instance.renew t i) := by
  unfold Instance.renew
  grind [keeps_modDesc]

theorem keeps_rerunDown (h : Keeps s t) (i n) : Keeps s (rerunDown t i n) := by
  unfold rerunDown
  grind [keeps_sendAllFrames, keeps_modInst, keeps_renew, keeps_tryOpen, keeps_mk, keeps_foldl]

theorem keeps_noteArrival (h : Keeps s t) (src x n) : Keeps s (noteArrival t src x n) := by
  unfold noteArrival
  grind [keeps_modInst, keeps_foldl]

theorem keeps_storeWithSignal (h : Keeps s t) (a dst addr ctx vid bs trunc) :
    Keeps s (storeWithSignal t a dst addr ctx vid bs trunc) := by
  unfold storeWithSignal
  grind [keeps_sendAll]

theorem keeps_storeRuns (h : Keeps s t) (a dst base ctx vid runs) : Keeps s (storeRuns t a dst base ctx vid runs) := by
  unfold storeRuns
  grind [keeps_sendAll]

theorem keeps_sendResult (h : Keeps s t) (i c k chunk lo ts) : Keeps s (sendResult t i c k chunk lo ts) := by
  unfold sendResult
  grind [keeps_send, keeps_modInst, keeps_storeRuns, keeps_foldl]

theorem keeps_afterChunk (h : Keeps s t) (comm seq) : Keeps s (afterChunk t comm seq) := by
  unfold afterChunk
  grind [keeps_modInst, keeps_doneInst]

theorem keeps_sendCredits (h : Keeps s t) (i tree chunk kids) : Keeps s (sendCredits t i tree chunk kids) := by
  unfold sendCredits
  grind [keeps_sendAllFrames]

theorem keeps_passDown (h : Keeps s t) (i c chunk) : Keeps s (passDown t i c chunk) := by
  unfold passDown
  grind [keeps_memberAbort, keeps_writeNotes, keeps_storeRuns, keeps_mk, Memory.wf_mergeHeader, keeps_foldl]

theorem keeps_combinerFault (h : Keeps s t) (i c chunk n) : Keeps s (combinerFault t i c chunk n) := by
  unfold combinerFault
  grind [keeps_writeNotes, keeps_draw, keeps_Instance_blame]

theorem keeps_combinerStop (h : Keeps s t) {i c chunk det} (e : combinerStop t i c chunk det = some u) : Keeps s u := by
  unfold combinerStop at e
  grind [keeps_combinerFault]

theorem keeps_workChunk (h : Keeps s t) (comm seq chunk det) : Keeps s (workChunk t comm seq chunk det) := by
  have hdet := keeps_preDetect h det
  have hcombined (a n f i tree kids) := keeps_sendCredits (keeps_modInst (keeps_combined (hdet a) n) comm seq f) i tree chunk kids
  fun_cases workChunk
  case case5 =>
    refine keeps_afterChunk (keeps_modInst ?_ ..) ..
    exact keeps_ite (keeps_passDown h ..) h
  case case7 he => exact keeps_combinerStop h he
  case case8 => exact keeps_memberAbort (keeps_writeNotes (hdet _) ..) ..
  case case9 => exact keeps_memberAbort (keeps_writeNotes (hdet _) ..) ..
  case case10 => exact hcombined ..
  case case11 => exact keeps_afterChunk (keeps_storeWithSignal (hcombined ..) ..) ..
  case case12 =>
    refine keeps_afterChunk (keeps_modInst (keeps_sendResult ?_ ..) ..) ..
    exact keeps_ite (hcombined ..) (keeps_raiseNumeric (keeps_writeElems (hcombined ..) ..) ..)
  all_goals exact h

theorem foldl_error {α β ε : Type} {f : Except ε β → α → Except ε β} (herr : ∀ e a, f (.error e) a = .error e) (l : List α) (e : ε) :
    l.foldl f (.error e) = .error e := by
  induction l with
  | nil => rfl
  | cons a l ih => rw [List.foldl_cons, herr, ih]

/-- A fold that stops at its first error keeps what each of its steps keeps. -/
theorem keeps_foldl_ok {α ε : Type} {f : Except ε State → α → Except ε State} (herr : ∀ e a, f (.error e) a = .error e)
    (hok : ∀ t a u, Keeps s t → f (.ok t) a = .ok u → Keeps s u) (l : List α) (h : Keeps s t) (e : l.foldl f (.ok t) = .ok u) :
    Keeps s u := by
  induction l generalizing t with
  | nil => exact Except.ok.inj e ▸ h
  | cons a l ih =>
    rw [List.foldl_cons] at e
    rcases hf : f (.ok t) a with err | t'
    · rw [hf, foldl_error herr] at e
      cases e
    · rw [hf] at e
      exact ih (hok _ _ _ h hf) e

theorem keeps_zeroTarget (h : Keeps s t) {a} (e : zeroTarget t a = .ok u) : Keeps s u := by
  revert e
  fun_cases zeroTarget
  case case1 => exact fun e => nomatch e
  case case2 =>
    refine keeps_foldl_ok (fun _ _ => rfl) (fun t a u h e => ?_) _ h
    grind [keeps_mem, Memory.wf_writeMem]

/-- The last step of an answer gives its value alone. -/
theorem map_ok {α β ε : Type} {f : α → β} {x : Except ε α} {y : β} (h : x.map f = .ok y) : ∃ a, x = .ok a ∧ y = f a := by
  cases x <;> simp_all [Except.map]

theorem keeps_freshBound (h : Keeps s t) {p n hint a} {v} (e : freshBound t p n hint a = .ok v) : Keeps s v.1 := by
  revert e
  fun_cases freshBound
  case case1 => rintro ⟨⟩; exact h
  case case2 => exact fun e => nomatch e
  case case3 he =>
    intro e
    obtain ⟨_, _, rfl⟩ := map_ok e
    exact keeps_initHeader h he

theorem keeps_prepareProduct (h : Keeps s t) {x p o d} {v} (e : prepareProduct t x p o d = .ok v) : Keeps s v.1 := by
  revert e
  fun_cases prepareProduct
  case case1 => rintro ⟨⟩; exact h
  case case7 s1 _ hout _ _ hinto =>
    rintro ⟨⟩
    have h1 : Keeps s s1 := by
      split at hout
      · exact keeps_freshBound h hout
      · cases hout
        exact h
    split at hinto
    · cases hinto
      exact h1
    · split at hinto
      · cases hinto
      next hfresh =>
        obtain ⟨_, hzero, e⟩ := map_ok hinto
        cases e
        exact keeps_zeroTarget (keeps_freshBound h1 hfresh) hzero
  all_goals exact fun e => nomatch e

@[simp] theorem placeRings_fences (c : Core) : (placeRings c).fences = c.fences := by
  unfold placeRings
  split <;> rfl

theorem keeps_issueTiles (h : Keeps s t) (r tiles) : Keeps s (issueTiles t r tiles) := by
  unfold issueTiles
  exact keeps_foldl (fun t g h => keeps_issueNext (keeps_setCore h (by simp)) _) _ h

theorem keeps_counterCommand (h : Keeps s t) {x vid b} (e : counterCommand t x vid b = .ok u) : Keeps s u := by
  revert e
  fun_cases counterCommand <;> rintro ⟨⟩
  all_goals grind [keeps_setBarrier, keeps_poisonBarrier, keeps_signalCounter, keeps_freezeCounter, keeps_setCtr, keeps_markCounter]

end Sys2Proof.Machine
end

section
/-! PROOFS. What every operation keeps, fifth part: contexts, queues, commit, replay, snapshots and lost parts. -/

namespace Sys2Proof.Machine
variable {s t u : State} {q r : Run}

theorem keeps_journalWrite (h : Keeps s t) (x q seq off bs) : Keeps s (journalWrite t x q seq off bs) := by
  unfold journalWrite
  grind [Memory.wf, keeps_mk, Memory.wf_putBytes, keeps_foldl]

theorem keeps_sendEcho (h : Keeps s t) (x q commitKind seq data) : Keeps s (sendEcho t x q commitKind seq data) := by
  unfold sendEcho
  grind [keeps_sendTxn, keeps_mk]

theorem keeps_leaveWaits (h : Keeps s t) (a) : Keeps s (leaveWaits t a) := by
  unfold leaveWaits
  grind [keeps_mk, smWf_smMap]

theorem keeps_abortCall (h : Keeps s t) (x d status) : Keeps s (abortCall t x d status) := by
  unfold abortCall
  grind [keeps_endCall, keeps_advanceCall]

theorem keeps_closeDesc (h : Keeps s t) (x q status d) : Keeps s (closeDesc t x q status d) := by
  unfold closeDesc
  grind [keeps_leaveWaits, keeps_abortCall, keeps_modQueue, keeps_modDesc]

theorem keeps_stopUnit (h : Keeps s t) (u g) : Keeps s (stopUnit u g t) := by
  unfold stopUnit
  grind [keeps_abandonOne, keeps_setCore, Core.setUnit_fences, keeps_foldl]

theorem keeps_stopCore (h : Keeps s t) (g) : Keeps s (stopCore t g) := by
  unfold stopCore
  grind [keeps_stopUnit]

theorem keeps_withdrawCore (h : Keeps s t) (g) : Keeps s (withdrawCore t g) := by
  unfold withdrawCore
  grind [keeps_setCore]

theorem keeps_emptyWindows (h : Keeps s t) (g) : Keeps s (emptyWindows t g) := by
  unfold emptyWindows
  grind [keeps_leaveWaits, keeps_returnReservation, keeps_foldl]

theorem keeps_leaveBarriers (h : Keeps s t) (g) : Keeps s (leaveBarriers t g) := by
  unfold leaveBarriers
  grind [keeps_checkBarrier, keeps_setBarrier, keeps_foldl]

theorem keeps_startCore (h : Keeps s t) (g) : Keeps s (startCore t g) := by
  unfold startCore
  grind [keeps_setCore]

theorem keeps_releaseCores (h : Keeps s t) (x q seq) : Keeps s (releaseCores t x q seq) := by
  unfold releaseCores
  grind [keeps_setCore, keeps_setCtx, smWf_smSet, keeps_foldl]

theorem keeps_stopContext (h : Keeps s t) (x) : Keeps s (stopContext t x) := by
  unfold stopContext
  grind [keeps_stopCore, keeps_foldl]

theorem keeps_freeContext (h : Keeps s t) (x) : Keeps s (freeContext t x) := by
  unfold freeContext
  grind [keeps_dropPlan, keeps_setCore, keeps_setCtx, keeps_foldl]

theorem keeps_clearStaging (h : Keeps s t) : Keeps s (clearStaging t) := by
  unfold clearStaging
  grind [keeps_mk]

theorem keeps_ctxCommand (h : Keeps s t) {x b} (e : ctxCommand t x b = .ok u) : Keeps s u := by
  have hset (c) := keeps_setCtx h x c
  revert e
  fun_cases ctxCommand <;> rintro ⟨⟩
  case case3 => exact hset _
  case case5 => exact keeps_freeContext h ..
  case case7 => exact keeps_stopContext (hset _) ..
  case case9 => exact keeps_foldl (fun t g h => keeps_startCore h ..) _ (hset _)
  case case11 => exact keeps_foldl (fun t g h => keeps_withdrawCore h ..) _ (keeps_stopContext (keeps_clearStaging (hset _)) ..)
  case case12 => exact hset _

theorem keeps_clearTags (h : Keeps s t) (g) : Keeps s (clearTags t g) := by
  unfold clearTags
  grind [keeps_setCore, smWf_smMap]

theorem keeps_resetSync (h : Keeps s t) (x) : Keeps s (resetSync t x) := by
  unfold resetSync
  grind [keeps_setCtr, keeps_setCtx, smWf_smMap, keeps_foldl]

theorem keeps_resetDesc (h : Keeps s t) (x q d) : Keeps s (resetDesc t x q d) := by
  unfold resetDesc
  grind [keeps_setCtx, keeps_closeDesc]

theorem keeps_resetFinish (h : Keeps s t) (x) : Keeps s (resetFinish t x) := by
  unfold resetFinish
  grind [keeps_resetDesc, keeps_startCore, keeps_clearTags, keeps_resetSync, keeps_setCtx, keeps_foldl]

theorem keeps_queueConfigure (h : Keeps s t) {x q b} (e : queueConfigure t x q b = .ok u) : Keeps s u := by
  unfold queueConfigure at e
  grind [keeps_modQueue]

theorem keeps_queueReset (h : Keeps s t) {x q} (e : queueReset t x q = .ok u) : Keeps s u := by
  unfold queueReset at e
  grind [keeps_closeDesc, keeps_clearStaging, keeps_modQueue, keeps_foldl]

theorem keeps_ringDoorbell (h : Keeps s t) (x q newTail newRelease) : Keeps s (ringDoorbell t x q newTail newRelease) := by
  unfold ringDoorbell
  grind [keeps_modQueue]

theorem keeps_queueFault (h : Keeps s t) (x q seq e) : Keeps s (queueFault t x q seq e) := by
  unfold queueFault
  grind [keeps_fault, keeps_modQueue]

theorem keeps_acceptStart (h : Keeps s t) (x q) : Keeps s (acceptStart t x q) := by
  unfold acceptStart
  grind [keeps_queueFault, keeps_modQueue, keeps_journalWrite, keeps_sendEcho]

theorem keeps_acceptAdvanceTo (h : Keeps s t) (x q) : Keeps s (acceptAdvanceTo t x q) := by
  unfold acceptAdvanceTo
  grind [keeps_setCtx, keeps_modQueue, keeps_closeDesc]

theorem keeps_markDispatched (h : Keeps s t) (x q d f) : Keeps s (markDispatched t x q d f) := by
  unfold markDispatched
  grind [keeps_setCtx, keeps_modQueue, keeps_modDesc, keeps_mk]

theorem keeps_dispatchWith (h : Keeps s t) (x q d status) : Keeps s (dispatchWith t x q d status) := by
  unfold dispatchWith
  grind [keeps_markDispatched]

theorem keeps_refuseHost (h : Keeps s t) (x q d status) : Keeps s (refuseHost t x q d status) := by
  unfold refuseHost
  grind [keeps_clearShortfalls, keeps_dispatchWith, keeps_abortCall]

theorem keeps_faultHost (h : Keeps s t) (x q d e) : Keeps s (faultHost t x q d e) := by
  unfold faultHost
  grind [keeps_fault, keeps_markDispatched, keeps_abortCall]

theorem keeps_hostOp (h : Keeps s t) {body} (opcode x q) (hbody : ∀ t a1, Keeps s t → Keeps s (body t a1)) :
    Keeps s (hostOp opcode x q t body) := by
  unfold hostOp
  grind [keeps_refuseHost, keeps_modDesc, keeps_closeDesc, keeps_waitBlame]

theorem keeps_takeInstance (h : Keeps s t) {x c d} {v} (e : takeInstance t x c d = some v) : Keeps s v.1 := by
  have hslot {f : State → State × BitVec 32} {seq} (hf : ∀ t, Keeps s t → Keeps s (f t).1) (e : (takeSlot t x c seq).map f = some v) :
      Keeps s v.1 := by
    obtain ⟨t, ht, rfl⟩ := Option.map_eq_some_iff.1 e
    exact hf _ (keeps_takeSlot h ht)
  unfold takeInstance at e
  split at e
  · split at e
    · cases e
      exact h
    · exact hslot (fun _ h => h) e
  · split at e
    · cases e
      exact keeps_advanceCall h ..
    · exact hslot (fun _ h => keeps_advanceCall h ..) e

theorem keeps_waitForSlot (h : Keeps s t) (c d) : Keeps s (waitForSlot t c d) := by
  unfold waitForSlot
  grind [keeps_mk]

theorem keeps_bindCores (h : Keeps s t) (x q seq gs) : Keeps s (bindCores t x q seq gs) := by
  unfold bindCores
  grind [keeps_startCore, keeps_setCore, keeps_modDesc, keeps_foldl]

theorem keeps_readyOutput (h : Keeps s t) {p o d k} (e : readyOutput t p o d k = .ok u) : Keeps s u := by
  unfold readyOutput at e
  grind [keeps_initHeader]

theorem keeps_runProduct (h : Keeps s t) (x q p o d n gs) : Keeps s (runProduct t x q p o d n gs) := by
  fun_cases runProduct
  case case1 => exact keeps_refuseHost h ..
  case case2 => exact keeps_refuseHost h ..
  case case3 => exact keeps_faultHost h ..
  case case4 => exact keeps_bindCores (keeps_markDispatched (keeps_prepareProduct h (by assumption)) ..) ..
  case case5 => exact keeps_issueTiles (keeps_bindCores (keeps_markDispatched (keeps_prepareProduct h (by assumption)) ..) ..) ..

theorem keeps_runBody (h : Keeps s t) (x q d) : Keeps s (runBody x q t d) := by
  have htaken {c v} (e : takeInstance t x c d = some v) (f n f' b b' f'') :=
    keeps_modInst (keeps_modDesc (keeps_markDispatched (keeps_takeInstance h e) x q d f) x q n f') b b' f''
  fun_cases runBody
  case case1 => exact h
  case case2 => exact keeps_refuseHost h ..
  case case3 => exact h
  case case4 => exact keeps_refuseHost h ..
  case case5 => exact keeps_faultHost h ..
  case case6 => exact keeps_refuseHost h ..
  case case7 => exact keeps_markDispatched h ..
  case case8 => exact keeps_refuseHost h ..
  case case9 => exact keeps_dispatchWith (keeps_advanceCall h ..) ..
  case case10 => exact h
  case case11 => exact keeps_waitForSlot h ..
  case case12 he _ _ _ _ _ => exact htaken he ..
  case case13 he _ _ _ _ _ _ _ _ _ => exact keeps_memberAbort (keeps_fault (htaken he ..) ..) ..
  case case14 he _ _ _ _ _ _ _ _ _ => exact keeps_openCall (keeps_readyOutput (htaken he ..) (by assumption)) ..
  case case15 => exact h
  case case16 => exact keeps_runProduct h ..
  case case17 => exact keeps_bindCores (keeps_markDispatched h ..) ..

theorem keeps_planLoadBody (h : Keeps s t) (x q d) : Keeps s (planLoadBody x q t d) := by
  unfold planLoadBody
  grind [keeps_dispatchWith, keeps_clearShortfalls, keeps_admitPlan]

theorem keeps_planUnloadBody (h : Keeps s t) (x q d) : Keeps s (planUnloadBody x q t d) := by
  unfold planUnloadBody
  grind [keeps_dispatchWith, keeps_setCtx]

theorem keeps_unloadEffect (h : Keeps s t) (x) : Keeps s (unloadEffect t x) := by
  unfold unloadEffect
  grind [keeps_dropPlan, keeps_setCore, keeps_setCtx, keeps_foldl]

theorem keeps_vtSetBody (h : Keeps s t) (x q d) : Keeps s (vtSetBody x q t d) := by
  unfold vtSetBody
  grind [keeps_refuseHost, keeps_dispatchWith]

theorem keeps_hashOutputs (h : Keeps s t) {d} {v} (e : hashOutputs t d = .ok v) : Keeps s v.1 := by
  unfold hashOutputs at e
  refine List.foldlRecOn (motive := fun acc : Except MemErr _ => ∀ v, acc = .ok v → Keeps s v.1) _ _ ?_ (fun acc hacc n _ v e => ?_) v e
  · rintro _ ⟨⟩
    exact h
  · grind [keeps_mem, Memory.wf_writeMem]

theorem keeps_commitWith (h : Keeps s t) (x q d status flips checks) : Keeps s (commitWith t x q d status flips checks) := by
  unfold commitWith
  grind [keeps_journalWrite, keeps_modDesc, keeps_sendEcho]

theorem keeps_outcome (h : Keeps s t) (x q seq st) : Keeps s (outcome t x q seq st) := by
  unfold outcome
  grind [keeps_modDesc]

theorem keeps_compareChecks (h : Keeps s t) (x q d) : Keeps s (compareChecks t x q d) := by
  unfold compareChecks
  grind [keeps_commitWith, keeps_fault, keeps_outcome, keeps_mk, keeps_foldl]

/-- The call that a failed descriptor has open, if any, is aborted. -/
theorem keeps_abortedInst (h : Keeps s t) (o : Option Instance) (n : Nat) : Keeps s (match o with
    | some i => memberAbort t { i with desc := none } n
    | none => t) := by
  split
  · exact keeps_memberAbort h ..
  · exact h

theorem keeps_commitStep (h : Keeps s t) (x q) : Keeps s (commitStep t x q) := by
  fun_cases commitStep
  case case3 s0 =>
    have h0 : Keeps s s0 := keeps_abortedInst h ..
    exact keeps_commitWith h0 ..
  case case4 => exact keeps_commitWith h ..
  case case6 => exact keeps_commitWith h ..
  case case8 => exact keeps_giveRelease (keeps_modDesc h ..) ..
  case case9 => exact keeps_commitWith h ..
  case case10 => exact keeps_compareChecks h ..
  case case12 => exact keeps_outcome (keeps_fault h ..) ..
  case' case13 he s1 _ s0 _ _ _ => refine keeps_giveRelease (t := s0) ?_ ..
  case' case14 he s1 _ s0 _ => refine keeps_compareChecks (t := s0) ?_ ..
  case case13 | case14 =>
    have h1 : Keeps s s1 := keeps_journalWrite (keeps_hashOutputs h he) ..
    exact keeps_modDesc h1 ..
  all_goals exact h

theorem keeps_applyFlips (h : Keeps s t) (x d) : Keeps s (applyFlips t x d) := by
  unfold applyFlips
  grind [keeps_setCtx, smWf_smSet, smWf_smMod, keeps_foldl]

theorem keeps_hostSignal (h : Keeps s t) (x q d good) : Keeps s (hostSignal t x q d good) := by
  unfold hostSignal
  grind [keeps_sendSignal, keeps_poisonBarrier, keeps_mk]

theorem keeps_noteCascade (h : Keeps s t) (x q d) : Keeps s (noteCascade t x q d) := by
  unfold noteCascade
  grind [keeps_setCtx]

theorem keeps_backToService (h : Keeps s t) (x) : Keeps s (backToService t x) := by
  unfold backToService
  grind [keeps_setCtr, keeps_setCtx, keeps_foldl]

theorem keeps_leaveReplay (h : Keeps s t) (x q seq) : Keeps s (leaveReplay t x q seq) := by
  unfold leaveReplay
  grind [keeps_setCtx]

theorem keeps_completionRecord (h : Keeps s t) (x q seq) {a bs m err} (hw : writeMem t t.mem none a bs = (m, err)) :
    Keeps s (match (generalizing := false) err with
      | none => { t with mem := m }
      | some e => queueFault t x q seq e) := by
  split
  · exact keeps_written h hw
  · exact keeps_queueFault h ..

theorem keeps_completeStep (h : Keeps s t) (x q) : Keeps s (completeStep t x q) := by
  have hclosed {r : State} {d : HostDesc} (h : Keeps s r) (good) : Keeps s (leaveReplay (if good = true then r else noteCascade r x q d) x q d.seq) :=
    keeps_leaveReplay (keeps_ite h (keeps_noteCascade h ..)) ..
  fun_cases completeStep
  case case1 => exact h
  case case2 => exact h
  case' case3 s7 _ _ _ hw s6 s5 s4 s3 s2 s1 s0 _ => refine keeps_backToService (t := s0) ?_ x
  case' case4 s7 _ _ _ hw s6 s5 s4 s3 s2 s1 s0 _ => skip
  all_goals
    have h7 : Keeps s s7 := keeps_ite (keeps_applyFlips h ..) h
    have h6 : Keeps s s6 := keeps_completionRecord h7 _ _ _ hw
    have h4 : Keeps s s4 := keeps_modQueue (keeps_releaseCores h6 ..) ..
    have h3 : Keeps s s3 := keeps_ite (keeps_raise h4 _) h4
    exact hclosed (keeps_hostSignal h3 ..) _

theorem keeps_rollBack (h : Keeps s t) (set p) : Keeps s (rollBack t set p) := by
  unfold rollBack
  grind [keeps_setCtr]

theorem keeps_rerunCall (h : Keeps s t) (d) : Keeps s (rerunCall t d) := by
  unfold rerunCall
  grind [keeps_sendFrame, keeps_rerunDown]

theorem keeps_replayStart (h : Keeps s t) (x) : Keeps s (replayStart t x) := by
  fun_cases replayStart 
  case case1 => exact keeps_setCtx h ..
  case case2 => exact h
  case case3 => exact h
  case case4 => 
    refine keeps_foldl (fun t d h => keeps_modQueue (keeps_modDesc h ..) ..) _ ?_
    refine keeps_foldl (fun t d h => keeps_rerunCall h ..) _ ?_
    refine keeps_foldl (fun t p h => keeps_rollBack h ..) _ ?_
    refine keeps_foldl (fun t d h => keeps_modDesc (keeps_leaveWaits h ..) ..) _ ?_
    refine keeps_foldl (fun t g h => keeps_startCore h ..) _ ?_
    refine keeps_foldl (fun t d h => keeps_releaseCores h ..) _ ?_
    refine keeps_foldl (fun t g h => keeps_setCore h (by exact id)) _ ?_
    refine keeps_foldl (fun t g h => keeps_withdrawCore (keeps_emptyWindows h ..) ..) _ ?_
    exact keeps_stopContext (keeps_setCtx h ..) ..

theorem keeps_cascadeRun (h : Keeps s t) (x k n) : Keeps s (cascadeRun t x k n).1 := by
  induction n with
  | zero => exact h
  | succ n ih =>
    unfold cascadeRun
    generalize cascadeRun t x k n = r at ih ⊢
    dsimp only
    split
    · exact ih
    · exact keeps_closeDesc ih ..

theorem keeps_clearMarks (h : Keeps s t) (x vids) : Keeps s (clearMarks t x vids) := by
  unfold clearMarks
  grind [keeps_setCtr, keeps_setBarrier, keeps_foldl]

theorem keeps_cascadeStep (h : Keeps s t) (x q seq) : Keeps s (cascadeStep t x q seq) := by
  unfold cascadeStep
  grind [keeps_cascadeRun, keeps_setCtx, keeps_clearMarks]

theorem keeps_putAt (h : Keeps s t) (a bs) : Keeps s (putAt t a bs) := by
  unfold putAt
  grind [keeps_mk, Memory.wf_writeMem]

theorem keeps_putTable (h : Keeps s t) (a n bytes keys) : Keeps s (putTable a n bytes keys t) := by
  unfold putTable
  grind [keeps_putAt, keeps_foldl]

theorem keeps_takeSnapshot (h : Keeps s t) (a) : Keeps s (takeSnapshot t a) := by
  unfold takeSnapshot
  have hput {t} (h : Keeps s t) {a n bytes keys} : Keeps s (putTable a n bytes keys t) := keeps_putTable h ..
  refine hput (hput (hput ?_))
  refine keeps_foldl (fun t x h => hput h) _ (keeps_foldl (fun t x h => hput h) _ (hput (hput (hput (keeps_putAt ?_ ..)))))
  exact keeps_mk h (fun hm => smWf_filter _ hm) id id id id id id id id id id

theorem keeps_snapshotStart (h : Keeps s t) (e : snapshotStart t = .ok u) : Keeps s u := by
  unfold snapshotStart at e
  grind [keeps_takeSnapshot, keeps_mk]

theorem keeps_clearContexts (h : Keeps s t) : Keeps s (clearContexts t) := by
  unfold clearContexts
  exact keeps_mk h id id (fun _ => rfl) (fun hx => smWf_smMap hx fun _ x => { energy := x.energy, energyCarry := x.energyCarry })
    id id id id id id id

theorem keeps_sweepEnd (h : Keeps s t) : Keeps s (sweepEnd t) := by
  unfold sweepEnd
  extract_lets
  split
  · exact keeps_mk (keeps_clearContexts (keeps_mk h Memory.wf_zeroJournal id id id id id id id id id id)) id id id id id id id id id id id
  · exact h

theorem keeps_sweepSlot (h : Keeps s t) (k) : Keeps s (sweepSlot t k) := by
  unfold sweepSlot
  grind [keeps_journalWrite, keeps_sendEcho, keeps_mk]

theorem keeps_sweep (h : Keeps s t) : Keeps s (sweep t) := by
  unfold sweep
  grind [keeps_sweepSlot, keeps_sweepEnd, keeps_mk, keeps_foldl]

theorem keeps_relocate (h : Keeps s t) (lost) : Keeps s (relocate t lost) := by
  fun_cases relocate
  case case1 => exact h
  case case2 => refine keeps_mem (keeps_raise (keeps_mem h ?_) _) ?_ <;> exact id
  case case3 => refine keeps_raise (keeps_mem h ?_) _; exact id

theorem keeps_relocationDone (h : Keeps s t) : Keeps s (relocationDone t) := by
  fun_cases relocationDone
  case case1 => exact h
  case case2 =>
    refine keeps_raise (keeps_fault (keeps_mem h fun hm => ?_) ..) ..
    exact Memory.wf_foldl _ (fun m e hm => Memory.wf_setByte hm ..) _ (smWf_filter _ hm)

theorem keeps_blameLost (h : Keeps s t) (need status) : Keeps s (blameLost t need status) := by
  unfold blameLost
  grind [keeps_modDesc, keeps_outcome, keeps_foldl]

theorem keeps_replayOthers (h : Keeps s t) : Keeps s (replayOthers t) := by
  unfold replayOthers
  grind [keeps_outcome, keeps_foldl]

theorem keeps_loseStack (h : Keeps s t) (n) : Keeps s (loseStack t n) := by
  unfold loseStack
  grind [keeps_replayOthers, keeps_blameLost, Memory.wf, keeps_mk]

theorem keeps_loseChannel (h : Keeps s t) (m) : Keeps s (loseChannel t m) := by
  unfold loseChannel
  grind [keeps_blameLost, Memory.wf, keeps_mk]

theorem keeps_recoverHolders (h : Keeps s t) (d) : Keeps s (recoverHolders t d) := by
  unfold recoverHolders
  grind [keeps_setCtx, keeps_foldl]

theorem CoresCanon.filter {cs : SMap Core} (h : CoresCanon cs) (p : Nat × Core → Bool) : CoresCanon (cs.filter p) :=
  ⟨smWf_filter _ h.1, fun _ hc => h.2 _ (List.mem_of_mem_filter hc)⟩

theorem keeps_loseDie (h : Keeps s t) (d) : Keeps s (loseDie t d) := by
  unfold loseDie
  extract_lets gone s1 s2 waits s3 lost s4 s5 s6 _ s7 s8
  have h1 : Keeps s s1 := keeps_recoverHolders h ..
  have h2 : Keeps s s2 := keeps_blameLost h1 ..
  have h3 : Keeps s s3 := keeps_foldl (fun t k h => keeps_closeDesc h ..) _ h2
  have h4 : Keeps s s4 := keeps_foldl (fun t g h => keeps_emcy (keeps_emptyWindows h ..) ..) _ h3
  have h5 : Keeps s s5 := keeps_mk h4 id (fun hc => hc.filter _) id id id id id id id id id
  have h6 : Keeps s s6 := keeps_foldl (fun t g h => keeps_leaveBarriers h ..) _ h5
  have h7 : Keeps s s7 := keeps_mk h6 id id (fun hc => smWf_filter _ hc) id id id id id id id id
  exact keeps_raise (keeps_foldl (fun t i h => keeps_loseStack h ..) _ h7) ..

theorem keeps_linkLost (h : Keeps s t) : Keeps s (linkLost t) := by
  unfold linkLost
  grind [keeps_raise, keeps_mk]

theorem keeps_loseIo (h : Keeps s t) (d) : Keeps s (loseIo t d) := by
  unfold loseIo
  extract_lets _ _ s1 s2 gone _ s3 s4 s5
  have h1 : Keeps s s1 := keeps_mk h id id id id id id id id id id id
  have h2 : Keeps s s2 := keeps_foldl (fun t k h => keeps_ite (keeps_portDown h ..) h) _ h1
  have h3 : Keeps s s3 := keeps_mem h2 id
  have h4 : Keeps s s4 := keeps_replayOthers (keeps_blameLost h3 ..)
  have h5 : Keeps s s5 := keeps_foldl (fun t i h => keeps_relocate h ..) _ h4
  exact keeps_ite (keeps_linkLost (keeps_mk h5 id id id id id id id id id id id)) h5

theorem keeps_losePart (h : Keeps s t) (part) : Keeps s (losePart t part) := by
  unfold losePart
  grind [keeps_loseDie, keeps_loseIo, keeps_loseStack, keeps_loseChannel, keeps_linkLost]

theorem keeps_withFrame (h : Keeps s t) {k} (f) (hk : ∀ t a1 a2, Keeps s t → Keeps s (k t a1 a2)) : Keeps s (withFrame t f k) := by
  unfold withFrame
  grind [keeps_mk]

theorem keeps_answerRepeat (h : Keeps s t) (downs f) : Keeps s (answerRepeat t downs f) := by
  unfold answerRepeat
  grind [keeps_sendFrame, keeps_foldl]

theorem keeps_noSlot (h : Keeps s t) (comm seq) : Keeps s (noSlot t comm seq) := by
  unfold noSlot
  grind [keeps_mk]

theorem keeps_instanceFor (h : Keeps s t) {x c f} (e : instanceFor t x c f = some u) : Keeps s u := by
  unfold instanceFor at e
  grind [keeps_takeSlot]

theorem keeps_barrierUp (h : Keeps s t) (x f) : Keeps s (barrierUp t x f) := by
  unfold barrierUp
  grind [keeps_multiBarrier, keeps_sendFrame, keeps_mk]

theorem keeps_barrierDown (h : Keeps s t) (x c f) : Keeps s (barrierDown t x c f) := by
  unfold barrierDown
  grind [keeps_sendAllFrames, keeps_checkBarrier, keeps_completeRound]

theorem keeps_relayAbort (h : Keeps s t) (c f st) : Keeps s (relayAbort t c f st) := by
  unfold relayAbort
  grind [keeps_sendFrame, keeps_mk, keeps_foldl]

end Sys2Proof.Machine
end

section
/-! PROOFS. What every operation keeps, sixth part: updates, phase flips, interrupts, the host link and the fabric agent. -/

namespace Sys2Proof.Machine
variable {s t u : State} {q r : Run}

theorem keeps_putElem (h : Keeps s t) {a n pos k bits} (e : putElem t a n pos k bits = .ok u) : Keeps s u := by
  unfold putElem at e
  grind [keeps_mk, Memory.wf_writeMem]

theorem keeps_updWrite (h : Keeps s t) {c i pos n bits} (e : updWrite t c i pos n bits = .ok u) : Keeps s u := by
  unfold updWrite at e
  grind [keeps_putElem]

theorem keeps_updWrites (h : Keeps s t) {c pos n} (e : updWrites c pos t n = .ok u) : Keeps s u := by
  induction n generalizing t with
  | nil => exact Except.ok.inj e ▸ h
  | cons w ws ih =>
    unfold updWrites at e
    split at e
    · cases e
    next hw => exact ih (keeps_updWrite h hw) e

theorem keeps_updHeaders (h : Keeps s t) {c n} (e : updHeaders t c n = .ok u) : Keeps s u := by
  refine keeps_foldl_ok (fun _ _ => rfl) (fun t a u h e => ?_) _ h e
  grind [keeps_initHeader]

theorem s_foldl_merge (l : List (Nat × Nat)) (r : UpdRun) : (l.foldl (fun r x => r.merge x.1 1 x.2) r).s = r.s := by
  induction l generalizing r with
  | nil => rfl
  | cons x l ih => exact ih _

theorem keeps_updStep {r : UpdRun} (h : Keeps s r.s) (det c ts p mode seed stream g) :
    Keeps s (updStep det c ts p mode seed stream r g).s := by
  have hbegun (c : Prop) [Decidable c] (status notes) : Keeps s (if c then { r with status := status, notes := notes } else r).s := by
    split
    · exact h
    · exact h
  fun_cases updStep
  case case1 => exact h
  case case2 => exact h
  case case3 => exact hbegun ..
  case case4 => exact hbegun ..
  case case5 => exact hbegun ..
  case case6 he _ _ =>
    rw [s_foldl_merge]
    exact keeps_updWrites (hbegun ..) he

theorem keeps_foldl_upd {α : Type} {f : UpdRun → α → UpdRun} (hf : ∀ r a, Keeps s r.s → Keeps s (f r a).s) (l : List α) {r : UpdRun}
    (h : Keeps s r.s) : Keeps s (l.foldl f r).s :=
  List.foldlRecOn (motive := fun r : UpdRun => Keeps s r.s) _ _ h fun r h a _ => hf r a h

theorem keeps_updRun (h : Keeps s t) (det c grads) : Keeps s (updRun t det c grads).s := by
  have hstepped {t : State} (h : Keeps s t) (ts p mode seed stream) :
      Keeps s (grads.foldl (updStep det c ts p mode seed stream) { s := t }).s :=
    keeps_foldl_upd (fun r g h => keeps_updStep h ..) _ h
  fun_cases updRun
  case case1 => exact h
  case case2 => exact h
  case case3 he _ _ _ _ _ _ => exact hstepped (keeps_updHeaders h he) ..
  case case4 he _ _ _ _ _ _ =>
    refine keeps_foldl_upd (fun r m h => ?_) _ (hstepped (keeps_updHeaders h he) ..)
    split
    next hm => exact keeps_merged h hm
    · exact h

theorem keeps_updDetect (h : Keeps s t) (c : Call) (det : Detect) (a : Actor) : Keeps s (match det with
    | .memUe a => t.poisonAt a
    | .memCe ad => corrected t (t.noteOf a { opcode := c.op.kind.toNat, sev := 1, cls := 1 }) ad
    | _ => t) := by
  split
  · exact keeps_poisonAt h ..
  · exact keeps_corrected h ..
  · exact h

theorem keeps_update (h : Keeps s t) (x q lo hi sent det) : Keeps s (update t x q lo hi sent det) := by
  fun_cases update
  case case1 => exact h
  case case2 => exact keeps_doneInst h ..
  case' case3 i c grads _ _ a s3 r s2 s1 s0 _ => refine keeps_doneInst (t := s0) ?_ ..
  case' case4 i c grads _ _ a s3 r s2 s1 s0 _ => refine keeps_writeNotes (t := (i.blame s0 stData).draw) (keeps_draw (keeps_Instance_blame (t := s0) ?_ ..)) ..
  all_goals
    have h3 : Keeps s s3 := keeps_updDetect h ..
    have h2 : Keeps s s2 := keeps_updRun h3 ..
    have h1 : Keeps s s1 := keeps_mk h2 id id id id id id id id id id id
    exact keeps_modDesc h1 ..

theorem keeps_copyToScratch (h : Keeps s t) {x p ph n} (e : copyToScratch t x p ph n = .ok u) : Keeps s u := by
  refine keeps_foldl_ok (fun _ _ => rfl) (fun t a u h e => ?_) _ (keeps_setCtx h ..) e
  grind [keeps_mem, Memory.wf_writeMem, keeps_setCtx]

theorem keeps_putBitsAt (h : Keeps s t) {a n b pos x} (e : putBitsAt t a n b pos x = .ok u) : Keeps s u := by
  unfold putBitsAt at e
  grind [keeps_putElem, keeps_mk, Memory.wf_writeMem]

theorem keeps_putMoved (h : Keeps s t) {a n b pos x} (e : putMoved t a n b pos x = .ok u) : Keeps s u := by
  unfold putMoved at e
  grind [keeps_putBitsAt, keeps_mk, Memory.wf_writeMem]

theorem keeps_placeRange (h : Keeps s t) {p b r lin xs} (e : placeRange t p b r lin xs = .ok u) : Keeps s u := by
  revert e
  fun_cases placeRange
  case case1 => exact fun e => nomatch e
  case case2 => exact fun e => nomatch e
  case case3 he _ _ =>
    refine keeps_foldl_ok (fun _ _ => rfl) (fun t a u h e => keeps_putMoved h e) _ ?_ 
    grind [keeps_initHeader]

theorem keeps_sendRange (h : Keeps s t) (p b e lin xs ctx vid) : Keeps s (sendRange t p b e lin xs ctx vid) := by
  unfold sendRange
  grind [keeps_draw, keeps_storeRuns]

theorem keeps_moveRanges (h : Keeps s t) {x p q n peer} (e : moveRanges t x p q n peer = .ok u) : Keeps s u := by
  unfold moveRanges at e
  refine keeps_foldl_ok ?_ (fun t a u h e => ?_) _ h e
  · exact fun err o => foldl_error (fun _ _ => rfl) _ _
  · refine keeps_foldl_ok ?_ (fun t a u h e => ?_) _ h e
    · exact fun _ _ => rfl
    · grind [keeps_placeRange, keeps_sendRange]

theorem keeps_finishShards (h : Keeps s t) {p q n} (e : finishShards t p q n = .ok u) : Keeps s u := by
  refine keeps_foldl_ok (fun _ _ => rfl) (fun t a u h e => ?_) _ h e
  split at e
  · cases e
  next hs _ =>
    cases hs
    cases e
    exact h
  next r hs _ =>
    cases hs
    dsimp only at e
    generalize (if r.ply ≠ 0 && r.windowRule == 1 then some (r.cls.toNat, r.ply, r.lsb.toInt) else none) = hint at e
    split at e
    · cases e
    next hi =>
      have hready := keeps_initHeader h hi
      split at e
      · cases e
        exact hready
      · split at e
        · cases e
        · cases e
        · split at e
          next hm =>
            cases e
            exact keeps_merged hready hm
          · cases e

theorem keeps_flipError (h : Keeps s t) (x e) : Keeps s (flipError t x e) := by
  unfold flipError
  grind [keeps_failFlip, keeps_writeNotes]

theorem keeps_permuteStep (h : Keeps s t) (x p a q n comm seq) : Keeps s (permuteStep t x p a q n comm seq) := by
  unfold permuteStep
  grind [keeps_moveRanges, keeps_memberAbort, keeps_writeNotes, keeps_modInst, keeps_finishShards, keeps_giveRelease]

theorem keeps_permuteOpen (h : Keeps s t) (x p a n c) : Keeps s (permuteOpen t x p a n c) := by
  fun_cases permuteOpen
  case case1 => exact keeps_flipError (keeps_endCall (keeps_advanceCall h ..) ..) ..
  case case2 he _ _ _ => exact keeps_copyToScratch h he
  case case3 he _ _ _ => exact keeps_mk (keeps_copyToScratch h he) id id id id id id id id id id id
  case case4 he started s2 hs s1 s0 f =>
    have hcopied := keeps_copyToScratch h he
    have h2 : Keeps s s2 := by
      have e : started = some s2 := hs
      unfold started at e
      grind [keeps_takeSlot]
    have h0 : Keeps s s0 := keeps_setCtx (keeps_advanceCall h2 ..) ..
    exact keeps_openCall h0 ..

theorem keeps_permuteLocal (h : Keeps s t) {x p a q n} (e : permuteLocal t x p a q n = .ok u) : Keeps s u := by
  unfold permuteLocal at e
  split at e
  · cases e
  next he =>
    split at e
    · cases e
    next hm => exact keeps_finishShards (keeps_moveRanges (keeps_copyToScratch h he) hm) e

theorem keeps_flipBarrier (h : Keeps s t) (x p a q stage) : Keeps s (flipBarrier t x p a q stage) := by
  unfold flipBarrier
  grind [keeps_setCtx, keeps_enterBarrier]

theorem keeps_flipWaits (h : Keeps s t) (x p) : Keeps s (flipWaits t x p) := by
  unfold flipWaits
  grind [keeps_failFlip, keeps_setCtx]

@[simp] theorem putRow_fences (c : Core) (r : Nat × BitVec 32 × List (Nat × Entry)) : (putRow c r).fences = c.fences := rfl

@[simp] theorem fences_foldl_putRow (l : List (Nat × BitVec 32 × List (Nat × Entry))) (c : Core) : (l.foldl putRow c).fences = c.fences := by
  induction l generalizing c with
  | nil => rfl
  | cons r l ih => simp [ih]

theorem keeps_carryRows (h : Keeps s t) (x p a q) : Keeps s (carryRows t x p a q) := by
  unfold carryRows
  refine keeps_foldl (fun t r h => keeps_setCore h ?_) _ h
  split <;> simp

theorem keeps_flipSteps (h : Keeps s t) (n k) : Keeps s (flipSteps n t k) := by
  fun_induction flipSteps n t k
  case case4 ih => exact ih (keeps_flipBarrier h ..)
  case case5 => exact keeps_flipWaits h ..
  case case6 ih => exact ih (keeps_flipWaits h ..)
  case case7 => exact keeps_flipWaits h ..
  case case8 ih => exact ih (keeps_flipWaits h ..)
  case case9 => exact keeps_permuteStep h ..
  case case11 ih => exact ih (keeps_flipBarrier h ..)
  case case12 => exact keeps_permuteOpen h ..
  case case13 => exact keeps_flipError h ..
  case case14 he _ ih => exact ih (keeps_setCtx (keeps_permuteLocal h he) ..)
  case case15 => exact keeps_setCtx (keeps_carryRows h ..) ..
  all_goals exact h

theorem keeps_phaseFlip (h : Keeps s t) (x) : Keeps s (phaseFlip t x) := by
  unfold phaseFlip
  grind [keeps_flipSteps, keeps_setCtx]

theorem keeps_countWatch (h : Keeps s t) (seq d pairs) : Keeps s (countWatch t seq d pairs) := by
  unfold countWatch
  grind [keeps_raise, keeps_mk, smWf_smSet, smWf_smMod, keeps_foldl]

theorem keeps_watched (h : Keeps s t) (g : CoreId) (seq : BitVec 64) (det : Detect) (x : CtxId) (q : QueueId) (j : BitVec 64) (d : Bytes) :
    Keeps s (match det with
        | .parity _ => writeNotes t (unitActor .engine g seq) 5 [parityNote t]
        | .residue n => writeNotes t (unitActor .engine g seq) 5 [residueNote t n]
        | _ => match (t.ctx x).plan, t.desc? x q j with
          | some p, some h => match p.op (hOpId h.bytes) with
            | some o => match watchPairs t p o h d with
              | .ok pairs => countWatch t seq d pairs
              | .error e => writeNotes t (unitActor .engine g seq) 5 [memErrNote t { sev := 3, cls := 2 } e]
            | none => t
          | _, _ => t) := by
  split
  · exact keeps_writeNotes h ..
  · exact keeps_writeNotes h ..
  · split
    · split
      · split
        · exact keeps_countWatch h ..
        · exact keeps_writeNotes h ..
      · exact h
    · exact h

theorem keeps_watchRecompute (h : Keeps s t) (g seq det) : Keeps s (watchRecompute t g seq det) := by
  fun_cases watchRecompute
  case case2 s1 t1 =>
    have h1 : Keeps s s1 := keeps_preDetect h ..
    have ht : Keeps s t1 := keeps_watched h1 ..
    exact keeps_issueNext (keeps_setCore ht (by exact id)) ..
  case case4 => exact keeps_setCore h id
  all_goals exact h

theorem keeps_watchClear (h : Keeps s t) (n) : Keeps s (watchClear t n) := by
  unfold watchClear
  grind [keeps_mk]

theorem keeps_irqClear (h : Keeps s t) (bits) : Keeps s (irqClear t bits) := by
  unfold irqClear
  grind [keeps_mk, smWf_smMod, keeps_foldl]

theorem keeps_irqSet (h : Keeps s t) {bits} (e : irqSet t bits = .ok u) : Keeps s u := by
  unfold irqSet at e
  grind [keeps_raise, keeps_foldl]

theorem keeps_irqRoute (h : Keeps s t) {n k} (e : irqRoute t n k = .ok u) : Keeps s u := by
  unfold irqRoute at e
  grind [keeps_destEvent, keeps_mk, smWf_smSet]

theorem keeps_irqLimit (h : Keeps s t) {dest time n} (e : irqLimit t dest time n = .ok u) : Keeps s u := by
  unfold irqLimit at e
  grind [keeps_deliverIfDue, keeps_mk, smWf_smMod]

theorem keeps_timerDue (h : Keeps s t) (dest) : Keeps s (timerDue t dest) := by
  unfold timerDue
  grind [keeps_deliver]

theorem keeps_setDrinex (h : Keeps s t) (d) : Keeps s (setDrinex t d) := by
  unfold setDrinex
  grind [keeps_raise, keeps_mk]

theorem keeps_drinexDown (h : Keeps s t) : Keeps s (drinexDown t) := by
  unfold drinexDown
  grind [keeps_setDrinex]

theorem keeps_drinexTrain (h : Keeps s t) (lanes fromX8) : Keeps s (drinexTrain t lanes fromX8) := by
  unfold drinexTrain
  grind [keeps_setDrinex]

theorem keeps_resendEchoes (h : Keeps s t) : Keeps s (resendEchoes t) := by
  unfold resendEchoes
  grind [keeps_modQueue, keeps_sendEcho, keeps_mk, keeps_foldl]

theorem keeps_sendParameters (h : Keeps s t) : Keeps s (sendParameters t) := by
  unfold sendParameters
  grind [keeps_send, keeps_mk]

theorem keeps_drinexUp (h : Keeps s t) (lanes peerLast peerResume p c e) : Keeps s (drinexUp t lanes peerLast peerResume p c e) := by
  unfold drinexUp
  grind [keeps_setDrinex, keeps_sendParameters, keeps_send, keeps_drainTxns, keeps_resendEchoes, keeps_releaseIntr]

theorem keeps_takeFlit (h : Keeps s t) (f) : Keeps s (takeFlit t f) := by
  unfold takeFlit
  grind [keeps_drainTxns, keeps_mk]

theorem keeps_discardFlit (h : Keeps s t) : Keeps s (discardFlit t) := by
  unfold discardFlit
  grind [keeps_send, keeps_mk]

theorem keeps_countFlit (h : Keeps s t) (f) : Keeps s (countFlit t f) := by
  unfold countFlit
  grind [keeps_mk]

theorem keeps_badFlit (h : Keeps s t) : Keeps s (badFlit t) := by
  unfold badFlit
  grind [keeps_discardFlit, keeps_mk]

theorem keeps_tookTxn (h : Keeps s t) (cls bytes) : Keeps s (tookTxn t cls bytes) := by
  unfold tookTxn
  grind [keeps_mk]

theorem keeps_hostRefused (h : Keeps s t) : Keeps s (hostRefused t) := by
  unfold hostRefused
  grind [keeps_mk]

theorem keeps_refusedAt (h : Keeps s t) (a) : Keeps s (refusedAt t a) := by
  unfold refusedAt
  grind [keeps_hostRefused, keeps_mk]

theorem keeps_cpl (h : Keeps s t) (tag status data) : Keeps s (cpl t tag status data) := by
  unfold cpl
  grind [keeps_sendTxn]

theorem keeps_dictCpl (h : Keeps s t) (tag code data) : Keeps s (dictCpl t tag code data) := by
  unfold dictCpl
  grind [keeps_sendTxn]

theorem keeps_hostMemFault (h : Keeps s t) (a cls key syn) : Keeps s (hostMemFault t a cls key syn) := by
  unfold hostMemFault
  grind [keeps_fault]

theorem keeps_hostDetect (h : Keeps s t) (det) : Keeps s (hostDetect t det) := by
  unfold hostDetect
  grind [keeps_poisonAt, keeps_corrected]

theorem Memory.wf_hostWrite (env : State) (n : Nat) {m : Memory} (a : Nat) (bs : Bytes) (h : m.wf = true) :
    (hostWrite env n m a bs).1.wf = true := by
  fun_induction hostWrite env n m a bs
  case case3 hw ih => exact ih (Memory.wf_writeBlock h hw)
  case case4 ih => exact ih h
  all_goals exact h

theorem keeps_hostStore (h : Keeps s t) (a data det) : Keeps s (hostStore t a data det) := by
  have hdet := keeps_hostDetect h
  have hwrote {det m a bs n e} (hw : hostWrite (hostDetect t det) n (hostDetect t det).mem a bs = (m, e)) :
      Keeps s { hostDetect t det with mem := m } :=
    keeps_mem (hdet det) fun hm => by have hkeep := Memory.wf_hostWrite (hostDetect t det) n a bs hm; rwa [hw] at hkeep
  fun_cases hostStore
  case case1 => exact h
  case case2 => exact keeps_refusedAt h ..
  case case3 => exact keeps_hostMemFault (keeps_draw (hwrote rfl)) ..
  case case4 hw _ => exact hwrote hw
  case case5 hw _ _ => exact hwrote hw
  case case6 hw _ _ => exact keeps_hostMemFault (hwrote hw) ..

theorem keeps_hostLoad (h : Keeps s t) (tag a n det) : Keeps s (hostLoad t tag a n det) := by
  unfold hostLoad
  grind [keeps_cpl, keeps_refusedAt, keeps_hostDetect, keeps_hostMemFault, keeps_draw]

theorem keeps_hostDoorbell (h : Keeps s t) (x q newTail newRelease) : Keeps s (hostDoorbell t x q newTail newRelease) := by
  unfold hostDoorbell
  grind [keeps_hostRefused, keeps_modQueue, keeps_ringDoorbell, keeps_endSnapshot]

theorem keeps_takeEchoAck (h : Keeps s t) (x q commitKind seq) : Keeps s (takeEchoAck t x q commitKind seq) := by
  unfold takeEchoAck
  grind [keeps_sweepEnd, keeps_modQueue, keeps_mk]

theorem keeps_drinexCommand (h : Keeps s t) {n} (e : drinexCommand t n = .ok u) : Keeps s u := by
  unfold drinexCommand at e
  grind [keeps_setDrinex, keeps_drinexTrain]

theorem keeps_settlePort (h : Keeps s t) (p) : Keeps s (settlePort t p) := by
  unfold settlePort
  grind [keeps_setPort, keeps_portFault]

theorem keeps_portTrained (h : Keeps s t) (p plane sw swPort said) : Keeps s (portTrained t p plane sw swPort said) := by
  unfold portTrained
  grind [keeps_setPort, keeps_portFault, keeps_settlePort]

theorem keeps_adoptId (h : Keeps s t) : Keeps s (adoptId t) := by
  unfold adoptId
  grind [keeps_settlePort, keeps_mk, keeps_foldl]

theorem keeps_portCommand (h : Keeps s t) {p n} (e : portCommand t p n = .ok u) : Keeps s u := by
  unfold portCommand at e
  grind [keeps_setPort]

theorem keeps_withPacket (h : Keeps s t) {k} (p typ) (hk : ∀ t, Keeps s t → Keeps s (k t)) : Keeps s (withPacket t p typ k) := by
  unfold withPacket
  grind [keeps_takeIn, keeps_mk, smWf_smMod]

theorem keeps_setTracker (h : Keeps s t) (src n) : Keeps s (t.setTracker src n) := by
  unfold State.setTracker
  grind [keeps_mk, smWf_smSet]

theorem keeps_nack (h : Keeps s t) (p reason) : Keeps s (nack t p reason) := by
  unfold nack
  grind [keeps_draw, keeps_answer]

theorem keeps_sendAck (h : Keeps s t) (src tag base) : Keeps s (sendAck t src tag base) := by
  unfold sendAck
  grind [keeps_answer]

theorem keeps_markApplied (h : Keeps s t) (p) : Keeps s (markApplied t p) := by
  unfold markApplied
  grind [keeps_setTracker, keeps_sendAck]

theorem keeps_tagged (h : Keeps s t) {again serve} (p) (hagain : ∀ t, Keeps s t → Keeps s (again t))
    (hserve : ∀ t u, Keeps s t → serve t = .ok u → Keeps s u) : Keeps s (tagged t p again serve) := by
  fun_cases tagged
  case case3 => exact hagain _ h
  case case5 => exact h
  case case7 => exact keeps_markApplied (hserve _ _ h (by assumption)) ..
  all_goals exact keeps_nack h ..

theorem keeps_ackAgain (h : Keeps s t) (p) : Keeps s (ackAgain p t) := by
  unfold ackAgain
  grind [keeps_sendAck]

theorem keeps_memReason (h : Keeps s t) (p e) : Keeps s (memReason t p e).1 := by
  unfold memReason
  grind [keeps_fault]

theorem keeps_serveLoad (h : Keeps s t) (p) : Keeps s (serveLoad t p).1 := by
  unfold serveLoad
  grind [keeps_answer, keeps_memReason]

theorem keeps_serveStore (h : Keeps s t) (p bs) : Keeps s (serveStore t p bs).1 := by
  unfold serveStore
  grind [keeps_memReason, keeps_mk, Memory.wf_writeMem]

theorem keeps_applyElement (h : Keeps s t) (det target p elem) : Keeps s (applyElement t det target p elem).state := by
  have hdone (rel bs) : Keeps s { t with mem := (writeMem t t.mem none target bs).1, rel := rel } :=
    keeps_mk h (Memory.wf_writeMem _ _ _ _) id id id id id id id id id id
  unfold applyElement
  split
  · exact h
  · split
    · exact h
    · dsimp only
      split <;> exact hdone _ _

theorem keeps_serveSkein (h : Keeps s t) (p) : Keeps s (serveSkein t p).1 := by
  fun_cases serveSkein
  case case4 =>
    refine List.foldlRecOn (motive := fun acc : State × Bool => Keeps s acc.1) _ _ h fun acc h i _ => ?_
    dsimp only
    split
    · exact keeps_applyElement h ..
    · exact keeps_fault (keeps_applyElement h ..) ..
  all_goals exact h

theorem keeps_keepResult (h : Keeps s t) (src tag n) : Keeps s (keepResult t src tag n) := by
  unfold keepResult
  split
  · exact keeps_mk h id id id id id id id id id id id
  · exact keeps_mk h id id id id id id id id id id id

theorem keeps_serveAtomic (h : Keeps s t) (p) : Keeps s (serveAtomic t p).1 := by
  fun_cases serveAtomic
  case case5 => exact keeps_memReason h ..
  case case7 => exact keeps_memReason (keeps_written h (by assumption)) ..
  case case8 => exact keeps_answer (keeps_keepResult (keeps_written h (by assumption)) ..) ..
  all_goals exact h

theorem keeps_atomicAgain (h : Keeps s t) (p) : Keeps s (atomicAgain p t) := by
  unfold atomicAgain
  grind [keeps_answer, keeps_ackAgain]

theorem keeps_served (h : Keeps s t) {again} {serve} (p) (hagain : ∀ t, Keeps s t → Keeps s (again t))
    (hserve : ∀ t, Keeps s t → Keeps s (serve t).1) :
    Keeps s (served t p again serve) := by
  fun_cases served
  case case1 => exact keeps_tagged h p hagain fun t u h e => Except.ok.inj e ▸ hserve t h
  case case2 => exact keeps_nack (hserve _ h) ..
  case case3 => exact keeps_tagged h p hagain fun t u h e => nomatch e

theorem keeps_trailerFault (h : Keeps s t) (src n reason) : Keeps s (trailerFault t src n reason) := by
  unfold trailerFault
  grind [keeps_fault]

theorem keeps_applyTrailer (h : Keeps s t) (src) : Keeps s (applyTrailer t src) := by
  unfold applyTrailer
  grind [keeps_setTracker, keeps_trailerFault, keeps_signalCounter, keeps_markCounter, keeps_noteArrival, keeps_answer, keeps_mk]

theorem keeps_ackPackets (h : Keeps s t) (dst p) : Keeps s (ackPackets t dst p) := by
  unfold ackPackets
  grind [keeps_setStream, keeps_drainWaiting]

theorem keeps_resend (h : Keeps s t) (dst tag) : Keeps s (resend t dst tag) := by
  unfold resend
  grind [keeps_emitPacket, keeps_setStream, keeps_mk]

theorem keeps_endOwner (h : Keeps s t) (a status) : Keeps s (endOwner t a status) := by
  unfold endOwner
  grind [keeps_failOwner, keeps_mk, smWf_smMap]

theorem keeps_endOwners (h : Keeps s t) (ps status) : Keeps s (endOwners t ps status) := by
  unfold endOwners
  grind [keeps_endOwner, keeps_foldl]

theorem keeps_dropWaiting (h : Keeps s t) (dst status) : Keeps s (dropWaiting t dst status) := by
  unfold dropWaiting
  grind [keeps_endOwners, keeps_setStream]

theorem keeps_abandonStream (h : Keeps s t) (dst) : Keeps s (abandonStream t dst) := by
  unfold abandonStream
  grind [keeps_endOwners, keeps_dropWaiting, keeps_setStream]

theorem keeps_nackFault (h : Keeps s t) (dst key tag owner) : Keeps s (nackFault t dst key tag owner) := by
  unfold nackFault
  grind [keeps_fault]

theorem keeps_takeNack (h : Keeps s t) (dst tag reason) : Keeps s (takeNack t dst tag reason) := by
  unfold takeNack
  grind [keeps_nackFault, keeps_endOwner, keeps_abandonStream, keeps_dropWaiting, keeps_mk, smWf_smMod]

theorem keeps_takeLoad (h : Keeps s t) (p data) : Keeps s (takeLoad t p data) := by
  unfold takeLoad
  grind [keeps_modEntry, keeps_sendPacket, keeps_writeNotes, keeps_failOwner, keeps_mk, Memory.wf_writeMem, keeps_foldl]

theorem keeps_accepted (h : Keeps s t) : Keeps s (accepted t).1 := by
  unfold accepted
  grind

theorem keeps_aborted (h : Keeps s t) (code) : Keeps s (aborted t code).1 := by
  unfold aborted
  grind

theorem keeps_answerOf (h : Keeps s t) {r : Except Nat State} (hr : ∀ u, r = .ok u → Keeps s u) : Keeps s (answerOf t r).1 := by
  unfold answerOf
  split
  · exact hr _ rfl
  · exact h

end Sys2Proof.Machine
end

section
/-! PROOFS. What every operation keeps, seventh part: reliability, security, metering and power. -/

namespace Sys2Proof.Machine
variable {s t u : State} {q r : Run}

theorem keeps_logEntry (h : Keeps s t) (cls unit key verdict syn) : Keeps s (logEntry t cls unit key verdict syn) := by
  unfold logEntry
  grind [keeps_mk]

theorem keeps_retirementRecord (h : Keeps s t) (unit key sev syn) : Keeps s (retirementRecord t unit key sev syn) := by
  unfold retirementRecord
  grind [keeps_raise, keeps_fault]

theorem keeps_dropCore (h : Keeps s t) (g) : Keeps s (dropCore t g) := by
  unfold dropCore
  extract_lets c g' s1 s2 held s3 mine dips _
  have h1 : Keeps s s1 := keeps_ite h (keeps_State_blame h ..)
  have h3 : Keeps s s3 := keeps_foldl (fun t m h => keeps_returnHeld h ..) _ (keeps_emptyWindows h1 ..)
  have hdips (hd : smWf {} s3.power.dips = true) : smWf {} dips = true := smWf_smMap hd _
  clear_value s3
  have h4 : Keeps s (s3.setCore g {}) := keeps_setCore h3 fun _ => rfl
  exact keeps_mk h4 (Memory.wf_dropLocal g) id id id id id hdips id id id id

theorem keeps_retireSlot (h : Keeps s t) (cl slot) : Keeps s (retireSlot t cl slot) := by
  have hdead (d n) : Keeps s { t with rel := { t.rel with deadSlots := d, permanent := n } } := keeps_mk h id id id id id id id id id id id
  fun_cases retireSlot
  case case1 => exact h
  case case2 => exact keeps_retirementRecord (keeps_ite (keeps_mk (hdead ..) id id id id id id id id id id id) (hdead ..)) ..
  case case3 s1 spare w _ _ =>
    have h1 : Keeps s (dropCore s1 w) := keeps_dropCore (hdead ..) ..
    exact keeps_retirementRecord (keeps_mk h1 id id id id id id id id id id id) ..
  case case4 s3 _ _ _ _ s2 s1 s0 =>
    have h2 : Keeps s s2 := keeps_blameLost (hdead ..) ..
    have h1 : Keeps s s1 := keeps_dropCore h2 ..
    have h0 : Keeps s s0 := keeps_leaveBarriers (keeps_mk h1 id id id id id id id id id id id) ..
    exact keeps_emcy (keeps_retirementRecord h0 ..) ..

theorem keeps_retireGranule (h : Keeps s t) (unit page) : Keeps s (retireGranule t unit page) := by
  unfold retireGranule
  grind [keeps_retirementRecord, keeps_mk]

theorem keeps_retireCacheCell (h : Keeps s t) (unit) : Keeps s (retireCacheCell t unit) := by
  unfold retireCacheCell
  grind [keeps_retirementRecord, keeps_mk]

theorem keeps_retireUnit (h : Keeps s t) (k) : Keeps s (retireUnit t k) := by
  unfold retireUnit
  grind [keeps_retireCacheCell, keeps_retireSlot, keeps_retireGranule]

theorem keeps_retestResult (h : Keeps s t) (k pass test) : Keeps s (retestResult t k pass test) := by
  unfold retestResult
  grind [keeps_logEntry, keeps_fault, keeps_raise, keeps_retireUnit, keeps_mk]

theorem keeps_compact (h : Keeps s t) : Keeps s (compact t) := by
  unfold compact
  grind [keeps_mk, smWf_smSet, keeps_foldl]

theorem keeps_hoursTick (h : Keeps s t) : Keeps s (hoursTick t) := by
  unfold hoursTick
  grind [keeps_logEntry, keeps_mk]

theorem keeps_almanacLoad (h : Keeps s t) (a) : Keeps s (almanacLoad t a) := by
  unfold almanacLoad
  grind [keeps_fault, keeps_mk]

theorem keeps_testFailed (h : Keeps s t) (unit test) : Keeps s (testFailed t unit test) := by
  unfold testFailed
  grind [keeps_fault, keeps_mk]

theorem keeps_scheduledRun (h : Keeps s t) (scope failures) : Keeps s (scheduledRun t scope failures) := by
  unfold scheduledRun
  grind [keeps_testFailed, keeps_logEntry, keeps_mk, keeps_foldl]

theorem keeps_almanacCommand (h : Keeps s t) (b failures) : Keeps s (almanacCommand t b failures).1 := by
  unfold almanacCommand
  grind [keeps_aborted, keeps_accepted, keeps_almanacLoad, keeps_scheduledRun, keeps_mk]

theorem keeps_idleStep (h : Keeps s t) (g test pass) : Keeps s (idleStep t g test pass) := by
  unfold idleStep
  grind [keeps_testFailed, keeps_mk]

theorem keeps_setDip (h : Keeps s t) (die d) : Keeps s (t.setDip die d) := by
  unfold State.setDip
  grind [keeps_mk, smWf_smSet]

theorem keeps_abandonRecompute (h : Keeps s t) (die) : Keeps s (abandonRecompute t die) := by
  unfold abandonRecompute
  grind [keeps_State_blame, keeps_returnHeld, keeps_setDip, keeps_mk, keeps_foldl]

theorem keeps_dipCalls (h : Keeps s t) : Keeps s (dipCalls t) := by
  unfold dipCalls
  grind [keeps_Instance_blame, keeps_foldl]

theorem keeps_dipStart (h : Keeps s t) (die rail mv) : Keeps s (dipStart t die rail mv) := by
  unfold dipStart
  grind [keeps_emcy, keeps_raise, keeps_setDip, keeps_dipCalls, keeps_abandonRecompute, keeps_fault, keeps_mk]

theorem keeps_dipFinish (h : Keeps s t) (die rail mv nanos) : Keeps s (dipFinish t die rail mv nanos) := by
  unfold dipFinish
  grind [keeps_setDip, keeps_fault, keeps_emcyClear, keeps_mk]

theorem keeps_markRecomputed (h : Keeps s t) (a) : Keeps s (markRecomputed t a) := by
  unfold markRecomputed
  grind [keeps_modDesc]

theorem keeps_windowEnd (h : Keeps s t) (die) : Keeps s (windowEnd t die) := by
  unfold windowEnd
  grind [keeps_markRecomputed, keeps_setDip, keeps_mk, keeps_foldl]

theorem keeps_otherDip (h : Keeps s t) (rail mv nanos) : Keeps s (otherDip t rail mv nanos) := by
  unfold otherDip
  grind [keeps_dipFinish, keeps_dipStart, keeps_fault]

theorem keeps_failInFlight (h : Keeps s t) (g u) : Keeps s (failInFlight t g u) := by
  unfold failInFlight
  grind [keeps_modEntry, keeps_leaveWaits, keeps_foldl]

theorem keeps_controlParity (h : Keeps s t) (g) : Keeps s (controlParity t g) := by
  unfold controlParity
  grind [keeps_fault, keeps_failInFlight, keeps_draw, keeps_foldl]

theorem keeps_bootCheck (h : Keeps s t) (pinScope) : Keeps s (bootCheck t pinScope).1 := by
  unfold bootCheck
  grind [keeps_logEntry, keeps_emcy, keeps_mk]

theorem keeps_stopSealed (h : Keeps s t) (exit) : Keeps s (stopSealed t exit) := by
  unfold stopSealed
  grind [keeps_stopContext, keeps_setCtx, keeps_withdrawCore, keeps_foldl]

theorem keeps_destroySealed (h : Keeps s t) (exit) : Keeps s (destroySealed t exit) := by
  unfold destroySealed
  refine keeps_mem (keeps_foldl (fun t x h => keeps_freeContext (keeps_foldl (fun t d h => ?_) _ h) ..) _ h) Memory.wf_zeroSealed
  exact keeps_ite h (keeps_commitWith (keeps_closeDesc h ..) ..)

/-- The security part of the state holds no table. -/
theorem keeps_sec (h : Keeps s t) (c) : Keeps s { t with sec := c } :=
  keeps_mk h id id id id id id id id id id id

theorem keeps_lifecycleCommand (h : Keeps s t) (b) : Keeps s (lifecycleCommand t b).1 := by
  fun_cases lifecycleCommand
  case case4 => exact keeps_mk h id id id id id id id id id id id
  case case6 => exact keeps_sec h _
  case case8 => exact keeps_stopSealed (keeps_sec h _) ..
  case case9 => exact keeps_sec h _
  case case11 => exact keeps_stopSealed (keeps_sec h _) ..
  case case13 => exact keeps_mk h Memory.wf_zeroSealed id id id id id id id id id id
  all_goals exact h

theorem keeps_freshNonce (h : Keeps s t) : Keeps s (freshNonce t).1 := by
  unfold freshNonce
  grind [keeps_mk]

theorem keeps_writeStage (h : Keeps s t) (n b) : Keeps s (writeStage t n b) := by
  unfold writeStage
  grind [keeps_mk]

theorem keeps_keyCommand (h : Keeps s t) (b) : Keeps s (keyCommand t b).1 := by
  unfold keyCommand
  grind [keeps_aborted, keeps_accepted, keeps_mk]

theorem keeps_makePending (h : Keeps s t) (mask ok) : Keeps s (makePending t mask ok).1 := by
  unfold makePending
  grind [keeps_aborted, keeps_accepted, keeps_mk, keeps_foldl]

theorem keeps_fwVerify (h : Keeps s t) : Keeps s (fwVerify t).1 := by
  unfold fwVerify
  grind [keeps_aborted, keeps_accepted, keeps_mk]

theorem keeps_fwCommand (h : Keeps s t) (cls b) : Keeps s (fwCommand t cls b).1 := by
  fun_cases fwCommand
  case case7 => exact keeps_sec h _
  case case8 => exact keeps_fwVerify h
  case case10 r _ => exact keeps_sec (t := r.1) (keeps_makePending h ..) _
  case case11 => exact keeps_makePending h ..
  case case13 => exact keeps_sec h _
  case case16 => exact keeps_sec h _
  case case17 => exact keeps_makePending h ..
  all_goals exact h

theorem keeps_eraseDone (h : Keeps s t) : Keeps s (eraseDone t) := by
  unfold eraseDone
  grind [keeps_mk]

theorem keeps_fwData (h : Keeps s t) (cls b) : Keeps s (fwData t cls b).1 := by
  unfold fwData
  grind [keeps_aborted, keeps_accepted, keeps_mk]

theorem keeps_writeOverride (h : Keeps s t) (n) : Keeps s (writeOverride t n).1 := by
  unfold writeOverride
  grind [keeps_aborted, keeps_accepted, keeps_mk]

theorem keeps_attestStart (h : Keeps s t) (nonce) : Keeps s (attestStart t nonce).1 := by
  unfold attestStart
  grind [keeps_aborted, keeps_accepted, keeps_mk]

theorem keeps_attestFinish (h : Keeps s t) : Keeps s (attestFinish t) := by
  unfold attestFinish
  grind [keeps_mk]

theorem keeps_tapRun (h : Keeps s t) (code width value f) : Keeps s (tapRun t code width value f) := by
  unfold tapRun
  grind [keeps_send, keeps_mk]

theorem keeps_tapBypass (h : Keeps s t) (code) : Keeps s (tapBypass t code) := by
  unfold tapBypass
  grind [keeps_tapRun]

theorem keeps_modDie (h : Keeps s t) (f) : Keeps s (t.modDie f) := by
  unfold State.modDie
  grind [keeps_mk]

theorem keeps_modMeter (h : Keeps s t) (f) : Keeps s (t.modMeter f) := by
  unfold State.modMeter
  grind [keeps_mk]

theorem keeps_meterEvent (h : Keeps s t) (typ detail second) : Keeps s (meterEvent t typ detail second) := by
  unfold meterEvent
  grind [keeps_modDie, smWf_smSet]

theorem keeps_setStatus (h : Keeps s t) (bit on) : Keeps s (setStatus t bit on) := by
  unfold setStatus
  grind [keeps_modDie]

theorem keeps_commitRegister (h : Keeps s t) : Keeps s (commitRegister t) := by
  unfold commitRegister
  grind [keeps_modMeter]

theorem keeps_meterTick (h : Keeps s t) : Keeps s (meterTick t) := by
  unfold meterTick
  grind [keeps_modMeter, keeps_modDie, keeps_commitRegister]

theorem keeps_referenceEvent (h : Keeps s t) (away ppm) : Keeps s (referenceEvent t away ppm) := by
  unfold referenceEvent
  grind [keeps_meterEvent, keeps_setStatus, keeps_modMeter]

theorem keeps_conditionEvent (h : Keeps s t) (power away value) : Keeps s (conditionEvent t power away value) := by
  unfold conditionEvent
  grind [keeps_meterEvent, keeps_setStatus]

theorem keeps_readingStart (h : Keeps s t) (nonce) : Keeps s (readingStart t nonce).1 := by
  unfold readingStart
  grind [keeps_aborted, keeps_accepted, keeps_modMeter]

theorem keeps_readingFinish (h : Keeps s t) : Keeps s (readingFinish t) := by
  unfold readingFinish
  grind [keeps_draw, keeps_modMeter]

theorem keeps_readingPeriodic (h : Keeps s t) : Keeps s (readingPeriodic t) := by
  unfold readingPeriodic
  grind [keeps_draw, keeps_modDie]

theorem keeps_pairCheck (h : Keeps s t) : Keeps s (pairCheck t) := by
  unfold pairCheck
  grind [keeps_emcyClear, keeps_emcy, keeps_mk]

theorem keeps_modMirror (h : Keeps s t) (f) : Keeps s (t.modMirror f) := by
  unfold State.modMirror
  grind [keeps_modMeter]

theorem keeps_dynamicFrame (h : Keeps s t) : Keeps s (dynamicFrame t) := by
  unfold dynamicFrame
  grind [keeps_modMirror, keeps_modMeter, keeps_pairCheck, keeps_raise]

theorem keeps_takeMirror (h : Keeps s t) (crcOk item) : Keeps s (takeMirror t crcOk item) := by
  unfold takeMirror
  grind [keeps_modMeter, keeps_dynamicFrame, keeps_modMirror, smWf_smSet]

theorem keeps_meterSend (h : Keeps s t) (base data) : Keeps s (meterSend t base data) := by
  unfold meterSend
  grind [keeps_send]

theorem keeps_meterHeartbeat (h : Keeps s t) : Keeps s (meterHeartbeat t) := by
  unfold meterHeartbeat
  grind [keeps_meterSend]

theorem keeps_setMeterNmt (h : Keeps s t) (n) : Keeps s (setMeterNmt t n) := by
  unfold setMeterNmt
  grind [keeps_meterHeartbeat, keeps_modMeter]

theorem keeps_meterCommReset (h : Keeps s t) : Keeps s (meterCommReset t) := by
  unfold meterCommReset
  grind [keeps_modMeter, keeps_meterSend]

theorem keeps_meterNmt (h : Keeps s t) (command node) : Keeps s (meterNmt t command node) := by
  unfold meterNmt
  grind [keeps_setMeterNmt, keeps_meterCommReset]

theorem keeps_meterActivate (h : Keeps s t) : Keeps s (meterActivate t) := by
  unfold meterActivate
  grind [keeps_modDie, keeps_meterEvent, keeps_modMeter, keeps_meterSend]

theorem keeps_meterFwCommand (h : Keeps s t) (b) : Keeps s (meterFwCommand t b).1 := by
  unfold meterFwCommand
  grind [keeps_aborted, keeps_accepted, keeps_modMeter, keeps_meterActivate]

theorem keeps_meterFwData (h : Keeps s t) (b) : Keeps s (meterFwData t b).1 := by
  unfold meterFwData
  grind [keeps_aborted, keeps_accepted, keeps_modMeter]

theorem keeps_meterPowerOn (h : Keeps s t) (selfTest) : Keeps s (meterPowerOn t selfTest) := by
  unfold meterPowerOn
  grind [keeps_modMeter, keeps_meterEvent, keeps_setStatus, keeps_meterCommReset]

theorem keeps_attributeOne {p : State × Nat} (h : Keeps s p.1) (total delta w a) : Keeps s (attributeOne total delta w p a).1 :=
  keeps_setCtx h ..

theorem keeps_apportion (h : Keeps s t) (activity) : Keeps s (apportion t activity) := by
  unfold apportion
  refine keeps_modMeter ?_ ..
  split
  · exact h
  · exact List.foldlRecOn (motive := fun r : State × Nat => Keeps s r.1) _ _ h fun r h a _ => keeps_attributeOne h ..

theorem keeps_attributionClear (h : Keeps s t) (n) : Keeps s (attributionClear t n).1 := by
  unfold attributionClear
  grind [keeps_aborted, keeps_accepted, keeps_modMeter, keeps_mk, smWf_smMap]

theorem keeps_canSend (h : Keeps s t) (base data) : Keeps s (canSend t base data) := by
  unfold canSend
  grind [keeps_send]

theorem keeps_sendHeartbeat (h : Keeps s t) : Keeps s (sendHeartbeat t) := by
  unfold sendHeartbeat
  grind [keeps_canSend]

theorem keeps_sendBootUp (h : Keeps s t) : Keeps s (sendBootUp t) := by
  unfold sendBootUp
  grind [keeps_canSend]

theorem keeps_setDevice (h : Keeps s t) (d) : Keeps s (setDevice t d) := by
  unfold setDevice
  grind [keeps_sendHeartbeat, keeps_releaseIntr, keeps_mk]

theorem keeps_settleSteps (h : Keeps s t) : Keeps s (settleSteps t) := by
  unfold settleSteps
  grind [keeps_mk]

@[simp] theorem dips_powerStepOf (p : Power) (mw : Nat) : (powerStepOf p mw).dips = p.dips := by
  fun_cases powerStepOf <;> rfl

theorem keeps_samplePower (h : Keeps s t) (mw) : Keeps s (samplePower t mw) := by
  fun_cases samplePower
  case case1 => exact h
  case case2 =>
    refine keeps_settleSteps (keeps_mk h ?_ ?_ ?_ ?_ ?_ ?_ ?_ ?_ ?_ ?_ ?_)
    case refine_7 => simp
    all_goals exact id
  case case3 => exact keeps_mk h id id id id id id id id id id id

theorem keeps_hotEpisode (h : Keeps s t) (d) : Keeps s (hotEpisode t d) := by
  unfold hotEpisode
  grind [keeps_emcy, keeps_raise, keeps_fault, keeps_mk]

theorem keeps_thermalControl (h : Keeps s t) : Keeps s (thermalControl t) := by
  unfold thermalControl
  grind [keeps_hotEpisode, keeps_settleSteps, keeps_emcyClear, keeps_mk]

end Sys2Proof.Machine
end

section
/-! PROOFS. What every operation keeps, eighth part: resets and start-up. -/

namespace Sys2Proof.Machine
variable {s t u : State} {q r : Run}

/-! What a reset leaves of each table. -/

theorem wf_sourcesAfter {m : SMap IrqSource} (scope : Scope) (h : smWf {} m = true) : smWf {} (sourcesAfter m scope) = true := by
  cases scope
  case warm => exact smWf_smMap h fun _ x => { x with pending := false }
  all_goals rfl

theorem wf_destsAfter {m : SMap IrqDest} (scope : Scope) (h : smWf {} m = true) : smWf {} (destsAfter m scope) = true := by
  cases scope
  case warm => exact smWf_smMap h fun _ x => { x with count := 0, started := none }
  all_goals rfl

theorem wf_ports_afterReset {f : Fabric} (scope : Scope) (h : smWf {} f.ports = true) :
    smWf {} (f.afterReset scope).ports = true := by
  cases scope
  case powerOn => rfl
  case pin => exact smWf_smMap h fun _ k => { st := if k.st = 4 ∨ k.st = 5 then k.st else 0 }
  case warm =>
    exact smWf_smMap h fun _ k => { st := if k.st = 4 ∨ k.st = 5 then k.st else 0, corrected := k.corrected
                                    uncorrectable := k.uncorrectable, retries := k.retries, downs := k.downs
                                    downHour := k.downHour, downsInHour := k.downsInHour }

@[simp] theorem streams_afterReset (f : Fabric) (scope : Scope) : (f.afterReset scope).streams = [] := by cases scope <;> rfl

@[simp] theorem trackers_afterReset (f : Fabric) (scope : Scope) : (f.afterReset scope).trackers = [] := by cases scope <;> rfl

@[simp] theorem instances_afterReset (c : Collectives) (scope : Scope) : (c.afterReset scope).instances = [] := by cases scope <;> rfl

@[simp] theorem dips_afterReset (p : Power) (scope : Scope) (cause : BitVec 8) : (p.afterReset scope cause).dips = [] := by
  cases scope <;> rfl

theorem wf_ite_nil {α : Type} [DecidableEq α] {d : α} {m : SMap α} (b : Bool) (h : smWf d m = true) :
    smWf d (if b then m else []) = true := by
  split
  · exact h
  · rfl

theorem coresCanon_nil : CoresCanon [] := ⟨rfl, fun _ h => nomatch h⟩

theorem keeps_restart (h : Keeps s t) (scope cause) : Keeps s (restart t scope cause) := by
  unfold restart
  refine keeps_mk h ?_ ?_ ?_ ?_ ?_ ?_ ?_ ?_ ?_ ?_ ?_
  · exact Memory.wf_afterReset scope
  · exact fun _ => coresCanon_nil
  · exact wf_ite_nil _
  · exact wf_ite_nil _
  · exact wf_sourcesAfter scope
  · exact wf_destsAfter scope
  · exact fun _ => by rw [dips_afterReset]; rfl
  · exact wf_ports_afterReset scope
  · exact fun _ => by rw [streams_afterReset]; rfl
  · exact fun _ => by rw [trackers_afterReset]; rfl
  · exact fun _ => by rw [instances_afterReset]; rfl

theorem keeps_powerOff (h : Keeps s t) (cause) : Keeps s (powerOff t cause) := by
  unfold powerOff
  grind [keeps_restart, keeps_mk]

theorem keeps_pinReset (h : Keeps s t) (cause) : Keeps s (pinReset t cause) := by
  unfold pinReset
  grind [keeps_restart]

theorem keeps_warmRestart (h : Keeps s t) (cause) : Keeps s (warmRestart t cause) := by
  unfold warmRestart
  grind [keeps_restart]

theorem keeps_powerStart (h : Keeps s t) : Keeps s (powerStart t) := by
  unfold powerStart
  grind [keeps_restart]

theorem keeps_warmCommanded (h : Keeps s t) (w) : Keeps s (warmCommanded t w) := by
  unfold warmCommanded
  grind [keeps_mk]

theorem keeps_closeAll (h : Keeps s t) : Keeps s (closeAll t) := by
  unfold closeAll
  grind [keeps_commitWith, keeps_closeDesc, keeps_foldl]

theorem keeps_drainEnd (h : Keeps s t) : Keeps s (drainEnd t) := by
  unfold drainEnd
  grind [keeps_closeAll]

theorem keeps_writeRest (h : Keeps s t) : Keeps s (writeRest t) := by
  unfold writeRest
  grind [keeps_completeStep, keeps_foldl]

theorem keeps_warmReset (h : Keeps s t) (w) : Keeps s (warmReset t w) := by
  unfold warmReset
  grind [keeps_warmRestart, keeps_writeRest, keeps_closeAll]

theorem keeps_setDieResetting (h : Keeps s t) (d b) : Keeps s (setDieResetting t d b) := by
  unfold setDieResetting
  grind [keeps_mk]

@[simp] theorem dips_setDieResetting (s : State) (d : Nat) (b : Bool) : (setDieResetting s d b).power.dips = s.power.dips := by
  unfold setDieResetting
  dsimp only
  split <;> rfl

theorem keeps_dieResetBegin (h : Keeps s t) (d) : Keeps s (dieResetBegin t d) := by
  fun_cases dieResetBegin
  case case1 => exact h
  case case2 _ s3 s2 s1 s0 =>
    have h3 : Keeps s s3 := by
      have hdies := keeps_setDieResetting (keeps_clearStaging h) d true
      refine keeps_mk hdies ?_ ?_ ?_ ?_ ?_ ?_ ?_ ?_ ?_ ?_ ?_
      case refine_7 => simp [clearStaging]
      all_goals exact id
    have h2 : Keeps s s2 := keeps_setDip (keeps_abandonRecompute h3 ..) ..
    have h1 : Keeps s s1 := keeps_blameLost h2 ..
    exact keeps_recoverHolders (keeps_foldl (fun t g h => keeps_foldl (fun t u h => keeps_failInFlight h ..) _ h) _ h1) ..

theorem keeps_blankCore (h : Keeps s t) (g) : Keeps s (blankCore t g) := by
  exact keeps_setCore (keeps_emptyWindows h ..) fun _ => rfl

theorem keeps_resetDieSync (h : Keeps s t) (d x) : Keeps s (resetDieSync t d x) := by
  unfold resetDieSync
  grind [keeps_setCtr, keeps_setCtx, smWf_smMap, keeps_foldl]

theorem keeps_clearTraining (h : Keeps s t) : Keeps s (clearTraining t) := by
  unfold clearTraining
  exact keeps_mk h id id id (fun hc => smWf_smMap hc _) id id id id id id id

theorem keeps_dieResetEnd (h : Keeps s t) (d) : Keeps s (dieResetEnd t d) := by
  fun_cases dieResetEnd
  case case1 => exact h
  case case2 s4 s3 s2 s1 =>
    have h4 : Keeps s s4 := keeps_setDieResetting h ..
    have h3 : Keeps s s3 := keeps_foldl (fun t g h => keeps_blankCore h ..) _ h4
    have h2 : Keeps s s2 := keeps_clearTraining (keeps_mem h3 (Memory.wf_zeroDie _))
    have h1 : Keeps s s1 := keeps_foldl (fun t x h => keeps_resetDieSync h ..) _ h2
    exact keeps_foldl (fun t x h => keeps_ite (keeps_replayStart h ..) h) _ h1

theorem keeps_dieReset (h : Keeps s t) (d) : Keeps s (dieReset t d) := by
  unfold dieReset
  grind [keeps_dieResetEnd, keeps_dieResetBegin]

theorem keeps_resetCommand (h : Keeps s t) (n) : Keeps s (resetCommand t n).1 := by
  unfold resetCommand
  grind [keeps_aborted, keeps_accepted, keeps_warmCommanded, keeps_dieResetBegin]

theorem keeps_serdesLost (h : Keeps s t) (io) : Keeps s (serdesLost t io) := by
  unfold serdesLost
  grind [keeps_portDown, keeps_drinexDown, keeps_foldl]

theorem keeps_railReset (h : Keeps s t) (rail) : Keeps s (railReset t rail) := by
  unfold railReset
  grind [keeps_powerOff, keeps_dieResetBegin, keeps_pinReset, keeps_serdesLost, keeps_loseStack, keeps_relocate, keeps_loseChannel,
    keeps_mk, keeps_foldl]

theorem keeps_inputEvent (h : Keeps s t) (away mv) : Keeps s (inputEvent t away mv) := by
  have hset {t} (h : Keeps s t) (b n m) : Keeps s { t with power := { t.power with inputWarn := b, powerStep := n, inputHold := m } } :=
    keeps_mk h id id id id id id id id id id id
  fun_cases inputEvent
  case case2 s1 s0 _ =>
    have h0 : Keeps s s0 := keeps_ite (keeps_meterEvent (keeps_commitRegister (hset h ..)) ..) (hset h ..)
    exact keeps_settleSteps (keeps_emcy (keeps_raise h0 ..) ..)
  case case3 s1 s0 _ => exact keeps_ite (keeps_meterEvent (keeps_commitRegister (hset h ..)) ..) (hset h ..)
  case case4 => exact keeps_emcyClear (hset h ..)
  all_goals exact h

theorem keeps_sampleTemps (h : Keeps s t) (temps) : Keeps s (sampleTemps t temps) := by
  unfold sampleTemps
  grind [keeps_fault, keeps_powerOff, keeps_thermalControl, keeps_mk]

theorem keeps_loseReference (h : Keeps s t) : Keeps s (loseReference t) := by
  unfold loseReference
  grind [keeps_pinReset, keeps_mk]

theorem keeps_referenceBack (h : Keeps s t) : Keeps s (referenceBack t) := by
  unfold referenceBack
  grind [keeps_mk]

theorem keeps_resetPinLow (h : Keeps s t) : Keeps s (resetPinLow t) := by
  unfold resetPinLow
  grind [keeps_pinReset, keeps_mk]

theorem keeps_resetPinHigh (h : Keeps s t) : Keeps s (resetPinHigh t) := by
  unfold resetPinHigh
  grind [keeps_mk]

theorem keeps_enableLow (h : Keeps s t) : Keeps s (enableLow t) := by
  unfold enableLow
  grind [keeps_powerOff, keeps_mk]

theorem keeps_enableHigh (h : Keeps s t) : Keeps s (enableHigh t) := by
  unfold enableHigh
  grind [keeps_powerStart, keeps_mk]

theorem keeps_powerOn (h : Keeps s t) (why) : Keeps s (powerOn t why) := by
  unfold powerOn
  grind [keeps_powerStart, keeps_mk]

theorem keeps_populate (h : Keeps s t) (spd) : Keeps s (populate t spd) := by
  unfold populate
  grind [Memory.wf, keeps_mk]

theorem keeps_trainStacks (h : Keeps s t) (failed) : Keeps s (trainStacks t failed) := by
  unfold trainStacks
  grind [Memory.wf, keeps_mk]

theorem keeps_stopBoot (h : Keeps s t) : Keeps s (stopBoot t) := by
  unfold stopBoot
  grind [keeps_mk]

theorem keeps_nextStep (h : Keeps s t) : Keeps s (nextStep t) := by
  unfold nextStep
  grind [keeps_mk]

theorem keeps_retireFailed (h : Keeps s t) (slots almanac) : Keeps s (retireFailed t slots almanac) := by
  unfold retireFailed
  grind [keeps_fault, keeps_raise, keeps_logEntry, keeps_retireSlot, keeps_mk, keeps_foldl]

theorem keeps_bootDone (h : Keeps s t) (r) : Keeps s (bootDone t r) := by
  unfold bootDone
  grind [keeps_sendBootUp, keeps_nextStep, keeps_bootCheck, keeps_stopBoot, keeps_retireFailed, keeps_trainStacks, keeps_fault,
    keeps_populate, keeps_setDevice, Memory.wf, keeps_mk]

theorem keeps_bootLate (h : Keeps s t) : Keeps s (bootLate t) := by
  unfold bootLate
  grind [keeps_fault, keeps_stopBoot, keeps_draw]

theorem keeps_lifecycleFinish (h : Keeps s t) : Keeps s (lifecycleFinish t) := by
  unfold lifecycleFinish
  grind [keeps_destroySealed, keeps_warmRestart, keeps_mk]

@[simp] theorem fences_clearOverwritten (c : Core) (u : UnitKind) : (clearOverwritten c u).fences = c.fences := by
  cases u <;> rfl

theorem keeps_readEffect (h : Keeps s t) (k idx sub) : Keeps s (readEffect t k idx sub) := by
  unfold readEffect
  exact keeps_ite (keeps_setCore h (by simp)) (keeps_ite (keeps_setCore h (by simp)) (keeps_ite (keeps_draw h) h))

theorem keeps_readObject (h : Keeps s t) (k r idx sub) : Keeps s (readObject t k r idx sub).1 := by
  unfold readObject
  grind [keeps_freshNonce, keeps_readEffect]

end Sys2Proof.Machine
end

section
/-! PROOFS. What every operation keeps, ninth part: writes of objects. -/

namespace Sys2Proof.Machine
variable {s t u : State} {q r : Run}

theorem keeps_setSelects (h : Keeps s t) (a k) : Keeps s (t.setSelects a k) := by
  cases a with
  | mk cls src =>
    cases cls
    case metro => exact h
    all_goals exact keeps_mk h id id id id id id id id id id id

theorem keeps_touchSelects (h : Keeps s t) (a) : Keeps s (touchSelects t a) := by
  unfold touchSelects
  grind [keeps_setSelects]

theorem keeps_writeSelect (h : Keeps s t) (a idx sub b) : Keeps s (writeSelect t a idx sub b).1 := by
  fun_cases writeSelect
  case case3 => exact keeps_setSelects h ..
  all_goals exact h

theorem keeps_modDict (h : Keeps s t) (f) : Keeps s (t.modDict f) := by
  exact keeps_mk h id id id id id id id id id id id

theorem keeps_modTpdo (h : Keeps s t) (n f) : Keeps s (t.modTpdo n f) := by
  exact keeps_modDict h ..

theorem keeps_writeMapping (h : Keeps s t) (n entry k) : Keeps s (writeMapping t n entry k).1 := by
  fun_cases writeMapping
  case case3 => exact keeps_modTpdo h ..
  all_goals exact h

theorem keeps_writeMappedCount (h : Keeps s t) (n k) : Keeps s (writeMappedCount t n k).1 := by
  fun_cases writeMappedCount
  case case5 => exact keeps_modTpdo h ..
  all_goals exact h

theorem keeps_setIf (h : Keeps s t) (ok) {t' : State} (ht : Keeps s t') : Keeps s (setIf t ok t').1 := by
  unfold setIf
  split
  · exact ht
  · exact h

theorem keeps_write1000 (h : Keeps s t) (idx sub n) : Keeps s (write1000 t idx sub n).1 := by
  unfold write1000
  dsimp only
  split
  · split
    · exact keeps_setIf h _ (keeps_modTpdo h ..)
    · exact keeps_setIf h _ (keeps_modTpdo h ..)
    · exact keeps_accepted (keeps_modTpdo h ..)
    · exact keeps_accepted (keeps_modTpdo h ..)
  · split
    · split
      · exact keeps_writeMappedCount h ..
      · exact keeps_writeMapping h ..
    · split
      · exact keeps_setIf h _ (keeps_modDict h ..)
      · exact keeps_setIf h _ (keeps_modDict h ..)
      · exact keeps_accepted (keeps_modDict h ..)
      · exact keeps_setIf h _ (keeps_modDict h ..)

theorem keeps_writeLevel (h : Keeps s t) (n) : Keeps s (writeLevel t n).1 := by
  fun_cases writeLevel
  case case3 => exact keeps_accepted (keeps_modDict h ..)
  case case4 => exact keeps_raise (keeps_emcy (keeps_modDict (keeps_modDict h ..) ..) ..) ..
  all_goals exact h

theorem keeps_write2000 (h : Keeps s t) (idx n) : Keeps s (write2000 t idx n).1 := by
  unfold write2000
  split
  · exact keeps_writeLevel h ..
  · exact keeps_accepted (keeps_modDict h ..)
  · exact keeps_accepted (keeps_modDict h ..)

theorem keeps_numericsClear (h : Keeps s t) (g n) : Keeps s (numericsClear t g n) := by
  unfold numericsClear
  refine keeps_setCore h fun hf => ?_
  grind

theorem keeps_vecNumericsClear (h : Keeps s t) (g n) : Keeps s (vecNumericsClear t g n) := by
  unfold vecNumericsClear
  exact keeps_ite (keeps_setCore h (by exact id)) h

theorem keeps_modWeights (h : Keeps s t) (f) : Keeps s (t.modWeights f) := by
  unfold State.modWeights
  grind [keeps_modMeter]

theorem keeps_write2100 (h : Keeps s t) (idx sub n b) : Keeps s (write2100 t idx sub n b).1 := by
  have hpower (p : Power) (hp : p.dips = t.power.dips) : Keeps s { t with power := p } :=
    keeps_mk h id id id id id id (by simp [hp]) id id id id
  unfold write2100
  dsimp only
  split
  · exact keeps_setIf h _ (keeps_settleSteps (hpower _ rfl))
  · exact keeps_setIf h _ (hpower _ rfl)
  · exact keeps_resetCommand h ..
  · exact keeps_setIf h _ (hpower _ rfl)
  · exact keeps_accepted (keeps_modWeights h ..)
  · exact keeps_accepted (keeps_modWeights h ..)
  · exact keeps_accepted (keeps_modWeights h ..)
  · exact keeps_accepted (keeps_modWeights h ..)
  · exact keeps_attributionClear h ..

theorem keeps_writeSealedSlots (h : Keeps s t) (n) : Keeps s (writeSealedSlots t n).1 := by
  fun_cases writeSealedSlots
  case case3 => exact keeps_mem h id
  all_goals exact h

/-- The training part of the state holds no table. -/
theorem keeps_training (h : Keeps s t) (a) : Keeps s { t with training := a } := keeps_mk h id id id id id id id id id id id

/-- The reliability part of the state holds no table. -/
theorem keeps_rel (h : Keeps s t) (a) : Keeps s { t with rel := a } := keeps_mk h id id id id id id id id id id id

theorem keeps_write2400 (h : Keeps s t) (k idx sub n) : Keeps s (write2400 t k idx sub n).1 := by
  unfold write2400
  dsimp only
  split
  · exact keeps_setIf h _ (keeps_rel h _)
  · exact keeps_writeSealedSlots h ..
  · exact keeps_setIf h _ (keeps_numericsClear h ..)
  · exact keeps_setIf h _ (keeps_vecNumericsClear h ..)
  · exact keeps_setIf h _ (keeps_training h _)
  · exact keeps_training h _
  · exact keeps_setIf h _ (keeps_training h _)
  · exact keeps_setIf h _ (keeps_watchClear h ..)

/-- The objects of the queues hold no table. -/
theorem keeps_queueObjs (h : Keeps s t) (a) : Keeps s { t with queueObjs := a } := keeps_mk h id id id id id id id id id id id

theorem keeps_write2A00 (h : Keeps s t) (k idx sub n b) : Keeps s (write2A00 t k idx sub n b).1 := by
  have hend := keeps_endSnapshot h
  unfold write2A00
  dsimp only
  split
  · exact keeps_answerOf h fun u e => keeps_ctxCommand hend e
  · exact keeps_answerOf h fun u e => keeps_queueConfigure hend e
  · split
    · exact h
    · exact keeps_answerOf h fun u e => keeps_queueReset hend e
  · exact keeps_answerOf h fun u e => keeps_counterCommand hend e
  · exact keeps_answerOf h fun u e => keeps_irqRoute h e
  · exact keeps_accepted (keeps_irqClear h ..)
  · exact keeps_answerOf h fun u e => keeps_irqSet h e
  · exact keeps_answerOf h fun u e => keeps_irqLimit h e
  · exact keeps_answerOf h fun u e => keeps_irqLimit h e
  · exact keeps_setIf h _ (keeps_queueObjs h _)
  · split
    · exact h
    · exact keeps_answerOf h fun u e => keeps_snapshotStart h e

theorem keeps_write3000 (h : Keeps s t) (k idx sub n b fails) : Keeps s (write3000 t k idx sub n b fails).1 := by
  unfold write3000
  dsimp only
  split
  · exact keeps_setIf h _ (keeps_mk h id id id id id id id id id id id)
  · exact keeps_setIf h _ (keeps_mk h id id id id id id id id id id id)
  · exact keeps_answerOf h fun u e => keeps_portCommand h e
  · exact keeps_answerOf h fun u e => keeps_drinexCommand h e
  · exact keeps_setIf h _ (keeps_mk h id id id id id id id id id id id)
  · exact keeps_setIf h _ (keeps_mk h id id id id id id id id id id id)
  · exact keeps_setIf h _ (keeps_rel h _)
  · exact keeps_almanacCommand h ..
  · exact keeps_setIf h _ (keeps_rel h _)
  · exact keeps_setIf h _ (keeps_rel h _)

theorem keeps_writeChunk (h : Keeps s t) (n b) : Keeps s (writeChunk t n b).1 := by
  fun_cases writeChunk
  case case1 => exact h
  case case2 => exact keeps_writeStage h ..

theorem keeps_write3C00 (h : Keeps s t) (a k idx sub n b) : Keeps s (write3C00 t a k idx sub n b).1 := by
  unfold write3C00
  split
  · exact keeps_writeChunk h ..
  · exact keeps_fwCommand h ..
  · exact keeps_setIf h _ (keeps_sec h _)
  · exact keeps_fwData h ..
  · exact keeps_setIf h _ (keeps_sec h _)
  · exact keeps_writeOverride h ..
  · exact keeps_lifecycleCommand h ..
  · exact keeps_keyCommand h ..
  · exact keeps_attestStart h ..

theorem keeps_writeObject (h : Keeps s t) (a r idx sub b fails) : Keeps s (writeObject t a r idx sub b fails).1 := by
  fun_cases writeObject
  · exact keeps_writeSelect h ..
  · exact keeps_write1000 h ..
  · exact keeps_write2000 h ..
  · exact keeps_write2100 h ..
  · exact keeps_write2400 h ..
  · exact keeps_write2A00 h ..
  · exact keeps_write3000 h ..
  · exact keeps_write3C00 h ..
  · exact keeps_write2A00 h ..

theorem keeps_writeMeterObject (h : Keeps s t) (idx sub b) : Keeps s (writeMeterObject t idx sub b).1 := by
  have hmod := keeps_modMeter h
  unfold writeMeterObject
  dsimp only
  split
  · exact keeps_setIf h _ (hmod _)
  · exact keeps_setIf h _ (hmod _)
  · exact keeps_setIf h _ (hmod _)
  · exact keeps_accepted (hmod _)
  · exact keeps_accepted (hmod _)
  · exact keeps_accepted (hmod _)
  · exact keeps_readingStart h ..
  · exact keeps_setIf h _ (hmod _)
  · exact keeps_meterFwCommand h ..
  · exact keeps_meterFwData h ..

end Sys2Proof.Machine
end

section
/-! PROOFS. What every operation keeps, tenth part: the dictionary, its ports, and the CAN bus. -/

namespace Sys2Proof.Machine
variable {s t u : State} {q r : Run}

theorem keeps_countAbort (h : Keeps s t) (code) : Keeps s (countAbort t code) := by
  unfold countAbort
  grind [keeps_modDict]

theorem keeps_dictRead (h : Keeps s t) (a idx sub) : Keeps s (dictRead t a idx sub).1 := by
  unfold dictRead
  grind [keeps_touchSelects, keeps_countAbort, keeps_readObject]

theorem keeps_applyWrite (h : Keeps s t) (a r idx sub b fails) : Keeps s (applyWrite t a r idx sub b fails).1 := by
  unfold applyWrite
  grind [keeps_aborted, keeps_countAbort, keeps_writeObject]

theorem keeps_dictWrite (h : Keeps s t) (a idx sub b fails) : Keeps s (dictWrite t a idx sub b fails).1 := by
  unfold dictWrite
  grind [keeps_touchSelects, keeps_aborted, keeps_countAbort, keeps_applyWrite]

theorem keeps_meterRead (h : Keeps s t) (idx sub) : Keeps s (meterRead t idx sub).1 := by
  unfold meterRead
  grind

theorem keeps_meterWrite (h : Keeps s t) (idx sub b) : Keeps s (meterWrite t idx sub b).1 := by
  unfold meterWrite
  grind [keeps_aborted, keeps_writeMeterObject]

theorem keeps_tapAnswer (h : Keeps s t) (code data) : Keeps s (tapAnswer t code data) := by
  unfold tapAnswer
  grind [keeps_modDict]

theorem keeps_usdoReply (h : Keeps s t) (p code data) : Keeps s (usdoReply t p code data) := by
  unfold usdoReply
  grind [keeps_send, keeps_answer, keeps_tapAnswer]

theorem keeps_dropSession (h : Keeps s t) (o) : Keeps s (dropSession t o) := by
  unfold dropSession
  grind [keeps_modDict]

theorem keeps_usdoAbort (h : Keeps s t) (p code) : Keeps s (usdoAbort t p code) := by
  unfold usdoAbort
  grind [keeps_usdoReply, keeps_countAbort]

theorem keeps_beginTransfer (h : Keeps s t) (p) : Keeps s (beginTransfer t p) := by
  unfold beginTransfer
  grind [keeps_usdoAbort, keeps_dropSession]

theorem keeps_openSession (h : Keeps s t) (e) : Keeps s (openSession t e) := by
  unfold openSession
  grind [keeps_modDict]

theorem keeps_usdoUpload (h : Keeps s t) (p idx sub) : Keeps s (usdoUpload t p idx sub) := by
  unfold usdoUpload
  grind [keeps_beginTransfer, keeps_usdoAbort, keeps_dictRead, keeps_usdoReply, keeps_openSession]

theorem keeps_usdoDownload (h : Keeps s t) (p idx sub expedited) : Keeps s (usdoDownload t p idx sub expedited) := by
  unfold usdoDownload
  grind [keeps_beginTransfer, keeps_dictWrite, keeps_usdoReply, keeps_touchSelects, keeps_usdoAbort, keeps_openSession]

theorem keeps_finishDownload (h : Keeps s t) (p e b) : Keeps s (finishDownload t p e b) := by
  unfold finishDownload
  grind [keeps_dropSession, keeps_usdoAbort, keeps_applyWrite, keeps_usdoReply]

theorem keeps_usdoSegment (h : Keeps s t) (p data last) : Keeps s (usdoSegment t p data last) := by
  unfold usdoSegment
  grind [keeps_usdoAbort, keeps_touchSelects, keeps_dropSession, keeps_finishDownload, keeps_usdoReply, keeps_openSession]

theorem keeps_usdoServe (h : Keeps s t) (p field) : Keeps s (usdoServe t p field) := by
  unfold usdoServe
  grind [keeps_usdoAbort, keeps_usdoUpload, keeps_usdoDownload, keeps_usdoSegment]

theorem keeps_serveTap (h : Keeps s t) : Keeps s (serveTap t) := by
  unfold serveTap
  grind [keeps_usdoServe, keeps_modDict]

theorem keeps_tapDict (h : Keeps s t) (length request) : Keeps s (tapDict t length request) := by
  unfold tapDict
  grind [keeps_tapRun, keeps_modDict, keeps_tapAnswer, keeps_countAbort]

theorem keeps_quiet (h : Keeps s t) : Keeps s (quiet t) := by
  unfold quiet
  grind [keeps_idle, keeps_serveTap]

theorem keeps_dictCommandWith (h : Keeps s t) (a idx sub b fails) : Keeps s (dictCommandWith t a idx sub b fails) := by
  unfold dictCommandWith
  grind [keeps_meterWrite, keeps_dictWrite, keeps_serveTap, keeps_send]

theorem keeps_dictCommand (h : Keeps s t) (a idx sub b) : Keeps s (dictCommand t a idx sub b) := by
  unfold dictCommand
  grind [keeps_dictCommandWith]

theorem keeps_dictQuery (h : Keeps s t) (a idx sub) : Keeps s (dictQuery t a idx sub) := by
  unfold dictQuery
  grind [keeps_meterRead, keeps_dictRead, keeps_serveTap, keeps_send]

theorem keeps_ringRegister (h : Keeps s t) (u g off n) : Keeps s (ringRegister t u g off n) := by
  unfold ringRegister
  grind [keeps_setCore, Core.setUnit_fences, keeps_releaseWrite]

theorem keeps_coreRegister (h : Keeps s t) (g off n) : Keeps s (coreRegister t g off n) := by
  unfold coreRegister
  grind [keeps_ringRegister, keeps_setCore]

theorem keeps_lssReply (h : Keeps s t) (command value) : Keeps s (lssReply t command value) := by
  unfold lssReply
  grind [keeps_send]

theorem keeps_lssBoth (h : Keeps s t) {own} {metering} (hown : ∀ t, Keeps s t → Keeps s (own t))
    (hmetering : ∀ t, Keeps s t → Keeps s (metering t)) :
    Keeps s (lssBoth t own metering) := by
  unfold lssBoth
  grind

theorem keeps_setLss (h : Keeps s t) (on) : Keeps s (setLss t on) := by
  unfold setLss
  grind [keeps_modDict]

theorem keeps_setMeterLss (h : Keeps s t) (on) : Keeps s (setMeterLss t on) := by
  unfold setMeterLss
  grind [keeps_modMeter]

theorem keeps_lssGlobal (h : Keeps s t) (on) : Keeps s (lssGlobal t on) := by
  unfold lssGlobal
  grind [keeps_lssBoth, keeps_setLss, keeps_setMeterLss]

theorem keeps_lssSelective (h : Keeps s t) (address) : Keeps s (lssSelective t address) := by
  unfold lssSelective
  grind [keeps_lssBoth, keeps_lssReply, keeps_setLss, keeps_setMeterLss]

theorem keeps_lssNodeId (h : Keeps s t) (n) : Keeps s (lssNodeId t n) := by
  unfold lssNodeId
  grind [keeps_lssBoth, keeps_lssReply, keeps_modDict, keeps_modMeter]

theorem keeps_lssTiming (h : Keeps s t) : Keeps s (lssTiming t) := by
  unfold lssTiming
  grind [keeps_lssBoth, keeps_lssReply]

theorem keeps_storeNode (h : Keeps s t) : Keeps s (storeNode t) := by
  unfold storeNode
  grind [keeps_logEntry, keeps_modDict, keeps_pairCheck]

theorem keeps_storeMeterNode (h : Keeps s t) : Keeps s (storeMeterNode t) := by
  unfold storeMeterNode
  grind [keeps_meterEvent, keeps_modMeter]

theorem keeps_lssStore (h : Keeps s t) : Keeps s (lssStore t) := by
  unfold lssStore
  grind [keeps_lssBoth, keeps_lssReply, keeps_storeNode, keeps_storeMeterNode]

theorem keeps_lssInquire (h : Keeps s t) (which) : Keeps s (lssInquire t which) := by
  unfold lssInquire
  grind [keeps_lssBoth, keeps_lssReply]

theorem keeps_lssFastscan (h : Keeps s t) (id bits sub next) : Keeps s (lssFastscan t id bits sub next) := by
  unfold lssFastscan
  grind [keeps_lssBoth, keeps_lssReply, keeps_modDict, keeps_modMeter]

theorem keeps_nmtIgnored (h : Keeps s t) : Keeps s (nmtIgnored t) := by
  unfold nmtIgnored
  grind [keeps_modDict]

theorem keeps_commReset (h : Keeps s t) : Keeps s (commReset t) := by
  unfold commReset
  grind [keeps_modDict, keeps_sendBootUp]

theorem keeps_nmtOwn (h : Keeps s t) (command) : Keeps s (nmtOwn t command) := by
  unfold nmtOwn
  grind [keeps_nmtIgnored, keeps_setDevice, keeps_warmCommanded, keeps_commReset]

theorem keeps_nmtCommand (h : Keeps s t) (command node) : Keeps s (nmtCommand t command node) := by
  unfold nmtCommand
  grind [keeps_meterNmt, keeps_nmtOwn]

theorem keeps_heartbeatDue (h : Keeps s t) : Keeps s (heartbeatDue t) := by
  unfold heartbeatDue
  grind [keeps_sendHeartbeat, keeps_meterHeartbeat]

theorem keeps_emcyNext (h : Keeps s t) : Keeps s (emcyNext t) := by
  unfold emcyNext
  grind [keeps_modDict, keeps_emcyOut]

theorem keeps_tpdoTry (h : Keeps s t) (timer n) : Keeps s (tpdoTry timer t n) := by
  unfold tpdoTry
  grind [keeps_send, keeps_modTpdo]

theorem keeps_meterTpdoTry (h : Keeps s t) (timer) : Keeps s (meterTpdoTry timer t) := by
  unfold meterTpdoTry
  grind [keeps_send, keeps_modMeter]

theorem keeps_tpdoSample (h : Keeps s t) : Keeps s (tpdoSample t) := by
  unfold tpdoSample
  grind [keeps_modDict, keeps_meterTpdoTry, keeps_tpdoTry, keeps_foldl]

theorem keeps_tpdoTimer (h : Keeps s t) (n) : Keeps s (tpdoTimer t n) := by
  unfold tpdoTimer
  grind [keeps_tpdoTry, keeps_meterTpdoTry]

theorem keeps_busRecovered (h : Keeps s t) : Keeps s (busRecovered t) := by
  unfold busRecovered
  grind [keeps_modDict, keeps_emcyClear, keeps_emcy]

theorem keeps_busErrors (h : Keeps s t) (busOff tx rx) : Keeps s (busErrors t busOff tx rx) := by
  unfold busErrors
  grind [keeps_modDict, keeps_emcy]

theorem keeps_canOverrun (h : Keeps s t) : Keeps s (canOverrun t) := by
  unfold canOverrun
  grind [keeps_emcy]

theorem keeps_levelTimeout (h : Keeps s t) : Keeps s (levelTimeout t) := by
  unfold levelTimeout
  grind [keeps_modDict]

theorem keeps_withFetchWord (h : Keeps s t) (_nbits _w) : Keeps s (t.withFetchWord _nbits _w) := by
  unfold State.withFetchWord
  grind

end Sys2Proof.Machine
end

section
/-! PROOFS. Every command goes on and keeps what waits behind it and the canonical form of the tables. -/

namespace Sys2Proof.Machine
variable {t u : State}

theorem keeps_drinex (h : Keeps u t) (a) : Keeps u { t with drinex := a } := keeps_mk h id id id id id id id id id id id

theorem keeps_addends (h : Keeps u t) (a) : Keeps u { t with addends := a } := keeps_mk h id id id id id id id id id id id

theorem keeps_queuedWaiter (h : Keeps u t) (a : Actor) : Keeps u (match a with
    | .core k g seq => t.modEntry k g seq (fun e => { e with queued := true })
    | .host x q seq => t.modDesc x q seq (fun d => { d with queued := true })
    | _ => t) := by
  split
  · exact keeps_modEntry h ..
  · exact keeps_modDesc h ..
  · exact h

theorem goes_execRingTailWrite (u : UnitKind) (g : CoreId) (tail : BitVec 32) (descs : List Bytes) (s : State) :
    Goes (execRingTailWrite u g tail descs s) (Keeps s) := by
  refine ⟨_, rfl, keeps_ite (keeps_refl s) ?_⟩
  have hdescs := keeps_storeDescs (keeps_refl s) u g (s.unitOf u g).tail descs
  exact keeps_setCore hdescs (fences_setUnit _ _ _)

theorem goes_execRingReleaseWrite (u : UnitKind) (g : CoreId) (release : BitVec 32) (s : State) :
    Goes (execRingReleaseWrite u g release s) (Keeps s) :=
  ⟨_, rfl, keeps_releaseWrite (keeps_refl s) ..⟩

theorem goes_execDescriptorFetch (u : UnitKind) (g : CoreId) (det : Detect) (s : State) :
    Goes (execDescriptorFetch u g det s) (Keeps s) :=
  ⟨_, rfl, keeps_fetch (keeps_refl s) ..⟩

theorem goes_execTzro (g : CoreId) (seq : BitVec 64) (det : Detect) (s : State) :
    Goes (execTzro g seq det s) (Keeps s) :=   ⟨_, rfl, keeps_engineOp (keeps_refl s) _ g seq det (fun _ _ r => runKeeps_tzroBody (runKeeps_refl r) ..) _⟩

theorem goes_execTpre (g : CoreId) (seq : BitVec 64) (det : Detect) (s : State) :
    Goes (execTpre g seq det s) (Keeps s) :=   ⟨_, rfl, keeps_engineOp (keeps_refl s) _ g seq det (fun _ _ r => runKeeps_tpreBody (runKeeps_refl r) ..) _⟩

theorem goes_execTrst (g : CoreId) (seq : BitVec 64) (det : Detect) (s : State) :
    Goes (execTrst g seq det s) (Keeps s) :=   ⟨_, rfl, keeps_engineOp (keeps_refl s) _ g seq det (fun _ _ r => runKeeps_trstBody (runKeeps_refl r) ..) _⟩

theorem goes_execTmul (g : CoreId) (seq : BitVec 64) (beats : Option Nat) (det : Detect) (s : State) :
    Goes (execTmul g seq beats det s) (Keeps s) :=   ⟨_, rfl, keeps_engineOp (keeps_resumeTmul (keeps_refl s) ..) _ g seq det (fun _ _ r => runKeeps_tmulBody (runKeeps_refl r) ..) _⟩

theorem goes_execTdrn (g : CoreId) (seq : BitVec 64) (det : Detect) (s : State) :
    Goes (execTdrn g seq det s) (Keeps s) :=   ⟨_, rfl, keeps_noteWatch (keeps_engineOp (keeps_refl s) _ g seq det (fun _ _ r => runKeeps_tdrnBody (runKeeps_refl r) ..) _) ..⟩

theorem goes_execTsav (g : CoreId) (seq : BitVec 64) (det : Detect) (s : State) :
    Goes (execTsav g seq det s) (Keeps s) :=   ⟨_, rfl, keeps_engineOp (keeps_refl s) _ g seq det (fun _ _ r => runKeeps_tsavBody (runKeeps_refl r) ..) _⟩

theorem goes_execTatm (g : CoreId) (seq : BitVec 64) (det : Detect) (s : State) :
    Goes (execTatm g seq det s) (Keeps s) :=   ⟨_, rfl, keeps_engineOp (keeps_refl s) _ g seq det (fun _ _ r => runKeeps_tatmBody (runKeeps_refl r) ..) _⟩

theorem goes_execTmov (g : CoreId) (seq : BitVec 64) (det : Detect) (s : State) :
    Goes (execTmov g seq det s) (Keeps s) :=   ⟨_, rfl, keeps_engineOp (keeps_refl s) _ g seq det (fun _ _ r => runKeeps_tmovBody (runKeeps_refl r) ..) _⟩

theorem goes_execTsig (g : CoreId) (seq : BitVec 64) (s : State) :
    Goes (execTsig g seq s) (Keeps s) :=   ⟨_, rfl, keeps_engineOp (keeps_refl s) _ g seq _ (fun _ _ r => runKeeps_refl r) _⟩

theorem goes_execRowFenceRelease (g : CoreId) (group : Fin 16) (s : State) :
    Goes (execRowFenceRelease g group s) (Keeps s) :=   ⟨_, rfl, keeps_setCore (keeps_refl s) fun h => by exact smWf_smSet h group 0⟩

theorem goes_execEngineRetire (u : UnitKind) (g : CoreId) (seq : BitVec 64) (s : State) : Goes (execEngineRetire u g seq s) (Keeps s) :=
  ⟨_, rfl, keeps_retire (keeps_refl s) ..⟩

theorem goes_execCaptureRead (u : UnitKind) (g : CoreId) (s : State) :
    Goes (execCaptureRead u g s) (Keeps s) :=   ⟨_, rfl, keeps_send (keeps_setCore (keeps_refl s) (by simp)) _⟩

theorem goes_execSkeinAtomicApply (index : Nat) (det : Detect) (s : State) : Goes (execSkeinAtomicApply index det s) (Keeps s) := by
  refine ⟨_, rfl, ?_⟩
  split
  · exact keeps_refl s
  next a _ =>
    have happlied := keeps_applyElement (keeps_preDetect (keeps_addends (keeps_refl s) (s.addends.eraseIdx index)) det a.src) det a.target a.ply a.elem
    dsimp only
    split
    · exact happlied
    · exact keeps_failOwner (keeps_writeNotes happlied ..) ..

theorem goes_execHeaderMerge (header : BitVec 48) (tag : BitVec 16) (presence : BitVec 3) (s : State) :
    Goes (execHeaderMerge header tag presence s) (Keeps s) := by
  refine ⟨_, rfl, keeps_ite (keeps_refl s) ?_⟩
  split
  next hm => exact keeps_merged (keeps_refl s) hm
  next hm => exact keeps_writeNotes (keeps_merged (keeps_refl s) hm) ..

theorem goes_execContextSwitch (x : CtxId) (g : CoreId) (s : State) : Goes (execContextSwitch x g s) (Keeps s) := by
  refine ⟨_, rfl, ?_⟩
  split
  · exact keeps_refl s
  next ea va _ =>
    split
    · exact keeps_refl s
    extract_lets m running s1 c s2
    have hsaved : Keeps s { s with mem := m } :=
      keeps_mem (keeps_refl s) fun hm => Memory.wf_saveVector _ _ _ (Memory.wf_saveEngine _ _ _ hm)
    have h1 : Keeps s s1 := keeps_parkCore (keeps_abandon (keeps_abandon (keeps_abandon hsaved ..) ..) ..) ..
    have h2 : Keeps s s2 := keeps_setCtx h1 ..
    clear_value s2
    exact keeps_setCore h2 (by exact id)

theorem goes_execContextRestore (x : CtxId) (g : CoreId) (s : State) : Goes (execContextRestore x g s) (Keeps s) := by
  refine ⟨_, rfl, ?_⟩
  split
  · exact keeps_refl s
  next ea va _ =>
    split
    · exact keeps_refl s
    generalize restoreEntries s (ea + 4096) 131072 = rows, restoreEntries s (va + 4096) 1280 = regs
    obtain ⟨rows, bad⟩ := rows
    obtain ⟨regs, badV⟩ := regs
    dsimp -zeta only
    extract_lets c0 _ _ _ c1 c2 s1 cx s2 fails _ s3 note
    have h2 : Core.Keeps c1 c2 := coreKeeps_foldl (fun c i h => coreKeeps_spoilRed h i) _
      (coreKeeps_foldl (fun c i h => coreKeeps_spoilSkein h i) _ (coreKeeps_refl c1))
    have hplaced : Keeps s (s.setCore g c2) := keeps_setCore (keeps_refl s) fun _ => h2.fences rfl
    clear_value c2
    have h1 : Keeps s s1 := keeps_issueNext (keeps_reloadTmul (keeps_unparkCore hplaced ..) ..) ..
    have h2 : Keeps s s2 := keeps_setCtx h1 ..
    have h3 : Keeps s s3 := keeps_rel h2 _
    clear_value s3
    split
    · exact h3
    · exact keeps_fault h3 ..
    · exact keeps_fault h3 ..

theorem goes_execCounterSignal (p : Fin 65536) (amount : BitVec 32) (src : Actor) (s : State) :
    Goes (execCounterSignal p amount src s) (Keeps s) := by
  refine ⟨_, rfl, ?_⟩
  grind [keeps_refl, keeps_endSnapshot, keeps_signalCounter, keeps_mk]

theorem goes_execCounterWait (p : Fin 65536) (waiter : Actor) (s : State) : Goes (execCounterWait p waiter s) (Keeps s) := by
  have hend := keeps_endSnapshot (keeps_refl s)
  refine ⟨_, rfl, keeps_ite hend (keeps_arriveWaiter ?_ ..)⟩
  have hqueued := keeps_queuedWaiter hend waiter
  exact keeps_ite (keeps_State_blame hqueued ..) hqueued

theorem goes_execCounterGrant (p : Fin 65536) (s : State) : Goes (execCounterGrant p s) (Keeps s) := by
  refine ⟨_, rfl, ?_⟩
  grind [keeps_refl, keeps_grantFirst, keeps_endSnapshot]

theorem goes_execCancelMark (p : Fin 65536) (s : State) : Goes (execCancelMark p s) (Keeps s) := by
  refine ⟨_, rfl, ?_⟩
  grind [keeps_refl, keeps_endSnapshot, keeps_markCounter, keeps_mk]

theorem goes_execBarrierEnter (x : CtxId) (slot : Fin 256) (member : Nat) (src : Actor) (s : State) :
    Goes (execBarrierEnter x slot member src s) (Keeps s) := by
  refine ⟨_, rfl, ?_⟩
  grind [keeps_refl, keeps_endSnapshot, keeps_enterBarrier, keeps_mk]

theorem goes_execTransitUp (f : Frame) (s : State) : Goes (execTransitUp f s) (Keeps s) := by
  refine ⟨_, rfl, keeps_withFrame (keeps_endSnapshot (keeps_refl s)) _ fun t x c h => keeps_ite h (keeps_ite (keeps_barrierUp h ..) ?_)⟩
  split
  · split
    · exact keeps_answerRepeat h ..
    · exact keeps_ite h (keeps_noSlot h ..)
  next hi =>
    have hfor := keeps_instanceFor h hi
    split
    · exact hfor
    · refine keeps_ite hfor (keeps_ite (keeps_answerRepeat hfor ..) ?_)
      have hkept := keeps_modInst hfor f.comm f.seq fun i => { i with ups := i.ups ++ [f] }
      dsimp only
      split
      · exact keeps_tryOpen hkept ..
      · exact keeps_tryAnchor hkept ..
      · exact keeps_tryRelease hkept ..
      · exact hkept

theorem goes_execTransitDown (f : Frame) (s : State) : Goes (execTransitDown f s) (Keeps s) := by
  refine ⟨_, rfl, keeps_withFrame (keeps_endSnapshot (keeps_refl s)) _ fun t x c h => keeps_ite h (keeps_ite (keeps_barrierDown h ..) ?_)⟩
  split
  · exact h
  · refine keeps_ite h ?_
    have hkept := keeps_modInst h f.comm f.seq fun i => { i with fromAbove := i.fromAbove ++ [f] }
    have hdrop {t} (h : Keeps s t) (g) := keeps_modInst h f.comm f.seq g
    dsimp only
    split
    · exact hkept
    · split
      · exact keeps_ite hkept (keeps_openEnds (hdrop (keeps_sendDowns hkept ..) _) ..)
      · split
        · exact hkept
        · exact keeps_foldl (fun t f h => keeps_sendFrame h ..) _ (hdrop (hdrop hkept _) _)
      · exact keeps_applyRelease (hdrop hkept _) ..
      · exact hkept

theorem goes_execAbort (f : Frame) (s : State) : Goes (execAbort f s) (Keeps s) := by
  refine ⟨_, rfl, ?_⟩
  grind [keeps_refl, keeps_withFrame, keeps_endSnapshot, keeps_poisonHere, keeps_sendAllFrames, keeps_instanceFor, keeps_relayAbort,
    keeps_noSlot, keeps_abortUp, keeps_abortDown]

theorem goes_execRerun (f : Frame) (s : State) : Goes (execRerun f s) (Keeps s) := by
  refine ⟨_, rfl, ?_⟩
  grind [keeps_refl, keeps_withFrame, keeps_endSnapshot, keeps_rerunDown, keeps_sendFrame]

theorem goes_execCredit (f : Frame) (s : State) : Goes (execCredit f s) (Keeps s) := by
  refine ⟨_, rfl, ?_⟩
  grind [keeps_refl, keeps_withFrame, keeps_endSnapshot, keeps_modInst, keeps_mk]

theorem goes_execChunkCombine (comm seq : BitVec 32) (chunk : Nat) (det : Detect) (s : State) :
    Goes (execChunkCombine comm seq chunk det s) (Keeps s) := by
  refine ⟨_, rfl, ?_⟩
  grind [keeps_refl, keeps_workChunk, keeps_endSnapshot]

theorem goes_execSlotWaitTimeout (comm seq : BitVec 32) (s : State) : Goes (execSlotWaitTimeout comm seq s) (Keeps s) := by
  have hend := keeps_endSnapshot (keeps_refl s)
  refine ⟨_, rfl, ?_⟩
  extract_lets s1
  split
  · extract_lets links s2 _ s3
    have h2 : Keeps s s2 := keeps_sendAllFrames hend ..
    have h3 : Keeps s s3 := by
      refine keeps_raise ?_ ..
      exact keeps_mk h2 id id id id id id id id id id id
    clear_value s3
    split
    · exact h3
    · exact keeps_modQueue (keeps_modDesc (keeps_ite (keeps_advanceCall h3 ..) h3) ..) ..
  · exact hend

theorem goes_execTransitTimeout (comm seq : BitVec 32) (round index : BitVec 3) (s : State) :
    Goes (execTransitTimeout comm seq round index s) (Keeps s) := by
  have hend := keeps_endSnapshot (keeps_refl s)
  have hcount {t} (h : Keeps s t) (n) : Keeps s { t with coll := { t.coll with resends := n } } := keeps_mk h id id id id id id id id id id id
  have hups {t} (h : Keeps s t) (l) : Keeps s { t with coll := { t.coll with barrierUps := l } } := keeps_mk h id id id id id id id id id id id
  refine ⟨_, rfl, ?_⟩
  extract_lets s1 count
  split
  · split
    · exact hend
    · split
      · exact keeps_ite hend (hcount (hups (keeps_sendFrame hend ..) _) _)
      · exact hend
  · split
    · exact hend
    · split
      · split
        · exact hend
        · exact keeps_foldl (fun t k h => hcount (keeps_modInst (keeps_foldl (fun t l h => keeps_sendFrame h ..) _ h) ..) _) _ hend
      · exact hcount (keeps_modInst (keeps_foldl (fun t u h => keeps_sendFrame h ..) _ hend) ..) _

theorem goes_execCollectiveDeadline (comm seq : BitVec 32) (s : State) : Goes (execCollectiveDeadline comm seq s) (Keeps s) := by
  refine ⟨_, rfl, ?_⟩
  grind [keeps_refl, keeps_endSnapshot, keeps_abortDown, keeps_memberAbort]

theorem goes_execUpd (x : CtxId) (q : QueueId) (sums : List SentSum) (det : Detect) (s : State) :
    Goes (execUpd x q sums det s) (Keeps s) :=
  ⟨_, rfl, keeps_update (keeps_refl s) ..⟩

theorem goes_execUpda (x : CtxId) (q : QueueId) (sums : List SentSum) (det : Detect) (s : State) :
    Goes (execUpda x q sums det s) (Keeps s) :=
  ⟨_, rfl, keeps_update (keeps_refl s) ..⟩

theorem goes_execPhaseFlip (x : CtxId) (s : State) : Goes (execPhaseFlip x s) (Keeps s) :=
  ⟨_, rfl, keeps_phaseFlip (keeps_refl s) ..⟩

theorem goes_execWatchRecompute (g : CoreId) (seq : BitVec 64) (det : Detect) (s : State) :
    Goes (execWatchRecompute g seq det s) (Keeps s) :=
  ⟨_, rfl, keeps_watchRecompute (keeps_refl s) ..⟩

theorem goes_execCreate (acc : Accessor) (sealed peerOpen : Bool) (queues : Fin 8) (s : State) :
    Goes (execCreate acc sealed peerOpen queues s) (Keeps s) := by
  refine ⟨_, rfl, ?_⟩
  grind [keeps_refl, keeps_dictCommand]

theorem goes_execDestroy (acc : Accessor) (s : State) : Goes (execDestroy acc s) (Keeps s) :=
  ⟨_, rfl, keeps_dictCommand (keeps_refl s) ..⟩

theorem goes_execStop (acc : Accessor) (s : State) : Goes (execStop acc s) (Keeps s) :=
  ⟨_, rfl, keeps_dictCommand (keeps_refl s) ..⟩

theorem goes_execStart (acc : Accessor) (s : State) : Goes (execStart acc s) (Keeps s) :=
  ⟨_, rfl, keeps_dictCommand (keeps_refl s) ..⟩

theorem goes_execReset (acc : Accessor) (s : State) : Goes (execReset acc s) (Keeps s) :=
  ⟨_, rfl, keeps_dictCommand (keeps_refl s) ..⟩

theorem goes_execPeerOpen (acc : Accessor) (s : State) : Goes (execPeerOpen acc s) (Keeps s) :=
  ⟨_, rfl, keeps_dictCommand (keeps_refl s) ..⟩

theorem goes_execPeerClose (acc : Accessor) (s : State) : Goes (execPeerClose acc s) (Keeps s) :=
  ⟨_, rfl, keeps_dictCommand (keeps_refl s) ..⟩

theorem goes_execQueueConfig (acc : Accessor) (config : Bytes) (s : State) : Goes (execQueueConfig acc config s) (Keeps s) :=
  ⟨_, rfl, keeps_dictCommand (keeps_refl s) ..⟩

theorem goes_execQueueReset (acc : Accessor) (s : State) : Goes (execQueueReset acc s) (Keeps s) :=
  ⟨_, rfl, keeps_dictCommand (keeps_refl s) ..⟩

theorem goes_execSnapshotCommand (acc : Accessor) (s : State) : Goes (execSnapshotCommand acc s) (Keeps s) :=
  ⟨_, rfl, keeps_dictCommand (keeps_refl s) ..⟩

theorem goes_execSignalCmd (acc : Accessor) (amount : BitVec 64) (s : State) : Goes (execSignalCmd acc amount s) (Keeps s) :=
  ⟨_, rfl, keeps_dictCommand (keeps_refl s) ..⟩

theorem goes_execDebit (acc : Accessor) (amount : BitVec 64) (s : State) : Goes (execDebit acc amount s) (Keeps s) :=
  ⟨_, rfl, keeps_dictCommand (keeps_refl s) ..⟩

theorem goes_execSetProduced (acc : Accessor) (p : BitVec 64) (s : State) : Goes (execSetProduced acc p s) (Keeps s) :=
  ⟨_, rfl, keeps_dictCommand (keeps_refl s) ..⟩

theorem goes_execSetConsumed (acc : Accessor) (c : BitVec 64) (s : State) : Goes (execSetConsumed acc c s) (Keeps s) :=
  ⟨_, rfl, keeps_dictCommand (keeps_refl s) ..⟩

theorem goes_execSetMode (acc : Accessor) (mode : BitVec 64) (s : State) : Goes (execSetMode acc mode s) (Keeps s) :=
  ⟨_, rfl, keeps_dictCommand (keeps_refl s) ..⟩

theorem goes_execClear (acc : Accessor) (s : State) : Goes (execClear acc s) (Keeps s) :=
  ⟨_, rfl, keeps_dictCommand (keeps_refl s) ..⟩

theorem goes_execCancel (acc : Accessor) (s : State) : Goes (execCancel acc s) (Keeps s) :=
  ⟨_, rfl, keeps_dictCommand (keeps_refl s) ..⟩

theorem goes_execNumericsClearCounters (acc : Accessor) (s : State) : Goes (execNumericsClearCounters acc s) (Keeps s) :=
  ⟨_, rfl, keeps_dictCommand (keeps_refl s) ..⟩

theorem goes_execNumericsClearFlags (acc : Accessor) (s : State) : Goes (execNumericsClearFlags acc s) (Keeps s) :=
  ⟨_, rfl, keeps_dictCommand (keeps_refl s) ..⟩

theorem goes_execVecNumericsClear (acc : Accessor) (s : State) : Goes (execVecNumericsClear acc s) (Keeps s) :=
  ⟨_, rfl, keeps_dictCommand (keeps_refl s) ..⟩

theorem goes_execSealedSaveSlotsWrite (acc : Accessor) (slots : BitVec 16) (s : State) :
    Goes (execSealedSaveSlotsWrite acc slots s) (Keeps s) :=
  ⟨_, rfl, keeps_dictCommand (keeps_refl s) ..⟩

theorem goes_execWatchClearCounts (acc : Accessor) (s : State) : Goes (execWatchClearCounts acc s) (Keeps s) :=
  ⟨_, rfl, keeps_dictCommand (keeps_refl s) ..⟩

theorem goes_execWatchClearEvents (acc : Accessor) (s : State) : Goes (execWatchClearEvents acc s) (Keeps s) :=
  ⟨_, rfl, keeps_dictCommand (keeps_refl s) ..⟩

theorem goes_execPortEnable (acc : Accessor) (s : State) : Goes (execPortEnable acc s) (Keeps s) :=
  ⟨_, rfl, keeps_dictCommand (keeps_refl s) ..⟩

theorem goes_execPortDisable (acc : Accessor) (s : State) : Goes (execPortDisable acc s) (Keeps s) :=
  ⟨_, rfl, keeps_dictCommand (keeps_refl s) ..⟩

theorem goes_execPortRetrain (acc : Accessor) (s : State) : Goes (execPortRetrain acc s) (Keeps s) :=
  ⟨_, rfl, keeps_dictCommand (keeps_refl s) ..⟩

theorem goes_execDrinexEnable (acc : Accessor) (s : State) : Goes (execDrinexEnable acc s) (Keeps s) :=
  ⟨_, rfl, keeps_dictCommand (keeps_refl s) ..⟩

theorem goes_execDrinexDisable (acc : Accessor) (s : State) : Goes (execDrinexDisable acc s) (Keeps s) :=
  ⟨_, rfl, keeps_dictCommand (keeps_refl s) ..⟩

theorem goes_execDrinexRetrain (acc : Accessor) (s : State) : Goes (execDrinexRetrain acc s) (Keeps s) :=
  ⟨_, rfl, keeps_dictCommand (keeps_refl s) ..⟩

theorem goes_execAccessLevelWrite (acc : Accessor) (value : BitVec 8) (s : State) : Goes (execAccessLevelWrite acc value s) (Keeps s) :=
  ⟨_, rfl, keeps_dictCommand (keeps_refl s) ..⟩

theorem goes_execIrqPendingClear (acc : Accessor) (bits : Bytes) (s : State) : Goes (execIrqPendingClear acc bits s) (Keeps s) :=
  ⟨_, rfl, keeps_dictCommand (keeps_refl s) ..⟩

theorem goes_execIrqPendingSet (acc : Accessor) (bits : Bytes) (s : State) : Goes (execIrqPendingSet acc bits s) (Keeps s) :=
  ⟨_, rfl, keeps_dictCommand (keeps_refl s) ..⟩

theorem goes_execIrqSourceRoute (acc : Accessor) (value : BitVec 32) (s : State) : Goes (execIrqSourceRoute acc value s) (Keeps s) :=
  ⟨_, rfl, keeps_dictCommand (keeps_refl s) ..⟩

theorem goes_execCoalesceLimitWrite (acc : Accessor) (time : Bool) (value : BitVec 16) (s : State) :
    Goes (execCoalesceLimitWrite acc time value s) (Keeps s) :=
  ⟨_, rfl, keeps_dictCommand (keeps_refl s) ..⟩

theorem goes_execAlmanacLoad (acc : Accessor) (address : BitVec 64) (s : State) : Goes (execAlmanacLoad acc address s) (Keeps s) :=
  ⟨_, rfl, keeps_dictCommand (keeps_refl s) ..⟩

theorem goes_execAlmanacIdleOn (acc : Accessor) (s : State) : Goes (execAlmanacIdleOn acc s) (Keeps s) :=
  ⟨_, rfl, keeps_dictCommand (keeps_refl s) ..⟩

theorem goes_execAlmanacIdleOff (acc : Accessor) (s : State) : Goes (execAlmanacIdleOff acc s) (Keeps s) :=
  ⟨_, rfl, keeps_dictCommand (keeps_refl s) ..⟩

theorem goes_execRunScheduled (acc : Accessor) (scope : BitVec 64) (failures : List (EphKey × Nat)) (s : State) :
    Goes (execRunScheduled acc scope failures s) (Keeps s) :=
  ⟨_, rfl, keeps_dictCommandWith (keeps_refl s) ..⟩

theorem goes_execAlmanacUnload (acc : Accessor) (s : State) : Goes (execAlmanacUnload acc s) (Keeps s) :=
  ⟨_, rfl, keeps_dictCommand (keeps_refl s) ..⟩

theorem goes_execProvision (acc : Accessor) (s : State) : Goes (execProvision acc s) (Keeps s) :=
  ⟨_, rfl, keeps_dictCommand (keeps_refl s) ..⟩

theorem goes_execDeploy (acc : Accessor) (s : State) : Goes (execDeploy acc s) (Keeps s) :=
  ⟨_, rfl, keeps_dictCommand (keeps_refl s) ..⟩

theorem goes_execDebugEnter (acc : Accessor) (s : State) : Goes (execDebugEnter acc s) (Keeps s) :=
  ⟨_, rfl, keeps_dictCommand (keeps_refl s) ..⟩

theorem goes_execDebugExit (acc : Accessor) (s : State) : Goes (execDebugExit acc s) (Keeps s) :=
  ⟨_, rfl, keeps_dictCommand (keeps_refl s) ..⟩

theorem goes_execDecommission (acc : Accessor) (operand : BitVec 64) (s : State) : Goes (execDecommission acc operand s) (Keeps s) :=
  ⟨_, rfl, keeps_dictCommand (keeps_refl s) ..⟩

theorem goes_execDebugNonceRead (acc : Accessor) (s : State) : Goes (execDebugNonceRead acc s) (Keeps s) :=
  ⟨_, rfl, keeps_dictQuery (keeps_refl s) ..⟩

theorem goes_execStageChunkWrite (acc : Accessor) (chunk : Bytes) (s : State) : Goes (execStageChunkWrite acc chunk s) (Keeps s) :=
  ⟨_, rfl, keeps_dictCommand (keeps_refl s) ..⟩

theorem goes_execKeyStore (acc : Accessor) (slot : BitVec 8) (s : State) : Goes (execKeyStore acc slot s) (Keeps s) :=
  ⟨_, rfl, keeps_dictCommand (keeps_refl s) ..⟩

theorem goes_execCertStore (acc : Accessor) (s : State) : Goes (execCertStore acc s) (Keeps s) :=
  ⟨_, rfl, keeps_dictCommand (keeps_refl s) ..⟩

theorem goes_execFwBegin (acc : Accessor) (image : BitVec 8) (total : BitVec 32) (s : State) :
    Goes (execFwBegin acc image total s) (Keeps s) :=
  ⟨_, rfl, keeps_dictCommand (keeps_refl s) ..⟩

theorem goes_execFwUpdateData (acc : Accessor) (data : Bytes) (s : State) : Goes (execFwUpdateData acc data s) (Keeps s) :=
  ⟨_, rfl, keeps_dictCommand (keeps_refl s) ..⟩

theorem goes_execFwVerify (acc : Accessor) (s : State) : Goes (execFwVerify acc s) (Keeps s) :=
  ⟨_, rfl, keeps_dictCommand (keeps_refl s) ..⟩

theorem goes_execFwActivate (acc : Accessor) (mask : BitVec 8) (s : State) : Goes (execFwActivate acc mask s) (Keeps s) :=
  ⟨_, rfl, keeps_dictCommand (keeps_refl s) ..⟩

theorem goes_execFwAbort (acc : Accessor) (s : State) : Goes (execFwAbort acc s) (Keeps s) :=
  ⟨_, rfl, keeps_dictCommand (keeps_refl s) ..⟩

theorem goes_execCommitVersion (acc : Accessor) (mask : BitVec 8) (s : State) : Goes (execCommitVersion acc mask s) (Keeps s) :=
  ⟨_, rfl, keeps_dictCommand (keeps_refl s) ..⟩

theorem goes_execRevert (acc : Accessor) (mask : BitVec 8) (s : State) : Goes (execRevert acc mask s) (Keeps s) :=
  ⟨_, rfl, keeps_dictCommand (keeps_refl s) ..⟩

theorem goes_execOverrideArm (acc : Accessor) (s : State) : Goes (execOverrideArm acc s) (Keeps s) :=
  ⟨_, rfl, keeps_dictCommand (keeps_refl s) ..⟩

theorem goes_execOverrideDisarm (acc : Accessor) (s : State) : Goes (execOverrideDisarm acc s) (Keeps s) :=
  ⟨_, rfl, keeps_dictCommand (keeps_refl s) ..⟩

theorem goes_execAttestNonce (acc : Accessor) (nonce : Bytes) (s : State) : Goes (execAttestNonce acc nonce s) (Keeps s) :=
  ⟨_, rfl, keeps_dictCommand (keeps_refl s) ..⟩

theorem goes_execReadingNonce (acc : Accessor) (nonce : Bytes) (s : State) : Goes (execReadingNonce acc nonce s) (Keeps s) :=
  ⟨_, rfl, keeps_dictCommand (keeps_refl s) ..⟩

theorem goes_execMeterFwBegin (acc : Accessor) (bytes : BitVec 32) (s : State) : Goes (execMeterFwBegin acc bytes s) (Keeps s) :=
  ⟨_, rfl, keeps_dictCommand (keeps_refl s) ..⟩

theorem goes_execMeterFwData (acc : Accessor) (data : Bytes) (s : State) : Goes (execMeterFwData acc data s) (Keeps s) :=
  ⟨_, rfl, keeps_dictCommand (keeps_refl s) ..⟩

theorem goes_execMeterFwActivate (acc : Accessor) (s : State) : Goes (execMeterFwActivate acc s) (Keeps s) :=
  ⟨_, rfl, keeps_dictCommand (keeps_refl s) ..⟩

theorem goes_execMeterFwAbort (acc : Accessor) (s : State) : Goes (execMeterFwAbort acc s) (Keeps s) :=
  ⟨_, rfl, keeps_dictCommand (keeps_refl s) ..⟩

theorem goes_execAttributionClear (acc : Accessor) (s : State) : Goes (execAttributionClear acc s) (Keeps s) :=
  ⟨_, rfl, keeps_dictCommand (keeps_refl s) ..⟩

theorem goes_execWarmResetCommand (acc : Accessor) (s : State) : Goes (execWarmResetCommand acc s) (Keeps s) :=
  ⟨_, rfl, keeps_dictCommand (keeps_refl s) ..⟩

theorem goes_execDieResetCommand (acc : Accessor) (die : Fin 2) (s : State) : Goes (execDieResetCommand acc die s) (Keeps s) := by
  refine ⟨_, rfl, ?_⟩
  grind [keeps_refl, keeps_dictCommand]

theorem goes_execErrorHistoryClear (acc : Accessor) (value : BitVec 8) (s : State) : Goes (execErrorHistoryClear acc value s) (Keeps s) :=
  ⟨_, rfl, keeps_dictCommand (keeps_refl s) ..⟩

theorem goes_execContextResetFinish (x : CtxId) (s : State) : Goes (execContextResetFinish x s) (Keeps s) := by
  refine ⟨_, rfl, ?_⟩
  grind [keeps_refl, keeps_resetFinish, keeps_endSnapshot]

theorem goes_execAccept (x : CtxId) (q : QueueId) (s : State) : Goes (execAccept x q s) (Keeps s) := by
  refine ⟨_, rfl, ?_⟩
  grind [keeps_refl, keeps_acceptStart, keeps_endSnapshot]

theorem goes_execAcceptAdvance (x : CtxId) (q : QueueId) (s : State) : Goes (execAcceptAdvance x q s) (Keeps s) := by
  refine ⟨_, rfl, ?_⟩
  grind [keeps_refl, keeps_acceptAdvanceTo, keeps_endSnapshot]

theorem goes_execRun (x : CtxId) (q : QueueId) (s : State) : Goes (execRun x q s) (Keeps s) := by
  refine ⟨_, rfl, ?_⟩
  grind [keeps_refl, keeps_hostOp, keeps_endSnapshot, keeps_runBody]

theorem goes_execPlanLoad (x : CtxId) (q : QueueId) (s : State) : Goes (execPlanLoad x q s) (Keeps s) := by
  refine ⟨_, rfl, ?_⟩
  grind [keeps_refl, keeps_hostOp, keeps_endSnapshot, keeps_planLoadBody]

theorem goes_execPlanUnload (x : CtxId) (q : QueueId) (s : State) : Goes (execPlanUnload x q s) (Keeps s) := by
  refine ⟨_, rfl, ?_⟩
  grind [keeps_refl, keeps_hostOp, keeps_endSnapshot, keeps_planUnloadBody]

theorem goes_execPlanUnloadTakeEffect (x : CtxId) (s : State) : Goes (execPlanUnloadTakeEffect x s) (Keeps s) := by
  refine ⟨_, rfl, ?_⟩
  grind [keeps_refl, keeps_unloadEffect, keeps_endSnapshot]

theorem goes_execSync (x : CtxId) (q : QueueId) (s : State) : Goes (execSync x q s) (Keeps s) := by
  refine ⟨_, rfl, ?_⟩
  grind [keeps_refl, keeps_hostOp, keeps_endSnapshot, keeps_dispatchWith]

theorem goes_execVtSet (x : CtxId) (q : QueueId) (s : State) : Goes (execVtSet x q s) (Keeps s) := by
  refine ⟨_, rfl, ?_⟩
  grind [keeps_refl, keeps_hostOp, keeps_endSnapshot, keeps_vtSetBody]

theorem goes_execCommit (x : CtxId) (q : QueueId) (s : State) : Goes (execCommit x q s) (Keeps s) := by
  refine ⟨_, rfl, ?_⟩
  grind [keeps_refl, keeps_commitStep, keeps_endSnapshot]

theorem goes_execCommitComplete (x : CtxId) (q : QueueId) (s : State) : Goes (execCommitComplete x q s) (Keeps s) := by
  refine ⟨_, rfl, ?_⟩
  grind [keeps_refl, keeps_completeStep, keeps_endSnapshot]

theorem goes_execReplay (x : CtxId) (s : State) : Goes (execReplay x s) (Keeps s) := by
  refine ⟨_, rfl, ?_⟩
  grind [keeps_refl, keeps_replayStart, keeps_endSnapshot]

theorem goes_execCancelCascade (x : CtxId) (q : QueueId) (seq : BitVec 64) (s : State) :
    Goes (execCancelCascade x q seq s) (Keeps s) := by
  refine ⟨_, rfl, ?_⟩
  grind [keeps_refl, keeps_cascadeStep, keeps_endSnapshot]

theorem goes_execSnapshotDone (s : State) : Goes (execSnapshotDone s) (Keeps s) :=
  ⟨_, rfl, keeps_endSnapshot (keeps_refl s) ..⟩

theorem goes_execJournalRelocate (lost : Fin 8) (s : State) : Goes (execJournalRelocate lost s) (Keeps s) := by
  refine ⟨_, rfl, ?_⟩
  grind [keeps_refl, keeps_relocate, keeps_endSnapshot]

theorem goes_execJournalRelocationComplete (s : State) : Goes (execJournalRelocationComplete s) (Keeps s) := by
  refine ⟨_, rfl, ?_⟩
  grind [keeps_refl, keeps_relocationDone, keeps_endSnapshot]

theorem goes_execPartLost (part : Part) (s : State) : Goes (execPartLost part s) (Keeps s) := by
  refine ⟨_, rfl, ?_⟩
  grind [keeps_refl, keeps_losePart, keeps_endSnapshot]

theorem goes_execRegisterWrite (target : RegTarget) (s : State) : Goes (execRegisterWrite target s) (Keeps s) := by
  refine ⟨_, rfl, ?_⟩
  grind [keeps_refl, keeps_dictCommand, keeps_coreRegister]

theorem goes_execUsdoUpload (path : UsdoPath) (index : BitVec 16) (sub : BitVec 8) (s : State) :
    Goes (execUsdoUpload path index sub s) (Keeps s) := by
  refine ⟨_, rfl, ?_⟩
  grind [keeps_refl, keeps_usdoUpload, keeps_serveTap]

theorem goes_execUsdoDownload (path : UsdoPath) (index : BitVec 16) (sub : BitVec 8) (expedited : Option Bytes) (s : State) :
    Goes (execUsdoDownload path index sub expedited s) (Keeps s) := by
  refine ⟨_, rfl, ?_⟩
  grind [keeps_refl, keeps_usdoDownload, keeps_serveTap]

theorem goes_execUsdoSegment (path : UsdoPath) (data : Bytes) (last : Bool) (s : State) :
    Goes (execUsdoSegment path data last s) (Keeps s) := by
  refine ⟨_, rfl, ?_⟩
  grind [keeps_refl, keeps_usdoSegment, keeps_serveTap]

theorem goes_execUsdoTimeout (path : UsdoPath) (s : State) : Goes (execUsdoTimeout path s) (Keeps s) := by
  refine ⟨_, rfl, ?_⟩
  grind [keeps_refl, keeps_usdoAbort, keeps_dropSession]

theorem goes_execTapDict (length : BitVec 8) (request : Bytes) (s : State) : Goes (execTapDict length request s) (Keeps s) :=
  ⟨_, rfl, keeps_tapDict (keeps_refl s) ..⟩

theorem goes_execDictRd (h : TxnHdr) (index : BitVec 16) (sub : BitVec 8) (s : State) : Goes (execDictRd h index sub s) (Keeps s) := by
  refine ⟨_, rfl, ?_⟩
  grind [keeps_refl, keeps_tookTxn, keeps_dictCpl, keeps_hostRefused, keeps_dictRead, keeps_serveTap]

theorem goes_execDictWr (h : TxnHdr) (index : BitVec 16) (sub : BitVec 8) (data : Bytes) (s : State) :
    Goes (execDictWr h index sub data s) (Keeps s) := by
  refine ⟨_, rfl, ?_⟩
  grind [keeps_refl, keeps_tookTxn, keeps_dictCpl, keeps_hostRefused, keeps_dictWrite, keeps_serveTap]

theorem goes_execDictReq (pkt : Packet) (s : State) : Goes (execDictReq pkt s) (Keeps s) := by
  refine ⟨_, rfl, ?_⟩
  grind [keeps_refl, keeps_withPacket, keeps_tagged, keeps_ackAgain, keeps_usdoServe, keeps_serveTap]

theorem goes_execDictRsp (pkt : Packet) (s : State) : Goes (execDictRsp pkt s) (Keeps s) := by
  refine ⟨_, rfl, ?_⟩
  grind [keeps_refl, keeps_withPacket, keeps_ackPackets]

theorem goes_execLineAck (g : CoreId) (value : BitVec 1) (s : State) : Goes (execLineAck g value s) (Keeps s) :=
  ⟨_, rfl, keeps_coreRegister (keeps_refl s) ..⟩

theorem goes_execCoalesceTimer (dest : BitVec 16) (s : State) : Goes (execCoalesceTimer dest s) (Keeps s) :=
  ⟨_, rfl, keeps_timerDue (keeps_refl s) ..⟩

theorem goes_execAccessLevelTimeout (s : State) : Goes (execAccessLevelTimeout s) (Keeps s) :=
  ⟨_, rfl, keeps_levelTimeout (keeps_refl s) ..⟩

theorem goes_execDcopy (g : CoreId) (seq : BitVec 64) (det : Detect) (s : State) :
    Goes (execDcopy g seq det s) (Keeps s) :=   ⟨_, rfl, keeps_dmaOp (keeps_refl s) _ g seq det fun _ _ r => runKeeps_dcopyBody (runKeeps_refl r) ..⟩

theorem goes_execDfill (g : CoreId) (seq : BitVec 64) (det : Detect) (s : State) :
    Goes (execDfill g seq det s) (Keeps s) :=   ⟨_, rfl, keeps_dmaOp (keeps_refl s) _ g seq det fun _ _ r => runKeeps_dfillBody (runKeeps_refl r) ..⟩

theorem goes_execDhinit (g : CoreId) (seq : BitVec 64) (det : Detect) (s : State) :
    Goes (execDhinit g seq det s) (Keeps s) :=   ⟨_, rfl, keeps_dmaOp (keeps_refl s) _ g seq det fun _ _ r => runKeeps_dhinitBody (runKeeps_refl r) ..⟩

theorem goes_execDhash (g : CoreId) (seq : BitVec 64) (det : Detect) (s : State) :
    Goes (execDhash g seq det s) (Keeps s) :=   ⟨_, rfl, keeps_dmaOp (keeps_refl s) _ g seq det fun _ _ r => runKeeps_dhashBody (runKeeps_refl r) ..⟩

theorem goes_execDinval (g : CoreId) (seq : BitVec 64) (det : Detect) (s : State) :
    Goes (execDinval g seq det s) (Keeps s) :=   ⟨_, rfl, keeps_dmaOp (keeps_refl s) _ g seq det fun _ _ r => runKeeps_dinvalBody (runKeeps_refl r) ..⟩

theorem goes_execDhalo (g : CoreId) (seq : BitVec 64) (det : Detect) (s : State) :
    Goes (execDhalo g seq det s) (Keeps s) :=   ⟨_, rfl, keeps_dmaOp (keeps_refl s) _ g seq det fun _ _ r => runKeeps_dhaloBody (runKeeps_refl r) ..⟩

theorem goes_execPatrolScrub (det : Detect) (s : State) : Goes (execPatrolScrub det s) (Keeps s) := by
  refine ⟨_, rfl, ?_⟩
  grind [keeps_refl, keeps_corrected, keeps_fault, keeps_poisonAt, keeps_mk]

theorem goes_execDrinexTrainStart (s : State) : Goes (execDrinexTrainStart s) (Keeps s) := by
  refine ⟨_, rfl, ?_⟩
  grind [keeps_refl, keeps_drinexTrain]

theorem goes_execDrinexTrained (lanes : BitVec 8) (_peerEpoch : BitVec 32) (peerLast : BitVec 12) (peerResume : Bool)
    (credP credC credE : Nat) (s : State) :
    Goes (execDrinexTrained lanes _peerEpoch peerLast peerResume credP credC credE s) (Keeps s) := by
  refine ⟨_, rfl, ?_⟩
  grind [keeps_refl, keeps_drinexUp]

theorem goes_execDrinexLaneFail (lane : Fin 8) (s : State) : Goes (execDrinexLaneFail lane s) (Keeps s) := by
  refine ⟨_, rfl, ?_⟩
  grind [keeps_refl, keeps_drinexTrain]

theorem goes_execDrinexDown (s : State) : Goes (execDrinexDown s) (Keeps s) :=
  ⟨_, rfl, keeps_drinexDown (keeps_refl s) ..⟩

theorem goes_execDrinexRetryLimit (s : State) : Goes (execDrinexRetryLimit s) (Keeps s) := by
  refine ⟨_, rfl, ?_⟩
  grind [keeps_refl, keeps_drinexDown]

theorem goes_execDataFlit (f : Flit) (s : State) : Goes (execDataFlit f s) (Keeps s) := by
  have hcounted : Keeps s (if s.linkUp then countFlit s f else s) := keeps_ite (keeps_countFlit (keeps_refl s) f) (keeps_refl s)
  refine ⟨_, rfl, keeps_ite hcounted (keeps_ite (keeps_badFlit hcounted) (keeps_ite (keeps_takeFlit hcounted f) (keeps_ite hcounted
    (keeps_ite (keeps_discardFlit hcounted) (keeps_takeFlit ?_ f)))))⟩
  exact keeps_drinex hcounted _

theorem goes_execRetryRequest (f : Flit) (s : State) : Goes (execRetryRequest f s) (Keeps s) := by
  have hcounted : Keeps s (if s.linkUp then countFlit s f else s) := keeps_ite (keeps_countFlit (keeps_refl s) f) (keeps_refl s)
  refine ⟨_, rfl, keeps_ite hcounted (keeps_ite (keeps_badFlit hcounted) (keeps_ite hcounted (keeps_send ?_ _)))⟩
  exact keeps_drinex (keeps_takeFlit hcounted f) _

theorem goes_execIdleFlitTimer (s : State) : Goes (execIdleFlitTimer s) (Keeps s) := by
  refine ⟨_, rfl, ?_⟩
  grind [keeps_refl, keeps_returnCredits, keeps_send, keeps_mk]

theorem goes_execMwr (h : TxnHdr) (address : BitVec 48) (data : Bytes) (det : Detect) (s : State) :
    Goes (execMwr h address data det s) (Keeps s) := by
  refine ⟨_, rfl, ?_⟩
  grind [keeps_refl, keeps_tookTxn, keeps_hostRefused, keeps_hostStore]

theorem goes_execMrd (h : TxnHdr) (address : BitVec 48) (det : Detect) (s : State) : Goes (execMrd h address det s) (Keeps s) := by
  refine ⟨_, rfl, ?_⟩
  grind [keeps_refl, keeps_tookTxn, keeps_cpl, keeps_hostRefused, keeps_hostLoad]

theorem goes_execDoorbell (h : TxnHdr) (x : CtxId) (q : QueueId) (newTail newRelease : BitVec 64) (s : State) :
    Goes (execDoorbell h x q newTail newRelease s) (Keeps s) := by
  refine ⟨_, rfl, ?_⟩
  grind [keeps_refl, keeps_tookTxn, keeps_hostRefused, keeps_hostDoorbell]

theorem goes_execEchoAck (h : TxnHdr) (x : CtxId) (q : QueueId) (commitKind : Bool) (seq : BitVec 64) (s : State) :
    Goes (execEchoAck h x q commitKind seq s) (Keeps s) := by
  refine ⟨_, rfl, ?_⟩
  grind [keeps_refl, keeps_tookTxn, keeps_hostRefused, keeps_takeEchoAck]

theorem goes_execPortTrainStart (p : Fin 64) (s : State) :
    Goes (execPortTrainStart p s) (Keeps s) :=   ⟨_, rfl, keeps_ite (keeps_setPort (keeps_refl s) ..) (keeps_refl s)⟩

theorem goes_execPortTrained (p : Fin 64) (plane : Nat) (switchId : BitVec 32) (switchPort : BitVec 16) (said : SwitchSays) (s : State) :
    Goes (execPortTrained p plane switchId switchPort said s) (Keeps s) :=
  ⟨_, rfl, keeps_portTrained (keeps_refl s) ..⟩

theorem goes_execModuleIdAdopt (s : State) : Goes (execModuleIdAdopt s) (Keeps s) :=
  ⟨_, rfl, keeps_adoptId (keeps_refl s) ..⟩

theorem goes_execPortDown (p : Fin 64) (_why : PortLoss) (s : State) : Goes (execPortDown p _why s) (Keeps s) :=
  ⟨_, rfl, keeps_portDown (keeps_refl s) ..⟩

theorem goes_execLinkControlFrame (p : Fin 64) (ctl : LinkControl) (s : State) : Goes (execLinkControlFrame p ctl s) (Keeps s) := by
  refine ⟨_, rfl, keeps_ite (keeps_refl s) ?_⟩
  split
  · exact keeps_drainPort (keeps_setPort (keeps_refl s) ..) ..
  · exact keeps_ite (keeps_refl s) (keeps_ite (keeps_portDown (keeps_linkResend (keeps_refl s) ..) ..) (keeps_linkResend (keeps_refl s) ..))

theorem goes_execUncorrectableCodeword (p : Fin 64) (packets : Nat) (s : State) :
    Goes (execUncorrectableCodeword p packets s) (Keeps s) :=   ⟨_, rfl, keeps_ite (keeps_refl s) (keeps_send (keeps_setPort (keeps_refl s) ..) _)⟩

theorem goes_execLoadReq (pkt : Packet) (s : State) : Goes (execLoadReq pkt s) (Keeps s) := by
  refine ⟨_, rfl, ?_⟩
  grind [keeps_refl, keeps_withPacket, keeps_served, keeps_serveLoad, keeps_nack]

theorem goes_execStore (pkt : Packet) (s : State) : Goes (execStore pkt s) (Keeps s) := by
  refine ⟨_, rfl, ?_⟩
  grind [keeps_refl, keeps_withPacket, keeps_served, keeps_ackAgain, keeps_serveStore]

theorem goes_execStoreBytes (pkt : Packet) (s : State) : Goes (execStoreBytes pkt s) (Keeps s) := by
  refine ⟨_, rfl, ?_⟩
  grind [keeps_refl, keeps_withPacket, keeps_served, keeps_ackAgain, keeps_serveStore]

theorem goes_execSkeinAdd (pkt : Packet) (s : State) : Goes (execSkeinAdd pkt s) (Keeps s) := by
  refine ⟨_, rfl, ?_⟩
  grind [keeps_refl, keeps_withPacket, keeps_serveSkein, keeps_tagged, keeps_ackAgain, keeps_nack]

theorem goes_execIntAtomic (pkt : Packet) (s : State) : Goes (execIntAtomic pkt s) (Keeps s) := by
  refine ⟨_, rfl, ?_⟩
  grind [keeps_refl, keeps_withPacket, keeps_served, keeps_atomicAgain, keeps_serveAtomic]

theorem goes_execSignal (pkt : Packet) (s : State) : Goes (execSignal pkt s) (Keeps s) := by
  refine ⟨_, rfl, ?_⟩
  grind [keeps_refl, keeps_withPacket, keeps_tagged, keeps_ackAgain]

theorem goes_execTailSignalApply (src : BitVec 14) (s : State) : Goes (execTailSignalApply src s) (Keeps s) := by
  refine ⟨_, rfl, ?_⟩
  grind [keeps_refl, keeps_applyTrailer, keeps_endSnapshot]

theorem goes_execFabricDoorbell (pkt : Packet) (s : State) : Goes (execFabricDoorbell pkt s) (Keeps s) := by
  refine ⟨_, rfl, keeps_withPacket (keeps_refl s) _ _ fun t h => ?_⟩
  have hagain (t : State) (h : Keeps s t) : Keeps s (ackAgain pkt t) := keeps_ackAgain h ..
  refine keeps_ite (keeps_tagged h _ hagain fun t u h e => ?_) ?_
  · cases e
    exact keeps_ringDoorbell (keeps_endSnapshot h) ..
  · have hrefused := keeps_tagged (serve := fun _ => .error 2) h pkt hagain fun t u h e => nomatch e
    exact keeps_ite (keeps_modQueue hrefused ..) hrefused

theorem goes_execResync (pkt : Packet) (s : State) : Goes (execResync pkt s) (Keeps s) := by
  refine ⟨_, rfl, ?_⟩
  grind [keeps_refl, keeps_withPacket, keeps_nack, keeps_setTracker, keeps_sendAck, keeps_mk]

theorem goes_execAckTimer (src : BitVec 14) (s : State) :
    Goes (execAckTimer src s) (Keeps s) :=   ⟨_, rfl, keeps_ite (keeps_refl s) (keeps_sendAck (keeps_setTracker (keeps_refl s) ..) ..)⟩

theorem goes_execTrackerEvict (src : BitVec 14) (s : State) : Goes (execTrackerEvict src s) (Keeps s) := by
  refine ⟨_, rfl, ?_⟩
  grind [keeps_refl, keeps_setTracker]

theorem goes_execLoadRsp (pkt : Packet) (s : State) : Goes (execLoadRsp pkt s) (Keeps s) := by
  refine ⟨_, rfl, ?_⟩
  grind [keeps_refl, keeps_withPacket, keeps_ackPackets, keeps_takeLoad, keeps_mk]

theorem goes_execAtomicRsp (pkt : Packet) (s : State) : Goes (execAtomicRsp pkt s) (Keeps s) := by
  refine ⟨_, rfl, ?_⟩
  grind [keeps_refl, keeps_withPacket, keeps_ackPackets]

theorem goes_execAck (pkt : Packet) (s : State) : Goes (execAck pkt s) (Keeps s) := by
  refine ⟨_, rfl, ?_⟩
  grind [keeps_refl, keeps_withPacket, keeps_setStream, keeps_ackPackets, keeps_mk]

theorem goes_execNack (pkt : Packet) (s : State) : Goes (execNack pkt s) (Keeps s) := by
  refine ⟨_, rfl, ?_⟩
  grind [keeps_refl, keeps_withPacket, keeps_takeNack]

theorem goes_execNackRetryAfter (dst : BitVec 14) (tag : BitVec 32) (s : State) : Goes (execNackRetryAfter dst tag s) (Keeps s) := by
  refine ⟨_, rfl, ?_⟩
  grind [keeps_refl, keeps_resend, keeps_mk]

theorem goes_execRouteFail (pkt : Packet) (s : State) : Goes (execRouteFail pkt s) (Keeps s) := by
  refine ⟨_, rfl, ?_⟩
  grind [keeps_refl, keeps_withPacket, keeps_setStream, keeps_resend, keeps_mk]

theorem goes_execPlaneProbe (dst : BitVec 14) (plane : Fin 8) (s : State) :
    Goes (execPlaneProbe dst plane s) (Keeps s) :=   ⟨_, rfl, keeps_setStream (keeps_refl s) ..⟩

theorem goes_execRetransmitTimeout (dst : BitVec 14) (tag : BitVec 32) (s : State) : Goes (execRetransmitTimeout dst tag s) (Keeps s) :=
  ⟨_, rfl, keeps_resend (keeps_refl s) ..⟩

theorem goes_execFabricDeadline (dst : BitVec 14) (tag : BitVec 32) (s : State) : Goes (execFabricDeadline dst tag s) (Keeps s) := by
  refine ⟨_, rfl, ?_⟩
  grind [keeps_refl, keeps_abandonStream, keeps_nackFault]

theorem goes_execResyncRetryTimer (dst : BitVec 14) (s : State) : Goes (execResyncRetryTimer dst s) (Keeps s) := by
  refine ⟨_, rfl, keeps_ite (keeps_refl s) ?_⟩
  split
  · exact keeps_beginStream (keeps_refl s) ..
  · exact keeps_resend (keeps_refl s) ..

theorem goes_execSwitchStateGlobal (configuration : Bool) (s : State) : Goes (execSwitchStateGlobal configuration s) (Keeps s) :=
  ⟨_, rfl, keeps_lssGlobal (keeps_refl s) ..⟩

theorem goes_execSwitchStateSelective (vendor product revision serial : BitVec 32) (s : State) :
    Goes (execSwitchStateSelective vendor product revision serial s) (Keeps s) := by
  refine ⟨_, rfl, ?_⟩
  grind [keeps_refl, keeps_lssSelective]

theorem goes_execConfigureNodeId (node : BitVec 8) (s : State) : Goes (execConfigureNodeId node s) (Keeps s) :=
  ⟨_, rfl, keeps_lssNodeId (keeps_refl s) ..⟩

theorem goes_execConfigureBitTiming (_table _index : BitVec 8) (s : State) : Goes (execConfigureBitTiming _table _index s) (Keeps s) :=
  ⟨_, rfl, keeps_lssTiming (keeps_refl s) ..⟩

theorem goes_execStoreConfiguration (s : State) : Goes (execStoreConfiguration s) (Keeps s) :=
  ⟨_, rfl, keeps_lssStore (keeps_refl s) ..⟩

theorem goes_execInquireIdentity (which : Fin 5) (s : State) : Goes (execInquireIdentity which s) (Keeps s) :=
  ⟨_, rfl, keeps_lssInquire (keeps_refl s) ..⟩

theorem goes_execFastscan (idNumber : BitVec 32) (bitCheck lssSub lssNext : BitVec 8) (s : State) :
    Goes (execFastscan idNumber bitCheck lssSub lssNext s) (Keeps s) :=
  ⟨_, rfl, keeps_lssFastscan (keeps_refl s) ..⟩

theorem goes_execStartRemoteNode (node : BitVec 8) (s : State) : Goes (execStartRemoteNode node s) (Keeps s) :=
  ⟨_, rfl, keeps_nmtCommand (keeps_refl s) ..⟩

theorem goes_execStopRemoteNode (node : BitVec 8) (s : State) : Goes (execStopRemoteNode node s) (Keeps s) :=
  ⟨_, rfl, keeps_nmtCommand (keeps_refl s) ..⟩

theorem goes_execEnterPreOperational (node : BitVec 8) (s : State) : Goes (execEnterPreOperational node s) (Keeps s) :=
  ⟨_, rfl, keeps_nmtCommand (keeps_refl s) ..⟩

theorem goes_execResetNode (node : BitVec 8) (s : State) : Goes (execResetNode node s) (Keeps s) :=
  ⟨_, rfl, keeps_nmtCommand (keeps_refl s) ..⟩

theorem goes_execResetCommunication (node : BitVec 8) (s : State) : Goes (execResetCommunication node s) (Keeps s) :=
  ⟨_, rfl, keeps_nmtCommand (keeps_refl s) ..⟩

theorem goes_execHeartbeat (s : State) : Goes (execHeartbeat s) (Keeps s) :=
  ⟨_, rfl, keeps_heartbeatDue (keeps_refl s) ..⟩

theorem goes_execEmcyInhibitTimer (s : State) : Goes (execEmcyInhibitTimer s) (Keeps s) :=
  ⟨_, rfl, keeps_emcyNext (keeps_refl s) ..⟩

theorem goes_execTpdoSample (s : State) : Goes (execTpdoSample s) (Keeps s) :=
  ⟨_, rfl, keeps_tpdoSample (keeps_refl s) ..⟩

theorem goes_execTpdoEventTimer (n : Fin 8) (s : State) : Goes (execTpdoEventTimer n s) (Keeps s) :=
  ⟨_, rfl, keeps_tpdoTimer (keeps_refl s) ..⟩

theorem goes_execBusOffRecovery (s : State) : Goes (execBusOffRecovery s) (Keeps s) :=
  ⟨_, rfl, keeps_busRecovered (keeps_refl s) ..⟩

theorem goes_execNodeErrorPassive (busOff : Bool) (tx rx : BitVec 8) (s : State) : Goes (execNodeErrorPassive busOff tx rx s) (Keeps s) :=
  ⟨_, rfl, keeps_busErrors (keeps_refl s) ..⟩

theorem goes_execCanReceiveOverrun (s : State) : Goes (execCanReceiveOverrun s) (Keeps s) :=
  ⟨_, rfl, keeps_canOverrun (keeps_refl s) ..⟩

theorem goes_execRegisterCommit (s : State) : Goes (execRegisterCommit s) (Keeps s) :=
  ⟨_, rfl, keeps_meterTick (keeps_refl s) ..⟩

theorem goes_execReferenceDeviation (away : Bool) (ppm : BitVec 32) (s : State) : Goes (execReferenceDeviation away ppm s) (Keeps s) :=
  ⟨_, rfl, keeps_referenceEvent (keeps_refl s) ..⟩

theorem goes_execMeterConditionChange (power away : Bool) (value : BitVec 32) (s : State) :
    Goes (execMeterConditionChange power away value s) (Keeps s) :=
  ⟨_, rfl, keeps_conditionEvent (keeps_refl s) ..⟩

theorem goes_execReadingDone (s : State) : Goes (execReadingDone s) (Keeps s) :=
  ⟨_, rfl, keeps_readingFinish (keeps_refl s) ..⟩

theorem goes_execPeriodicReading (s : State) : Goes (execPeriodicReading s) (Keeps s) :=
  ⟨_, rfl, keeps_readingPeriodic (keeps_refl s) ..⟩

theorem goes_execMirrorFrame (crcOk : Bool) (item : MirrorItem) (s : State) : Goes (execMirrorFrame crcOk item s) (Keeps s) :=
  ⟨_, rfl, keeps_takeMirror (keeps_refl s) ..⟩

theorem goes_execMirrorTimeout (s : State) : Goes (execMirrorTimeout s) (Keeps s) := by
  refine ⟨_, rfl, ?_⟩
  grind [keeps_refl, keeps_modMeter, keeps_mk]

theorem goes_execMeterNmtCommand (command node : BitVec 8) (s : State) : Goes (execMeterNmtCommand command node s) (Keeps s) :=
  ⟨_, rfl, keeps_meterNmt (keeps_refl s) ..⟩

theorem goes_execMeteringPowerOn (selfTest : Option Nat) (s : State) : Goes (execMeteringPowerOn selfTest s) (Keeps s) :=
  ⟨_, rfl, keeps_meterPowerOn (keeps_refl s) ..⟩

theorem goes_execAttributionInterval (activity : List Activity) (s : State) : Goes (execAttributionInterval activity s) (Keeps s) :=
  ⟨_, rfl, keeps_apportion (keeps_refl s) ..⟩

theorem goes_execRetest (key : EphKey) (pass : Bool) (s : State) : Goes (execRetest key pass s) (Keeps s) := by
  refine ⟨_, rfl, ?_⟩
  grind [keeps_refl, keeps_retestResult, keeps_draw]

theorem goes_execRetestDeadline (key : EphKey) (pass : Bool) (s : State) : Goes (execRetestDeadline key pass s) (Keeps s) := by
  refine ⟨_, rfl, ?_⟩
  grind [keeps_refl, keeps_retestResult, keeps_draw]

theorem goes_execEphemerisCompact (s : State) : Goes (execEphemerisCompact s) (Keeps s) :=
  ⟨_, rfl, keeps_compact (keeps_refl s) ..⟩

theorem goes_execHoursCheckpoint (s : State) : Goes (execHoursCheckpoint s) (Keeps s) :=
  ⟨_, rfl, keeps_hoursTick (keeps_refl s) ..⟩

theorem goes_execAlmanacIdleStep (g : CoreId) (test : Nat) (pass : Bool) (s : State) :
    Goes (execAlmanacIdleStep g test pass s) (Keeps s) :=
  ⟨_, rfl, keeps_idleStep (keeps_refl s) ..⟩

theorem goes_execDipBegin (die : Fin 4) (millivolts : BitVec 16) (s : State) : Goes (execDipBegin die millivolts s) (Keeps s) := by
  refine ⟨_, rfl, ?_⟩
  grind [keeps_refl, keeps_dipStart]

theorem goes_execDipEnd (die : Fin 4) (minMv : BitVec 16) (nanos : BitVec 32) (s : State) :
    Goes (execDipEnd die minMv nanos s) (Keeps s) :=
  ⟨_, rfl, keeps_dipFinish (keeps_refl s) ..⟩

theorem goes_execDipWindowEnd (die : Fin 2) (s : State) : Goes (execDipWindowEnd die s) (Keeps s) :=
  ⟨_, rfl, keeps_windowEnd (keeps_refl s) ..⟩

theorem goes_execRailDip (rail : Fin 15) (minMv : BitVec 16) (nanos : BitVec 32) (s : State) :
    Goes (execRailDip rail minMv nanos s) (Keeps s) :=
  ⟨_, rfl, keeps_otherDip (keeps_refl s) ..⟩

theorem goes_execControlCoreParityError (g : CoreId) (s : State) : Goes (execControlCoreParityError g s) (Keeps s) :=
  ⟨_, rfl, keeps_controlParity (keeps_refl s) ..⟩

theorem goes_execPowerSample (milliwatts : BitVec 32) (s : State) : Goes (execPowerSample milliwatts s) (Keeps s) :=
  ⟨_, rfl, keeps_samplePower (keeps_refl s) ..⟩

theorem goes_execThermalSample (temps : List (BitVec 16)) (s : State) : Goes (execThermalSample temps s) (Keeps s) :=
  ⟨_, rfl, keeps_sampleTemps (keeps_refl s) ..⟩

theorem goes_execReferenceLoss (s : State) : Goes (execReferenceLoss s) (Keeps s) :=
  ⟨_, rfl, keeps_loseReference (keeps_refl s) ..⟩

theorem goes_execReferenceWithinLimits (s : State) : Goes (execReferenceWithinLimits s) (Keeps s) :=
  ⟨_, rfl, keeps_referenceBack (keeps_refl s) ..⟩

theorem goes_execInputWarning (away : Bool) (millivolts : BitVec 16) (s : State) : Goes (execInputWarning away millivolts s) (Keeps s) :=
  ⟨_, rfl, keeps_inputEvent (keeps_refl s) ..⟩

theorem goes_execRailResetLevel (rail : Fin 15) (s : State) : Goes (execRailResetLevel rail s) (Keeps s) :=
  ⟨_, rfl, keeps_railReset (keeps_refl s) ..⟩

theorem goes_execWarmReset (why : ResetWhy) (s : State) : Goes (execWarmReset why s) (Keeps s) :=
  ⟨_, rfl, keeps_warmReset (keeps_refl s) ..⟩

theorem goes_execWarmResetDrainEnd (s : State) : Goes (execWarmResetDrainEnd s) (Keeps s) :=
  ⟨_, rfl, keeps_drainEnd (keeps_refl s) ..⟩

theorem goes_execDieReset (die : Fin 2) (s : State) : Goes (execDieReset die s) (Keeps s) :=
  ⟨_, rfl, keeps_dieReset (keeps_refl s) ..⟩

theorem goes_execPowerOnReset (why : ResetWhy) (s : State) : Goes (execPowerOnReset why s) (Keeps s) :=
  ⟨_, rfl, keeps_powerOn (keeps_refl s) ..⟩

theorem goes_execBootStepComplete (report : BootReport) (s : State) : Goes (execBootStepComplete report s) (Keeps s) :=
  ⟨_, rfl, keeps_bootDone (keeps_refl s) ..⟩

theorem goes_execBootStepTimeout (s : State) : Goes (execBootStepTimeout s) (Keeps s) :=
  ⟨_, rfl, keeps_bootLate (keeps_refl s) ..⟩

theorem goes_execJournalSweep (s : State) : Goes (execJournalSweep s) (Keeps s) :=
  ⟨_, rfl, keeps_sweep (keeps_refl s) ..⟩

theorem goes_execModuleResetPin (s : State) : Goes (execModuleResetPin s) (Keeps s) :=
  ⟨_, rfl, keeps_resetPinLow (keeps_refl s) ..⟩

theorem goes_execModuleResetNRise (s : State) : Goes (execModuleResetNRise s) (Keeps s) :=
  ⟨_, rfl, keeps_resetPinHigh (keeps_refl s) ..⟩

theorem goes_execPowerEnableHigh (s : State) : Goes (execPowerEnableHigh s) (Keeps s) :=
  ⟨_, rfl, keeps_enableHigh (keeps_refl s) ..⟩

theorem goes_execPowerEnableLow (s : State) : Goes (execPowerEnableLow s) (Keeps s) :=
  ⟨_, rfl, keeps_enableLow (keeps_refl s) ..⟩

theorem goes_execLifecycleCommandFinish (s : State) : Goes (execLifecycleCommandFinish s) (Keeps s) :=
  ⟨_, rfl, keeps_lifecycleFinish (keeps_refl s) ..⟩

theorem goes_execFwEraseDone (s : State) : Goes (execFwEraseDone s) (Keeps s) :=
  ⟨_, rfl, keeps_eraseDone (keeps_refl s) ..⟩

theorem goes_execAttestDone (s : State) : Goes (execAttestDone s) (Keeps s) :=
  ⟨_, rfl, keeps_attestFinish (keeps_refl s) ..⟩

theorem goes_execExtest (cells : BitVec 1184) (s : State) : Goes (execExtest cells s) (Keeps s) := by
  refine ⟨_, rfl, ?_⟩
  grind [keeps_refl, keeps_tapRun, keeps_tapBypass, keeps_mk]

theorem goes_execSamplePreload (pins cells : BitVec 1184) (s : State) : Goes (execSamplePreload pins cells s) (Keeps s) := by
  refine ⟨_, rfl, ?_⟩
  grind [keeps_refl, keeps_tapRun, keeps_mk]

theorem goes_execClamp (s : State) : Goes (execClamp s) (Keeps s) := by
  refine ⟨_, rfl, ?_⟩
  grind [keeps_refl, keeps_tapRun, keeps_tapBypass, keeps_mk]

theorem goes_execHighz (s : State) : Goes (execHighz s) (Keeps s) := by
  refine ⟨_, rfl, ?_⟩
  grind [keeps_refl, keeps_tapRun, keeps_tapBypass, keeps_mk]

theorem goes_execIdcode (s : State) : Goes (execIdcode s) (Keeps s) := by
  refine ⟨_, rfl, ?_⟩
  grind [keeps_refl, keeps_tapRun, keeps_mk]

theorem goes_execDmiSelect (value : BitVec 8) (s : State) : Goes (execDmiSelect value s) (Keeps s) := by
  refine ⟨_, rfl, ?_⟩
  grind [keeps_refl, keeps_tapBypass, keeps_tapRun, keeps_mk]

theorem goes_execDmi (value : BitVec 41) (s : State) : Goes (execDmi value s) (Keeps s) := by
  refine ⟨_, rfl, ?_⟩
  grind [keeps_refl, keeps_tapBypass, keeps_tapRun, keeps_mk]

theorem goes_execSealedRead (value : BitVec 112) (s : State) : Goes (execSealedRead value s) (Keeps s) := by
  refine ⟨_, rfl, ?_⟩
  grind [keeps_refl, keeps_tapBypass, keeps_tapRun, keeps_mk]

theorem goes_execBypass (code : BitVec 8) (_bit : BitVec 1) (s : State) : Goes (execBypass code _bit s) (Keeps s) :=
  ⟨_, rfl, keeps_tapBypass (keeps_refl s) ..⟩

theorem goes_execVadd (g : CoreId) (seq : BitVec 64) (det : Detect) (s : State) :
    Goes (execVadd g seq det s) (Keeps s) :=   ⟨_, rfl, keeps_vectorOp (keeps_refl s) _ g seq det fun _ _ r => runKeeps_elementBody (runKeeps_refl r) ..⟩

theorem goes_execVsub (g : CoreId) (seq : BitVec 64) (det : Detect) (s : State) :
    Goes (execVsub g seq det s) (Keeps s) :=   ⟨_, rfl, keeps_vectorOp (keeps_refl s) _ g seq det fun _ _ r => runKeeps_elementBody (runKeeps_refl r) ..⟩

theorem goes_execVmul (g : CoreId) (seq : BitVec 64) (det : Detect) (s : State) :
    Goes (execVmul g seq det s) (Keeps s) :=   ⟨_, rfl, keeps_vectorOp (keeps_refl s) _ g seq det fun _ _ r => runKeeps_elementBody (runKeeps_refl r) ..⟩

theorem goes_execVfma (g : CoreId) (seq : BitVec 64) (det : Detect) (s : State) :
    Goes (execVfma g seq det s) (Keeps s) :=   ⟨_, rfl, keeps_vectorOp (keeps_refl s) _ g seq det fun _ _ r => runKeeps_elementBody (runKeeps_refl r) ..⟩

theorem goes_execVmin (g : CoreId) (seq : BitVec 64) (det : Detect) (s : State) :
    Goes (execVmin g seq det s) (Keeps s) :=   ⟨_, rfl, keeps_vectorOp (keeps_refl s) _ g seq det fun _ _ r => runKeeps_elementBody (runKeeps_refl r) ..⟩

theorem goes_execVmax (g : CoreId) (seq : BitVec 64) (det : Detect) (s : State) :
    Goes (execVmax g seq det s) (Keeps s) :=   ⟨_, rfl, keeps_vectorOp (keeps_refl s) _ g seq det fun _ _ r => runKeeps_elementBody (runKeeps_refl r) ..⟩

theorem goes_execVabs (g : CoreId) (seq : BitVec 64) (det : Detect) (s : State) :
    Goes (execVabs g seq det s) (Keeps s) :=   ⟨_, rfl, keeps_vectorOp (keeps_refl s) _ g seq det fun _ _ r => runKeeps_elementBody (runKeeps_refl r) ..⟩

theorem goes_execVneg (g : CoreId) (seq : BitVec 64) (det : Detect) (s : State) :
    Goes (execVneg g seq det s) (Keeps s) :=   ⟨_, rfl, keeps_vectorOp (keeps_refl s) _ g seq det fun _ _ r => runKeeps_elementBody (runKeeps_refl r) ..⟩

theorem goes_execVcmplt (g : CoreId) (seq : BitVec 64) (det : Detect) (s : State) :
    Goes (execVcmplt g seq det s) (Keeps s) :=   ⟨_, rfl, keeps_vectorOp (keeps_refl s) _ g seq det fun _ _ r => runKeeps_elementBody (runKeeps_refl r) ..⟩

theorem goes_execVsel (g : CoreId) (seq : BitVec 64) (det : Detect) (s : State) :
    Goes (execVsel g seq det s) (Keeps s) :=   ⟨_, rfl, keeps_vectorOp (keeps_refl s) _ g seq det fun _ _ r => runKeeps_elementBody (runKeeps_refl r) ..⟩

theorem goes_execVcvt (g : CoreId) (seq : BitVec 64) (det : Detect) (s : State) :
    Goes (execVcvt g seq det s) (Keeps s) :=   ⟨_, rfl, keeps_vectorOp (keeps_refl s) _ g seq det fun _ _ r => runKeeps_elementBody (runKeeps_refl r) ..⟩

theorem goes_execVexp (g : CoreId) (seq : BitVec 64) (det : Detect) (s : State) :
    Goes (execVexp g seq det s) (Keeps s) :=   ⟨_, rfl, keeps_vectorOp (keeps_refl s) _ g seq det fun _ _ r => runKeeps_elementBody (runKeeps_refl r) ..⟩

theorem goes_execVlog (g : CoreId) (seq : BitVec 64) (det : Detect) (s : State) :
    Goes (execVlog g seq det s) (Keeps s) :=   ⟨_, rfl, keeps_vectorOp (keeps_refl s) _ g seq det fun _ _ r => runKeeps_elementBody (runKeeps_refl r) ..⟩

theorem goes_execVtanh (g : CoreId) (seq : BitVec 64) (det : Detect) (s : State) :
    Goes (execVtanh g seq det s) (Keeps s) :=   ⟨_, rfl, keeps_vectorOp (keeps_refl s) _ g seq det fun _ _ r => runKeeps_elementBody (runKeeps_refl r) ..⟩

theorem goes_execVsigm (g : CoreId) (seq : BitVec 64) (det : Detect) (s : State) :
    Goes (execVsigm g seq det s) (Keeps s) :=   ⟨_, rfl, keeps_vectorOp (keeps_refl s) _ g seq det fun _ _ r => runKeeps_elementBody (runKeeps_refl r) ..⟩

theorem goes_execVrsqrt (g : CoreId) (seq : BitVec 64) (det : Detect) (s : State) :
    Goes (execVrsqrt g seq det s) (Keeps s) :=   ⟨_, rfl, keeps_vectorOp (keeps_refl s) _ g seq det fun _ _ r => runKeeps_elementBody (runKeeps_refl r) ..⟩

theorem goes_execVerf (g : CoreId) (seq : BitVec 64) (det : Detect) (s : State) :
    Goes (execVerf g seq det s) (Keeps s) :=   ⟨_, rfl, keeps_vectorOp (keeps_refl s) _ g seq det fun _ _ r => runKeeps_elementBody (runKeeps_refl r) ..⟩

theorem goes_execVdiv (g : CoreId) (seq : BitVec 64) (det : Detect) (s : State) :
    Goes (execVdiv g seq det s) (Keeps s) :=   ⟨_, rfl, keeps_vectorOp (keeps_refl s) _ g seq det fun _ _ r => runKeeps_elementBody (runKeeps_refl r) ..⟩

theorem goes_execVsqrt (g : CoreId) (seq : BitVec 64) (det : Detect) (s : State) :
    Goes (execVsqrt g seq det s) (Keeps s) :=   ⟨_, rfl, keeps_vectorOp (keeps_refl s) _ g seq det fun _ _ r => runKeeps_elementBody (runKeeps_refl r) ..⟩

theorem goes_execVexpd (g : CoreId) (seq : BitVec 64) (det : Detect) (s : State) :
    Goes (execVexpd g seq det s) (Keeps s) :=   ⟨_, rfl, keeps_vectorOp (keeps_refl s) _ g seq det fun _ _ r => runKeeps_elementBody (runKeeps_refl r) ..⟩

theorem goes_execVrsum (g : CoreId) (seq : BitVec 64) (det : Detect) (s : State) :
    Goes (execVrsum g seq det s) (Keeps s) :=   ⟨_, rfl, keeps_vectorOp (keeps_refl s) _ g seq det fun _ _ r => runKeeps_reductionBody (runKeeps_refl r) ..⟩

theorem goes_execVrssq (g : CoreId) (seq : BitVec 64) (det : Detect) (s : State) :
    Goes (execVrssq g seq det s) (Keeps s) :=   ⟨_, rfl, keeps_vectorOp (keeps_refl s) _ g seq det fun _ _ r => runKeeps_reductionBody (runKeeps_refl r) ..⟩

theorem goes_execVrdot (g : CoreId) (seq : BitVec 64) (det : Detect) (s : State) :
    Goes (execVrdot g seq det s) (Keeps s) :=   ⟨_, rfl, keeps_vectorOp (keeps_refl s) _ g seq det fun _ _ r => runKeeps_reductionBody (runKeeps_refl r) ..⟩

theorem goes_execVrsexp (g : CoreId) (seq : BitVec 64) (det : Detect) (s : State) :
    Goes (execVrsexp g seq det s) (Keeps s) :=   ⟨_, rfl, keeps_vectorOp (keeps_refl s) _ g seq det fun _ _ r => runKeeps_reductionBody (runKeeps_refl r) ..⟩

theorem goes_execVrmax (g : CoreId) (seq : BitVec 64) (det : Detect) (s : State) :
    Goes (execVrmax g seq det s) (Keeps s) :=   ⟨_, rfl, keeps_vectorOp (keeps_refl s) _ g seq det fun _ _ r => runKeeps_maxBody (runKeeps_refl r) ..⟩

theorem goes_execVrdrn (g : CoreId) (seq : BitVec 64) (det : Detect) (s : State) :
    Goes (execVrdrn g seq det s) (Keeps s) :=   ⟨_, rfl, keeps_vectorOp (keeps_refl s) _ g seq det fun _ _ r => runKeeps_vrdrnBody (runKeeps_refl r) ..⟩

theorem goes_execVrsav (g : CoreId) (seq : BitVec 64) (det : Detect) (s : State) :
    Goes (execVrsav g seq det s) (Keeps s) :=   ⟨_, rfl, keeps_vectorOp (keeps_refl s) _ g seq det fun _ _ r => runKeeps_vrsavBody (runKeeps_refl r) ..⟩

theorem goes_execVrrst (g : CoreId) (seq : BitVec 64) (det : Detect) (s : State) :
    Goes (execVrrst g seq det s) (Keeps s) :=   ⟨_, rfl, keeps_vectorOp (keeps_refl s) _ g seq det fun _ _ r => runKeeps_vrrstBody (runKeeps_refl r) ..⟩

theorem goes_execVratm (g : CoreId) (seq : BitVec 64) (det : Detect) (s : State) :
    Goes (execVratm g seq det s) (Keeps s) :=   ⟨_, rfl, keeps_vectorOp (keeps_refl s) _ g seq det fun _ _ r => runKeeps_vratmBody (runKeeps_refl r) ..⟩

theorem goes_execVrng (g : CoreId) (seq : BitVec 64) (det : Detect) (s : State) :
    Goes (execVrng g seq det s) (Keeps s) :=   ⟨_, rfl, keeps_vectorOp (keeps_refl s) _ g seq det fun _ _ r => runKeeps_elementBody (runKeeps_refl r) ..⟩

theorem goes_execVuni (g : CoreId) (seq : BitVec 64) (det : Detect) (s : State) :
    Goes (execVuni g seq det s) (Keeps s) :=   ⟨_, rfl, keeps_vectorOp (keeps_refl s) _ g seq det fun _ _ r => runKeeps_elementBody (runKeeps_refl r) ..⟩

theorem goes_execVdrop (g : CoreId) (seq : BitVec 64) (det : Detect) (s : State) :
    Goes (execVdrop g seq det s) (Keeps s) :=   ⟨_, rfl, keeps_vectorOp (keeps_refl s) _ g seq det fun _ _ r => runKeeps_elementBody (runKeeps_refl r) ..⟩

end Sys2Proof.Machine
end

section
/-! PROOFS. Every step takes the front command alone (O54) and keeps the tables in canonical form (O55). -/

namespace Sys2Proof.Machine
/-- Every command goes on, keeps the commands that wait behind it and keeps the tables in canonical form. -/
theorem exec_keeps (i : Instr) (s : State) : Goes (exec i s) (Keeps s) := by
  cases i with
  | ringTailWrite => exact goes_execRingTailWrite ..
  | ringReleaseWrite => exact goes_execRingReleaseWrite ..
  | descriptorFetch => exact goes_execDescriptorFetch ..
  | tzro => exact goes_execTzro ..
  | tpre => exact goes_execTpre ..
  | trst => exact goes_execTrst ..
  | tmul => exact goes_execTmul ..
  | tdrn => exact goes_execTdrn ..
  | tsav => exact goes_execTsav ..
  | tatm => exact goes_execTatm ..
  | tmov => exact goes_execTmov ..
  | tsig => exact goes_execTsig ..
  | rowFenceRelease => exact goes_execRowFenceRelease ..
  | engineRetire => exact goes_execEngineRetire ..
  | captureRead => exact goes_execCaptureRead ..
  | numericsClearCounters => exact goes_execNumericsClearCounters ..
  | numericsClearFlags => exact goes_execNumericsClearFlags ..
  | vecNumericsClear => exact goes_execVecNumericsClear ..
  | skeinAtomicApply => exact goes_execSkeinAtomicApply ..
  | headerMerge => exact goes_execHeaderMerge ..
  | contextSwitch => exact goes_execContextSwitch ..
  | contextRestore => exact goes_execContextRestore ..
  | sealedSaveSlotsWrite => exact goes_execSealedSaveSlotsWrite ..
  | vadd => exact goes_execVadd ..
  | vsub => exact goes_execVsub ..
  | vmul => exact goes_execVmul ..
  | vfma => exact goes_execVfma ..
  | vmin => exact goes_execVmin ..
  | vmax => exact goes_execVmax ..
  | vabs => exact goes_execVabs ..
  | vneg => exact goes_execVneg ..
  | vcmplt => exact goes_execVcmplt ..
  | vsel => exact goes_execVsel ..
  | vcvt => exact goes_execVcvt ..
  | vexp => exact goes_execVexp ..
  | vlog => exact goes_execVlog ..
  | vtanh => exact goes_execVtanh ..
  | vsigm => exact goes_execVsigm ..
  | vrsqrt => exact goes_execVrsqrt ..
  | verf => exact goes_execVerf ..
  | vdiv => exact goes_execVdiv ..
  | vsqrt => exact goes_execVsqrt ..
  | vexpd => exact goes_execVexpd ..
  | vrsum => exact goes_execVrsum ..
  | vrssq => exact goes_execVrssq ..
  | vrdot => exact goes_execVrdot ..
  | vrsexp => exact goes_execVrsexp ..
  | vrmax => exact goes_execVrmax ..
  | vrdrn => exact goes_execVrdrn ..
  | vrsav => exact goes_execVrsav ..
  | vrrst => exact goes_execVrrst ..
  | vratm => exact goes_execVratm ..
  | vrng => exact goes_execVrng ..
  | vuni => exact goes_execVuni ..
  | vdrop => exact goes_execVdrop ..
  | dcopy => exact goes_execDcopy ..
  | dfill => exact goes_execDfill ..
  | dhinit => exact goes_execDhinit ..
  | dhash => exact goes_execDhash ..
  | dinval => exact goes_execDinval ..
  | dhalo => exact goes_execDhalo ..
  | patrolScrub => exact goes_execPatrolScrub ..
  | create => exact goes_execCreate ..
  | destroy => exact goes_execDestroy ..
  | stop => exact goes_execStop ..
  | start => exact goes_execStart ..
  | reset => exact goes_execReset ..
  | contextResetFinish => exact goes_execContextResetFinish ..
  | peerOpen => exact goes_execPeerOpen ..
  | peerClose => exact goes_execPeerClose ..
  | queueConfig => exact goes_execQueueConfig ..
  | queueReset => exact goes_execQueueReset ..
  | accept => exact goes_execAccept ..
  | acceptAdvance => exact goes_execAcceptAdvance ..
  | run => exact goes_execRun ..
  | planLoad => exact goes_execPlanLoad ..
  | planUnload => exact goes_execPlanUnload ..
  | planUnloadTakeEffect => exact goes_execPlanUnloadTakeEffect ..
  | sync => exact goes_execSync ..
  | vtSet => exact goes_execVtSet ..
  | commit => exact goes_execCommit ..
  | commitComplete => exact goes_execCommitComplete ..
  | replay => exact goes_execReplay ..
  | cancelCascade => exact goes_execCancelCascade ..
  | snapshotCommand => exact goes_execSnapshotCommand ..
  | snapshotDone => exact goes_execSnapshotDone ..
  | journalRelocate => exact goes_execJournalRelocate ..
  | partLost => exact goes_execPartLost ..
  | counterSignal => exact goes_execCounterSignal ..
  | counterWait => exact goes_execCounterWait ..
  | counterGrant => exact goes_execCounterGrant ..
  | cancelMark => exact goes_execCancelMark ..
  | barrierEnter => exact goes_execBarrierEnter ..
  | signalCmd => exact goes_execSignalCmd ..
  | debit => exact goes_execDebit ..
  | setProduced => exact goes_execSetProduced ..
  | setConsumed => exact goes_execSetConsumed ..
  | setMode => exact goes_execSetMode ..
  | clear => exact goes_execClear ..
  | cancel => exact goes_execCancel ..
  | upd => exact goes_execUpd ..
  | upda => exact goes_execUpda ..
  | phaseFlip => exact goes_execPhaseFlip ..
  | watchRecompute => exact goes_execWatchRecompute ..
  | watchClearCounts => exact goes_execWatchClearCounts ..
  | watchClearEvents => exact goes_execWatchClearEvents ..
  | portTrainStart => exact goes_execPortTrainStart ..
  | portTrained => exact goes_execPortTrained ..
  | moduleIdAdopt => exact goes_execModuleIdAdopt ..
  | portDown p why => exact goes_execPortDown p why s
  | portEnable => exact goes_execPortEnable ..
  | portDisable => exact goes_execPortDisable ..
  | portRetrain => exact goes_execPortRetrain ..
  | linkControlFrame => exact goes_execLinkControlFrame ..
  | loadReq => exact goes_execLoadReq ..
  | loadRsp => exact goes_execLoadRsp ..
  | store => exact goes_execStore ..
  | storeBytes => exact goes_execStoreBytes ..
  | skeinAdd => exact goes_execSkeinAdd ..
  | intAtomic => exact goes_execIntAtomic ..
  | atomicRsp => exact goes_execAtomicRsp ..
  | signal => exact goes_execSignal ..
  | tailSignalApply => exact goes_execTailSignalApply ..
  | fabricDoorbell => exact goes_execFabricDoorbell ..
  | dictReq => exact goes_execDictReq ..
  | dictRsp => exact goes_execDictRsp ..
  | ack => exact goes_execAck ..
  | nack => exact goes_execNack ..
  | resync => exact goes_execResync ..
  | routeFail => exact goes_execRouteFail ..
  | retransmitTimeout => exact goes_execRetransmitTimeout ..
  | fabricDeadline => exact goes_execFabricDeadline ..
  | resyncRetryTimer => exact goes_execResyncRetryTimer ..
  | ackTimer => exact goes_execAckTimer ..
  | trackerEvict => exact goes_execTrackerEvict ..
  | planeProbe => exact goes_execPlaneProbe ..
  | transitUp => exact goes_execTransitUp ..
  | transitDown => exact goes_execTransitDown ..
  | abort => exact goes_execAbort ..
  | rerun => exact goes_execRerun ..
  | credit => exact goes_execCredit ..
  | chunkCombine => exact goes_execChunkCombine ..
  | slotWaitTimeout => exact goes_execSlotWaitTimeout ..
  | transitTimeout => exact goes_execTransitTimeout ..
  | collectiveDeadline => exact goes_execCollectiveDeadline ..
  | drinexTrainStart => exact goes_execDrinexTrainStart ..
  | drinexTrained lanes epoch last resume credP credC credE => exact goes_execDrinexTrained lanes epoch last resume credP credC credE s
  | drinexLaneFail => exact goes_execDrinexLaneFail ..
  | drinexDown => exact goes_execDrinexDown ..
  | drinexRetryLimit => exact goes_execDrinexRetryLimit ..
  | dataFlit => exact goes_execDataFlit ..
  | retryRequest => exact goes_execRetryRequest ..
  | idleFlitTimer => exact goes_execIdleFlitTimer ..
  | drinexEnable => exact goes_execDrinexEnable ..
  | drinexDisable => exact goes_execDrinexDisable ..
  | drinexRetrain => exact goes_execDrinexRetrain ..
  | mwr => exact goes_execMwr ..
  | mrd => exact goes_execMrd ..
  | doorbell => exact goes_execDoorbell ..
  | dictRd => exact goes_execDictRd ..
  | dictWr => exact goes_execDictWr ..
  | echoAck => exact goes_execEchoAck ..
  | accessLevelWrite => exact goes_execAccessLevelWrite ..
  | accessLevelTimeout => exact goes_execAccessLevelTimeout ..
  | registerWrite => exact goes_execRegisterWrite ..
  | usdoUpload => exact goes_execUsdoUpload ..
  | usdoDownload => exact goes_execUsdoDownload ..
  | usdoSegment => exact goes_execUsdoSegment ..
  | usdoTimeout => exact goes_execUsdoTimeout ..
  | tapDict => exact goes_execTapDict ..
  | switchStateGlobal => exact goes_execSwitchStateGlobal ..
  | switchStateSelective => exact goes_execSwitchStateSelective ..
  | configureNodeId => exact goes_execConfigureNodeId ..
  | configureBitTiming table index => exact goes_execConfigureBitTiming table index s
  | storeConfiguration => exact goes_execStoreConfiguration ..
  | inquireIdentity => exact goes_execInquireIdentity ..
  | fastscan => exact goes_execFastscan ..
  | startRemoteNode => exact goes_execStartRemoteNode ..
  | stopRemoteNode => exact goes_execStopRemoteNode ..
  | enterPreOperational => exact goes_execEnterPreOperational ..
  | resetNode => exact goes_execResetNode ..
  | resetCommunication => exact goes_execResetCommunication ..
  | heartbeat => exact goes_execHeartbeat ..
  | emcyInhibitTimer => exact goes_execEmcyInhibitTimer ..
  | errorHistoryClear => exact goes_execErrorHistoryClear ..
  | tpdoSample => exact goes_execTpdoSample ..
  | tpdoEventTimer => exact goes_execTpdoEventTimer ..
  | busOffRecovery => exact goes_execBusOffRecovery ..
  | irqPendingClear => exact goes_execIrqPendingClear ..
  | irqPendingSet => exact goes_execIrqPendingSet ..
  | irqSourceRoute => exact goes_execIrqSourceRoute ..
  | coalesceLimitWrite => exact goes_execCoalesceLimitWrite ..
  | coalesceTimer => exact goes_execCoalesceTimer ..
  | lineAck => exact goes_execLineAck ..
  | retest => exact goes_execRetest ..
  | retestDeadline => exact goes_execRetestDeadline ..
  | ephemerisCompact => exact goes_execEphemerisCompact ..
  | hoursCheckpoint => exact goes_execHoursCheckpoint ..
  | almanacLoad => exact goes_execAlmanacLoad ..
  | almanacIdleOn => exact goes_execAlmanacIdleOn ..
  | almanacIdleOff => exact goes_execAlmanacIdleOff ..
  | runScheduled => exact goes_execRunScheduled ..
  | almanacUnload => exact goes_execAlmanacUnload ..
  | almanacIdleStep => exact goes_execAlmanacIdleStep ..
  | dipBegin => exact goes_execDipBegin ..
  | dipEnd => exact goes_execDipEnd ..
  | dipWindowEnd => exact goes_execDipWindowEnd ..
  | provision => exact goes_execProvision ..
  | deploy => exact goes_execDeploy ..
  | debugEnter => exact goes_execDebugEnter ..
  | debugExit => exact goes_execDebugExit ..
  | decommission => exact goes_execDecommission ..
  | debugNonceRead => exact goes_execDebugNonceRead ..
  | stageChunkWrite => exact goes_execStageChunkWrite ..
  | keyStore => exact goes_execKeyStore ..
  | certStore => exact goes_execCertStore ..
  | fwBegin => exact goes_execFwBegin ..
  | fwEraseDone => exact goes_execFwEraseDone ..
  | fwUpdateData => exact goes_execFwUpdateData ..
  | fwVerify => exact goes_execFwVerify ..
  | fwActivate => exact goes_execFwActivate ..
  | fwAbort => exact goes_execFwAbort ..
  | commitVersion => exact goes_execCommitVersion ..
  | revert => exact goes_execRevert ..
  | overrideArm => exact goes_execOverrideArm ..
  | overrideDisarm => exact goes_execOverrideDisarm ..
  | attestNonce => exact goes_execAttestNonce ..
  | attestDone => exact goes_execAttestDone ..
  | extest => exact goes_execExtest ..
  | samplePreload => exact goes_execSamplePreload ..
  | clamp => exact goes_execClamp ..
  | highz => exact goes_execHighz ..
  | idcode => exact goes_execIdcode ..
  | dmiSelect => exact goes_execDmiSelect ..
  | dmi => exact goes_execDmi ..
  | sealedRead => exact goes_execSealedRead ..
  | bypass code bit => exact goes_execBypass code bit s
  | registerCommit => exact goes_execRegisterCommit ..
  | referenceDeviation => exact goes_execReferenceDeviation ..
  | meterConditionChange => exact goes_execMeterConditionChange ..
  | readingNonce => exact goes_execReadingNonce ..
  | readingDone => exact goes_execReadingDone ..
  | periodicReading => exact goes_execPeriodicReading ..
  | mirrorFrame => exact goes_execMirrorFrame ..
  | mirrorTimeout => exact goes_execMirrorTimeout ..
  | meterNmtCommand => exact goes_execMeterNmtCommand ..
  | meterFwBegin => exact goes_execMeterFwBegin ..
  | meterFwData => exact goes_execMeterFwData ..
  | meterFwActivate => exact goes_execMeterFwActivate ..
  | meterFwAbort => exact goes_execMeterFwAbort ..
  | attributionInterval => exact goes_execAttributionInterval ..
  | attributionClear => exact goes_execAttributionClear ..
  | powerSample => exact goes_execPowerSample ..
  | thermalSample => exact goes_execThermalSample ..
  | referenceLoss => exact goes_execReferenceLoss ..
  | inputWarning => exact goes_execInputWarning ..
  | railResetLevel => exact goes_execRailResetLevel ..
  | railDip => exact goes_execRailDip ..
  | warmResetCommand => exact goes_execWarmResetCommand ..
  | dieResetCommand => exact goes_execDieResetCommand ..
  | warmReset => exact goes_execWarmReset ..
  | warmResetDrainEnd => exact goes_execWarmResetDrainEnd ..
  | dieReset => exact goes_execDieReset ..
  | powerOnReset => exact goes_execPowerOnReset ..
  | bootStepComplete => exact goes_execBootStepComplete ..
  | bootStepTimeout => exact goes_execBootStepTimeout ..
  | journalSweep => exact goes_execJournalSweep ..
  | moduleResetPin => exact goes_execModuleResetPin ..
  | powerEnableHigh => exact goes_execPowerEnableHigh ..
  | powerEnableLow => exact goes_execPowerEnableLow ..
  | uncorrectableCodeword => exact goes_execUncorrectableCodeword ..
  | nackRetryAfter => exact goes_execNackRetryAfter ..
  | controlCoreParityError => exact goes_execControlCoreParityError ..
  | referenceWithinLimits => exact goes_execReferenceWithinLimits ..
  | moduleResetNRise => exact goes_execModuleResetNRise ..
  | lifecycleCommandFinish => exact goes_execLifecycleCommandFinish ..
  | journalRelocationComplete => exact goes_execJournalRelocationComplete ..
  | nodeErrorPassive => exact goes_execNodeErrorPassive ..
  | canReceiveOverrun => exact goes_execCanReceiveOverrun ..
  | meteringPowerOn => exact goes_execMeteringPowerOn ..

/-- A step keeps what waits behind the front command, and canonical form. -/
theorem step_keeps (s : State) : Goes (step s) (fun t => t.pending = s.pending.tail ∧ (s.wf = true → t.wf = true)) := by
  unfold step
  split
  next hq =>
    have hquiet := keeps_quiet (keeps_refl s)
    exact ⟨_, rfl, by rw [hquiet.pending, hq]; rfl, hquiet.wf⟩
  next c rest hq =>
    obtain ⟨t, hgo, hkeeps⟩ := exec_keeps c { s with pending := rest }
    exact ⟨t, hgo, by rw [hkeeps.pending, hq]; rfl, hkeeps.wf⟩

/-- Settles O54: no command touches the queue behind it. -/
theorem everyStepTakesTheFrontCommand : Obligations.EveryStepTakesTheFrontCommand := fun s =>
  have ⟨t, hgo, hqueue, _⟩ := step_keeps s
  ⟨t, hgo, hqueue⟩

/-- Settles O55: canonical form is an invariant of every command, hence of every step. -/
theorem stepsKeepTablesCanonical : Obligations.StepsKeepTablesCanonical := fun s t hs hgo => by
  obtain ⟨u, hu, _, hwf⟩ := step_keeps s
  cases hgo.symm.trans hu
  exact hwf hs

end Sys2Proof.Machine
end

section
/-! PROOFS. Steps and reset (O52, O53); instructions of the units that issue (O2, O5, O6). -/

namespace Sys2Proof.Machine

/-- Settles O52: the two branches of a step. -/
theorem stepRunsTheFrontCommand : Obligations.StepRunsTheFrontCommand := by
  refine ⟨fun _ _ _ => rfl, fun s hq => ?_⟩
  have hidle : step s = .next (idle (serveTap s)) := by simp only [step, hq, quiet]
  refine ⟨hidle, fun htap => ?_⟩
  rw [hidle, serveTap_none htap, idle]

/-- Settles O53: the reset state evaluated, part by part. -/
theorem resetStateIsPowerOn : Obligations.ResetStateIsPowerOn := by
  refine ⟨rfl, rfl, rfl, rfl, rfl, rfl, rfl, rfl, rfl, rfl, rfl, rfl, rfl, rfl, rfl, rfl, rfl, rfl, rfl, rfl, rfl, rfl, rfl, rfl, rfl⟩

/-! ### Instructions that issue -/

section
variable {s : State} {g : CoreId} {q : BitVec 64} {det : Detect} {e : WinEntry} {op : Nat} {body : State → WinEntry → Run → Run}

/-- A body that keeps the rings of its core leaves the window it issues from as it was. -/
theorem window_of_runKeeps {u : UnitKind} (hbody : ∀ t e r, Run.Keeps r (body t e r)) :
    ((body s e (startRun s g e)).core.unit u).window = (s.unitOf u g).window :=
  congrArg UnitRing.window ((hbody s e (startRun s g e)).core.unit u)

theorem engineOp_issued (hd : inRun det = true) (h : Dispatched s .engine op g q e = true)
    (hempty : (engineEmpty e.desc && decide (op ≠ 9)) = false) (hheld : engineHeld s g e.desc = false)
    (hbody : ∀ t e r, Run.Keeps r (body t e r)) (phase : Bytes → Run → Phase) (hp : (body s e (startRun s g e)).plain) :
    Issued s (engineOp op g q det s body phase) .engine g q e (body s e (startRun s g e))
      (phase e.desc (body s e (startRun s g e))) := by
  obtain ⟨-, hfind, -⟩ := dispatched_iff h
  rw [engineOp, unitOp_issues hd h _ _ _ _ _ hheld hempty]
  simp only [hfind]
  exact finish_issued hfind (window_of_runKeeps hbody) hp

theorem dmaOp_issued (hd : inRun det = true) (h : Dispatched s .dma op g q e = true) (hempty : dmaEmpty e.desc = false)
    (hbody : ∀ t e r, Run.Keeps r (body t e r)) (hp : (body s e (startRun s g e)).plain) :
    Issued s (dmaOp op g q det s body) .dma g q e (body s e (startRun s g e)) .executed := by
  obtain ⟨-, hfind, -⟩ := dispatched_iff h
  rw [dmaOp, unitOp_issues hd h _ _ _ _ _ rfl hempty]
  exact finish_issued hfind (window_of_runKeeps hbody) hp

theorem vectorOp_issued (hd : inRun det = true) (h : Dispatched s .vector op g q e = true) (hrows : vRows e.desc ≠ 0)
    (hheld : (op == 0x6B && s.dipOpen g) = false) (hbody : ∀ t e r, Run.Keeps r (body t e r))
    (hp : (body s e (startRun s g e)).plain) :
    Issued s (vectorOp op g q det s body) .vector g q e (body s e (startRun s g e)) .executed := by
  obtain ⟨-, hfind, -⟩ := dispatched_iff h
  rw [vectorOp, unitOp_issues hd h _ _ _ _ _ hheld (by simpa using hrows)]
  exact finish_issued hfind (window_of_runKeeps hbody) hp

/-- A TMUL of a core without saved progress does not resume one. -/
theorem resumeTmul_none (h : (s.core g).progress = none) : resumeTmul g q s = s := by
  simp only [resumeTmul, h]

/-- What the numerics watch notes of an issued TDRN is no part of what issuing leaves. -/
theorem noteWatch_issued {t : State} {r : Run} {ph : Phase} (h : Issued s t .engine g q e r ph) :
    Issued s (noteWatch t g q) .engine g q e r ph := by
  unfold noteWatch
  split
  · exact h
  split
  · obtain ⟨hmem, hadd, ⟨f, hf, hrest⟩, hskein, htags, hred, hother, hframe⟩ := h
    set c' : Core := { t.core g with watch := some (q, _) } with hc'
    have hw : (c'.unit .engine).window ≠ [] := List.ne_nil_of_mem (findEntry_mem hf)
    have hc := Core.ne_default_of_window hw
    have hcore : (t.setCore g c').core g = c' := State.core_setCore hc
    refine ⟨hmem, hadd, ⟨f, by rw [State.unitOf, hcore]; exact hf, hrest⟩, by rw [hcore]; exact hskein, by rw [hcore]; exact htags,
      by rw [hcore]; exact hred, fun k hk => ?_, hframe⟩
    rw [State.core_setCore_other hc hk]
    exact hother k hk
  · exact h

end

/-- Settles O6: each DMA body keeps the rings of its core. -/
theorem dmaInstructionsIssue : Obligations.DmaInstructionsIssue := by
  intro s g seq det e hd hempty r0 runs
  have hruns {op c} {body : State → WinEntry → Run → Run} (hexec : exec c s = .next (dmaOp op g seq det s body))
      (hbody : ∀ t e r, Run.Keeps r (body t e r)) : runs op c (body s e r0) := fun h hp =>
    ⟨_, hexec, dmaOp_issued hd h hempty hbody hp⟩
  refine ⟨hruns rfl ?_, hruns rfl ?_, hruns rfl ?_, hruns rfl ?_, hruns rfl ?_, hruns rfl ?_⟩
  · exact fun _ _ r => runKeeps_dcopyBody (runKeeps_refl r) ..
  · exact fun _ _ r => runKeeps_dfillBody (runKeeps_refl r) ..
  · exact fun _ _ r => runKeeps_dhinitBody (runKeeps_refl r) ..
  · exact fun _ _ r => runKeeps_dhashBody (runKeeps_refl r) ..
  · exact fun _ _ r => runKeeps_dinvalBody (runKeeps_refl r) ..
  · exact fun _ _ r => runKeeps_dhaloBody (runKeeps_refl r) ..

/-- Settles O5: each vector body keeps the rings of its core, and only VRATM is held by a dip window. -/
theorem vectorInstructionsIssue : Obligations.VectorInstructionsIssue := by
  intro s g seq det e hd hrows r0 runs el red
  have hruns {op c} {body : State → WinEntry → Run → Run} (hexec : exec c s = .next (vectorOp op g seq det s body))
      (hheld : (op == 0x6B && s.dipOpen g) = false) (hbody : ∀ t e r, Run.Keeps r (body t e r)) : runs op c (body s e r0) :=
    fun h hp => ⟨_, hexec, vectorOp_issued hd h hrows hheld hbody hp⟩
  have hel {op c} (hexec : exec c s = .next (vectorOp op g seq det s (elementBody det g))) (hop : (op == 0x6B) = false) :
      runs op c el :=
    hruns hexec (by simp [hop]) fun _ _ r => runKeeps_elementBody (runKeeps_refl r) ..
  have hred {op c} (hexec : exec c s = .next (vectorOp op g seq det s (reductionBody det g))) (hop : (op == 0x6B) = false) :
      runs op c red :=
    hruns hexec (by simp [hop]) fun _ _ r => runKeeps_reductionBody (runKeeps_refl r) ..
  refine ⟨⟨hel rfl rfl, hel rfl rfl, hel rfl rfl, hel rfl rfl, hel rfl rfl, hel rfl rfl, hel rfl rfl, hel rfl rfl, hel rfl rfl,
      hel rfl rfl, hel rfl rfl⟩,
    ⟨hel rfl rfl, hel rfl rfl, hel rfl rfl, hel rfl rfl, hel rfl rfl, hel rfl rfl, hel rfl rfl, hel rfl rfl, hel rfl rfl⟩,
    ⟨hred rfl rfl, hred rfl rfl, hred rfl rfl, hred rfl rfl, hruns rfl rfl ?_⟩,
    ⟨hruns rfl rfl ?_, hruns rfl rfl ?_, hruns rfl rfl ?_, fun hdip => hruns rfl (by simp [hdip]) ?_⟩,
    hel rfl rfl, hel rfl rfl, hel rfl rfl⟩
  · exact fun _ _ r => runKeeps_maxBody (runKeeps_refl r) ..
  · exact fun _ _ r => runKeeps_vrdrnBody (runKeeps_refl r) ..
  · exact fun _ _ r => runKeeps_vrsavBody (runKeeps_refl r) ..
  · exact fun _ _ r => runKeeps_vrrstBody (runKeeps_refl r) ..
  · exact fun _ _ r => runKeeps_vratmBody (runKeeps_refl r) ..

/-- Settles O2: each tensor body keeps the rings of its core; the watch of a TDRN changes nothing that issuing leaves. -/
theorem tensorInstructionsIssue : Obligations.TensorInstructionsIssue := by
  have hruns {s : State} {g : CoreId} {seq det e op c} {body : State → WinEntry → Run → Run} (hd : inRun det = true)
      (hempty : engineEmpty e.desc = false) (hbody : ∀ t e r, Run.Keeps r (body t e r))
      (hexec : exec c s = .next (engineOp op g seq det s body wholePhase)) (h : Dispatched s .engine op g seq e = true)
      (hheld : engineHeld s g e.desc = false) (hp : (body s e (startRun s g e)).plain) :
      Goes (exec c s) (fun t => Issued s t .engine g seq e (body s e (startRun s g e)) .executed) :=
    ⟨_, hexec, engineOp_issued hd h (by simp [hempty]) hheld hbody wholePhase hp⟩
  constructor
  · intro s g seq det e hd hempty r0
    refine ⟨?_, ?_, ?_, fun beats h hprog hheld hp => ?_, ?_, ?_, ?_⟩
    · exact hruns hd hempty (fun _ _ r => runKeeps_tzroBody (runKeeps_refl r) ..) rfl
    · exact hruns hd hempty (fun _ _ r => runKeeps_tpreBody (runKeeps_refl r) ..) rfl
    · exact hruns hd hempty (fun _ _ r => runKeeps_trstBody (runKeeps_refl r) ..) rfl
    · have hexec : exec (.tmul g seq beats det) s = .next (engineOp 4 g seq det s (tmulBody beats det g) tmulPhase) :=
        congrArg (fun t => Host.Outcome.next (engineOp 4 g seq det t _ _)) (resumeTmul_none hprog)
      refine ⟨_, hexec, ?_⟩
      exact engineOp_issued hd h (by simp [hempty]) hheld (fun _ _ r => runKeeps_tmulBody (runKeeps_refl r) ..) tmulPhase hp
    · exact hruns hd hempty (fun _ _ r => runKeeps_tsavBody (runKeeps_refl r) ..) rfl
    · exact hruns hd hempty (fun _ _ r => runKeeps_tatmBody (runKeeps_refl r) ..) rfl
    · exact hruns hd hempty (fun _ _ r => runKeeps_tmovBody (runKeeps_refl r) ..) rfl
  · intro s g seq det e hd
    constructor
    · intro h hempty hheld hp
      exact ⟨_, rfl, noteWatch_issued
        (engineOp_issued hd h (by simp [hempty]) hheld (fun _ _ r => runKeeps_tdrnBody (runKeeps_refl r) ..) wholePhase hp)⟩
    · intro h hheld
      exact ⟨_, rfl, engineOp_issued (det := .clean) (body := fun _ _ r => r) rfl h (by simp) hheld (fun _ _ r => runKeeps_refl r)
        wholePhase ⟨rfl, rfl⟩⟩

end Sys2Proof.Machine
end

section
/-! PROOFS. What faults and interrupts do and leave; a fault is recorded and counted (O40). -/

namespace Sys2Proof.Machine

/-! ### What faults, interrupts and EMCYs do and leave -/

/-- The two states differ in what reporting writes alone: records, draws, the interrupt controller, the cores' lines, what waits
for Drinex, the dictionary's EMCY part and what is sent. -/
def Reports (s t : State) : Prop :=
  { t with rel := s.rel, draws := s.draws, sources := s.sources, dests := s.dests, cores := s.cores, drinex := s.drinex
           dict := s.dict, out := s.out } = s

section
variable {s t u : State}

theorem reports_refl (s : State) : Reports s s := rfl

theorem Reports.trans (h : Reports s t) (h' : Reports t u) : Reports s u := by
  refine Eq.trans ?_ h
  exact congrArg (fun (x : State) => { x with rel := s.rel, draws := s.draws, sources := s.sources, dests := s.dests, cores := s.cores
                                              drinex := s.drinex, dict := s.dict, out := s.out }) h'

theorem Reports.mem (h : Reports s t) : t.mem = s.mem := by have h := congrArg State.mem h; exact h
theorem Reports.contexts (h : Reports s t) : t.contexts = s.contexts := by have h := congrArg State.contexts h; exact h
theorem Reports.clkc (h : Reports s t) : t.clkc = s.clkc := by have h := congrArg State.clkc h; exact h
theorem Reports.device (h : Reports s t) : t.device = s.device := by have h := congrArg State.device h; exact h
theorem Reports.slotMap (h : Reports s t) : t.slotMap = s.slotMap := by have h := congrArg State.slotMap h; exact h
theorem Reports.fabric (h : Reports s t) : t.fabric = s.fabric := by have h := congrArg State.fabric h; exact h
theorem Reports.power (h : Reports s t) : t.power = s.power := by have h := congrArg State.power h; exact h
theorem Reports.sec (h : Reports s t) : t.sec = s.sec := by have h := congrArg State.sec h; exact h
theorem Reports.counters (h : Reports s t) : t.counters = s.counters := by have h := congrArg State.counters h; exact h

/-- What reporting writes may take any value. -/
theorem reports_mk (h : Reports s t) {out draws cores drinex dict sources dests rel} :
    Reports s (State.mk t.pending out draws t.clkc t.device t.mem cores t.slotMap t.spares t.counters t.syncFaults t.tailDiscards
      t.signals t.addends t.contexts t.queueObjs t.training t.fabric t.coll drinex dict sources dests rel t.sec t.meter t.power) := h

theorem reports_raise (h : Reports s t) (n : Nat) : Reports s (raise t n) := by
  refine h.trans ?_
  have h := congrArg (fun (u : State) => { u with rel := t.rel, draws := t.draws, dict := t.dict }) (raise_frame t n)
  exact h

theorem reports_emcyOut (h : Reports s t) (m : Emcy) : Reports s (emcyOut t m) := by
  unfold emcyOut
  grind [reports_mk]

theorem reports_emcy (h : Reports s t) (code unit : Nat) : Reports s (emcy t code unit) := by
  unfold emcy
  grind [reports_emcyOut, reports_mk]

theorem reports_writeRecord (h : Reports s t) (n : FaultNote) (v w : Nat) : Reports s (writeRecord t n v w) := by
  unfold writeRecord
  grind [reports_emcy, reports_raise, reports_mk]

theorem reports_fault (h : Reports s t) (n : FaultNote) : Reports s (fault t n) := by
  unfold fault
  grind [reports_writeRecord, reports_raise, reports_mk]

@[simp] theorem raise_rel (s : State) (n : Nat) : (raise s n).rel = s.rel := by
  have h := congrArg State.rel (raise_frame s n); exact h

@[simp] theorem emcyOut_rel (s : State) (m : Emcy) : (emcyOut s m).rel = s.rel := by
  simp only [emcyOut, apply_ite State.rel, ite_self]

@[simp] theorem emcyOut_sources (s : State) (m : Emcy) : (emcyOut s m).sources = s.sources := by
  simp only [emcyOut, apply_ite State.sources, ite_self]

@[simp] theorem emcy_rel (s : State) (code unit : Nat) : (emcy s code unit).rel = s.rel := by
  simp only [emcy, apply_ite State.rel, emcyOut_rel, ite_self]

@[simp] theorem emcy_sources (s : State) (code unit : Nat) : (emcy s code unit).sources = s.sources := by
  simp only [emcy, apply_ite State.sources, emcyOut_sources, ite_self]

@[simp] theorem deliverIfDue_sources (s : State) (d : Nat) : (deliverIfDue s d).sources = s.sources := by
  have h := congrArg State.sources (deliverIfDue_frame s d); exact h

/-- An event of a source sets its pending bit and changes no other source (R365). -/
theorem raise_sources (s : State) (n : Nat) : (raise s n).sources =
    if s.sourceDead n || (smGet {} s.sources n).pending then s.sources
    else smSet {} s.sources n { smGet {} s.sources n with pending := true } := by
  unfold raise
  simp only [apply_ite State.sources, destEvent, deliverIfDue_sources, ite_self]

theorem raise_pending {n : Nat} (h : s.sourceDead n = false) : (smGet {} (raise s n).sources n).pending = true := by
  rw [raise_sources, h]
  split
  · simpa using ‹_›
  · rw [smGet_smSet_ne (by simp)]

theorem raise_pending_of {m : Nat} (h : (smGet {} s.sources m).pending = true) (n : Nat) :
    (smGet {} (raise s n).sources m).pending = true := by
  rw [raise_sources]
  split
  · exact h
  by_cases hm : m = n
  · rw [hm, smGet_smSet_ne (by simp)]
  · rwa [smGet_smSet_ne_other (by simp) _ hm]

/-- A source of no core with a number below 0x392 is never dead (R366). -/
theorem sourceDead_global {n : Nat} (hn : n < 0x392) (h : sourceCore n = none) (s : State) : s.sourceDead n = false := by
  simp [State.sourceDead, h, hn]

theorem Reliability.append_frame (r : Reliability) (entry : Bytes) :
    { r.append entry with flashBlocks := r.flashBlocks, flashErased := r.flashErased } = r := by
  unfold Reliability.append
  split
  · split <;> rfl
  · rfl

/-- An entry of the log changes the log alone (R384, R385). -/
theorem Reliability.log_frame (r : Reliability) (sec : Nat) (entry : Bytes) :
    { r.log sec entry with
      dropped := r.dropped, logSecond := r.logSecond, logInSecond := r.logInSecond, flashBlocks := r.flashBlocks
      flashErased := r.flashErased } = r := by
  unfold Reliability.log
  generalize (if r.logSecond = sec then r.logInSecond else 0) = k
  dsimp only
  split
  · rfl
  · have h := congrArg (fun (x : Reliability) => { x with logSecond := r.logSecond, logInSecond := r.logInSecond, dropped := r.dropped })
      (Reliability.append_frame { r with logSecond := sec, logInSecond := k + 1 } entry)
    exact h

@[simp] theorem Reliability.log_recordCount (r : Reliability) (sec : Nat) (entry : Bytes) :
    (r.log sec entry).recordCount = r.recordCount := by
  have h := congrArg Reliability.recordCount (r.log_frame sec entry); exact h

@[simp] theorem Reliability.log_records (r : Reliability) (sec : Nat) (entry : Bytes) : (r.log sec entry).records = r.records := by
  have h := congrArg Reliability.records (r.log_frame sec entry); exact h

@[simp] theorem Reliability.log_histories (r : Reliability) (sec : Nat) (entry : Bytes) :
    (r.log sec entry).histories = r.histories := by
  have h := congrArg Reliability.histories (r.log_frame sec entry); exact h

/-- A record is kept, the oldest of 1,024 gone for it, and counted; no history changes (R383). -/
theorem writeRecord_rel (s : State) (n : FaultNote) (v w : Nat) :
    (writeRecord s n v w).rel.recordCount = s.rel.recordCount + 1 ∧ (writeRecord s n v w).rel.histories = s.rel.histories ∧
    (s.rel.records.length ≤ 1024 → (writeRecord s n v w).rel.records.length ≤ 1024) := by
  simp only [writeRecord, apply_ite State.rel, emcy_rel, raise_rel, ite_self, Reliability.log_recordCount, Reliability.log_histories,
    Reliability.log_records, true_and]
  intro h
  split <;> simp_all
  omega

theorem writeRecord_pending (s : State) (n : FaultNote) (v w : Nat) :
    (smGet {} (writeRecord s n v w).sources 0x380).pending = true := by
  simp only [writeRecord, apply_ite State.sources, emcy_sources, ite_self]
  exact raise_pending (sourceDead_global (by decide) (by decide) _)

/-- A fault of a class that is not counted is recorded alone (R383). -/
theorem fault_uncounted {n : FaultNote} (h : countedClass n.cls = false) : fault s n = writeRecord s n 0 0 := by
  simp [fault, h]

/-- A fault of a counted class other than 0x01 takes its event into its key's history and is recorded; a key that becomes
suspect raises its source (R383, R386). -/
theorem fault_counted {n : FaultNote} (hc : countedClass n.cls = true) (h1 : n.cls ≠ 1) :
    fault s n =
      let e := ephEvent s.rel n.ephKey
      let t := writeRecord { s with rel := e.1 } n e.2.1 e.2.2.1
      if e.2.2.2 then
        raise { t with rel := t.rel.log (clkcSecond t.clkc) (ephEntry t 0xF1 n.unit n.key e.2.1 e.2.2.1 n.syn) } 0x381
      else t := by
  simp [fault, hc, h1]

end

/-! ### Histories of Ephemeris (R386) -/

section
variable {r : Reliability} {k : EphKey}

theorem Reliability.history_key (r : Reliability) (k : EphKey) : (r.history k).key = k := by
  unfold Reliability.history
  split
  · rename_i h hfind; simpa using List.find?_some hfind
  · rfl

theorem Reliability.history_setHistory {h : EphHistory} (hk : h.key = k) : (r.setHistory h).history k = h := by
  simp [Reliability.history, Reliability.setHistory, hk]

theorem Reliability.history_congr {r' : Reliability} (h : r'.histories = r.histories) (k : EphKey) : r'.history k = r.history k := by
  unfold Reliability.history; rw [h]

/-- The events of a key within 24 operating hours, with one of now (R386). -/
def Reliability.eventsNow (r : Reliability) (k : EphKey) : List Nat :=
  r.now :: (r.history k).events.filter (fun e => decide (r.now < e + 144))

theorem ephEvent_records (r : Reliability) (k : EphKey) :
    (ephEvent r k).1.recordCount = r.recordCount ∧ (ephEvent r k).1.records = r.records := by
  unfold ephEvent
  dsimp only
  split <;> exact ⟨rfl, rfl⟩

/-- An event at a key of a unit that is not permanent: its history, and whether it has just become suspect. -/
theorem ephEvent_transient (h : r.permanentUnit k.unit = false) :
    ((ephEvent r k).1.history k).events = r.eventsNow k ∧
    ((ephEvent r k).1.history k).verdict = (if (r.history k).verdict = 2 ∨ 3 ≤ (r.eventsNow k).length then 2 else 1) ∧
    ((r.history k).verdict ≠ 2 → 3 ≤ (r.eventsNow k).length → (ephEvent r k).2.2.2 = true) := by
  have he : r.now :: (r.history k).events.filter (fun t => decide (r.now < t + 144)) = r.eventsNow k := rfl
  simp only [ephEvent, h, Bool.false_eq_true, if_false, he]
  rw [Reliability.history_setHistory (by exact r.history_key k)]
  refine ⟨rfl, ?_, fun hv he => by simp [hv, he]⟩
  by_cases hv : (r.history k).verdict = 2 <;> simp [hv]

theorem ephEvent_permanent (h : r.permanentUnit k.unit = true) : 3 ≤ ((ephEvent r k).1.history k).verdict := by
  simp only [ephEvent, h, if_true]
  rw [Reliability.history_setHistory (by exact r.history_key k)]
  exact Nat.le_max_right ..

end

/-! ### A fault is recorded and counted (R380 to R386) -/

section
variable {s : State} {n : FaultNote}

/-- A fault of a class other than 0x01 keeps the histories that its event gives, counts one record and raises its source. -/
theorem fault_recorded (h1 : n.cls ≠ 1) :
    (fault s n).rel.recordCount = s.rel.recordCount + 1 ∧ (smGet {} (fault s n).sources 0x380).pending = true ∧
    (s.rel.records.length ≤ 1024 → (fault s n).rel.records.length ≤ 1024) ∧
    (fault s n).rel.histories = if countedClass n.cls then (ephEvent s.rel n.ephKey).1.histories else s.rel.histories := by
  cases hc : countedClass n.cls
  · rw [fault_uncounted hc]
    obtain ⟨hcount, hhist, hlen⟩ := writeRecord_rel s n 0 0
    exact ⟨hcount, writeRecord_pending .., hlen, hhist⟩
  · obtain ⟨hecount, herecords⟩ := ephEvent_records s.rel n.ephKey
    rw [fault_counted hc h1]
    generalize ephEvent s.rel n.ephKey = e at *
    obtain ⟨hcount, hhist, hlen⟩ := writeRecord_rel { s with rel := e.1 } n e.2.1 e.2.2.1
    have hpend := writeRecord_pending { s with rel := e.1 } n e.2.1 e.2.2.1
    dsimp only at hcount hhist hlen ⊢
    rw [hecount] at hcount
    rw [herecords] at hlen
    split
    · exact ⟨by simpa using hcount, raise_pending_of (by exact hpend) _, by simpa using hlen, by simpa using hhist⟩
    · exact ⟨hcount, hpend, hlen, hhist⟩

/-- A key that its event makes suspect raises the source 0x381 (R386). -/
theorem fault_suspect (hc : countedClass n.cls = true) (h1 : n.cls ≠ 1) (hs : (ephEvent s.rel n.ephKey).2.2.2 = true) :
    (smGet {} (fault s n).sources 0x381).pending = true := by
  rw [fault_counted hc h1]
  dsimp only
  rw [if_pos hs]
  exact raise_pending (sourceDead_global (by decide) (by decide) _)

end

/-- Settles O40: the record of a fault, and its event in the history of its key. -/
theorem faultsAreRecordedAndCounted : Obligations.FaultsAreRecordedAndCounted := by
  intro s n h1 t k h events
  obtain ⟨hcount, hpend, hlen, hhist⟩ := fault_recorded (s := s) h1
  have hkey (hc : countedClass n.cls = true) : t.rel.history k = (ephEvent s.rel n.ephKey).1.history k :=
    Reliability.history_congr (by rw [hhist, if_pos hc]) k
  have hframe : Reports s t := reports_fault (reports_refl s) n
  refine ⟨hcount, hpend, hframe.mem, hframe.contexts, hlen, fun hc => by simp [t, hhist, hc], fun hc hp => ?_, fun hc hp => ?_⟩
  · obtain ⟨hev, hverdict, hsus⟩ := ephEvent_transient hp
    rw [hkey hc]
    exact ⟨hev, hverdict, fun hv he => fault_suspect hc h1 (hsus hv he)⟩
  · rw [hkey hc]
    exact ephEvent_permanent hp

end Sys2Proof.Machine
end

section
/-! PROOFS. Commands that write one object; fences, captures, the scrub and the numeric clears (O7). -/

namespace Sys2Proof.Machine

/-! ### Commands that are writes of one object of the dictionary (R341, R342) -/

/-- The size of an object that is no selector. -/
def plainSize (idx sub : Nat) : Option Nat := (objectRow moduleObjects idx sub).bind fun r => if r.sel then none else some r.size

/-- The write of an object that is no selector: what `writeObject` does at any row that is none. -/
def writePlain (s : State) (acc : Accessor) (idx sub : Nat) (b : Bytes) : Answer := writeObject s acc counterCommandRow idx sub b []

section
variable {s t : State} {acc : Accessor} {idx sub : Nat} {b : Bytes}

theorem plainSize_row {n : Nat} (h : plainSize idx sub = some n) :
    ∃ r, objectRow moduleObjects idx sub = some r ∧ r.sel = false ∧ r.size = n := by
  unfold plainSize at h
  cases hr : objectRow moduleObjects idx sub with
  | none => simp [hr] at h
  | some r =>
    cases hsel : r.sel
    · exact ⟨r, rfl, hsel, by simpa [hr, hsel] using h⟩
    · simp [hr, hsel] at h

theorem writeObject_plain {r : ObjRow} (h : r.sel = false) : writeObject s acc r idx sub b [] = writePlain s acc idx sub b := by
  have hc : counterCommandRow.sel = false := rfl
  simp [writePlain, writeObject, h, hc]

/-- The access is answered with the code that the write gives, on the state that the write leaves. -/
theorem dictCommand_plain (h : Admitted s acc idx sub = true) (hsize : plainSize idx sub = some b.length) :
    dictCommand s acc idx sub b =
      (countAbort (writePlain (touchSelects s acc) acc idx sub b).1 (writePlain (touchSelects s acc) acc idx sub b).2).send
        (.dictReply acc.cls (BitVec.ofNat 32 (writePlain (touchSelects s acc) acc idx sub b).2) []) := by
  obtain ⟨r, hr, hsel, hl⟩ := plainSize_row hsize
  exact dictCommandWith_answers h hr hl.symm (writeObject_plain hsel)

/-- A write that the object takes is replied to with abort code 0. -/
theorem dictCommand_replied (h : Admitted s acc idx sub = true) (hsize : plainSize idx sub = some b.length)
    (hw : writePlain (touchSelects s acc) acc idx sub b = (t, 0)) : .next (dictCommand s acc idx sub b) = Replied acc t := by
  rw [dictCommand_plain h hsize, hw]
  rfl

theorem plainSize_numericsClear : plainSize 0x2800 8 = some 1 := by decide +kernel
theorem plainSize_vecNumericsClear : plainSize 0x2808 8 = some 1 := by decide +kernel
theorem plainSize_sealedSaveSlots : plainSize 0x2610 4 = some 2 := by decide +kernel

end

/-! ### The numeric clears, fences, captures and the scrub -/

section
variable {s : State} {acc : Accessor}

/-- A value of one object below the bound of its width is what its bytes hold. -/
theorem leNat_leBytes_of_lt {n v : Nat} (h : v < 256 ^ n) : leNat (leBytes n v) = v := by
  rw [leNat_leBytes, Nat.mod_eq_of_lt h]

theorem exec_sealedSaveSlotsWrite {n : BitVec 16} (h : Admitted s acc 0x2610 4 = true) (hn : n.toNat ≤ 1536)
    (hfree : s.contexts.any (fun c => decide (c.2.st ≠ .free) && c.2.isSealed) = false) :
    exec (.sealedSaveSlotsWrite acc n) s =
      Replied acc { touchSelects s acc with mem := { (touchSelects s acc).mem with sealedSlots := n } } := by
  refine dictCommand_replied h (by simpa using plainSize_sealedSaveSlots) ?_
  have hfree' : (touchSelects s acc).contexts.any (fun c => decide (c.2.st ≠ .free) && c.2.isSealed) = false := by
    have hctx := congrArg State.contexts (touchSelects_frame s acc)
    exact hctx ▸ hfree
  show writeSealedSlots (touchSelects s acc) (leNat (leBytes 2 n.toNat)) = _
  rw [leNat_leBytes_of_lt n.isLt, writeSealedSlots, if_neg (by omega), hfree']
  simp [accepted]

/-- A fence release sets the count of one group of its core to 0 and leaves the rest. -/
theorem exec_rowFenceRelease (hs : s.wf = true) (g : CoreId) (q : Fin 16) :
    Goes (exec (.rowFenceRelease g q) s) (fun t =>
      (t.core g).fence q = 0 ∧ (∀ k, k ≠ q.val → (t.core g).fence k = (s.core g).fence k) ∧
      (t.core g).skein = (s.core g).skein ∧ (∀ h, h ≠ g.val → t.core h = s.core h) ∧ { t with cores := s.cores } = s) := by
  obtain ⟨-, hcores, -⟩ := State.wf_iff.1 hs
  have hfence (k : Nat) := smGet_smSet (hcores.core g) q k 0
  refine ⟨_, rfl, ?_⟩
  simp only [State.core_setCore_wf hcores.1, if_true, Core.fence]
  refine ⟨(hfence q).trans (if_pos rfl), fun k hk => (hfence k).trans (if_neg hk), trivial, fun h hh => if_neg hh, rfl⟩

/-- A capture read sends the 32 bytes of its unit's capture and clears the overwritten count of it alone. -/
theorem exec_captureRead (hs : s.wf = true) (u : UnitKind) (g : CoreId) :
    Goes (exec (.captureRead u g) s) (fun t =>
      t.out = .capture g (captureBytes ((s.core g).captureOfUnit u)) :: s.out ∧ t.core g = clearOverwritten (s.core g) u ∧
      { t with cores := s.cores, out := s.out } = s) := by
  obtain ⟨-, hcores, -⟩ := State.wf_iff.1 hs
  exact ⟨_, rfl, rfl, (State.core_setCore_wf hcores.1 g g _).trans (if_pos rfl), rfl⟩

end

/-- Settles O7: each clause by the command's own lemma; the four clears are writes of their objects. -/
theorem fencesCapturesScrubsAndClears : Obligations.FencesCapturesScrubsAndClears := by
  refine ⟨⟨fun s g q hs => exec_rowFenceRelease hs g q, fun s g hs => exec_captureRead hs .engine g,
    fun s g hs => exec_captureRead hs .vector g⟩, ⟨fun s a p ha => ?_, fun _ => rfl⟩, fun s acc => ?_⟩
  · obtain ⟨hcount, -⟩ := fault_recorded (s := s.poisonAt a) (n := memErrNote s { sev := 3, cls := 2, src := 7 } (.data a p))
      (by simp [memErrNote])
    obtain ⟨hpois, -, hcells⟩ := s.mem.poisonBlock_poisons_alone p
    have hmem := State.poisonAt_mem ha
    have hrel : (s.poisonAt a).rel = s.rel := by simp only [State.poisonAt, ha]
    rw [hrel] at hcount
    refine ⟨_, exec_patrolScrub_memUe ha, ?_⟩
    dsimp only
    rw [fault_mem, hmem]
    exact ⟨hpois, hcells, hcount⟩
  · have hsel := touchSelects_selects s acc
    refine ⟨fun h => dictCommand_replied h plainSize_numericsClear ?_, fun h => dictCommand_replied h plainSize_numericsClear ?_,
      fun h => dictCommand_replied h plainSize_vecNumericsClear ?_, fun n h hn hfree => exec_sealedSaveSlotsWrite h hn hfree⟩ <;>
    · rw [← hsel]; rfl

end Sys2Proof.Machine
end

section
/-! PROOFS. Fetches and the rings of the units (O1). -/

namespace Sys2Proof.Machine

/-! ### Rings of the units (R87, R88, R146) -/

section
variable {s t : State} {u : UnitKind} {g : CoreId}

/-- The ring after a fetch of a descriptor: it holds a new entry, and its head and next sequence number have moved on. -/
def fetchedRing (r : UnitRing) (e : WinEntry) : UnitRing :=
  { r with head := r.head + 1, nextSeq := r.nextSeq + 1, window := r.window ++ [e] }

/-- The entry of a descriptor that is read at the head of a ring. -/
def fetchedEntry (u : UnitKind) (r : UnitRing) (d : Bytes) : WinEntry :=
  let ok := decide (dSeq d = r.nextSeq.toNat) && opListed u (dOpcode d)
  { seq := r.nextSeq, index := r.head, desc := d, phase := .fetched
    status := if ok then 0 else BitVec.ofNat 16 stBad
    flags := if ok then 0 else BitVec.ofNat 16 (flagWord stBad false false false d)
    opcode := if opListed u (dOpcode d) then BitVec.ofNat 8 (dOpcode d) else 0 }

theorem fetchedEntry_status (u : UnitKind) (r : UnitRing) (d : Bytes) :
    (fetchedEntry u r d).status = 0 ↔ dSeq d = r.nextSeq.toNat ∧ opListed u (dOpcode d) = true := by
  have hbad : BitVec.ofNat 16 stBad ≠ 0 := by decide
  simp only [fetchedEntry]
  split <;> simp_all

theorem fetch_ok {det : Detect} {d : Bytes} (hdet : inRun det = true) (hpar : ∀ p, det ≠ .parity p)
    (hstop : (s.unitOf u g).stopped = false) (hpres : s.present g = true) (hne : (s.unitOf u g).head ≠ (s.unitOf u g).tail)
    (hroom : ((s.unitOf u g).head - (s.unitOf u g).release).toNat < 2 ^ (s.unitOf u g).log2.toNat)
    (hread : readMem s s.mem 128 (localBase g + (s.unitOf u g).base.toNat +
      (s.unitOf u g).head.toNat % 2 ^ (s.unitOf u g).log2.toNat * 128) = .ok d) :
    fetch u g det s =
      noteNamed (s.setCore g ((s.core g).setUnit u (fetchedRing (s.unitOf u g) (fetchedEntry u (s.unitOf u g) d))))
        (unitActor u g (s.unitOf u g).nextSeq) d := by
  have hpre := preDetect_inRun (s := s) (a := unitActor u g (s.unitOf u g).nextSeq) hdet
  fun_cases fetch
  case case1 s1 r n hno =>
    simp only [s1, r, n, hpre, hstop, hpres, hne, ge_iff_le, Nat.not_le.2 hroom, Bool.or_false, Bool.not_true, decide_false,
      Bool.false_eq_true] at hno
  case case2 p _ _ _ _ _ => exact absurd rfl (hpar p)
  case case3 s1 r n _ a _ herr _ =>
    simp only [s1, r, n, a, hpre] at herr
    cases hread.symm.trans herr
  case case4 d' listed s1 r n _ a hok ok e _ =>
    simp only [s1, r, n, a, hpre] at hok
    cases hread.symm.trans hok
    simp only [e, ok, listed, s1, r, hpre, fetchedRing, fetchedEntry]

/-- Nothing is fetched by a stopped unit, from an empty ring, or while no completion slot is free. -/
theorem fetch_none (h : (s.unitOf u g).stopped = true ∨ (s.unitOf u g).head = (s.unitOf u g).tail ∨
    2 ^ (s.unitOf u g).log2.toNat ≤ ((s.unitOf u g).head - (s.unitOf u g).release).toNat) : fetch u g .clean s = s := by
  unfold fetch
  refine if_pos ?_
  simp only [preDetect, Bool.or_eq_true]
  rcases h with h | h | h
  · simp [h]
  · simp [h]
  · exact .inr (decide_eq_true h)

theorem noteNamed_frame (s : State) (a : Actor) (d : Bytes) : { noteNamed s a d with contexts := s.contexts } = s := by
  unfold noteNamed
  split <;> rfl

/-- An instruction of a core without a job belongs to no host descriptor. -/
theorem noteNamed_none {g : CoreId} (h : (s.core g).job = none) (u : UnitKind) (q : BitVec 64) (d : Bytes) :
    noteNamed s (unitActor u g q) d = s := by
  simp [noteNamed, unitActor, State.jobOf, h]

@[simp] theorem noteNamed_cores (s : State) (a : Actor) (d : Bytes) : (noteNamed s a d).cores = s.cores := by
  have h := congrArg State.cores (noteNamed_frame s a d); exact h

/-- The stores of descriptors change memory alone. -/
theorem storeDescs_eq (s : State) (u : UnitKind) (g : Nat) (i : BitVec 32) (ds : List Bytes) :
    storeDescs s u g i ds = { s with mem := (storeDescs s u g i ds).mem } := by
  induction ds generalizing s i with
  | nil => rfl
  | cons d ds ih => unfold storeDescs; exact ih ..

end

/-- Settles O1: a fetch by its equation; the stores of descriptors change memory alone. -/
theorem ringsFetchAndMove : Obligations.RingsFetchAndMove := by
  refine ⟨?_, fun s u g => ?_, fun s u g tail descs hpres => ?_, fun s u g n => ?_, fun s u g n => ?_⟩
  · intro s u g det d r hdet hpar hstop hpres hne hroom hread
    refine ⟨noteNamed _ _ _, congrArg Host.Outcome.next (fetch_ok hdet hpar hstop hpres hne hroom hread), ?_⟩
    have hc : (s.core g).setUnit u (fetchedRing (s.unitOf u g) (fetchedEntry u (s.unitOf u g) d)) ≠ {} :=
      Core.ne_default_of_window (u := u) (by simp [fetchedRing])
    generalize hs : s.setCore g _ = s1
    have hcore (h : Nat) : (noteNamed s1 (unitActor u g (s.unitOf u g).nextSeq) d).core h = s1.core h := by
      simp [State.core]
    have hring : (noteNamed s1 (unitActor u g (s.unitOf u g).nextSeq) d).unitOf u g =
        fetchedRing (s.unitOf u g) (fetchedEntry u (s.unitOf u g) d) := by
      rw [State.unitOf, hcore, ← hs, State.core_setCore hc, Core.unit_setUnit]
    dsimp only
    rw [hring]
    refine ⟨rfl, rfl, ⟨_, rfl, rfl, rfl, rfl, rfl, fetchedEntry_status ..⟩, ?_, fun hjob => ?_, fun h hh => ?_⟩
    · have hframe := congrArg (fun (t : State) => { t with cores := s.cores })
        (noteNamed_frame s1 (unitActor u g (s.unitOf u g).nextSeq) d)
      subst hs
      exact hframe
    · rw [noteNamed_none (by rw [← hs, State.core_setCore hc]; cases u <;> exact hjob), ← hs]
      rfl
    · rw [hcore, ← hs, State.core_setCore_other hc hh]
  · intro r h
    exact congrArg Host.Outcome.next (fetch_none h)
  · show Host.Outcome.next (if _ then _ else _) = _
    rw [hpres, storeDescs_eq]
    rfl
  · intro r hpres hle
    refine congrArg Host.Outcome.next (if_pos ?_)
    rw [hpres, Bool.and_true]
    exact decide_eq_true hle
  · intro r hlt
    refine congrArg Host.Outcome.next (if_neg ?_)
    rw [Bool.and_eq_true, decide_eq_true_eq]
    exact fun h => Nat.not_le.2 hlt h.1

end Sys2Proof.Machine
end

section
/-! PROOFS. Refusals and the retirement of an instruction (O4). -/

namespace Sys2Proof.Machine

/-! ### Refusal (R105) -/

section
variable {s t : State} {u : UnitKind} {g : CoreId} {q : BitVec 64} {e : WinEntry}

/-- The two cores differ in neither their skein nor their rings. -/
def SameRings (c c' : Core) : Prop := c'.skein = c.skein ∧ ∀ v, c'.unit v = c.unit v

theorem sameRings_foldl {α : Type} {l : List α} {f : Core → α → Core} (hf : ∀ c x, SameRings c (f c x)) (c : Core) :
    SameRings c (l.foldl f c) := by
  induction l generalizing c with
  | nil => exact ⟨rfl, fun _ => rfl⟩
  | cons x l ih =>
    obtain ⟨h1, h2⟩ := hf c x
    obtain ⟨h3, h4⟩ := ih (f c x)
    exact ⟨h3.trans h1, fun v => (h4 v).trans (h2 v)⟩

/-- A refusal clears named tags; skein and rings stay. -/
theorem sameRings_refuseTags (u : UnitKind) (c : Core) (d : Bytes) : SameRings c (refuseTags u c d) := by
  cases u with
  | engine =>
    show SameRings c ((namedRows d).foldl (fun c r => c.setTag r (tagOff (c.tag r))) c)
    exact sameRings_foldl (fun _ _ => by exact ⟨rfl, fun v => by cases v <;> rfl⟩) c
  | vector =>
    show SameRings c ((List.range (namedRegs d).2).foldl (fun c i => if (namedRegs d).1 + i < 256 then
      { c with redTags := smMod 0#32 c.redTags ((namedRegs d).1 + i) tagOff } else c) c)
    refine sameRings_foldl (fun c i => ?_) c
    split
    · exact ⟨rfl, fun v => by cases v <;> rfl⟩
    · exact ⟨rfl, fun _ => rfl⟩
  | dma => exact ⟨rfl, fun _ => rfl⟩

/-- A change of one entry of a window leaves the skein and all but the cores. -/
theorem modEntry_found {f : WinEntry → WinEntry} (hf : findEntry (s.unitOf u g).window q = some e) (hseq : ∀ x, (f x).seq = x.seq) :
    ((s.modEntry u g q f).core g).skein = (s.core g).skein ∧ findEntry ((s.modEntry u g q f).unitOf u g).window q = some (f e) := by
  have hfound : findEntry (mapWhere (fun x => decide (x.seq = q)) f (s.unitOf u g).window) q = some (f e) :=
    findEntry_mapWhere hf hseq
  have hc : (s.core g).setUnit u { s.unitOf u g with window := mapWhere (fun x => decide (x.seq = q)) f (s.unitOf u g).window } ≠ {} := by
    refine Core.ne_default_of_window (u := u) ?_
    rw [Core.unit_setUnit]
    exact List.ne_nil_of_mem (findEntry_mem hfound)
  have hcore : (s.modEntry u g q f).core g = _ := State.core_setCore hc
  rw [State.unitOf, hcore, Core.unit_setUnit]
  exact ⟨by simp, hfound⟩

/-- A refused instruction that holds no reservation gets its status; memory, addends and the skein stay. -/
theorem refuse_unreserved (hf : findEntry (s.unitOf u g).window q = some e) (hres : e.reserved = false) (st : Nat) :
    ((refuse s u g e st).core g).skein = (s.core g).skein ∧
    (∃ e', findEntry ((refuse s u g e st).unitOf u g).window q = some e' ∧ e'.status = BitVec.ofNat 16 st ∧ e'.desc = e.desc) ∧
    { refuse s u g e st with cores := s.cores } = s := by
  obtain rfl := findEntry_seq hf
  have hret : returnReservation s u g e = s := by simp [returnReservation, hres]
  unfold refuse
  rw [hret]
  dsimp only
  split
  · exact ⟨(modEntry_found hf (fun _ => by exact rfl)).1, ⟨_, (modEntry_found hf (fun _ => by exact rfl)).2, rfl, rfl⟩, rfl⟩
  · obtain ⟨hk, hunit⟩ := sameRings_refuseTags u (s.core g) e.desc
    have hc : (s.setCore g (refuseTags u (s.core g) e.desc)).core g = refuseTags u (s.core g) e.desc := by
      refine State.core_setCore (Core.ne_default_of_window (u := u) ?_)
      rw [hunit]
      exact List.ne_nil_of_mem (findEntry_mem hf)
    have hf' : findEntry ((s.setCore g (refuseTags u (s.core g) e.desc)).unitOf u g).window e.seq = some e := by
      rw [State.unitOf, hc, hunit]; exact hf
    refine ⟨(modEntry_found hf' (fun _ => by exact rfl)).1.trans ?_, ⟨_, (modEntry_found hf' (fun _ => by exact rfl)).2, rfl, rfl⟩, rfl⟩
    rw [hc, hk]

/-! ### Retirement (R107, R109) -/

/-- Only the core `g` of `s` has changed, whose ring of `u` is now `r`; it has no job and no work, and its skein is as it was. -/
structure RetiringAt (s t : State) (u : UnitKind) (g : Nat) (r : UnitRing) : Prop where
  wf : smWf {} t.cores = true
  frame : { t with cores := s.cores } = s
  ring : t.unitOf u g = r
  job : (t.core g).job = none
  work : (t.core g).work = []
  skein : (t.core g).skein = (s.core g).skein

variable {r r' : UnitRing}

theorem RetiringAt.setCore (h : RetiringAt s t u g r) {c : Core} (hr : c.unit u = r') (hj : c.job = (t.core g).job)
    (hw : c.work = (t.core g).work) (hk : c.skein = (t.core g).skein) : RetiringAt s (t.setCore g c) u g r' := by
  have hc : (t.setCore g c).core g = c := by rw [State.core_setCore_wf h.wf, if_pos rfl]
  exact ⟨smWf_smSet h.wf .., h.frame, by rw [State.unitOf, hc, hr], by rw [hc, hj, h.job], by rw [hc, hw, h.work],
    by rw [hc, hk, h.skein]⟩

theorem RetiringAt.reportNumeric (h : RetiringAt s t u g r) (he : e.event = none) : RetiringAt s (reportNumeric t u g e) u g r := by
  unfold Machine.reportNumeric
  split
  · exact h
  · simp only [he]
    exact h.setCore (by rw [← h.ring]; rfl) rfl rfl rfl
  · simp only [he]
    exact h.setCore (by rw [← h.ring]; rfl) rfl rfl rfl

theorem RetiringAt.power (h : RetiringAt s t u g r) : t.power = s.power := by have h := congrArg State.power h.frame; exact h

theorem RetiringAt.noteDip (h : RetiringAt s t u g r) (hdip : s.dipOpen g = false) : RetiringAt s (noteDip t u g e) u g r := by
  have hdip' : t.dipOpen g = false := by rw [State.dipOpen, h.power]; exact hdip
  simp only [Machine.noteDip, enterDip, inDip, hdip', Bool.false_and, Bool.false_eq_true, if_false]
  unfold noteTile
  dsimp only
  split
  · exact h.setCore (by rw [← h.ring]; cases u <;> rfl) rfl rfl rfl
  · exact h

/-- The ring whose window held one entry alone, once that is retired. -/
def retiredRing (r : UnitRing) (e : WinEntry) : UnitRing := { r with window := [], compHead := e.index + 1, retired := e.seq + 1 }

/-- Where the completion record of an entry is written (R109). -/
def recordSlot (g : Nat) (r : UnitRing) (e : WinEntry) : Nat := localBase g + r.cbase.toNat + e.index.toNat % 2 ^ r.log2.toNat * 32

def State.putAt (s : State) (a : Nat) (b : Bytes) : State := { s with mem := s.mem.putBytes a b }

/-- The one entry of a window is retired: its record is written at its slot and the window is empty. -/
theorem RetiringAt.writeRecords (h : RetiringAt s t u g r) (hw : r.window = [e]) (hp : e.phase = .retired) (hst : e.status = 0)
    (hirq : dIrq e.desc = false) (n : Nat) :
    writeRecords u g (n + 2) t =
      (t.putAt (recordSlot g r e) (completionRecord g e)).setCore g ((t.core g).setUnit u (retiredRing r e)) := by
  generalize ht1 : (t.putAt (recordSlot g r e) (completionRecord g e)).setCore g ((t.core g).setUnit u (retiredRing r e)) = t1
  have hcore : t1.core g = (t.core g).setUnit u (retiredRing r e) := by
    rw [← ht1]
    exact (State.core_setCore_wf (s := t.putAt _ _) h.wf g g _).trans (if_pos rfl)
  have hjob : t1.jobOf (unitActor u g e.seq) = none := by
    have : (t1.core g).job = none := by rw [hcore]; cases u <;> exact h.job
    simp [State.jobOf, unitActor, this]
  have hwork : issueNext t1 g = t1 := by
    have : (t1.core g).work = [] := by rw [hcore]; cases u <;> exact h.work
    simp [issueNext, this]
  have hrest : Machine.writeRecords u g (n + 1) t1 = t1 := by
    have : (t1.unitOf u g).window = [] := by rw [State.unitOf, hcore, Core.unit_setUnit, retiredRing]
    simp [Machine.writeRecords, this]
  have hblame : t1.blame (unitActor u g e.seq) 0 = t1 := by simp [State.blame, hjob]
  have hmem (m : Memory) : State.core { t with mem := m } g = t.core g := rfl
  rw [Machine.writeRecords]
  simp only [hmem, h.ring, hw, hp, ne_eq, not_true_eq_false, if_false, hirq, Bool.false_eq_true]
  simp only [State.putAt, recordSlot, retiredRing] at ht1
  rw [ht1]
  simp only [hblame, hjob, hst, show ¬(2 ≤ (0 : BitVec 16).toNat) by decide, if_false, hwork, hrest]

theorem RetiringAt.modEntry (h : RetiringAt s t u g r) (hw : r.window = [e]) (f : WinEntry → WinEntry) :
    RetiringAt s (t.modEntry u g e.seq f) u g { r with window := [f e] } := by
  have hr := h.ring
  unfold State.modEntry
  refine h.setCore ?_ (by cases u <;> rfl) (by cases u <;> rfl) (by simp)
  rw [Core.unit_setUnit]
  rw [State.unitOf] at hr
  simp [hr, hw, mapWhere]

/-- An executed instruction retires with its record, if no dip is open and it signals nothing. -/
theorem retire_executed (hpres : s.present g = true) (hw : (s.unitOf u g).window = [e])
    (hph : e.phase = .executed) (hst : e.status = 0) (heff : effectsDone s u g e = true) (hsig : dSigEn e.desc = false)
    (hdip : s.dipOpen g = false) :
    ∃ f e1, retire u g e.seq s = writeRecords u g 2 (noteDip (reportNumeric (s.modEntry u g e.seq f) u g e1) u g e1) ∧
      f e = { e with phase := .retired, retireTime := s.clkc } ∧ e1.event = e.event := by
  have hfind : findEntry [e] e.seq = some e := by simp [findEntry]
  refine ⟨?_, ?_, ?_, ?_, ?_⟩
  rotate_left 2
  · unfold retire
    simp only [hw, hfind, hpres]
    simp [inDip, hdip, signalLost, hsig, produceSignal, hph, hst, heff, stDone, stEmpty, stCancelled, countsRefused]
    rfl
  · simp [hst]
  · rfl

theorem completionRecord_length (g : Nat) (e : WinEntry) : (completionRecord g e).length = 32 := by
  simp [completionRecord]

end

/-- Settles O4: a refusal runs no part of the body; the one entry of a window retires with its record. -/
theorem refusalAndRetirement : Obligations.RefusalAndRetirement := by
  constructor
  · intro s g seq det e st hd hf hph hst hop hstop hpres horder hcheck hres
    obtain ⟨hskein, hentry, hframe⟩ := refuse_unreserved (g := g) hf hres st
    have hexec : exec (.tzro g seq det) s = .next (refuse s .engine g e st) := by
      refine congrArg Host.Outcome.next ?_
      unfold engineOp unitOp
      simp only [hf, hop, hstop, hpres, hst, hph, horder, preDetect_inRun hd, hcheck]
      simp
    have hmem := congrArg State.mem hframe
    have hadd := congrArg State.addends hframe
    exact ⟨_, hexec, hmem, hadd, hskein, hentry, hframe⟩
  · intro s u g seq e r hwf hpres hw hseq hph hst heff hsig hirq hdip hev hjob hwork a
    subst hseq
    obtain ⟨f, e1, hret, hfe, he1⟩ := retire_executed hpres hw hph hst heff hsig hdip
    obtain ⟨hmemwf, hcores, -⟩ := State.wf_iff.1 hwf
    have h0 : RetiringAt s s u g r := ⟨hcores.1, rfl, rfl, hjob, hwork, rfl⟩
    have h1 := ((h0.modEntry hw f).reportNumeric (e := e1) (he1.trans hev)).noteDip (e := e1) hdip
    generalize noteDip _ u g e1 = t at h1 hret
    have hrec := h1.writeRecords (e := f e) (n := 0) rfl (by rw [hfe]) (by rw [hfe]; exact hst) (by rw [hfe]; exact hirq)
    have hmem : t.mem = s.mem := by have h := congrArg State.mem h1.frame; exact h
    refine ⟨_, congrArg Host.Outcome.next (hret.trans hrec), ?_⟩
    have hcore (c : Core) : ((t.putAt a (completionRecord g (f e))).setCore g c).core g = c :=
      (State.core_setCore_wf (s := t.putAt _ _) h1.wf g g c).trans (if_pos rfl)
    have ha : recordSlot g { r with window := [f e] } (f e) = a := by rw [hfe]; rfl
    rw [ha]
    dsimp only
    rw [State.unitOf, hcore, Core.unit_setUnit]
    refine ⟨rfl, by rw [hfe]; rfl, by rw [hfe]; rfl, ?_, fun p hp => ?_, ?_, ?_⟩
    · rw [← hfe, ← hmem]; rfl
    · show (t.mem.putBytes a _).byte p = _
      rw [hmem]
      exact Memory.byte_putBytes_outside hmemwf _ _ (by rwa [completionRecord_length])
    · rw [Core.setUnit_skein]; exact h1.skein
    · have h := congrArg (fun (x : State) => { x with mem := s.mem }) h1.frame; exact h

end Sys2Proof.Machine
end

section
/-! PROOFS. Slices of bytes; addends, header merges (O8), saved elements and sums (O10). -/

namespace Sys2Proof.Machine

/-! ### Slices of bytes -/

section
variable {bs src : Bytes} {off o n i : Nat}

theorem overlay_getElem? (h : off + src.length ≤ bs.length) (i : Nat) :
    (overlay bs off src)[i]? = if off ≤ i ∧ i < off + src.length then src[i - off]? else bs[i]? := by
  unfold overlay
  rw [List.getElem?_take, List.append_assoc, List.getElem?_append, List.getElem?_append, List.length_take,
    Nat.min_eq_left (by omega), List.getElem?_drop, List.getElem?_take]
  by_cases h1 : i < off
  · rw [if_pos (by omega), if_pos h1, if_pos h1, if_neg (by omega)]
  · by_cases h2 : i - off < src.length
    · rw [if_pos (by omega), if_neg h1, if_pos h2, if_pos (by omega)]
    · rw [if_neg h1, if_neg h2, if_neg (c := _ ∧ _) (by omega), show off + src.length + (i - off - src.length) = i by omega]
      split
      · rfl
      · rw [List.getElem?_eq_none (by omega)]

theorem overlay_length (h : off + src.length ≤ bs.length) : (overlay bs off src).length = bs.length := by
  simp only [overlay, List.length_take, List.length_append, List.length_drop]
  omega

theorem byteAt_overlay (h : off + src.length ≤ bs.length) (i : Nat) :
    byteAt (overlay bs off src) i = if off ≤ i ∧ i < off + src.length then byteAt src (i - off) else byteAt bs i := by
  simp only [byteAt, List.getD_eq_getElem?_getD, overlay_getElem? h]
  split <;> rfl

/-- Bytes laid over a string are read back. -/
theorem leAt_overlay_same (h : off + src.length ≤ bs.length) (hn : src.length = n) : leAt (overlay bs off src) off n = leNat src := by
  refine congrArg leNat (List.ext_getElem? fun i => ?_)
  rw [List.getElem?_take, List.getElem?_drop, overlay_getElem? h]
  by_cases hi : i < n
  · rw [if_pos hi, if_pos (by omega), Nat.add_sub_cancel_left]
  · rw [if_neg hi, List.getElem?_eq_none (by omega)]

/-- Bytes laid over a string leave its other parts. -/
theorem leAt_overlay_other (h : off + src.length ≤ bs.length) (ho : o + n ≤ off ∨ off + src.length ≤ o) :
    leAt (overlay bs off src) o n = leAt bs o n := by
  refine congrArg leNat (List.ext_getElem? fun i => ?_)
  rw [List.getElem?_take, List.getElem?_drop, List.getElem?_take, List.getElem?_drop, overlay_getElem? h]
  split
  · rw [if_neg (by omega)]
  · rfl

end

/-! ### Header merges (R154) -/

section
variable {h : Bytes} {tag : Option Int} {pres : Nat}

/-- The byte of presence bits after a merge: the check is clear, and the presence bits are joined. -/
def mergedPresence (h : Bytes) (pres : Nat) : Nat := Nat.lor (byteAt h 3 % 128) pres % 128

theorem mergeHeaderBytes_eq (h : Bytes) (tag : Option Int) (pres : Nat) : mergeHeaderBytes h tag pres =
    overlay (overlay (overlay h 3 (leBytes 1 (mergedPresence h pres))) 4 (leBytes 2 (tagBits (maxTag (hdrTag h) tag)))) 56
      (leBytes 8 0) := rfl

theorem mergeHeaderBytes_length (hl : h.length = 64) : (mergeHeaderBytes h tag pres).length = 64 := by
  rw [mergeHeaderBytes_eq, overlay_length, overlay_length, overlay_length, hl] <;> simp [overlay_length, hl]

theorem mergedPresence_lt (h : Bytes) (pres : Nat) : mergedPresence h pres < 128 := Nat.mod_lt _ (by decide)

theorem byteAt_mergeHeaderBytes (hl : h.length = 64) : byteAt (mergeHeaderBytes h tag pres) 3 = mergedPresence h pres := by
  have hb := mergedPresence_lt h pres
  rw [mergeHeaderBytes_eq, byteAt_overlay, byteAt_overlay, byteAt_overlay] <;> simp [overlay_length, hl]
  simp [byteAt, leBytes]
  omega

theorem hdrTagBits_mergeHeaderBytes (hl : h.length = 64) :
    hdrTagBits (mergeHeaderBytes h tag pres) = tagBits (maxTag (hdrTag h) tag) % 65536 := by
  rw [mergeHeaderBytes_eq, hdrTagBits, leAt_overlay_other, leAt_overlay_same, leNat_leBytes] <;> simp [overlay_length, hl]

/-- A merge joins the presence bits. -/
theorem hdrPresence_mergeHeaderBytes (hl : h.length = 64) (hp : pres < 8) :
    hdrPresence (mergeHeaderBytes h tag pres) = Nat.lor (hdrPresence h) pres := by
  have hlow : pres % 2 ^ 3 = pres := Nat.mod_eq_of_lt hp
  have hor : (byteAt h 3 % 128 ||| pres) % 2 ^ 3 = byteAt h 3 % 128 % 2 ^ 3 ||| pres % 2 ^ 3 := Nat.or_mod_two_pow
  rw [hdrPresence, byteAt_mergeHeaderBytes hl, mergedPresence, Nat.mod_mod_of_dvd _ (by decide)]
  show (byteAt h 3 % 128 ||| pres) % 2 ^ 3 = hdrPresence h ||| pres
  rw [hor, hlow, Nat.mod_mod_of_dvd _ (by decide)]
  rfl

theorem hdrCheckValid_mergeHeaderBytes (hl : h.length = 64) : hdrCheckValid (mergeHeaderBytes h tag pres) = false := by
  have hb := mergedPresence_lt h pres
  rw [hdrCheckValid, byteAt_mergeHeaderBytes hl, bitAt, Nat.div_eq_of_lt (by exact hb)]
  rfl

theorem leAt_mergeHeaderBytes_check (hl : h.length = 64) : leAt (mergeHeaderBytes h tag pres) 56 8 = 0 := by
  rw [mergeHeaderBytes_eq, leAt_overlay_same, leNat_leBytes] <;> simp [overlay_length, hl]

end

/-! ### Accesses depend on the address map alone (R148, R440) -/

section
variable {s t : State}

/-- The two states translate addresses alike and have the same memory dark. -/
def SameMap (s t : State) : Prop := t.translate = s.translate ∧ t.dark = s.dark

theorem readMem_sameMap (h : SameMap s t) (m : Memory) (n a : Nat) : readMem t m n a = readMem s m n a := by
  obtain ⟨htr, hdark⟩ := h
  induction n generalizing a with
  | zero => rfl
  | succ n ih => simp only [readMem, htr, hdark, ih]

theorem writeBlocks_sameMap (h : SameMap s t) (cl : Option Nat) (n : Nat) (m : Memory) (a : Nat) (bs : Bytes) :
    writeBlocks t cl n m a bs = writeBlocks s cl n m a bs := by
  obtain ⟨htr, hdark⟩ := h
  induction n generalizing m a bs with
  | zero => rfl
  | succ n ih => simp only [writeBlocks, writeBlock, htr, hdark, ih]

theorem writeMem_sameMap (h : SameMap s t) (m : Memory) (cl : Option Nat) (a : Nat) (bs : Bytes) :
    writeMem t m cl a bs = writeMem s m cl a bs := writeBlocks_sameMap h ..

end

/-! ### Atomic addends (R78) -/

/-- An addend that passes its checks is combined exactly and written whole. -/
theorem applyElement_clean {s : State} {a p : Nat} {elem old : Bytes} {st ad : Term} {m : Memory}
    (hread : readMem s s.mem (24 * p) a = .ok old) (hst : loadElement p old = (st, none)) (had : loadElement p elem = (ad, none))
    (hw : writeMem s s.mem none a (termBytes p (addTerm (some (plyWidth p)) st ad)) = (m, none)) :
    (applyElement s .clean a p elem).note = none ∧ (applyElement s .clean a p elem).state.mem = m ∧
    { (applyElement s .clean a p elem).state with mem := s.mem, rel := s.rel } = s := by
  unfold applyElement
  simp only [hread, hst, had, Option.isNone_none, combineElement, Bool.and_self, if_true, Bool.false_eq_true, if_false, hw, and_self]

/-- Settles O8: an addend applied without detection, and the header merge with the bytes it writes. -/
theorem addendsAndHeadersAreCombined : Obligations.AddendsAndHeadersAreCombined := by
  refine ⟨fun s i a old st ad m ha hread hst had hw => ?_, ?_, ?_, fun s a tag pres ha => congrArg Host.Outcome.next (if_pos ha)⟩
  · have hmap : SameMap s { s with addends := s.addends.eraseIdx i } := ⟨rfl, rfl⟩
    obtain ⟨hnote, hmem, hframe⟩ := applyElement_clean (s := { s with addends := s.addends.eraseIdx i })
      ((readMem_sameMap hmap ..).trans hread) hst had ((writeMem_sameMap hmap ..).trans hw)
    refine ⟨_, congrArg Host.Outcome.next (?_ : _ = (applyElement { s with addends := s.addends.eraseIdx i } .clean a.target a.ply
      a.elem).state), hmem, ?_, ?_⟩
    · simp only [ha, preDetect, hnote]
    · have h := congrArg State.addends hframe; exact h
    · have h := congrArg (fun (t : State) => { t with addends := s.addends }) hframe; exact h
  · intro s a tag pres h m t16 ha hread hw
    refine congrArg Host.Outcome.next ((if_neg (not_not.2 ha)).trans ?_)
    have hm : mergeHeader s s.mem a.toNat t16 pres.toNat = (m, none) := by rw [mergeHeader, hread]; exact hw
    rw [hm]
  · intro h tag pres hl hp
    exact ⟨mergeHeaderBytes_length hl, hdrPresence_mergeHeaderBytes hl hp, hdrTagBits_mergeHeaderBytes hl,
      hdrCheckValid_mergeHeaderBytes hl, leAt_mergeHeaderBytes_check hl⟩

/-! ### Saved elements of the skein (R62, R75) -/

section
variable {p : Nat} {t : Term}

theorem slotBytes_length (j : Nat) (e : Entry) : (slotBytes j e).length = 24 := by simp [slotBytes]

/-- Part `j` of parts of one length laid end to end. -/
theorem take_drop_flatMap_range {α : Type} {f : Nat → List α} {k n j : Nat} (hf : ∀ i, (f i).length = k) (hj : j < n) :
    (((List.range n).flatMap f).drop (k * j)).take k = f j := by
  have hlen (m : Nat) : ((List.range m).flatMap f).length = k * m := by
    simp [List.length_flatMap, hf, Nat.mul_comm]
  obtain ⟨m, rfl⟩ : ∃ m, n = j + (1 + m) := ⟨n - j - 1, by omega⟩
  rw [List.range_add, List.flatMap_append, List.drop_left' (hlen j), List.range_add, List.map_append, List.flatMap_append]
  simpa using List.take_left' (hf j)

theorem elementBytes_length (es : List Entry) : (elementBytes es).length = 24 * es.length := by
  simp [elementBytes, List.length_flatMap, slotBytes_length, Nat.mul_comm]

theorem elementBytes_slot {es : List Entry} {j : Nat} (hj : j < es.length) :
    ((elementBytes es).drop (24 * j)).take 24 = slotBytes j (es.getD j {}) :=
  take_drop_flatMap_range (fun i => slotBytes_length i _) hj

theorem leAt_slotBytes (j : Nat) (e : Entry) : leAt (slotBytes j e) 0 16 = e.value.toNat := by
  rw [slotBytes, List.append_assoc, leAt, List.drop_zero, List.take_left' (leBytes_length ..)]
  exact leNat_leBytes_of_lt e.value.isLt

theorem byteAt_slotBytes (j : Nat) (e : Entry) :
    byteAt (slotBytes j e) 16 = (if j = 0 then stateByte e else 0) % 256 ∧
    byteAt (slotBytes j e) 17 = ((if j = 0 then stateByte e else 0) / 256 + residue e.value.toNat) % 256 := by
  simp [byteAt, slotBytes, leBytes, List.getD_eq_getElem?_getD]
  rw [Nat.add_mul_div_left _ _ (by decide)]

theorem stateByte_lt (e : Entry) : stateByte e < 256 := by
  have h1 := e.cls.isLt
  have h2 := e.cause.isLt
  have h3 (b : Bool) : boolNat b ≤ 1 := by cases b <;> decide
  have h4 := h3 e.trunc
  have h5 := h3 e.ovf
  unfold stateByte
  omega

/-- A slot that carries its residue passes the comparison. -/
theorem slotOk_slotBytes (j : Nat) (e : Entry) : slotOk (slotBytes j e) = true := by
  have hb := stateByte_lt e
  have hr : residue e.value.toNat < 127 := Nat.mod_lt _ (by decide)
  have hdiv : (if j = 0 then stateByte e else 0) / 256 = 0 := by split <;> omega
  rw [slotOk, leAt_slotBytes, (byteAt_slotBytes j e).2, hdiv, beq_iff_eq]
  omega

/-- The state byte of an entry gives its fields back. -/
theorem stateByte_fields (e : Entry) : stateByte e / 64 = e.cls.toNat ∧ stateByte e / 4 % 16 = e.cause.toNat ∧
    bitAt (stateByte e) 1 = e.trunc ∧ bitAt (stateByte e) 0 = e.ovf := by
  have h1 := e.cls.isLt
  have h2 := e.cause.isLt
  unfold stateByte bitAt
  have hbool (b : Bool) : boolNat b ≤ 1 ∧ (boolNat b == 1) = b := by cases b <;> decide
  obtain ⟨ht, htrunc⟩ := hbool e.trunc
  obtain ⟨ho, hovf⟩ := hbool e.ovf
  generalize boolNat e.trunc = bt at *
  generalize boolNat e.ovf = bo at *
  refine ⟨by omega, by omega, ?_, ?_⟩
  · rw [show (e.cls.toNat * 64 + e.cause.toNat * 4 + bt * 2 + bo) / 2 ^ 1 % 2 = bt by omega, htrunc]
  · rw [show (e.cls.toNat * 64 + e.cause.toNat * 4 + bt * 2 + bo) / 2 ^ 0 % 2 = bo by omega, hovf]

/-- The first slot gives its entry back, if the state is one that is defined; a later slot gives its value back. -/
theorem slotEntry_slotBytes {j : Nat} {e : Entry} (h0 : j = 0 → stateByteOk (stateByte e) = true)
    (hj : j ≠ 0 → e = { value := e.value }) : slotEntry j (slotBytes j e) = e := by
  have hb := stateByte_lt e
  have hlow : byteAt (slotBytes 0 e) 16 = stateByte e := by
    rw [(byteAt_slotBytes 0 e).1, if_pos rfl, Nat.mod_eq_of_lt hb]
  obtain ⟨hcls, hcause, htrunc, hovf⟩ := stateByte_fields e
  unfold slotEntry
  rw [leAt_slotBytes]
  by_cases h : j = 0
  · subst h
    have hcause' : BitVec.ofNat 4 (stateByte e / 4) = e.cause := by
      apply BitVec.eq_of_toNat_eq; rw [BitVec.toNat_ofNat]; exact hcause
    simp [hlow, h0 rfl, hcls, htrunc, hovf, hcause']
  · rw [if_pos h, hj h]
    simp

theorem stateByteOk_congr {a b : Nat} (h1 : a / 64 = b / 64) (h2 : a / 4 % 16 = b / 4 % 16) : stateByteOk a = stateByteOk b := by
  simp only [stateByteOk, h1, h2]

/-- The values of a chain of entries, each 128 bits of one number, make that number up. -/
theorem chainNat_map_range {f : Nat → Entry} {v : Nat} (hf : ∀ j, (f j).value = BitVec.ofNat 128 (v / 2 ^ (128 * j))) (n : Nat) :
    chainNat ((List.range n).map f) = v % 2 ^ (128 * n) := by
  induction n generalizing f v with
  | zero => simp [chainNat, Nat.mod_one]
  | succ n ih =>
    have hrest : chainNat ((List.range n).map (f ∘ Nat.succ)) = v / 2 ^ 128 % 2 ^ (128 * n) :=
      ih fun j => by rw [Function.comp_apply, hf, Nat.div_div_eq_div_mul, ← Nat.pow_add, Nat.mul_succ, Nat.add_comm]
    have h0 : (f 0).value.toNat = v % 2 ^ 128 := by rw [hf, BitVec.toNat_ofNat]; simp
    rw [List.range_succ_eq_map, List.map_cons, List.map_map, chainNat, hrest, h0, show 128 * (n + 1) = 128 + 128 * n by omega,
      Nat.pow_add, Nat.mod_mul]

theorem ofSigned_lt (w : Nat) (v : Int) : ofSigned w v < 2 ^ w := by
  have h : (0 : Int) < ((2 ^ w : Nat) : Int) := by exact_mod_cast Nat.two_pow_pos w
  have := Int.emod_lt_of_pos v h
  have := Int.emod_nonneg v h.ne'
  unfold ofSigned
  omega

/-- A value in the window of a width is what its bits are read as. -/
theorem toSigned_ofSigned {w : Nat} (hw : 0 < w) {v : Int} (h : inWindow w v = true) : toSigned w (ofSigned w v) = v := by
  obtain ⟨k, rfl⟩ : ∃ k, w = k + 1 := ⟨w - 1, by omega⟩
  simp only [inWindow, Nat.add_sub_cancel, Bool.and_eq_true, decide_eq_true_eq] at h
  have hmod : ofSigned (k + 1) v % 2 ^ (k + 1) = ofSigned (k + 1) v := Nat.mod_eq_of_lt (ofSigned_lt ..)
  have hpow : (2 ^ (k + 1) : Nat) = 2 * 2 ^ k := by rw [Nat.pow_succ, Nat.mul_comm]
  have hval : (ofSigned (k + 1) v : Int) = if v < 0 then v + (2 ^ (k + 1) : Nat) else v := by
    unfold ofSigned
    split
    · rw [← Int.add_emod_right, Int.emod_eq_of_lt] <;> omega
    · rw [Int.emod_eq_of_lt] <;> omega
  simp only [toSigned, hmod, Nat.add_sub_cancel, hval]
  generalize 2 ^ k = m at *
  split at hval <;> split <;> omega

/-- Slot `j` of a term's saved element. -/
def termSlot (p : Nat) (t : Term) (j : Nat) : Entry :=
  let v := if t.cls = 0 then ofSigned (128 * p) t.v else 0
  if j = 0 then
    { value := BitVec.ofNat 128 v, cls := BitVec.ofNat 2 t.cls, cause := BitVec.ofNat 4 t.cause, trunc := t.trunc, ovf := t.ovf }
  else { value := BitVec.ofNat 128 (v / 2 ^ (128 * j)) }

theorem packTerm_eq (p : Nat) (t : Term) : packTerm p t = (List.range p).map (termSlot p t) := rfl

theorem termBytes_length (p : Nat) (t : Term) : (termBytes p t).length = 24 * p := by
  simp [termBytes, elementBytes_length, packTerm_eq]

theorem termBytes_slot {j : Nat} (hj : j < p) : ((termBytes p t).drop (24 * j)).take 24 = slotBytes j (termSlot p t j) := by
  rw [termBytes, elementBytes_slot (by simpa [packTerm_eq] using hj)]
  simp [packTerm_eq, List.getD_eq_getElem?_getD, hj]

theorem chainNat_packTerm (p : Nat) (t : Term) : chainNat (packTerm p t) = if t.cls = 0 then ofSigned (128 * p) t.v else 0 := by
  have hf (j : Nat) : (termSlot p t j).value = BitVec.ofNat 128 ((if t.cls = 0 then ofSigned (128 * p) t.v else 0) / 2 ^ (128 * j)) := by
    unfold termSlot
    by_cases h : j = 0
    · simp [h]
    · simp [h]
  rw [packTerm_eq, chainNat_map_range hf]
  refine Nat.mod_eq_of_lt ?_
  split
  · exact ofSigned_lt ..
  · exact Nat.two_pow_pos _

/-- The slots of a term make up the term again. -/
theorem unpackTerm_packTerm (hp : 0 < p) (hcls : t.cls < 4) (hcause : t.cause < 16)
    (hv : if t.cls = 0 then inWindow (128 * p) t.v = true else t.v = 0) : unpackTerm (packTerm p t) = t := by
  obtain ⟨n, rfl⟩ : ∃ n, p = n + 1 := ⟨p - 1, by omega⟩
  obtain ⟨es, hes⟩ : ∃ es, packTerm (n + 1) t = termSlot (n + 1) t 0 :: es := ⟨_, by rw [packTerm_eq, List.range_succ_eq_map]; rfl⟩
  have hlen : (packTerm (n + 1) t).length = n + 1 := by simp [packTerm_eq]
  have hchain := chainNat_packTerm (n + 1) t
  rw [hes] at hlen hchain ⊢
  have hcls' : (BitVec.ofNat 2 t.cls).toNat = t.cls := by rw [BitVec.toNat_ofNat]; omega
  have hcause' : (BitVec.ofNat 4 t.cause).toNat = t.cause := by rw [BitVec.toNat_ofNat]; omega
  have hzero : BitVec.ofNat 2 t.cls = 0 ↔ t.cls = 0 := by rw [← BitVec.toNat_inj, hcls']; rfl
  have hval : (if t.cls = 0 then toSigned (128 * (n + 1)) (if t.cls = 0 then ofSigned (128 * (n + 1)) t.v else 0) else 0) = t.v := by
    by_cases h : t.cls = 0
    · simp only [h, if_true] at hv ⊢
      exact toSigned_ofSigned (by omega) hv
    · simp only [h, if_false] at hv ⊢
      exact hv.symm
  simp only [unpackTerm, hlen, hchain]
  simp only [termSlot, if_true, hzero, hcls', hcause', hval]

/-- A saved element passes every comparison and is read back as its term. -/
theorem loadElement_termBytes (hp : 0 < p) (hcls : t.cls < 4) (hcause : t.cause < 16)
    (hok : stateByteOk (t.cls * 64 + t.cause * 4) = true)
    (hv : if t.cls = 0 then inWindow (128 * p) t.v = true else t.v = 0) : loadElement p (termBytes p t) = (t, none) := by
  have hslots : (List.range p).find? (fun j => !slotOk (((termBytes p t).drop (24 * j)).take 24)) = none := by
    refine List.find?_eq_none.2 fun j hj => ?_
    rw [termBytes_slot (List.mem_range.1 hj), slotOk_slotBytes]
    decide
  have hstate : stateByteOk (stateByte (termSlot p t 0)) = true := by
    obtain ⟨h1, h2, -, -⟩ := stateByte_fields (termSlot p t 0)
    refine (stateByteOk_congr ?_ ?_).trans hok
    · rw [h1]; simp only [termSlot, if_true, BitVec.toNat_ofNat]; omega
    · rw [h2]; simp only [termSlot, if_true, BitVec.toNat_ofNat]; omega
  have hentries : (List.range p).map (fun j => slotEntry j (((termBytes p t).drop (24 * j)).take 24)) = packTerm p t := by
    refine List.map_congr_left fun j hj => ?_
    rw [termBytes_slot (List.mem_range.1 hj)]
    exact slotEntry_slotBytes (fun h => by rw [h]; exact hstate) (fun h => by simp [termSlot, h])
  rw [loadElement, hslots, hentries]
  exact Prod.ext (unpackTerm_packTerm hp hcls hcause hv) rfl

end

/-! ### The sum of terms (R11, R77) -/

section
variable {w : Option Nat} {a b c : Term}

/-- The class of a sum without a bound: zero is neutral, a class meets itself in itself, and two others meet in class 3 (R77). -/
def joinCls (x y : Nat) : Nat := if x = 0 then y else if y = 0 then x else if x = y then x else 3

theorem joinCls_assoc (x y z : Nat) : joinCls (joinCls x y) z = joinCls x (joinCls y z) := by
  unfold joinCls
  grind

theorem joinCls_eq_zero {x y : Nat} : joinCls x y = 0 ↔ x = 0 ∧ y = 0 := by
  unfold joinCls
  grind

theorem addTerm_comm (w : Option Nat) (a b : Term) : addTerm w a b = addTerm w b a := by
  unfold addTerm
  rw [Bool.or_comm a.trunc, Bool.or_comm a.ovf, Int.add_comm a.v]
  dsimp only
  split <;> split <;> simp_all
  · exact Nat.min_comm ..
  · simp only [or_comm]
  · rw [if_neg (Ne.symm ‹_›)]
    simp only [and_comm]

/-- The flags of a sum without a bound are the flags of either term; its class is theirs joined. -/
theorem addTerm_none_flags (a b : Term) : (addTerm none a b).cls = joinCls a.cls b.cls ∧
    (addTerm none a b).trunc = (a.trunc || b.trunc) ∧ (addTerm none a b).ovf = (a.ovf || b.ovf) := by
  unfold addTerm joinCls
  dsimp only
  split <;> simp_all
  split <;> simp

theorem addTerm_none_v {a b : Term} (ha : a.cls = 0) (hb : b.cls = 0) : (addTerm none a b).v = a.v + b.v := by
  simp [addTerm, ha, hb]

end

/-- Settles O10: elements by their slots; sums by the classes of their terms. -/
theorem skeinElementsAndSums : Obligations.SkeinElementsAndSums := by
  refine ⟨fun p t hp hcls hcause hok hv => ⟨loadElement_termBytes hp hcls hcause hok hv, termBytes_length p t⟩,
    addTerm_comm, fun a b c => ?_, fun w a b ha hb hin => ?_, fun w a b ha hb hin => ?_⟩
  · obtain ⟨hab, habt, habo⟩ := addTerm_none_flags a b
    obtain ⟨hbc, hbct, hbco⟩ := addTerm_none_flags b c
    obtain ⟨hl, hlt, hlo⟩ := addTerm_none_flags (addTerm none a b) c
    obtain ⟨hr, hrt, hro⟩ := addTerm_none_flags a (addTerm none b c)
    refine ⟨?_, fun h => ?_, ?_, ?_⟩
    · rw [hl, hr, hab, hbc, joinCls_assoc]
    · obtain ⟨h1, hc⟩ := joinCls_eq_zero.1 (hl ▸ h)
      obtain ⟨ha, hb⟩ := joinCls_eq_zero.1 (hab ▸ h1)
      have hbc0 : (addTerm none b c).cls = 0 := by rw [hbc, hb, hc]; rfl
      rw [addTerm_none_v h1 hc, addTerm_none_v ha hb, addTerm_none_v ha hbc0, addTerm_none_v hb hc, Int.add_assoc]
    · rw [hlt, hrt, habt, hbct, Bool.or_assoc]
    · rw [hlo, hro, habo, hbco, Bool.or_assoc]
  · simp [addTerm, ha, hb, hin]
  · simp [addTerm, ha, hb, hin]

end Sys2Proof.Machine
end

section
/-! PROOFS. Values of FP32 elements (O11). -/

namespace Sys2Proof.Machine

/-! ### Values of FP32 elements (R45, R121, R122) -/

section
variable {a b c x y mode : Nat}

theorem fpVal_eq (x : Nat) : fpVal x =
    if x / 2 ^ 23 % 256 = 255 then
      if x % 2 ^ 23 = 0 then if x / 2 ^ 31 % 2 = 1 then .negInf else .posInf else .nan
    else
      .fin (if x / 2 ^ 31 % 2 = 1 then -(if x / 2 ^ 23 % 256 = 0 then ((x % 2 ^ 23 : Nat) : Int) else (x % 2 ^ 23 : Nat) + (2 ^ 23 : Nat))
        else (if x / 2 ^ 23 % 256 = 0 then ((x % 2 ^ 23 : Nat) : Int) else (x % 2 ^ 23 : Nat) + (2 ^ 23 : Nat)))
        (((if x / 2 ^ 23 % 256 = 0 then 1 else x / 2 ^ 23 % 256 : Nat) : Int) - (127 : Nat) - (23 : Nat)) := by
  simp [fpVal, decodeElem, fmtOf]

/-- An element is a NaN by its exponent and fraction, whatever its sign (R45). -/
theorem fpVal_nan_iff : fpVal x = .nan ↔ x / 2 ^ 23 % 256 = 255 ∧ x % 2 ^ 23 ≠ 0 := by
  rw [fpVal_eq]
  split
  · split
    · split <;> simp_all
    · simp_all
  · simp_all

theorem fpVal_nan_congr (h : x % 2 ^ 31 = y % 2 ^ 31) : fpVal x = .nan ↔ fpVal y = .nan := by
  rw [fpVal_nan_iff, fpVal_nan_iff]
  omega

theorem fpVal_posInf_iff : fpVal x = .posInf ↔ x / 2 ^ 23 % 256 = 255 ∧ x % 2 ^ 23 = 0 ∧ x / 2 ^ 31 % 2 ≠ 1 := by
  rw [fpVal_eq]
  split
  · split
    · split <;> simp_all
    · simp_all
  · simp_all

theorem fpVal_negInf_iff : fpVal x = .negInf ↔ x / 2 ^ 23 % 256 = 255 ∧ x % 2 ^ 23 = 0 ∧ x / 2 ^ 31 % 2 = 1 := by
  rw [fpVal_eq]
  split
  · split
    · split <;> simp_all
    · simp_all
  · simp_all

/-- An infinity is known by its sign. -/
theorem infinity_bits (ha : a < 2 ^ 32) (hb : b < 2 ^ 32) (hia : fpVal a = .posInf ∨ fpVal a = .negInf)
    (hib : fpVal b = .posInf ∨ fpVal b = .negInf) (hs : fpNeg a = fpNeg b) : a = b := by
  rw [fpVal_posInf_iff, fpVal_negInf_iff] at hia hib
  have hsign : a / 2 ^ 31 % 2 = 1 ↔ b / 2 ^ 31 % 2 = 1 := by simpa [fpNeg] using hs
  omega

theorem fpNeg_iff (x : Nat) : fpNeg x = true ↔ x / 2 ^ 31 % 2 = 1 := by simp [fpNeg]

theorem flipSign_low (x : Nat) : flipSign x % 2 ^ 31 = x % 2 ^ 31 := by
  unfold flipSign
  split
  · rename_i h; rw [fpNeg_iff] at h; omega
  · omega

theorem flipSign_sign (hx : x < 2 ^ 32) : flipSign x / 2 ^ 31 = 1 - x / 2 ^ 31 := by
  unfold flipSign
  split
  · rename_i h; rw [fpNeg_iff] at h; omega
  · rename_i h; rw [fpNeg_iff] at h; omega

/-- The magnitude of an element: its bits but for the sign. -/
theorem abs_bits (hx : x < 2 ^ 32) : (if fpNeg x then flipSign x else x) = x % 2 ^ 31 := by
  split
  · rename_i h; rw [flipSign, if_pos h]; rw [fpNeg_iff] at h; omega
  · rename_i h; rw [fpNeg_iff] at h; omega

theorem vCopy_of_value (h : fpVal x ≠ .nan) : vCopy x = { bits := x } := if_neg h
theorem vCopy_nan (h : fpVal x = .nan) : vCopy x = vNan := if_pos h

theorem vMinMax_cases (max : Bool) (ha : fpVal a ≠ .nan) (hb : fpVal b ≠ .nan) :
    (vMinMax max a b).bits = a ∨ (vMinMax max a b).bits = b := by
  simp only [vMinMax, ha, hb, decide_false, Bool.or_self, Bool.false_eq_true, if_false]
  split
  · exact .inr rfl
  · exact .inl rfl

theorem vLess_below (h : vLess a b = true) : fpBelow a b = true := by
  unfold vLess at h
  split at h
  · cases h
  · cases h
  · split at h
    · cases h
    · exact h
  · exact h

theorem fpBelow_asymm (h : fpBelow a b = true) : fpBelow b a = false := by
  simp only [fpBelow, decide_eq_true_eq, decide_eq_false_iff_not] at h ⊢
  omega

theorem vLess_asymm (h : vLess a b = true) : vLess b a = false :=
  Bool.eq_false_iff.2 fun h' => Bool.false_ne_true ((fpBelow_asymm (vLess_below h)).symm.trans (vLess_below h'))

theorem vAdd_comm (ha : a < 2 ^ 32) (hb : b < 2 ^ 32) : vAdd mode a b = vAdd mode b a := by
  have hinf := infinity_bits ha hb
  have hsame : (if fpNeg a = fpNeg b then ({ bits := b } : VRes) else vInvalid 2) =
      if fpNeg b = fpNeg a then { bits := b } else vInvalid 2 := by simp only [eq_comm]
  unfold vAdd
  cases hva : fpVal a with
  | fin ma ea =>
    cases hvb : fpVal b with
    | fin mb eb =>
      dsimp only
      have hzero : (if ma = 0 && mb = 0 && fpNeg a == fpNeg b then fpNeg a else decide (mode = 3)) =
          if mb = 0 && ma = 0 && fpNeg b == fpNeg a then fpNeg b else decide (mode = 3) := by
        by_cases hs : fpNeg a = fpNeg b
        · simp only [hs, Bool.and_comm (decide (ma = 0))]
        · simp [hs, Ne.symm hs]
      rw [hzero, Int.min_comm ea eb, Int.add_comm]
    | _ => rfl
  | nan => cases hvb : fpVal b <;> rfl
  | posInf => cases hvb : fpVal b <;> simp_all
  | negInf => cases hvb : fpVal b <;> simp_all

theorem vMul_comm : vMul mode a b = vMul mode b a := by
  unfold vMul
  rw [Bool.xor_comm]
  cases hva : fpVal a <;> cases hvb : fpVal b <;> simp [Int.mul_comm, Int.add_comm]

end

/-- Settles O11: values by the operation's own case, NaN operands by its first test. -/
theorem vectorElementValues : Obligations.VectorElementValues := by
  constructor
  · intro d u a b c ha hb hna hnb
    refine ⟨fun h => ?_, fun h => ?_, fun h => ?_, fun h => ?_, fun h => ?_, fun h => ?_⟩
    · have hn : fpVal (a % 2 ^ 31) ≠ .nan := fun h' => hna ((fpVal_nan_congr (Nat.mod_mod ..)).1 h')
      rw [vCompute, h]
      simp only [abs_bits ha, vCopy_of_value hn]
    · have hn : fpVal (flipSign a) ≠ .nan := fun h' => hna ((fpVal_nan_congr (flipSign_low a)).1 h')
      rw [vCompute, h]
      simp only [vCopy_of_value hn]
      exact ⟨flipSign_low a, flipSign_sign ha⟩
    · simp only [vCompute, h]
      split
      · rw [vCopy_of_value hnb]
      · rw [vCopy_of_value hna]
    · simp only [vCompute, h]
      by_cases hl : vLess a b = true
      · simp [hl, vLess_asymm hl]
      · simp [hl]
    · rcases h with h | h <;> rw [vCompute, h]
      · exact vMinMax_cases false hna hnb
      · exact vMinMax_cases true hna hnb
    · rcases h with h | h <;> rw [vCompute, vCompute, h]
      · exact vAdd_comm ha hb
      · exact vMul_comm
  · intro d u a b c hna hop
    have habs : fpVal (if fpNeg a then flipSign a else a) = .nan := by
      split
      · exact (fpVal_nan_congr (flipSign_low a)).2 hna
      · exact hna
    simp only [List.mem_cons, List.not_mem_nil, or_false] at hop
    rcases hop with h | h | h | h | h | h | h <;> simp only [vCompute, h]
    · simp only [vAdd, hna, vNan]
    · simp only [vAdd, hna, vNan]
    · simp only [vMul, hna, vNan]
    · simp [vMinMax, hna, vNan]
    · simp [vMinMax, hna, vNan]
    · rw [vCopy_nan habs, vNan]
    · simp only [vDiv, hna, vNan]

end Sys2Proof.Machine
end

section
/-! PROOFS. What stopping the units of cores leaves (R208). -/

namespace Sys2Proof.Machine

/-! ### What stopping the units of cores leaves (R208) -/

/-- The core keeps its owner, and its stopped units stay stopped. -/
def Core.Halts (c c' : Core) : Prop := c'.owner = c.owner ∧ ∀ k, (c.unit k).stopped = true → (c'.unit k).stopped = true

/-- The contexts differ in their queues alone. -/
def Context.SameButQueues (c c' : Context) : Prop := { c' with queues := c.queues } = c

/-- Memory, security and what the contexts hold beside their queues stay; cores keep their owners, stopped units stay stopped. -/
structure Halting (s t : State) : Prop where
  keeps : Keeps s t
  mem : t.mem = s.mem
  sec : t.sec = s.sec
  core : ∀ g, (s.core g).Halts (t.core g)
  ctx : ∀ x, (s.ctx x).SameButQueues (t.ctx x)

section
variable {s t u : State}

theorem Core.halts_refl (c : Core) : c.Halts c := ⟨rfl, fun _ => id⟩
theorem Context.sameButQueues_refl (c : Context) : c.SameButQueues c := rfl

theorem Core.Halts.trans {a b c : Core} (h : a.Halts b) (h' : b.Halts c) : a.Halts c :=
  ⟨h'.1.trans h.1, fun k hk => h'.2 k (h.2 k hk)⟩

theorem Context.SameButQueues.trans {a b c : Context} (h : a.SameButQueues b) (h' : b.SameButQueues c) : a.SameButQueues c := by
  have h1 := congrArg (fun (k : Context) => { k with queues := a.queues }) h'
  exact Eq.trans h1 h

theorem halting_refl (s : State) : Halting s s :=
  ⟨keeps_refl s, rfl, rfl, fun _ => Core.halts_refl _, fun _ => Context.sameButQueues_refl _⟩

/-- A state of the same memory, security, cores and contexts. -/
theorem halting_same (h : Halting s t) (hk : Keeps s u) (hm : u.mem = t.mem) (hs : u.sec = t.sec) (hc : u.cores = t.cores)
    (hx : u.contexts = t.contexts) : Halting s u := by
  have hcore (g : Nat) : u.core g = t.core g := by simp [State.core, hc]
  have hctx (x : Nat) : u.ctx x = t.ctx x := by simp [State.ctx, hx]
  exact ⟨hk, hm.trans h.mem, hs.trans h.sec, fun g => by rw [hcore]; exact h.core g, fun x => by rw [hctx]; exact h.ctx x⟩

theorem halting_setCtr (h : Halting s t) (p c) : Halting s (t.setCtr p c) := halting_same h (keeps_setCtr h.keeps p c) rfl rfl rfl rfl

theorem halting_mk (h : Halting s t) {out draws clkc device slotMap spares counters syncFaults tailDiscards signals addends queueObjs
    training fabric coll drinex dict sources dests rel meter power}
    (hcounters : smWf {} t.counters = true → smWf {} counters = true)
    (hsources : smWf {} t.sources = true → smWf {} sources = true)
    (hdests : smWf {} t.dests = true → smWf {} dests = true)
    (hdips : smWf {} t.power.dips = true → smWf {} power.dips = true)
    (hports : smWf {} t.fabric.ports = true → smWf {} fabric.ports = true)
    (hstreams : smWf {} t.fabric.streams = true → smWf {} fabric.streams = true)
    (htrackers : smWf {} t.fabric.trackers = true → smWf {} fabric.trackers = true)
    (hinstances : smWf {} t.coll.instances = true → smWf {} coll.instances = true) :
    Halting s (State.mk t.pending out draws clkc device t.mem t.cores slotMap spares counters syncFaults tailDiscards signals addends
      t.contexts queueObjs training fabric coll drinex dict sources dests rel t.sec meter power) :=
  halting_same h (keeps_mk h.keeps id id hcounters id hsources hdests hdips hports hstreams htrackers hinstances) rfl rfl rfl rfl

theorem halting_sendIntr (h : Halting s t) (v) : Halting s (sendIntr t v) := by
  have hf := sendIntr_frame t v
  refine halting_same h (keeps_sendIntr h.keeps v) ?_ ?_ ?_ ?_
  · have := congrArg State.mem hf; exact this
  · have := congrArg State.sec hf; exact this
  · have := congrArg State.cores hf; exact this
  · have := congrArg State.contexts hf; exact this

variable (hs : s.wf = true)

include hs

theorem halting_setCore (h : Halting s t) {g : Nat} {c : Core} (hf : c.fences = (t.core g).fences) (hc : (t.core g).Halts c) :
    Halting s (t.setCore g c) := by
  obtain ⟨-, hcores, -⟩ := State.wf_iff.1 (h.keeps.wf hs)
  refine ⟨keeps_setCore h.keeps (by rw [hf]; exact id), h.mem, h.sec, fun k => ?_, h.ctx⟩
  rw [State.core_setCore_wf hcores.1]
  split
  · rename_i hk; subst hk; exact (h.core k).trans hc
  · exact h.core k

theorem halting_setCtx (h : Halting s t) {x : Nat} {c : Context} (hc : (t.ctx x).SameButQueues c) : Halting s (t.setCtx x c) := by
  obtain ⟨-, -, -, hctx, -⟩ := State.wf_iff.1 (h.keeps.wf hs)
  refine ⟨keeps_setCtx h.keeps x c, h.mem, h.sec, h.core, fun y => ?_⟩
  rw [State.ctx_setCtx_wf hctx]
  split
  · rename_i hy; subst hy; exact (h.ctx y).trans hc
  · exact h.ctx y

theorem halting_modEntry (h : Halting s t) (u g q f) : Halting s (t.modEntry u g q f) := by
  refine halting_setCore hs h (by cases u <;> rfl) ⟨by cases u <;> rfl, fun k hk => ?_⟩
  by_cases hku : k = u
  · subst hku; simpa using hk
  · simpa [hku] using hk

theorem halting_modDesc (h : Halting s t) (x q seq f) : Halting s (t.modDesc x q seq f) := halting_setCtx hs h rfl

theorem halting_line (h : Halting s t) (g) : Halting s (t.setCore g { t.core g with line := true }) :=
  halting_setCore hs h rfl ⟨rfl, fun k hk => by cases k <;> exact hk⟩

theorem halting_deliver (h : Halting s t) (d) : Halting s (deliver t d) := by
  unfold deliver
  have h1 (d' : IrqDest) : Halting s { t with dests := smSet {} t.dests d d' } := halting_mk h id id (smWf_smSet · ..) id id id id id
  dsimp only
  split
  · exact halting_sendIntr (h1 _) _
  split
  · exact halting_line hs (h1 _) _
  · exact h1 _

theorem halting_destEvent (h : Halting s t) (d) : Halting s (destEvent t d) := by
  unfold destEvent deliverIfDue
  grind [halting_deliver, halting_mk, smWf_smSet]

theorem halting_raise (h : Halting s t) (n) : Halting s (raise t n) := by
  unfold raise
  grind [halting_destEvent, halting_mk, smWf_smSet]

theorem halting_emcy (h : Halting s t) (code unit) : Halting s (emcy t code unit) := by
  unfold emcy emcyOut
  grind [halting_mk]

theorem halting_writeRecord (h : Halting s t) (n v w) : Halting s (writeRecord t n v w) := by
  unfold writeRecord
  grind [halting_raise, halting_emcy, halting_mk]

theorem halting_fault (h : Halting s t) (n) : Halting s (fault t n) := by
  unfold fault
  grind [halting_writeRecord, halting_raise, halting_mk]

theorem halting_blame (h : Halting s t) (a st) : Halting s (t.blame a st) := by
  unfold State.blame
  grind [halting_modDesc]

theorem halting_cancelWaiter (h : Halting s t) (a) : Halting s (t.cancelWaiter a) := by
  unfold State.cancelWaiter
  grind [halting_modDesc, halting_modEntry]

theorem halting_foldl {α : Type} {f : State → α → State} (hf : ∀ t a, Halting s t → Halting s (f t a)) (l : List α)
    (h : Halting s t) : Halting s (l.foldl f t) := by
  induction l generalizing t with
  | nil => exact h
  | cons a l ih => exact ih (hf t a h)

theorem halting_releaseWaiters (h : Halting s t) (p) : Halting s (releaseWaiters t p) := by
  unfold releaseWaiters
  refine halting_foldl hs (fun u a hu => ?_) _ (halting_setCtr h ..)
  grind [halting_cancelWaiter, halting_blame]

theorem halting_freezeCounter (h : Halting s t) (p cause src) : Halting s (freezeCounter t p cause src) := by
  unfold freezeCounter
  grind [halting_releaseWaiters, halting_blame, halting_raise, halting_fault, halting_setCtr, halting_mk]

theorem halting_signalCounter (h : Halting s t) (p a src r) : Halting s (signalCounter t p a src r) := by
  unfold signalCounter
  grind [halting_blame, halting_setCtr, halting_freezeCounter, halting_mk]

theorem halting_endSnapshot (h : Halting s t) : Halting s (endSnapshot t) := by
  unfold endSnapshot
  grind [halting_raise, halting_mk]

theorem halting_abandonOne (h : Halting s t) (u g e) : Halting s (abandonOne u g t e) := by
  have hres : Halting s (returnReservation t u g e) := by
    unfold returnReservation returnReserve
    grind [halting_endSnapshot, halting_setCtr, halting_modEntry]
  unfold abandonOne returnCredit
  grind [halting_setCtr, halting_signalCounter]

theorem halting_setUnit (h : Halting s t) (g k) {r : UnitRing} (hr : (t.unitOf k g).stopped = true → r.stopped = true) :
    Halting s (t.setCore g ((t.core g).setUnit k r)) := by
  refine halting_setCore hs h (by cases k <;> rfl) ⟨by cases k <;> rfl, fun j hj => ?_⟩
  by_cases hjk : j = k
  · subst hjk; rw [Core.unit_setUnit]; exact hr hj
  · rwa [Core.unit_setUnit_other _ _ hjk]

theorem halting_stopUnit (h : Halting s t) (u g) : Halting s (stopUnit u g t) := by
  have h1 (l : List WinEntry) : Halting s (l.foldl (fun s e => abandonOne u g s e) t) :=
    halting_foldl hs (fun t e ht => halting_abandonOne hs ht u g e) _ h
  fun_cases stopUnit
  · exact halting_setUnit hs (h1 _) _ _ fun _ => rfl
  · exact halting_setUnit hs (h1 _) _ _ fun _ => rfl

theorem halting_stopCore (h : Halting s t) (g) : Halting s (stopCore t g) := by
  unfold stopCore
  grind [halting_stopUnit]

theorem halting_stopContext (h : Halting s t) (x) : Halting s (stopContext t x) := by
  unfold stopContext
  exact halting_foldl hs (fun t g ht => halting_stopCore hs ht g) _ h

end

/-! ### Which units a stop stops -/

section
variable {s t : State}

theorem stopUnit_stopped (hs : s.wf = true) (u : UnitKind) (g : CoreId) : ((stopUnit u g s).unitOf u g).stopped = true := by
  have hwf (l : List WinEntry) : smWf {} (l.foldl (fun s e => abandonOne u g s e) s).cores = true := by
    have h := halting_foldl hs (fun t e ht => halting_abandonOne hs ht u g e) l (halting_refl s)
    obtain ⟨-, hcores, -⟩ := State.wf_iff.1 (h.keeps.wf hs)
    exact hcores.1
  fun_cases stopUnit
  · rw [State.unitOf, State.core_setCore_wf (hwf _), if_pos rfl, Core.unit_setUnit]
  · rw [State.unitOf, State.core_setCore_wf (hwf _), if_pos rfl, Core.unit_setUnit]

theorem stopCore_stopped (hs : s.wf = true) (g : CoreId) (k : UnitKind) : ((stopCore s g).unitOf k g).stopped = true := by
  have hg : Fin.ofNat 192 g.val = g := Fin.ext (Nat.mod_eq_of_lt g.isLt)
  have h1 := halting_stopUnit hs (halting_refl s) .engine g
  have hs1 := h1.keeps.wf hs
  have h2 := halting_stopUnit hs1 (halting_refl _) .vector g
  have hs2 := h2.keeps.wf hs1
  have h3 := halting_stopUnit hs2 (halting_refl _) .dma g
  unfold stopCore
  rw [hg]
  cases k with
  | engine => exact (h3.core g).2 _ ((h2.core g).2 _ (stopUnit_stopped hs .engine g))
  | vector => exact (h3.core g).2 _ (stopUnit_stopped hs1 .vector g)
  | dma => exact stopUnit_stopped hs2 .dma g

theorem foldl_stopCore_stopped (hs : s.wf = true) {l : List Nat} {g : CoreId} (hg : g.val ∈ l) (k : UnitKind) :
    ((l.foldl stopCore s).unitOf k g).stopped = true := by
  induction l generalizing s with
  | nil => cases hg
  | cons a l ih =>
    have h1 := halting_stopCore hs (halting_refl s) a
    have hs1 := h1.keeps.wf hs
    by_cases ha : g.val ∈ l
    · exact ih hs1 ha
    · obtain rfl : g.val = a := by simpa [ha] using hg
      exact ((halting_foldl hs1 (fun t g ht => halting_stopCore hs1 ht g) l (halting_refl _)).core g).2 k (stopCore_stopped hs g k)

theorem mem_coresOf {x g : Nat} : g ∈ s.coresOf x ↔ g < 192 ∧ (s.core g).owner.map (·.val) = some x := by
  simp [State.coresOf]

theorem coresOf_congr (h : ∀ g, (t.core g).owner = (s.core g).owner) (x : Nat) : t.coresOf x = s.coresOf x := by
  simp only [State.coresOf, h]

theorem stopContext_stopped (hs : s.wf = true) {x g : Nat} (hg : g ∈ s.coresOf x) (k : UnitKind) :
    ((stopContext s x).unitOf k g).stopped = true :=
  foldl_stopCore_stopped (g := ⟨g, (mem_coresOf.1 hg).1⟩) hs hg k

/-! ### One change of each core of a list -/

/-- The cores of a list changed by one function. -/
def State.mapCores (s : State) (l : List Nat) (f : Core → Core) : State := l.foldl (fun s g => s.setCore g (f (s.core g))) s

theorem mapCores_frame (s : State) (l : List Nat) (f : Core → Core) : { s.mapCores l f with cores := s.cores } = s := by
  unfold State.mapCores
  induction l generalizing s with
  | nil => rfl
  | cons g l ih =>
    have h := congrArg (fun (t : State) => { t with cores := s.cores }) (ih (s.setCore g (f (s.core g))))
    exact h

/-- Each core of the list is changed, once or more often alike; the others stay. -/
theorem core_mapCores (hs : smWf {} s.cores = true) {f : Core → Core} (hf : ∀ c, f (f c) = f c) (l : List Nat) (g : Nat) :
    (s.mapCores l f).core g = if g ∈ l then f (s.core g) else s.core g := by
  unfold State.mapCores
  induction l generalizing s with
  | nil => rfl
  | cons a l ih =>
    rw [List.foldl_cons, ih (smWf_smSet hs ..), State.core_setCore_wf hs]
    by_cases hga : g = a
    · subst hga; simp [hf]
    · simp [hga]

end
end Sys2Proof.Machine
end

section
/-! PROOFS. The context commands and the finish of a reset (O12). -/

namespace Sys2Proof.Machine

/-! ### The context commands (R208 to R211) -/

theorem plainSize_ctxCommand : plainSize 0x2A00 2 = some 16 := by decide +kernel

section
variable {s t : State} {acc : Accessor} {x : Nat}

/-- A context command that is accepted is replied to with abort code 0. -/
theorem ctxCommand_replied (h : Admitted s acc 0x2A00 2 = true) (hsnap : s.queueObjs.snapBusy = false) {b : Bytes}
    (hl : b.length = 16) (hr : ctxCommand (touchSelects s acc) (s.selects acc).ctx.toNat b = .ok t) :
    .next (dictCommand s acc 0x2A00 2 b) = Replied acc t := by
  refine dictCommand_replied h (hl ▸ plainSize_ctxCommand) ?_
  show answerOf _ (ctxCommand (endSnapshot (touchSelects s acc)) ((touchSelects s acc).selects acc).ctx.toNat b) = _
  rw [endSnapshot_idle (by simpa using hsnap), touchSelects_selects, hr]
  rfl

theorem ctxCommand_create (hfree : (s.ctx x).st = .free) (sealed peer : Bool) (n : Fin 8) :
    ctxCommand s x (commandBytes 1 0 (boolNat sealed + 2 * boolNat peer + 4 * n.val)) =
      .ok (s.setCtx x { st := .opened, isSealed := sealed, peerOpen := peer, queueCount := n.val + 1
                        inDebug := decide (s.sec.lifecycle = 3#8), energy := (s.ctx x).energy, energyCarry := (s.ctx x).energyCarry }) := by
  have hn := n.isLt
  have hbool (b : Bool) : boolNat b ≤ 1 ∧ (boolNat b == 1) = b := by cases b <;> decide
  obtain ⟨hs, hsealed⟩ := hbool sealed
  obtain ⟨hp, hpeer⟩ := hbool peer
  obtain ⟨hop, hzero, hv⟩ := commandBytes_fields (op := 1) (v := boolNat sealed + 2 * boolNat peer + 4 * n.val) (by omega) (by omega)
  have h0 : bitAt (boolNat sealed + 2 * boolNat peer + 4 * n.val) 0 = sealed := by
    rw [bitAt, show (boolNat sealed + 2 * boolNat peer + 4 * n.val) / 2 ^ 0 % 2 = boolNat sealed by omega, hsealed]
  have h1 : bitAt (boolNat sealed + 2 * boolNat peer + 4 * n.val) 1 = peer := by
    rw [bitAt, show (boolNat sealed + 2 * boolNat peer + 4 * n.val) / 2 ^ 1 % 2 = boolNat peer by omega, hpeer]
  have h2 : (boolNat sealed + 2 * boolNat peer + 4 * n.val) / 4 = n.val := by omega
  simp only [ctxCommand, hop, hzero, hv, h0, h1, h2, hfree]
  rw [if_neg (by simp; omega)]
  rfl

theorem ctxCommand_destroy (hst : (s.ctx x).st = .opened) (hout : outstandingIn (s.ctx x) = false) :
    ctxCommand s x (commandBytes 2 0 0) = .ok (freeContext s x) := by
  obtain ⟨hop, hzero, hv⟩ := commandBytes_fields (op := 2) (v := 0) (by decide) (by decide)
  simp [ctxCommand, hop, hzero, hv, hst, hout]

theorem ctxCommand_stop (hst : (s.ctx x).st = .opened ∨ (s.ctx x).st = .ready) : ctxCommand s x (commandBytes 3 0 0) =
    .ok (stopContext (s.setCtx x { s.ctx x with st := .stopped, before := (s.ctx x).st }) x) := by
  obtain ⟨hop, hzero, hv⟩ := commandBytes_fields (op := 3) (v := 0) (by decide) (by decide)
  rcases hst with hst | hst <;> simp [ctxCommand, hop, hzero, hv, hst]

/-- The core with its units let run. -/
def Core.started (c : Core) : Core :=
  { c with engine := { c.engine with stopped := false }, vector := { c.vector with stopped := false }
           dma := { c.dma with stopped := false } }

/-- The core with what it has not fetched taken out of its rings. -/
def Core.withdrawn (c : Core) : Core :=
  { c with engine := { c.engine with tail := c.engine.head }, vector := { c.vector with tail := c.vector.head }
           dma := { c.dma with tail := c.dma.head }, work := [], watch := none }

theorem ctxCommand_start (hst : (s.ctx x).st = .stopped) : ctxCommand s x (commandBytes 4 0 0) =
    .ok ((s.setCtx x { s.ctx x with st := (s.ctx x).before }).mapCores (s.coresOf x) Core.started) := by
  obtain ⟨hop, hzero, hv⟩ := commandBytes_fields (op := 4) (v := 0) (by decide) (by decide)
  simp [ctxCommand, hop, hzero, hv, hst]
  rfl

/-- The state in which a RESET stops the cores of its context. -/
def State.toReset (s : State) (x : Nat) : State :=
  clearStaging (s.setCtx x { s.ctx x with st := .resetting, replaySet := [], cascades := [] })

theorem ctxCommand_reset (hst : (s.ctx x).st ≠ .free) : ctxCommand s x (commandBytes 5 0 0) =
    .ok ((stopContext (s.toReset x) x).mapCores ((stopContext (s.toReset x) x).coresOf x) Core.withdrawn) := by
  obtain ⟨hop, hzero, hv⟩ := commandBytes_fields (op := 5) (v := 0) (by decide) (by decide)
  simp [ctxCommand, hop, hzero, hv, hst]
  rfl

theorem ctxCommand_peer {op : Nat} (h : op = 6 ∨ op = 7) (hst :
    (s.ctx x).st = .opened ∨ (s.ctx x).st = .ready ∨ (s.ctx x).st = .stopped) :
    ctxCommand s x (commandBytes op 0 0) = .ok (s.setCtx x { s.ctx x with peerOpen := decide (op = 6) }) := by
  obtain ⟨hop, hzero, hv⟩ := commandBytes_fields (op := op) (v := 0) (by omega) (by decide)
  rcases h with rfl | rfl <;> rcases hst with hst | hst | hst <;> simp [ctxCommand, hop, hzero, hv, hst]

/-! ### DESTROY (R208, R210) -/

theorem settleScratch_frame (s : State) : { settleScratch s with mem := s.mem } = s ∧ (settleScratch s).mem.cells = s.mem.cells := by
  unfold settleScratch
  generalize List.range 24 = l
  induction l generalizing s with
  | nil => exact ⟨rfl, rfl⟩
  | cons c l ih =>
    obtain ⟨h1, h2⟩ := ih (_ : State)
    refine ⟨?_, h2.trans rfl⟩
    have h := congrArg (fun (t : State) => { t with mem := s.mem }) h1
    exact h

/-- The core without the context and the work it had. -/
def Core.freed (c : Core) : Core := { c with owner := none, job := none, progress := none, work := [] }

/-- The state without the plan of a context, before the scratch is settled. -/
def State.planDropped (s : State) (x : Nat) : State :=
  { s with counters := s.counters.filter (fun k => !(k.2.allocated && decide (k.2.owner.toNat = x))) }.setCtx x
    { s.ctx x with plan := none, unloading := none, trans := [], barriers := [], slots := [], saved := [] }

theorem dropPlan_eq (s : State) (x : Nat) : dropPlan s x = settleScratch (s.planDropped x) := rfl

theorem settleScratch_keeps (s : State) : (settleScratch s).mem.cells = s.mem.cells ∧ (settleScratch s).counters = s.counters ∧
    (settleScratch s).contexts = s.contexts ∧ (settleScratch s).cores = s.cores := by
  obtain ⟨hframe, hcells⟩ := settleScratch_frame s
  have h1 := congrArg State.counters hframe
  have h2 := congrArg State.contexts hframe
  have h3 := congrArg State.cores hframe
  exact ⟨hcells, h1, h2, h3⟩

/-- A dropped plan leaves no counter allocated to its context (R178). -/
theorem dropPlan_counters {p : Nat} (h : ((dropPlan s x).ctr p).allocated = true) : ((dropPlan s x).ctr p).owner.toNat ≠ x := by
  obtain ⟨-, hc, -⟩ := settleScratch_keeps (s.planDropped x)
  rw [dropPlan_eq, State.ctr, hc] at h ⊢
  have hmem := smGet_mem (d := ({} : Counter)) (m := (s.planDropped x).counters) (x := p) (fun h0 => by rw [h0] at h; cases h)
  have hpred := (List.mem_filter.1 hmem).2
  rw [h] at hpred
  simpa using hpred

theorem dropPlan_ctx (hs : s.wf = true) : ((dropPlan s x).ctx x).energy = (s.ctx x).energy ∧
    ((dropPlan s x).ctx x).energyCarry = (s.ctx x).energyCarry := by
  obtain ⟨-, -, -, hctx, -⟩ := State.wf_iff.1 hs
  obtain ⟨-, -, hc, -⟩ := settleScratch_keeps (s.planDropped x)
  have hx : (s.planDropped x).ctx x = { s.ctx x with plan := none, unloading := none, trans := [], barriers := [], slots := [], saved := [] } :=
    (smGet_smSet hctx x x _).trans (if_pos rfl)
  have hx' : (dropPlan s x).ctx x = (s.planDropped x).ctx x := by rw [dropPlan_eq, State.ctx, hc]; rfl
  rw [hx', hx]
  exact ⟨rfl, rfl⟩

theorem freeContext_frees (hs : s.wf = true) :
    (freeContext s x).ctx x = { energy := (s.ctx x).energy, energyCarry := (s.ctx x).energyCarry } ∧
    (∀ g : CoreId, ∀ y, ((freeContext s x).core g).owner = some y → y.val ≠ x) ∧
    (∀ p, ((freeContext s x).ctr p).allocated = true → ((freeContext s x).ctr p).owner.toNat ≠ x) ∧
    (freeContext s x).mem.cells = s.mem.cells := by
  have hk : Keeps s (dropPlan s x) := keeps_dropPlan (keeps_refl s) x
  obtain ⟨-, hcores, -, hctx, -⟩ := State.wf_iff.1 (hk.wf hs)
  obtain ⟨henergy, hcarry⟩ := dropPlan_ctx (x := x) hs
  have hmap := mapCores_frame (dropPlan s x) ((dropPlan s x).coresOf x) Core.freed
  have hfree : freeContext s x = ((dropPlan s x).mapCores ((dropPlan s x).coresOf x) Core.freed).setCtx x
      { energy := (((dropPlan s x).mapCores ((dropPlan s x).coresOf x) Core.freed).ctx x).energy
        energyCarry := (((dropPlan s x).mapCores ((dropPlan s x).coresOf x) Core.freed).ctx x).energyCarry } := rfl
  have hctxs : ((dropPlan s x).mapCores ((dropPlan s x).coresOf x) Core.freed).contexts = (dropPlan s x).contexts := by
    have h := congrArg State.contexts hmap; exact h
  have hctrs : (freeContext s x).counters = (dropPlan s x).counters := by have h := congrArg State.counters hmap; exact h
  have hmem : (freeContext s x).mem = (dropPlan s x).mem := by have h := congrArg State.mem hmap; exact h
  refine ⟨?_, fun g y hy => ?_, fun p hp => ?_, ?_⟩
  · rw [hfree, State.ctx_setCtx_wf (by rw [hctxs]; exact hctx), if_pos rfl]
    simp only [State.ctx] at henergy hcarry ⊢
    rw [hctxs, henergy, hcarry]
  · have hcore : (freeContext s x).core g = ((dropPlan s x).mapCores ((dropPlan s x).coresOf x) Core.freed).core g := rfl
    rw [hcore, core_mapCores hcores.1 (f := Core.freed) (fun _ => rfl)] at hy
    split at hy
    · cases hy
    · rename_i hg
      rintro rfl
      exact hg (mem_coresOf.2 ⟨g.isLt, by rw [hy]; rfl⟩)
  · have hctr : (freeContext s x).ctr p = (dropPlan s x).ctr p := by simp only [State.ctr, hctrs]
    rw [hctr] at hp ⊢
    exact dropPlan_counters hp
  · rw [hmem, dropPlan_eq, (settleScratch_keeps _).1]
    rfl

end

/-! ### The finish of a RESET (R209, R210) -/

/-- What each step of a fold brings about for its element, and no later step undoes, holds for all elements at the end. -/
theorem foldl_each {α : Type} {f : State → α → State} {I : State → Prop} {P : α → State → Prop} (hI : ∀ t a, I t → I (f t a))
    (hP : ∀ t a, I t → P a (f t a)) (hkeep : ∀ t a b, I t → P b t → P b (f t a)) {s : State} (l : List α) (hs : I s) :
    I (l.foldl f s) ∧ (∀ a ∈ l, P a (l.foldl f s)) ∧ ∀ b, P b s → P b (l.foldl f s) := by
  induction l generalizing s with
  | nil => exact ⟨hs, fun a ha => by simp at ha, fun _ => id⟩
  | cons a l ih =>
    obtain ⟨h1, h2, h3⟩ := ih (hI s a hs)
    refine ⟨h1, fun b hb => ?_, fun b hb => h3 b (hkeep s a b hs hb)⟩
    rcases List.mem_cons.1 hb with rfl | hb
    · exact h3 _ (hP s _ hs)
    · exact h2 b hb

section
variable {s t : State} {x : Nat}

/-- One record of a plan's translation table: a counter it names is set anew. -/
def resetRecord (x : Nat) (s : State) (r : TransRec) : State :=
  if r.kind = 0 then
    let p := trTarget (s.transEntry x r.vid.toNat)
    s.setCtr p { s.ctr p with produced := 0, consumed := 0, reserved := 0, frozen := false, cancelled := false, cause := 0
                              waiters := [], monotonic := r.mono, buffers := r.buffers }
  else s

theorem resetRecord_frame (x : Nat) (s : State) (r : TransRec) : { resetRecord x s r with counters := s.counters } = s := by
  unfold resetRecord
  split <;> rfl

/-- The records of the plan of a context. -/
def Context.transRecs (c : Context) : List TransRec :=
  match c.plan with
  | some p => p.trans
  | none => []

theorem foldl_resetRecord_frame (x : Nat) (l : List TransRec) (s : State) :
    { l.foldl (resetRecord x) s with counters := s.counters } = s := by
  induction l generalizing s with
  | nil => rfl
  | cons r l ih =>
    have h := congrArg (fun (t : State) => { t with counters := s.counters }) (ih (resetRecord x s r))
    exact h.trans (resetRecord_frame x s r)

/-- The counters that a plan's records name are at zero after they are set anew. -/
theorem foldl_resetRecord_counters (hs : smWf {} s.counters = true) (l : List TransRec) : ∀ r ∈ l, r.kind = 0 →
    ((l.foldl (resetRecord x) s).ctr (trTarget (s.transEntry x r.vid.toNat))).produced = 0 ∧
    ((l.foldl (resetRecord x) s).ctr (trTarget (s.transEntry x r.vid.toNat))).consumed = 0 := by
  have hstep (t : State) (r : TransRec) (ht : smWf {} t.counters = true) (p : Nat) : (resetRecord x t r).ctr p =
      if r.kind = 0 ∧ p = trTarget (t.transEntry x r.vid.toNat) then
        { t.ctr p with produced := 0, consumed := 0, reserved := 0, frozen := false, cancelled := false, cause := 0
                       waiters := [], monotonic := r.mono, buffers := r.buffers }
      else t.ctr p := by
    unfold resetRecord
    by_cases hk : r.kind = 0
    · simp only [hk, if_true, true_and]
      rw [State.ctr_setCtr_wf ht]
      split
      · rename_i hp; subst hp; rfl
      · rfl
    · simp only [hk, if_false, false_and]
  refine (foldl_each (I := fun t => smWf {} t.counters = true ∧ t.contexts = s.contexts)
    (P := fun r t => r.kind = 0 → (t.ctr (trTarget (s.transEntry x r.vid.toNat))).produced = 0 ∧
      (t.ctr (trTarget (s.transEntry x r.vid.toNat))).consumed = 0) ?_ ?_ ?_ l ⟨hs, rfl⟩).2.1
  · rintro t r ⟨ht, hc⟩
    refine ⟨?_, ?_⟩
    · unfold resetRecord; split
      · exact smWf_smSet ht ..
      · exact ht
    · have h := congrArg State.contexts (resetRecord_frame x t r); exact Eq.trans h hc
  · rintro t r ⟨ht, hc⟩ hk
    have htr : t.transEntry x r.vid.toNat = s.transEntry x r.vid.toNat := by simp only [State.transEntry, State.ctx, hc]
    rw [hstep t r ht, if_pos ⟨hk, by rw [htr]⟩]
    exact ⟨rfl, rfl⟩
  · rintro t r r' ⟨ht, -⟩ hP hk
    rw [hstep t r ht]
    split
    · exact ⟨rfl, rfl⟩
    · exact hP hk

/-- One core of the context that has been reset: its tags are cleared and its units run. -/
def resetCore (s : State) (g : Nat) : State := startCore (clearTags s g) g

theorem foldl_resetCore_frame (l : List Nat) (s : State) : { l.foldl resetCore s with cores := s.cores } = s := by
  induction l generalizing s with
  | nil => rfl
  | cons g l ih =>
    have h := congrArg (fun (t : State) => { t with cores := s.cores }) (ih (resetCore s g))
    exact h

theorem core_resetCore (hs : smWf {} s.cores = true) (g h : Nat) :
    smWf {} (resetCore s g).cores = true ∧ (h ≠ g → (resetCore s g).core h = s.core h) ∧
    ((resetCore s g).core g).job = none ∧ ∀ k, ((resetCore s g).unitOf k g).stopped = false := by
  have h1 : smWf {} (clearTags s g).cores = true := smWf_smSet hs ..
  have hget (c : Core) (k : Nat) : ((clearTags s g).setCore g c).core k = if k = g then c else (clearTags s g).core k :=
    State.core_setCore_wf h1 ..
  have hclear (c : Core) (k : Nat) : (s.setCore g c).core k = if k = g then c else s.core k := State.core_setCore_wf hs ..
  refine ⟨smWf_smSet h1 .., fun hk => ?_, ?_, fun k => ?_⟩
  · exact (hget _ h).trans ((if_neg hk).trans ((hclear _ h).trans (if_neg hk)))
  · unfold resetCore startCore
    dsimp only
    rw [hget, if_pos rfl]
    unfold clearTags
    dsimp only
    rw [hclear, if_pos rfl]
  · unfold resetCore startCore State.unitOf
    dsimp only
    rw [hget, if_pos rfl]
    cases k <;> rfl

theorem foldl_resetCore_cores (hs : smWf {} s.cores = true) (l : List Nat) : ∀ g ∈ l,
    ((l.foldl resetCore s).core g).job = none ∧ ∀ k, ((l.foldl resetCore s).unitOf k g).stopped = false := by
  refine (foldl_each (I := fun t => smWf {} t.cores = true)
    (P := fun g t => (t.core g).job = none ∧ ∀ k, (t.unitOf k g).stopped = false) ?_ ?_ ?_ l hs).2.1
  · exact fun t g ht => (core_resetCore ht g g).1
  · exact fun t g ht => (core_resetCore ht g g).2.2
  · intro t g h ht hP
    by_cases hgh : h = g
    · subst hgh; exact (core_resetCore ht h h).2.2
    · have hcore := (core_resetCore ht g h).2.1 hgh
      simpa only [State.unitOf, hcore] using hP

/-- The finish of a reset, once all has ended. -/
theorem resetFinish_ends (hst : (s.ctx x).st = .resetting) (hdrain : ∀ g ∈ s.coresOf x, coreDrained s g = true)
    (hout : outstandingIn (s.ctx x) = false) (hsec : (s.ctx x).isSealed = true → s.sec.busy = none) :
    resetFinish s x =
      let t := (s.coresOf x).foldl resetCore (resetSync s x)
      t.setCtx x { t.ctx x with
        st := if (t.ctx x).plan.isSome then .ready else .opened, saved := [], parked := [], cascades := [], replaySet := []
        replayed := [], flipping := false, flipTensors := [], permute := none } := by
  have hdescs : (s.ctx x).allDescs = [] := by
    unfold outstandingIn at hout
    simp only [List.any_eq_false, Queue.outstanding, Bool.or_eq_true, not_or, Bool.not_eq_true, Bool.not_eq_false',
      List.isEmpty_iff] at hout
    exact List.flatMap_eq_nil_iff.2 fun k hk => by rw [(hout k hk).1]; rfl
  have hend : (s.coresOf x).all (coreDrained s) = true := List.all_eq_true.2 hdrain
  have hseal : ((s.ctx x).isSealed && s.sec.busy.isSome) = false := by
    cases h : (s.ctx x).isSealed
    · rfl
    · simp [hsec h]
  unfold resetFinish
  simp [hst, hend, hdescs, hout, hseal]
  rfl

end
section
variable {s t : State} {x : Nat}

@[simp] theorem touchSelects_cores (s : State) (acc : Accessor) : (touchSelects s acc).cores = s.cores := by
  have h := congrArg State.cores (touchSelects_frame s acc); exact h

@[simp] theorem touchSelects_mem (s : State) (acc : Accessor) : (touchSelects s acc).mem = s.mem := by
  have h := congrArg State.mem (touchSelects_frame s acc); exact h

@[simp] theorem touchSelects_ctx (s : State) (acc : Accessor) (x : Nat) : (touchSelects s acc).ctx x = s.ctx x := by
  simp [State.ctx]

@[simp] theorem touchSelects_coresOf (s : State) (acc : Accessor) (x : Nat) : (touchSelects s acc).coresOf x = s.coresOf x := by
  simp [State.coresOf, State.core]

theorem mapCores_contexts (s : State) (l : List Nat) (f : Core → Core) : (s.mapCores l f).contexts = s.contexts := by
  have h := congrArg State.contexts (mapCores_frame s l f); exact h

theorem mapCores_ctx (s : State) (l : List Nat) (f : Core → Core) (x : Nat) : (s.mapCores l f).ctx x = s.ctx x := by
  rw [State.ctx, mapCores_contexts]; rfl

/-- STOP leaves the context stopped, its units stopped, and memory as it was (R208). -/
theorem stop_stops (hs : s.wf = true) :
    let u := stopContext (s.setCtx x { s.ctx x with st := .stopped, before := (s.ctx x).st }) x
    (u.ctx x).st = .stopped ∧ (u.ctx x).before = (s.ctx x).st ∧ (∀ g ∈ s.coresOf x, ∀ k, (u.unitOf k g).stopped = true) ∧
      u.mem = s.mem := by
  set r := s.setCtx x { s.ctx x with st := .stopped, before := (s.ctx x).st } with hr
  have hrwf : r.wf = true := (keeps_setCtx (keeps_refl s) x _).wf hs
  have h := halting_stopContext hrwf (halting_refl r) x
  obtain ⟨-, -, -, hctx, -⟩ := State.wf_iff.1 hs
  have hrx : r.ctx x = { s.ctx x with st := .stopped, before := (s.ctx x).st } := by rw [hr, State.ctx_setCtx_wf hctx, if_pos rfl]
  have hst := congrArg Context.st (h.ctx x)
  have hbefore := congrArg Context.before (h.ctx x)
  rw [hrx] at hst hbefore
  exact ⟨hst, hbefore, fun g hg k => stopContext_stopped hrwf (by exact hg) k, h.mem⟩

/-- START lets the units of the context's cores run again and changes nothing else (R208). -/
theorem start_starts (hs : s.wf = true) :
    let u := (s.setCtx x { s.ctx x with st := (s.ctx x).before }).mapCores (s.coresOf x) Core.started
    (u.ctx x).st = (s.ctx x).before ∧ (∀ g ∈ s.coresOf x, ∀ k, (u.unitOf k g).stopped = false) ∧
      { u with contexts := s.contexts, cores := s.cores } = s := by
  obtain ⟨-, hcores, -, hctx, -⟩ := State.wf_iff.1 hs
  refine ⟨?_, fun g hg k => ?_, ?_⟩
  · rw [mapCores_ctx, State.ctx_setCtx_wf hctx, if_pos rfl]
  · rw [State.unitOf, core_mapCores (s := s.setCtx x { s.ctx x with st := (s.ctx x).before }) (f := Core.started) hcores.1
      (fun _ => rfl), if_pos hg]
    cases k <;> rfl
  · have h := congrArg (fun (t : State) => { t with contexts := s.contexts })
      (mapCores_frame (s.setCtx x { s.ctx x with st := (s.ctx x).before }) (s.coresOf x) Core.started)
    exact h

/-- RESET stops the units of the context's cores and empties their rings; staging and the replay set are gone (R209, R210). -/
theorem reset_resets (hs : s.wf = true) :
    let v := stopContext (s.toReset x) x
    let u := v.mapCores (v.coresOf x) Core.withdrawn
    (u.ctx x).st = .resetting ∧ (u.ctx x).replaySet = [] ∧ u.sec.staging = [] ∧ u.sec.nonce = none ∧
      (∀ g ∈ s.coresOf x, ∀ k, (u.unitOf k g).stopped = true ∧ (u.unitOf k g).tail = (u.unitOf k g).head) ∧ u.mem = s.mem := by
  intro v u
  have hrwf : (s.toReset x).wf = true := (keeps_clearStaging (keeps_setCtx (keeps_refl s) x _)).wf hs
  have h : Halting (s.toReset x) v := halting_stopContext hrwf (halting_refl _) x
  obtain ⟨-, -, -, hctx, -⟩ := State.wf_iff.1 hs
  obtain ⟨-, hcores, -⟩ := State.wf_iff.1 (h.keeps.wf hrwf)
  have hrx : (s.toReset x).ctx x = { s.ctx x with st := .resetting, replaySet := [], cascades := [] } := by
    have h := State.ctx_setCtx_wf hctx x x { s.ctx x with st := .resetting, replaySet := [], cascades := [] }
    rw [if_pos rfl] at h
    exact h
  have hst := congrArg Context.st (h.ctx x)
  have hreplay := congrArg Context.replaySet (h.ctx x)
  rw [hrx] at hst hreplay
  have hframe := mapCores_frame v (v.coresOf x) Core.withdrawn
  have hsec : u.sec = v.sec := by have h := congrArg State.sec hframe; exact h
  have hmem : u.mem = v.mem := by have h := congrArg State.mem hframe; exact h
  have hof : v.coresOf x = s.coresOf x := coresOf_congr (fun g => (h.core g).1) x
  rw [hsec, hmem, h.sec, h.mem, mapCores_ctx]
  refine ⟨hst, hreplay, rfl, rfl, fun g hg k => ?_, rfl⟩
  have hstop : (v.unitOf k g).stopped = true := stopContext_stopped hrwf (by exact hg) k
  have hcore : u.core g = (v.core g).withdrawn := by
    rw [core_mapCores (f := Core.withdrawn) hcores.1 (fun _ => rfl), if_pos (by rw [hof]; exact hg)]
  rw [State.unitOf, hcore]
  cases k <;> exact ⟨hstop, rfl⟩

/-- The finish of a reset leaves queues, tensors and plan, sets the plan's counters anew and lets the units run (R209, R210). -/
theorem resetFinish_finishes (hs : s.wf = true) :
    let t := (s.coresOf x).foldl resetCore (resetSync s x)
    let u := t.setCtx x { t.ctx x with
      st := if (t.ctx x).plan.isSome then .ready else .opened, saved := [], parked := [], cascades := [], replaySet := []
      replayed := [], flipping := false, flipTensors := [], permute := none }
    (u.ctx x).st = (if (s.ctx x).plan.isSome then .ready else .opened) ∧ (u.ctx x).queues = (s.ctx x).queues ∧
    (u.ctx x).vts = (s.ctx x).vts ∧ (u.ctx x).plan = (s.ctx x).plan ∧
    (∀ p, (s.ctx x).plan = some p → ∀ r ∈ p.trans, r.kind = 0 →
      (u.ctr (trTarget (s.transEntry x r.vid.toNat))).produced = 0 ∧ (u.ctr (trTarget (s.transEntry x r.vid.toNat))).consumed = 0) ∧
    (∀ g ∈ s.coresOf x, (u.core g).job = none ∧ ∀ k, (u.unitOf k g).stopped = false) ∧
    { u with contexts := s.contexts, counters := s.counters, cores := s.cores } = s := by
  intro t u
  obtain ⟨-, hcores, hctrs, hctx, -⟩ := State.wf_iff.1 hs
  set v := (s.ctx x).transRecs.foldl (resetRecord x) s with hv
  have hvframe : { v with counters := s.counters } = s := foldl_resetRecord_frame x _ s
  have hvctx : v.contexts = s.contexts := by have h := congrArg State.contexts hvframe; exact h
  have hvcores : v.cores = s.cores := by have h := congrArg State.cores hvframe; exact h
  have hsync : resetSync s x = v.setCtx x { v.ctx x with barriers := smMap {} (fun _ b => b.clear) (v.ctx x).barriers } := rfl
  have htframe : { t with cores := (resetSync s x).cores } = resetSync s x := foldl_resetCore_frame _ _
  have htctx : t.contexts = (resetSync s x).contexts := by have h := congrArg State.contexts htframe; exact h
  have htctrs : t.counters = v.counters := by have h := congrArg State.counters htframe; exact h
  have hvx : v.ctx x = s.ctx x := by simp only [State.ctx, hvctx]
  have htx : t.ctx x = { s.ctx x with barriers := smMap {} (fun _ b => b.clear) (s.ctx x).barriers } := by
    rw [State.ctx, htctx, hsync, ← hvx]
    exact (smGet_smSet (by rw [hvctx]; exact hctx) x x _).trans (if_pos rfl)
  have hux : u.ctx x = _ := (State.ctx_setCtx_wf (s := t) (by
    rw [htctx, hsync]; exact smWf_smSet (by rw [hvctx]; exact hctx) ..) x x _).trans (if_pos rfl)
  rw [hux, htx]
  refine ⟨rfl, rfl, rfl, rfl, fun p hp r hr hk => ?_, fun g hg => ?_, ?_⟩
  · have hctr (q : Nat) : u.ctr q = v.ctr q := by
      show smGet {} t.counters q = smGet {} v.counters q
      rw [htctrs]
    rw [hctr]
    exact foldl_resetRecord_counters hctrs _ r (by simp only [Context.transRecs, hp]; exact hr) hk
  · exact foldl_resetCore_cores (s := resetSync s x) (by rw [hsync]; show smWf {} v.cores = true; rw [hvcores]; exact hcores.1) _ g hg
  · have h1 := congrArg (fun (y : State) => { y with contexts := s.contexts, counters := s.counters, cores := s.cores }) htframe
    have h2 := congrArg (fun (y : State) => { y with contexts := s.contexts }) hvframe
    have h3 : { resetSync s x with contexts := s.contexts, counters := s.counters, cores := s.cores } =
        { v with contexts := s.contexts, counters := s.counters, cores := v.cores } := by rw [hsync, hvcores]; rfl
    exact Eq.trans (Eq.trans h1 h3) h2

end

/-- Settles O12: each command by its row of the table; the finish of a reset by its folds over counters and cores. -/
theorem contextCommandsChangeTheContext : Obligations.ContextCommandsChangeTheContext := by
  constructor
  · intro s acc hs hsnap hadm s0 x c
    have hs0 : s0.wf = true := by simpa [s0] using hs
    have hx : s0.ctx x = c := touchSelects_ctx ..
    have hof : s0.coresOf x = s.coresOf x := touchSelects_coresOf ..
    have hmem : s0.mem = s.mem := touchSelects_mem ..
    have hlife : s0.sec = s.sec := by have h := congrArg State.sec (touchSelects_frame s acc); exact h
    have hrun {b : Bytes} {t : State} (hl : b.length = 16) (h : ctxCommand s0 x b = .ok t) :
        .next (dictCommand s acc 0x2A00 2 b) = Replied acc t := ctxCommand_replied hadm hsnap hl h
    rw [← hof, ← hmem, ← hlife]
    clear_value c
    subst hx
    refine ⟨fun sealed peer n hst => ?_, fun hst hout => ?_, fun hst => ?_, fun hst => ?_, fun hst => ?_, fun hst => ?_⟩
    · exact hrun (commandBytes_length ..) (ctxCommand_create hst sealed peer n)
    · exact ⟨_, hrun (commandBytes_length ..) (ctxCommand_destroy hst hout), freeContext_frees hs0⟩
    · exact ⟨_, hrun (commandBytes_length ..) (ctxCommand_stop hst), stop_stops hs0⟩
    · exact ⟨_, hrun (commandBytes_length ..) (ctxCommand_start hst), start_starts hs0⟩
    · exact ⟨_, hrun (commandBytes_length ..) (ctxCommand_reset hst), reset_resets hs0⟩
    · exact ⟨hrun (commandBytes_length ..) (ctxCommand_peer (.inl rfl) hst),
        hrun (commandBytes_length ..) (ctxCommand_peer (.inr rfl) hst)⟩
  · intro s x hs hsnap c hst hdrain hout hsec
    refine ⟨_, congrArg Host.Outcome.next ?_, resetFinish_finishes hs⟩
    rw [endSnapshot_idle hsnap]
    exact resetFinish_ends hst hdrain hout hsec

end Sys2Proof.Machine
end

section
/-! PROOFS. Queues: configuration, reset and acceptance (O13). -/

namespace Sys2Proof.Machine

/-! ### Queues (R212, R215, R221) -/

section
variable {s t : State} {x q : Nat}

/-- A queue changed into one that is not the default reads back, with no condition on the tables. -/
theorem queue_modQueue {f : Queue → Queue} (hf : f (s.queue x q) ≠ {}) : (s.modQueue x q f).queue x q = f (s.queue x q) := by
  have hq : smGet {} ((s.ctx x).modQueue q f).queues q = f (s.queue x q) := smGet_smSet_ne hf ..
  have hc : (s.ctx x).modQueue q f ≠ {} := by
    intro h
    rw [h] at hq
    exact hf hq.symm
  have hctx : (s.modQueue x q f).ctx x = (s.ctx x).modQueue q f := smGet_smSet_ne hc ..
  rw [State.queue, hctx, hq]

theorem modQueue_frame (s : State) (x q : Nat) (f : Queue → Queue) : { s.modQueue x q f with contexts := s.contexts } = s := rfl

theorem queue_modDesc {seq : BitVec 64} {f : HostDesc → HostDesc} (hf : (s.queue x q).configured = true) :
    (s.modDesc x q seq f).queue x q =
      { s.queue x q with descs := mapWhere (fun d => decide (d.seq = seq)) f (s.queue x q).descs } :=
  queue_modQueue (s := s) (f := fun k => { k with descs := mapWhere (fun d => decide (d.seq = seq)) f k.descs }) fun h => by
    have h' := congrArg Queue.configured h
    exact Bool.false_ne_true (h'.symm.trans hf)

/-! ### QUEUE_CONFIG (R212) -/

theorem queueConfigure_ok {b : Bytes} (hq : q < (s.ctx x).queueCount) (hst : (s.ctx x).st = .opened ∨ (s.ctx x).st = .stopped)
    (hout : (s.queue x q).outstanding = false) (hring : leAt b 0 6 % 128 = 0) (hn6 : 6 ≤ byteAt b 6) (hn9 : byteAt b 6 ≤ 9)
    (hfab : byteAt b 7 ≤ 1) (hcring : leAt b 8 6 % 64 = 0) (hirq : 0x300 ≤ leAt b 14 2) (hirq' : leAt b 14 2 ≤ 0x37F)
    (hzero : zeroRange b 24 32 = true) (hr : decodedRange s (leAt b 0 6) (128 * 2 ^ byteAt b 6) = true)
    (hcr : decodedRange s (leAt b 8 6) 16384 = true) :
    queueConfigure s x q b = .ok (s.modQueue x q (fun k =>
      { k with configured := true, ringBase := leAt b 0 6, ringLog2 := byteAt b 6, fabric := byteAt b 7 == 1
               cringBase := leAt b 8 6, irqVector := BitVec.ofNat 16 (leAt b 14 2), baseSeq := BitVec.ofNat 64 (leAt b 16 8)
               tail := BitVec.ofNat 64 (leAt b 16 8), accept := BitVec.ofNat 64 (leAt b 16 8)
               dispatch := BitVec.ofNat 64 (leAt b 16 8), complete := BitVec.ofNat 64 (leAt b 16 8)
               release := BitVec.ofNat 64 (leAt b 16 8), accepting := none, acceptEchoed := false
               resetting := false, descs := [] })) := by
  have hfree : (s.ctx x).st ≠ .free := by rcases hst with h | h <;> simp [h]
  have hok : [CtxState.opened, .stopped].contains (s.ctx x).st = true := by rcases hst with h | h <;> simp [h]
  unfold queueConfigure
  simp only [hzero, hr, hcr, hring, hcring, hout, hfree, hok, Nat.not_le.2 hq, Nat.not_lt.2 hn6, Nat.not_lt.2 hn9, Nat.not_lt.2 hfab,
    Nat.not_lt.2 hirq, Nat.not_lt.2 hirq']
  simp

/-! ### Queue reset (R237) -/

/-- What closing undispatched descriptors of a configured queue leaves: they alone change, and no other queue's memory. -/
structure Closing (s t : State) (x q : Nat) : Prop where
  mem : t.mem = s.mem
  configured : (t.queue x q).configured = true
  accept : (t.queue x q).accept = (s.queue x q).accept
  accepting : (t.queue x q).accepting = (s.queue x q).accepting
  length : (t.queue x q).descs.length = (s.queue x q).descs.length
  descs : ∀ e ∈ (t.queue x q).descs, e.undispatched = true → e ∈ (s.queue x q).descs

theorem closeDesc_eq {d : HostDesc} (hop : byteAt d.bytes 8 ≠ 1) (status : Nat) : closeDesc s x q status d =
    ((leaveWaits s (hostActor x q d.seq)).modDesc x q d.seq (fun d => d.closeWith status)).modQueue x q Queue.settle := by
  have habort : abortCall s x d = s := by
    unfold abortCall
    split
    · rfl
    · have hcomm (p : Plan) : calledComm p d.bytes = none := by simp [calledComm, hop]
      rw [hcomm]
  unfold closeDesc
  rw [habort]

theorem closeWith_dispatched (d : HostDesc) (status : Nat) : (d.closeWith status).undispatched = false := by
  simp [HostDesc.undispatched, HostDesc.closeWith]

theorem queue_closeDesc {d : HostDesc} (hop : byteAt d.bytes 8 ≠ 1) (hc : (s.queue x q).configured = true) (status : Nat) :
    (closeDesc s x q status d).queue x q =
      Queue.settle { s.queue x q with
        descs := mapWhere (fun e => decide (e.seq = d.seq)) (fun e => e.closeWith status) (s.queue x q).descs } := by
  have h1 := queue_modDesc (s := leaveWaits s (hostActor x q d.seq)) (seq := d.seq) (f := fun e => e.closeWith status) hc
  rw [closeDesc_eq hop, queue_modQueue, h1]
  · rfl
  · rw [h1]
    intro h
    have h' := congrArg Queue.configured h
    exact Bool.false_ne_true (h'.symm.trans hc)

/-- Closing one descriptor leaves it, and all of its sequence number, dispatched. -/
theorem closing_closeDesc {d : HostDesc} (hop : byteAt d.bytes 8 ≠ 1) (h : Closing s t x q) (status : Nat) :
    Closing s (closeDesc t x q status d) x q ∧
    (∀ e ∈ ((closeDesc t x q status d).queue x q).descs, e.seq = d.seq → e.undispatched = false) ∧
    ∀ n, (∀ e ∈ (t.queue x q).descs, e.seq = n → e.undispatched = false) →
      ∀ e ∈ ((closeDesc t x q status d).queue x q).descs, e.seq = n → e.undispatched = false := by
  have hq := queue_closeDesc hop h.configured status
  have hmem {e : HostDesc} (he : e ∈ ((closeDesc t x q status d).queue x q).descs) :
      e.undispatched = false ∨ e ∈ (t.queue x q).descs ∧ e.seq ≠ d.seq := by
    rw [hq] at he
    obtain ⟨e', he', rfl⟩ := List.mem_map.1 he
    by_cases hseq : e'.seq = d.seq
    · exact .inl (by simp [hseq, closeWith_dispatched])
    · exact .inr (by simpa [hseq] using he')
  refine ⟨⟨?_, ?_, ?_, ?_, ?_, fun e he hu => ?_⟩, fun e he hseq => ?_, fun n hn e he hseq => ?_⟩
  · rw [closeDesc_eq hop]; exact h.mem
  · rw [hq]; exact h.configured
  · rw [hq]; exact h.accept
  · rw [hq]; exact h.accepting
  · rw [hq]; exact (List.length_map _).trans h.length
  · rcases hmem he with h' | ⟨h', -⟩
    · rw [h'] at hu; cases hu
    · exact h.descs e h' hu
  · exact (hmem he).resolve_right fun h' => h'.2 hseq
  · rcases hmem he with h' | ⟨h', -⟩
    · exact h'
    · exact hn e h' hseq

theorem foldl_closeDesc {l : List HostDesc} (hop : ∀ d ∈ l, byteAt d.bytes 8 ≠ 1) (h : Closing s t x q) (status : Nat) :
    Closing s (l.foldl (fun s d => closeDesc s x q status d) t) x q ∧
    ∀ n, (n ∈ l.map (·.seq) ∨ ∀ e ∈ (t.queue x q).descs, e.seq = n → e.undispatched = false) →
      ∀ e ∈ ((l.foldl (fun s d => closeDesc s x q status d) t).queue x q).descs, e.seq = n → e.undispatched = false := by
  induction l generalizing t with
  | nil => exact ⟨h, fun n hn => hn.resolve_left (by simp)⟩
  | cons d l ih =>
    obtain ⟨h1, h2, h3⟩ := closing_closeDesc (hop d (by simp)) h status
    obtain ⟨h4, h5⟩ := ih (fun e he => hop e (by simp [he])) h1
    refine ⟨h4, fun n hn => h5 n ?_⟩
    rcases hn with hn | hn
    · rcases List.mem_cons.1 hn with rfl | hn
      · exact .inr h2
      · exact .inl hn
    · exact .inr (h3 n hn)

/-- The queue once a reset has closed what it closes. -/
def Queue.reopen (k : Queue) : Queue :=
  { k with error := false, resetting := k.accepting.isSome, tail := if k.accepting.isSome then k.tail else k.accept }

/-- A queue reset closes what is not dispatched and was not tried before, and takes the tail back to accept (R237). -/
theorem queueReset_ok (hq : q < (s.ctx x).queueCount) (hst : (s.ctx x).st ≠ .free) (hc : (s.queue x q).configured = true)
    (hacc : (s.queue x q).accepting = none)
    (hop : ∀ d ∈ (s.queue x q).descs, d.undispatched = true → byteAt d.bytes 8 ≠ 1) :
    ∃ u, queueReset s x q = .ok u ∧ (u.queue x q).error = false ∧ (u.queue x q).tail = (s.queue x q).accept ∧
      (u.queue x q).accept = (s.queue x q).accept ∧ (∀ d ∈ (u.queue x q).descs, d.undispatched = true → 0 < d.attempts) ∧
      (u.queue x q).descs.length = (s.queue x q).descs.length ∧ u.mem = s.mem := by
  set l := (s.queue x q).descs.filter (fun d => d.undispatched && decide (d.attempts = 0)) with hl
  have hl' {d : HostDesc} : d ∈ l ↔ d ∈ (s.queue x q).descs ∧ d.undispatched = true ∧ d.attempts = 0 := by simp [hl]
  have h0 : Closing s (clearStaging s) x q := ⟨rfl, hc, rfl, rfl, rfl, fun _ he _ => he⟩
  obtain ⟨h1, h2⟩ := foldl_closeDesc (l := l) (fun d hd => hop d (hl'.1 hd).1 (hl'.1 hd).2.1) h0 stCancelled
  generalize hfold : l.foldl (fun s d => closeDesc s x q stCancelled d) (clearStaging s) = v at h1 h2
  have hread : (v.modQueue x q Queue.reopen).queue x q = (v.queue x q).reopen := by
    refine queue_modQueue fun h => ?_
    have h' := congrArg Queue.configured h
    exact Bool.false_ne_true (h'.symm.trans h1.configured)
  refine ⟨v.modQueue x q Queue.reopen, ?_, ?_⟩
  · unfold queueReset
    simp only [hc, hst, Nat.not_le.2 hq, ← hl, hfold]
    rfl
  · rw [hread, Queue.reopen, h1.accepting, hacc]
    refine ⟨rfl, h1.accept, h1.accept, fun d hd hu => ?_, h1.length, h1.mem⟩
    refine Nat.pos_of_ne_zero fun h0 => ?_
    have hmem := h1.descs d hd hu
    have := h2 d.seq (.inl (List.mem_map.2 ⟨d, hl'.2 ⟨hmem, hu, h0⟩, rfl⟩)) d hd rfl
    rw [this] at hu
    cases hu

/-! ### Acceptance (R221) -/

/-- A write of the journal changes memory alone. -/
theorem journalWrite_eq (s : State) (x q : Nat) (seq : BitVec 64) (off : Nat) (b : Bytes) :
    journalWrite s x q seq off b = { s with mem := (journalWrite s x q seq off b).mem } := by
  unfold journalWrite
  generalize s.mem.journal = l
  induction l generalizing s with
  | nil => rfl
  | cons c l ih => rw [List.foldl_cons, ih]

theorem addCredit_echoes (d : Drinex) (cls : BitVec 2) (n : Int) : (d.addCredit cls n).echoes = d.echoes := by
  unfold Drinex.addCredit
  dsimp only
  split <;> rfl

theorem place_echoes (d : Drinex) (cls : BitVec 2) (n : Nat) : (d.place cls n).echoes = d.echoes := addCredit_echoes ..

theorem returnCredits_echoes (s : State) : (returnCredits s).drinex.echoes = s.drinex.echoes := by
  unfold returnCredits
  dsimp only
  split <;> rfl

/-- What is sent over Drinex leaves the echoes that are outstanding. -/
theorem drainTxns_echoes (n : Nat) (s : State) : (drainTxns n s).drinex.echoes = s.drinex.echoes := by
  induction n generalizing s with
  | zero => rfl
  | succ n ih =>
    unfold drainTxns
    split
    · rfl
    split
    · rfl
    · rw [ih, returnCredits_echoes]
      exact place_echoes ..

theorem sendTxn_echoes (s : State) (c : BitVec 2) (n : Nat) (o : Output) : (sendTxn s c n o).drinex.echoes = s.drinex.echoes :=
  drainTxns_echoes ..

/-- An echo that is sent is outstanding, and sending changes neither memory nor contexts (R224). -/
theorem sendEcho_sent (s : State) (x q : Nat) (c : Bool) (seq : BitVec 64) (b : Bytes) :
    (sendEcho s x q c seq b).drinex.echoes.contains (x, q, c, seq) = true ∧
    { sendEcho s x q c seq b with drinex := s.drinex, out := s.out } = s := by
  unfold sendEcho
  refine ⟨?_, ?_⟩
  · rw [sendTxn_echoes]
    simp
  · have h := congrArg (fun (t : State) => { t with drinex := s.drinex }) (sendTxn_frame { s with drinex := { s.drinex with
      echoes := s.drinex.echoes.filter (fun k => decide (k ≠ (x, q, c, seq))) ++ [(x, q, c, seq)] } } 3 64 (.echo x q c seq b))
    exact h

theorem acceptStart_reads {d : Bytes} (hmay : mayAccept s x q = true)
    (hread : readMem s s.mem 128 ((s.queue x q).ringBase + (s.queue x q).accept.toNat % 2 ^ (s.queue x q).ringLog2 * 128) = .ok d)
    (hseq : dSeq d = (s.queue x q).accept.toNat) :
    (acceptStart s x q).queue x q = { s.queue x q with accepting := some { seq := (s.queue x q).accept, bytes := d }, acceptEchoed := false } ∧
    (acceptStart s x q).mem = (journalWrite s x q (s.queue x q).accept 0 (acceptBlock s x q (s.queue x q).accept d)).mem ∧
    (acceptStart s x q).drinex.echoes.contains (x, q, false, (s.queue x q).accept) = true := by
  set b := acceptBlock s x q (s.queue x q).accept d with hb
  set f : Queue → Queue := fun k => { k with accepting := some { seq := (s.queue x q).accept, bytes := d }, acceptEchoed := false } with hf
  set v := (journalWrite s x q (s.queue x q).accept 0 b).modQueue x q f with hv
  have hstart : acceptStart s x q = sendEcho v x q false (s.queue x q).accept (b.take 64) := by
    unfold acceptStart
    simp only [hmay, hread, hseq]
    simp only [Bool.not_true, Bool.false_eq_true, if_false, ne_eq, not_true_eq_false]
    rfl
  have hjq : (journalWrite s x q (s.queue x q).accept 0 b).queue x q = s.queue x q := by rw [journalWrite_eq]; rfl
  have hvq : v.queue x q = f (s.queue x q) := by
    rw [hv, queue_modQueue, hjq]
    rw [hjq]
    intro h
    cases congrArg Queue.accepting h
  obtain ⟨hecho, hframe⟩ := sendEcho_sent v x q false (s.queue x q).accept (b.take 64)
  have hctx := congrArg (fun (t : State) => t.queue x q) hframe
  have hmem := congrArg State.mem hframe
  rw [hstart]
  exact ⟨Eq.trans hctx hvq, hmem, hecho⟩

theorem acceptAdvanceTo_advances {d : HostDesc} (hd : (s.queue x q).accepting = some d) (hecho : (s.queue x q).acceptEchoed = true)
    (hdue : s.echoDue x q false = false) (hrel : s.mem.relocating = none) (hreset : (s.queue x q).resetting = false) :
    ((acceptAdvanceTo s x q).queue x q).accept = (s.queue x q).accept + 1 ∧
    ((acceptAdvanceTo s x q).queue x q).accepting = none ∧
    ((acceptAdvanceTo s x q).queue x q).descs =
      (s.queue x q).descs ++ [{ d with acceptTime := s.clkc, order := (s.ctx x).accepts }] ∧
    { acceptAdvanceTo s x q with contexts := s.contexts } = s := by
  set c : Context := { s.ctx x with accepts := (s.ctx x).accepts + 1 } with hc
  have hcne : c ≠ {} := fun h => by cases congrArg Context.accepts h
  have hq : (s.setCtx x c).queue x q = s.queue x q := by
    have hctx : (s.setCtx x c).ctx x = c := smGet_smSet_ne hcne ..
    rw [State.queue, hctx]; rfl
  unfold acceptAdvanceTo
  simp only [hd, hecho, hdue, hrel, hreset]
  simp only [Bool.not_true, Bool.false_or, Option.isSome_none, Bool.false_eq_true, if_false]
  rw [queue_modQueue (s := s.setCtx x c), hq]
  · exact ⟨rfl, rfl, rfl, rfl⟩
  · rw [hq]
    intro h
    have := congrArg Queue.descs h
    simp at this

end

theorem plainSize_queueConfig : plainSize 0x2A01 2 = some 32 := by decide +kernel
theorem plainSize_queueReset : plainSize 0x2A01 4 = some 1 := by decide +kernel

/-- Settles O13: configuration and reset are writes of their objects; acceptance by the equations of its two steps. -/
theorem queuesAcceptDescriptors : Obligations.QueuesAcceptDescriptors := by
  refine ⟨fun s acc b => ?_, fun s acc => ?_, fun s x q d => ?_, fun s x q d => ?_⟩
  · intro s0 x q v hsnap hadm hl hq hst hout hring hn6 hn9 hfab hcring hirq hirq' hzero hr hcr
    have hx : s0.ctx x = s.ctx x := touchSelects_ctx ..
    refine dictCommand_replied hadm (hl ▸ plainSize_queueConfig) ?_
    have hw : writePlain s0 acc 0x2A01 2 b = answerOf s0 (queueConfigure (endSnapshot s0) (s0.selects acc).ctx.toNat
      (s0.selects acc).queue.toNat b) := rfl
    rw [hw, endSnapshot_idle (by simpa [s0] using hsnap), touchSelects_selects]
    rw [queueConfigure_ok (by rw [hx]; exact hq) (by rw [hx]; exact hst) (by rw [State.queue, hx]; exact hout) hring hn6 hn9 hfab hcring
      hirq hirq' hzero hr hcr]
    rfl
  · intro x q k hs hsnap hadm hq hst hc hacc hop
    have hx : (touchSelects s acc).ctx x = s.ctx x := touchSelects_ctx ..
    have hk : (touchSelects s acc).queue x q = k := by rw [State.queue, hx]; rfl
    have hmem : (touchSelects s acc).mem = s.mem := touchSelects_mem ..
    obtain ⟨u, hu, hrest⟩ := queueReset_ok (s := touchSelects s acc) (x := x) (q := q) (by rw [hx]; exact hq) (by rw [hx]; exact hst)
      (by rw [hk]; exact hc) (by rw [hk]; exact hacc) (by rw [hk]; exact hop)
    rw [hk, hmem] at hrest
    refine ⟨u, dictCommand_replied hadm plainSize_queueReset ?_, hrest⟩
    have hw : writePlain (touchSelects s acc) acc 0x2A01 4 [1#8] = answerOf (touchSelects s acc)
      (queueReset (endSnapshot (touchSelects s acc)) ((touchSelects s acc).selects acc).ctx.toNat
        ((touchSelects s acc).selects acc).queue.toNat) := rfl
    rw [hw, endSnapshot_idle (by simpa using hsnap), touchSelects_selects, hu]
    rfl
  · intro k hsnap hmay hread hseq
    refine ⟨_, congrArg (fun t => Host.Outcome.next (acceptStart t x q)) (endSnapshot_idle hsnap), acceptStart_reads hmay hread hseq⟩
  · intro k hsnap hd hecho hdue hrel hreset
    exact ⟨_, congrArg (fun t => Host.Outcome.next (acceptAdvanceTo t x q)) (endSnapshot_idle hsnap),
      acceptAdvanceTo_advances hd hecho hdue hrel hreset⟩

end Sys2Proof.Machine
end

section
/-! PROOFS. Host descriptors that are taken up and dispatched (O14). -/

namespace Sys2Proof.Machine

/-! ### Host descriptors taken up and dispatched (R216, R217) -/

section
variable {s t : State} {x q : Nat} {d : HostDesc}

theorem ctx_modQueue {f : Queue → Queue} (hf : f (s.queue x q) ≠ {}) : (s.modQueue x q f).ctx x = (s.ctx x).modQueue q f := by
  have hq : smGet {} ((s.ctx x).modQueue q f).queues q = f (s.queue x q) := smGet_smSet_ne hf ..
  refine smGet_smSet_ne (fun h => ?_) ..
  rw [h] at hq
  exact hf hq.symm

theorem Queue.ne_default_of_descs {k : Queue} (h : k.descs ≠ []) : k ≠ {} := by
  rintro rfl
  exact h rfl

theorem mapWhere_ne_nil {α : Type} {p : α → Bool} {f : α → α} {l : List α} (h : l ≠ []) : mapWhere p f l ≠ [] := by
  simpa [mapWhere] using h

/-- A change of a descriptor in a queue that holds one. -/
theorem modDesc_queue (h : (s.queue x q).descs ≠ []) (seq : BitVec 64) (f : HostDesc → HostDesc) :
    (s.modDesc x q seq f).queue x q = { s.queue x q with descs := mapWhere (fun d => decide (d.seq = seq)) f (s.queue x q).descs } ∧
    (s.modDesc x q seq f).ctx x =
      (s.ctx x).modQueue q (fun k => { k with descs := mapWhere (fun d => decide (d.seq = seq)) f k.descs }) := by
  have hne : ({ s.queue x q with descs := mapWhere (fun d => decide (d.seq = seq)) f (s.queue x q).descs } : Queue) ≠ {} :=
    Queue.ne_default_of_descs (mapWhere_ne_nil h)
  exact ⟨queue_modQueue hne, ctx_modQueue hne⟩

theorem find?_mapWhere_seq {l : List HostDesc} {n : BitVec 64} {e : HostDesc} {f : HostDesc → HostDesc}
    (h : l.find? (fun d => decide (d.seq = n)) = some e) (hf : ∀ d, (f d).seq = d.seq) :
    (mapWhere (fun d => decide (d.seq = n)) f l).find? (fun d => decide (d.seq = n)) = some (f e) := by
  induction l with
  | nil => cases h
  | cons a l ih =>
    simp only [List.find?_cons] at h
    by_cases ha : a.seq = n
    · simp only [ha, decide_true, Option.some.injEq] at h
      subst h
      simp [mapWhere, ha, hf]
    · simp only [ha, decide_false] at h
      have := ih h
      simpa [mapWhere, ha] using this

theorem desc?_ne_nil {e : HostDesc} (h : s.desc? x q d.seq = some e) : (s.queue x q).descs ≠ [] :=
  List.ne_nil_of_mem (List.mem_of_find?_eq_some h)

theorem desc?_modDesc {e : HostDesc} {n : BitVec 64} {f : HostDesc → HostDesc} (h : s.desc? x q n = some e) (hf : ∀ d, (f d).seq = d.seq) :
    (s.modDesc x q n f).desc? x q n = some (f e) := by
  have hne : (s.queue x q).descs ≠ [] := List.ne_nil_of_mem (List.mem_of_find?_eq_some h)
  have hq := (modDesc_queue hne n f).1
  have hread : (s.modDesc x q n f).desc? x q n = ((s.modDesc x q n f).queue x q).descs.find? (fun d => decide (d.seq = n)) := rfl
  rw [hread, hq]
  exact find?_mapWhere_seq h hf

/-- The state that counts a dispatch of its context, and a replay when the descriptor was tried before. -/
def State.dispatchCounted (s : State) (x : Nat) (d : HostDesc) : State :=
  let s := s.setCtx x { s.ctx x with dispatches := (s.ctx x).dispatches + 1 }
  if 0 < d.attempts then { s with queueObjs := { s.queueObjs with replays := satAdd s.queueObjs.replays 1 } } else s

/-- The descriptor as its dispatch marks it. -/
def HostDesc.dispatchedAs (turn : Nat) (recs : List (Nat × BitVec 64 × BitVec 64 × Nat))
    (named : Bytes → List (Nat × Bool)) (d : HostDesc) : HostDesc :=
  { d with phase := .dispatched, attempts := d.attempts + 1, turn := turn, record := recs, named := named d.bytes
           outcomes := [], flags := 0 }

/-- The counters that a plan's records name, as a dispatch keeps them for replay (R232). -/
def State.dispatchRecord (s : State) (x : Nat) : List (Nat × BitVec 64 × BitVec 64 × Nat) :=
  (s.ctx x).transRecs.filterMap (fun t =>
    let e := s.transEntry x t.vid.toNat
    let k := s.ctr (trTarget e)
    if t.kind = 0 then some (trTarget e, k.produced, k.consumed, k.grants) else none)

theorem markDispatched_eq (s : State) (x q : Nat) (d : HostDesc) (f : HostDesc → HostDesc) :
    markDispatched s x q d f =
      ((s.dispatchCounted x d).modDesc x q d.seq (fun k => f (k.dispatchedAs (s.ctx x).dispatches (s.dispatchRecord x)
        (namedCounters (s.dispatchCounted x d) x)))).modQueue x q Queue.settle := by
  unfold markDispatched State.dispatchRecord Context.transRecs State.dispatchCounted HostDesc.dispatchedAs
  rfl

theorem dispatchCounted_frame (s : State) (x : Nat) (d : HostDesc) :
    { s.dispatchCounted x d with contexts := s.contexts, queueObjs := s.queueObjs } = s := by
  unfold State.dispatchCounted
  dsimp only
  split <;> rfl

theorem dispatchCounted_ctx (s : State) (x : Nat) (d : HostDesc) :
    (s.dispatchCounted x d).ctx x = { s.ctx x with dispatches := (s.ctx x).dispatches + 1 } := by
  have hctx : (s.dispatchCounted x d).contexts = (s.setCtx x { s.ctx x with dispatches := (s.ctx x).dispatches + 1 }).contexts := by
    unfold State.dispatchCounted
    dsimp only
    split <;> rfl
  rw [State.ctx, hctx]
  exact smGet_smSet_ne (fun h => by cases congrArg Context.dispatches h) ..

theorem markDispatched_frame (s : State) (x q : Nat) (d : HostDesc) (f : HostDesc → HostDesc) :
    { markDispatched s x q d f with contexts := s.contexts, queueObjs := s.queueObjs } = s := by
  rw [markDispatched_eq]
  have h := dispatchCounted_frame s x d
  generalize s.dispatchCounted x d = u at h ⊢
  exact h

/-- A dispatch marks its descriptor, and of its context the queues and the count of dispatches alone change. -/
theorem markDispatched_marks {e : HostDesc} {f : HostDesc → HostDesc} (h : s.desc? x q d.seq = some e) (hf : ∀ d, (f d).seq = d.seq) :
    (∃ turn recs named, (markDispatched s x q d f).desc? x q d.seq = some (f (e.dispatchedAs turn recs named))) ∧
    ∃ qs n, (markDispatched s x q d f).ctx x = { s.ctx x with queues := qs, dispatches := n } := by
  rw [markDispatched_eq]
  generalize s.dispatchRecord x = recs
  generalize namedCounters (s.dispatchCounted x d) x = named
  generalize (s.ctx x).dispatches = turn
  set u := s.dispatchCounted x d with hu
  have hux := dispatchCounted_ctx s x d
  rw [← hu] at hux
  have hq : u.queue x q = s.queue x q := by rw [State.queue, hux]; rfl
  have hd : u.desc? x q d.seq = some e := by
    have hread : u.desc? x q d.seq = (u.queue x q).descs.find? (fun k => decide (k.seq = d.seq)) := rfl
    rw [hread, hq]; exact h
  have hne : (u.queue x q).descs ≠ [] := desc?_ne_nil hd
  obtain ⟨hqv, hcv⟩ := modDesc_queue hne d.seq (fun k => f (k.dispatchedAs turn recs named))
  have hdv := desc?_modDesc hd (f := fun k => f (k.dispatchedAs turn recs named)) (fun k => hf _)
  set v := u.modDesc x q d.seq (fun k => f (k.dispatchedAs turn recs named)) with hv
  have hnev : (v.queue x q).settle ≠ {} := Queue.ne_default_of_descs (k := (v.queue x q).settle) (by
    rw [hqv]; exact mapWhere_ne_nil hne)
  refine ⟨⟨turn, recs, named, ?_⟩, ?_⟩
  · have hread : (v.modQueue x q Queue.settle).desc? x q d.seq =
        ((v.modQueue x q Queue.settle).queue x q).descs.find? (fun k => decide (k.seq = d.seq)) := rfl
    rw [hread, queue_modQueue hnev]
    exact hdv
  · rw [ctx_modQueue hnev, hcv, hux]
    exact ⟨_, _, rfl⟩

/-- A descriptor whose work ends as it is dispatched carries its one status. -/
theorem dispatchWith_done {e : HostDesc} {x : CtxId} {q : QueueId} (h : s.desc? x q d.seq = some e) (st : Nat) :
    HostDone (dispatchWith s x q d st) x q d (BitVec.ofNat 16 st) ∧
    (∃ qs n, (dispatchWith s x q d st).ctx x = { s.ctx x with queues := qs, dispatches := n }) ∧
    { dispatchWith s x q d st with contexts := s.contexts, queueObjs := s.queueObjs } = s := by
  obtain ⟨⟨turn, recs, named, hd⟩, hctx⟩ := markDispatched_marks
    (f := fun d => { d with outcomes := [BitVec.ofNat 16 st], workDone := true, released := true }) h (fun _ => by exact rfl)
  exact ⟨⟨_, hd, rfl, rfl, rfl⟩, hctx, markDispatched_frame ..⟩

/-! ### A host descriptor that is ready -/

/-- The two states answer alike what a wait of the context's descriptors asks. -/
theorem hostWait_congr (hc : (s.ctx x).SameButQueues (t.ctx x)) (hctr : t.counters = s.counters) (d : HostDesc) :
    hostWait t x d = hostWait s x d := by
  have htr := congrArg Context.trans hc
  have hbar := congrArg Context.barriers hc
  have h1 (v : Nat) : t.transEntry x v = s.transEntry x v := congrArg (fun m => (smGet 0#64 m v).toNat) htr
  have h2 (v : Nat) : t.barrier x v = s.barrier x v := congrArg (fun m => smGet ({} : Barrier) m v) hbar
  have h3 (p : Nat) : t.ctr p = s.ctr p := by simp only [State.ctr, hctr]
  simp only [hostWait, State.waitMarked, h1, h2, h3]

theorem hostReady_iff {x : CtxId} {q : QueueId} {op : Nat} (h : HostReady s x q op d = true) :
    (s.queue x q).descs.find? (·.undispatched) = some d ∧ byteAt d.bytes 8 = op ∧ s.device ≠ .bootLimited ∧
    s.queueObjs.snapBusy = false ∧ stateDispatches (s.ctx x) q d = true ∧
    (!(dFence d.bytes) || decide ((s.queue x q).descs.head?.map (·.seq) = some d.seq)) = true ∧ cascadeHolds (s.ctx x) d = false ∧
    hostReservedOk d.bytes = true ∧
    syncFieldsOk s x 576 (dWaitEn d.bytes) (dWaitVid d.bytes) (dSigEn d.bytes) (dSigVid d.bytes) (dSigAmt d.bytes) = true ∧
    hostWait (s.taken x q d) x d = .ready := by
  simp only [HostReady, Bool.and_eq_true, decide_eq_true_eq, Bool.not_eq_true'] at h
  obtain ⟨⟨⟨⟨⟨⟨⟨⟨⟨h0, h1⟩, h2⟩, h3⟩, h4⟩, h5⟩, h6⟩, h7⟩, h8⟩, h9⟩ := h
  exact ⟨h0, h1, h2, h3, h4, h5, h6, h7, h8, h9⟩

theorem modDesc_sameButQueues (h : (s.queue x q).descs ≠ []) (n : BitVec 64) (f : HostDesc → HostDesc) :
    (s.ctx x).SameButQueues ((s.modDesc x q n f).ctx x) := by
  rw [(modDesc_queue h n f).2]
  rfl

theorem modDesc_descs_ne_nil (h : (s.queue x q).descs ≠ []) (n : BitVec 64) (f : HostDesc → HostDesc) :
    ((s.modDesc x q n f).queue x q).descs ≠ [] := by
  rw [(modDesc_queue h n f).1]
  exact mapWhere_ne_nil h

/-- What taking a descriptor up leaves: its queue alone is changed. -/
theorem taken_taken {x : CtxId} {q : QueueId} (hmem : d ∈ (s.queue x q).descs) :
    (∃ e, (s.taken x q d).desc? x q d.seq = some e) ∧ (s.ctx x).SameButQueues ((s.taken x q d).ctx x) ∧
    { s.taken x q d with contexts := s.contexts } = s := by
  have hne : (s.queue x q).descs ≠ [] := List.ne_nil_of_mem hmem
  obtain ⟨e, he⟩ : ∃ e, s.desc? x q d.seq = some e :=
    Option.isSome_iff_exists.1 (List.find?_isSome.2 ⟨d, hmem, decide_eq_true rfl⟩)
  have h1 := desc?_modDesc (f := fun k => { k with phase := .waiting }) he (fun _ => rfl)
  have h2 := desc?_modDesc (f := fun k => { k with granted := k.granted || dWaitEn k.bytes }) h1 (fun _ => rfl)
  exact ⟨⟨_, h2⟩, (modDesc_sameButQueues hne _ _).trans (modDesc_sameButQueues (modDesc_descs_ne_nil hne _ _) _ _), rfl⟩

/-- A ready descriptor is taken up and its body runs. -/
theorem hostOp_ready {x : CtxId} {q : QueueId} {op : Nat} (h : HostReady s x q op d = true) (hop : 1 ≤ op ∧ op ≤ 5)
    (body : State → HostDesc → State) : hostOp op x q (endSnapshot s) body = body (s.taken x q d) d ∧ d ∈ (s.queue x q).descs := by
  obtain ⟨hfind, hopc, hdev, hsnap, hstate, hfence, hcasc, hres, hsync, hwait⟩ := hostReady_iff h
  have hmem : d ∈ (s.queue x q).descs := List.mem_of_find?_eq_some hfind
  have hne : (s.queue x q).descs ≠ [] := List.ne_nil_of_mem hmem
  have hwait1 : hostWait (s.modDesc x q d.seq (fun k => { k with phase := .waiting })) x d = .ready :=
    (hostWait_congr (modDesc_sameButQueues (modDesc_descs_ne_nil hne _ _) _ _) rfl d).symm.trans hwait
  have hlisted : (decide (1 ≤ op) && decide (op ≤ 5)) = true := by simpa using hop
  have hno : (dFence d.bytes && decide ((s.queue x q).descs.head?.map (·.seq) ≠ some d.seq)) = false := by
    revert hfence
    cases dFence d.bytes <;> simp
  refine ⟨?_, hmem⟩
  rw [endSnapshot_idle hsnap]
  unfold hostOp
  simp only [hfind, hopc, hlisted, hdev, hstate, hno, hcasc, hres, hsync, bne_self_eq_false, Bool.and_false, Bool.not_true, decide_false,
    Bool.or_self, Bool.false_eq_true, if_false, hwait1]
  rfl

/-- PLAN_UNLOAD, VT_SET and SYNC leave the rest of the state. -/
theorem frame_of_taken {x : CtxId} {q : QueueId} (hw : { s.taken x q d with contexts := s.contexts } = s)
    (ht : { t with contexts := (s.taken x q d).contexts, queueObjs := (s.taken x q d).queueObjs } = s.taken x q d) :
    { t with contexts := s.contexts, queueObjs := s.queueObjs } = s := by
  have h := congrArg (fun (k : State) => { k with contexts := s.contexts, queueObjs := s.queueObjs }) ht
  have h' := congrArg (fun (k : State) => { k with queueObjs := s.queueObjs }) hw
  exact Eq.trans h h'

end

/-! ### The admission of a plan (R177 to R179) -/

/-- The contexts differ in a plan's translation table and barriers alone. -/
def Context.SameButTables (c c' : Context) : Prop := { c' with trans := c.trans, barriers := c.barriers } = c

section
variable {s t : State} {x : Nat} {p : Plan}

theorem Context.SameButTables.trans {a b c : Context} (h : a.SameButTables b) (h' : b.SameButTables c) : a.SameButTables c := by
  have h1 := congrArg (fun (k : Context) => { k with trans := a.trans, barriers := a.barriers }) h'
  exact Eq.trans h1 h

/-- The two states differ in counters, and in the tables of the plan of one context. -/
structure Tabling (s t : State) (x : Nat) : Prop where
  wf : smWf {} t.contexts = true
  ctx : (s.ctx x).SameButTables (t.ctx x)

theorem tabling_setCtx (h : Tabling s t x) {c : Context} (hc : (t.ctx x).SameButTables c) : Tabling s (t.setCtx x c) x :=
  ⟨smWf_smSet h.wf .., by rw [State.ctx_setCtx_wf h.wf, if_pos rfl]; exact h.ctx.trans hc⟩

theorem tabling_same (h : Tabling s t x) {u : State} (hu : u.contexts = t.contexts) : Tabling s u x :=
  ⟨by rw [hu]; exact h.wf, by
    have hctx : u.ctx x = t.ctx x := by simp only [State.ctx, hu]
    rw [hctx]; exact h.ctx⟩

theorem tabling_setBarrier (h : Tabling s t x) (k b) : Tabling s (t.setBarrier x k b) x := tabling_setCtx h rfl

theorem tabling_loadTrans (h : Tabling s t x) (p : Plan) (r : TransRec) (phys : Nat) : Tabling s (loadTrans x p t r phys) x := by
  have hput (e : Nat) : Tabling s (t.setCtx x { t.ctx x with trans := smSet 0#64 (t.ctx x).trans r.vid.toNat (BitVec.ofNat 64 e) }) x :=
    tabling_setCtx h rfl
  unfold loadTrans
  dsimp only
  split
  · exact tabling_same (hput _) rfl
  · exact hput _
  · exact tabling_setBarrier (hput _) _ _

theorem tabling_loadAllTrans (h : Tabling s t x) (p : Plan) (fs : List Nat) (rs : List TransRec) :
    Tabling s (loadAllTrans x p fs rs t) x := by
  induction rs generalizing t fs with
  | nil => exact h
  | cons r rs ih =>
    unfold loadAllTrans
    split
    · exact ih (tabling_loadTrans h ..) _
    · exact ih (tabling_loadTrans h ..) _

theorem foldl_setCtr_contexts (l : List Nat) (f : Nat → Counter) (s : State) :
    (l.foldl (fun s q => s.setCtr q (f q)) s).contexts = s.contexts := by
  induction l generalizing s with
  | nil => rfl
  | cons q l ih => exact (ih _).trans rfl

theorem setCtx_wf (h : smWf {} s.contexts = true) (x : Nat) (c : Context) : smWf {} (s.setCtx x c).contexts = true := smWf_smSet h ..

/-- A plan taken makes its context ready; its queues stay (R177). -/
theorem takePlan_ctx (hs : s.wf = true) : ((takePlan s x p).ctx x).st = .ready ∧ ((takePlan s x p).ctx x).plan = some p ∧
    ((takePlan s x p).ctx x).queues = (s.ctx x).queues := by
  obtain ⟨-, -, -, hctx, -⟩ := State.wf_iff.1 hs
  unfold takePlan
  extract_lets fs loc mine _ s1 c slots s2 s3 s4 s5
  have h2 : smWf {} s2.contexts = true := setCtx_wf (s := s1) hctx ..
  have h2x : s2.ctx x = { c with plan := some p, st := .ready, trans := [], barriers := [], barrierDie := planDie p
                                 slots := slots, phase := 0, flipping := false } := by
    have h := State.ctx_setCtx_wf (s := s1) hctx x x { c with plan := some p, st := .ready, trans := [], barriers := [], barrierDie := planDie p, slots := slots, phase := 0, flipping := false }
    exact h.trans (if_pos rfl)
  have h3 : Tabling s2 s3 x := by
    have h : Tabling s2 s2 x := ⟨h2, rfl⟩
    simp only [s3]
    split
    · exact tabling_setBarrier h ..
    · exact h
  have h4 : Tabling s2 s4 x := tabling_loadAllTrans h3 ..
  have h6 : (settleScratch s5).contexts = s4.contexts := by
    rw [(settleScratch_keeps s5).2.2.1]
    exact foldl_setCtr_contexts _ (fun _ => _) _
  obtain ⟨-, h7⟩ := tabling_same h4 h6
  rw [h2x] at h7
  have hst := congrArg Context.st h7
  have hplan := congrArg Context.plan h7
  have hqueues := congrArg Context.queues h7
  exact ⟨hst, hplan, hqueues⟩

/-- What the answer to an admission says of the context: admitted, it is ready and holds a plan; refused, it stays (R177). -/
def Admission (s : State) (x : Nat) (a : State × Nat) : Prop :=
  (a.1.ctx x).queues = (s.ctx x).queues ∧ (a.2 = 0 → (a.1.ctx x).st = .ready ∧ (a.1.ctx x).plan.isSome = true) ∧
  (a.2 ≠ 0 → (a.1.ctx x).st = (s.ctx x).st ∧ (a.1.ctx x).plan = (s.ctx x).plan)

theorem admission_refused {st : Nat} (hst : st ≠ 0) (h : t.contexts = s.contexts) : Admission s x (t, st) := by
  have hx : t.ctx x = s.ctx x := by simp only [State.ctx, h]
  exact ⟨by rw [hx], fun h0 => absurd h0 hst, fun _ => by simp only [hx, and_self]⟩

theorem writeNotes_contexts (s : State) (a : Actor) (op : Nat) (l : List FaultNote) : (writeNotes s a op l).contexts = s.contexts := by
  unfold writeNotes
  induction l generalizing s with
  | nil => rfl
  | cons n l ih => exact (ih _).trans (reports_fault (reports_refl s) _).contexts

theorem admitPlan_admission (hs : s.wf = true) (x a : Nat) (who : Actor) : Admission s x (admitPlan s x a who) := by
  obtain ⟨-, -, -, hctx, -⟩ := State.wf_iff.1 hs
  have hbad : Admission s x (s, stBad) := admission_refused (by decide) rfl
  have hdata (n : List FaultNote) : Admission s x (writeNotes s who 2 n, stData) :=
    admission_refused (by decide) (writeNotes_contexts ..)
  fun_cases admitPlan
  case case1 => exact hbad
  case case2 => exact hdata _
  case case3 => exact hbad
  case case4 => exact hdata _
  case case5 => exact hbad
  case case6 => exact hbad
  case case7 => exact hbad
  case case8 p _ _ _ _ =>
    obtain ⟨h1, h2, h3⟩ := takePlan_ctx (x := x) (p := p) hs
    exact ⟨h3, fun _ => ⟨h1, by rw [h2]; rfl⟩, fun h => absurd rfl h⟩
  case case9 =>
    refine ⟨?_, fun h => absurd (a := stCapacity = 0) h (by decide), fun _ => ?_⟩
    · rw [State.ctx_setCtx_wf hctx, if_pos rfl]
    · rw [State.ctx_setCtx_wf hctx, if_pos rfl]
      exact ⟨rfl, rfl⟩

/-! ### No context unloads its plan -/

/-- No context has a PLAN_UNLOAD under way (R178). -/
def NoUnload (s : State) : Prop := s.contexts.any (fun c => c.2.unloading.isSome) = false

theorem NoUnload.ctx (h : NoUnload s) (x : Nat) : (s.ctx x).unloading = none := by
  by_cases hx : s.ctx x = {}
  · rw [hx]
  · have := List.any_eq_false.1 h _ (smGet_mem hx)
    simpa [State.ctx] using this

theorem NoUnload.setCtx (h : NoUnload s) {c : Context} (hc : c.unloading = none) : NoUnload (s.setCtx x c) := by
  refine List.any_eq_false.2 fun k hk => ?_
  rcases mem_smSet hk with rfl | hk
  · simp [hc]
  · exact List.any_eq_false.1 h k hk

theorem NoUnload.modDesc (h : NoUnload s) (q : Nat) (n : BitVec 64) (f : HostDesc → HostDesc) : NoUnload (s.modDesc x q n f) :=
  h.setCtx (h.ctx x)

end

/-- Settles O14: a ready descriptor's body dispatches it; the admission of a plan leaves the queues. -/
theorem hostDescriptorsDispatch : Obligations.HostDescriptorsDispatch := by
  intro s x q d hs w
  have hwf : w.wf = true := (keeps_modDesc (keeps_modDesc (keeps_refl s) ..) ..).wf hs
  obtain ⟨-, -, -, hctx, -⟩ := State.wf_iff.1 hwf
  have htaken {op : Nat} (h : HostReady s x q op d = true) (hop : 1 ≤ op ∧ op ≤ 5) := taken_taken (hostOp_ready h hop (fun s _ => s)).2
  refine ⟨fun h => ?_, fun h ha0 ha1 hbound => ?_, fun h hun => ?_, fun h hnone hdrain => ?_⟩
  · obtain ⟨⟨e, he⟩, -, hframe⟩ := htaken h (by decide)
    obtain ⟨hdone, -, hf⟩ := dispatchWith_done he stDone
    exact ⟨_, congrArg Host.Outcome.next (hostOp_ready h (by decide) _).1, hdone, frame_of_taken hframe hf⟩
  · obtain ⟨⟨e, he⟩, -, hframe⟩ := htaken h (by decide)
    obtain ⟨hdone, -, hf⟩ := dispatchWith_done he stDone
    have hbody : vtSetBody x q w d = dispatchWith w x q d stDone := by
      unfold vtSetBody
      simp only [ha0, ha1, hbound]
      rfl
    exact ⟨_, congrArg Host.Outcome.next ((hostOp_ready h (by decide) _).1.trans hbody), hdone, frame_of_taken hframe hf⟩
  · obtain ⟨⟨e, he⟩, hsame, hframe⟩ := htaken h (by decide)
    have hwun : (w.ctx x).unloading = none := (congrArg Context.unloading hsame).trans hun
    have hget : (w.setCtx x { w.ctx x with unloading := some d.order }).ctx x = { w.ctx x with unloading := some d.order } :=
      (State.ctx_setCtx_wf hctx ..).trans (if_pos rfl)
    have he' : (w.setCtx x { w.ctx x with unloading := some d.order }).desc? x q d.seq = some e := by
      rw [State.desc?, hget]; exact he
    obtain ⟨hdone, ⟨qs, n, hx⟩, hf⟩ := dispatchWith_done he' stDone
    have hbody : planUnloadBody x q w d = dispatchWith (w.setCtx x { w.ctx x with unloading := some d.order }) x q d stDone := by
      unfold planUnloadBody
      simp only [hwun]
      rfl
    refine ⟨_, congrArg Host.Outcome.next ((hostOp_ready h (by decide) _).1.trans hbody), hdone, ?_, frame_of_taken hframe ?_⟩
    · rw [hx, hget]
    · have h' := congrArg (fun (t : State) => { t with contexts := w.contexts }) hf
      exact h'
  · intro a
    obtain ⟨⟨e, he⟩, hsame, -⟩ := htaken h (by decide)
    have hcl : (clearShortfalls w x).wf = true := (keeps_setCtx (keeps_refl w) ..).wf hwf
    have hclx : (clearShortfalls w x).ctx x = { w.ctx x with shortfallCount := 0, shortfalls := [] } :=
      (State.ctx_setCtx_wf hctx ..).trans (if_pos rfl)
    obtain ⟨hqueues, hok, hno⟩ := admitPlan_admission hcl x (hAddr0 d.bytes) (hostActor x q d.seq)
    have he' : a.1.desc? x q d.seq = some e := by
      rw [State.desc?, hqueues, hclx]; exact he
    obtain ⟨hdone, ⟨qs, n, hx⟩, -⟩ := dispatchWith_done he' a.2
    have hunload : NoUnload w := (NoUnload.modDesc hnone ..).modDesc ..
    have hbody : planLoadBody x q w d = dispatchWith a.1 x q d a.2 := by
      unfold planLoadBody
      have hu : w.contexts.any (fun c => c.2.unloading.isSome) = false := hunload
      have hd : w.power.draining.isSome = false := by
        have : w.power.draining = none := hdrain
        rw [this]; rfl
      simp only [hu, hd, Bool.false_eq_true, if_false]
      rfl
    refine ⟨_, congrArg Host.Outcome.next ((hostOp_ready h (by decide) _).1.trans hbody), hdone, fun h0 => ?_, fun h0 => ?_⟩
    · rw [hx]; exact hok h0
    · obtain ⟨hst, hplan⟩ := hno h0
      have hs1 := congrArg Context.st hsame
      have hs2 := congrArg Context.plan hsame
      rw [hx]
      exact ⟨hst.trans (by rw [hclx]; exact hs1), hplan.trans (by rw [hclx]; exact hs2)⟩

end Sys2Proof.Machine
end

section
/-! PROOFS. Signals, waits and grants of counters, and barriers (O18, O19, O20). -/

namespace Sys2Proof.Machine

/-! ### Signals, waits and grants of counters (R186 to R189, R193, R194) -/

/-- The states differ in cores and contexts alone, as they do after waiters are released and descriptors blamed. -/
def Releases (s t : State) : Prop := { t with cores := s.cores, contexts := s.contexts } = s

section
variable {s t : State}

theorem Reports.syncFaults (h : Reports s t) : t.syncFaults = s.syncFaults := by have h := congrArg State.syncFaults h; exact h

theorem Releases.counters (h : Releases s t) : t.counters = s.counters := by have h := congrArg State.counters h; exact h
theorem Releases.mem (h : Releases s t) : t.mem = s.mem := by have h := congrArg State.mem h; exact h
theorem Releases.rel (h : Releases s t) : t.rel = s.rel := by have h := congrArg State.rel h; exact h
theorem Releases.syncFaults (h : Releases s t) : t.syncFaults = s.syncFaults := by have h := congrArg State.syncFaults h; exact h

theorem releases_refl (s : State) : Releases s s := rfl
theorem releases_modDesc (h : Releases s t) (x q seq f) : Releases s (t.modDesc x q seq f) := h
theorem releases_modEntry (h : Releases s t) (u g q f) : Releases s (t.modEntry u g q f) := h

theorem releases_blame (h : Releases s t) (a st) : Releases s (t.blame a st) := by
  unfold State.blame
  grind [releases_modDesc]

theorem releases_cancelWaiter (h : Releases s t) (a) : Releases s (t.cancelWaiter a) := by
  unfold State.cancelWaiter
  grind [releases_modDesc, releases_modEntry]

theorem releaseWaiters_releases (s : State) (p : Nat) : Releases (s.setCtr p { s.ctr p with waiters := [] }) (releaseWaiters s p) := by
  unfold releaseWaiters
  refine List.foldlRecOn (motive := Releases (s.setCtr p { s.ctr p with waiters := [] })) _ _ rfl fun t h a _ => ?_
  split
  · exact releases_blame (releases_cancelWaiter h _) _ _
  · exact releases_cancelWaiter h _

/-- A freeze counts its fault, records it, and changes its own counter, cores, contexts and reports alone (R187). -/
theorem freezeCounter_records (s : State) (p cause : Nat) (src : Actor) :
    let t := freezeCounter s p cause src
    t.syncFaults = satAdd s.syncFaults 1 ∧ t.rel.recordCount = s.rel.recordCount + 1 ∧ t.mem = s.mem := by
  have hrel (u : State) : (releaseWaiters u p).rel = u.rel := (releaseWaiters_releases u p).rel
  have hmem (u : State) : (releaseWaiters u p).mem = u.mem := (releaseWaiters_releases u p).mem
  have hsync (u : State) : (releaseWaiters u p).syncFaults = u.syncFaults := (releaseWaiters_releases u p).syncFaults
  have hblame (u : State) (a : Actor) (st : BitVec 16) : Releases u (u.blame a st) := releases_blame (releases_refl u) a st
  have hreport (u : State) (n : FaultNote) (h1 : n.cls ≠ 1) : (raise (fault u n) 0x386).syncFaults = u.syncFaults ∧
      (raise (fault u n) 0x386).rel.recordCount = u.rel.recordCount + 1 ∧ (raise (fault u n) 0x386).mem = u.mem := by
    have h : Reports u (raise (fault u n) 0x386) := reports_raise (reports_fault (reports_refl u) n) _
    exact ⟨h.syncFaults, by rw [raise_rel]; exact (fault_recorded h1).1, h.mem⟩
  unfold freezeCounter
  dsimp only
  rw [hrel, hmem, hsync, (hblame ..).rel, (hblame ..).mem, (hblame ..).syncFaults]
  exact hreport _ _ (by simp)

/-- A freeze changes no other counter (R187). -/
theorem freezeCounter_other (hs : s.wf = true) {p k : Nat} (hk : k ≠ p) (cause : Nat) (src : Actor) :
    (freezeCounter s p cause src).ctr k = s.ctr k := by
  obtain ⟨-, hcounters, -⟩ := State.wf_tables hs
  unfold freezeCounter
  dsimp only
  rw [State.ctr_congr (releaseWaiters_counters _ p)]
  generalize ht : State.blame _ src _ = t
  have hct : t.counters = (s.setCtr p ((s.ctr p).freeze cause)).counters := by
    rw [← ht, State.blame_counters, raise_counters, fault_counters (by simp [countedClass])]
    rfl
  have htwf : smWf {} t.counters = true := hct ▸ smWf_smSet hcounters ..
  rw [State.ctr_setCtr_wf htwf, if_neg hk, State.ctr_congr hct, State.ctr_setCtr_wf hcounters, if_neg hk]

/-- A frozen counter takes no signal: it blames the signal's source, and a fabric agent's is counted (R187). -/
theorem signalCounter_frozen {p : Nat} (hf : (s.ctr p).frozen = true) (a : Nat) (src : Actor) (r : Bool) :
    (signalCounter s p a src r).counters = s.counters ∧ (signalCounter s p a src r).mem = s.mem ∧
      (signalCounter s p a src r).cores = s.cores := by
  have hblame (st : BitVec 16) : (s.blame src st).counters = s.counters ∧ (s.blame src st).mem = s.mem ∧
      (s.blame src st).cores = s.cores := by
    unfold State.blame
    split <;> exact ⟨rfl, rfl, rfl⟩
  cases src <;> simpa only [signalCounter, hf, if_true] using hblame _

/-- A signal of a message on its way adds its amount, and gives back what the message had reserved (R189). -/
theorem exec_counterSignal_message (hsnap : s.queueObjs.snapBusy = false) {p : Fin 65536} {a : BitVec 32} {src : Actor}
    {m : SignalMsg} {rest : List SignalMsg} (hsig : s.signals = m :: rest) (hcancel : m.cancel = false) (hsrc : m.src = src)
    (htarget : m.target s = (0, p.val)) (hamount : m.amount.toNat = a.toNat) :
    exec (.counterSignal p a src) s = .next (signalCounter { s with signals := rest } p a.toNat src m.reserved) := by
  show execCounterSignal p a src s = _
  simp [execCounterSignal, endSnapshot_idle hsnap, hsig, takeSignal, hcancel, hsrc, htarget, hamount]

/-- Settles O18: a signal is `signalCounter`, by the mode and the marks of its counter. -/
theorem signalsReachCounters : Obligations.SignalsReachCounters := by
  unfold Obligations.SignalsReachCounters
  intro s p a src hs hsnap c sum quiet
  refine ⟨fun hq hf hfit => ?_, fun hq hf hm hover ha => ?_, fun m rest hsig hcancel hsrc htarget hamount hf hm => ?_, fun hq hf => ?_⟩
  · rw [exec_counterSignal hsnap p a hq]
    rcases Bool.eq_false_or_eq_true c.monotonic with hm | hm
    · rw [signalCounter_monotonic hf hm]
    · rw [signalCounter_within hf hm (by simpa [c, hm] using hfit)]
  · refine ⟨_, exec_counterSignal hsnap p a hq, ?_⟩
    rw [signalCounter_overflow hf hm (by simpa using fun h => ha (BitVec.eq_of_toNat_eq h)) hover]
    obtain ⟨hsync, hcount, hmem⟩ := freezeCounter_records s p 2 src
    exact ⟨freezeCounter_ctr hs p 2 src, hsync, hcount, fun k hk => freezeCounter_other hs hk 2 src, hmem⟩
  · rw [exec_counterSignal_message hsnap hsig hcancel hsrc htarget hamount]
    have hctr : { s with signals := rest }.ctr p = c := rfl
    simp [signalCounter, hctr, hf, hm, sum]
  · refine ⟨_, exec_counterSignal hsnap p a hq, ?_⟩
    obtain ⟨hcounters, hmem, hcores⟩ := signalCounter_frozen hf a.toNat src false
    exact ⟨State.ctr_congr hcounters, hmem, hcores⟩

/-! ### Waits and grants -/

/-- An entry is found after a change that leaves sequence numbers. -/
theorem findEntry_mapWhere_any {w : List WinEntry} {p : WinEntry → Bool} {f : WinEntry → WinEntry} (hf : ∀ e, (f e).seq = e.seq)
    (q : BitVec 64) : findEntry (mapWhere p f w) q = (findEntry w q).map fun e => if p e then f e else e := by
  unfold findEntry mapWhere
  rw [List.find?_map]
  congr 2
  funext e
  simp only [Function.comp_apply, apply_ite WinEntry.seq, hf, ite_self]

/-- A fetched instruction whose wait is released by a mark (R194). -/
def WinEntry.cancel (e : WinEntry) : WinEntry := { e with cancelled := true, queued := false }

/-- A released waiter's entry is marked, and no other (R194). -/
theorem window_cancelWaiter (hs : smWf {} s.cores = true) (a : Actor) (u : UnitKind) (g : CoreId) :
    ((s.cancelWaiter a).unitOf u g).window = mapWhere (fun e => decide (a = .core u g e.seq)) WinEntry.cancel (s.unitOf u g).window := by
  cases a with
  | core v h q =>
    rw [State.cancelWaiter, State.unitOf_modEntry_wf hs]
    by_cases hvh : v = u ∧ h = g
    · obtain ⟨rfl, rfl⟩ := hvh
      simp [mapWhere, WinEntry.cancel, eq_comm]
    · have hne (e : WinEntry) : Actor.core v h q ≠ .core u g e.seq := fun heq => by
        injection heq with hv hh; exact hvh ⟨hv, hh⟩
      have hother : ¬(u = v ∧ g.val = h.val) := fun heq => hvh ⟨heq.1.symm, Fin.ext heq.2.symm⟩
      rw [if_neg hother, mapWhere_id fun e _ he => absurd (of_decide_eq_true he) (hne e)]
  | host => simp [State.cancelWaiter, State.unitOf, State.core, mapWhere]
  | command => simp [State.cancelWaiter, mapWhere]
  | fabricAgent => simp [State.cancelWaiter, mapWhere]

/-- The instruction that an actor names, if it is one that is fetched, stands marked by a release (R194). -/
def MarkedIn (a : Actor) (t : State) : Prop :=
  ∀ (u : UnitKind) (g : CoreId) (q : BitVec 64), a = .core u g q →
    ∃ e, findEntry (t.unitOf u g).window q = some e ∧ e.cancelled = true

/-- The instruction that an actor names, if it is any, is fetched. -/
def FetchedIn (a : Actor) (t : State) : Prop :=
  ∀ (u : UnitKind) (g : CoreId) (q : BitVec 64), a = .core u g q → ∃ e, findEntry (t.unitOf u g).window q = some e

theorem fetchedIn_cancelWaiter (hs : smWf {} s.cores = true) {a : Actor} (b : Actor) (h : FetchedIn a s) :
    FetchedIn a (s.cancelWaiter b) := by
  intro u g q ha
  obtain ⟨e, he⟩ := h u g q ha
  rw [window_cancelWaiter hs, findEntry_mapWhere_any (f := WinEntry.cancel) fun _ => rfl, he]
  exact ⟨_, rfl⟩

theorem markedIn_cancelWaiter (hs : smWf {} s.cores = true) {a : Actor} (b : Actor) (h : MarkedIn a s) :
    MarkedIn a (s.cancelWaiter b) := by
  intro u g q ha
  obtain ⟨e, he, hc⟩ := h u g q ha
  rw [window_cancelWaiter hs, findEntry_mapWhere_any (f := WinEntry.cancel) fun _ => rfl, he]
  refine ⟨_, rfl, ?_⟩
  dsimp only
  split
  · rfl
  · exact hc

theorem cancelWaiter_marks (hs : smWf {} s.cores = true) {a : Actor} (h : FetchedIn a s) : MarkedIn a (s.cancelWaiter a) := by
  intro u g q ha
  obtain ⟨e, he⟩ := h u g q ha
  rw [window_cancelWaiter hs, findEntry_mapWhere_any (f := WinEntry.cancel) fun _ => rfl, he]
  refine ⟨_, rfl, ?_⟩
  dsimp only
  rw [if_pos (by rw [findEntry_seq he]; exact decide_eq_true ha)]
  rfl

theorem cores_cancelWaiter_wf (hs : smWf {} s.cores = true) (a : Actor) : smWf {} (s.cancelWaiter a).cores = true := by
  cases a with
  | core => exact smWf_smSet hs ..
  | _ => exact hs

theorem blame_cores (s : State) (a : Actor) (st : BitVec 16) : (s.blame a st).cores = s.cores := by
  unfold State.blame
  split <;> rfl

theorem unitOf_congr (h : t.cores = s.cores) (u : UnitKind) (g : Nat) : t.unitOf u g = s.unitOf u g := by
  simp only [State.unitOf, State.core, h]

theorem FetchedIn.congr {a : Actor} (h : FetchedIn a s) (hc : t.cores = s.cores) : FetchedIn a t := by
  intro u g q ha; rw [unitOf_congr hc]; exact h u g q ha

theorem MarkedIn.congr {a : Actor} (h : MarkedIn a s) (hc : t.cores = s.cores) : MarkedIn a t := by
  intro u g q ha; rw [unitOf_congr hc]; exact h u g q ha

/-- Releasing the waiters of a counter marks every fetched instruction among them (R194). -/
theorem releaseWaiters_marks (hs : smWf {} s.cores = true) {p : Nat} : ∀ a ∈ (s.ctr p).waiters, FetchedIn a s →
    MarkedIn a (releaseWaiters s p) := by
  have hcores (t : State) (a : Actor) (b : Bool) (st : BitVec 16) :
      (if b = true then (t.cancelWaiter a).blame a st else t.cancelWaiter a).cores = (t.cancelWaiter a).cores := by
    rw [apply_ite State.cores, blame_cores, ite_self]
  refine (foldl_each (s := s.setCtr p { s.ctr p with waiters := [] })
    (f := fun t a => if (s.ctr p).frozen = true then (t.cancelWaiter a).blame a (if (s.ctr p).cause = 1 then 0x0301 else 0x0302)
      else t.cancelWaiter a)
    (I := fun t => smWf {} t.cores = true ∧ ∀ a, FetchedIn a s → FetchedIn a t)
    (P := fun a t => FetchedIn a s → MarkedIn a t) (fun t a h => ⟨?_, fun b hb => ?_⟩) (fun t a h ha => ?_) (fun t a b h hm hb => ?_) _
    ⟨hs, fun a => id⟩).2.1
  · rw [hcores]; exact cores_cancelWaiter_wf h.1 a
  · exact (fetchedIn_cancelWaiter h.1 a (h.2 b hb)).congr (hcores ..)
  · exact (cancelWaiter_marks h.1 (h.2 a ha)).congr (hcores ..)
  · exact (markedIn_cancelWaiter h.1 a (hm hb)).congr (hcores ..)

/-- A fetched instruction that waits at its counter (R193). -/
def WinEntry.queue (e : WinEntry) : WinEntry := { e with queued := true }

/-- An instruction that may wait joins the waiters of a counter without a mark (R193). -/
theorem exec_counterWait (hsnap : s.queueObjs.snapBusy = false) {p : Fin 65536} {u : UnitKind} {g : CoreId} {q : BitVec 64}
    (hmay : s.mayWait p (.core u g q) = true) (hc : (s.ctr p).cancelled = false) (hf : (s.ctr p).frozen = false) :
    exec (.counterWait p (.core u g q)) s =
      .next ((s.modEntry u g q WinEntry.queue).setCtr p { s.ctr p with waiters := (s.ctr p).waiters ++ [.core u g q] }) := by
  have hctr : (s.modEntry u g q WinEntry.queue).ctr p = s.ctr p := rfl
  have hqueue : (fun e : WinEntry => { e with queued := true }) = WinEntry.queue := rfl
  show execCounterWait p (.core u g q) s = _
  simp only [execCounterWait, endSnapshot_idle hsnap, hmay, hqueue, arriveWaiter, hctr, hc, hf, Bool.not_true, Bool.false_eq_true,
    Bool.or_self, if_false]

/-- The entry of one instruction, changed (R193). -/
theorem findEntry_modEntry (hs : smWf {} s.cores = true) {u : UnitKind} {g : Nat} {q : BitVec 64} {e : WinEntry} {f : WinEntry → WinEntry}
    (he : findEntry (s.unitOf u g).window q = some e) (hf : ∀ e, (f e).seq = e.seq) :
    findEntry ((s.modEntry u g q f).unitOf u g).window q = some (f e) := by
  rw [State.unitOf_modEntry_wf hs, if_pos ⟨rfl, rfl⟩]
  exact findEntry_mapWhere he hf

theorem exec_cancelMark (hsnap : s.queueObjs.snapBusy = false) (p : Fin 65536) :
    ∃ l, exec (.cancelMark p) s = .next (markCounter { s with signals := l } p) := by
  show ∃ l, execCancelMark p s = _
  simp only [execCancelMark, endSnapshot_idle hsnap]
  exact ⟨_, rfl⟩

theorem markCounter_ctr (hs : smWf {} s.counters = true) (p k : Nat) :
    (markCounter s p).ctr k = if k = p then { s.ctr p with cancelled := true, waiters := [] } else s.ctr k := by
  unfold markCounter
  rw [State.ctr_congr (releaseWaiters_counters _ p), State.ctr_setCtr_wf (smWf_smSet hs ..), State.ctr_setCtr_wf hs,
    State.ctr_setCtr_wf hs, if_pos rfl]
  split <;> rfl

theorem markCounter_marks (hs : s.wf = true) {p : Nat} {a : Actor} (ha : a ∈ (s.ctr p).waiters) (hfetch : FetchedIn a s) :
    MarkedIn a (markCounter s p) :=
  releaseWaiters_marks (s := s.setCtr p { s.ctr p with cancelled := true }) (State.wf_tables hs).1 a
    (by rw [State.ctr_setCtr_same hs]; exact ha) hfetch

theorem markCounter_frame (s : State) (p : Nat) :
    { markCounter s p with counters := s.counters, cores := s.cores, contexts := s.contexts } = s := by
  have h := releaseWaiters_releases (s.setCtr p { s.ctr p with cancelled := true }) p
  have h := congrArg (fun (t : State) => { t with counters := s.counters }) h
  exact h

/-- Settles O19: a wait queues the entry, a grant pays the first waiter, and a mark releases them all. -/
theorem waitersAreGrantedInOrder : Obligations.WaitersAreGrantedInOrder := by
  unfold Obligations.WaitersAreGrantedInOrder
  intro s p hs hsnap c
  obtain ⟨hcores, hcounters, hcontexts⟩ := State.wf_tables hs
  refine ⟨fun u g seq e hmay hc hf he => ?_, fun u g seq e rest hw hf hc hel he => ?_, fun hf => ?_⟩
  · refine ⟨_, exec_counterWait hsnap hmay hc hf, ?_, ?_, rfl⟩
    · rw [State.ctr_setCtr_wf (s := s.modEntry u g seq WinEntry.queue) hcounters, if_pos rfl]
    · exact ⟨e.queue, findEntry_modEntry hcores he fun _ => rfl, rfl, rfl⟩
  · refine ⟨_, exec_counterGrant hsnap p, ?_⟩
    rw [grantFirst_eligible hw hf hc hel]
    refine ⟨?_, ⟨e.grant, findEntry_modEntry (s := s.setCtr p (c.grant rest)) hcores he fun _ => rfl, rfl, rfl⟩, rfl⟩
    rw [State.ctr_congr (State.grantTo_counters ..), State.ctr_setCtr_same hs]
    rfl
  · obtain ⟨l, hexec⟩ := exec_cancelMark hsnap p
    refine ⟨_, hexec, ?_, fun k hk => ?_, fun u g seq e hw he => ?_, ?_⟩
    · rw [markCounter_ctr (s := { s with signals := l }) hcounters, if_pos rfl]
      rfl
    · rw [markCounter_ctr (s := { s with signals := l }) hcounters, if_neg hk]
      rfl
    · exact markCounter_marks (s := { s with signals := l }) hs hw (fun u' g' q' ha => by cases ha; exact ⟨e, he⟩) u g seq rfl
    · have h := congrArg (fun (t : State) => { t with signals := s.signals }) (markCounter_frame { s with signals := l } p)
      exact h

/-! ### Barriers (R199 to R201) -/

/-- A member enters; another is still to come, so the round goes on (R199). -/
theorem enterBarrier_waits (hs : s.wf = true) {x k m : Nat} (hp : (s.barrier x k).poisoned = false) (hm : m ∈ (s.barrier x k).members)
    (h0 : m ∉ (s.barrier x k).e0) (hrest : ∃ n ∈ (s.barrier x k).members, n ≠ m ∧ n ∉ (s.barrier x k).e0) (vid : Nat) (src : Actor) :
    enterBarrier s x k vid m src = s.setBarrier x k ((s.barrier x k).enter m) := by
  obtain ⟨-, -, hcontexts⟩ := State.wf_tables hs
  have hfull : ((s.barrier x k).enter m).full = false := by
    obtain ⟨n, hn, hne, hout⟩ := hrest
    refine Bool.eq_false_iff.mpr fun h => ?_
    rcases List.mem_cons.1 ((Barrier.full_iff _).1 h n hn) with h | h
    · exact hne h
    · exact hout h
  rw [enterBarrier_first hp hm h0]
  simp [checkBarrier, State.barrier_setBarrier hcontexts x k (Barrier.ne_default_of_member (b := (s.barrier x k).enter m) hm), hfull]

/-- A member that is inside enters the next round early (R199). -/
theorem enterBarrier_early {x k m : Nat} (hp : (s.barrier x k).poisoned = false) (hm : m ∈ (s.barrier x k).members)
    (h0 : m ∈ (s.barrier x k).e0) (h1 : m ∉ (s.barrier x k).e1) (vid : Nat) (src : Actor) :
    enterBarrier s x k vid m src = s.setBarrier x k { s.barrier x k with e1 := m :: (s.barrier x k).e1 } := by
  simp [enterBarrier, hp, hm, h0, h1]

theorem grantTo_releases (h : Releases s t) (a : Actor) : Releases s (t.grantTo a) := by
  cases a with
  | core => exact releases_modEntry h ..
  | host => exact releases_modDesc h ..
  | _ => exact h

theorem releaseBarrier_releases (h : Releases s t) (x k : Nat) : Releases s (releaseBarrier t x k) :=
  List.foldlRecOn (motive := Releases s) _ _ h fun _ h a _ => grantTo_releases h a

/-- The last entry completes the round: the early entries stand in the next (R199). -/
theorem enterBarrier_last (hs : s.wf = true) {x k m : Nat} (hcomm : (s.barrier x k).comm = none) (hp : (s.barrier x k).poisoned = false)
    (hm : m ∈ (s.barrier x k).members) (h0 : m ∉ (s.barrier x k).e0)
    (hrest : ∀ n ∈ (s.barrier x k).members, n = m ∨ n ∈ (s.barrier x k).e0)
    (hearly : ∃ n ∈ (s.barrier x k).members, n ∉ (s.barrier x k).e1) (vid : Nat) (src : Actor) :
    (enterBarrier s x k vid m src).barrier x k = (s.barrier x k).advance ∧ Releases s (enterBarrier s x k vid m src) := by
  obtain ⟨-, -, hcontexts⟩ := State.wf_tables hs
  have hwf := State.contexts_setBarrier_wf hcontexts x k ((s.barrier x k).enter m)
  have hread : (s.setBarrier x k ((s.barrier x k).enter m)).barrier x k = (s.barrier x k).enter m :=
    State.barrier_setBarrier hcontexts x k (Barrier.ne_default_of_member (n := m) hm)
  have hfull : ((s.barrier x k).enter m).full = true := (Barrier.full_iff _).mpr fun i hi => List.mem_cons.mpr (hrest i hi)
  have hopen : ((s.barrier x k).enter m).advance.full = false := by
    obtain ⟨i, hi, hnot⟩ := hearly
    exact Bool.eq_false_iff.mpr fun h => hnot ((Barrier.full_iff _).mp h i hi)
  rw [enterBarrier_first hp hm h0,
    checkBarrier_advances hread hp (List.ne_nil_of_mem hm) hfull hcomm hopen]
  refine ⟨?_, releaseBarrier_releases (by exact rfl) x k⟩
  rw [barrier_releaseBarrier (State.contexts_setBarrier_wf hwf ..),
    State.barrier_setBarrier hwf x k (Barrier.ne_default_of_member (b := ((s.barrier x k).enter m).advance) hm)]
  rfl

theorem barrier_of_halting (h : Halting s t) (x k : Nat) : t.barrier x k = s.barrier x k := by
  have hb : (t.ctx x).barriers = (s.ctx x).barriers := by
    have h := congrArg Context.barriers (h.ctx x); exact h
  rw [State.barrier, hb, State.barrier]

/-- A waiter released by a poisoned barrier. -/
def State.poisonWaiter (overrun mismatch : Bool) (s : State) (a : Actor) : State :=
  if overrun then (s.cancelWaiter a).blame a 0x0403 else if mismatch then (s.cancelWaiter a).blame a 0x0401 else s.cancelWaiter a

theorem poisonHere_eq {x k : Nat} (hp : (s.barrier x k).poisoned = false) (overrun mismatch : Bool) :
    poisonHere s x k overrun mismatch = (s.barrierWaiters x k).foldl (State.poisonWaiter overrun mismatch)
      (raise (s.setBarrier x k { s.barrier x k with
        poisoned := true, overrun := (s.barrier x k).overrun || overrun, mismatch := (s.barrier x k).mismatch || mismatch }) 0x387) := by
  unfold poisonHere
  dsimp only
  rw [hp, if_neg (by simp)]
  rfl

theorem releases_poisonWaiter (h : Releases s t) (o m : Bool) (a : Actor) : Releases s (t.poisonWaiter o m a) := by
  unfold State.poisonWaiter
  grind [releases_blame, releases_cancelWaiter]

theorem halting_poisonWaiter (hs : s.wf = true) (h : Halting s t) (o m : Bool) (a : Actor) : Halting s (t.poisonWaiter o m a) := by
  unfold State.poisonWaiter
  grind [halting_blame, halting_cancelWaiter]

/-- A barrier poisoned here takes its marks; its waiters are released (R201). -/
theorem poisonHere_poisons (hs : s.wf = true) {x k : Nat} (hp : (s.barrier x k).poisoned = false) (o m : Bool) :
    (poisonHere s x k o m).barrier x k = { s.barrier x k with
      poisoned := true, overrun := (s.barrier x k).overrun || o, mismatch := (s.barrier x k).mismatch || m } ∧
    (poisonHere s x k o m).rel.recordCount = s.rel.recordCount ∧ (poisonHere s x k o m).mem = s.mem := by
  obtain ⟨-, -, hcontexts⟩ := State.wf_tables hs
  rw [poisonHere_eq hp]
  set b : Barrier := { s.barrier x k with
    poisoned := true, overrun := (s.barrier x k).overrun || o, mismatch := (s.barrier x k).mismatch || m } with hb
  have hread : (raise (s.setBarrier x k b) 0x387).barrier x k = b := by
    have h : (raise (s.setBarrier x k b) 0x387).contexts = (s.setBarrier x k b).contexts := (reports_raise (reports_refl _) _).contexts
    rw [State.barrier, State.ctx, h]
    exact State.barrier_setBarrier hcontexts x k (b := b) (by rintro h; simpa [hb] using congrArg Barrier.poisoned h)
  have hwf : (raise (s.setBarrier x k b) 0x387).wf = true :=
    (keeps_raise (keeps_setCtx (keeps_refl s) ..) 0x387).wf hs
  have hhalt := halting_foldl hwf (fun t a ht => halting_poisonWaiter hwf ht o m a) (s.barrierWaiters x k) (halting_refl _)
  have hrel := List.foldlRecOn (motive := Releases (raise (s.setBarrier x k b) 0x387)) (s.barrierWaiters x k) (State.poisonWaiter o m)
    (releases_refl _) fun t h a _ => releases_poisonWaiter h o m a
  refine ⟨(barrier_of_halting hhalt x k).trans hread, ?_, ?_⟩
  · rw [hrel.rel, raise_rel]; rfl
  · rw [hrel.mem, (reports_raise (reports_refl _) _).mem]; rfl

/-- A third entry is a fault, and poisons the barrier (R201). -/
theorem enterBarrier_overrun (hs : s.wf = true) {x k m : Nat} (hcomm : (s.barrier x k).comm = none) (hp :
    (s.barrier x k).poisoned = false)
    (hm : m ∈ (s.barrier x k).members) (h0 : m ∈ (s.barrier x k).e0) (h1 : m ∈ (s.barrier x k).e1) (vid : Nat) (src : Actor) :
    let t := enterBarrier s x k vid m src
    t.barrier x k = { s.barrier x k with poisoned := true, overrun := true } ∧ t.rel.recordCount = s.rel.recordCount + 1 ∧ t.mem = s.mem := by
  obtain ⟨n, hn, heq⟩ : ∃ n : FaultNote, n.cls ≠ 1 ∧ enterBarrier s x k vid m src =
      poisonBarrier ((fault { s with syncFaults := satAdd s.syncFaults 1 } n).blame src 0x0403) x k true :=
    ⟨s.noteOf src { sev := 3, cls := 6, key := 3, ctx := x, syn := leBytes 2 0 ++ leBytes 2 vid ++ leBytes 1 k }, by simp,
      by simp [enterBarrier, hp, hm, h0, h1]; rfl⟩
  have hhalt : Halting s ((fault { s with syncFaults := satAdd s.syncFaults 1 } n).blame src 0x0403) :=
    halting_blame hs (halting_fault hs (halting_mk (halting_refl s) id id id id id id id id) n) src 0x0403
  have hcount : ((fault { s with syncFaults := satAdd s.syncFaults 1 } n).blame src 0x0403).rel.recordCount = s.rel.recordCount + 1 := by
    rw [(releases_blame (releases_refl _) src 0x0403).rel, (fault_recorded hn).1]
  intro t
  rw [show t = _ from heq]
  generalize (fault { s with syncFaults := satAdd s.syncFaults 1 } n).blame src 0x0403 = u at hhalt hcount
  have hb := barrier_of_halting hhalt x k
  have hpoison : poisonBarrier u x k true = poisonHere u x k true false := by simp [poisonBarrier, hb, hcomm]
  obtain ⟨h1, h2, h3⟩ := poisonHere_poisons (hhalt.keeps.wf hs) (by rw [hb]; exact hp) true false
  rw [hpoison]
  exact ⟨by rw [h1, hb]; simp, by rw [h2, hcount], h3.trans hhalt.mem⟩

/-- Settles O20: an entry waits, completes the round, is early, overruns, or finds a poisoned barrier. -/
theorem barriersTakeEntries : Obligations.BarriersTakeEntries := by
  unfold Obligations.BarriersTakeEntries
  intro s x k m src hs hsnap b hcomm hsig
  obtain ⟨vid, hexec⟩ := exec_barrierEnter hsnap hsig x k m src
  rw [hexec]
  refine ⟨fun hp hm h0 hrest => ?_, fun hp hm h0 hall hearly => ?_, fun hp hm h0 h1 => ?_, fun hp hm h0 h1 => ?_, fun hp => ?_⟩
  · rw [enterBarrier_waits hs hp hm h0 hrest]
    rfl
  · exact ⟨_, rfl, enterBarrier_last hs hcomm hp hm h0 hall hearly vid src⟩
  · rw [enterBarrier_early hp hm h0 h1]
  · exact ⟨_, rfl, enterBarrier_overrun hs hcomm hp hm h0 h1 vid src⟩
  · simp [enterBarrier, show (s.barrier x k).poisoned = true from hp]

end
end Sys2Proof.Machine
end

section
/-! PROOFS. The counter commands (O21). -/

namespace Sys2Proof.Machine

/-! ### The counter commands (R206) -/

section
variable {s : State} {acc : Accessor} {x vid : Nat}

theorem touchSelects_counterIdle (s : State) (acc : Accessor) (x v p : Nat) :
    (touchSelects s acc).counterIdle x v p = s.counterIdle x v p := by
  have h := congrArg (fun (t : State) => t.counterIdle x v p) (touchSelects_frame s acc); exact h

theorem touchSelects_producerNames (s : State) (acc : Accessor) (x p : Nat) :
    (touchSelects s acc).producerNames x p = s.producerNames x p := by
  have h := congrArg (fun (t : State) => t.producerNames x p) (touchSelects_frame s acc); exact h

/-- What a counter command of an opcode does on a counter that it may act on. -/
def counterAct (s : State) (x vid op v : Nat) : Except Nat State :=
  let p := trTarget (s.transEntry x vid)
  let c := s.ctr p
  match op with
  | 1 => .ok (signalCounter s p v .command false)
  | 2 =>
    if c.monotonic then .error abState
    else if v > c.produced.toNat then .ok (freezeCounter s p 1 .command)
    else .ok (s.setCtr p { c with produced := c.produced - BitVec.ofNat 64 v })
  | 3 => if !c.monotonic || s.producerNames x p then .error abState else .ok (s.setCtr p { c with produced := BitVec.ofNat 64 v })
  | 4 => if !c.monotonic || !c.waiters.isEmpty then .error abState else .ok (s.setCtr p { c with consumed := BitVec.ofNat 64 v })
  | 5 =>
    if !(s.counterIdle x vid p) then .error abState
    else match c.setMode (v == 1) with
      | some c => .ok (s.setCtr p c)
      | none => .error abState
  | 6 => if c.waiters.isEmpty then .ok (s.setCtr p c.clear) else .error abState
  | _ => .ok (markCounter s p)

/-- The ranges that R206 sets to a command's opcode and operand. -/
def InRange (op v : Nat) : Prop :=
  1 ≤ op ∧ op ≤ 7 ∧ v < 2 ^ 64 ∧ (op ≤ 2 → v < 2 ^ 32) ∧ (op = 5 → v ≤ 1) ∧ (op = 6 ∨ op = 7 → v = 0)

/-- A command within its ranges on a valid entry of kind 0 acts, on a frozen counter CLEAR alone. -/
theorem counterCommand_acts {op v : Nat} (hr : InRange op v) (hvalid : trValid (s.transEntry x vid) = true) (hkind : trKind (s.transEntry x vid) = 0)
    (hf : op = 6 ∨ (s.ctr (trTarget (s.transEntry x vid))).frozen = false) :
    counterCommand s x vid (commandBytes op 0 v) = counterAct s x vid op v := by
  obtain ⟨hlo, hhi, hv, hamount, hmode, hnone⟩ := hr
  obtain ⟨h0, hzero, hoper⟩ := commandBytes_fields (op := op) (v := v) (by omega) hv
  unfold counterCommand
  simp only [h0, hzero, hoper, hvalid, hkind]
  rw [if_neg (by omega), if_neg ?_, if_neg ?_, if_neg (by decide), if_neg ?_]
  · rfl
  · rcases hf with rfl | hf
    · simp
    · simp [hf]
  · simp; omega
  · simp; omega

theorem setMode_monotonic {c : Counter} (hm : c.monotonic = false) : c.setMode true = some { c with monotonic := true, consumed := 0 } := by
  simp [Counter.setMode, hm]

theorem setMode_service {c : Counter} (hm : c.monotonic = true) (h0 : 0 ≤ c.diff) (hb : c.diff ≤ c.buffers.toNat) :
    c.setMode false = some { c with monotonic := false, produced := c.produced - c.consumed, consumed := 0 } := by
  have hdiff : BitVec.ofInt 64 c.diff = c.produced - c.consumed := BitVec.ofInt_toInt
  simp [Counter.setMode, hm, h0, hb, hdiff]

/-- Settles O21: an admitted command reaches `counterAct`, and each opcode finds its condition met. -/
theorem counterCommandsAct : Obligations.CounterCommandsAct := by
  unfold Obligations.CounterCommandsAct
  intro s acc hs hsnap hadm s0 x v e p c hvalid hkind
  have hentry : s0.transEntry x v = e := touchSelects_transEntry ..
  have hctr (k : Nat) : s0.ctr k = s.ctr k := touchSelects_ctr ..
  have hs0 : s0.wf = true := (touchSelects_wf s acc).trans hs
  have hacts {op n : Nat} {t : State} (hr : InRange op n) (hf : op = 6 ∨ c.frozen = false) (hact : counterAct s0 x v op n = .ok t) :
      .next (dictCommand s acc 0x2C00 5 (commandBytes op 0 n)) = Replied acc t :=
    congrArg Host.Outcome.next (dictCommand_counterCommand_ok hsnap hadm (by simp)
      ((counterCommand_acts hr (hentry ▸ hvalid) (hentry ▸ hkind) (by rw [hentry, hctr]; exact hf)).trans hact))
  have hsignal (n : BitVec 64) (hf : c.frozen = false) (hfit : c.monotonic = true ∨ c.produced.toNat + n.toNat ≤ c.buffers.toNat) :
      signalCounter s0 p n.toNat .command false = s0.setCtr p { c with produced := c.produced + n } := by
    rcases Bool.eq_false_or_eq_true c.monotonic with hm | hm
    · rw [signalCounter_monotonic (by rw [hctr]; exact hf) (by rw [hctr]; exact hm), hctr, BitVec.ofNat_toNat, BitVec.setWidth_eq]
    · rw [signalCounter_within (by rw [hctr]; exact hf) (by rw [hctr]; exact hm) (by rw [hctr]; simpa [hm] using hfit), hctr,
        BitVec.ofNat_toNat, BitVec.setWidth_eq]
  have hsame : s0.syncFaults = s.syncFaults ∧ s0.rel = s.rel ∧ s0.mem = s.mem :=
    ⟨by have h := congrArg State.syncFaults (touchSelects_frame s acc); exact h,
      by have h := congrArg State.rel (touchSelects_frame s acc); exact h,
      by have h := congrArg State.mem (touchSelects_frame s acc); exact h⟩
  obtain ⟨hsync0, hrel0, hmem0⟩ := hsame
  have hidle0 : s0.counterIdle x v p = s.counterIdle x v p := touchSelects_counterIdle ..
  have hprod0 : s0.producerNames x p = s.producerNames x p := touchSelects_producerNames ..
  refine ⟨fun n hn hf hfit => ?_, fun n hn hf hm hle => ?_, fun n hn hf hm hlt => ?_, fun n hf hm hprod => ?_, fun n hf hm hw => ?_,
    fun hf hidle hm => ?_, fun hf hidle hm h0 hb => ?_, fun hw => ?_, fun hf => ?_⟩
  · refine hacts (by have := n.isLt; unfold InRange; omega) (.inr hf) ?_
    simp only [counterAct, hentry]
    exact congrArg Except.ok (hsignal n hf hfit)
  · refine hacts (by have := n.isLt; unfold InRange; omega) (.inr hf) ?_
    simp only [counterAct, hentry, hctr]
    rw [if_neg (ne_true_of_eq_false hm), if_neg (Nat.not_lt.mpr hle), BitVec.ofNat_toNat, BitVec.setWidth_eq]
  · refine ⟨_, hacts (by have := n.isLt; unfold InRange; omega) (.inr hf) (t := freezeCounter s0 p 1 .command) ?_, ?_⟩
    · simp only [counterAct, hentry, hctr]
      rw [if_neg (ne_true_of_eq_false hm), if_pos hlt]
    · obtain ⟨hsync, hcount, -⟩ := freezeCounter_records s0 p 1 .command
      exact ⟨(freezeCounter_ctr hs0 p 1 .command).trans (by rw [hctr]; rfl), hsync.trans (by rw [hsync0]), hcount.trans (by rw [hrel0])⟩
  · refine hacts (by have := n.isLt; unfold InRange; omega) (.inr hf) ?_
    simp only [counterAct, hentry, hctr]
    rw [if_neg (by simp [p, c, hprod0, hprod] at hm ⊢; exact hm), BitVec.ofNat_toNat, BitVec.setWidth_eq]
  · refine hacts (by have := n.isLt; unfold InRange; omega) (.inr hf) ?_
    simp only [counterAct, hentry, hctr]
    rw [if_neg (by simp [show (s.ctr (trTarget e)).monotonic = true from hm, show (s.ctr (trTarget e)).waiters = [] from hw]),
      BitVec.ofNat_toNat, BitVec.setWidth_eq]
  · refine hacts (by unfold InRange; decide) (.inr hf) ?_
    have hset : c.setMode ((1 : BitVec 64).toNat == 1) = _ := setMode_monotonic hm
    simp only [counterAct, hentry, hctr]
    rw [hidle0, hidle, hset]
    rfl
  · refine hacts (by unfold InRange; decide) (.inr hf) ?_
    have hset : c.setMode ((0 : BitVec 64).toNat == 1) = _ := setMode_service hm h0 hb
    simp only [counterAct, hentry, hctr]
    rw [hidle0, hidle, hset]
    rfl
  · refine hacts (by unfold InRange; decide) (.inl rfl) ?_
    simp only [counterAct, hentry, hctr]
    rw [if_pos (by simpa using hw)]
    rfl
  · refine ⟨_, hacts (by unfold InRange; decide) (.inr hf) (t := markCounter s0 p) ?_, ?_⟩
    · simp only [counterAct, hentry]
      rfl
    · obtain ⟨-, hcounters, -⟩ := State.wf_tables hs0
      refine ⟨?_, fun k hk => ?_, ?_⟩
      · rw [markCounter_ctr hcounters, if_pos rfl, hctr]
      · rw [markCounter_ctr hcounters, if_neg hk, hctr]
      · have h := congrArg State.mem (markCounter_frame s0 p)
        exact h.trans hmem0

end
end Sys2Proof.Machine
end

section
/-! PROOFS. A RUN whose group holds no core (O15). -/

namespace Sys2Proof.Machine

/-! ### A RUN whose group names no core (R173) -/

/-- A tensor of one element. -/
def oneElement (id : BitVec 32) : TensorRec :=
  { tensorId := id, format := 3, rank := 2, blockDim := 0, cls := 0, ply := 1, windowRule := 0, lsb := 0, mode := 0, scale := 0
    anchorA := 0, anchorB := 0, dims := [1, 1] }

/-- A product of 1 × 1 × 1. -/
def oneProduct : OpRec :=
  { opId := 0, kind := 1, sign := false, inputs := [1, 2], preloads := [], outputs := [3], subOp := 0, partialTo := 0, kTotal := 1
    encoding := 0, reduceOp := 0, units := 0, count := 0, rootUnit := 0 }

/-- Its placement, in tiles of height 1, on group 0. -/
def onePlacement : Placement :=
  { opId := 0, group := 0, policy := 1, slot := 0, bufBase := 0, bufBytes := 0, hFixed := 1, kcFixed := 1, kFirst := 0, kCount := 1 }

/-- A plan whose group 0 holds no core. -/
def coreless : Plan :=
  { planId := 9, groups := [(0, [])], tensors := [oneElement 1, oneElement 2, oneElement 3], ops := [oneProduct], placements := [onePlacement] }

/-- The RUN of the product, its three bindings at 0x1000, 0x2000 and 0x3000, the last written. -/
def corelessRun : HostDesc :=
  { bytes := [(8, 1), (18, 3), (20, 1), (24, 1), (28, 1), (32, 1), (65, 0x10), (73, 0x20), (81, 0x30), (86, 2)].foldl
      (fun d e => overlay d e.1 [BitVec.ofNat 8 e.2]) (List.replicate 128 0) }

/-- A module in Service whose core 0 belongs to no context, with the RUN accepted in a context of that plan. -/
def corelessState : State :=
  { device := .service, slotMap := [(0, 1)], mem := { channels := 0xFF, population := 0xFF, ddrGib := 1 }
    contexts := [(0, { st := .ready, plan := some coreless, queues := [(0, { configured := true, tail := 1, accept := 1, descs := [corelessRun] })] })] }

/-- The bindings of that RUN as they are resolved. -/
def corelessBindings : List (BitVec 64) :=
  (List.range (hCount corelessRun.bytes)).flatMap fun i =>
    resolveBinding ((corelessState.taken 0 0 corelessRun).ctx 0) (hBinding corelessRun.bytes i)

/-- The RUN's one tile: a group without cores gives it to core 0. -/
def corelessTile : Placement × Nat × Tile :=
  (onePlacement, 0, { core := 0, batch := 0, mOrigin := 0, nOrigin := 0, height := 1, kc := 1 })

theorem corelessRun_ready : corelessState.wf = true ∧ HostReady corelessState 0 0 1 corelessRun = true := by decide +kernel

theorem corelessRun_dispatches :
    let w := corelessState.taken 0 0 corelessRun
    let d := corelessRun.bytes
    (corelessState.ctx 0).plan = some coreless ∧ coreless.op (hOpId d) = some oneProduct ∧
      bindingsOk w (w.ctx 0) coreless oneProduct d = true ∧ phaseLets (w.ctx 0) coreless (hOpId d) = true ∧
      dualHeld (w.ctx 0) corelessRun = false ∧ hM d ≠ 0 ∧ hN d ≠ 0 ∧ hK d ≠ 0 ∧ hBatch d ≠ 0 ∧
      coresFree w 0 0 corelessRun.seq (opCores coreless (hOpId d)) = true ∧
      tilesFor w coreless oneProduct d = some [corelessTile] ∧ (∀ t ∈ [corelessTile], corelessState.present t.2.2.core = true) ∧
      partMissing coreless oneProduct (hK d) = false := by
  decide +kernel

theorem corelessRun_prepared : ∃ r, prepareProduct (corelessState.taken 0 0 corelessRun) 0 coreless oneProduct
    { corelessRun with resolved := corelessBindings } = .ok r := by
  have h : (prepareProduct (corelessState.taken 0 0 corelessRun) 0 coreless oneProduct
    { corelessRun with resolved := corelessBindings }).isOk = true := by decide +kernel
  cases hr : prepareProduct (corelessState.taken 0 0 corelessRun) 0 coreless oneProduct { corelessRun with resolved := corelessBindings } with
  | ok r => exact ⟨r, rfl⟩
  | error e => rw [hr] at h; cases h

/-- Core 0 is none of the RUN's, and takes the first descriptor of its tile. -/
theorem corelessRun_fetched : (0 ∉ opCores coreless (hOpId corelessRun.bytes) ∧ (corelessState.core 0).engine.tail = 0) ∧
    (match exec (.run 0 0) corelessState with
      | .next t => (t.core 0).engine.tail
      | _ => 0) = 1 := by decide +kernel

/-- Refutes O15: a plan may place the product on a group without cores; `tileList` then gives its tile to core 0, which is none of
the RUN's cores, and that core's ring takes a descriptor. -/
theorem not_runDispatchesItsTiles : ¬Obligations.RunDispatchesItsTiles := by
  unfold Obligations.RunDispatchesItsTiles
  intro h
  obtain ⟨hwf, hready⟩ := corelessRun_ready
  obtain ⟨hplan, hop, hbind, hphase, hdual, hm, hn, hk, hb, hfree, htiles, hpresent, hpart⟩ := corelessRun_dispatches
  obtain ⟨⟨s1, r⟩, hprep⟩ := corelessRun_prepared
  obtain ⟨⟨hout, htail⟩, hnext⟩ := corelessRun_fetched
  obtain ⟨t, hexec, -, -, hcores, -⟩ := h corelessState 0 0 corelessRun coreless oneProduct [corelessTile] s1 r hwf hready hplan hop rfl hbind
    hphase hdual hm hn hk hb hfree htiles hpresent hpart hprep
  rw [hexec] at hnext
  dsimp only at hnext
  rw [hcores 0 (by decide) hout, htail] at hnext
  exact absurd hnext (by decide)

end Sys2Proof.Machine
end

section
/-! PROOFS. Updates (O22). -/

namespace Sys2Proof.Machine

/-! ### What a write of memory leaves -/

/-- The states differ in memory alone. -/
def OnlyMem (s t : State) : Prop := { t with mem := s.mem } = s

section
variable {s t u : State}

theorem onlyMem_refl (s : State) : OnlyMem s s := rfl
theorem onlyMem_mem (h : OnlyMem s t) (m : Memory) : OnlyMem s { t with mem := m } := h

theorem onlyMem_eq (h : OnlyMem s t) : t = { s with mem := t.mem } := by
  have h := congrArg (fun (u : State) => { u with mem := t.mem }) h
  exact h

theorem onlyMem_initHeader (h : OnlyMem s t) {r hint a} (e : initHeader t r hint a = .ok u) : OnlyMem s u := by
  unfold initHeader at e
  grind [onlyMem_mem]

theorem onlyMem_putElem (h : OnlyMem s t) {a n pos k bits} (e : putElem t a n pos k bits = .ok u) : OnlyMem s u := by
  unfold putElem at e
  grind [onlyMem_mem]

theorem onlyMem_updWrite (h : OnlyMem s t) {c i pos n bits} (e : updWrite t c i pos n bits = .ok u) : OnlyMem s u := by
  unfold updWrite at e
  grind [onlyMem_putElem]

theorem onlyMem_updWrites (h : OnlyMem s t) {c pos l} (e : updWrites c pos t l = .ok u) : OnlyMem s u := by
  induction l generalizing t with
  | nil => exact Except.ok.inj e ▸ h
  | cons w ws ih =>
    unfold updWrites at e
    split at e
    · cases e
    next hw => exact ih (onlyMem_updWrite h hw) e

theorem foldl_ok {α : Type} {f : Except MemErr State → α → Except MemErr State} {P : State → Prop} (hf : ∀ e a, f (.error e) a = .error e)
    (hP : ∀ t a u, P t → f (.ok t) a = .ok u → P u) (l : List α) (h : P t) (e : l.foldl f (.ok t) = .ok u) : P u := by
  induction l generalizing t with
  | nil => exact Except.ok.inj e ▸ h
  | cons a l ih =>
    rw [List.foldl_cons] at e
    cases ha : f (.ok t) a with
    | ok v => exact ih (hP t a v h ha) (ha ▸ e)
    | error x =>
      have hstuck (l : List α) : l.foldl f (.error x) = .error x := by
        induction l with
        | nil => rfl
        | cons b l ih => rw [List.foldl_cons, hf, ih]
      rw [ha, hstuck] at e
      cases e

theorem onlyMem_updHeaders (h : OnlyMem s t) {c ts} (e : updHeaders t c ts = .ok u) : OnlyMem s u := by
  refine foldl_ok (fun _ _ => rfl) (fun t a u h e => ?_) _ h e
  grind [onlyMem_initHeader]

theorem onlyMem_updStep {r : UpdRun} (h : OnlyMem s r.s) (det c ts p mode seed stream g) :
    OnlyMem s (updStep det c ts p mode seed stream r g).s := by
  have hbegun (c : Prop) [Decidable c] (status notes) : OnlyMem s (if c then { r with status := status, notes := notes } else r).s := by
    split
    · exact h
    · exact h
  fun_cases updStep
  case case1 => exact h
  case case2 => exact h
  case case3 => exact hbegun ..
  case case4 => exact hbegun ..
  case case5 => exact hbegun ..
  case case6 he _ _ =>
    rw [s_foldl_merge]
    exact onlyMem_updWrites (hbegun ..) he

/-- An update changes memory alone. -/
theorem onlyMem_updRun (s : State) (det : Detect) (c : Call) (grads : List (Nat × ExactVal)) : OnlyMem s (updRun s det c grads).s := by
  have hfold {α : Type} {f : UpdRun → α → UpdRun} (hf : ∀ r a, OnlyMem s r.s → OnlyMem s (f r a).s) (l : List α) {r : UpdRun}
      (h : OnlyMem s r.s) : OnlyMem s (l.foldl f r).s :=
    List.foldlRecOn (motive := fun r : UpdRun => OnlyMem s r.s) _ _ h fun r h a _ => hf r a h
  have hstepped {t : State} (h : OnlyMem s t) (ts p mode seed stream) :
      OnlyMem s (grads.foldl (updStep det c ts p mode seed stream) { s := t }).s :=
    hfold (fun r g h => onlyMem_updStep h ..) _ h
  fun_cases updRun
  case case1 => exact onlyMem_refl s
  case case2 => exact onlyMem_refl s
  case case3 he _ _ _ _ _ _ => exact hstepped (onlyMem_updHeaders (onlyMem_refl s) he) ..
  case case4 he _ _ _ _ _ _ =>
    refine hfold (fun r m h => ?_) _ (hstepped (onlyMem_updHeaders (onlyMem_refl s) he) ..)
    split
    · exact onlyMem_mem h _
    · exact h

end

/-! ### Updates (R248, R250, R251) -/

section
variable {s : State}

/-- The end of a call's work on a RUN, without a release. -/
theorem doneInst_frame (s : State) (i : Instance) : { doneInst s i false with contexts := s.contexts, coll := s.coll } = s := by
  have hmod (t : State) (a b : BitVec 32) (f : Instance → Instance) (ht : { t with contexts := s.contexts, coll := s.coll } = s) :
      { t.modInst a b f with contexts := s.contexts, coll := s.coll } = s := by
    unfold State.modInst
    split <;> exact ht
  unfold doneInst
  split
  · rfl
  · dsimp only
    rw [if_neg (by simp)]
    refine hmod _ _ _ _ ?_
    split <;> rfl

theorem update_writes {x q lo hi : Nat} {sent : List SentSum} {det : Detect} {i : Instance} {c : Call} {grads : List (Nat × ExactVal)}
    (hdet : inRun det = true) (hcall : updCall s x q lo hi = some (i, c)) (hsums : updSums s i c sent = some grads) (hne : grads ≠ [])
    (hstatus : (updRun s det c grads).status = 0) :
    let r := updRun s det c grads
    let t := update s x q lo hi sent det
    t.mem = r.s.mem ∧ t.training = { s.training with
        updElements := satAdd s.training.updElements r.done, updSkips := satAdd s.training.updSkips r.skips } ∧
      { t with mem := s.mem, training := s.training, contexts := s.contexts, coll := s.coll } = s := by
  intro r t
  have ht : t = doneInst (({ r.s with training := { r.s.training with
      updElements := satAdd r.s.training.updElements r.done, updSkips := satAdd r.s.training.updSkips r.skips } } : State).modDesc
        c.x c.q c.desc.seq (fun d => addFlags d r.bad r.ovf false)) i false := by
    show update s x q lo hi sent det = _
    unfold update
    rw [hcall, Option.bind_some, hsums, Option.map_some]
    dsimp only
    rw [if_neg (by simpa using hne)]
    cases det with
    | memUe a => cases hdet
    | memCe a => cases hdet
    | _ => exact if_pos hstatus
  have hmem := onlyMem_eq (onlyMem_updRun s det c grads)
  have hframe := doneInst_frame (({ r.s with training := { r.s.training with
    updElements := satAdd r.s.training.updElements r.done, updSkips := satAdd r.s.training.updSkips r.skips } } : State).modDesc
      c.x c.q c.desc.seq (fun d => addFlags d r.bad r.ovf false)) i
  rw [← ht] at hframe
  have hr : r.s.training = s.training := by
    have h := congrArg State.training hmem; exact h
  refine ⟨?_, ?_, ?_⟩
  · have h := congrArg State.mem hframe; exact h
  · have h := congrArg State.training hframe
    exact h.trans (by rw [← hr]; rfl)
  · have h := congrArg (fun (u : State) => { u with mem := s.mem, training := s.training, contexts := s.contexts, coll := s.coll }) hframe
    exact h.trans (congrArg (fun (u : State) => { u with mem := s.mem, training := s.training, contexts := s.contexts, coll := s.coll }) hmem)

theorem updElem_skips {f : Fmt} {mode u : Nat} {p : Nat → Nat} {mom : Bool} {i : UpdIn}
    (h : exactFinite i.s = false ∨ exactFinite (fpVal (rnTimes i.s (p 0)).bits) = false ∨ exactFinite (f.decode i.w) = false ∨
      (mom = true ∧ exactFinite (fpVal i.m) = false)) :
    updElem f mode u p mom i = { w := i.w, m := i.m, v := i.v, img := (imageOf f i.w).bits, skip := true } := by
  unfold updElem
  exact if_pos (by rcases h with h | h | h | ⟨hm, h⟩ <;> simp [*])

theorem updaElem_skips {f : Fmt} {mode u : Nat} {p : Nat → Nat} {i : UpdIn}
    (h : exactFinite i.s = false ∨ exactFinite (fpVal (rnTimes i.s (p 0)).bits) = false ∨ exactFinite (f.decode i.w) = false ∨
      exactFinite (fpVal i.m) = false ∨ exactFinite (fpVal i.v) = false) :
    updaElem f mode u p i = { w := i.w, m := i.m, v := i.v, img := (imageOf f i.w).bits, skip := true } := by
  unfold updaElem
  exact if_pos (by rcases h with h | h | h | h | h <;> simp [h])

/-- Settles O22: a run that succeeds is what the update leaves in memory and in its counts; a non-finite input skips the element. -/
theorem updatesWriteTheShard : Obligations.UpdatesWriteTheShard := by
  unfold Obligations.UpdatesWriteTheShard
  refine ⟨fun s x q sent grads det i c hdet hsums hne hdesc => ?_, fun f mode u p mom i h => ?_, fun f mode u p i h => ?_⟩
  · intro r hstatus wrote
    exact ⟨fun hcall => ⟨_, rfl, update_writes hdet hcall hsums hne hstatus⟩, fun hcall => ⟨_, rfl, update_writes hdet hcall hsums hne hstatus⟩⟩
  · rw [updElem_skips h]
    exact ⟨rfl, rfl, rfl, rfl⟩
  · rw [updaElem_skips h]
    exact ⟨rfl, rfl, rfl, rfl⟩

end
end Sys2Proof.Machine
end

section
/-! PROOFS. The checks of an access, AccessLevel and object writes (O33, O34). -/

namespace Sys2Proof.Machine

/-! ### The checks of an access, and what a read yields (R342) -/

section
variable {s : State} {cls : PortClass} {write : Bool} {idx sub : Nat} {r : ObjRow}

/-- The access that a port class asks for is one that the object's row grants it. -/
def ObjRow.Grants (r : ObjRow) (cls : PortClass) (write : Bool) : Prop := r.right cls = 3 ∨ r.right cls = if write then 2 else 1

theorem checkAccess_absent (h : rowsOf moduleObjects idx = []) : checkAccess s cls write idx sub = .error abAbsent := by
  simp [checkAccess, h]

theorem checkAccess_noSub (h : rowsOf moduleObjects idx ≠ []) (hr : objectRow moduleObjects idx sub = none) :
    checkAccess s cls write idx sub = .error abSub := by
  simp [checkAccess, h, hr]

/-- An object's row is one of its index. -/
theorem rowsOf_ne_nil (hr : objectRow moduleObjects idx sub = some r) : rowsOf moduleObjects idx ≠ [] := by
  intro h
  have hfind : findRow moduleObjects idx sub = none := by
    refine List.find?_eq_none.mpr fun k hk => ?_
    have hk' := List.filter_eq_nil_iff.mp h k hk
    simp only [decide_eq_true_eq] at hk'
    simp [hk']
  simp [objectRow, hfind, countRow, h] at hr

/-- The checks of an access to an object that exists. -/
theorem checkAccess_of_row (hr : objectRow moduleObjects idx sub = some r) : checkAccess s cls write idx sub =
    if r.expert && decide (s.dict.accessLevel = 0) then .error abAbsent
    else if !(decide (r.right cls = 3) || decide (r.right cls = if write then 2 else 1)) then .error abAccess
    else if s.sealedOff && !(identityObject idx) then .error abState
    else if write && decide (s.device = .bootLimited) && !(bootWritable r idx sub) then .error abState
    else .ok r := by
  simp [checkAccess, rowsOf_ne_nil hr, hr]

theorem checkAccess_error_ne {e : Nat} (h : checkAccess s cls write idx sub = .error e) : e ≠ 0 := by
  rintro rfl
  cases hr : objectRow moduleObjects idx sub with
  | none =>
    by_cases hrows : rowsOf moduleObjects idx = []
    · rw [checkAccess_absent hrows] at h; cases h
    · rw [checkAccess_noSub hrows hr] at h; cases h
  | some r =>
    rw [checkAccess_of_row hr] at h
    split_ifs at h <;> cases h

theorem padTo_length (n : Nat) (bs : Bytes) : (padTo n bs).length = n := by
  simp [padTo]; omega

/-- The row of an index's number of sub-indices is of one byte. -/
theorem objectRow_count (hr : objectRow moduleObjects idx 0 = some r) (hf : findRow moduleObjects idx 0 = none) : r.size = 1 := by
  have hcount : countRow moduleObjects idx = some r := by simpa [objectRow, hf] using hr
  unfold countRow at hcount
  split at hcount
  · cases hcount
  · obtain rfl := Option.some.inj hcount
    rfl

/-- A read that the object's condition lets through yields bytes of the object's size. -/
theorem readObject_length {t : State} {k : Selects} {v : Bytes} (hr : objectRow moduleObjects idx sub = some r)
    (h : readObject s k r idx sub = (t, 0, v)) : v.length = r.size := by
  have hnonce : (objectRow moduleObjects 0x3C10 3).map (·.size) = some 32 := by decide +kernel
  have hvalue : (objectValue s k r idx sub).length = r.size := by
    unfold objectValue
    split_ifs with hcount
    · obtain ⟨rfl, hf⟩ := hcount
      rw [objectRow_count hr (Option.isNone_iff_eq_none.mp hf), leBytes_length]
    · rw [leBytes_length]
    · rw [padTo_length]
  unfold readObject at h
  split at h
  next hfresh =>
    obtain ⟨rfl, rfl⟩ := hfresh
    rw [hr] at hnonce
    have hv : (freshNonce s).2 = v := congrArg (fun p : State × Nat × Bytes => p.2.2) h
    rw [← hv]
    simpa [freshNonce, bytesOf] using hnonce.symm
  next =>
    dsimp only at h
    split at h
    next hcond => exact absurd (congrArg (fun p : State × Nat × Bytes => p.2.1) h) hcond
    next =>
      obtain ⟨-, hv⟩ := Prod.mk.inj (Prod.mk.inj h).2
      rw [← hv]
      exact hvalue

/-- An object that the access level shows is not hidden. -/
theorem hidden_false (h : r.expert = false ∨ s.dict.accessLevel ≠ 0) : (r.expert && decide (s.dict.accessLevel = 0)) = false := by
  rcases h with h | h
  · rw [h, Bool.false_and]
  · rw [decide_eq_false h, Bool.and_false]

theorem sealedOff_false (hlo : 1 ≤ s.sec.lifecycle.toNat) (hhi : s.sec.lifecycle.toNat ≤ 3) : s.sealedOff = false := by
  have h0 : s.sec.lifecycle ≠ 0 := by rintro h; rw [h] at hlo; exact absurd hlo (by decide)
  have h4 : s.sec.lifecycle ≠ 4 := by rintro h; rw [h] at hhi; exact absurd hhi (by decide)
  rw [State.sealedOff, decide_eq_false h0, decide_eq_false h4]
  rfl

/-- Settles O33: `checkAccess` decides in the order of R342; a value is cut or filled to its object's size. -/
theorem accessChecksAreOrdered : Obligations.AccessChecksAreOrdered := by
  unfold Obligations.AccessChecksAreOrdered
  refine ⟨fun s cls write idx sub => ?_, fun s t a idx sub v r hcls hread hr => ?_⟩
  · intro rows ok
    refine ⟨checkAccess_absent, checkAccess_noSub, fun r hr => ⟨fun hexp hlevel => ?_, fun hexp hright => ?_, fun hexp hright hlo hhi => ?_⟩⟩
    · rw [checkAccess_of_row hr, if_pos (by simp [hexp, hlevel])]
      rfl
    · have hdenied : (!(decide (r.right cls = 3) || decide (r.right cls = if write then 2 else 1))) = true := by simpa [ok] using hright
      rw [checkAccess_of_row hr, hidden_false hexp, hdenied]
      rfl
    · have hgranted : (!(decide (r.right cls = 3) || decide (r.right cls = if write then 2 else 1))) = false := by
        rcases hright with h | h <;> simp [h]
      rw [checkAccess_of_row hr, hidden_false hexp, hgranted, sealedOff_false hlo hhi]
      refine ⟨fun hw hboot hwritable => ?_, fun hw => ?_⟩
      · simp [hw, hboot, hwritable, abState]
      · rcases hw with h | h | h <;> simp [h]
  · unfold dictRead at hread
    dsimp only at hread
    split at hread
    next e he =>
      obtain ⟨-, rfl, -⟩ : _ ∧ _ ∧ _ := by simpa using hread
      exact absurd rfl (checkAccess_error_ne he)
    next r' hr' =>
      obtain rfl : r' = r := Option.some.inj ((checkAccess_row hr').symm.trans hr)
      obtain ⟨hcode, hv⟩ := Prod.mk.inj (Prod.mk.inj hread).2
      exact readObject_length hr (Prod.ext rfl (Prod.ext hcode hv))

/-! ### AccessLevel, object writes and the ring registers (R342 to R346, R354, R357) -/

variable {acc : Accessor}

/-- An access that passes the checks is one that the row grants. -/
theorem checkAccess_grants (h : checkAccess s cls write idx sub = .ok r) : r.Grants cls write := by
  by_contra hn
  have hdenied : (!(decide (r.right cls = 3) || decide (r.right cls = if write then 2 else 1))) = true := by
    simpa [ObjRow.Grants] using hn
  rw [checkAccess_of_row (checkAccess_row h), hdenied] at h
  split at h <;> cases h

/-- An object that the fabric may not write is written with no copy of the selects touched. -/
theorem touchSelects_unselected (h : Admitted s acc idx sub = true)
    (hfabric : (objectRow moduleObjects idx sub).map (fun r => decide (r.fabric ≤ 1)) = some true) : touchSelects s acc = s := by
  obtain ⟨-, -, -, r, hcheck⟩ := admitted_iff.1 h
  have hr := checkAccess_row hcheck
  have hright := checkAccess_grants hcheck
  cases hcls : acc.cls with
  | fabric =>
    rw [hr] at hfabric
    simp [ObjRow.Grants, ObjRow.right, hcls] at hright hfabric
    omega
  | _ => simp [touchSelects, hcls]

theorem fabricReads_accessLevel : (objectRow moduleObjects 0x2001 0).map (fun r => decide (r.fabric ≤ 1)) = some true := by decide +kernel
theorem fabricReads_errorHistory : (objectRow moduleObjects 0x1003 0).map (fun r => decide (r.fabric ≤ 1)) = some true := by decide +kernel
theorem fabricReads_heartbeat : (objectRow moduleObjects 0x1017 0).map (fun r => decide (r.fabric ≤ 1)) = some true := by decide +kernel
theorem plainSize_accessLevel : plainSize 0x2001 0 = some 1 := by decide +kernel
theorem plainSize_errorHistory : plainSize 0x1003 0 = some 1 := by decide +kernel
theorem plainSize_heartbeat : plainSize 0x1017 0 = some 2 := by decide +kernel

/-- What a write of AccessLevel answers. -/
theorem exec_accessLevelWrite (h : Admitted s acc 0x2001 0 = true) (v : BitVec 8) : exec (.accessLevelWrite acc v) s =
    .next ((countAbort (writeLevel s v.toNat).1 (writeLevel s v.toNat).2).send
      (.dictReply acc.cls (BitVec.ofNat 32 (writeLevel s v.toNat).2) [])) := by
  have hw : writePlain (touchSelects s acc) acc 0x2001 0 [v] = writeLevel s v.toNat := by
    have hv : leNat [v] = v.toNat := by simp [leNat]
    rw [touchSelects_unselected h fabricReads_accessLevel, ← hv]
    rfl
  rw [← hw]
  exact congrArg Host.Outcome.next (dictCommand_plain h plainSize_accessLevel)

/-- What a write of the error history's count answers. -/
theorem exec_errorHistoryClear (h : Admitted s acc 0x1003 0 = true) (v : BitVec 8) : exec (.errorHistoryClear acc v) s =
    (let a := setIf s (decide (v.toNat = 0)) (s.modDict fun d => { d with history := [] })
     .next ((countAbort a.1 a.2).send (.dictReply acc.cls (BitVec.ofNat 32 a.2) []))) := by
  have hw : writePlain (touchSelects s acc) acc 0x1003 0 [v] =
      setIf s (decide (v.toNat = 0)) (s.modDict fun d => { d with history := [] }) := by
    have hv : leNat [v] = v.toNat := by simp [leNat]
    rw [touchSelects_unselected h fabricReads_errorHistory, ← hv]
    rfl
  dsimp only
  rw [← hw]
  exact congrArg Host.Outcome.next (dictCommand_plain h plainSize_errorHistory)

/-- What an EMCY leaves of the dictionary's state. -/
def Dict.SameButEmcys (d e : Dict) : Prop :=
  { e with errorRegister := d.errorRegister, history := d.history, emcyQueue := d.emcyQueue, emcyHeld := d.emcyHeld, emcyDropped := d.emcyDropped } = d

theorem emcyOut_dict (s : State) (m : Emcy) : s.dict.SameButEmcys (emcyOut s m).dict := by
  unfold emcyOut
  split_ifs <;> rfl

theorem emcy_dict (s : State) (code unit : Nat) : s.dict.SameButEmcys (emcy s code unit).dict := by
  unfold emcy emcyOut
  dsimp only
  split_ifs <;> rfl

/-- An EMCY changes the dictionary and what goes out. -/
theorem emcy_frame (s : State) (code unit : Nat) : { emcy s code unit with dict := s.dict, out := s.out } = s := by
  unfold emcy emcyOut
  dsimp only
  split_ifs <;> rfl

/-- A raise of the access level is counted, and announced with its EMCY and its source (R345). -/
theorem writeLevel_raises (h : s.dict.accessLevel = 0) : ∃ t, writeLevel s 1 = (t, 0) ∧ t.dict.accessLevel = 1 ∧
    t.dict.raises = satAdd s.dict.raises 1 ∧ (smGet {} t.sources 0x390).pending = true ∧
    { t with dict := s.dict, sources := s.sources, dests := s.dests, cores := s.cores, drinex := s.drinex, out := s.out } = s := by
  let u : State := { s with dict := { s.dict with accessLevel := 1, raises := satAdd s.dict.raises 1 } }
  have hu : writeLevel s 1 = accepted (raise (emcy u 0xFF04 0) 0x390) := by
    simp [writeLevel, h]
    rfl
  have hr := raise_frame (emcy u 0xFF04 0) 0x390
  have hdict : (raise (emcy u 0xFF04 0) 0x390).dict = (emcy u 0xFF04 0).dict := by
    have h := congrArg State.dict hr; exact h
  have hsame := emcy_dict u 0xFF04 0
  refine ⟨_, hu, ?_, ?_, raise_pending (sourceDead_global (by decide) (by decide) _), ?_⟩
  · rw [hdict]
    have h := congrArg Dict.accessLevel hsame; exact h
  · rw [hdict]
    have h := congrArg Dict.raises hsame; exact h
  · let restore (t : State) : State :=
      { t with dict := s.dict, sources := s.sources, dests := s.dests, cores := s.cores, drinex := s.drinex, out := s.out }
    have hemcy : restore (emcy u 0xFF04 0) = s := by have h := congrArg restore (emcy_frame u 0xFF04 0); exact h
    have hraise : restore (raise (emcy u 0xFF04 0) 0x390) = restore (emcy u 0xFF04 0) := by have h := congrArg restore hr; exact h
    exact hraise.trans hemcy

theorem exec_heartbeatWrite (h : Admitted s acc 0x1017 0 = true) {v : BitVec 16} (hv : v = 0 ∨ 100 ≤ v.toNat) :
    exec (.registerWrite (.object acc 0x1017 0 (leBytes 2 v.toNat))) s = Replied acc { s with dict := { s.dict with heartbeatMs := v } } := by
  refine dictCommand_replied h (by simpa using plainSize_heartbeat) ?_
  rw [touchSelects_unselected h fabricReads_heartbeat]
  show write1000 s 0x1017 0 (leNat (leBytes 2 v.toNat)) = _
  rw [leNat_leBytes_of_lt v.isLt]
  have hok : v.toNat = 0 ∨ 100 ≤ v.toNat := hv.imp_left fun h => by simp [h]
  simp [write1000, setIf, hok, accepted, State.modDict]

/-- A write of the engine's tail register (R357). -/
theorem coreRegister_tail {g : Nat} (hg : s.present g = true) (v : Nat) : coreRegister s g 0x010 v =
    s.setCore g ((s.core g).setUnit .engine { s.unitOf .engine g with tail := BitVec.ofNat 32 v }) := by
  simp [coreRegister, hg, ringRegister]

/-- Settles O34: each write is what its object makes of an admitted access. -/
theorem accessLevelAndObjectWrites : Obligations.AccessLevelAndObjectWrites := by
  unfold Obligations.AccessLevelAndObjectWrites
  intro s acc d s'
  refine ⟨fun h v => ⟨fun hv hsame => ?_, fun hv => ?_, fun hv => ?_, fun hv hlevel => ?_⟩, rfl, fun h v => ⟨fun hv => ?_, fun hv => ?_⟩,
    fun h v hv => ?_, fun idx sub b r t h hr => ⟨fun hl hw => ?_, fun hl => ?_⟩, fun g v hg => ?_⟩
  · rw [exec_accessLevelWrite h]
    have hw : writeLevel s v.toNat = accepted s := by
      rw [writeLevel, if_neg (by omega), if_pos (by rw [BitVec.ofNat_toNat, BitVec.setWidth_eq]; exact hsame.symm)]
    rw [hw]
    rfl
  · rw [exec_accessLevelWrite h, writeLevel, if_pos hv]
    rfl
  · subst hv
    rw [exec_accessLevelWrite h]
    have hw : writeLevel s (0 : BitVec 8).toNat = accepted { s with dict := { d with accessLevel := 0 } } := by
      by_cases hlevel : s.dict.accessLevel = BitVec.ofNat 8 (0 : BitVec 8).toNat
      · have hd : ({ s.dict with accessLevel := 0 } : Dict) = s.dict := by rw [show (0 : BitVec 8) = s.dict.accessLevel from hlevel.symm]
        rw [writeLevel, if_neg (by decide), if_pos hlevel, hd]
      · rw [writeLevel, if_neg (by decide), if_neg hlevel]
        rfl
    rw [hw]
    rfl
  · subst hv
    obtain ⟨t, hw, h1, h2, h3, h4⟩ := writeLevel_raises hlevel
    refine ⟨t, ?_, h1, h2, h3, h4⟩
    rw [exec_accessLevelWrite h, show (1 : BitVec 8).toNat = 1 from rfl, hw]
    rfl
  · subst hv
    exact exec_errorHistoryClear h 0
  · rw [exec_errorHistoryClear h]
    have hv' : v.toNat ≠ 0 := fun h => hv (BitVec.eq_of_toNat_eq h)
    simp [setIf, hv', aborted, abRange]
  · exact exec_heartbeatWrite h hv
  · exact congrArg Host.Outcome.next (dictCommandWith_admitted h hr hl hw)
  · exact congrArg Host.Outcome.next (dictCommandWith_length h hr hl)
  · refine congrArg Host.Outcome.next ((coreRegister_tail hg v.toNat).trans ?_)
    rfl

end
end Sys2Proof.Machine
end

section
/-! PROOFS. LSS (O36). -/

namespace Sys2Proof.Machine

/-! ### LSS (R351, R424) -/

section
variable {s : State}

theorem lssBoth_on (h : s.power.regulators = true) (own metering : State → State) : lssBoth s own metering = metering (own s) := by
  simp [lssBoth, h]

/-- The clear of an EMCY changes the dictionary and what goes out. -/
theorem emcyClear_frame (s : State) : { emcyClear s with dict := s.dict, out := s.out } = s := by
  unfold emcyClear emcyOut
  dsimp only
  split_ifs <;> rfl

theorem Dict.SameButEmcys.trans {a b c : Dict} (h : a.SameButEmcys b) (h' : b.SameButEmcys c) : a.SameButEmcys c := by
  have h1 := congrArg (fun (k : Dict) => { k with
    errorRegister := a.errorRegister, history := a.history, emcyQueue := a.emcyQueue, emcyHeld := a.emcyHeld, emcyDropped := a.emcyDropped }) h'
  exact Eq.trans h1 h

theorem emcyClear_dict (s : State) : s.dict.SameButEmcys (emcyClear s).dict := by
  unfold emcyClear
  split
  · rfl
  · have h : s.dict.SameButEmcys { s.dict with errorRegister := 0 } := rfl
    exact h.trans (emcyOut_dict { s with dict := { s.dict with errorRegister := 0 } } _)

/-- The comparison of the two node IDs leaves all but the dictionary's mismatch and EMCYs. -/
theorem pairCheck_leaves (s : State) : { pairCheck s with dict := s.dict, out := s.out } = s ∧
    (pairCheck s).dict.nodeId = s.dict.nodeId ∧ (pairCheck s).dict.storedNodeId = s.dict.storedNodeId := by
  have hleaves (u : State) {t : State} (hu : { u with dict := s.dict } = s) (hn : u.dict.nodeId = s.dict.nodeId)
      (hst : u.dict.storedNodeId = s.dict.storedNodeId) (h : { t with dict := u.dict, out := u.out } = u) (hd : u.dict.SameButEmcys t.dict) :
      { t with dict := s.dict, out := s.out } = s ∧ t.dict.nodeId = s.dict.nodeId ∧ t.dict.storedNodeId = s.dict.storedNodeId := by
    refine ⟨Eq.trans (congrArg (fun (t : State) => { t with dict := s.dict, out := s.out }) h)
      (congrArg (fun (t : State) => { t with out := s.out }) hu), ?_, ?_⟩
    · have h := congrArg Dict.nodeId hd; exact h.trans hn
    · have h := congrArg Dict.storedNodeId hd; exact h.trans hst
  unfold pairCheck
  dsimp only
  split_ifs
  · exact ⟨rfl, rfl, rfl⟩
  · exact hleaves { s with dict := { s.dict with pairMismatch := false } } rfl rfl rfl (emcyClear_frame _) (emcyClear_dict _)
  · exact ⟨rfl, rfl, rfl⟩
  · exact ⟨rfl, rfl, rfl⟩
  · exact hleaves { s with dict := { s.dict with pairMismatch := true } } rfl rfl rfl (emcy_frame ..) (emcy_dict ..)

/-- The ID that a node has after it has stored the pending one. -/
theorem freshId (own pending : BitVec 8) :
    (if (decide (own = 0xFF) && decide (pending ≠ 0xFF)) = true then pending else own) = if own = 0xFF then pending else own := by
  by_cases h : own = 0xFF
  · by_cases h' : pending = 0xFF
    · rw [if_pos h, h', h]
      rfl
    · rw [if_pos h, decide_eq_true h, decide_eq_true h']
      rfl
  · rw [if_neg h, decide_eq_false h, Bool.false_and, if_neg Bool.false_ne_true]

/-- The pending node ID is stored, and taken at once by a node that has none (R351). -/
theorem storeNode_stores (s : State) : (storeNode s).dict.storedNodeId = s.dict.pendingNodeId ∧
    (storeNode s).dict.nodeId = (if s.dict.nodeId = 0xFF then s.dict.pendingNodeId else s.dict.nodeId) ∧
    { storeNode s with dict := s.dict, out := s.out, rel := s.rel } = s := by
  set u : State := (logEntry s 0xF3 0 1 0 (leBytes 1 s.dict.pendingNodeId.toNat)).modDict fun d => { d with
    storedNodeId := s.dict.pendingNodeId
    nodeId := if (decide (s.dict.nodeId = 0xFF) && decide (s.dict.pendingNodeId ≠ 0xFF)) = true then s.dict.pendingNodeId else d.nodeId
    busState := if (decide (s.dict.nodeId = 0xFF) && decide (s.dict.pendingNodeId ≠ 0xFF)) = true then 0 else d.busState } with hu
  have hid : u.dict.nodeId = if s.dict.nodeId = 0xFF then s.dict.pendingNodeId else s.dict.nodeId := by
    show (if (decide (s.dict.nodeId = 0xFF) && decide (s.dict.pendingNodeId ≠ 0xFF)) = true then s.dict.pendingNodeId else s.dict.nodeId) = _
    exact freshId ..
  have hstore : storeNode s = if (decide (s.dict.nodeId = 0xFF) && decide (s.dict.pendingNodeId ≠ 0xFF)) = true then pairCheck u else u := rfl
  rw [hstore]
  split
  · obtain ⟨hframe, hn, hst⟩ := pairCheck_leaves u
    refine ⟨hst, hn.trans hid, ?_⟩
    have h := congrArg (fun (t : State) => { t with dict := s.dict, out := s.out, rel := s.rel }) hframe
    exact h
  · exact ⟨rfl, hid, rfl⟩

theorem lssNodeId_own (hreg : s.power.regulators = true) (hown : s.dict.lssConfig = true) (hmeter : s.meter.lssConfig = false) (n : Nat) :
    lssNodeId s n = if nodeIdOk n then lssReply (s.modDict fun d => { d with pendingNodeId := BitVec.ofNat 8 n }) 0x11 0
      else lssReply s 0x11 1 := by
  simp only [lssNodeId, lssBoth_on hreg, hown, Bool.not_true, Bool.false_eq_true, if_false]
  split <;> simp [lssReply, State.send, State.modDict, hmeter]

theorem lssInquire_own (hreg : s.power.regulators = true) (hown : s.dict.lssConfig = true) (hmeter : s.meter.lssConfig = false) (n : Nat) :
    lssInquire s n = lssReply s (0x5A + n) (moduleLss.getD n s.dict.nodeId.toNat) := by
  simp [lssInquire, lssBoth_on hreg, hown, lssReply, State.send, hmeter]

theorem lssTiming_own (hreg : s.power.regulators = true) (hown : s.dict.lssConfig = true) (hmeter : s.meter.lssConfig = false) :
    lssTiming s = lssReply s 0x13 1 := by
  simp [lssTiming, lssBoth_on hreg, hown, lssReply, State.send, hmeter]

theorem lssStore_own (hreg : s.power.regulators = true) (hown : s.dict.lssConfig = true) (hmeter : s.meter.lssConfig = false) :
    lssStore s = lssReply (storeNode s) 0x17 0 := by
  have hm : (storeNode s).meter = s.meter := by
    have h := congrArg State.meter (storeNode_stores s).2.2; exact h
  simp [lssStore, lssBoth_on hreg, hown, lssReply, State.send, hm, hmeter]

/-- Fastscan's first message finds the module's node, the only one without an ID (R351). -/
theorem lssFastscan_first (hreg : s.power.regulators = true) (hid : s.dict.nodeId = 0xFF) (hconf : s.dict.lssConfig = false)
    (hmid : s.meter.die.nodeId ≠ 0xFF) (id sub next : Nat) :
    lssFastscan s id 0x80 sub next = lssReply (s.modDict fun d => { d with lssMatched := 0, lssConfig := false }) 0x4F 0 := by
  have hown : fastscanStep moduleLss (decide (s.dict.nodeId = 0xFF) && !s.dict.lssConfig) s.dict.lssMatched id 0x80 sub next = some (0, false) := by
    rw [decide_eq_true hid, hconf]
    rfl
  have hother (t : State) (h : t.meter = s.meter) :
      fastscanStep meterLss (decide (t.meter.die.nodeId = 0xFF) && !t.meter.lssConfig) t.meter.lssMatched id 0x80 sub next = none := by
    rw [h, decide_eq_false hmid]
    rfl
  unfold lssFastscan
  rw [lssBoth_on hreg, hown]
  dsimp only
  rw [hother]
  rfl

/-- Settles O36: each command is what the module's node makes of it, the metering node being silent. -/
theorem lssConfiguresTheNodes : Obligations.LssConfiguresTheNodes := by
  unfold Obligations.LssConfiguresTheNodes
  intro s hreg d
  refine ⟨fun on => ?_, ?_, fun hown hmeter => ⟨fun n => ⟨fun hn => ?_, fun hn => ?_⟩, fun table index => ?_, ?_, ?_, ?_, ?_, ?_⟩,
    fun hid hconf hmid id sub next => ?_⟩
  · exact congrArg Host.Outcome.next (lssBoth_on hreg ..)
  · refine congrArg Host.Outcome.next ((lssBoth_on hreg ..).trans ?_)
    have hown : [(0x0A7E : BitVec 32).toNat, (0x00010001 : BitVec 32).toNat, (0x00020001 : BitVec 32).toNat, Config.serialNumber.toNat] = moduleLss := rfl
    have hother : moduleLss ≠ meterLss := by simp [moduleLss, meterLss]
    rw [hown, if_pos rfl, if_neg hother]
    rfl
  · refine congrArg Host.Outcome.next ((lssNodeId_own hreg hown hmeter _).trans ?_)
    rw [if_pos (by simp [nodeIdOk, hn]), BitVec.ofNat_toNat, BitVec.setWidth_eq]
    rfl
  · refine congrArg Host.Outcome.next ((lssNodeId_own hreg hown hmeter _).trans ?_)
    have hno : nodeIdOk n.toNat = false := by
      rcases hn with rfl | hn
      · rfl
      · simp [nodeIdOk]; omega
    rw [hno]
    rfl
  · exact congrArg Host.Outcome.next (lssTiming_own hreg hown hmeter)
  · refine ⟨_, congrArg Host.Outcome.next (lssStore_own hreg hown hmeter), ?_⟩
    obtain ⟨hstored, hnode, hframe⟩ := storeNode_stores s
    refine ⟨hstored, fun h => hnode.trans (if_pos h), fun h => hnode.trans (if_neg h), ?_, ?_, ?_⟩
    · have h := congrArg State.mem hframe; exact h
    · have h := congrArg State.cores hframe; exact h
    · have h := congrArg State.contexts hframe; exact h
  · exact congrArg Host.Outcome.next (lssInquire_own hreg hown hmeter 0)
  · exact congrArg Host.Outcome.next (lssInquire_own hreg hown hmeter 1)
  · exact congrArg Host.Outcome.next (lssInquire_own hreg hown hmeter 2)
  · refine congrArg Host.Outcome.next ((lssInquire_own hreg hown hmeter 4).trans ?_)
    simp [lssReply, moduleLss, d]
  · exact congrArg Host.Outcome.next (lssFastscan_first hreg hid hconf hmid ..)

end
end Sys2Proof.Machine
end

section
/-! PROOFS. NMT and the heartbeat (O37). -/

namespace Sys2Proof.Machine

/-! ### NMT and the heartbeat (R353, R354) -/

section
variable {s : State}

theorem reached_mgmt : s.reached .mgmt = true ↔ s.power.regulators = true ∧ s.dict.nodeId ≠ 0xFF ∧ s.dict.busState ≠ 2 := by
  simp only [State.reached, Bool.and_eq_true, decide_eq_true_eq, and_assoc]

theorem canSend_on {base : Nat} {b : Bytes} (hreg : s.power.regulators = true) (hid : s.dict.nodeId ≠ 0xFF) (hbus : s.dict.busState ≠ 2) :
    canSend s base b = s.send (.can (BitVec.ofNat 11 (base + s.dict.nodeId.toNat)) b) := by
  rw [canSend, if_neg]
  rintro (h | h | h)
  · exact hid h
  · exact hbus h
  · rw [hreg] at h; cases h

theorem canSend_reached (h : s.reached .mgmt = true) (base : Nat) (b : Bytes) :
    canSend s base b = s.send (.can (BitVec.ofNat 11 (base + s.dict.nodeId.toNat)) b) := by
  obtain ⟨hreg, hid, hbus⟩ := reached_mgmt.1 h
  exact canSend_on hreg hid hbus

/-- The metering node hears no NMT command while it has no ID (R425). -/
theorem meterNmt_unnamed (h : s.meter.die.nodeId = 0xFF) (command node : Nat) : meterNmt s command node = s := if_pos (.inl h)

/-- An NMT command to the module's own node, the metering node having no ID, is what the module makes of it. -/
theorem nmtCommand_own (h : s.reached .mgmt = true) (hmeter : s.meter.die.nodeId = 0xFF) {command : Nat}
    (hown : (nmtOwn s command).meter = s.meter) : nmtCommand s command s.dict.nodeId.toNat = nmtOwn s command := by
  have hmine : (s.reached .mgmt && (decide (s.dict.nodeId.toNat = 0) || decide (s.dict.nodeId.toNat = s.dict.nodeId.toNat))) = true := by
    simp [h]
  rw [nmtCommand, hmine, if_pos rfl]
  exact meterNmt_unnamed (by rw [hown, hmeter]) ..

/-- INTRs that were held go out; what stands beside the link stays (R333). -/
theorem releaseIntr_frame (s : State) : { releaseIntr s with drinex := s.drinex, out := s.out } = s := by
  unfold releaseIntr
  split
  · refine List.foldlRecOn (motive := fun (t : State) => { t with drinex := s.drinex, out := s.out } = s) _ _ rfl fun t h v _ => ?_
    have h' := congrArg (fun (u : State) => { u with drinex := s.drinex, out := s.out }) (sendIntr_frame t v)
    exact Eq.trans h' h
  · rfl

/-- A change of the device state is announced by a heartbeat (R354). -/
theorem setDevice_quiesced (h : s.reached .mgmt = true) (hst : s.device = .service) : setDevice s .quiesced =
    { s with device := .quiesced, out := .can (BitVec.ofNat 11 (0x700 + s.dict.nodeId.toNat)) [0x04#8] :: s.out } := by
  have hne : ¬s.device = .quiesced := by rw [hst]; decide
  have hno : ¬DeviceState.quiesced = DeviceState.service := by decide
  rw [setDevice, if_neg hne]
  dsimp only
  rw [if_neg hno]
  exact canSend_reached (s := { s with device := .quiesced }) h 0x700 [0x04#8]

theorem setDevice_service (h : s.reached .mgmt = true) (hst : s.device = .quiesced) :
    { setDevice s .service with device := s.device, drinex := s.drinex, out := s.out } = s ∧ (setDevice s .service).device = .service := by
  have hne : ¬s.device = .service := by rw [hst]; decide
  have heq : setDevice s .service = releaseIntr ({ s with device := .service }.send (.can (BitVec.ofNat 11 (0x700 + s.dict.nodeId.toNat)) [0x05#8])) := by
    rw [setDevice, if_neg hne]
    exact congrArg releaseIntr (canSend_reached (s := { s with device := .service }) h 0x700 [0x05#8])
  have hframe := releaseIntr_frame ({ s with device := .service }.send (.can (BitVec.ofNat 11 (0x700 + s.dict.nodeId.toNat)) [0x05#8]))
  rw [← heq] at hframe
  refine ⟨?_, ?_⟩
  · have h := congrArg (fun (t : State) => { t with device := s.device, drinex := s.drinex, out := s.out }) hframe
    exact h
  · have h := congrArg State.device hframe
    exact h

/-- The communication reset sends the boot-up message (R353). -/
theorem commReset_boots (hreg : s.power.regulators = true) (hid : s.dict.nodeId ≠ 0xFF) : ∃ d, commReset s =
      { s with dict := d, out := .can (BitVec.ofNat 11 (0x700 + s.dict.nodeId.toNat)) [0x00#8] :: s.out } ∧
    d.history = [] ∧ d.errorRegister = 0 ∧ d.heartbeatMs = 0x03E8 ∧ d.inhibitEmcy = 0x0A ∧ d.cobIdEmcy = none :=
  ⟨_, canSend_on (s := { s with dict := _ }) hreg hid (by simp), rfl, rfl, rfl, rfl, rfl⟩

theorem heartbeatDue_own (hmeter : s.meter.heartbeatMs = 0) :
    heartbeatDue s = if s.dict.heartbeatMs = 0 then s else sendHeartbeat s := by
  have hm : (if s.dict.heartbeatMs = 0 then s else sendHeartbeat s).meter = s.meter := by
    unfold sendHeartbeat canSend
    split_ifs <;> rfl
  rw [heartbeatDue]
  exact if_pos (by rw [hm, hmeter])

/-- Settles O37: the command is `nmtOwn`, by the device state. -/
theorem nmtCommandsAct : Obligations.NmtCommandsAct := by
  unfold Obligations.NmtCommandsAct
  intro s n hreached hn hmeter d ignored
  subst hn
  obtain ⟨hreg, hid, hbus⟩ := reached_mgmt.1 hreached
  have hnmt {command : Nat} {t : State} (ht : nmtOwn s command = t) (hm : t.meter = s.meter) :
      nmtCommand s command s.dict.nodeId.toNat = t :=
    (nmtCommand_own hreached hmeter (by rw [ht, hm])).trans ht
  refine ⟨fun hst => ?_, fun hst => ?_, fun hst => ?_, fun hst => ?_, fun hst => ?_, fun hst => ?_, ?_, fun hstart hdrain => ?_, ?_,
    fun hm hms => ?_, fun hm hms => ?_⟩
  · exact congrArg Host.Outcome.next (hnmt (by rw [nmtOwn, hst]; rfl) rfl)
  · exact congrArg Host.Outcome.next (hnmt (by rw [nmtOwn, hst]) rfl)
  · obtain ⟨hframe, hdev⟩ := setDevice_service hreached hst
    refine ⟨_, congrArg Host.Outcome.next (hnmt (t := setDevice s .service) (by rw [nmtOwn, hst]) ?_), hdev, ?_, ?_, ?_⟩
    · have h := congrArg State.meter hframe; exact h
    · have h := congrArg State.mem hframe; exact h
    · have h := congrArg State.dict hframe; exact h
    · have h := congrArg State.contexts hframe; exact h
  · exact congrArg Host.Outcome.next (hnmt (by rw [nmtOwn, hst]; rfl) rfl)
  · exact congrArg Host.Outcome.next (hnmt (by rw [nmtOwn, hst]) rfl)
  · have hown : nmtOwn s 0x02 = setDevice s .quiesced := by rw [nmtOwn, hst]
    exact ⟨_, congrArg Host.Outcome.next (hnmt (hown.trans (setDevice_quiesced hreached hst)) rfl), rfl, rfl, rfl⟩
  · exact congrArg Host.Outcome.next (hnmt rfl rfl)
  · refine congrArg Host.Outcome.next (hnmt ?_ rfl)
    show warmCommanded s .warmNmt = _
    simp [warmCommanded, hreg, hstart, hdrain]
  · obtain ⟨e, heq, h1, h2, h3, h4, h5⟩ := commReset_boots hreg hid
    exact ⟨_, congrArg Host.Outcome.next (hnmt (t := _) heq rfl), h1, h2, h3, h4, h5, rfl, rfl, rfl⟩
  · refine congrArg Host.Outcome.next ((heartbeatDue_own hm).trans ((if_neg hms).trans ?_))
    exact canSend_reached hreached 0x700 _
  · exact congrArg Host.Outcome.next ((heartbeatDue_own hm).trans (if_pos hms))

end
end Sys2Proof.Machine
end

section
/-! PROOFS. EMCYs, TPDOs and the errors of the CAN node (O38). -/

namespace Sys2Proof.Machine

/-! ### EMCYs, TPDOs and errors of the CAN node (R350, R356 to R358) -/

section
variable {s t : State} {n : Nat}

theorem emcyOut_on (hon : s.emcyOn = true) (hheld : s.dict.emcyHeld = false) (m : Emcy) : emcyOut s m =
    { s with
      out := .can (s.dict.emcyId.setWidth 11) (emcyBytes m) :: s.out
      dict := { s.dict with emcyHeld := decide (s.dict.inhibitEmcy ≠ 0) } } := by
  rw [emcyOut, hon, hheld]
  rfl

/-- An EMCY's code sets its bit of the error register. -/
theorem emcy_errorRegister (s : State) (code unit : Nat) : (emcy s code unit).dict.errorRegister =
    s.dict.errorRegister ||| BitVec.ofNat 8 (emcyBit code) ||| (if emcyBit code = 0 then 0 else 1) := by
  unfold emcy emcyOut
  dsimp only
  split_ifs <;> rfl

/-- An EMCY that is on stands first in the history. -/
theorem emcy_history (hon : s.emcyOn = true) (code unit : Nat) : (emcy s code unit).dict.history.head? =
    some (BitVec.ofNat 32 (code + (s.dict.errorRegister ||| BitVec.ofNat 8 (emcyBit code) ||| (if emcyBit code = 0 then 0 else 1)).toNat * 2 ^ 16)) := by
  have hkeep (u : State) (m : Emcy) : (emcyOut u m).dict.history = u.dict.history := by
    unfold emcyOut
    split_ifs <;> rfl
  unfold emcy
  dsimp only
  rw [if_pos (by exact hon), hkeep]
  simp

/-- A TPDO that runs, with new values or its timer due, is sent once its inhibit time has passed. -/
theorem tpdoTry_sends (hrun : tpdoRuns s n = true) {timer : Bool}
    (hwant : timer = true ∨ tpdoValues s n ≠ (smGet {} s.dict.tpdos n : Tpdo).last)
    (hclear : (smGet ({} : Tpdo) s.dict.tpdos n).clear s.dict.sampleTick = true) :
    tpdoTry timer s n = (s.modTpdo n fun t => t.sent (tpdoValues s n) s.dict.sampleTick).send
      (.can ((s.dict.tpdoId n).setWidth 11) (tpdoValues s n)) := by
  have hwanted : (decide (tpdoValues s n ≠ (smGet {} s.dict.tpdos n : Tpdo).last) || (smGet {} s.dict.tpdos n : Tpdo).due || timer) = true := by
    rcases hwant with h | h
    · rw [h, Bool.or_true]
    · rw [decide_eq_true h, Bool.true_or, Bool.true_or]
  rw [tpdoTry, hrun]
  simp only [hwanted, hclear, Bool.not_true, Bool.false_eq_true, if_false, if_true]

theorem tpdoTry_off (hrun : tpdoRuns s n = false) (timer : Bool) : tpdoTry timer s n = s := by
  simp [tpdoTry, hrun]

/-- A TPDO changes its own state and what goes out. -/
theorem tpdoTry_frame (timer : Bool) (s : State) (n : Nat) : { tpdoTry timer s n with dict := s.dict, out := s.out } = s ∧
    (tpdoTry timer s n).dict.sampleTick = s.dict.sampleTick ∧ s.out ⊆ (tpdoTry timer s n).out := by
  unfold tpdoTry
  dsimp only
  split_ifs
  · exact ⟨rfl, rfl, List.Subset.refl _⟩
  · exact ⟨rfl, rfl, List.Subset.refl _⟩
  · exact ⟨rfl, rfl, List.subset_cons_self ..⟩
  · exact ⟨rfl, rfl, List.Subset.refl _⟩
  · exact ⟨rfl, rfl, List.Subset.refl _⟩

theorem meterTpdoTry_frame (timer : Bool) (s : State) : { meterTpdoTry timer s with meter := s.meter, out := s.out } = s ∧
    s.out ⊆ (meterTpdoTry timer s).out := by
  unfold meterTpdoTry
  dsimp only
  split_ifs
  · exact ⟨rfl, List.Subset.refl _⟩
  · exact ⟨rfl, List.Subset.refl _⟩
  · exact ⟨rfl, List.subset_cons_self ..⟩
  · exact ⟨rfl, List.Subset.refl _⟩
  · exact ⟨rfl, List.Subset.refl _⟩

theorem foldl_tpdoTry_frame (l : List Nat) (s : State) : { l.foldl (tpdoTry false) s with dict := s.dict, out := s.out } = s ∧
    (l.foldl (tpdoTry false) s).dict.sampleTick = s.dict.sampleTick ∧ s.out ⊆ (l.foldl (tpdoTry false) s).out := by
  induction l generalizing s with
  | nil => exact ⟨rfl, rfl, List.Subset.refl _⟩
  | cons a l ih =>
    obtain ⟨h1, h2, h3⟩ := tpdoTry_frame false s a
    obtain ⟨g1, g2, g3⟩ := ih (tpdoTry false s a)
    refine ⟨?_, g2.trans h2, List.Subset.trans h3 g3⟩
    have g := congrArg (fun (u : State) => { u with dict := s.dict, out := s.out }) g1
    exact Eq.trans g h1

/-- The one TPDO of a list that runs is sent in its turn. -/
theorem foldl_tpdoTry_sends {l : List Nat} (hn : n ∈ l) (hrun : tpdoRuns s n = true) (hother : ∀ k ∈ l, k ≠ n → tpdoRuns s k = false)
    (hnew : tpdoValues s n ≠ (smGet {} s.dict.tpdos n : Tpdo).last)
    (hclear : (smGet ({} : Tpdo) s.dict.tpdos n).clear s.dict.sampleTick = true) :
    .can ((s.dict.tpdoId n).setWidth 11) (tpdoValues s n) ∈ (l.foldl (tpdoTry false) s).out := by
  induction l with
  | nil => cases hn
  | cons a l ih =>
    rw [List.forall_mem_cons] at hother
    rw [List.foldl_cons]
    by_cases ha : a = n
    · subst ha
      refine (foldl_tpdoTry_frame l _).2.2 ?_
      rw [tpdoTry_sends hrun (.inr hnew) hclear]
      exact List.mem_cons_self
    · rw [tpdoTry_off (hother.1 ha)]
      exact ih ((List.mem_cons.1 hn).resolve_left (Ne.symm ha)) hother.2

/-- The state in the next sampling period. -/
def State.nextSample (s : State) : State := { s with dict := { s.dict with sampleTick := s.dict.sampleTick + 1 } }

theorem tpdoId_nextSample (s : State) (n : Nat) : s.nextSample.dict.tpdoId n = s.dict.tpdoId n := by
  unfold Dict.tpdoId State.nextSample
  rfl

theorem tpdoRuns_nextSample (s : State) (n : Nat) : tpdoRuns s.nextSample n = tpdoRuns s n := by
  unfold tpdoRuns Dict.tpdoOff
  rw [tpdoId_nextSample]
  rfl

theorem tpdoSample_samples (s : State) : { tpdoSample s with dict := s.dict, out := s.out, meter := s.meter } = s ∧
    (tpdoSample s).dict.sampleTick = s.dict.sampleTick + 1 ∧
    ((List.range 8).foldl (tpdoTry false) s.nextSample).out ⊆ (tpdoSample s).out := by
  obtain ⟨hframe, htick, -⟩ := foldl_tpdoTry_frame (List.range 8) s.nextSample
  have ht : tpdoSample s = meterTpdoTry false ((List.range 8).foldl (tpdoTry false) s.nextSample) := rfl
  rw [ht]
  generalize (List.range 8).foldl (tpdoTry false) s.nextSample = u at hframe htick
  obtain ⟨hmframe, hout⟩ := meterTpdoTry_frame false u
  refine ⟨?_, ?_, hout⟩
  · have h := congrArg (fun (t : State) => { t with dict := s.dict, out := s.out, meter := s.meter }) hmframe
    have h' := congrArg (fun (t : State) => { t with dict := s.dict, meter := s.meter }) hframe
    exact Eq.trans h h'
  · have h := congrArg (fun t : State => t.dict.sampleTick) hmframe
    exact Eq.trans h htick

theorem tpdoTimer_sends (hev : (smGet ({} : Tpdo) s.dict.tpdos n).event ≠ 0) (hrun : tpdoRuns s n = true)
    (hclear : (smGet ({} : Tpdo) s.dict.tpdos n).clear s.dict.sampleTick = true) (hmeter : s.meter.tpdo.event = 0) :
    (tpdoTimer s n).out = .can ((s.dict.tpdoId n).setWidth 11) (tpdoValues s n) :: s.out ∧
      { tpdoTimer s n with dict := s.dict, out := s.out } = s := by
  suffices h : tpdoTimer s n = tpdoTry true s n by
    rw [h, tpdoTry_sends (timer := true) hrun (.inl rfl) hclear]
    exact ⟨rfl, rfl⟩
  rw [tpdoTimer, if_neg hev]
  have hm : (tpdoTry true s n).meter = s.meter := by
    have h := congrArg State.meter (tpdoTry_frame true s n).1; exact h
  exact if_neg fun h => h.2 (by rw [hm, hmeter])

/-- The end of the bus-off state is counted and announced (R356). -/
theorem busRecovered_recovers (hreg : s.power.regulators = true) (hbus : s.dict.busState = 2) :
    (busRecovered s).dict.busState = 0 ∧ (busRecovered s).dict.busOffs = satAdd s.dict.busOffs 1 ∧
      { busRecovered s with dict := s.dict, out := s.out } = s := by
  let u : State := s.modDict fun d => { d with busState := 0, txErrors := 0, rxErrors := 0, busOffs := satAdd d.busOffs 1 }
  have hrec : busRecovered s = emcyClear (emcy u 0x8140 0) := if_neg (by simp [hreg, hbus])
  rw [hrec]
  have hdict := (emcy_dict u 0x8140 0).trans (emcyClear_dict (emcy u 0x8140 0))
  have hframe := emcyClear_frame (emcy u 0x8140 0)
  have hframe' := emcy_frame u 0x8140 0
  generalize emcyClear (emcy u 0x8140 0) = t at hdict hframe
  generalize emcy u 0x8140 0 = v at hframe hframe'
  refine ⟨?_, ?_, ?_⟩
  · have h := congrArg Dict.busState hdict; exact h
  · have h := congrArg Dict.busOffs hdict; exact h
  · have h := congrArg (fun (t : State) => { t with dict := s.dict, out := s.out }) hframe
    have h' := congrArg (fun (t : State) => { t with dict := s.dict, out := s.out }) hframe'
    exact Eq.trans h h'

/-- The node's errors stand in its counters and its state, and a warning is announced once (R356). -/
theorem busErrors_counts (hreg : s.power.regulators = true) (hid : s.dict.nodeId ≠ 0xFF) (off : Bool) (tx rx : BitVec 8) :
    (busErrors s off tx rx).dict.busState = (if off then 2 else 1) ∧ (busErrors s off tx rx).dict.txErrors = tx ∧
      (busErrors s off tx rx).dict.rxErrors = rx ∧
      (off = false → s.dict.busState ≠ 1 → (busErrors s off tx rx).dict.errorRegister = s.dict.errorRegister ||| 0x11) ∧
      { busErrors s off tx rx with dict := s.dict, out := s.out } = s := by
  let u : State := s.modDict fun d => { d with busState := if off then 2 else 1, txErrors := tx, rxErrors := rx }
  have hrec : busErrors s off tx rx = if off = true ∨ s.dict.busState = 1 then u else emcy u 0x8120 0 :=
    if_neg (by rintro (h | h); exacts [hid h, by rw [hreg] at h; cases h])
  rw [hrec]
  split
  next h => exact ⟨rfl, rfl, rfl, fun hoff hbus => absurd (h.resolve_left (by rw [hoff]; decide)) hbus, rfl⟩
  next =>
    have hdict := emcy_dict u 0x8120 0
    have hreg := emcy_errorRegister u 0x8120 0
    have hframe := emcy_frame u 0x8120 0
    refine ⟨?_, ?_, ?_, fun _ _ => hreg.trans (BitVec.or_assoc ..), ?_⟩
    · have h := congrArg Dict.busState hdict; exact h
    · have h := congrArg Dict.txErrors hdict; exact h
    · have h := congrArg Dict.rxErrors hdict; exact h
    · have h := congrArg (fun (t : State) => { t with dict := s.dict, out := s.out }) hframe; exact h

/-- Settles O38: each of the node's events is one EMCY, one TPDO, or a new error state. -/
theorem emergenciesAndTpdos : Obligations.EmergenciesAndTpdos := by
  unfold Obligations.EmergenciesAndTpdos
  intro s d id
  refine ⟨fun hon hq => ?_, fun m ms hon hq => ?_, ?_, fun n hev hrun hclear hmeter => ?_, fun hreg hid => ⟨fun hbus => ?_, fun off tx rx => ?_, fun hbus => ?_⟩⟩
  · have hnext : emcyNext s = s.modDict fun d => { d with emcyHeld := false } := by
      simp [emcyNext, hon, show s.dict.emcyQueue = [] from hq]
    exact congrArg Host.Outcome.next hnext
  · have hnext : emcyNext s = emcyOut (s.modDict fun d => { d with emcyHeld := false, emcyQueue := ms }) m := by
      simp [emcyNext, hon, show s.dict.emcyQueue = m :: ms from hq]
    exact congrArg Host.Outcome.next (hnext.trans (emcyOut_on (s := s.modDict fun d => { d with emcyHeld := false, emcyQueue := ms }) hon rfl m))
  · obtain ⟨hframe, htick, hout⟩ := tpdoSample_samples s
    generalize ht : tpdoSample s = t at hframe htick hout
    refine ⟨t, congrArg Host.Outcome.next ht, htick, ?_, ?_, ?_, fun n hn hrun hother hnew hclear => hout ?_⟩
    · have h := congrArg State.mem hframe; exact h
    · have h := congrArg State.cores hframe; exact h
    · have h := congrArg State.contexts hframe; exact h
    · rw [← tpdoId_nextSample]
      exact foldl_tpdoTry_sends (s := s.nextSample) (List.mem_range.2 hn) ((tpdoRuns_nextSample s n).trans hrun)
        (fun k hk hne => (tpdoRuns_nextSample s k).trans (hother k (List.mem_range.1 hk) hne)) hnew hclear
  · exact ⟨tpdoTimer s n, rfl, tpdoTimer_sends hev hrun hclear hmeter⟩
  · exact ⟨busRecovered s, rfl, busRecovered_recovers hreg hbus⟩
  · exact ⟨busErrors s off tx rx, rfl, busErrors_counts hreg hid off tx rx⟩
  · have hover : canOverrun s = emcy s 0x8110 0 := if_pos (reached_mgmt.2 ⟨hreg, hid, hbus⟩)
    have hreg : (emcy s 0x8110 0).dict.errorRegister = _ := (emcy_errorRegister s 0x8110 0).trans (BitVec.or_assoc ..)
    refine ⟨_, congrArg Host.Outcome.next hover, hreg, fun hon => ?_, emcy_frame ..⟩
    rw [emcy_history hon, BitVec.or_assoc]
    rfl

end
end Sys2Proof.Machine
end

section
/-! PROOFS. The interrupt controller (O39, O57). -/

namespace Sys2Proof.Machine

/-! ### The interrupt controller (R365 to R371, R374, R375) -/

section
variable {s t : State} {acc : Accessor}

/-- A source and a destination as the controller holds them. -/
def State.source (s : State) (n : Nat) : IrqSource := smGet {} s.sources n
def State.dest (s : State) (n : Nat) : IrqDest := smGet {} s.dests n

theorem wf_sources (hs : s.wf = true) : smWf {} s.sources = true ∧ smWf {} s.dests = true ∧ smWf {} s.cores = true := by
  obtain ⟨-, hcores, -, -, hsources, hdests, -⟩ := State.wf_iff.1 hs
  exact ⟨hsources, hdests, hcores.1⟩

theorem mem_sourceBits {bits : Bytes} {n : Nat} : n ∈ sourceBits bits ↔ n < 1024 ∧ bitAt (byteAt bits (n / 8)) (n % 8) = true := by
  simp [sourceBits]

theorem raise_idle {n : Nat} (h : (s.source n).pending = true) : raise s n = s := by
  have hp : (s.sourceDead n || (smGet {} s.sources n : IrqSource).pending) = true := by
    rw [show (smGet {} s.sources n : IrqSource).pending = true from h, Bool.or_true]
  exact if_pos hp

/-- An event sets the pending bit of its source, unless the source is dead (R365, R366). -/
theorem raise_source (hs : smWf {} s.sources = true) (n k : Nat) : (raise s n).source k =
    { s.source k with pending := (s.source k).pending || (decide (k = n) && !s.sourceDead n) } := by
  have hsrc (k : Nat) : (smGet {} s.sources k : IrqSource) = s.source k := rfl
  rw [State.source, raise_sources, hsrc]
  split
  next h =>
    have hsame : ((s.source k).pending || (decide (k = n) && !s.sourceDead n)) = (s.source k).pending := by
      by_cases hk : k = n
      · subst hk
        revert h
        cases s.sourceDead k <;> cases (s.source k).pending <;> simp
      · simp [hk]
    rw [hsame, hsrc]
  next h =>
    obtain ⟨hlive, -⟩ := Bool.or_eq_false_iff.1 (Bool.eq_false_iff.2 h)
    rw [smGet_smSet hs]
    split
    next hk => subst hk; simp [hlive]
    next hk =>
      rw [decide_eq_false hk, Bool.false_and, Bool.or_false]
      rfl

theorem raise_sources_wf (hs : smWf {} s.sources = true) (n : Nat) : smWf {} (raise s n).sources = true := by
  rw [raise_sources]
  split
  · exact hs
  · exact smWf_smSet hs ..

theorem raise_sourceDead (s : State) (n : Nat) : (raise s n).sourceDead = s.sourceDead := by
  have h := congrArg State.sourceDead (raise_frame s n); exact h

/-- A source whose event delivers nothing: it is disabled, or pending already. -/
def IrqSource.quiet (q : IrqSource) : Prop := q.enabled = false ∨ q.pending = true

theorem raise_quiet {n : Nat} (h : (s.source n).quiet) : { raise s n with sources := s.sources } = s := by
  rcases h with h | h
  · unfold raise
    dsimp only
    split
    · rfl
    · rw [show (smGet {} s.sources n : IrqSource).enabled = false from h]
      rfl
  · rw [raise_idle h]

theorem foldl_raise_quiet (hs : smWf {} s.sources = true) {l : List Nat} (hl : ∀ n ∈ l, (s.source n).quiet) :
    { l.foldl raise s with sources := s.sources } = s := by
  induction l generalizing s with
  | nil => rfl
  | cons n l ih =>
    rw [List.forall_mem_cons] at hl
    have hrest : ∀ k ∈ l, ((raise s n).source k).quiet := fun k hk => by
      rw [raise_source hs]
      exact (hl.2 k hk).imp id fun h => by simp [h]
    have h := congrArg (fun (t : State) => { t with sources := s.sources }) (ih (raise_sources_wf hs n) hrest)
    exact Eq.trans h (raise_quiet hl.1)

/-- Clearing a list of sources clears their pending bits (R365). -/
theorem irqClear_source (hs : smWf {} s.sources = true) (bits : Bytes) (k : Nat) : (irqClear s bits).source k =
    { s.source k with pending := (s.source k).pending && !decide (k ∈ sourceBits bits) } := by
  unfold irqClear
  induction sourceBits bits generalizing s with
  | nil => simp
  | cons n l ih =>
    have hstep : ({ s with sources := smMod {} s.sources n (fun q => { q with pending := false }) } : State).source k =
        { s.source k with pending := (s.source k).pending && !decide (k = n) } := by
      show smGet {} (smSet {} s.sources n _) k = _
      rw [smGet_smSet hs]
      split
      next hk => subst hk; simp [State.source]
      next hk => simp [hk, State.source]
    rw [List.foldl_cons, ih (s := { s with sources := smMod {} s.sources n (fun q => { q with pending := false }) })
      (smWf_smSet hs ..), hstep]
    simp [Bool.and_assoc]

theorem irqClear_frame (s : State) (bits : Bytes) : { irqClear s bits with sources := s.sources } = s := by
  unfold irqClear
  exact List.foldlRecOn (motive := fun (t : State) => { t with sources := s.sources } = s) _ _ rfl fun t h n _ => h

/-- A destination after a delivery (R369, R371). -/
def IrqDest.delivered (d : IrqDest) : IrqDest := { d with count := 0, started := none, deliveries := satAdd d.deliveries 1 }

/-- A delivery empties its destination and counts it (R369, R371). -/
theorem deliver_dests (s : State) (n : Nat) : (deliver s n).dests = smSet {} s.dests n (s.dest n).delivered := by
  have hintr (u : State) (v : BitVec 6) : (sendIntr u v).dests = u.dests := by
    have h := congrArg State.dests (sendIntr_frame u v); exact h
  unfold deliver
  dsimp only
  split
  · exact hintr ..
  · split <;> rfl

theorem deliver_dest (hs : smWf {} s.dests = true) (n k : Nat) :
    (deliver s n).dest k = if k = n then (s.dest n).delivered else s.dest k := by
  rw [State.dest, deliver_dests, smGet_smSet hs]
  rfl

/-- A delivery to a present core sets its line (R371). -/
theorem deliver_line {g : CoreId} (hg : s.present g = true) : ((deliver s (0x1000 + g.val)).core g).line = true := by
  unfold deliver
  dsimp only
  rw [if_neg (by omega), Nat.add_sub_cancel_left, if_pos (by exact hg), State.core, State.setCore]
  rw [smGet_smSet_ne (by intro h; simpa using congrArg Core.line h)]

/-- A destination is due: something is counted, and its count or its time has reached the limit (R370). -/
def IrqDest.due (d : IrqDest) (clkc : BitVec 64) : Prop :=
  0 < d.count.toNat ∧ (d.limitCount.toNat ≤ d.count.toNat ∨ ∃ t, d.started = some t ∧ d.limitUs.toNat * 1200 ≤ (clkc - t).toNat)

/-- Its timer says so. -/
def IrqDest.timed (d : IrqDest) (clkc : BitVec 64) : Bool :=
  match d.started with
  | some t => decide (d.limitUs.toNat * 1200 ≤ (clkc - t).toNat)
  | none => false

theorem IrqDest.due_iff (d : IrqDest) (clkc : BitVec 64) :
    d.due clkc ↔ (decide (0 < d.count.toNat) && (decide (d.limitCount.toNat ≤ d.count.toNat) || d.timed clkc)) = true := by
  cases h : d.started <;> simp [IrqDest.due, IrqDest.timed, h]

theorem deliverIfDue_eq (s : State) (n : Nat) : deliverIfDue s n =
    if (decide (0 < (s.dest n).count.toNat) && (decide ((s.dest n).limitCount.toNat ≤ (s.dest n).count.toNat) || (s.dest n).timed s.clkc)) = true
    then deliver s n else s := by
  unfold deliverIfDue IrqDest.timed
  rfl

theorem deliverIfDue_due {n : Nat} (h : (s.dest n).due s.clkc) : deliverIfDue s n = deliver s n := by
  rw [deliverIfDue_eq, if_pos ((IrqDest.due_iff ..).1 h)]

theorem deliverIfDue_early {n : Nat} (h : ¬(s.dest n).due s.clkc) : deliverIfDue s n = s := by
  rw [deliverIfDue_eq, if_neg (mt (IrqDest.due_iff ..).2 h)]

theorem deliverIfDue_dest_other (hs : smWf {} s.dests = true) {n k : Nat} (hk : k ≠ n) : (deliverIfDue s n).dest k = s.dest k := by
  rw [deliverIfDue_eq]
  split
  · rw [deliver_dest hs, if_neg hk]
  · rfl

/-- An event is counted at its destination alone (R370). -/
theorem destEvent_dest_other (hs : smWf {} s.dests = true) {n k : Nat} (hk : k ≠ n) : (destEvent s n).dest k = s.dest k := by
  have hput (d : IrqDest) : ({ s with dests := smSet {} s.dests n d } : State).dest k = s.dest k := by
    show smGet {} (smSet {} s.dests n d) k = _
    rw [smGet_smSet hs, if_neg hk]
    rfl
  unfold destEvent
  exact (deliverIfDue_dest_other (by exact smWf_smSet hs ..) hk).trans (hput _)

/-! ### The commands of the controller (R374, R375) -/

/-- The object holds a value of n bytes, is no selector and is not written through the fabric. -/
def OwnObject (idx sub n : Nat) : Prop :=
  plainSize idx sub = some n ∧ (objectRow moduleObjects idx sub).map (fun r => decide (r.fabric ≤ 1)) = some true

theorem ownObject_pendingClear : OwnObject 0x2E01 2 128 := by constructor <;> decide +kernel
theorem ownObject_pendingSet : OwnObject 0x2E01 3 128 := by constructor <;> decide +kernel
theorem ownObject_sourceRoute : OwnObject 0x2E00 2 4 := by constructor <;> decide +kernel
theorem ownObject_limitCount : OwnObject 0x2E02 2 2 := by constructor <;> decide +kernel
theorem ownObject_limitTime : OwnObject 0x2E02 3 2 := by constructor <;> decide +kernel

/-- A write of an object that the fabric may not write is answered with what it leaves of the state as it stands. -/
theorem dictCommand_own {idx sub n : Nat} {b : Bytes} (h : Admitted s acc idx sub = true) (hown : OwnObject idx sub n)
    (hl : b.length = n) {r : Except Nat State}
    (hw : writePlain s acc idx sub b = answerOf s r) :
    (∀ u, r = .ok u → .next (dictCommand s acc idx sub b) = Replied acc u) ∧
    (∀ e, r = .error e → (.next (dictCommand s acc idx sub b) : Host.Outcome State Fault Refusal) =
      .next ((countAbort s e).send (.dictReply acc.cls (BitVec.ofNat 32 e) []))) := by
  subst hl
  obtain ⟨hsize, hfabric⟩ := hown
  have ht := touchSelects_unselected h hfabric
  refine ⟨fun u hr => dictCommand_replied h hsize (by rw [ht, hw, hr]; rfl), fun e hr => ?_⟩
  rw [dictCommand_plain h hsize, ht, hw, hr]
  rfl

theorem exec_irqPendingClear {bits : Bytes} (h : Admitted s acc 0x2E01 2 = true) (hl : bits.length = 128) :
    exec (.irqPendingClear acc bits) s = Replied acc (irqClear s bits) :=
  (dictCommand_own h ownObject_pendingClear hl (r := .ok _) rfl).1 _ rfl

theorem irqSet_live {bits : Bytes} (hl : ∀ n ∈ sourceBits bits, s.sourceDead n = false) : irqSet s bits = .ok ((sourceBits bits).foldl raise s) := by
  rw [irqSet, if_neg (by simpa using hl)]

theorem irqSet_dead {bits : Bytes} {n : Nat} (hn : n ∈ sourceBits bits) (hd : s.sourceDead n = true) : irqSet s bits = .error abRange := by
  rw [irqSet, if_pos (List.any_eq_true.2 ⟨n, hn, hd⟩)]

theorem exec_irqSourceRoute {v : BitVec 32} (h : Admitted s acc 0x2E00 2 = true) :
    (∀ u, irqRoute s (s.selects acc).irqSource.toNat v.toNat = .ok u → exec (.irqSourceRoute acc v) s = Replied acc u) ∧
    (∀ e, irqRoute s (s.selects acc).irqSource.toNat v.toNat = .error e → exec (.irqSourceRoute acc v) s =
      .next ((countAbort s e).send (.dictReply acc.cls (BitVec.ofNat 32 e) []))) := by
  refine dictCommand_own h ownObject_sourceRoute (leBytes_length ..) ?_
  show answerOf s (irqRoute s (s.selects acc).irqSource.toNat (leNat (leBytes 4 v.toNat))) = _
  rw [leNat_leBytes_of_lt v.isLt]

/-- The objects from 0x2A00 to 0x2FFF are written in one place. -/
theorem writePlain_2A00 {idx sub : Nat} {b : Bytes} (hlo : 0x2A00 ≤ idx) (hhi : idx < 0x3000) :
    writePlain s acc idx sub b = write2A00 s (s.selects acc) idx sub (leNat b) b := by
  have hsel : counterCommandRow.sel = false := rfl
  rw [writePlain, writeObject, hsel]
  simp only [Bool.false_eq_true, if_false]
  rw [if_neg (by omega), if_neg (by omega), if_neg (by omega), if_neg (by omega), if_pos hhi]

theorem write2A00_irqSet (s : State) (k : Selects) (v : Nat) (b : Bytes) : write2A00 s k 0x2E01 3 v b = answerOf s (irqSet s b) := by
  generalize hr : irqSet s b = r
  unfold write2A00
  simp only [hr]

theorem exec_irqPendingSet {bits : Bytes} (h : Admitted s acc 0x2E01 3 = true) (hl : bits.length = 128) :
    (∀ u, irqSet s bits = .ok u → exec (.irqPendingSet acc bits) s = Replied acc u) ∧
    (∀ e, irqSet s bits = .error e → exec (.irqPendingSet acc bits) s =
      .next ((countAbort s e).send (.dictReply acc.cls (BitVec.ofNat 32 e) []))) := by
  have hw : writePlain s acc 0x2E01 3 bits = answerOf s (irqSet s bits) := by
    rw [writePlain_2A00 (by decide) (by decide)]
    exact write2A00_irqSet ..
  exact dictCommand_own h ownObject_pendingSet hl hw

theorem exec_coalesceLimitWrite {time : Bool} {v : BitVec 16} (h : Admitted s acc 0x2E02 (if time then 3 else 2) = true) :
    (∀ u, irqLimit s (s.selects acc).irqDest.toNat time v.toNat = .ok u → exec (.coalesceLimitWrite acc time v) s = Replied acc u) ∧
    (∀ e, irqLimit s (s.selects acc).irqDest.toNat time v.toNat = .error e → exec (.coalesceLimitWrite acc time v) s =
      .next ((countAbort s e).send (.dictReply acc.cls (BitVec.ofNat 32 e) []))) := by
  have hv : leNat (leBytes 2 v.toNat) = v.toNat := leNat_leBytes_of_lt v.isLt
  cases time with
  | false =>
    refine dictCommand_own h ownObject_limitCount (leBytes_length ..) ?_
    show answerOf s (irqLimit s (s.selects acc).irqDest.toNat false (leNat (leBytes 2 v.toNat))) = _
    rw [hv]
  | true =>
    refine dictCommand_own h ownObject_limitTime (leBytes_length ..) ?_
    show answerOf s (irqLimit s (s.selects acc).irqDest.toNat true (leNat (leBytes 2 v.toNat))) = _
    rw [hv]

theorem bitAt_toNat {w : Nat} (v : BitVec w) (i : Nat) : bitAt v.toNat i = v.getLsbD i := by
  rw [BitVec.getLsbD, Nat.testBit_eq_decide_div_mod_eq]
  rfl

theorem destEvent_frame (s : State) (n : Nat) :
    { destEvent s n with dests := s.dests, cores := s.cores, drinex := s.drinex, out := s.out } = s := by
  have h := congrArg (fun (t : State) => { t with dests := s.dests }) (deliverIfDue_frame
    { s with dests := smSet {} s.dests n { s.dest n with
      count := satAdd (s.dest n).count 1, started := if (s.dest n).count = 0 then some s.clkc else (s.dest n).started } } n)
  exact h

theorem irqRoute_routes (hs : smWf {} s.sources = true) (hd :
    smWf {} s.dests = true) {n : Nat} {v : BitVec 32} (hv : v.toNat / 2 ^ 17 = 0)
    (hcode : destCodeOk (v.toNat % 2 ^ 16) = true) : ∃ u, irqRoute s n v.toNat = .ok u ∧
      u.source n = { s.source n with enabled := v.getLsbD 16, route := v.setWidth 16 } ∧ (∀ m, m ≠ n → u.source m = s.source m) ∧
      ((s.source n).pending = false ∨ v.getLsbD 16 = false → { u with sources := s.sources } = s) ∧
      (∀ d, d ≠ (v.setWidth 16 : BitVec 16).toNat → u.dest d = s.dest d) ∧ u.mem = s.mem := by
  set q : IrqSource := { s.source n with enabled := v.getLsbD 16, route := v.setWidth 16 } with hq
  have heq : irqRoute s n v.toNat = .ok (if ((s.source n).pending && q.enabled && (!(s.source n).enabled || decide ((s.source n).route ≠ q.route))) = true
      then destEvent { s with sources := smSet {} s.sources n q } q.route.toNat else { s with sources := smSet {} s.sources n q }) := by
    rw [irqRoute, if_neg (by rw [hcode]; rintro (h | h); exacts [h hv, by cases h]), bitAt_toNat, BitVec.ofNat_toNat]
    rfl
  have hsource (m : Nat) : ({ s with sources := smSet {} s.sources n q } : State).source m = if m = n then q else s.source m := by
    show smGet {} (smSet {} s.sources n q) m = _
    rw [smGet_smSet hs]
    rfl
  rw [heq]
  split
  next h =>
    obtain ⟨⟨hp, hen⟩, -⟩ : ((s.source n).pending = true ∧ q.enabled = true) ∧ _ := by simpa only [Bool.and_eq_true] using h
    have hframe := destEvent_frame { s with sources := smSet {} s.sources n q } q.route.toNat
    have hdest := fun d hd' => destEvent_dest_other (s := { s with sources := smSet {} s.sources n q }) (n := q.route.toNat) (k := d) hd hd'
    generalize destEvent { s with sources := smSet {} s.sources n q } q.route.toNat = u at hframe hdest
    have hsrc (m : Nat) : u.source m = if m = n then q else s.source m := by
      have h := congrArg (fun (t : State) => t.source m) hframe
      exact Eq.trans h (hsource m)
    refine ⟨u, rfl, (hsrc n).trans (if_pos rfl), fun m hm => (hsrc m).trans (if_neg hm), fun hq => ?_, hdest, ?_⟩
    · rcases hq with h | h
      · rw [h] at hp; cases hp
      · rw [show q.enabled = false from h] at hen; cases hen
    · have h := congrArg State.mem hframe; exact h
  next =>
    exact ⟨_, rfl, (hsource n).trans (if_pos rfl), fun m hm => (hsource m).trans (if_neg hm), fun _ => rfl, fun _ _ => rfl, rfl⟩

theorem irqRoute_refused {n : Nat} {v : BitVec 32} (h : v.toNat / 2 ^ 17 ≠ 0 ∨ destCodeOk (v.toNat % 2 ^ 16) = false) :
    irqRoute s n v.toNat = .error abRange :=
  if_pos (h.imp_right fun h => by rw [h]; rfl)

/-- A destination with one of its limits written (R370). -/
def IrqDest.limited (d : IrqDest) (time : Bool) (v : BitVec 16) : IrqDest :=
  { d with limitCount := if time then d.limitCount else v, limitUs := if time then v else d.limitUs }

theorem irqLimit_writes {n : Nat} {time : Bool} {v : BitVec 16} (hv : v ≠ 0) : irqLimit s n time v.toNat =
    .ok (deliverIfDue { s with dests := smSet {} s.dests n ((s.dest n).limited time v) } n) := by
  have hne : v.toNat ≠ 0 := fun h => hv (BitVec.eq_of_toNat_eq h)
  rw [irqLimit, if_neg hne]
  cases time <;> simp [smMod, IrqDest.limited, State.dest]

theorem timerDue_eq (s : State) (n : Nat) : timerDue s n = if (s.dest n).started ≠ none ∧ (s.dest n).count ≠ 0 then deliver s n else s := by
  unfold timerDue
  dsimp only
  refine if_congr ?_ rfl rfl
  rw [Bool.and_eq_true, Option.isSome_iff_ne_none, decide_eq_true_eq]
  refine and_congr_right fun _ => ⟨fun h => ?_, fun h => ?_⟩
  · rintro he; rw [show (smGet {} s.dests n : IrqDest).count = 0 from he] at h; exact absurd h (by decide)
  · exact Nat.pos_of_ne_zero fun he => h (BitVec.eq_of_toNat_eq he)

theorem deliver_sources (s : State) (n : Nat) : (deliver s n).sources = s.sources := by
  have h := congrArg State.sources (deliver_frame s n); exact h

theorem deliver_mem (s : State) (n : Nat) : (deliver s n).mem = s.mem := by
  have h := congrArg State.mem (deliver_frame s n); exact h

/-- A write of line_ack clears the line with 1 and does nothing with 0 (R371). -/
theorem coreRegister_lineAck (g : Nat) (v : BitVec 1) : coreRegister s g 0x308 v.toNat =
    if s.present g = true ∧ v = 1 then s.setCore g { s.core g with line := false } else s := by
  have hv : v = 0 ∨ v = 1 := by revert v; decide
  rcases hv with rfl | rfl <;> cases h : s.present g <;> simp [coreRegister, h]

/-- Settles O57: an event sets one bit; of the controller's commands the clear alone clears any. -/
theorem pendingBitsAreSetAndCleared : Obligations.PendingBitsAreSetAndCleared := by
  unfold Obligations.PendingBitsAreSetAndCleared
  intro s hs src
  obtain ⟨hsources, hdests, hcores⟩ := wf_sources hs
  refine ⟨fun n hlive => ⟨(raise_source hsources n n).trans ?_, fun k hk => (raise_source hsources n k).trans ?_⟩, fun n hp => raise_idle hp,
    fun dest => ?_, fun g v => ?_, fun acc bits hadm hl => ?_, fun acc v hadm hv hcode => ?_⟩
  · rw [hlive, decide_eq_true rfl, Bool.not_false, Bool.and_self, Bool.or_true]
    rfl
  · rw [decide_eq_false hk, Bool.false_and, Bool.or_false]
    rfl
  · refine ⟨_, rfl, ?_⟩
    rw [timerDue_eq]
    split
    · exact deliver_sources ..
    · rfl
  · refine ⟨_, congrArg Host.Outcome.next (coreRegister_lineAck g.val v), ?_⟩
    split <;> rfl
  · refine ⟨_, exec_irqPendingClear hadm hl, fun n hn => (irqClear_source hsources bits n).trans ?_⟩
    simp only [mem_sourceBits, hn, true_and, Bool.decide_eq_true]
    rfl
  · obtain ⟨u, hu, h1, h2, -⟩ := irqRoute_routes (n := (s.selects acc).irqSource.toNat) hsources hdests hv hcode
    refine ⟨u, (exec_irqSourceRoute hadm).1 u hu, fun n => ?_⟩
    by_cases hn : n = (s.selects acc).irqSource.toNat
    · subst hn
      have h := congrArg IrqSource.pending h1; exact h
    · have h := congrArg IrqSource.pending (h2 n hn); exact h

/-- Settles O39: each command is what the controller makes of an admitted write, or of its timers and lines. -/
theorem interruptControllerCommandsAct : Obligations.InterruptControllerCommandsAct := by
  unfold Obligations.InterruptControllerCommandsAct
  intro s acc hs src dst refused
  obtain ⟨hsources, hdests, hcores⟩ := wf_sources hs
  refine ⟨fun bits hl => ⟨fun hadm => ?_, fun hadm => ⟨fun hlive => ?_, fun n hn hnamed hdead => ?_⟩⟩,
    fun v hadm => ⟨fun hv hcode => ?_, fun hbad => ?_⟩, fun time v hadm => ?_, fun dest => ⟨fun hidle => ?_, fun hst hcount => ?_⟩,
    fun g => ⟨fun hg => ?_, ?_⟩⟩
  · refine ⟨_, exec_irqPendingClear hadm hl, fun n hn => (irqClear_source hsources bits n).trans ?_, irqClear_frame ..⟩
    simp only [mem_sourceBits, hn, true_and, Bool.decide_eq_true]
    rfl
  · have hlist : ∀ n ∈ sourceBits bits, s.sourceDead n = false := fun n hn => hlive n (mem_sourceBits.1 hn).1 (mem_sourceBits.1 hn).2
    refine ⟨_, (exec_irqPendingSet hadm hl).1 _ (irqSet_live hlist), fun h => foldl_raise_quiet hsources fun n hn => ?_⟩
    obtain ⟨hn, hnamed⟩ := mem_sourceBits.1 hn
    exact (h.2 n hn).resolve_left (ne_false_of_eq_true hnamed)
  · exact (exec_irqPendingSet hadm hl).2 _ (irqSet_dead (mem_sourceBits.2 ⟨hn, hnamed⟩) hdead)
  · obtain ⟨u, hu, hrest⟩ := irqRoute_routes (n := (s.selects acc).irqSource.toNat) hsources hdests hv hcode
    exact ⟨u, (exec_irqSourceRoute hadm).1 u hu, hrest⟩
  · exact (exec_irqSourceRoute hadm).2 _ (irqRoute_refused hbad)
  · intro n count us due
    have hread (d : IrqDest) (k : Nat) : ({ s with dests := smSet {} s.dests n d } : State).dest k = if k = n then d else s.dest k := by
      show smGet {} (smSet {} s.dests n d) k = _
      rw [smGet_smSet hdests]
      rfl
    have hdue : ((s.dest n).limited time v).due s.clkc ↔ due := Iff.rfl
    refine ⟨fun hv => ?_, fun hv hnot => ?_, fun hv hd => ?_⟩
    · exact (exec_coalesceLimitWrite hadm).2 _ (if_pos (by rw [hv]; rfl))
    · have hearly : deliverIfDue _ n = _ := deliverIfDue_early (s := { s with dests := smSet {} s.dests n ((s.dest n).limited time v) }) (n := n)
        (by rw [hread, if_pos rfl]; exact hnot)
      refine ⟨_, (exec_coalesceLimitWrite hadm).1 _ ((irqLimit_writes hv).trans (congrArg Except.ok hearly)), (hread _ n).trans (if_pos rfl), rfl⟩
    · have hnow : deliverIfDue _ n = _ := deliverIfDue_due (s := { s with dests := smSet {} s.dests n ((s.dest n).limited time v) }) (n := n)
        (by rw [hread, if_pos rfl]; exact hd)
      refine ⟨_, (exec_coalesceLimitWrite hadm).1 _ ((irqLimit_writes hv).trans (congrArg Except.ok hnow)), ?_, deliver_sources .., deliver_mem ..⟩
      refine (deliver_dest (by exact smWf_smSet hdests ..) n n).trans ((if_pos rfl).trans ?_)
      rw [hread, if_pos rfl]
      rfl
  · refine congrArg Host.Outcome.next ((timerDue_eq ..).trans (if_neg ?_))
    rintro ⟨h1, h2⟩
    exact hidle.elim h1 h2
  · refine ⟨_, congrArg Host.Outcome.next ((timerDue_eq ..).trans (if_pos ⟨hst, hcount⟩)), ?_, fun g hdest hg => ?_, deliver_sources .., deliver_mem ..⟩
    · exact (deliver_dest hdests ..).trans (if_pos rfl)
    · rw [hdest]
      exact deliver_line hg
  · exact congrArg Host.Outcome.next ((coreRegister_lineAck g.val 1).trans (if_pos ⟨hg, rfl⟩))
  · exact congrArg Host.Outcome.next ((coreRegister_lineAck g.val 0).trans (if_neg fun h => absurd h.2 (by decide)))

end
end Sys2Proof.Machine
end

section
/-! PROOFS. The metering node and its NMT commands (O60). -/

namespace Sys2Proof.Machine

/-! ### The metering node and its NMT state (R424, R425) -/

/-- The state with another NMT state of the metering node. -/
def State.withNmt (s : State) (v : BitVec 8) : State := { s with meter := { s.meter with nmt := v } }

section
variable {s t : State} {v : BitVec 8}

/-- A choice whose condition does not depend on the NMT state. -/
theorem ite_withNmt {c c' : Prop} [Decidable c] [Decidable c'] {a b a' b' : State} (hc : c' ↔ c) (ha : a' = a.withNmt v)
    (hb : b' = b.withNmt v) : (if c' then a' else b') = (if c then a else b).withNmt v := by
  by_cases h : c
  · rw [if_pos h, if_pos (hc.2 h), ha]
  · rw [if_neg h, if_neg (mt hc.1 h), hb]

theorem returnCredits_withNmt (h : t = s.withNmt v) : returnCredits t = (returnCredits s).withNmt v := by
  subst h
  exact ite_withNmt .rfl rfl rfl

theorem drainTxns_withNmt (h : t = s.withNmt v) (n : Nat) : drainTxns n t = (drainTxns n s).withNmt v := by
  subst h
  induction n generalizing s with
  | zero => rfl
  | succ n ih =>
    refine ite_withNmt .rfl rfl ?_
    have hnext : (s.withNmt v).drinex.nextTxn = s.drinex.nextTxn := rfl
    rw [hnext]
    rcases s.drinex.nextTxn with _ | ⟨c, ⟨slots, o⟩, rest⟩
    · rfl
    · exact (congrArg (drainTxns n) (returnCredits_withNmt (by rfl))).trans (ih (s := returnCredits _))

theorem sendIntr_withNmt (h : t = s.withNmt v) (i : BitVec 6) : sendIntr t i = (sendIntr s i).withNmt v := by
  subst h
  exact ite_withNmt .rfl (drainTxns_withNmt (by rfl) _) (ite_withNmt .rfl rfl rfl)

theorem deliver_withNmt (h : t = s.withNmt v) (n : Nat) : deliver t n = (deliver s n).withNmt v := by
  subst h
  exact ite_withNmt .rfl (sendIntr_withNmt (by rfl) _) (ite_withNmt .rfl rfl rfl)

theorem destEvent_withNmt (h : t = s.withNmt v) (n : Nat) : destEvent t n = (destEvent s n).withNmt v := by
  subst h
  exact ite_withNmt .rfl (deliver_withNmt (by rfl) n) rfl

theorem raise_withNmt (h : t = s.withNmt v) (n : Nat) : raise t n = (raise s n).withNmt v := by
  subst h
  exact ite_withNmt .rfl rfl (ite_withNmt .rfl (destEvent_withNmt (by rfl) _) rfl)

theorem emcyOut_withNmt (h : t = s.withNmt v) (m : Emcy) : emcyOut t m = (emcyOut s m).withNmt v := by
  subst h
  exact ite_withNmt .rfl rfl (ite_withNmt .rfl (ite_withNmt .rfl rfl rfl) rfl)

theorem emcy_withNmt (h : t = s.withNmt v) (code unit : Nat) : emcy t code unit = (emcy s code unit).withNmt v := by
  subst h
  exact ite_withNmt .rfl (emcyOut_withNmt (by rfl) _) rfl

theorem emcyClear_withNmt (h : t = s.withNmt v) : emcyClear t = (emcyClear s).withNmt v := by
  subst h
  exact ite_withNmt .rfl rfl (emcyOut_withNmt (by rfl) _)

theorem pairCheck_withNmt (h : t = s.withNmt v) : pairCheck t = (pairCheck s).withNmt v := by
  subst h
  exact ite_withNmt .rfl rfl (ite_withNmt .rfl (ite_withNmt .rfl (emcyClear_withNmt (by rfl)) rfl)
    (ite_withNmt .rfl rfl (emcy_withNmt (by rfl) _ _)))

theorem dynamicFrame_withNmt : dynamicFrame (s.withNmt v) = (dynamicFrame s).withNmt v :=
  pairCheck_withNmt (ite_withNmt .rfl (raise_withNmt (by rfl) _) rfl)

theorem takeMirror_withNmt (item : MirrorItem) : takeMirror (s.withNmt v) true item = (takeMirror s true item).withNmt v := by
  cases item with
  | dynamic => exact dynamicFrame_withNmt
  | event n => exact ite_withNmt .rfl rfl rfl
  | _ => rfl

theorem referenceEvent_withNmt (away : Bool) (ppm : Nat) :
    referenceEvent (s.withNmt v) away ppm = (referenceEvent s away ppm).withNmt v :=
  ite_withNmt .rfl rfl rfl

theorem conditionEvent_withNmt (power away : Bool) (value : Nat) :
    conditionEvent (s.withNmt v) power away value = (conditionEvent s power away value).withNmt v :=
  ite_withNmt .rfl rfl rfl

theorem readingFinish_withNmt : readingFinish (s.withNmt v) = (readingFinish s).withNmt v := ite_withNmt .rfl rfl rfl

/-- What the metering die measures, signs, logs and mirrors depends on no NMT state, and changes none. -/
theorem exec_withNmt {power away : Bool} {value : BitVec 32} {item : MirrorItem} {i : Instr}
    (hi : i ∈ [Instr.registerCommit, .readingDone, .periodicReading, .mirrorTimeout, .mirrorFrame true item,
      .meterConditionChange power away value, .referenceDeviation away value])
    (h : exec i s = .next t) : exec i (s.withNmt v) = .next (t.withNmt v) := by
  have hof {u u' : State} (hi : exec i s = .next u) (hu : exec i (s.withNmt v) = .next u') (heq : u' = u.withNmt v) :
      exec i (s.withNmt v) = .next (t.withNmt v) := by
    cases hi.symm.trans h
    rw [hu, heq]
  simp only [List.mem_cons, List.not_mem_nil, or_false] at hi
  rcases hi with rfl | rfl | rfl | rfl | rfl | rfl | rfl
  · exact hof (u := meterTick s) rfl rfl rfl
  · exact hof (u := readingFinish s) rfl rfl readingFinish_withNmt
  · exact hof (u := readingPeriodic s) rfl rfl rfl
  · exact hof (u := s.modMeter fun m => { m with fresh := false }) rfl rfl rfl
  · exact hof (u := takeMirror s true item) rfl rfl (takeMirror_withNmt item)
  · exact hof (u := conditionEvent s power away value.toNat) rfl rfl (conditionEvent_withNmt ..)
  · exact hof (u := referenceEvent s away value.toNat) rfl rfl (referenceEvent_withNmt ..)

/-! #### The node's NMT commands -/

theorem meterSend_frame (s : State) (base : Nat) (b : Bytes) : { meterSend s base b with out := s.out } = s := by
  unfold meterSend
  split <;> rfl

theorem setMeterNmt_frame (s : State) (v : BitVec 8) : { setMeterNmt s v with out := s.out } = s.withNmt v := by
  unfold setMeterNmt
  split
  · next h => subst h; rfl
  · exact meterSend_frame (s.withNmt v) ..

theorem meterTpdoTry_ended (h : s.meter.nmt ≠ 0x05) (timer : Bool) : meterTpdoTry timer s = s := if_pos (.inl h)

theorem meterTpdoTry_sends (hst : s.meter.nmt = 0x05) (hid : s.meter.die.nodeId ≠ 0xFF) (hcob : s.meter.tpdo.cobId = none)
    (hnew : meterTpdoData s ≠ s.meter.tpdo.last) (hclear : s.meter.tpdo.clear s.dict.sampleTick = true) :
    (meterTpdoTry false s).out = .meterCan (BitVec.ofNat 11 (0x180 + s.meter.die.nodeId.toNat)) (meterTpdoData s) :: s.out := by
  have hbit : bitAt (0x180 + s.meter.die.nodeId.toNat) 31 = false := by
    have := s.meter.die.nodeId.isLt
    rw [bitAt, Nat.div_eq_of_lt (by omega)]
    rfl
  have hno : ¬(s.meter.nmt ≠ 0x05 ∨ s.meter.die.nodeId = 0xFF ∨ bitAt (0x180 + s.meter.die.nodeId.toNat) 31 = true) := by
    rw [hbit]
    rintro (h | h | h)
    · exact h hst
    · exact hid h
    · cases h
  have hdata : ¬((!(decide (meterTpdoData s ≠ s.meter.tpdo.last) || s.meter.tpdo.due || false)) = true) := by simp [hnew]
  unfold meterTpdoTry
  dsimp only
  rw [hcob]
  dsimp only
  rw [if_neg hno, if_neg hdata, if_pos hclear]
  rfl

theorem meterNmt_heard {node : BitVec 8} (hid : s.meter.die.nodeId ≠ 0xFF) (hnode : node = 0 ∨ node = s.meter.die.nodeId) :
    ¬(s.meter.die.nodeId = 0xFF ∨ (node.toNat ≠ 0 ∧ node.toNat ≠ s.meter.die.nodeId.toNat)) := by
  rintro (h | ⟨h0, h⟩)
  · exact hid h
  · rcases hnode with rfl | rfl
    · exact h0 rfl
    · exact h rfl

/-- The node after an NMT command that it hears (R425). -/
def Metering.onNmt (m : Metering) (command : Nat) : Metering :=
  match command with
  | 0x01 => { m with nmt := 0x05 }
  | 0x02 => { m with nmt := 0x04 }
  | 0x80 => { m with nmt := 0x7F }
  | 0x81 | 0x82 => { m with nmt := 0x05, tpdo := {}, heartbeatMs := 0x03E8, lssConfig := false, lssMatched := 0
                            pendingNode := m.storedNode, die := { m.die with nodeId := m.storedNode } }
  | _ => m

theorem onNmt_other (m : Metering) {command : Nat} (h1 : command ≠ 0x01) (h2 : command ≠ 0x02) (h3 : command ≠ 0x80)
    (h4 : command ≠ 0x81) (h5 : command ≠ 0x82) : m.onNmt command = m := by
  unfold Metering.onNmt
  split
  · exact absurd rfl h1
  · exact absurd rfl h2
  · exact absurd rfl h3
  · exact absurd rfl h4
  · exact absurd rfl h5
  · rfl

theorem onNmt_keeps (m : Metering) (command : Nat) : { (m.onNmt command).die with nodeId := m.die.nodeId } = m.die ∧
    (m.onNmt command).committed = m.committed ∧ (m.onNmt command).samples = m.samples := by
  fun_cases Metering.onNmt m command <;> exact ⟨rfl, rfl, rfl⟩

/-- An NMT command acts on the node alone, beside what the node sends. -/
theorem meterNmt_onNmt {command node : Nat} (h : ¬(s.meter.die.nodeId = 0xFF ∨ (node ≠ 0 ∧ node ≠ s.meter.die.nodeId.toNat))) :
    { meterNmt s command node with out := s.out } = { s with meter := s.meter.onNmt command } := by
  unfold meterNmt
  rw [if_neg h]
  split
  · exact setMeterNmt_frame s 0x05
  · exact setMeterNmt_frame s 0x04
  · exact setMeterNmt_frame s 0x7F
  · exact meterSend_frame { s with meter := s.meter.onNmt 0x81 } 0x700 [0#8]
  · exact meterSend_frame { s with meter := s.meter.onNmt 0x82 } 0x700 [0#8]
  · rw [onNmt_other]
    all_goals assumption

theorem meterNmt_frame {c node : BitVec 8} (hid : s.meter.die.nodeId ≠ 0xFF) (hnode : node = 0 ∨ node = s.meter.die.nodeId) :
    { meterNmt s c.toNat node.toNat with out := s.out } = { s with meter := s.meter.onNmt c.toNat } :=
  meterNmt_onNmt (meterNmt_heard hid hnode)
end

/-- Settles O60: a command acts on the node's communication alone, and what the die measures reads no NMT state. -/
theorem meterNodeActsOnNmt : Obligations.MeterNodeActsOnNmt := by
  unfold Obligations.MeterNodeActsOnNmt
  intro s c node m hid hnode
  have hframe := meterNmt_frame (c := c) hid hnode
  have hmeter : (meterNmt s c.toNat node.toNat).meter = m.onNmt c.toNat := by
    have h := congrArg State.meter hframe
    exact h
  have hrest : { meterNmt s c.toNat node.toNat with meter := m, out := s.out } = s := by
    have h := congrArg (fun (t : State) => { t with meter := m }) hframe
    exact h
  refine ⟨⟨_, rfl, ?_, ?_, ?_, ?_⟩, fun hst hcob hnew hclear => meterTpdoTry_sends hst hid hcob hnew hclear,
    fun v power away value item => ?_⟩
  · rintro rfl
    rw [hmeter]
    rfl
  · intro hc
    have hnmt : (m.onNmt c.toNat).nmt ≠ 0x05 ∧ (m.onNmt c.toNat).die = m.die ∧ { m.onNmt c.toNat with nmt := m.nmt } = m := by
      rcases hc with rfl | rfl
      · exact ⟨(by decide : (0x04 : BitVec 8) ≠ 0x05), rfl, rfl⟩
      · exact ⟨(by decide : (0x7F : BitVec 8) ≠ 0x05), rfl, rfl⟩
    obtain ⟨hended, hdie, hm⟩ := hnmt
    rw [← hmeter] at hended hdie
    refine ⟨meterTpdoTry_ended hended, ?_, by rw [hmeter]; exact hm⟩
    simp only [State.reached, hdie]
    exact decide_eq_true hid
  · intro hc
    rw [hmeter]
    rcases hc with rfl | rfl
    · exact ⟨rfl, rfl, rfl, rfl⟩
    · exact ⟨rfl, rfl, rfl, rfl⟩
  · obtain ⟨hdie, hcommitted, hsamples⟩ := onNmt_keeps m c.toNat
    rw [hmeter]
    exact ⟨hdie, hcommitted, hsamples, hrest⟩
  · intro as i hi t ht
    exact exec_withNmt hi ht

end Sys2Proof.Machine
end

section
/-! PROOFS. The metering register, readings and the mirror (O47). -/

namespace Sys2Proof.Machine

/-! ### The metering register, readings and the mirror (R419 to R432) -/

section
variable {s t : State}

/-! #### Bytes of a record -/

theorem padTo_append_take (n : Nat) (a b : Bytes) (h : a.length ≤ n) : (padTo n (a ++ b)).take a.length = a := by
  rw [padTo, List.take_take, Nat.min_eq_left h, List.append_assoc, List.take_left]

/-- What a padded string starts with. -/
theorem padTo_append (n : Nat) (a b : Bytes) (h : a.length ≤ n) : ∃ c, padTo n (a ++ b) = a ++ c := by
  refine ⟨(padTo n (a ++ b)).drop a.length, ?_⟩
  conv_lhs => rw [← List.take_append_drop a.length (padTo n (a ++ b)), padTo_append_take n a b h]

theorem leAt_append (a b c : Bytes) : leAt (a ++ b ++ c) a.length b.length = leNat b := by
  rw [leAt, List.append_assoc, List.drop_left, List.take_left]

theorem byteAt_append (a c : Bytes) (v : Nat) (h : v < 256) : byteAt (a ++ leBytes 1 v ++ c) a.length = v := by
  simp only [byteAt, List.append_assoc, leBytes, List.getD_eq_getElem?_getD, List.getElem?_append_right (Nat.le_refl _), Nat.sub_self]
  simp [Nat.mod_eq_of_lt h]

/-! #### The event log and MeterStatus -/

/-- Log entry `typ` is added, and nothing beside the log changes. -/
structure Logged (s : State) (typ : Nat) (t : State) : Prop where
  count : t.meter.die.eventCount = s.meter.die.eventCount + 1
  typ : byteAt (smGet [] t.meter.die.events (s.meter.die.eventCount.toNat % 1024)) 4 = typ
  die : { t.meter.die with events := s.meter.die.events, eventCount := s.meter.die.eventCount } = s.meter.die
  frame : { t with meter := { t.meter with die := s.meter.die } } = s

/-- The log entry that `meterEvent` writes (R428). -/
def meterLogEntry (d : MeterDie) (typ detail second : Nat) : Bytes :=
  let b := leBytes 4 d.eventCount.toNat ++ leBytes 1 typ ++ leBytes 3 detail ++ leBytes 8 d.opSeconds.toNat ++
    leBytes 8 d.energy.toNat ++ leBytes 4 second
  b ++ (sha3 b).take 4

theorem meterEvent_logged (s : State) {typ : Nat} (htyp : typ < 256) (detail second : Nat) :
    Logged s typ (meterEvent s typ detail second) := by
  refine ⟨rfl, ?_, rfl, rfl⟩
  have hread : smGet [] (meterEvent s typ detail second).meter.die.events (s.meter.die.eventCount.toNat % 1024) =
      meterLogEntry s.meter.die typ detail second := smGet_smSet_ne (y := meterLogEntry s.meter.die typ detail second) (by simp [meterLogEntry, leBytes]) ..
  rw [hread, meterLogEntry]
  simp only [List.append_assoc]
  rw [← List.append_assoc]
  exact byteAt_append (leBytes 4 _) _ typ htyp

theorem getLsbD_setStatus {bit i : Nat} (hbit : bit < 8) (hi : i < 8) (s : State) (on : Bool) :
    (setStatus s bit on).meter.die.status.getLsbD i = if i = bit then on else s.meter.die.status.getLsbD i := by
  have h : (setStatus s bit on).meter.die.status =
    if on then s.meter.die.status ||| (1#8 <<< bit) else s.meter.die.status &&& ~~~(1#8 <<< bit) := rfl
  rw [h]
  generalize s.meter.die.status = st
  have hone : (1#8 <<< bit).getLsbD i = decide (i = bit) := by
    have h := BitVec.getLsbD_twoPow (w := 8) bit i
    rw [BitVec.twoPow_eq] at h
    simp [h, hbit, eq_comm]
  split <;> simp [hi] <;> grind

/-- An event of the die's log, announced in a bit of MeterStatus (R428, R430). -/
theorem meterEvent_setStatus (s : State) {bit typ : Nat} (hbit : bit < 8) (htyp : typ < 256) (on : Bool) (detail second : Nat) :
    let t := meterEvent (setStatus s bit on) typ detail second
    (∀ i < 8, t.meter.die.status.getLsbD i = if i = bit then on else s.meter.die.status.getLsbD i) ∧
      t.meter.die.eventCount = s.meter.die.eventCount + 1 ∧
      byteAt (smGet [] t.meter.die.events (s.meter.die.eventCount.toNat % 1024)) 4 = typ ∧
      t.meter.die.energy = s.meter.die.energy ∧ { t with meter := { t.meter with die := s.meter.die } } = s := by
  obtain ⟨hcount, htyp, hdie, hframe⟩ := meterEvent_logged (setStatus s bit on) htyp detail second
  intro t
  exact ⟨fun i hi => getLsbD_setStatus hbit hi s on, hcount, htyp, rfl, rfl⟩

theorem referenceEvent_logs {away : Bool} {ppm : Nat} (hin : s.meter.internal = !away) (htrue : away = true → 500 < ppm)
    (hfalse : away = false → ppm ≤ 500) : referenceEvent s away ppm =
      meterEvent (setStatus (s.modMeter fun m => { m with internal := away }) 2 away) 7 (boolNat away) ppm := by
  refine if_neg ?_
  rintro (h | ⟨h, hppm⟩ | ⟨h, hppm⟩)
  · rw [hin] at h
    cases away <;> cases h
  · have := htrue h; omega
  · have := hfalse h; omega

/-! #### Writes of the metering node's dictionary -/

/-- The node's object takes a value of n bytes. -/
def MeterObject (idx sub n : Nat) : Prop := (checkMeter true idx sub).toOption.map (fun r => r.size) = some n

theorem meterObject_nonce : MeterObject 0x4003 1 32 := by unfold MeterObject; decide +kernel

theorem dictCommand_meter {src : BitVec 14} {idx sub : Nat} {b : Bytes} (hid : s.meter.die.nodeId ≠ 0xFF)
    (hobj : MeterObject idx sub b.length) : dictCommand s { cls := .metro, src := src } idx sub b =
      (writeMeterObject s idx sub b).1.send (.dictReply .metro (BitVec.ofNat 32 (writeMeterObject s idx sub b).2) []) := by
  have hreached : s.reached .metro = true := decide_eq_true hid
  have hwrite : meterWrite s idx sub b = writeMeterObject s idx sub b := by
    unfold MeterObject at hobj
    unfold meterWrite
    cases hr : checkMeter true idx sub with
    | error e => rw [hr] at hobj; cases hobj
    | ok r =>
      rw [hr] at hobj
      exact if_neg fun h => h (Option.some.inj hobj).symm
  have hon : ¬(!s.reached .metro) = true := by simp [hreached]
  unfold dictCommand dictCommandWith
  dsimp only
  rw [if_neg hon, if_pos rfl, hwrite]

/-! #### Readings -/

theorem signedReading_length (body : Bytes) (draw : Nat) : (signedReading body draw).length = 4864 := padTo_length ..

theorem signedReading_take {body : Bytes} (h : body.length = 192) (draw : Nat) : (signedReading body draw).take 192 = body := by
  rw [← h]
  exact padTo_append_take _ _ _ (by omega)

/-- The first 16 bytes of a reading: its version, kind, the status, the serial number and the register (R426). -/
theorem readingBody_starts (m : Metering) (kind : Nat) (nonce : Bytes) : ∃ c, readingBody m kind nonce =
    leBytes 2 1 ++ leBytes 1 kind ++ leBytes 1 m.die.status.toNat ++ leBytes 4 serialNumber ++ leBytes 8 m.die.energy.toNat ++ c := by
  simp only [readingBody, List.append_assoc]
  exact ⟨_, rfl⟩

theorem periodicReading_holds (m : Metering) (draw : Nat) : byteAt (signedReading (readingBody m 1 []) draw) 2 = 1 ∧
    leAt (signedReading (readingBody m 1 []) draw) 8 8 = m.die.energy.toNat := by
  obtain ⟨c, hc⟩ := readingBody_starts m 1 []
  obtain ⟨d, hd⟩ := padTo_append 4864 (leBytes 2 1 ++ leBytes 1 1 ++ leBytes 1 m.die.status.toNat ++ leBytes 4 serialNumber ++
    leBytes 8 m.die.energy.toNat) (c ++ bytesOf 4627 (Config.mldsaSignByte meterSeed "EXG-METER" (readingBody m 1 []) draw)) (by simp)
  have hreading : signedReading (readingBody m 1 []) draw = leBytes 2 1 ++ leBytes 1 1 ++ leBytes 1 m.die.status.toNat ++
      leBytes 4 serialNumber ++ leBytes 8 m.die.energy.toNat ++ d := by
    rw [← hd, ← List.append_assoc, ← hc]
    rfl
  rw [hreading]
  refine ⟨rfl, (leAt_append _ _ d).trans (leNat_leBytes_of_lt m.die.energy.isLt)⟩

theorem exec_periodicReading (s : State) : ∃ b, b.length = 4864 ∧ byteAt b 2 = 1 ∧ leAt b 8 8 = s.meter.die.energy.toNat ∧
    exec .periodicReading s = .next { s with meter := { s.meter with die := { s.meter.die with blob3 := b } }, draws := s.draws + 1 } := by
  obtain ⟨hkind, henergy⟩ := periodicReading_holds s.meter s.draws
  exact ⟨_, signedReading_length .., hkind, henergy, rfl⟩

theorem exec_readingDone (h : s.meter.readState = 1) : ∃ b, b.length = 4864 ∧
    (s.meter.readSample.length = 192 → b.take 192 = s.meter.readSample) ∧ exec .readingDone s =
      .next { s with meter := { s.meter with readState := 2, die := { s.meter.die with blob0 := b } }, draws := s.draws + 1 } :=
  ⟨_, signedReading_length .., fun hl => signedReading_take hl s.draws,
    congrArg Host.Outcome.next (if_neg fun hne => hne h : readingFinish s = _)⟩

/-! #### The mirror -/

/-- The mirror's part of a dynamic frame that reads it: what the link carried (R431). -/
def Metering.framed (m : Metering) (now : BitVec 64) : Metering :=
  let d := m.die
  { m with mirror := { m.mirror with energy := d.energy, power := d.power, voltage := d.voltage, current := d.current
                                     status := d.status, sealBreaks := d.sealBreaks, eventCount := d.eventCount
                                     nodeId := d.nodeId, opSeconds := d.opSeconds, powerOns := d.powerOns }
           fresh := true, frameTime := now }

theorem dynamicFrame_frame (s : State) : (dynamicFrame s).meter = s.meter.framed s.clkc ∧ (dynamicFrame s).mem = s.mem := by
  have hpair (t : State) : (pairCheck t).meter = t.meter ∧ (pairCheck t).mem = t.mem := by
    obtain ⟨h, -⟩ := pairCheck_leaves t
    have hmeter := congrArg State.meter h
    have hmem := congrArg State.mem h
    exact ⟨hmeter, hmem⟩
  have hraise (t : State) (n : Nat) : (raise t n).meter = t.meter ∧ (raise t n).mem = t.mem := by
    have h := raise_frame t n
    have hmeter := congrArg State.meter h
    have hmem := congrArg State.mem h
    exact ⟨hmeter, hmem⟩
  unfold dynamicFrame
  dsimp only
  rw [(hpair _).1, (hpair _).2]
  split
  · rw [(hraise _ _).1, (hraise _ _).2]
    exact ⟨rfl, rfl⟩
  · exact ⟨rfl, rfl⟩

theorem dynamicFrame_raises (h : s.meter.mirror.eventCount ≠ s.meter.die.eventCount ∨ s.meter.mirror.sealBreaks ≠ s.meter.die.sealBreaks) :
    (smGet {} (dynamicFrame s).sources 0x391).pending = true := by
  have hpair (t : State) : (pairCheck t).sources = t.sources := by
    obtain ⟨h, -⟩ := pairCheck_leaves t
    have h := congrArg State.sources h
    exact h
  have hnews : (decide (s.meter.mirror.eventCount ≠ s.meter.die.eventCount) ||
      decide (s.meter.mirror.sealBreaks ≠ s.meter.die.sealBreaks)) = true := by simpa using h
  unfold dynamicFrame
  dsimp only
  rw [hpair, if_pos hnews]
  exact raise_pending (sourceDead_global (by decide) (by decide) _)

end

/-- What an event's log entry leaves: the register and all beside the metering die. -/
def LoggedOnly (s : State) (typ : Nat) (t : State) : Prop :=
  t.meter.die.eventCount = s.meter.die.eventCount + 1 ∧
    byteAt (smGet [] t.meter.die.events (s.meter.die.eventCount.toNat % 1024)) 4 = typ ∧ t.meter.die.energy = s.meter.die.energy ∧
    t.meter.committed = s.meter.committed ∧ { t with meter := s.meter } = s

section
variable {s : State}

theorem exec_referenceDeviation {away : Bool} {ppm : BitVec 32} (hin : s.meter.internal = !away) (htrue : away = true → 500 < ppm.toNat)
    (hfalse : away = false → ppm.toNat ≤ 500) : Goes (exec (.referenceDeviation away ppm) s) (fun t =>
      t.meter.internal = away ∧ t.meter.die.status.getLsbD 2 = away ∧ LoggedOnly s 7 t) := by
  obtain ⟨hbits, hcount, htyp, henergy, -⟩ := meterEvent_setStatus (s.modMeter fun m => { m with internal := away }) (bit := 2)
    (typ := 7) (by decide) (by decide) away (boolNat away) ppm.toNat
  exact ⟨_, congrArg Host.Outcome.next (referenceEvent_logs hin htrue hfalse), rfl, (hbits 2 (by decide)).trans (if_pos rfl),
    hcount, htyp, henergy, rfl, rfl⟩

theorem exec_meterConditionChange {power away : Bool} {v : BitVec 32} {bit : Nat} (hbit : bit = if power then 0 else 1)
    (hst : s.meter.die.status.getLsbD bit ≠ away) : Goes (exec (.meterConditionChange power away v) s) (fun t =>
      t.meter.die.status.getLsbD bit = away ∧ (∀ i < 8, i ≠ bit → t.meter.die.status.getLsbD i = s.meter.die.status.getLsbD i) ∧
      LoggedOnly s (if power then 6 else 5) t) := by
  have hlt : bit < 8 := by rw [hbit]; split <;> decide
  have htyp : (if power then 6 else 5) < 256 := by split <;> decide
  obtain ⟨hbits, hcount, htyp, henergy, -⟩ := meterEvent_setStatus s hlt htyp away (boolNat away) v.toNat
  subst hbit
  exact ⟨_, congrArg Host.Outcome.next (if_neg hst), (hbits _ hlt).trans (if_pos rfl),
    fun i hi hne => (hbits i hi).trans (if_neg hne), hcount, htyp, henergy, rfl, rfl⟩

theorem exec_readingNonce {src : BitVec 14} {nonce : Bytes} (hid : s.meter.die.nodeId ≠ 0xFF) (hl : nonce.length = 32) :
    exec (.readingNonce { cls := .metro, src := src } nonce) s =
      .next ((readingStart s nonce).1.send (.dictReply .metro (BitVec.ofNat 32 (readingStart s nonce).2) [])) :=
  congrArg Host.Outcome.next (dictCommand_meter hid (by rw [hl]; exact meterObject_nonce))

theorem exec_mirrorFrame_dynamic (s : State) : Goes (exec (.mirrorFrame true .dynamic) s) (fun t =>
    t.meter = s.meter.framed s.clkc ∧ t.mem = s.mem ∧
      ((s.meter.mirror.eventCount ≠ s.meter.die.eventCount ∨ s.meter.mirror.sealBreaks ≠ s.meter.die.sealBreaks) →
        (smGet {} t.sources 0x391).pending = true)) :=
  ⟨dynamicFrame s, rfl, (dynamicFrame_frame s).1, (dynamicFrame_frame s).2, dynamicFrame_raises⟩
end

/-- Settles O47: each event of the metering die by its own lemma. -/
theorem meterRegisterReadingsAndMirror : Obligations.MeterRegisterReadingsAndMirror := by
  unfold Obligations.MeterRegisterReadingsAndMirror
  intro s m entryType logged
  refine ⟨⟨_, rfl, rfl, rfl, rfl, rfl, rfl⟩, ?_, ?_, ?_, ?_, ?_, ?_, fun item => rfl, ?_, rfl, rfl, rfl⟩
  · intro ppm
    refine ⟨fun hin hppm => exec_referenceDeviation (away := true) hin (fun _ => hppm) nofun,
      fun hin hppm => exec_referenceDeviation (away := false) hin nofun fun _ => hppm, fun hppm => ?_⟩
    exact congrArg Host.Outcome.next (if_pos (.inr (.inl ⟨rfl, hppm⟩)))
  · intro power away v bit
    exact ⟨fun hst => congrArg Host.Outcome.next (if_pos hst), fun hst => exec_meterConditionChange rfl hst⟩
  · intro src nonce hid hl acc
    refine ⟨fun hst => ?_, fun hst => ?_⟩
    · rw [exec_readingNonce hid hl, readingStart, if_neg hst]
      rfl
    · rw [exec_readingNonce hid hl, readingStart, if_pos hst]
      rfl
  · intro hst
    obtain ⟨b, hl, htake, heq⟩ := exec_readingDone hst
    exact ⟨_, heq, rfl, hl, htake, rfl, rfl⟩
  · exact fun hst => congrArg Host.Outcome.next (if_pos hst)
  · obtain ⟨b, hl, hkind, henergy, heq⟩ := exec_periodicReading s
    exact ⟨_, heq, hl, hkind, henergy, rfl, rfl⟩
  · obtain ⟨t, heq, hmeter, hmem, hraised⟩ := exec_mirrorFrame_dynamic s
    refine ⟨t, heq, ?_⟩
    dsimp only
    rw [hmeter]
    exact ⟨rfl, rfl, rfl, rfl, rfl, rfl, rfl, rfl, rfl, hmem, hraised⟩

end Sys2Proof.Machine
end

section
/-! PROOFS. The metering firmware, power-on and attribution (O48). -/

namespace Sys2Proof.Machine

/-! ### The metering firmware, its power-on and attribution (R425, R428, R433, R434) -/

/-- Every value changed under its key. -/
theorem smGet_smMap {α : Type} [DecidableEq α] {d : α} {f : Nat → α → α} {m : SMap α} (h : smWf d m = true) (hf : ∀ k, f k d = d)
    (x : Nat) : smGet d (smMap d f m) x = f x (smGet d m x) := by
  unfold smWf at h
  generalize 0 = lo at h
  induction m generalizing lo with
  | nil => exact (hf x).symm
  | cons p m ih =>
    obtain ⟨k, v⟩ := p
    simp only [smWfFrom, Bool.and_eq_true, decide_eq_true_eq] at h
    have hrest : smGet d (smMap d f m) x = f x (smGet d m x) := ih _ h.2
    have hbelow (hx : x ≤ k) : smGet d m x = d := smGet_of_wfFrom h.2 (by omega)
    have hmap : smMap d f ((k, v) :: m) = if f k v ≠ d then (k, f k v) :: smMap d f m else smMap d f m := by
      simp [smMap, List.filter_cons]
    rw [hmap]
    simp only [smGet]
    split
    · next hne =>
      simp only [smGet]
      split
      · next heq => subst heq; rfl
      · split
        · exact (hf x).symm
        · exact hrest
    · next heq =>
      rw [hrest]
      split
      · next hkx => subst hkx; rw [hbelow (by omega), hf, not_not.1 heq]
      · split
        · rw [hbelow (by omega)]
        · rfl

section
variable {s t : State}

/-! #### The commands of the metering firmware (R434) -/

theorem commandBytes_word {op v : Nat} (hv : v < 2 ^ 32) : leAt (commandBytes op 0 v) 8 4 = v ∧ zeroRange (commandBytes op 0 v) 12 16 = true := by
  have hlow : leAt (commandBytes op 0 v) 8 4 = leNat (leBytes 4 v) := rfl
  have hhigh : leAt (commandBytes op 0 v) 12 4 = leNat (leBytes 4 (v / 256 / 256 / 256 / 256)) := rfl
  have hzero : v / 256 / 256 / 256 / 256 = 0 := by omega
  rw [hzero] at hhigh
  exact ⟨hlow.trans (leNat_leBytes_of_lt hv), beq_iff_eq.2 hhigh⟩

theorem meterObject_command : MeterObject 0x4004 1 16 := by unfold MeterObject; decide +kernel
theorem meterObject_data : MeterObject 0x4004 2 256 := by unfold MeterObject; decide +kernel

/-- A command of the metering firmware with a field that a word holds. -/
theorem meterFwCommand_eq {op v : Nat} (hop : op < 256) (hv : v < 2 ^ 32) (hno : op = 1 ∨ v = 0) :
    meterFwCommand s (commandBytes op 0 v) = match op with
      | 1 =>
        if 512 * 1024 < v then aborted s abRange
        else if s.meter.fwState = 1 then aborted s abState
        else accepted (s.modMeter (fun m => { m with fwState := 1, fwSize := BitVec.ofNat 32 v, staging := [] }))
      | 2 => if s.meter.fwState ≠ 1 then aborted s abState else accepted (meterActivate s)
      | 3 => if s.meter.fwState ≠ 1 then aborted s abState else accepted (s.modMeter (fun m => { m with fwState := 0, staging := [] }))
      | _ => aborted s abRange := by
  obtain ⟨hbyte, hzero, -⟩ := commandBytes_fields hop (v := v) (by omega)
  obtain ⟨hword, hrest⟩ := commandBytes_word (op := op) hv
  rw [meterFwCommand, hbyte, hzero, hword, hrest]
  rw [if_neg (by rcases hno with h | h <;> simp [h])] <;> rfl

theorem meterFwCommand_begin (n : BitVec 32) : meterFwCommand s (commandBytes 1 0 n.toNat) =
    if 512 * 1024 < n.toNat then aborted s abRange
    else if s.meter.fwState = 1 then aborted s abState
    else accepted { s with meter := { s.meter with fwState := 1, fwSize := n, staging := [] } } := by
  rw [meterFwCommand_eq (by decide) n.isLt (.inl rfl), BitVec.ofNat_toNat, BitVec.setWidth_eq]
  rfl

theorem meterFwCommand_activate : meterFwCommand s (commandBytes 2 0 0) =
    if s.meter.fwState ≠ 1 then aborted s abState else accepted (meterActivate s) :=
  meterFwCommand_eq (by decide) (by decide) (.inr rfl)

theorem meterFwCommand_abort : meterFwCommand s (commandBytes 3 0 0) =
    if s.meter.fwState ≠ 1 then aborted s abState else accepted { s with meter := { s.meter with fwState := 0, staging := [] } } :=
  meterFwCommand_eq (by decide) (by decide) (.inr rfl)

/-- The reply of the metering node to a write. -/
def Answer.metered (a : Answer) : Host.Outcome State Fault Refusal := .next (a.1.send (.dictReply .metro (BitVec.ofNat 32 a.2) []))

theorem meterFw_command {src : BitVec 14} (hid : s.meter.die.nodeId ≠ 0xFF) (op v : Nat) :
    .next (dictCommand s { cls := .metro, src := src } 0x4004 1 (commandBytes op 0 v)) =
      Answer.metered (meterFwCommand s (commandBytes op 0 v)) :=
  congrArg Host.Outcome.next (dictCommand_meter hid (by rw [commandBytes_length]; exact meterObject_command))

theorem meterFw_data {src : BitVec 14} (hid : s.meter.die.nodeId ≠ 0xFF) {data : Bytes} (hl : data.length = 256) :
    .next (dictCommand s { cls := .metro, src := src } 0x4004 2 data) = Answer.metered (meterFwData s data) := by
  have hw : writeMeterObject s 0x4004 2 data = meterFwData s data := rfl
  rw [dictCommand_meter hid (by rw [hl]; exact meterObject_data), hw]
  rfl

theorem meterSend_sends (s : State) (base : Nat) (b : Bytes) : ∃ o, meterSend s base b = { s with out := o } := by
  unfold meterSend
  split
  · exact ⟨s.out, rfl⟩
  · exact ⟨_, rfl⟩

theorem meterEvent_adds (s : State) (typ detail second : Nat) : ∃ es, meterEvent s typ detail second =
    { s with meter := { s.meter with die := { s.meter.die with events := es, eventCount := s.meter.die.eventCount + 1 } } } := ⟨_, rfl⟩

/-- What a passed image leaves (R434). -/
def Metering.activated (m : Metering) (events : SMap Bytes) : Metering :=
  { m with image := m.staging, staging := [], fwState := 0, readState := if m.readState = 1 then 0 else m.readState
           minimum := if m.minimum.toNat < byteAt m.staging 8 then BitVec.ofNat 8 (byteAt m.staging 8) else m.minimum
           die := { m.die with sealBreaks := m.die.sealBreaks + 1, events := events, eventCount := m.die.eventCount + 1 } }

/-- An image that passes its checks is the die's firmware, and one more seal break (R434). -/
theorem meterActivate_passes (h : meterImageReason s.meter s.meter.staging = 0) :
    ∃ es o, meterActivate s = { s with meter := s.meter.activated es, out := o } := by
  obtain ⟨es, hes⟩ := meterEvent_adds (s.modDie fun d => { d with sealBreaks := d.sealBreaks + 1 }) 3
    ((s.modDie fun d => { d with sealBreaks := d.sealBreaks + 1 }).meter.die.sealBreaks.toNat % 2 ^ 24) (leAt s.meter.staging 4 4)
  obtain ⟨o, ho⟩ := meterSend_sends { s with meter := s.meter.activated es } 0x700 [0#8]
  unfold meterActivate
  dsimp only
  rw [h, hes]
  exact ⟨es, o, ho⟩

theorem activated_minimum (m : Metering) (es : SMap Bytes) : m.minimum.toNat ≤ (m.activated es).minimum.toNat := by
  have hbyte : byteAt m.staging 8 < 256 := BitVec.isLt _
  simp only [Metering.activated]
  split
  · rw [BitVec.toNat_ofNat]; omega
  · exact Nat.le_refl _

/-- An image that fails one is logged with its reason, and the firmware stays (R434). -/
theorem meterActivate_fails (h : meterImageReason s.meter s.meter.staging ≠ 0) : ∃ es, meterActivate s =
    { s with meter := { s.meter with fwState := 3, die := { s.meter.die with events := es, eventCount := s.meter.die.eventCount + 1 } } } := by
  unfold meterActivate
  dsimp only
  split
  · exact absurd ‹_› h
  · exact ⟨_, rfl⟩

/-! #### Power-on -/

/-- The node after a communication reset (R425). -/
def Metering.commReset (m : Metering) : Metering :=
  { m with nmt := 0x05, tpdo := {}, heartbeatMs := 0x03E8, lssConfig := false, lssMatched := 0, pendingNode := m.storedNode
           die := { m.die with nodeId := m.storedNode } }

theorem meterCommReset_resets (s : State) : ∃ o, meterCommReset s = { s with meter := s.meter.commReset, out := o } := meterSend_sends ..

/-- The metering die as its power-on leaves it before the log and the communication reset (R421). -/
def Metering.restored (m : Metering) : Metering :=
  { m with internal := false, fwState := 0, staging := [], readState := 0, readSample := [], eventSelect := 0, blobSelect := 0
           die := { m.die with energy := m.committed, powerOns := m.die.powerOns + 1, status := 0 } }

/-- The metering die with its status and log at new values. -/
def Metering.withLog (m : Metering) (status : BitVec 8) (events : SMap Bytes) (count : BitVec 32) : Metering :=
  { m with die := { m.die with status := status, events := events, eventCount := count } }

theorem meterPowerOn_powers (s : State) (test : Option Nat) : ∃ es o, meterPowerOn s test = { s with
    meter := (s.meter.restored.withLog (if test = none then 0 else 8) es
      (s.meter.die.eventCount + (if test = none then 1 else 2))).commReset, out := o } := by
  obtain ⟨es, hes⟩ := meterEvent_adds { s with meter := s.meter.restored } 1 ((s.meter.die.powerOns + 1).toNat % 2 ^ 24) 0
  cases test with
  | none =>
    have heq : meterPowerOn s none = meterCommReset (meterEvent { s with meter := s.meter.restored } 1
      ((s.meter.die.powerOns + 1).toNat % 2 ^ 24) 0) := rfl
    rw [heq, hes]
    exact ⟨es, meterCommReset_resets { s with meter := s.meter.restored.withLog 0 es (s.meter.die.eventCount + 1) }⟩
  | some n =>
    have heq : meterPowerOn s (some n) = meterCommReset (meterEvent (setStatus (meterEvent { s with meter := s.meter.restored } 1
      ((s.meter.die.powerOns + 1).toNat % 2 ^ 24) 0) 3 true) 8 n 0) := rfl
    have hstatus : setStatus { s with meter := s.meter.restored.withLog 0 es (s.meter.die.eventCount + 1) } 3 true =
        { s with meter := s.meter.restored.withLog 8 es (s.meter.die.eventCount + 1) } :=
      congrArg (fun st => { s with meter := s.meter.restored.withLog st es (s.meter.die.eventCount + 1) }) (by decide : 0#8 ||| 1#8 <<< 3 = 8)
    obtain ⟨es', hes'⟩ := meterEvent_adds { s with meter := s.meter.restored.withLog 8 es (s.meter.die.eventCount + 1) } 8 n 0
    have hcount : s.meter.die.eventCount + 1 + 1 = s.meter.die.eventCount + 2 := by bv_omega
    have hlog : meterEvent (setStatus (meterEvent { s with meter := s.meter.restored } 1 ((s.meter.die.powerOns + 1).toNat % 2 ^ 24) 0)
        3 true) 8 n 0 = { s with meter := s.meter.restored.withLog 8 es' (s.meter.die.eventCount + 2) } := by
      rw [← hcount]
      exact (congrArg (fun t => meterEvent (setStatus t 3 true) 8 n 0) hes).trans
        ((congrArg (fun t => meterEvent t 8 n 0) hstatus).trans hes')
    rw [heq, hlog]
    exact ⟨es', meterCommReset_resets _⟩

/-! #### Attribution -/

/-- The contexts' energy (R433). -/
def State.attributed (s : State) : BitVec 64 := ((List.finRange 256).map (fun x => (s.ctx x.val).energy)).sum

theorem attributed_add (hs : smWf {} s.contexts = true) (x : Fin 256) (e : BitVec 64) {c : Context}
    (hc : c.energy = (s.ctx x).energy + e) : (s.setCtx x c).attributed = s.attributed + e := by
  have hread (y : Fin 256) : ((s.setCtx x c).ctx y).energy = (s.ctx y).energy + if y = x then e else 0 := by
    rw [State.ctx_setCtx_wf hs]
    by_cases h : y = x
    · subst h; simp [hc]
    · simp [h, Fin.val_inj]
  have hsum (f : Fin 256 → BitVec 64) : ((List.finRange 256).map f).sum = ∑ y, f y := (Fin.sum_univ_def f).symm
  rw [State.attributed, State.attributed, hsum, hsum, Finset.sum_congr rfl fun y _ => hread y, Finset.sum_add_distrib]
  exact congrArg (_ + ·) ((Finset.sum_ite_eq' Finset.univ x fun _ => e).trans (if_pos (Finset.mem_univ x)))

/-- What remains of the state beside the contexts' energy. -/
theorem attributeOne_adds {total delta : Nat} {w : MeterWeights} {p : State × Nat} {a : Activity} (hp : smWf {} p.1.contexts = true) :
    let q := attributeOne total delta w p a
    smWf {} q.1.contexts = true ∧ q.1.attributed - BitVec.ofNat 64 q.2 = p.1.attributed - BitVec.ofNat 64 p.2 ∧
      { q.1 with contexts := p.1.contexts } = p.1 := by
  obtain ⟨n, c, hq, hc⟩ : ∃ n c, attributeOne total delta w p a = (p.1.setCtx a.ctx c, p.2 + n) ∧
      c.energy = (p.1.ctx a.ctx).energy + BitVec.ofNat 64 n := ⟨_, _, rfl, rfl⟩
  intro q
  have hadd := attributed_add hp a.ctx _ hc
  refine ⟨?_, ?_, ?_⟩
  · dsimp only [q]; rw [hq]; exact smWf_smSet hp ..
  · dsimp only [q]
    rw [hq]
    dsimp only
    rw [hadd, BitVec.ofNat_add]
    ring
  · dsimp only [q]; rw [hq]; rfl

theorem foldl_attributeOne {total delta : Nat} {w : MeterWeights} (l : List Activity) {p : State × Nat} (hp :
    smWf {} p.1.contexts = true) :
    let q := l.foldl (attributeOne total delta w) p
    q.1.attributed - BitVec.ofNat 64 q.2 = p.1.attributed - BitVec.ofNat 64 p.2 ∧ { q.1 with contexts := p.1.contexts } = p.1 := by
  induction l generalizing p with
  | nil => exact ⟨rfl, rfl⟩
  | cons a l ih =>
    obtain ⟨hwf, hsum, hframe⟩ := attributeOne_adds (total := total) (delta := delta) (w := w) (a := a) hp
    obtain ⟨hsum', hframe'⟩ := ih hwf
    refine ⟨hsum'.trans hsum, Eq.trans ?_ hframe⟩
    exact congrArg (fun (t : State) => { t with contexts := p.1.contexts }) hframe'

/-- The register's advance since the last interval (R433). -/
def Metering.advance (m : Metering) : BitVec 64 :=
  match m.lastEnergy with
  | some e => m.mirror.energy - e
  | none => 0

/-- The node after an interval in which the contexts took n millijoules (R433). -/
def Metering.divided (m : Metering) (n : BitVec 64) : Metering :=
  { m with unattributed := m.unattributed + m.advance - n, inForce := m.weights
           lastEnergy := if m.fresh || m.lastEnergy.isSome then some m.mirror.energy else none }

/-- What the contexts take of an advance of delta millijoules. -/
def apportioned (s : State) (activity : List Activity) (total delta : Nat) : State × Nat :=
  if total = 0 then (s, 0) else activity.foldl (attributeOne total delta s.meter.inForce) (s, 0)

theorem apportioned_sum (hs : smWf {} s.contexts = true) (activity : List Activity) (total delta : Nat) :
    let r := apportioned s activity total delta
    r.1.attributed - BitVec.ofNat 64 r.2 = s.attributed ∧ { r.1 with contexts := s.contexts } = s := by
  have hzero (u : State) : u.attributed - BitVec.ofNat 64 0 = u.attributed := sub_zero _
  unfold apportioned
  split
  · exact ⟨hzero s, rfl⟩
  · obtain ⟨hsum, hframe⟩ := foldl_attributeOne activity (p := (s, 0)) hs
    exact ⟨hsum.trans (hzero s), hframe⟩

theorem apportion_eq (s : State) (activity : List Activity) : ∃ total, apportion s activity =
    (apportioned s activity total s.meter.advance.toNat).1.modMeter fun m =>
      { m with unattributed := m.unattributed + BitVec.ofNat 64 s.meter.advance.toNat -
                 BitVec.ofNat 64 (apportioned s activity total s.meter.advance.toNat).2
               lastEnergy := if m.fresh || m.lastEnergy.isSome then some m.mirror.energy else none, inForce := m.weights } := by
  unfold apportion Metering.advance
  cases s.meter.lastEnergy
  · exact ⟨_, rfl⟩
  · exact ⟨_, rfl⟩

/-- An interval divides the register's advance between the contexts and what is unattributed (R433). -/
theorem apportion_divides (hs : smWf {} s.contexts = true) (activity : List Activity) : ∃ (t : State) (n : BitVec 64),
    t.attributed - n = s.attributed ∧ { t with contexts := s.contexts } = s ∧
      apportion s activity = { t with meter := s.meter.divided n } := by
  obtain ⟨total, heq⟩ := apportion_eq s activity
  obtain ⟨hsum, hframe⟩ := apportioned_sum hs activity total s.meter.advance.toNat
  generalize apportioned s activity total s.meter.advance.toNat = r at hsum hframe heq
  have hmeter : r.1.meter = s.meter := by have h := congrArg State.meter hframe; exact h
  refine ⟨r.1, BitVec.ofNat 64 r.2, hsum, hframe, ?_⟩
  rw [heq, State.modMeter, hmeter, BitVec.ofNat_toNat, BitVec.setWidth_eq]
  rfl

end

theorem ownObject_attributionClear : OwnObject 0x2280 7 1 := by constructor <;> decide +kernel

/-- Settles O48: the node's commands, its firmware, its power-on and the apportioning, each by its own lemma. -/
theorem meterNodeFirmwareAndAttribution : Obligations.MeterNodeFirmwareAndAttribution := by
  unfold Obligations.MeterNodeFirmwareAndAttribution
  intro s m
  refine ⟨fun node hid hnode => ?_, fun hid c node => congrArg Host.Outcome.next (meterNmt_unnamed hid ..), fun src hid => ?_, fun test => ?_,
    fun hwf activity => ?_, fun hwf acc hadm => ?_⟩
  · have hgoes (c : BitVec 8) : Goes (exec (.meterNmtCommand c node) s) (fun t =>
        t.meter = m.onNmt c.toNat ∧ { t with meter := m, out := s.out } = s) := by
      have hframe := meterNmt_frame (c := c) hid hnode
      refine ⟨_, rfl, ?_, ?_⟩
      · have h := congrArg State.meter hframe
        exact h
      · have h := congrArg (fun (t : State) => { t with meter := m }) hframe
        exact h
    have hnmt (c : BitVec 8) {P : State → Prop} (h : ∀ t : State, t.meter = m.onNmt c.toNat → { t with meter := m, out := s.out } = s → P t) :
        Goes (exec (.meterNmtCommand c node) s) P := by
      obtain ⟨t, heq, hmeter, hframe⟩ := hgoes c
      exact ⟨t, heq, h t hmeter hframe⟩
    refine ⟨hnmt 0x01 fun t hm hf => ?_, hnmt 0x02 fun t hm hf => ?_, hnmt 0x80 fun t hm hf => ?_, fun c hc => hnmt c fun t hm hf => ?_⟩
    · rw [hm]; exact ⟨rfl, hf⟩
    · rw [hm]; exact ⟨rfl, hf⟩
    · rw [hm]; exact ⟨rfl, hf⟩
    · rw [hm]
      rcases hc with rfl | rfl
      · exact ⟨rfl, rfl, rfl, rfl, hf⟩
      · exact ⟨rfl, rfl, rfl, rfl, hf⟩
  · intro acc refused
    have hactivate (hst : m.fwState = 1) : exec (.meterFwActivate acc) s = Replied acc (meterActivate s) := by
      refine (meterFw_command hid 2 0).trans ?_
      rw [meterFwCommand_activate, if_neg fun h => h hst]
      rfl
    refine ⟨fun n => ⟨fun hn => ?_, fun hn hst => ?_⟩, fun data hl => ⟨fun hst hroom => ?_, fun hno => ?_⟩, fun hst => ?_,
      fun hst => ⟨?_, ?_⟩, fun hst => ⟨fun hpass => ?_, fun hfail => ?_⟩⟩
    · refine (meterFw_command hid 1 n.toNat).trans ?_
      rw [meterFwCommand_begin, if_pos hn]
      rfl
    · refine (meterFw_command hid 1 n.toNat).trans ?_
      rw [meterFwCommand_begin, if_neg (Nat.not_lt.2 hn), if_neg hst]
      rfl
    · refine (meterFw_data hid hl).trans ?_
      rw [meterFwData, if_neg fun h => h.elim (fun h => h hst) fun h => Nat.not_le_of_lt hroom h]
      rfl
    · refine (meterFw_data hid hl).trans ?_
      rw [meterFwData, if_pos hno]
      rfl
    · refine (meterFw_command hid 3 0).trans ?_
      rw [meterFwCommand_abort, if_neg fun h => h hst]
      rfl
    · refine (meterFw_command hid 3 0).trans ?_
      rw [meterFwCommand_abort, if_pos hst]
      rfl
    · refine (meterFw_command hid 2 0).trans ?_
      rw [meterFwCommand_activate, if_pos hst]
      rfl
    · obtain ⟨es, o, heq⟩ := meterActivate_passes hpass
      refine ⟨meterActivate s, hactivate hst, ?_⟩
      rw [heq]
      exact ⟨rfl, rfl, rfl, rfl, rfl, activated_minimum m es, rfl⟩
    · obtain ⟨es, heq⟩ := meterActivate_fails hfail
      refine ⟨meterActivate s, hactivate hst, ?_⟩
      rw [heq]
      exact ⟨rfl, rfl, rfl, rfl, rfl⟩
  · obtain ⟨es, o, heq⟩ := meterPowerOn_powers s test
    exact ⟨_, congrArg Host.Outcome.next heq, rfl, rfl, rfl, rfl, rfl, rfl, rfl, rfl⟩
  · obtain ⟨-, -, -, hctx, -⟩ := State.wf_iff.1 hwf
    obtain ⟨t, n, hsum, hframe, heq⟩ := apportion_divides hctx activity
    intro sum advance
    refine ⟨_, congrArg Host.Outcome.next heq, ?_, rfl, rfl, ?_⟩
    · have ht : t.attributed = s.attributed + n := by rw [← hsum]; ring
      have h : t.attributed + (m.unattributed + m.advance - n) = s.attributed + m.unattributed + m.advance := by rw [ht]; ring
      exact h
    · have h := congrArg (fun (t : State) => { t with meter := m }) hframe
      exact h
  · obtain ⟨-, -, -, hctx, -⟩ := State.wf_iff.1 hwf
    obtain ⟨hreply, -⟩ := dictCommand_own (b := [1#8]) (r := .ok (attributionClear s 1).1) hadm ownObject_attributionClear rfl rfl
    refine ⟨_, hreply _ rfl, rfl, fun x => ?_, rfl, rfl⟩
    have hread := smGet_smMap (d := {}) (f := fun _ (c : Context) => { c with energy := 0, energyCarry := 0 }) hctx (fun _ => rfl) x
    exact ⟨(congrArg Context.energy hread :), (congrArg Context.st hread :)⟩

end Sys2Proof.Machine
end

section
/-! PROOFS. The override, attestation and the test access port (O46). -/

namespace Sys2Proof.Machine

/-! ### The override, attestation and the test access port (R411, R414, R416) -/

section
variable {s : State} {acc : Accessor}

theorem ownObject_override : OwnObject 0x3C08 1 1 := by constructor <;> decide +kernel
theorem plainSize_attestNonce : plainSize 0x3C30 1 = some 32 := by decide +kernel

/-- A write that an object refuses is answered with the code and counted. -/
theorem dictCommand_aborted {idx sub : Nat} {b : Bytes} {e : Nat} (h : Admitted s acc idx sub = true)
    (hsize : plainSize idx sub = some b.length) (hw : writePlain (touchSelects s acc) acc idx sub b = aborted (touchSelects s acc) e) :
    (.next (dictCommand s acc idx sub b) : Host.Outcome State Fault Refusal) =
      .next ((countAbort (touchSelects s acc) e).send (.dictReply acc.cls (BitVec.ofNat 32 e) [])) := by
  rw [dictCommand_plain h hsize, hw]
  rfl

/-- The reply to a write of the override (R411). -/
theorem dictCommand_override (h : Admitted s acc 0x3C08 1 = true) (v : BitVec 8) {r : Except Nat State}
    (hw : writeOverride s v.toNat = answerOf s r) :
    (∀ u, r = .ok u → .next (dictCommand s acc 0x3C08 1 [v]) = Replied acc u) ∧
    (∀ e, r = .error e → (.next (dictCommand s acc 0x3C08 1 [v]) : Host.Outcome State Fault Refusal) =
      .next ((countAbort s e).send (.dictReply acc.cls (BitVec.ofNat 32 e) []))) := by
  refine dictCommand_own h ownObject_override rfl ?_
  have hv : leNat [v] = v.toNat := by simp [leNat]
  rw [← hw, ← hv]
  rfl

/-! #### The report -/

theorem isPrefix_append {x y : Bytes} (h : x <+: y) (z : Bytes) : x <+: y ++ z := h.trans (List.prefix_append y z)

/-- A report starts with its version, the lifecycle state, flags, the identity, the epoch and the nonce (R414). -/
theorem reportBody_starts (s : State) : ∃ flags, leBytes 2 1 ++ leBytes 1 s.sec.lifecycle.toNat ++ leBytes 1 flags ++
    leBytes 4 revisionNumber ++ leBytes 4 serialNumber ++ leBytes 4 s.rel.epoch.toNat ++ padTo 32 s.sec.attestNonce <+: reportBody s := by
  apply Exists.intro
  unfold reportBody
  extract_lets
  iterate 15 refine isPrefix_append ?_ _
  exact List.prefix_rfl

/-- The report that a seed signs (R414). -/
def signedReport (s : State) (seed : Bytes) : Bytes :=
  padTo 5888 (reportBody s ++ bytesOf 4627 (Config.mldsaSignByte seed "EXG-ATTEST" (reportBody s) s.draws))

theorem attestFinish_signs {seed : Bytes} (hst : s.sec.attestState = 1) (hseed : s.sec.identity = some seed) : attestFinish s =
    { s with sec := { s.sec with attestState := 2, report := signedReport s seed }, draws := s.draws + 1 } := by
  rw [attestFinish, hseed]
  exact if_neg fun h => h hst

theorem signedReport_holds (s : State) (seed : Bytes) : (signedReport s seed).length = 5888 ∧
    ((signedReport s seed).drop 16).take 32 = padTo 32 s.sec.attestNonce ∧
    (signedReport s seed).take 3 = [1#8, 0#8, BitVec.ofNat 8 s.sec.lifecycle.toNat] := by
  obtain ⟨flags, c, hbody⟩ := reportBody_starts s
  obtain ⟨d, hd⟩ := padTo_append 5888 (leBytes 2 1 ++ leBytes 1 s.sec.lifecycle.toNat ++ leBytes 1 flags ++ leBytes 4 revisionNumber ++
    leBytes 4 serialNumber ++ leBytes 4 s.rel.epoch.toNat ++ padTo 32 s.sec.attestNonce)
    (c ++ bytesOf 4627 (Config.mldsaSignByte seed "EXG-ATTEST" (reportBody s) s.draws)) (by simp [padTo_length])
  rw [← List.append_assoc, hbody] at hd
  refine ⟨padTo_length .., ?_, ?_⟩
  · rw [signedReport, hd, List.append_assoc]
    exact List.take_left' (padTo_length ..)
  · rw [signedReport, hd]
    rfl

theorem exec_attestDone {seed : Bytes} (hst : s.sec.attestState = 1) (hseed : s.sec.identity = some seed) : ∃ b, b.length = 5888 ∧
    (b.drop 16).take 32 = padTo 32 s.sec.attestNonce ∧ b.take 3 = [1#8, 0#8, BitVec.ofNat 8 s.sec.lifecycle.toNat] ∧
    exec .attestDone s = .next { s with sec := { s.sec with attestState := 2, report := b }, draws := s.draws + 1 } := by
  obtain ⟨hl, hnonce, hhead⟩ := signedReport_holds s seed
  exact ⟨_, hl, hnonce, hhead, congrArg Host.Outcome.next (attestFinish_signs hst hseed)⟩

end

/-- Settles O46: the override and attestation are writes of their objects; each TAP instruction is one shift. -/
theorem overrideAttestationAndTap : Obligations.OverrideAttestationAndTap := by
  unfold Obligations.OverrideAttestationAndTap
  refine ⟨fun s acc => ?_, fun s => ?_⟩
  · intro c s'
    refine ⟨fun hadm => ?_, fun nonce hadm hl => ?_, fun seed hst hseed => ?_, fun hst => ?_⟩
    · refine ⟨fun hlife => ?_, fun hlife => ?_, ?_⟩
      · refine (dictCommand_override hadm 1#8 (r := .ok { s with sec := { c with override := 1 } }) ?_).1 _ rfl
        rw [writeOverride, if_neg (by decide), if_neg ?_]
        · rfl
        · rintro ⟨-, h1, h3⟩
          exact hlife.elim h1 h3
      · refine (dictCommand_override hadm 1#8 (r := .error abState) ?_).2 _ rfl
        have hlife : s.sec.lifecycle = 2 := hlife
        rw [writeOverride, if_neg (by decide), if_pos ?_]
        · rfl
        · rw [hlife]; decide
      · refine (dictCommand_override hadm 0#8 (r := .ok { s with sec := { c with override := 0 } }) ?_).1 _ rfl
        rw [writeOverride, if_neg (by decide), if_neg fun h => absurd h.1 (by decide)]
        rfl
    · have hsize : plainSize 0x3C30 1 = some nonce.length := by rw [hl]; exact plainSize_attestNonce
      have hsec : s'.sec = c := by
        have h := congrArg State.sec (touchSelects_frame s acc)
        exact h
      have hw : writePlain s' acc 0x3C30 1 nonce = attestStart s' nonce := rfl
      refine ⟨fun hst hkey => dictCommand_replied hadm hsize (hw.trans ?_), fun hno => dictCommand_aborted hadm hsize (hw.trans ?_)⟩
      · rw [attestStart, hsec, if_neg (by simpa [hkey] using hst)]
        rfl
      · rw [attestStart, hsec, if_pos (by simpa using hno)]
    · obtain ⟨b, hl, hnonce, hhead, heq⟩ := exec_attestDone hst hseed
      exact ⟨_, heq, rfl, hl, hnonce, hhead, rfl⟩
    · refine congrArg Host.Outcome.next ?_
      unfold attestFinish
      split
      · rfl
      · exact if_pos hst
  · intro c shifted bypass
    refine ⟨fun hfree => ⟨fun cells => ?_, ?_, ?_⟩, fun hfree => ⟨fun cells => ?_, ?_, ?_⟩, fun pins cells => rfl, rfl,
      fun hlife => ⟨fun v => ?_, fun v => ?_, fun v => ?_⟩, fun hlife => ⟨fun v => ?_, fun v => ?_, fun v => ?_⟩, fun code bit => ?_⟩
    · exact congrArg Host.Outcome.next (if_pos hfree)
    · exact congrArg Host.Outcome.next (if_pos hfree)
    · exact congrArg Host.Outcome.next (if_pos hfree)
    · exact congrArg Host.Outcome.next (if_neg (ne_true_of_eq_false hfree))
    · exact congrArg Host.Outcome.next (if_neg (ne_true_of_eq_false hfree))
    · exact congrArg Host.Outcome.next (if_neg (ne_true_of_eq_false hfree))
    · exact congrArg Host.Outcome.next (if_neg fun h => h hlife)
    · exact ⟨_, congrArg Host.Outcome.next (if_neg fun h => h hlife), rfl, ⟨_, rfl, BitVec.isLt _⟩, rfl⟩
    · exact congrArg Host.Outcome.next (if_neg fun h => h hlife)
    · exact congrArg Host.Outcome.next (if_pos hlife)
    · exact congrArg Host.Outcome.next (if_pos hlife)
    · exact congrArg Host.Outcome.next (if_pos hlife)
    · show Host.Outcome.next (tapBypass s code.toNat) = _
      simp only [tapBypass, tapRun, BitVec.ofNat_toNat, BitVec.setWidth_eq]
      rfl

end Sys2Proof.Machine
end

section
/-! PROOFS. Staging, keys and firmware updates (O45). -/

namespace Sys2Proof.Machine

/-! ### Staging, keys and firmware updates (R399, R406, R407, R412, R413) -/

section
variable {s : State} {acc : Accessor}

theorem ownObject_stageChunk : OwnObject 0x3C02 2 256 := by constructor <;> decide +kernel
theorem ownObject_keyCommand : OwnObject 0x3C20 1 16 := by constructor <;> decide +kernel
theorem ownObject_fwCommand : OwnObject 0x3C04 1 16 := by constructor <;> decide +kernel
theorem ownObject_fwData : OwnObject 0x3C04 3 256 := by constructor <;> decide +kernel

/-- The fields of a command with an argument and a word (R206). -/
theorem commandBytes_args {op arg v : Nat} (hop : op < 256) (harg : arg < 256) (hv : v < 2 ^ 32) :
    byteAt (commandBytes op arg v) 0 = op ∧ byteAt (commandBytes op arg v) 1 = arg ∧ zeroRange (commandBytes op arg v) 2 8 = true ∧
      leAt (commandBytes op arg v) 8 4 = v ∧ zeroRange (commandBytes op arg v) 12 16 = true := by
  have hlow : leAt (commandBytes op arg v) 8 4 = leNat (leBytes 4 v) := rfl
  have hhigh : leAt (commandBytes op arg v) 12 4 = leNat (leBytes 4 (v / 256 / 256 / 256 / 256)) := rfl
  have hzero : v / 256 / 256 / 256 / 256 = 0 := by omega
  rw [hzero] at hhigh
  exact ⟨Nat.mod_eq_of_lt hop, Nat.mod_eq_of_lt harg, rfl, hlow.trans (leNat_leBytes_of_lt hv), beq_iff_eq.2 hhigh⟩

/-! #### Images and their banks -/

@[simp] theorem inactive_setInactive (i : ImageSlot) (k : Bank) : (i.setInactive k).inactive = k := by
  unfold ImageSlot.setInactive ImageSlot.setBank ImageSlot.inactive ImageSlot.bank
  cases i.activeB <;> rfl

@[simp] theorem activeB_setInactive (i : ImageSlot) (k : Bank) : (i.setInactive k).activeB = i.activeB := by
  unfold ImageSlot.setInactive ImageSlot.setBank
  split <;> rfl

@[simp] theorem image_setImage (c : Security) (t : Nat) (i : ImageSlot) : (c.setImage t i).image t = i := by
  unfold Security.image Security.setImage
  by_cases h : t = 1 <;> simp [h]

/-- A write of one image leaves the other. -/
theorem image_setImage_other (c : Security) {t u : Nat} (i : ImageSlot) (h : (t = 1) ≠ (u = 1)) :
    (c.setImage t i).image u = c.image u := by
  unfold Security.image Security.setImage
  by_cases ht : t = 1 <;> by_cases hu : u = 1 <;> simp_all

@[simp] theorem fwState_setImage (c : Security) (t : Nat) (i : ImageSlot) : (c.setImage t i).fwState = c.fwState := by
  unfold Security.setImage
  split <;> rfl

/-! #### Pending banks -/

/-- The inactive banks of a mask, made pending (R412). -/
def Security.pend (c : Security) (mask : Nat) : Security :=
  ([1, 2].filter (fun t => bitAt mask (t - 1))).foldl (fun c t => c.setImage t { c.image t with pending := true }) c

theorem fwState_pend (c : Security) (mask : Nat) : (c.pend mask).fwState = c.fwState := by
  unfold Security.pend
  refine List.foldlRecOn (motive := fun (k : Security) => k.fwState = c.fwState) _ _ rfl fun k h t _ => ?_
  rw [fwState_setImage, h]

theorem image_pend (c : Security) (mask : Nat) {t : Nat} (ht : t = 1 ∨ t = 2) :
    (c.pend mask).image t = { c.image t with pending := (c.image t).pending || bitAt mask (t - 1) } := by
  have hlist : ([1, 2].filter (fun t => bitAt mask (t - 1))) =
      (if bitAt mask 0 = true then [1] else []) ++ (if bitAt mask 1 = true then [2] else []) := by
    simp only [List.filter_cons, List.filter_nil]
    cases bitAt mask 0 <;> cases bitAt mask 1 <;> rfl
  rw [Security.pend, hlist]
  rcases ht with rfl | rfl
  · cases bitAt mask 0 <;> cases bitAt mask 1 <;> simp [image_setImage_other]
  · cases bitAt mask 0 <;> cases bitAt mask 1 <;> simp [image_setImage_other]

/-- What keeps the banks of a mask from being made pending (R412). -/
def Refuses (s : State) (mask : Nat) (ok : Nat → Bank → Bool) : Prop :=
  (∃ t, (t = 1 ∨ t = 2) ∧ bitAt mask (t - 1) = true ∧ ok t (s.sec.image t).inactive = false) ∨ compatible s (wouldBoot s mask) = false

theorem refuses_iff {mask : Nat} {ok : Nat → Bank → Bool} : Refuses s mask ok ↔
    (!(([1, 2].filter (fun t => bitAt mask (t - 1))).all (fun t => ok t (s.sec.image t).inactive)) ||
      !(compatible s (wouldBoot s mask))) = true := by
  unfold Refuses
  simp

theorem makePending_refuses {mask : Nat} {ok : Nat → Bank → Bool} (hm : mask ≤ 3) (h : Refuses s mask ok) :
    makePending s mask ok = aborted s abState := by
  unfold makePending
  dsimp only
  rw [if_neg (by omega), if_pos (refuses_iff.1 h)]

theorem makePending_pends {mask : Nat} {ok : Nat → Bank → Bool} (hm : mask ≤ 3) (h : ¬Refuses s mask ok) :
    makePending s mask ok = accepted { s with sec := s.sec.pend mask } := by
  unfold makePending
  dsimp only
  rw [if_neg (by omega), if_neg (mt refuses_iff.2 h)]
  rfl

/-! #### Update commands -/

/-- A command of the update object, once its class and form are in order (R412). -/
theorem fwCommand_eq {cls : PortClass} {op m v : Nat} (hrights : updateRights s.sec cls = true) (hop : 1 ≤ op ∧ op ≤ 6) (hm : m < 256)
    (hv : v < 2 ^ 32) (hcommit : op = 5 → cls = .mgmt) (hword : op = 1 ∨ v = 0) (harg : op = 2 ∨ op = 4 → m = 0) :
    fwCommand s cls (commandBytes op m v) = if otherSession s.sec cls = true then aborted s abState else match op with
      | 1 =>
        if (m ≠ 1 ∧ m ≠ 2) ∨ bankSize m < v then aborted s abRange
        else if s.sec.fwState = 1 ∨ s.sec.fwState = 2 then aborted s abState
        else
          let i := (s.sec.image m).setInactive { bytes := [], verified := false, valid := false }
          accepted { s with sec := { s.sec.setImage m { i with pending := false } with
            fwState := 1, fwOwner := cls, fwImage := BitVec.ofNat 8 m, fwTotal := BitVec.ofNat 32 v, fwOffset := 0, fwReceived := 0 } }
      | 2 => fwVerify s
      | 3 =>
        if s.sec.fwState = 1 ∨ s.sec.fwState = 2 then aborted s abState
        else
          let r := makePending s m (fun _ k => k.verified)
          if r.2 = 0 then accepted { r.1 with sec := { r.1.sec with fwState := 0 } } else r
      | 4 =>
        if s.sec.fwState = 0 then aborted s abState
        else
          let t := s.sec.fwImage.toNat
          let i := s.sec.image t
          accepted { s with sec := { s.sec.setImage t (i.setInactive { i.inactive with valid := false, verified := false }) with fwState := 0 } }
      | 5 =>
        if 3 < m then aborted s abRange
        else if s.sec.overrideUsed || !([1, 2].all (fun t => !(bitAt m (t - 1)) || (s.sec.image t).present)) then aborted s abState
        else
          let c := [1, 2].foldl (fun c t =>
            let i := c.image t
            if bitAt m (t - 1) && decide (i.minimum.toNat < i.secver.toNat) then c.setImage t { i with minimum := i.secver } else c) s.sec
          accepted { s with sec := c }
      | _ => makePending s m (fun t k => bankOk s.sec t k) := by
  obtain ⟨hb0, hb1, hz, hw, hz'⟩ := commandBytes_args (op := op) (by omega) hm hv
  have hform : ¬(op = 0 ∨ 6 < op ∨ (!true) = true ∨ (!true) = true ∨ op ≠ 1 ∧ v ≠ 0 ∨ (op = 2 ∨ op = 4) ∧ m ≠ 0) := by
    rintro (h | h | h | h | ⟨h, h'⟩ | ⟨h, h'⟩)
    · omega
    · omega
    · cases h
    · cases h
    · omega
    · exact h' (harg h)
  have hcls : ¬(op = 5 ∧ cls ≠ .mgmt) := fun h => h.2 (hcommit h.1)
  have hno : ¬(!updateRights s.sec cls) = true := by simp [hrights]
  unfold fwCommand
  dsimp only
  rw [hb0, hb1, hz, hw, hz', if_neg hno, if_neg hcls, if_neg hform] <;> rfl

/-- The answer to an access that its object refuses. -/
def Refused (s : State) (acc : Accessor) (code : Nat) : Host.Outcome State Fault Refusal :=
  .next ((countAbort s code).send (.dictReply acc.cls (BitVec.ofNat 32 code) []))

theorem dictCommand_takes {idx sub n : Nat} {b : Bytes} {u : State} (h : Admitted s acc idx sub = true) (hown : OwnObject idx sub n)
    (hl : b.length = n) (hw : writePlain s acc idx sub b = accepted u) : .next (dictCommand s acc idx sub b) = Replied acc u :=
  (dictCommand_own h hown hl (r := .ok u) hw).1 u rfl

theorem dictCommand_refuses {idx sub n : Nat} {b : Bytes} {e : Nat} (h : Admitted s acc idx sub = true) (hown : OwnObject idx sub n)
    (hl : b.length = n) (hw : writePlain s acc idx sub b = aborted s e) : .next (dictCommand s acc idx sub b) = Refused s acc e :=
  (dictCommand_own h hown hl (r := .error e) hw).2 e rfl

/-- A command of the update object that it takes, and one that it refuses. -/
theorem fwCommand_takes {op m v : Nat} {u : State} (hadm : Admitted s acc 0x3C04 1 = true)
    (hw : fwCommand s acc.cls (commandBytes op m v) = accepted u) :
    .next (dictCommand s acc 0x3C04 1 (commandBytes op m v)) = Replied acc u :=
  dictCommand_takes hadm ownObject_fwCommand (commandBytes_length ..) hw

theorem fwCommand_refuses {op m v e : Nat} (hadm : Admitted s acc 0x3C04 1 = true)
    (hw : fwCommand s acc.cls (commandBytes op m v) = aborted s e) :
    .next (dictCommand s acc 0x3C04 1 (commandBytes op m v)) = Refused s acc e :=
  dictCommand_refuses hadm ownObject_fwCommand (commandBytes_length ..) hw

/-! #### The data of an update -/

theorem bitAt_add_pow {v k : Nat} (h : bitAt v k = false) : bitAt (v + 2 ^ k) k = true := by
  unfold bitAt at *
  rw [Nat.add_div_right _ (Nat.two_pow_pos k)]
  have h0 : v / 2 ^ k % 2 ≠ 1 := by simpa using h
  rw [beq_iff_eq]
  omega

theorem bitAt_received (v k : Nat) : bitAt (v + if bitAt v k = true then 0 else 2 ^ k) k = true := by
  split
  · assumption
  · exact bitAt_add_pow (Bool.eq_false_iff.2 ‹_›)

/-- A bank with a page of data written at its offset (R412). -/
def Bank.written (k : Bank) (o : Nat) (b : Bytes) : Bank :=
  { k with bytes := overlay (k.bytes ++ List.replicate (o + 256 - k.bytes.length) 0xFF#8) o b }

theorem written_room (k : Bank) {o : Nat} {b : Bytes} (hl : b.length = 256) :
    o + b.length ≤ (k.bytes ++ List.replicate (o + 256 - k.bytes.length) 0xFF#8).length := by
  simp only [List.length_append, List.length_replicate]
  omega

theorem written_page (k : Bank) (o : Nat) {b : Bytes} (hl : b.length = 256) : ((k.written o b).bytes.drop o).take 256 = b := by
  refine List.ext_getElem? fun i => ?_
  rw [List.getElem?_take, List.getElem?_drop, Bank.written, overlay_getElem? (written_room k hl)]
  split
  · rw [if_pos (by omega), Nat.add_sub_cancel_left]
  · rw [List.getElem?_eq_none (by omega)]

theorem written_before (k : Bank) {o i : Nat} {b : Bytes} (hl : b.length = 256) (hi : i < o) (hk : i < k.bytes.length) :
    (k.written o b).bytes[i]? = k.bytes[i]? := by
  rw [Bank.written, overlay_getElem? (written_room k hl), if_neg (by omega), List.getElem?_append_left hk]

/-- The next page of an update is taken in its session, up to the length announced (R412). -/
theorem fwData_eq {cls : PortClass} {b : Bytes} (hrights : updateRights s.sec cls = true) (hses : otherSession s.sec cls = false) :
    fwData s cls b = if s.sec.fwState ≠ 2 ∨ s.sec.fwTotal.toNat ≤ s.sec.fwOffset.toNat then aborted s abState
      else accepted { s with sec := { s.sec.setImage s.sec.fwImage.toNat ((s.sec.image s.sec.fwImage.toNat).setInactive
        ((s.sec.image s.sec.fwImage.toNat).inactive.written s.sec.fwOffset.toNat b)) with
          fwOffset := BitVec.ofNat 32 (s.sec.fwOffset.toNat + 256)
          fwReceived := s.sec.fwReceived + if bitAt s.sec.fwReceived (s.sec.fwOffset.toNat / 256) then 0 else 2 ^ (s.sec.fwOffset.toNat / 256) } } := by
  have hno : ¬(!updateRights s.sec cls) = true := by simp [hrights]
  unfold fwData
  dsimp only
  rw [if_neg hno, hses]
  refine if_congr (by simp) rfl rfl

/-! #### Staging and keys -/

theorem byteAt_padTo {bs : Bytes} {n i : Nat} (hi : i < n) : byteAt (padTo n bs) i = byteAt bs i := by
  simp only [byteAt, List.getD_eq_getElem?_getD, padTo, List.getElem?_take, if_pos hi]
  by_cases hlt : i < bs.length
  · rw [List.getElem?_append_left hlt]
  · rw [List.getElem?_append_right (by omega), List.getElem?_replicate, List.getElem?_eq_none (l := bs) (by omega)]
    split <;> rfl

/-- A chunk of the staging area (R406). -/
theorem writeStage_holds (s : State) (n : Nat) {b : Bytes} (hl : b.length = 256) :
    let t := (writeStage s n b).sec.staging
    t.length = 8192 ∧ (n < 32 → (t.drop (256 * n)).take 256 = b) ∧
      (∀ i < 8192, (i < 256 * n ∨ 256 * n + 256 ≤ i) → byteAt t i = byteAt s.sec.staging i) := by
  have hpad : (padTo 8192 s.sec.staging).length = 8192 := padTo_length ..
  have hbyte {i : Nat} (hi : i < 8192) := byteAt_padTo (bs := s.sec.staging) hi
  intro t
  have ht : t = overlay (padTo 8192 s.sec.staging) (256 * n) b := rfl
  by_cases hn : n < 32
  · have hroom : 256 * n + b.length ≤ (padTo 8192 s.sec.staging).length := by omega
    refine ⟨by rw [ht, overlay_length hroom, hpad], fun _ => ?_, fun i hi hout => ?_⟩
    · refine List.ext_getElem? fun i => ?_
      rw [List.getElem?_take, List.getElem?_drop, ht, overlay_getElem? hroom]
      split
      · rw [if_pos (by omega), Nat.add_sub_cancel_left]
      · rw [List.getElem?_eq_none (by omega)]
    · rw [ht, byteAt_overlay hroom, if_neg (by omega), hbyte hi]
  · have hout : t = padTo 8192 s.sec.staging := by
      rw [ht, overlay, List.take_of_length_le (i := 256 * n) (by omega), List.append_assoc, List.take_left]
    refine ⟨by rw [hout, hpad], fun h => absurd h hn, fun i hi _ => by rw [hout, hbyte hi]⟩

/-- KEY_STORE: a slot with room takes the staged key in the states that allow it (R407). -/
theorem keyCommand_store {slot : Nat} (hslot : slot < 256) : keyCommand s (commandBytes 1 slot 0) =
    if slot ≠ 4 ∧ slot ≠ 5 then aborted s abRange
    else if (!([1, 2, 3].contains s.sec.lifecycle.toNat) || decide (4 ≤ (s.sec.slot slot).2.length)) = true then aborted s abState
    else
      let k := (padTo 8192 s.sec.staging).take 2592
      let ds := sha3 k :: (s.sec.slot slot).2
      accepted { s with sec := if slot = 4 then { s.sec with key4 := k, digests4 := ds } else { s.sec with key5 := k, digests5 := ds } } := by
  obtain ⟨hb0, hb1, hz, -, hz'⟩ := commandBytes_args (op := 1) (arg := slot) (v := 0) (by decide) hslot (by decide)
  have hzero : zeroRange (commandBytes 1 slot 0) 2 16 = true := rfl
  unfold keyCommand
  dsimp only
  rw [hzero, hb0, hb1]
  rfl

theorem keyCommand_cert : keyCommand s (commandBytes 2 0 0) =
    if (decide (s.sec.lifecycle.toNat ≠ 1) || !(certOk s.sec ((padTo 8192 s.sec.staging).take 7424))) = true then aborted s abState
    else accepted { s with sec := { s.sec with certificate := (padTo 8192 s.sec.staging).take 7424 } } := rfl

/-! #### The reply to each command of an open session's class -/

/-- An update begun of a bank, which is erased (R412). -/
def Security.begun (c : Security) (cls : PortClass) (m : BitVec 8) (total : BitVec 32) : Security :=
  { c.setImage m.toNat { (c.image m.toNat).setInactive { bytes := [], verified := false, valid := false } with pending := false } with
    fwState := 1, fwOwner := cls, fwImage := m, fwTotal := total, fwOffset := 0, fwReceived := 0 }

/-- The bank of the update with its verdict (R412). -/
def Security.verdict (c : Security) (good : Bool) : Security :=
  { c.setImage c.fwImage.toNat ((c.image c.fwImage.toNat).setInactive
      { (c.image c.fwImage.toNat).inactive with verified := good, valid := good }) with fwState := if good then 3 else 4 }

/-- The bank of the update, invalid (R412). -/
def Security.dropped (c : Security) : Security :=
  { c.setImage c.fwImage.toNat ((c.image c.fwImage.toNat).setInactive
      { (c.image c.fwImage.toNat).inactive with valid := false, verified := false }) with fwState := 0 }

/-- The bank of the update passes checks 1 and 2 of R410. -/
def State.updateOk (s : State) : Bool :=
  let k := { (s.sec.image s.sec.fwImage.toNat).inactive with valid := true }
  bankOk s.sec s.sec.fwImage.toNat k && steppingsOk s k.bytes

/-- The running image's security version, made the minimum of a type in a mask (R412). -/
def Security.raised (c : Security) (mask t : Nat) : Security :=
  if bitAt mask (t - 1) && decide ((c.image t).minimum.toNat < (c.image t).secver.toNat) then
    c.setImage t { c.image t with minimum := (c.image t).secver } else c

def Security.committed (c : Security) (mask : Nat) : Security := [1, 2].foldl (fun c t => c.raised mask t) c

theorem raised_minimum (c : Security) (mask t : Nat) : ((c.raised mask t).image t).minimum =
    if bitAt mask (t - 1) = true ∧ (c.image t).minimum.toNat < (c.image t).secver.toNat then (c.image t).secver else (c.image t).minimum := by
  simp only [Security.raised, Bool.and_eq_true, decide_eq_true_eq]
  split
  · rw [image_setImage]
  · rfl

theorem raised_other (c : Security) {mask t u : Nat} (h : (t = 1) ≠ (u = 1)) : (c.raised mask t).image u = c.image u := by
  unfold Security.raised
  split
  · exact image_setImage_other c _ h
  · rfl

theorem committed_minimum (c : Security) (mask : Nat) {t : Nat} (ht : t = 1 ∨ t = 2) : ((c.committed mask).image t).minimum =
    if bitAt mask (t - 1) = true ∧ (c.image t).minimum.toNat < (c.image t).secver.toNat then (c.image t).secver else (c.image t).minimum := by
  simp only [Security.committed, List.foldl_cons, List.foldl_nil]
  rcases ht with rfl | rfl
  · rw [raised_other _ (by simp), raised_minimum]
  · rw [raised_minimum, raised_other _ (by simp)]

section
variable (hadm : Admitted s acc 0x3C04 1 = true) (hrights : updateRights s.sec acc.cls = true) (hses : otherSession s.sec acc.cls = false)

include hadm hrights hses

theorem exec_fwBegin {m : BitVec 8} {total : BitVec 32} (hm : m = 1 ∨ m = 2) (htotal : total.toNat ≤ bankSize m.toNat)
    (h1 : s.sec.fwState ≠ 1) (h2 : s.sec.fwState ≠ 2) :
    exec (.fwBegin acc m total) s = Replied acc { s with sec := s.sec.begun acc.cls m total } := by
  have hkind : ¬((m.toNat ≠ 1 ∧ m.toNat ≠ 2) ∨ bankSize m.toNat < total.toNat) := by
    rintro (⟨hm1, hm2⟩ | h)
    · rcases hm with rfl | rfl
      · exact hm1 rfl
      · exact hm2 rfl
    · omega
  refine fwCommand_takes hadm ((fwCommand_eq hrights (by decide) m.isLt total.isLt (fun h => absurd h (by decide)) (.inl rfl)
    (fun h => absurd h (by decide))).trans ((if_neg (ne_true_of_eq_false hses)).trans ?_))
  refine (if_neg hkind).trans ((if_neg fun h => h.elim h1 h2).trans ?_)
  dsimp only
  rw [BitVec.ofNat_toNat, BitVec.ofNat_toNat, BitVec.setWidth_eq, BitVec.setWidth_eq]
  rfl

theorem exec_fwVerify : (s.sec.fwState = 2 → (List.range (ceilDiv s.sec.fwTotal.toNat 256)).all (fun k => bitAt s.sec.fwReceived k) = true →
      exec (.fwVerify acc) s = Replied acc { s with sec := s.sec.verdict (s.updateOk) }) ∧
    (s.sec.fwState ≠ 2 → exec (.fwVerify acc) s = Refused s acc abState) := by
  have heq := (fwCommand_eq (op := 2) (m := 0) hrights (by decide) (by decide) (v := 0) (by decide) (fun h => absurd h (by decide)) (.inr rfl)
    (fun h => rfl)).trans (if_neg (ne_true_of_eq_false hses))
  refine ⟨fun hst hall => fwCommand_takes hadm (heq.trans ?_), fun hst => fwCommand_refuses hadm (heq.trans ?_)⟩
  · have hwhole : ¬(decide (s.sec.fwState ≠ 2) ||
        !(decide ((List.range (ceilDiv s.sec.fwTotal.toNat 256)).all (fun k => bitAt s.sec.fwReceived k) = true))) = true := by
      simp only [hst, hall]
      decide
    exact if_neg hwhole
  · have hno : (decide (s.sec.fwState ≠ 2) ||
        !(decide ((List.range (ceilDiv s.sec.fwTotal.toNat 256)).all (fun k => bitAt s.sec.fwReceived k) = true))) = true := by
      simp only [decide_eq_true hst, Bool.true_or]
    exact if_pos hno

theorem exec_commitVersion {m : BitVec 8} (hm : m.toNat ≤ 3) (hcls : acc.cls = .mgmt) :
    (s.sec.overrideUsed = false → (∀ t, (t = 1 ∨ t = 2) → bitAt m.toNat (t - 1) = true → (s.sec.image t).present = true) →
      exec (.commitVersion acc m) s = Replied acc { s with sec := s.sec.committed m.toNat }) ∧
    (s.sec.overrideUsed = true → exec (.commitVersion acc m) s = Refused s acc abState) := by
  have heq := (fwCommand_eq (op := 5) hrights (by decide) m.isLt (v := 0) (by decide) (fun _ => hcls) (.inr rfl)
    (fun h => absurd h (by decide))).trans ((if_neg (ne_true_of_eq_false hses)).trans (if_neg (by omega)))
  refine ⟨fun hover hpresent => fwCommand_takes hadm (heq.trans (if_neg ?_)), fun hover => fwCommand_refuses hadm (heq.trans (if_pos ?_))⟩
  · have h1 := hpresent 1 (.inl rfl)
    have h2 := hpresent 2 (.inr rfl)
    simp [hover]
    grind
  · simp [hover]

theorem exec_fwActivate {m : BitVec 8} (h1 : s.sec.fwState ≠ 1) (h2 : s.sec.fwState ≠ 2) (hm : m.toNat ≤ 3) :
    (¬Refuses s m.toNat (fun _ k => k.verified) →
      exec (.fwActivate acc m) s = Replied acc { s with sec := { s.sec.pend m.toNat with fwState := 0 } }) ∧
    (Refuses s m.toNat (fun _ k => k.verified) → exec (.fwActivate acc m) s = Refused s acc abState) := by
  have heq := (fwCommand_eq (op := 3) hrights (by decide) m.isLt (v := 0) (by decide) (fun h => absurd h (by decide)) (.inr rfl)
    (fun h => absurd h (by decide))).trans ((if_neg (ne_true_of_eq_false hses)).trans (if_neg fun h => h.elim h1 h2))
  dsimp only at heq
  refine ⟨fun hok => fwCommand_takes hadm (heq.trans ?_), fun hbad => fwCommand_refuses hadm (heq.trans ?_)⟩
  · rw [makePending_pends hm hok]
    rfl
  · rw [makePending_refuses hm hbad]
    rfl

theorem exec_fwAbort : (s.sec.fwState ≠ 0 → exec (.fwAbort acc) s = Replied acc { s with sec := s.sec.dropped }) ∧
    (s.sec.fwState = 0 → exec (.fwAbort acc) s = Refused s acc abState) := by
  have heq := (fwCommand_eq (op := 4) (m := 0) hrights (by decide) (by decide) (v := 0) (by decide) (fun h => absurd h (by decide)) (.inr rfl)
    (fun h => rfl)).trans (if_neg (ne_true_of_eq_false hses))
  exact ⟨fun hst => fwCommand_takes hadm (heq.trans (if_neg hst)), fun hst => fwCommand_refuses hadm (heq.trans (if_pos hst))⟩

theorem exec_revert {m : BitVec 8} (hm : m.toNat ≤ 3) :
    (¬Refuses s m.toNat (fun t k => bankOk s.sec t k) → exec (.revert acc m) s = Replied acc { s with sec := s.sec.pend m.toNat }) ∧
    (Refuses s m.toNat (fun t k => bankOk s.sec t k) → exec (.revert acc m) s = Refused s acc abState) := by
  have heq := (fwCommand_eq (op := 6) hrights (by decide) m.isLt (v := 0) (by decide) (fun h => absurd h (by decide)) (.inr rfl)
    (fun h => absurd h (by decide))).trans (if_neg (ne_true_of_eq_false hses))
  exact ⟨fun hok => fwCommand_takes hadm (heq.trans (makePending_pends hm hok)),
    fun hbad => fwCommand_refuses hadm (heq.trans (makePending_refuses hm hbad))⟩

end
end

/-- Settles O45: each command is a write that its object takes or refuses; banks and minima by their own lemmas. -/
theorem keysAndFirmwareUpdates : Obligations.KeysAndFirmwareUpdates := by
  unfold Obligations.KeysAndFirmwareUpdates
  intro s acc c refused
  refine ⟨fun chunk hadm hl => ?_, fun hadm => ?_, fun hadm hrights hses => ?_, fun hadm hrights hses => ?_, fun hst => congrArg Host.Outcome.next (if_pos hst),
    fun hst => congrArg Host.Outcome.next (if_neg hst), fun data hadm hrights hses hl => ?_⟩
  · intro n
    have hw : writePlain s acc 0x3C02 2 chunk = writeChunk s n chunk := rfl
    refine ⟨fun hbusy => dictCommand_refuses hadm ownObject_stageChunk hl (hw.trans (if_pos hbusy)), fun hbusy =>
      ⟨writeStage s n chunk, dictCommand_takes hadm ownObject_stageChunk hl (hw.trans (if_neg hbusy)), ?_⟩⟩
    obtain ⟨hlen, hchunk, hrest⟩ := writeStage_holds s n hl
    exact ⟨hlen, hchunk, hrest, rfl⟩
  · intro key cert stores
    have hw (op slot : Nat) : writePlain s acc 0x3C20 1 (commandBytes op slot 0) = keyCommand s (commandBytes op slot 0) := rfl
    have hstates (h : stores) : [1, 2, 3].contains s.sec.lifecycle.toNat = true := by
      have h : 1 ≤ s.sec.lifecycle.toNat ∧ s.sec.lifecycle.toNat ≤ 3 := h
      simp
      omega
    refine ⟨fun h hroom => dictCommand_takes hadm ownObject_keyCommand (commandBytes_length ..) ((hw ..).trans ?_),
      fun h hroom => dictCommand_takes hadm ownObject_keyCommand (commandBytes_length ..) ((hw ..).trans ?_),
      fun hfull => dictCommand_refuses hadm ownObject_keyCommand (commandBytes_length ..) ((hw ..).trans ?_),
      fun hfull => dictCommand_refuses hadm ownObject_keyCommand (commandBytes_length ..) ((hw ..).trans ?_),
      fun slot h4 h5 => dictCommand_refuses hadm ownObject_keyCommand (commandBytes_length ..) ((hw ..).trans ?_),
      fun hlife hok => dictCommand_takes hadm ownObject_keyCommand (commandBytes_length ..) ((hw ..).trans ?_),
      fun hno => dictCommand_refuses hadm ownObject_keyCommand (commandBytes_length ..) ((hw ..).trans ?_)⟩
    · have hcan : ¬(!([1, 2, 3].contains s.sec.lifecycle.toNat) || decide (4 ≤ c.digests4.length)) = true := by
        rw [hstates h]; simpa using hroom
      exact (keyCommand_store (by decide)).trans ((if_neg (by decide)).trans (if_neg hcan))
    · have hcan : ¬(!([1, 2, 3].contains s.sec.lifecycle.toNat) || decide (4 ≤ c.digests5.length)) = true := by
        rw [hstates h]; simpa using hroom
      exact (keyCommand_store (by decide)).trans ((if_neg (by decide)).trans (if_neg hcan))
    · have hno : (!([1, 2, 3].contains s.sec.lifecycle.toNat) || decide (4 ≤ c.digests4.length)) = true := by simp [hfull]
      exact (keyCommand_store (by decide)).trans ((if_neg (by decide)).trans (if_pos hno))
    · have hno : (!([1, 2, 3].contains s.sec.lifecycle.toNat) || decide (4 ≤ c.digests5.length)) = true := by simp [hfull]
      exact (keyCommand_store (by decide)).trans ((if_neg (by decide)).trans (if_pos hno))
    · have hne (v : BitVec 8) (h : slot ≠ v) : slot.toNat ≠ v.toNat := fun heq => h (BitVec.eq_of_toNat_eq heq)
      exact (keyCommand_store slot.isLt).trans (if_pos ⟨hne 4 h4, hne 5 h5⟩)
    · have hcan : ¬(decide (s.sec.lifecycle.toNat ≠ 1) || !(certOk s.sec cert)) = true := by
        have hlife : s.sec.lifecycle = 1 := hlife
        have hok : certOk s.sec cert = true := hok
        rw [hlife, hok]
        decide
      exact keyCommand_cert.trans (if_neg hcan)
    · refine keyCommand_cert.trans (if_pos ?_)
      rw [Bool.or_eq_true, decide_eq_true_eq, Bool.not_eq_true']
      exact hno.imp_left fun h heq => h (BitVec.eq_of_toNat_eq heq)
  · have hses' : ¬otherSession s.sec acc.cls = true := ne_true_of_eq_false hses
    intro bad pends
    refine ⟨fun m total hm htotal h1 h2 => ?_, fun hst hall => ?_, fun hst => ?_, fun m hm h1 h2 => ⟨fun hok => ?_, fun hbad => ?_⟩,
      fun hst => ?_, fun hst => ?_, fun m hm hcls => ⟨fun hover hpresent => ?_, fun hover => ?_⟩, fun m hm => ⟨fun hok => ?_, fun hbad => ?_⟩⟩
    · refine ⟨_, exec_fwBegin hadm hrights hses hm htotal h1 h2, rfl, rfl, rfl, rfl, rfl, rfl, ?_, ?_, ?_, rfl⟩
      · exact (congrArg ImageSlot.inactive (image_setImage c m.toNat _)).trans (inactive_setInactive ..)
      · exact (congrArg ImageSlot.activeB (image_setImage c m.toNat _)).trans (activeB_setInactive ..)
      · refine image_setImage_other c _ ?_
        rcases hm with rfl | rfl
        · decide
        · decide
    · refine ⟨_, (exec_fwVerify hadm hrights hses).1 hst hall, rfl, ?_, rfl⟩
      exact congrArg Bank.verified ((congrArg ImageSlot.inactive (image_setImage c c.fwImage.toNat _)).trans (inactive_setInactive ..))
    · exact (exec_fwVerify hadm hrights hses).2 hst
    · exact ⟨_, (exec_fwActivate hadm hrights hses h1 h2 hm).1 hok, ⟨rfl, fun t ht => image_pend c m.toNat ht⟩, rfl⟩
    · exact (exec_fwActivate hadm hrights hses h1 h2 hm).2 hbad
    · refine ⟨_, (exec_fwAbort hadm hrights hses).1 hst, rfl, ?_, rfl⟩
      exact congrArg Bank.valid ((congrArg ImageSlot.inactive (image_setImage c c.fwImage.toNat _)).trans (inactive_setInactive ..))
    · exact (exec_fwAbort hadm hrights hses).2 hst
    · exact ⟨_, (exec_commitVersion hadm hrights hses hm hcls).1 hover hpresent, fun t ht => committed_minimum c m.toNat ht, rfl⟩
    · exact (exec_commitVersion hadm hrights hses hm hcls).2 hover
    · exact ⟨_, (exec_revert hadm hrights hses hm).1 hok, ⟨fwState_pend c m.toNat, fun t ht => image_pend c m.toNat ht⟩, rfl⟩
    · exact (exec_revert hadm hrights hses hm).2 hbad
  · exact fwCommand_refuses hadm ((fwCommand_eq (op := 2) (m := 0) hrights (by decide) (by decide) (v := 0) (by decide)
      (fun h => absurd h (by decide)) (.inr rfl) (fun h => rfl)).trans (if_pos hses))
  · intro o
    have hw := fwData_eq (b := data) hrights hses
    refine ⟨fun hno => dictCommand_refuses hadm ownObject_fwData hl (hw.trans (if_pos hno)), fun hst hroom =>
      ⟨_, dictCommand_takes hadm ownObject_fwData hl (hw.trans (if_neg fun h => h.elim (fun h => h hst) (Nat.not_le_of_lt hroom))), ?_⟩⟩
    have hoffset : BitVec.ofNat 32 (c.fwOffset.toNat + 256) = c.fwOffset + 256 := by bv_omega
    have hbank := (congrArg ImageSlot.inactive (image_setImage c c.fwImage.toNat ((c.image c.fwImage.toNat).setInactive
      ((c.image c.fwImage.toNat).inactive.written o data)))).trans (inactive_setInactive ..)
    refine ⟨hoffset, bitAt_received .., ?_, fun i hi hk => ?_, rfl⟩
    · exact (congrArg (fun (k : Bank) => (k.bytes.drop o).take 256) hbank).trans (written_page _ o hl)
    · exact (congrArg (fun (k : Bank) => k.bytes[i]?) hbank).trans (written_before _ hl hi hk)

end Sys2Proof.Machine
end

section
/-! PROOFS. What collectives leave, and the lifecycle commands (O44). -/

namespace Sys2Proof.Machine

/-! ### What collectives leave (R315 to R327) -/

/-- The two states differ in contexts, collectives and what is sent alone. -/
def Collects (s t : State) : Prop := { t with contexts := s.contexts, coll := s.coll, out := s.out } = s

section
variable {s t u : State}

theorem collects_refl (s : State) : Collects s s := rfl

theorem collects_mk (h : Collects s t) {out contexts coll} :
    Collects s (State.mk t.pending out t.draws t.clkc t.device t.mem t.cores t.slotMap t.spares t.counters t.syncFaults t.tailDiscards
      t.signals t.addends contexts t.queueObjs t.training t.fabric coll t.drinex t.dict t.sources t.dests t.rel t.sec t.meter t.power) := h

theorem Collects.sec (h : Collects s t) : t.sec = s.sec := by have h := congrArg State.sec h; exact h

theorem collects_setCtx (h : Collects s t) (x c) : Collects s (t.setCtx x c) := h
theorem collects_modDesc (h : Collects s t) (x q seq f) : Collects s (t.modDesc x q seq f) := h
theorem collects_modQueue (h : Collects s t) (x q f) : Collects s (t.modQueue x q f) := h
theorem collects_setBarrier (h : Collects s t) (x k b) : Collects s (t.setBarrier x k b) := h

theorem collects_modInst (h : Collects s t) (comm seq f) : Collects s (t.modInst comm seq f) := by
  unfold State.modInst
  split <;> exact h

theorem collects_freeInst (h : Collects s t) (i status) : Collects s (t.freeInst i status) := by
  unfold State.freeInst
  split <;> exact h

theorem collects_sendFrame (h : Collects s t) (f k) : Collects s (sendFrame t f k) := by
  unfold sendFrame
  split <;> exact h

theorem collects_foldl {α : Type} {f : State → α → State} (hf : ∀ t a, Collects s t → Collects s (f t a)) (l : List α)
    (h : Collects s t) : Collects s (l.foldl f t) :=
  List.foldlRecOn (motive := fun (t : State) => Collects s t) l f h fun t h a _ => hf t a h

theorem collects_sendUps (h : Collects s t) (i round tree link pays) : Collects s (sendUps t i round tree link pays) := by
  unfold sendUps
  grind [collects_modInst, collects_sendFrame, collects_foldl]

theorem collects_sendDowns (h : Collects s t) (i round tree pays) : Collects s (sendDowns t i round tree pays) := by
  unfold sendDowns
  grind [collects_modInst, collects_sendFrame, collects_foldl]

theorem collects_blame (h : Collects s t) (i : Instance) (status) : Collects s (i.blame t status) := by
  unfold Instance.blame
  grind [collects_modDesc]

theorem collects_failFlip (h : Collects s t) (x status) : Collects s (failFlip t x status) := by
  unfold failFlip
  grind [collects_setCtx, collects_setBarrier, collects_modQueue, collects_modDesc]

theorem collects_dropPermute (h : Collects s t) (i status) : Collects s (dropPermute t i status) := by
  unfold dropPermute
  grind [collects_failFlip]

theorem collects_abortDown (h : Collects s t) (i status) : Collects s (abortDown t i status) := by
  unfold abortDown
  grind [collects_modInst, collects_sendFrame, collects_freeInst, collects_dropPermute, collects_blame, collects_foldl]

theorem collects_abortUp (h : Collects s t) (i status) : Collects s (abortUp t i status) := by
  unfold abortUp
  grind [collects_sendFrame, collects_abortDown]

theorem collects_memberAbort (h : Collects s t) (i status) : Collects s (memberAbort t i status) := by
  unfold memberAbort
  grind [collects_modInst, collects_blame, collects_abortUp]

theorem collects_endCall (h : Collects s t) (c seq status) : Collects s (endCall t c seq status) := by
  unfold endCall
  grind [collects_memberAbort, collects_sendFrame, collects_mk, collects_foldl]

theorem collects_advanceCall (h : Collects s t) (x comm) : Collects s (advanceCall t x comm) := by
  unfold advanceCall
  grind [collects_setCtx]

theorem collects_abortCall (h : Collects s t) (x d status) : Collects s (abortCall t x d status) := by
  unfold abortCall
  grind [collects_endCall, collects_advanceCall]

end

/-! ### The lifecycle commands (R401 to R404) -/

/-- The identity, keys, firmware and lifecycle stay. -/
def SameSec (s t : State) : Prop := t.sec = s.sec

section
variable {s t : State} {acc : Accessor}

theorem sameSec_foldl {α : Type} {f : State → α → State} (hf : ∀ t a, SameSec s t → SameSec s (f t a)) (l : List α)
    (h : SameSec s t) : SameSec s (l.foldl f t) :=
  List.foldlRecOn (motive := fun (t : State) => SameSec s t) l f h fun t h a _ => hf t a h

theorem sameSec_closeDesc (h : SameSec s t) (x q status d) : SameSec s (closeDesc t x q status d) :=
  (collects_abortCall (collects_refl t) x d stCancelled).sec.trans h

theorem sameSec_mk (h : SameSec s t) {pending out draws clkc device mem cores slotMap spares counters syncFaults tailDiscards signals addends
    contexts queueObjs training fabric coll drinex dict sources dests rel meter power} :
    SameSec s (State.mk pending out draws clkc device mem cores slotMap spares counters syncFaults tailDiscards signals addends contexts
      queueObjs training fabric coll drinex dict sources dests rel t.sec meter power) := h

theorem sameSec_journalWrite (h : SameSec s t) (x q seq off bs) : SameSec s (journalWrite t x q seq off bs) := by
  unfold journalWrite
  refine sameSec_foldl (fun t c h => ?_) _ h
  exact h

theorem sameSec_sendTxn (h : SameSec s t) (c n o) : SameSec s (sendTxn t c n o) := by
  unfold sendTxn
  have hdrain := congrArg State.sec (drainTxns_frame (t.drinex.waiting ++ [(c, 1 + ceilDiv n 16, o)]).length
    { t with drinex := { t.drinex with waiting := t.drinex.waiting ++ [(c, 1 + ceilDiv n 16, o)] } })
  exact Eq.trans hdrain h

theorem sameSec_sendEcho (h : SameSec s t) (x q k seq data) : SameSec s (sendEcho t x q k seq data) := by
  unfold sendEcho
  grind [sameSec_sendTxn, sameSec_mk]

theorem sameSec_modDesc (h : SameSec s t) (x q seq f) : SameSec s (t.modDesc x q seq f) := h

theorem sameSec_commitWith (h : SameSec s t) (x q d status flips checks) : SameSec s (commitWith t x q d status flips checks) := by
  unfold commitWith
  grind [sameSec_journalWrite, sameSec_modDesc, sameSec_sendEcho]

theorem sameSec_settleScratch (h : SameSec s t) : SameSec s (settleScratch t) := by
  unfold settleScratch
  refine sameSec_foldl (fun t c h => ?_) _ h
  exact h

theorem sameSec_freeContext (h : SameSec s t) (x) : SameSec s (freeContext t x) := by
  refine sameSec_foldl (f := fun s g => s.setCore g { s.core g with owner := none, job := none, progress := none, work := [] })
    (fun _ _ h => h) _ ?_
  unfold dropPlan
  exact sameSec_settleScratch h

theorem sameSec_destroySealed (h : SameSec s t) (exit) : SameSec s (destroySealed t exit) := by
  unfold destroySealed
  refine sameSec_foldl (fun t p h => sameSec_freeContext (sameSec_foldl (fun t d h => ?_) _ h) _) _ h
  split
  · exact h
  · exact sameSec_commitWith (sameSec_closeDesc h ..) ..

theorem sameSec_reports {u : State} (h : SameSec s t) (hr : Reports t u) : SameSec s u := hr.sec.trans h

theorem sameSec_raise (h : SameSec s t) (n) : SameSec s (raise t n) := sameSec_reports h (reports_raise (reports_refl t) n)
theorem sameSec_fault (h : SameSec s t) (n) : SameSec s (fault t n) := sameSec_reports h (reports_fault (reports_refl t) n)
theorem sameSec_setCtr (h : SameSec s t) (p c) : SameSec s (t.setCtr p c) := h
theorem sameSec_setCore (h : SameSec s t) (g c) : SameSec s (t.setCore g c) := h
theorem sameSec_modEntry (h : SameSec s t) (u g seq f) : SameSec s (t.modEntry u g seq f) := h

theorem sameSec_blame (h : SameSec s t) (a status) : SameSec s (t.blame a status) := by
  unfold State.blame
  grind [sameSec_modDesc]

theorem sameSec_cancelWaiter (h : SameSec s t) (a) : SameSec s (t.cancelWaiter a) := by
  unfold State.cancelWaiter
  grind [sameSec_modDesc, sameSec_modEntry]

theorem sameSec_releaseWaiters (h : SameSec s t) (p) : SameSec s (releaseWaiters t p) := by
  unfold releaseWaiters
  refine sameSec_foldl (fun u a hu => ?_) _ (sameSec_setCtr h ..)
  grind [sameSec_cancelWaiter, sameSec_blame]

theorem sameSec_freezeCounter (h : SameSec s t) (p cause src) : SameSec s (freezeCounter t p cause src) := by
  unfold freezeCounter
  grind [sameSec_releaseWaiters, sameSec_blame, sameSec_raise, sameSec_fault, sameSec_setCtr, sameSec_mk]

theorem sameSec_signalCounter (h : SameSec s t) (p a src r) : SameSec s (signalCounter t p a src r) := by
  unfold signalCounter
  grind [sameSec_blame, sameSec_setCtr, sameSec_freezeCounter, sameSec_mk]

theorem sameSec_endSnapshot (h : SameSec s t) : SameSec s (endSnapshot t) := by
  unfold endSnapshot
  grind [sameSec_raise, sameSec_mk]

theorem sameSec_abandonOne (h : SameSec s t) (u g e) : SameSec s (abandonOne u g t e) := by
  have hres : SameSec s (returnReservation t u g e) := by
    unfold returnReservation returnReserve
    grind [sameSec_endSnapshot, sameSec_setCtr, sameSec_modEntry]
  unfold abandonOne returnCredit
  grind [sameSec_setCtr, sameSec_signalCounter]

theorem sameSec_stopUnit (h : SameSec s t) (u g) : SameSec s (stopUnit u g t) := by
  unfold stopUnit
  grind [sameSec_abandonOne, sameSec_setCore, sameSec_foldl]

theorem sameSec_stopContext (h : SameSec s t) (x) : SameSec s (stopContext t x) := by
  unfold stopContext stopCore
  exact sameSec_foldl (fun t g ht => by grind [sameSec_stopUnit]) _ h

theorem sameSec_stopSealed (h : SameSec s t) (exit) : SameSec s (stopSealed t exit) := by
  unfold stopSealed
  exact sameSec_foldl (fun t p h => sameSec_foldl (f := withdrawCore) (fun _ _ h => h) _ (sameSec_stopContext (t := t.setCtx _ _) h _)) _ h

/-- No context is condemned: none is stopped. -/
theorem stopSealed_none {exit : Bool} (h : ∀ x ∈ s.contexts, condemned x.2 exit = false) : stopSealed s exit = s := by
  have hnil : s.contexts.filter (fun x => condemned x.2 exit) = [] := List.filter_eq_nil_iff.2 fun x hx => by simp [h x hx]
  rw [stopSealed, hnil]
  rfl

theorem ownObject_lifecycle : OwnObject 0x3C10 1 16 := by constructor <;> decide +kernel

theorem lifecycleCommand_busy {op v : Nat} (hop : 1 ≤ op ∧ op ≤ 5) (hv : v < 2 ^ 64) (hword : op = 5 ∨ v = 0) (hbusy : s.sec.busy ≠ none) :
    lifecycleCommand s (commandBytes op 0 v) = aborted s abState := by
  obtain ⟨hb, hz, hw⟩ := commandBytes_fields (op := op) (by omega) hv
  have hform : ¬(op = 0 ∨ 5 < op ∨ (!true) = true ∨ op ≠ 5 ∧ v ≠ 0) := by
    rintro (h | h | h | ⟨h, h'⟩)
    · omega
    · omega
    · cases h
    · omega
  unfold lifecycleCommand
  dsimp only
  rw [hb, hz, hw, if_neg hform, if_pos (Option.isSome_iff_ne_none.2 hbusy)]

/-- What a lifecycle command does in the states that take it (R402 to R404). -/
theorem lifecycleCommand_eq {op v : Nat} (hop : 1 ≤ op ∧ op ≤ 5) (hv : v < 2 ^ 64) (hword : op = 5 ∨ v = 0) (hbusy : s.sec.busy = none) :
    lifecycleCommand s (commandBytes op 0 v) = match op with
      | 1 =>
        if s.sec.lifecycle.toNat ≠ 0 then aborted s abState
        else accepted { s with sec := { s.sec with seed := some (bytesOf 32 (Config.entropyByte s.draws)), busy := some 1 }, draws := s.draws + 1 }
      | 2 => if s.sec.lifecycle.toNat ≠ 1 then aborted s abState else accepted { s with sec := { s.sec with override := 0, busy := some 2 } }
      | 3 =>
        if (s.sec.lifecycle.toNat ≠ 1 ∧ s.sec.lifecycle.toNat ≠ 2) ∨ s.sec.fusesLeft.toNat < 3 then aborted s abState
        else if tokenOk s then
          accepted (stopSealed { s with sec := { s.sec with nonce := none, beforeDebug := s.sec.lifecycle, busy := some 3 } } false)
        else aborted { s with sec := { s.sec with nonce := none, tokenRejects := satAdd s.sec.tokenRejects 1 } } abState
      | 4 => if s.sec.lifecycle.toNat ≠ 3 then aborted s abState
        else accepted (stopSealed { s with sec := { s.sec with busy := some s.sec.beforeDebug } } true)
      | _ =>
        if s.sec.lifecycle.toNat = 4 ∨ v ≠ serialNumber then aborted s abState
        else accepted { s with
          mem := s.mem.zeroSealed
          sec := { s.sec with seed := none, key4 := [], key5 := [], certificate := [], staging := [], busy := some 4 } } := by
  obtain ⟨hb, hz, hw⟩ := commandBytes_fields (op := op) (by omega) hv
  have hform : ¬(op = 0 ∨ 5 < op ∨ (!true) = true ∨ op ≠ 5 ∧ v ≠ 0) := by
    rintro (h | h | h | ⟨h, h'⟩)
    · omega
    · omega
    · cases h
    · omega
  unfold lifecycleCommand
  dsimp only
  rw [hb, hz, hw, if_neg hform, hbusy, if_neg (by decide)] <;> rfl

/-- The reply to a lifecycle command is what it answers. -/
theorem exec_lifecycle (hadm : Admitted s acc 0x3C10 1 = true) (op v : Nat) {t : State} {e : Nat}
    (hw : lifecycleCommand s (commandBytes op 0 v) = (t, e)) : .next (dictCommand s acc 0x3C10 1 (commandBytes op 0 v)) =
      (.next ((countAbort t e).send (.dictReply acc.cls (BitVec.ofNat 32 e) [])) : Host.Outcome State Fault Refusal) := by
  obtain ⟨hsize, hfabric⟩ := ownObject_lifecycle
  have ht := touchSelects_unselected hadm hfabric
  have hw' : writePlain s acc 0x3C10 1 (commandBytes op 0 v) = (t, e) := hw
  rw [dictCommand_plain hadm (by rw [commandBytes_length]; exact hsize), ht, hw']

/-! #### The nonce -/

/-- Its row is read by MGMT alone (R403). -/
theorem nonceRow_mgmt {r : ObjRow} {cls : PortClass} (h : checkAccess s cls false 0x3C10 3 = .ok r) : cls = .mgmt := by
  have hrow : (objectRow moduleObjects 0x3C10 3).map (fun r => [PortClass.host, .fabric, .debug, .metro].all fun c =>
      decide (r.right c ≠ 3 ∧ r.right c ≠ 1)) = some true := by decide +kernel
  rw [checkAccess_row h] at hrow
  have hno := Option.some.inj hrow
  have hgrants := checkAccess_grants h
  unfold ObjRow.Grants at hgrants
  simp at hno
  cases cls <;> simp_all

theorem dictQuery_module {idx sub : Nat} (hreached : s.reached acc.cls = true) (htap : s.dict.tapRequest = none) (hcls : acc.cls ≠ .metro) :
    dictQuery s acc idx sub = (dictRead s acc idx sub).1.send
      (.dictReply acc.cls (BitVec.ofNat 32 (dictRead s acc idx sub).2.1) (dictRead s acc idx sub).2.2) := by
  have hon : ¬(!s.reached acc.cls) = true := by simp [hreached]
  have hserve : serveTap s = s := by rw [serveTap, htap]
  unfold dictQuery
  rw [if_neg hon, hserve]
  dsimp only
  rw [if_neg hcls]

/-- A read of the nonce gives MGMT a fresh one. -/
theorem dictQuery_nonce {r : ObjRow} (hreached : s.reached acc.cls = true) (htap : s.dict.tapRequest = none)
    (hr : checkAccess s acc.cls false 0x3C10 3 = .ok r) : dictQuery s acc 0x3C10 3 = { s with
      draws := s.draws + 1
      sec := { s.sec with nonce := some (bytesOf 32 (Config.entropyByte s.draws)), nonceTime := s.clkc }
      out := .dictReply acc.cls 0 (bytesOf 32 (Config.entropyByte s.draws)) :: s.out } := by
  have hcls := nonceRow_mgmt hr
  have htouch : touchSelects s acc = s := by rw [touchSelects, hcls]
  have hread : dictRead s acc 0x3C10 3 = ((freshNonce s).1, 0, (freshNonce s).2) := by
    unfold dictRead
    rw [htouch]
    dsimp only
    rw [hr]
    rfl
  rw [dictQuery_module hreached htap (by rw [hcls]; decide), hread]
  rfl

theorem dictQuery_nonce_host (hreached : s.reached .host = true) (htap : s.dict.tapRequest = none) :
    (dictQuery s { cls := .host, src := 0 } 0x3C10 3).sec = s.sec := by
  rw [dictQuery_module hreached htap (by decide)]
  show (dictRead s { cls := .host, src := 0 } 0x3C10 3).1.sec = s.sec
  cases hr : checkAccess s .host false 0x3C10 3 with
  | ok r => cases nonceRow_mgmt hr
  | error e =>
    have hread : dictRead s { cls := .host, src := 0 } 0x3C10 3 = (countAbort s e, e, []) := by
      show (match checkAccess s .host false 0x3C10 3 with
        | .error e => (countAbort s e, e, [])
        | .ok r => _) = _
      rw [hr]
    rw [hread]
    unfold countAbort
    split <;> rfl

/-! #### A command finishes -/

/-- The state that a finished command enters (R402). -/
def Security.entered (c : Security) (l : BitVec 8) : Security := { c with busy := none, lifecycle := l, fusesLeft := c.fusesLeft - 1 }

theorem lifecycleFinish_enters {l : BitVec 8} (hbusy : s.sec.busy = some l) (hl : l ≠ 4) :
    (lifecycleFinish s).sec = s.sec.entered l ∧
      (l ≠ 3 → s.sec.lifecycle ≠ 3 → lifecycleFinish s = { s with sec := s.sec.entered l }) := by
  have hsec (b : Bool) : (if b = true then destroySealed s (decide (s.sec.lifecycle = 3)) else s).sec = s.sec := by
    split
    · exact sameSec_destroySealed (s := s) rfl _
    · rfl
  unfold lifecycleFinish
  rw [hbusy]
  dsimp only
  rw [if_neg hl]
  refine ⟨?_, fun h3 hlife => ?_⟩
  · dsimp only
    rw [hsec]
    rfl
  · rw [decide_eq_false h3, decide_eq_false hlife]
    rfl

/-- DECOMMISSION ends in a warm reset (R404). -/
theorem lifecycleFinish_decommissions (hbusy : s.sec.busy = some 4) (hlife : s.sec.lifecycle ≠ 3) (hreg : s.power.regulators = true)
    (hstart : s.starting = false) : lifecycleFinish s = restart { s with sec := s.sec.entered 4 } .warm 4 := by
  have hgo : ¬(!({ s with sec := s.sec.entered 4 } : State).power.regulators || ({ s with sec := s.sec.entered 4 } : State).starting) = true := by
    have h : ({ s with sec := s.sec.entered 4 } : State).starting = s.starting := rfl
    rw [h, hstart]
    simp [hreg]
  unfold lifecycleFinish
  rw [hbusy]
  dsimp only
  rw [decide_eq_false hlife]
  exact if_neg hgo

end

/-- Settles O44: each command is what the object answers to it; a finished one enters its state. -/
theorem lifecycleCommandsAct : Obligations.LifecycleCommandsAct := by
  unfold Obligations.LifecycleCommandsAct
  intro s acc c refused
  refine ⟨fun hadm => ⟨fun hbusy v => ?_, fun hbusy => ?_⟩, fun hreached htap r hr => ?_, fun hreached htap => ?_, fun hbusy => ?_,
    fun l hbusy hl => ?_, fun hbusy hlife hreg hstart => ?_⟩
  · have hrefused {op v : Nat} (hop : 1 ≤ op ∧ op ≤ 5) (hv : v < 2 ^ 64) (hword : op = 5 ∨ v = 0) :=
      exec_lifecycle hadm op v (lifecycleCommand_busy hop hv hword hbusy)
    exact ⟨hrefused (by decide) (by decide) (.inr rfl), hrefused (by decide) (by decide) (.inr rfl), hrefused (by decide) (by decide) (.inr rfl),
      hrefused (by decide) (by decide) (.inr rfl), hrefused (by decide) v.isLt (.inl rfl)⟩
  · have heq (op v : Nat) (hop : 1 ≤ op ∧ op ≤ 5) (hv : v < 2 ^ 64) (hword : op = 5 ∨ v = 0) := lifecycleCommand_eq (s := s) hop hv hword hbusy
    have hlife (v : BitVec 8) : c.lifecycle.toNat ≠ v.toNat ↔ c.lifecycle ≠ v := by rw [ne_eq, BitVec.toNat_inj]
    refine ⟨?_, ?_, fun hst hfuses => ?_, fun hno => ?_, fun hst => ?_, fun hst => ?_, fun v => ?_⟩
    · have hreply := heq 1 0 (by decide) (by decide) (.inr rfl)
      by_cases h : c.lifecycle = 0
      · rw [if_pos h]
        exact exec_lifecycle hadm 1 0 (hreply.trans (if_neg fun hn => (hlife 0).1 hn h))
      · rw [if_neg h]
        exact exec_lifecycle hadm 1 0 (hreply.trans (if_pos ((hlife 0).2 h)))
    · have hreply := heq 2 0 (by decide) (by decide) (.inr rfl)
      by_cases h : c.lifecycle = 1
      · rw [if_pos h]
        exact exec_lifecycle hadm 2 0 (hreply.trans (if_neg fun hn => (hlife 1).1 hn h))
      · rw [if_neg h]
        exact exec_lifecycle hadm 2 0 (hreply.trans (if_pos ((hlife 1).2 h)))
    · intro entered
      have hin : ¬((s.sec.lifecycle.toNat ≠ 1 ∧ s.sec.lifecycle.toNat ≠ 2) ∨ s.sec.fusesLeft.toNat < 3) := by
        rintro (⟨h1, h2⟩ | h)
        · exact hst.elim ((hlife 1).1 h1) ((hlife 2).1 h2)
        · exact Nat.not_lt.2 hfuses h
      refine ⟨fun hok => ⟨_, exec_lifecycle hadm 3 0 ((heq 3 0 (by decide) (by decide) (.inr rfl)).trans ((if_neg hin).trans (if_pos hok))), ?_, fun hnone => ?_⟩, fun hok => ?_⟩
      · exact sameSec_stopSealed (s := { s with sec := entered }) rfl false
      · exact stopSealed_none (s := { s with sec := entered }) hnone
      · exact exec_lifecycle hadm 3 0 ((heq 3 0 (by decide) (by decide) (.inr rfl)).trans ((if_neg hin).trans (if_neg (ne_true_of_eq_false hok))))
    · refine exec_lifecycle hadm 3 0 ((heq 3 0 (by decide) (by decide) (.inr rfl)).trans (if_pos ?_))
      exact hno.imp_left fun h => ⟨(hlife 1).2 h.1, (hlife 2).2 h.2⟩
    · have hin : ¬s.sec.lifecycle.toNat ≠ 3 := fun h => (hlife 3).1 h hst
      refine ⟨_, exec_lifecycle hadm 4 0 ((heq 4 0 (by decide) (by decide) (.inr rfl)).trans (if_neg hin)), ?_, fun hnone => ?_⟩
      · exact sameSec_stopSealed (s := { s with sec := { c with busy := some c.beforeDebug } }) rfl true
      · exact stopSealed_none (s := { s with sec := { c with busy := some c.beforeDebug } }) hnone
    · exact exec_lifecycle hadm 4 0 ((heq 4 0 (by decide) (by decide) (.inr rfl)).trans (if_pos ((hlife 3).2 hst)))
    · have hreply := heq 5 v.toNat (by decide) v.isLt (.inl rfl)
      by_cases h : c.lifecycle ≠ 4 ∧ v.toNat = serialNumber
      · rw [if_pos h]
        refine exec_lifecycle hadm 5 v.toNat (hreply.trans (if_neg ?_))
        exact fun hn => hn.elim (fun h4 => (hlife 4).2 h.1 h4) fun hv => hv h.2
      · rw [if_neg h]
        refine exec_lifecycle hadm 5 v.toNat (hreply.trans (if_pos ?_))
        by_contra hn
        obtain ⟨h4, hv⟩ := not_or.1 hn
        exact h ⟨(hlife 4).1 h4, not_not.1 hv⟩
  · exact congrArg Host.Outcome.next (dictQuery_nonce hreached htap hr)
  · exact ⟨_, rfl, dictQuery_nonce_host hreached htap⟩
  · exact congrArg Host.Outcome.next (by rw [lifecycleFinish, hbusy])
  · obtain ⟨hsec, hrest⟩ := lifecycleFinish_enters hbusy hl
    refine ⟨_, rfl, hsec, fun h3 hlife => ?_⟩
    rw [hrest h3 hlife]
  · refine ⟨_, congrArg Host.Outcome.next (lifecycleFinish_decommissions hbusy hlife hreg hstart), rfl, rfl, rfl, rfl⟩
end Sys2Proof.Machine
end

section
/-! PROOFS. Start-up (O51). -/

namespace Sys2Proof.Machine

/-! ### Start-up (R410, R448, R451, R452) -/

/-! #### Masks of parts -/

/-- The bits of the numbers below a bound that a test takes. -/
def maskOf (n : Nat) (p : Nat → Bool) : Nat := (((List.range n).filter p).map (2 ^ ·)).sum

theorem maskOf_succ (n : Nat) (p : Nat → Bool) : maskOf (n + 1) p = maskOf n p + if p n = true then 2 ^ n else 0 := by
  unfold maskOf
  rw [List.range_succ, List.filter_append, List.map_append, List.sum_append]
  cases h : p n <;> simp [h]

theorem maskOf_lt (n : Nat) (p : Nat → Bool) : maskOf n p < 2 ^ n := by
  induction n with
  | zero => exact Nat.one_pos
  | succ n ih =>
    rw [maskOf_succ, Nat.pow_succ]
    split <;> omega

theorem testBit_maskOf (n : Nat) (p : Nat → Bool) (k : Nat) : (maskOf n p).testBit k = (decide (k < n) && p k) := by
  induction n with
  | zero => simp [maskOf]
  | succ n ih =>
    have hlt := maskOf_lt n p
    rw [maskOf_succ]
    rcases Nat.lt_trichotomy k n with hk | rfl | hk
    · split
      · rw [Nat.add_comm, Nat.testBit_two_pow_add_gt hk, ih]
        simp [hk, Nat.lt_succ_of_lt hk]
      · rw [Nat.add_zero, ih]
        simp [hk, Nat.lt_succ_of_lt hk]
    · split
      · next h => rw [Nat.add_comm, Nat.testBit_two_pow_add_eq, ih, h]; simp
      · next h => rw [Nat.add_zero, ih]; simp [h]
    · rw [Nat.testBit_lt_two_pow]
      · simp; omega
      · refine Nat.lt_of_lt_of_le ?_ (Nat.pow_le_pow_right (by decide) hk)
        rw [Nat.succ_eq_add_one, Nat.pow_succ]
        split <;> omega

theorem getLsbD_maskOf {w n k : Nat} (p : Nat → Bool) (hn : n ≤ w) :
    (BitVec.ofNat w (maskOf n p)).getLsbD k = (decide (k < n) && p k) := by
  rw [BitVec.getLsbD_ofNat, testBit_maskOf]
  by_cases hk : k < n
  · simp [show k < w by omega]
  · simp [hk]

section
variable {s : State} {r : BootReport}

theorem starting_iff : s.starting = true ↔ s.power.regulators = true ∧ s.device = .bootLimited ∧ s.power.bootFailed = false := by
  simp [State.starting, and_assoc]

/-! #### The boot check (R410, R411) -/

theorem bootCheck_frame (s : State) (pin : Bool) : (bootCheck s pin).1.sec.override = 0 ∧ (bootCheck s pin).1.mem = s.mem ∧
    (bootCheck s pin).1.power = s.power := by
  have hemcy (u : State) (code unit : Nat) : (emcy u code unit).sec = u.sec ∧ (emcy u code unit).mem = u.mem ∧ (emcy u code unit).power = u.power :=
    have h := reports_emcy (reports_refl u) code unit
    ⟨h.sec, h.mem, h.power⟩
  unfold bootCheck
  dsimp only
  generalize (if pin = true then s.sec else { s.sec with control := takePending s.sec.control, fabricFw := takePending s.sec.fabricFw }) = c
  split
  · exact ⟨rfl, rfl, rfl⟩
  · split
    · split <;> exact ⟨rfl, rfl, rfl⟩
    · exact ⟨(congrArg Security.override (hemcy ..).1).trans rfl, (hemcy ..).2.1, (hemcy ..).2.2⟩

/-! #### Steps 4 and 7 -/

/-- The stacks that trained and were not declared permanent are in service (R387, R452). -/
theorem trainStacks_stacks (s : State) (failed : List (Fin 12)) (h : Fin 12) :
    (trainStacks s failed).mem.hbmStacks.getLsbD h = (!(failed.contains h) && !(s.rel.leaving.contains h.val)) := by
  have hany : failed.any (fun f => f.val == h.val) = failed.contains h := by
    rw [List.contains_eq_any_beq]
    congr 1
    funext f
    rw [Bool.eq_iff_iff, beq_iff_eq, beq_iff_eq, eq_comm, Fin.val_inj]
  refine (getLsbD_maskOf (w := 12) (n := 12) (k := h) (fun h => !(failed.any (fun f => f.val == h)) && !(s.rel.leaving.contains h)) (Nat.le_refl _)).trans ?_
  rw [decide_eq_true h.isLt, Bool.true_and, hany]

/-- An allowed population has a module (R142). -/
theorem offending_none {spd : List (Option DdrSpd)} (h : offending spd = none) : ∃ c < 8, (spd.getD c none).isSome = true := by
  unfold offending at h
  dsimp only at h
  split at h
  · cases h
  · split at h
    · cases h
    · next f l hl =>
      have hf : f ∈ (List.range 8).filter (fun c => (spd.getD c none).isSome) := by rw [hl]; exact List.mem_cons_self
      obtain ⟨hlt, hsome⟩ := List.mem_filter.1 hf
      exact ⟨f, List.mem_range.1 hlt, hsome⟩

theorem populate_sets (s : State) {spd : List (Option DdrSpd)} (h : ∃ c < 8, (spd.getD c none).isSome = true) :
    (populate s spd).mem.cells = s.mem.cells ∧ (populate s spd).mem.hbmStacks = s.mem.hbmStacks ∧ (populate s spd).power = s.power ∧
      ∀ c < 8, (populate s spd).mem.population.getLsbD c = (spd.getD c none).isSome := by
  obtain ⟨c, hc, hsome⟩ := h
  unfold populate
  dsimp only
  split
  · next hnil =>
    obtain ⟨d, hd⟩ := Option.isSome_iff_exists.1 hsome
    have hin : d ∈ ((List.range 8).filter (fun c => (spd.getD c none).isSome)).filterMap (fun c => spd.getD c none) :=
      List.mem_filterMap.2 ⟨c, List.mem_filter.2 ⟨List.mem_range.2 hc, hsome⟩, hd⟩
    rw [hnil] at hin
    cases hin
  · refine ⟨rfl, rfl, rfl, fun k hk => ?_⟩
    refine (getLsbD_maskOf (w := 8) (n := 8) (k := k) (fun c => (spd.getD c none).isSome) (Nat.le_refl _)).trans ?_
    rw [decide_eq_true hk, Bool.true_and]

/-! #### Steps that stop or end start-up -/

/-- Start-up stops with a record (R452). -/
theorem stopBoot_fault (s : State) {n : FaultNote} (hn : n.cls ≠ 1) : let t := stopBoot (fault s n)
    t.power = { s.power with bootFailed := true } ∧ t.rel.recordCount = s.rel.recordCount + 1 ∧ t.device = s.device ∧ t.mem = s.mem := by
  have h := reports_fault (reports_refl s) n
  obtain ⟨hcount, -⟩ := fault_recorded (s := s) hn
  refine ⟨?_, hcount, h.device, h.mem⟩
  show { (fault s n).power with bootFailed := true } = _
  rw [h.power]

/-- Step 7 ends in Service (R451). -/
theorem setDevice_starts (hst : s.device = .bootLimited) : (setDevice s .service).device = .service ∧
    { setDevice s .service with device := s.device, drinex := s.drinex, out := s.out } = s := by
  have hne : ¬s.device = .service := by rw [hst]; decide
  obtain ⟨o, ho⟩ : ∃ o, sendHeartbeat { s with device := .service } = { s with device := .service, out := o } := by
    unfold sendHeartbeat canSend
    split
    · exact ⟨s.out, rfl⟩
    · exact ⟨_, rfl⟩
  have heq : setDevice s .service = releaseIntr { s with device := .service, out := o } := by
    rw [setDevice, if_neg hne]
    dsimp only
    rw [if_pos rfl, ho]
  have hframe := releaseIntr_frame { s with device := .service, out := o }
  rw [← heq] at hframe
  refine ⟨?_, ?_⟩
  · have h := congrArg State.device hframe
    exact h
  · have h := congrArg (fun (t : State) => { t with device := s.device, drinex := s.drinex, out := s.out }) hframe
    exact h

/-! #### The sweep (R448) -/

theorem smGet_forall {α : Type} {d : α} {P : α → Prop} (hd : P d) {m : SMap α} (h : ∀ p ∈ m, P p.2) (x : Nat) : P (smGet d m x) := by
  induction m with
  | nil => exact hd
  | cons p m ih =>
    obtain ⟨k, v⟩ := p
    unfold smGet
    split
    · exact h _ List.mem_cons_self
    · split
      · exact hd
      · exact ih fun q hq => h q (List.mem_cons_of_mem _ hq)

/-- A warm reset's sweep leaves no context beyond its energy (R446, R448). -/
theorem clearContexts_free (s : State) (x : Nat) : ((clearContexts s).ctx x).st = .free := by
  refine smGet_forall (P := fun (c : Context) => c.st = .free) rfl (fun p hp => ?_) x
  obtain ⟨hp, -⟩ := List.mem_filter.1 hp
  obtain ⟨c, -, rfl⟩ := List.mem_map.1 hp
  rfl

/-- The state with the step's time taken (R451). -/
def State.timed (s : State) (r : BootReport) : State := { s with power := { s.power with bootTimes := s.power.bootTimes ++ [r.millis] } }

/-- What a step of start-up does (R451). -/
def bootStepAt (s : State) (r : BootReport) (n : Nat) : State :=
  match n with
  | 1 => if s.power.pinHeld || s.power.refLost then s else sendBootUp (nextStep (s.timed r))
  | 2 =>
    let c := bootCheck (s.timed r) ([2#8, 8#8, 9#8].contains s.power.resetCause)
    if c.2 then nextStep c.1 else stopBoot c.1
  | 3 => nextStep (retireFailed (s.timed r) r.failedSlots false)
  | 4 =>
    match offending r.spd with
    | some c => stopBoot (fault (trainStacks (s.timed r) r.failedStacks) { unit := unitIndexed 9 c, src := 9, sev := 4, cls := 0x0D, key := 1 })
    | none => nextStep (populate (trainStacks (s.timed r) r.failedStacks) r.spd)
  | 5 => nextStep (retireFailed (s.timed r) r.failedSlots true)
  | 6 => nextStep (s.timed r)
  | 7 =>
    if !s.power.sweepDone then s
    else setDevice { s.timed r with
      mem := { s.mem with journal := [0, 4].filter (fun c => s.mem.channels.getLsbD c) }
      power := { (s.timed r).power with bootStep := 0 } } .service
  | _ => s

theorem bootDone_starting (h : s.starting = true) (r : BootReport) : bootDone s r = bootStepAt s r s.power.bootStep.toNat := by
  have hon : ¬(!s.starting) = true := by simp [h]
  unfold bootDone
  rw [if_neg hon]
  rfl

theorem exec_bootStepComplete (h : s.starting = true) {n : Nat} (hst : s.power.bootStep.toNat = n) :
    exec (.bootStepComplete r) s = .next (bootStepAt s r n) := by
  rw [← hst]
  exact congrArg Host.Outcome.next (bootDone_starting h r)

/-- Step 1 sends the boot-up message (R451). -/
theorem bootStepAt_1 (hreg : s.power.regulators = true) (hpin : s.power.pinHeld = false) (href : s.power.refLost = false) :
    let t := bootStepAt s r 1
    t.power.bootStep = s.power.bootStep + 1 ∧ (s.dict.nodeId ≠ 0xFF → s.dict.busState ≠ 2 →
      t.out = .can (BitVec.ofNat 11 (0x700 + s.dict.nodeId.toNat)) [0#8] :: s.out) ∧ t.device = s.device ∧ t.mem = s.mem := by
  have heq : bootStepAt s r 1 = canSend (nextStep (s.timed r)) 0x700 [0#8] := by
    show (if (s.power.pinHeld || s.power.refLost) = true then s else sendBootUp (nextStep (s.timed r))) = _
    rw [hpin, href]
    rfl
  have hsend (u : State) : (canSend u 0x700 [0#8]).power = u.power ∧ (canSend u 0x700 [0#8]).device = u.device ∧
      (canSend u 0x700 [0#8]).mem = u.mem := by
    unfold canSend
    split <;> exact ⟨rfl, rfl, rfl⟩
  obtain ⟨hpower, hdev, hmem⟩ := hsend (nextStep (s.timed r))
  intro t
  rw [show t = _ from heq]
  refine ⟨congrArg Power.bootStep hpower, fun hid hbus => ?_, hdev, hmem⟩
  rw [canSend_on (s := nextStep (s.timed r)) hreg hid hbus]
  rfl

/-- Step 2 goes on where the boot check passes (R410). -/
theorem bootStepAt_2 (hfailed : s.power.bootFailed = false) :
    let c := bootCheck (s.timed r) ([2#8, 8#8, 9#8].contains s.power.resetCause)
    let t := bootStepAt s r 2
    t.sec.override = 0 ∧ t.mem = s.mem ∧ (c.2 = true → t.power.bootStep = s.power.bootStep + 1 ∧ t.power.bootFailed = false) ∧
      (c.2 = false → t.power.bootStep = s.power.bootStep ∧ t.power.bootFailed = true) := by
  obtain ⟨hover, hmem, hpower⟩ := bootCheck_frame (s.timed r) ([2#8, 8#8, 9#8].contains s.power.resetCause)
  intro c t
  have ht : t = if c.2 then nextStep c.1 else stopBoot c.1 := rfl
  have hc : c.1.power = (s.timed r).power := hpower
  rw [ht]
  cases hok : c.2
  · refine ⟨hover, hmem, fun h => absurd h (by decide), fun _ => ⟨?_, rfl⟩⟩
    exact (congrArg Power.bootStep hc :)
  · refine ⟨hover, hmem, fun _ => ⟨?_, ?_⟩, fun h => absurd h (by decide)⟩
    · exact (congrArg (fun p : Power => p.bootStep + 1) hc :)
    · exact Eq.trans (congrArg Power.bootFailed hc :) hfailed

/-- Step 4 stops at a socket set that is not allowed (R142, R452). -/
theorem bootStepAt_4_stops {c : Nat} (hc : offending r.spd = some c) : let t := bootStepAt s r 4
    t.power.bootStep = s.power.bootStep ∧ t.power.bootFailed = true ∧ t.rel.recordCount = s.rel.recordCount + 1 := by
  have heq : bootStepAt s r 4 = stopBoot (fault (trainStacks (s.timed r) r.failedStacks)
      { unit := unitIndexed 9 c, src := 9, sev := 4, cls := 0x0D, key := 1 }) := by
    unfold bootStepAt
    dsimp only
    rw [hc]
    rfl
  obtain ⟨hpower, hcount, -⟩ := stopBoot_fault (trainStacks (s.timed r) r.failedStacks)
    (n := { unit := unitIndexed 9 c, src := 9, sev := 4, cls := 0x0D, key := 1 }) (show 0x0D ≠ 1 by decide)
  intro t
  rw [show t = _ from heq]
  exact ⟨(congrArg Power.bootStep hpower :), (congrArg Power.bootFailed hpower :), hcount⟩

theorem bootStepAt_4 (hok : offending r.spd = none) : let t := bootStepAt s r 4
    t.power.bootStep = s.power.bootStep + 1 ∧ t.mem.cells = s.mem.cells ∧
      (∀ h : Fin 12, t.mem.hbmStacks.getLsbD h = (!(r.failedStacks.contains h) && !(s.rel.leaving.contains h.val))) ∧
      (∀ c < 8, t.mem.population.getLsbD c = (r.spd.getD c none).isSome) := by
  have heq : bootStepAt s r 4 = nextStep (populate (trainStacks (s.timed r) r.failedStacks) r.spd) := by
    unfold bootStepAt
    dsimp only
    rw [hok]
    rfl
  obtain ⟨hcells, hstacks, hpower, hpop⟩ := populate_sets (trainStacks (s.timed r) r.failedStacks) (offending_none hok)
  intro t
  rw [show t = _ from heq]
  refine ⟨(congrArg (fun p : Power => p.bootStep + 1) hpower :), hcells, fun h => ?_, hpop⟩
  exact (congrArg (fun v : BitVec 12 => v.getLsbD h) hstacks).trans (trainStacks_stacks (s.timed r) r.failedStacks h)

/-- Step 7 ends start-up once the sweep is done (R451). -/
theorem bootStepAt_7 (hdev : s.device = .bootLimited) (hdone : s.power.sweepDone = true) : let t := bootStepAt s r 7
    t.device = .service ∧ t.power.bootStep = 0 ∧ t.mem.journal = [0, 4].filter (fun c => s.mem.channels.getLsbD c) ∧
      t.mem.cells = s.mem.cells ∧ t.contexts = s.contexts := by
  have heq : bootStepAt s r 7 = setDevice { s.timed r with
      mem := { s.mem with journal := [0, 4].filter (fun c => s.mem.channels.getLsbD c) }
      power := { (s.timed r).power with bootStep := 0 } } .service := if_neg (by simp [hdone])
  obtain ⟨hservice, hframe⟩ := setDevice_starts (s := { s.timed r with
    mem := { s.mem with journal := [0, 4].filter (fun c => s.mem.channels.getLsbD c) }
    power := { (s.timed r).power with bootStep := 0 } }) hdev
  intro t
  rw [show t = _ from heq]
  generalize setDevice _ _ = u at hservice hframe
  have hpower := congrArg State.power hframe
  have hmem := congrArg State.mem hframe
  have hctx := congrArg State.contexts hframe
  exact ⟨hservice, (congrArg Power.bootStep hpower :), (congrArg Memory.journal hmem :), (congrArg Memory.cells hmem :), hctx⟩

/-- A late step stops start-up with a record of class 0x0E (R452). -/
theorem bootLate_stops (h : s.starting = true) : let t := bootLate s
    t.power.bootFailed = true ∧ t.power.bootStep = s.power.bootStep ∧ t.rel.recordCount = s.rel.recordCount + 1 ∧
      t.device = s.device ∧ t.mem = s.mem := by
  have hon : ¬(!s.starting) = true := by simp [h]
  have hrecord := reports_fault (reports_refl s) { src := 9, sev := 4, cls := 0x0E, key := (Config.firmwareCode s.draws).toNat }
  obtain ⟨hcount, -⟩ := fault_recorded (s := s) (n := { src := 9, sev := 4, cls := 0x0E, key := (Config.firmwareCode s.draws).toNat })
    (show 0x0E ≠ 1 by decide)
  intro t
  rw [show t = _ from if_neg hon]
  exact ⟨rfl, (congrArg Power.bootStep hrecord.power :), hcount, hrecord.device, hrecord.mem⟩

/-- The sweep of a warm reset's slots (R448). -/
theorem sweep_eq (hdev : s.device = .bootLimited) (hstep : s.power.bootStep = 7) (hdone : s.power.sweepDone = false)
    (hsweep : s.power.sweeping = false) (hup : s.linkUp = true) : sweep s =
      sweepEnd { (previousSlots s).foldl sweepSlot { s with drinex := { s.drinex with echoes := [] } } with
        power := { ((previousSlots s).foldl sweepSlot { s with drinex := { s.drinex with echoes := [] } }).power with sweeping := true } } :=
  if_neg (by simp [hdev, hstep, hdone, hsweep, hup])

theorem sweepEnd_done (hsweep : s.power.sweeping = true) (hnone : s.drinex.echoes = []) : sweepEnd s =
    { clearContexts { s with mem := s.mem.zeroJournal } with
      power := { s.power with sweeping := false, sweepDone := true } } := if_pos (by simp [hsweep, hnone])

theorem sweepEnd_waits (h : s.drinex.echoes ≠ []) : sweepEnd s = s := if_neg (by simp [h])

/-- A slot with a state 2 block is echoed as it stands (R448). -/
theorem sweepSlot_echoes {k : Nat × Nat × BitVec 64} (h : byteAt (journalSlot s k.1 k.2.1 k.2.2) 192 = 2) (hnone : s.drinex.echoes = []) :
    (sweepSlot s k).drinex.echoes = [(k.1, k.2.1, true, k.2.2)] ∧ { sweepSlot s k with drinex := s.drinex, out := s.out } = s := by
  have hold : byteAt ((journalSlot s k.1 k.2.1 k.2.2).drop 192) 0 = 2 := by
    rw [← h]
    simp [byteAt]
  have heq : sweepSlot s k = sendEcho s k.1 k.2.1 true k.2.2 ((journalSlot s k.1 k.2.1 k.2.2).drop 192) := by
    unfold sweepSlot
    dsimp only
    rw [if_pos hold, if_pos hold]
  rw [heq]
  refine ⟨(sendTxn_echoes ..).trans ?_, ?_⟩
  · show s.drinex.echoes.filter _ ++ [(k.1, k.2.1, true, k.2.2)] = _
    rw [hnone]
    rfl
  · exact congrArg (fun (t : State) => { t with drinex := s.drinex, out := s.out })
      (drainTxns_frame (s := { s with drinex := _ }) _)

end

/-- Settles O51: each step by its own lemma. -/
theorem startUpRunsItsSteps : Obligations.StartUpRunsItsSteps := by
  unfold Obligations.StartUpRunsItsSteps
  intro s r p timed
  refine ⟨fun hoff => ?_, fun hstart => ?_, fun hno => ?_, fun hdev hstep hdone hsweep hup => ?_⟩
  · have hno : (!s.starting) = true := by simp [hoff]
    exact ⟨congrArg Host.Outcome.next (if_pos hno), congrArg Host.Outcome.next (if_pos hno)⟩
  · obtain ⟨hreg, hdev, hfailed⟩ := starting_iff.1 hstart
    have hexec {v : BitVec 8} (n : Nat) (hst : p.bootStep = v) (hn : v.toNat = n) : exec (.bootStepComplete r) s = .next (bootStepAt s r n) :=
      exec_bootStepComplete hstart ((congrArg BitVec.toNat hst).trans hn)
    refine ⟨fun hst hheld => ?_, fun hst hpin href => ?_, fun hst => ?_, fun hst hnone => ?_, fun hst => ⟨fun c hc => ?_, fun hok => ?_⟩,
      fun hst hnone => ?_, fun hst => hexec 6 hst rfl, fun hst hdone => ?_, fun hst hdone => ?_, ?_⟩
    · exact (hexec 1 hst rfl).trans (congrArg Host.Outcome.next (if_pos (by simpa using hheld)))
    · obtain ⟨hnext, hout, hdev', hmem⟩ := bootStepAt_1 (r := r) hreg hpin href
      exact ⟨_, hexec 1 hst rfl, hnext.trans (congrArg (· + 1) hst), hout, hdev'.trans hdev, hmem⟩
    · intro c
      obtain ⟨hover, hmem, hgo, hstop⟩ := bootStepAt_2 (r := r) hfailed
      exact ⟨_, hexec 2 hst rfl, hover, hmem, fun h => ⟨(hgo h).1.trans (congrArg (· + 1) hst), (hgo h).2⟩,
        fun h => ⟨(hstop h).1.trans hst, (hstop h).2⟩⟩
    · rw [hexec 3 hst rfl]
      exact congrArg (fun l => Host.Outcome.next (nextStep (retireFailed timed l false))) hnone
    · obtain ⟨hat, hstop, hcount⟩ := bootStepAt_4_stops (s := s) hc
      exact ⟨_, hexec 4 hst rfl, hat.trans hst, hstop, hcount⟩
    · obtain ⟨hnext, hcells, hstacks, hpop⟩ := bootStepAt_4 (s := s) hok
      exact ⟨_, hexec 4 hst rfl, hnext.trans (congrArg (· + 1) hst), hcells, hstacks, hpop⟩
    · rw [hexec 5 hst rfl]
      exact congrArg (fun l => Host.Outcome.next (nextStep (retireFailed timed l true))) hnone
    · exact (hexec 7 hst rfl).trans (congrArg Host.Outcome.next (if_pos (by rw [show s.power.sweepDone = false from hdone]; rfl)))
    · exact ⟨_, hexec 7 hst rfl, bootStepAt_7 hdev hdone⟩
    · obtain ⟨hfailed, hat, hcount, hdev', hmem⟩ := bootLate_stops hstart
      exact ⟨_, rfl, hfailed, hat, hcount, hdev'.trans hdev, hmem⟩
  · refine congrArg Host.Outcome.next (if_pos ?_)
    simpa [or_assoc] using hno
  · refine ⟨fun hnone => ?_, fun k hk hbyte => ?_⟩
    · have heq := sweep_eq hdev hstep hdone hsweep hup
      rw [hnone] at heq
      refine ⟨_, congrArg Host.Outcome.next (heq.trans (sweepEnd_done rfl rfl)), rfl, rfl, rfl, fun x => ?_, rfl⟩
      exact clearContexts_free _ x
    · obtain ⟨hechoes, hframe⟩ := sweepSlot_echoes (s := { s with drinex := { s.drinex with echoes := [] } }) hbyte rfl
      have heq := sweep_eq hdev hstep hdone hsweep hup
      rw [hk, List.foldl_cons, List.foldl_nil] at heq
      generalize sweepSlot { s with drinex := { s.drinex with echoes := [] } } k = u at hechoes hframe heq
      rw [sweepEnd_waits (by rw [show _ = _ from hechoes]; simp)] at heq
      refine ⟨_, congrArg Host.Outcome.next heq, rfl, ?_, hechoes, ?_⟩
      · exact Eq.trans (congrArg Power.sweepDone (congrArg State.power hframe) :) hdone
      · have h := congrArg State.mem hframe
        exact h

end Sys2Proof.Machine
end

section
/-! PROOFS. What completing descriptors leaves, and the resets (O50). -/

namespace Sys2Proof.Machine

/-! ### Resets (R445 to R450, R453, R463) -/

/-! #### What completing descriptors leaves -/

/-- Power but for the dips, the clock, the device state, security and the epoch stay. -/
structure Steady (s t : State) : Prop where
  power : { t.power with dips := s.power.dips } = s.power
  clkc : t.clkc = s.clkc
  device : t.device = s.device
  sec : t.sec = s.sec
  epoch : t.rel.epoch = s.rel.epoch

section
variable {s t u : State}

theorem steady_refl (s : State) : Steady s s := ⟨rfl, rfl, rfl, rfl, rfl⟩

theorem Steady.trans (h : Steady s t) (h' : Steady t u) : Steady s u := by
  refine ⟨?_, h'.clkc.trans h.clkc, h'.device.trans h.device, h'.sec.trans h.sec, h'.epoch.trans h.epoch⟩
  have hdips := congrArg (fun p : Power => { p with dips := s.power.dips }) h'.power
  exact hdips.trans h.power

theorem steady_mk (h : Steady s t) {pending out draws mem cores slotMap spares counters syncFaults tailDiscards signals addends
    contexts queueObjs training fabric coll drinex dict sources dests meter} :
    Steady s (State.mk pending out draws t.clkc t.device mem cores slotMap spares counters syncFaults tailDiscards signals addends contexts
      queueObjs training fabric coll drinex dict sources dests t.rel t.sec meter t.power) :=
  ⟨h.power, h.clkc, h.device, h.sec, h.epoch⟩

/-- What a frame leaves of the fields, given one by one. -/
theorem Steady.of_eq (h : Steady s t) (hpower : u.power = t.power) (hclkc : u.clkc = t.clkc) (hdev : u.device = t.device)
    (hsec : u.sec = t.sec) (hepoch : u.rel.epoch = t.rel.epoch) : Steady s u :=
  h.trans ⟨by rw [hpower], hclkc, hdev, hsec, hepoch⟩

theorem steady_collects (h : Steady s t) (hc : Collects t u) : Steady s u := by
  have hpower := congrArg State.power hc
  have hclkc := congrArg State.clkc hc
  have hdev := congrArg State.device hc
  have hrel := congrArg State.rel hc
  exact h.of_eq hpower hclkc hdev hc.sec (congrArg Reliability.epoch hrel :)

theorem steady_raise (h : Steady s t) (n) : Steady s (raise t n) := by
  have hr := reports_raise (reports_refl t) n
  have hrel := congrArg State.rel (raise_frame t n)
  exact h.of_eq hr.power hr.clkc hr.device hr.sec (congrArg Reliability.epoch hrel :)

theorem ephEvent_epoch (r : Reliability) (k : EphKey) : (ephEvent r k).1.epoch = r.epoch := by
  unfold ephEvent
  dsimp only
  split <;> rfl

theorem Reliability.log_epoch (r : Reliability) (sec : Nat) (entry : Bytes) : (r.log sec entry).epoch = r.epoch :=
  (congrArg Reliability.epoch (r.log_frame sec entry) :)

theorem writeRecord_epoch (s : State) (n : FaultNote) (v w : Nat) : (writeRecord s n v w).rel.epoch = s.rel.epoch := by
  simp only [writeRecord, apply_ite State.rel, emcy_rel, raise_rel, ite_self, Reliability.log_epoch]

theorem fault_epoch (s : State) (n : FaultNote) : (fault s n).rel.epoch = s.rel.epoch := by
  unfold fault
  have hev := ephEvent_epoch s.rel n.ephKey
  split
  · rcases ephEvent s.rel n.ephKey with ⟨r, v, w, sus⟩
    dsimp only at hev ⊢
    split_ifs <;> simp only [raise_rel, Reliability.log_epoch, writeRecord_epoch, hev]
  · exact writeRecord_epoch s n 0 0

theorem steady_fault (h : Steady s t) (n) : Steady s (fault t n) := by
  have hr := reports_fault (reports_refl t) n
  exact h.of_eq hr.power hr.clkc hr.device hr.sec (fault_epoch t n)

theorem steady_sendTxn (h : Steady s t) (c n o) : Steady s (sendTxn t c n o) := by
  unfold sendTxn
  have hd := drainTxns_frame (t.drinex.waiting ++ [(c, 1 + ceilDiv n 16, o)]).length
    { t with drinex := { t.drinex with waiting := t.drinex.waiting ++ [(c, 1 + ceilDiv n 16, o)] } }
  have hpower := congrArg State.power hd
  have hclkc := congrArg State.clkc hd
  have hdev := congrArg State.device hd
  have hsec := congrArg State.sec hd
  have hrel := congrArg State.rel hd
  exact h.of_eq hpower hclkc hdev hsec (congrArg Reliability.epoch hrel :)

theorem steady_ite {c : Prop} [Decidable c] {a b : State} (ha : Steady s a) (hb : Steady s b) : Steady s (if c then a else b) := by
  split
  · exact ha
  · exact hb

theorem steady_foldl {α : Type} {f : State → α → State} (hf : ∀ t a, Steady s t → Steady s (f t a)) (l : List α)
    (h : Steady s t) : Steady s (l.foldl f t) :=
  List.foldlRecOn (motive := fun (t : State) => Steady s t) l f h fun t h a _ => hf t a h

theorem steady_setCtr (h : Steady s t) (p c) : Steady s (t.setCtr p c) := steady_mk h
theorem steady_setCtx (h : Steady s t) (x c) : Steady s (t.setCtx x c) := steady_mk h
theorem steady_setCore (h : Steady s t) (g c) : Steady s (t.setCore g c) := steady_mk h
theorem steady_setBarrier (h : Steady s t) (x k b) : Steady s (t.setBarrier x k b) := steady_mk h
theorem steady_modDesc (h : Steady s t) (x q seq f) : Steady s (t.modDesc x q seq f) := steady_mk h
theorem steady_modQueue (h : Steady s t) (x q f) : Steady s (t.modQueue x q f) := steady_mk h
theorem steady_modEntry (h : Steady s t) (u g seq f) : Steady s (t.modEntry u g seq f) := steady_mk h

theorem steady_blame (h : Steady s t) (a status) : Steady s (t.blame a status) := by
  unfold State.blame
  grind [steady_modDesc]

theorem steady_cancelWaiter (h : Steady s t) (a) : Steady s (t.cancelWaiter a) := by
  unfold State.cancelWaiter
  grind [steady_modDesc, steady_modEntry]

theorem steady_poisonHere (h : Steady s t) (x slot overrun mismatch) : Steady s (poisonHere t x slot overrun mismatch) := by
  unfold poisonHere
  grind [steady_setBarrier, steady_raise, steady_cancelWaiter, steady_blame, steady_foldl]

theorem steady_journalWrite (h : Steady s t) (x q seq off bs) : Steady s (journalWrite t x q seq off bs) := by
  unfold journalWrite
  exact steady_foldl (fun t c h => steady_mk h) _ h

theorem steady_sendEcho (h : Steady s t) (x q k seq data) : Steady s (sendEcho t x q k seq data) := by
  unfold sendEcho
  grind [steady_sendTxn, steady_mk]

theorem steady_leaveWaits (h : Steady s t) (a) : Steady s (leaveWaits t a) := steady_mk h

theorem steady_closeDesc (h : Steady s t) (x q status d) : Steady s (closeDesc t x q status d) := by
  unfold closeDesc
  exact steady_modQueue (steady_modDesc (steady_leaveWaits (steady_collects h (collects_abortCall (collects_refl t) ..)) _) ..) ..

theorem steady_commitWith (h : Steady s t) (x q d status flips checks) : Steady s (commitWith t x q d status flips checks) := by
  unfold commitWith
  grind [steady_journalWrite, steady_modDesc, steady_sendEcho]

theorem steady_closeAll (h : Steady s t) : Steady s (closeAll t) := by
  unfold closeAll
  refine steady_foldl (fun t x h => steady_foldl (fun t k h => steady_foldl (fun t d h => ?_) _ h) _ h) _ h
  split
  · exact h
  · exact steady_commitWith (steady_closeDesc h ..) ..

theorem steady_send (h : Steady s t) (o) : Steady s (t.send o) := by
  unfold State.send
  grind [steady_mk]

theorem steady_sendFrame (h : Steady s t) (f k) : Steady s (sendFrame t f k) :=
  steady_collects h (collects_sendFrame (collects_refl t) ..)

theorem steady_sendAllFrames (h : Steady s t) (links f) : Steady s (sendAllFrames t links f) := by
  unfold sendAllFrames
  grind [steady_sendFrame, steady_foldl]

theorem steady_modInst (h : Steady s t) (comm seq f) : Steady s (t.modInst comm seq f) :=
  steady_collects h (collects_modInst (collects_refl t) ..)

theorem steady_renew (h : Steady s t) (i) : Steady s (Instance.renew t i) := by
  unfold Instance.renew
  grind [steady_modDesc]

theorem steady_Instance_blame (h : Steady s t) (i status) : Steady s (Instance.blame t i status) :=
  steady_collects h (collects_blame (collects_refl t) ..)

theorem steady_freeInst (h : Steady s t) (i status) : Steady s (t.freeInst i status) :=
  steady_collects h (collects_freeInst (collects_refl t) ..)

theorem steady_dropPermute (h : Steady s t) (i status) : Steady s (dropPermute t i status) :=
  steady_collects h (collects_dropPermute (collects_refl t) ..)

theorem steady_memberAbort (h : Steady s t) (i status) : Steady s (memberAbort t i status) :=
  steady_collects h (collects_memberAbort (collects_refl t) ..)

theorem steady_writeNotes (h : Steady s t) (a opcode notes) : Steady s (writeNotes t a opcode notes) := by
  unfold writeNotes
  grind [steady_fault, steady_foldl]

theorem steady_sendUps (h : Steady s t) (i round tree link pays) : Steady s (sendUps t i round tree link pays) :=
  steady_collects h (collects_sendUps (collects_refl t) ..)

theorem steady_combined (h : Steady s t) (n) : Steady s { t with coll := { t.coll with combinedElements := n } } :=
  steady_mk h

theorem steady_poisonInst (h : Steady s t) (i reason) : Steady s (poisonInst t i reason) := by
  unfold poisonInst
  grind [steady_dropPermute, steady_Instance_blame, steady_modInst, steady_raise, steady_mk]

theorem steady_sendDowns (h : Steady s t) (i round tree pays) : Steady s (sendDowns t i round tree pays) :=
  steady_collects h (collects_sendDowns (collects_refl t) ..)

theorem steady_applyRelease (h : Steady s t) (i) : Steady s (applyRelease t i) := by
  unfold applyRelease
  grind [steady_sendDowns, steady_modDesc, steady_setCtx, steady_freeInst]

theorem steady_tryRelease (h : Steady s t) (comm seq) : Steady s (tryRelease t comm seq) := by
  unfold tryRelease
  grind [steady_sendUps, steady_applyRelease]

theorem steady_giveRelease (h : Steady s t) (comm seq) : Steady s (giveRelease t comm seq) := by
  unfold giveRelease
  grind [steady_tryRelease, steady_modInst]

theorem steady_doneInst (h : Steady s t) (i empty) : Steady s (doneInst t i empty) := by
  unfold doneInst
  grind [steady_modDesc, steady_modInst, steady_giveRelease]

theorem steady_writeRuns (h : Steady s t) (base n) : Steady s (writeRuns t base n).1 := by
  induction n generalizing t with
  | nil => exact h
  | cons r n ih =>
    unfold writeRuns
    grind [steady_mk]

theorem steady_writeElems (h : Steady s t) (i c lo es at_) : Steady s (writeElems t i c lo es at_) := by
  have hfail {t : State} (h : Steady s t) (e : MemErr) : Steady s (writeNotes (i.blame t stData) (hostActor c.x c.q c.desc.seq) 1
      [memErrNote t { sev := 3, cls := 2 } e]) := steady_writeNotes (steady_Instance_blame h ..) ..
  have hwritten {p : State × Option MemErr} {base runs} (h : Steady s t) (e : writeRuns t base runs = p) : Steady s p.1 :=
    e ▸ steady_writeRuns h ..
  fun_cases writeElems
  case case1 => exact hfail h _
  case case2 x hw _ _ _ hm => exact steady_mk (hwritten h hw) 
  case case3 x hw _ _ _ _ hm => exact hfail (steady_mk (hwritten h hw) ) _

theorem steady_tryAnchor (h : Steady s t) (comm seq first) : Steady s (tryAnchor t comm seq first) := by
  unfold tryAnchor
  grind [steady_sendFrame, steady_modInst, steady_foldl]

theorem steady_tryAnchors (h : Steady s t) (comm seq) : Steady s (tryAnchors t comm seq) := by
  unfold tryAnchors
  grind [steady_tryAnchor, steady_foldl]

theorem steady_openDone (h : Steady s t) (i data) : Steady s (openDone t i data) := by
  unfold openDone
  grind [steady_modInst, steady_doneInst, steady_writeElems, steady_tryAnchors]

theorem steady_openEnds (h : Steady s t) (comm seq) : Steady s (openEnds t comm seq) := by
  unfold openEnds
  grind [steady_poisonInst, steady_freeInst, steady_openDone]

theorem steady_raiseNumeric (h : Steady s t) (c r) : Steady s (raiseNumeric t c r) := by
  unfold raiseNumeric
  grind [steady_modDesc]

theorem steady_raisedResult (h : Steady s t) (o : Option (Call × List Bytes × Bool × Bool × Bool)) {c : Prop} [Decidable c] :
    Steady s (match o with
      | some r => if c then t else raiseNumeric t r.1 r.2
      | none => t) := by
  split
  · split
    · exact h
    · exact steady_raiseNumeric h ..
  · exact h

theorem steady_tryOpen (h : Steady s t) (comm seq tree) : Steady s (tryOpen t comm seq tree) := by
  fun_cases tryOpen
  case case4 => exact steady_memberAbort (steady_writeNotes h ..) ..
  case case5 => exact steady_sendUps (steady_combined h _) ..
  case case6 =>
    refine steady_openEnds (steady_modInst (steady_sendDowns ?_ ..) ..) ..
    exact steady_raisedResult (steady_combined h _) _
  all_goals exact h

theorem steady_rerunDown (h : Steady s t) (i n) : Steady s (rerunDown t i n) := by
  unfold rerunDown
  grind [steady_sendAllFrames, steady_modInst, steady_renew, steady_tryOpen, steady_mk, steady_foldl]

theorem steady_rerunCall (h : Steady s t) (d) : Steady s (rerunCall t d) := by
  unfold rerunCall
  grind [steady_sendFrame, steady_rerunDown]

theorem steady_rollBack (h : Steady s t) (set p) : Steady s (rollBack t set p) := by
  unfold rollBack
  grind [steady_setCtr]

theorem steady_startCore (h : Steady s t) (g) : Steady s (startCore t g) := by
  unfold startCore
  grind [steady_setCore]

theorem steady_releaseCores (h : Steady s t) (x q seq) : Steady s (releaseCores t x q seq) := by
  unfold releaseCores
  grind [steady_setCore, steady_setCtx, steady_foldl]

theorem steady_withdrawCore (h : Steady s t) (g) : Steady s (withdrawCore t g) := by
  unfold withdrawCore
  grind [steady_setCore]

theorem steady_returnReserve (h : Steady s t) (p a) : Steady s (returnReserve t p a) := by
  unfold returnReserve
  grind [steady_setCtr]

theorem steady_endSnapshot (h : Steady s t) : Steady s (endSnapshot t) := by
  unfold endSnapshot
  grind [steady_raise, steady_mk]

theorem steady_returnReservation (h : Steady s t) (u g e) : Steady s (returnReservation t u g e) := by
  unfold returnReservation
  grind [steady_returnReserve, steady_endSnapshot, steady_modEntry]

theorem steady_emptyWindows (h : Steady s t) (g) : Steady s (emptyWindows t g) := by
  unfold emptyWindows
  grind [steady_leaveWaits, steady_returnReservation, steady_foldl]

theorem steady_releaseWaiters (h : Steady s t) (p) : Steady s (releaseWaiters t p) := by
  unfold releaseWaiters
  grind [steady_setCtr, steady_cancelWaiter, steady_blame, steady_foldl]

theorem steady_freezeCounter (h : Steady s t) (p cause src) : Steady s (freezeCounter t p cause src) := by
  unfold freezeCounter
  grind [steady_setCtr, steady_fault, steady_raise, steady_releaseWaiters, steady_blame, steady_mk]

theorem steady_signalCounter (h : Steady s t) (p a src reserved) : Steady s (signalCounter t p a src reserved) := by
  unfold signalCounter
  grind [steady_blame, steady_setCtr, steady_freezeCounter, steady_mk]

theorem steady_returnCredit (h : Steady s t) (p) : Steady s (returnCredit t p) := by
  unfold returnCredit
  grind [steady_setCtr, steady_signalCounter]

theorem steady_abandonOne (h : Steady s t) (u g e) : Steady s (abandonOne u g t e) := by
  unfold abandonOne
  grind [steady_returnReservation, steady_returnCredit, steady_setCtr]

theorem steady_stopUnit (h : Steady s t) (u g) : Steady s (stopUnit u g t) := by
  unfold stopUnit
  grind [steady_abandonOne, steady_setCore, steady_foldl]

theorem steady_stopCore (h : Steady s t) (g) : Steady s (stopCore t g) := by
  unfold stopCore
  grind [steady_stopUnit]

theorem steady_stopContext (h : Steady s t) (x) : Steady s (stopContext t x) := by
  unfold stopContext
  grind [steady_stopCore, steady_foldl]

theorem steady_replayStart (h : Steady s t) (x) : Steady s (replayStart t x) := by
  fun_cases replayStart
  case case1 => exact steady_setCtx h ..
  case case2 => exact h
  case case3 => exact h
  case case4 =>
    refine steady_foldl (fun t d h => steady_modQueue (steady_modDesc h ..) ..) _ ?_
    refine steady_foldl (fun t d h => steady_rerunCall h ..) _ ?_
    refine steady_foldl (fun t p h => steady_rollBack h ..) _ ?_
    refine steady_foldl (fun t d h => steady_modDesc (steady_leaveWaits h ..) ..) _ ?_
    refine steady_foldl (fun t g h => steady_startCore h ..) _ ?_
    refine steady_foldl (fun t d h => steady_releaseCores h ..) _ ?_
    refine steady_foldl (fun t g h => steady_setCore h ..) _ ?_
    refine steady_foldl (fun t g h => steady_withdrawCore (steady_emptyWindows h ..) ..) _ ?_
    exact steady_stopContext (steady_setCtx h ..) ..

theorem steady_leaveReplay (h : Steady s t) (x q seq) : Steady s (leaveReplay t x q seq) := by
  unfold leaveReplay
  grind [steady_setCtx]

theorem steady_noteCascade (h : Steady s t) (x q d) : Steady s (noteCascade t x q d) := by
  unfold noteCascade
  grind [steady_setCtx]

theorem steady_backToService (h : Steady s t) (x) : Steady s (backToService t x) := by
  unfold backToService
  grind [steady_setCtr, steady_setCtx, steady_foldl]

theorem steady_applyFlips (h : Steady s t) (x d) : Steady s (applyFlips t x d) := by
  unfold applyFlips
  grind [steady_setCtx, steady_foldl]

theorem steady_mem (h : Steady s t) (m) : Steady s { t with mem := m } := steady_mk h

theorem steady_queueFault (h : Steady s t) (x q seq e) : Steady s (queueFault t x q seq e) := by
  unfold queueFault
  grind [steady_fault, steady_modQueue]

theorem steady_completionRecord (h : Steady s t) (x q seq) {a bs m err} (hw : writeMem t t.mem none a bs = (m, err)) :
    Steady s (match (generalizing := false) err with
      | none => { t with mem := m }
      | some e => queueFault t x q seq e) := by
  split
  · exact steady_mem h _
  · exact steady_queueFault h ..

theorem steady_failOwner (h : Steady s t) (a status) : Steady s (failOwner t a status) := by
  unfold failOwner
  grind [steady_modEntry, steady_blame, steady_mk]

theorem steady_transmit (h : Steady s t) (p pkt) : Steady s (transmit t p pkt) := by
  unfold transmit
  grind [steady_send, steady_mk]

theorem steady_drainPort (h : Steady s t) (n k) : Steady s (drainPort n t k) := by
  induction n generalizing t with
  | zero => exact h
  | succ n ih =>
    unfold drainPort
    grind [steady_transmit, steady_mk]

theorem steady_portSend (h : Steady s t) (p pkt) : Steady s (portSend t p pkt) := by
  unfold portSend
  grind [steady_drainPort, steady_mk]

theorem steady_setStream (h : Steady s t) (dst n) : Steady s (t.setStream dst n) := by
  unfold State.setStream
  grind [steady_mk]

theorem steady_emitPacket (h : Steady s t) (dst typ tag address payload tail again avoid trunc) :
    Steady s (emitPacket t dst typ tag address payload tail again avoid trunc).1 := by
  unfold emitPacket
  grind [steady_portSend, steady_setStream, steady_send]

theorem steady_emit (h : Steady s t) (dst typ tag address payload tail trunc) : Steady s (emit t dst typ tag address payload tail trunc).1 := by
  unfold emit
  grind [steady_emitPacket]

theorem steady_beginStream (h : Steady s t) (dst owner) : Steady s (beginStream t dst owner) := by
  unfold beginStream
  grind [steady_emit, steady_setStream]

theorem steady_sendNow (h : Steady s t) (dst p) : Steady s (sendNow t dst p) := by
  unfold sendNow
  grind [steady_emit, steady_setStream]

theorem steady_drainWaiting (h : Steady s t) (n k) : Steady s (drainWaiting n t k) := by
  induction n generalizing t with
  | zero => exact h
  | succ n ih =>
    unfold drainWaiting
    grind [steady_sendNow, steady_setStream]

theorem steady_sendPacket (h : Steady s t) (dst typ address payload tail owner dest trunc) :
    Steady s (sendPacket t dst typ address payload tail owner dest trunc) := by
  unfold sendPacket
  grind [steady_failOwner, steady_beginStream, steady_drainWaiting, steady_setStream]

theorem steady_sendSignal (h : Steady s t) (entry cancel amount owner) : Steady s (sendSignal t entry cancel amount owner) := by
  unfold sendSignal
  grind [steady_sendPacket, steady_foldl]

theorem steady_barrierAbort (h : Steady s t) (comm gen status) : Steady s (barrierAbort t comm gen status) := by
  unfold barrierAbort
  grind [steady_sendAllFrames]

theorem steady_poisonBarrier (h : Steady s t) (x slot overrun) : Steady s (poisonBarrier t x slot overrun) := by
  unfold poisonBarrier
  grind [steady_barrierAbort, steady_poisonHere]

theorem steady_hostSignal (h : Steady s t) (x q d good) : Steady s (hostSignal t x q d good) := by
  unfold hostSignal
  grind [steady_sendSignal, steady_poisonBarrier, steady_mk]

theorem steady_completeStep (h : Steady s t) (x q) : Steady s (completeStep t x q) := by
  have hclosed {r : State} {d : HostDesc} (h : Steady s r) (good) : Steady s (leaveReplay (if good = true then r else noteCascade r x q d) x q d.seq) :=
    steady_leaveReplay (steady_ite h (steady_noteCascade h ..)) ..
  fun_cases completeStep
  case case1 => exact h
  case case2 => exact h
  case' case3 s7 _ _ _ hw s6 s5 s4 s3 s2 s1 s0 _ => refine steady_backToService (t := s0) ?_ x
  case' case4 s7 _ _ _ hw s6 s5 s4 s3 s2 s1 s0 _ => skip
  all_goals
    have h7 : Steady s s7 := steady_ite (steady_applyFlips h ..) h
    have h6 : Steady s s6 := steady_completionRecord h7 _ _ _ hw
    have h4 : Steady s s4 := steady_modQueue (steady_releaseCores h6 ..) ..
    have h3 : Steady s s3 := steady_ite (steady_raise h4 _) h4
    exact hclosed (steady_hostSignal h3 ..) _

theorem steady_writeRest (h : Steady s t) : Steady s (writeRest t) := by
  unfold writeRest
  exact steady_foldl (fun t x h => steady_foldl (fun t k h => steady_foldl (fun t _ h => steady_completeStep h ..) _ h) _ h) _ h

theorem steady_blankCore (h : Steady s t) (g) : Steady s (blankCore t g) := steady_setCore (steady_emptyWindows h ..) ..

theorem steady_resetDieSync (h : Steady s t) (d x) : Steady s (resetDieSync t d x) := by
  unfold resetDieSync
  grind [steady_setCtr, steady_setCtx, steady_foldl]

end

/-! #### What a reset keeps and clears (R445, R449) -/

section
variable {s t : State}

theorem smGet_filter_key {α : Type} [DecidableEq α] {d : α} {m : SMap α} {lo : Nat} (h :
    smWfFrom d lo m = true) (p : Nat → Bool) (x : Nat) :
    smGet d (m.filter (fun c => p c.1)) x = if p x = true then smGet d m x else d := by
  induction m generalizing lo with
  | nil => simp [smGet]
  | cons c m ih =>
    obtain ⟨k, v⟩ := c
    simp only [smWfFrom, Bool.and_eq_true, decide_eq_true_eq] at h
    obtain ⟨⟨-, -⟩, hm⟩ := h
    have hfilter := ih hm
    by_cases hk : p k = true
    · rw [List.filter_cons_of_pos (by exact hk)]
      simp only [smGet]
      split
      · next hkx => rw [if_pos (hkx ▸ hk)]
      · split
        · simp
        · exact hfilter
    · rw [List.filter_cons_of_neg (by exact hk), hfilter]
      by_cases hkx : k = x
      · rw [if_neg (hkx ▸ hk), if_neg (hkx ▸ hk)]
      · simp only [smGet]
        rw [if_neg hkx]
        rcases Nat.lt_or_ge x k with hlt | hge
        · rw [if_pos hlt, smGet_of_wfFrom hm (show x < k + 1 by omega), ite_self]
        · rw [if_neg (Nat.not_lt.2 hge)]

theorem Memory.byte_zeroSealed {m : Memory} (h : m.wf = true) (a : Nat) :
    m.zeroSealed.byte a = m.byte a ∨ a < 0x28000000000 ∧ m.zeroSealed.byte a = 0 := by
  have hget := smGet_filter_key h (fun p => decide (0x28000000000 ≤ p) || decide (p % 2 ^ 37 < 80 * 2 ^ 30 - m.sealedBytes / 12)) a
  by_cases hkeep : (decide (0x28000000000 ≤ a) || decide (a % 2 ^ 37 < 80 * 2 ^ 30 - m.sealedBytes / 12)) = true
  · exact .inl (hget.trans (if_pos hkeep))
  · refine .inr ⟨?_, hget.trans (if_neg hkeep)⟩
    simp only [Bool.or_eq_true, decide_eq_true_eq, not_or] at hkeep
    omega

/-- The local memories are lost, sealed ranges are zeroed, and the rest of HBM and DDR stays (R449). -/
theorem Memory.byte_warm {m : Memory} (h : m.wf = true) (a : Nat) :
    (a < 0x80000000000 → (m.afterReset .warm).byte a = 0 ∨ (m.afterReset .warm).byte a = m.byte a) ∧
    (0x80000000000 ≤ a → a < 0x100000000000 → (m.afterReset .warm).byte a = m.byte a) ∧
    (0x100000000000 ≤ a → (m.afterReset .warm).byte a = 0) := by
  have hz := m.wf_zeroSealed h
  have hset : ({ m.zeroSealed with sealedInForce := m.zeroSealed.sealedSlots } : Memory).wf = true := hz
  have hfirst := m.byte_zeroSealed h a
  have hsecond := Memory.byte_zeroSealed hset a
  have hlast : (m.afterReset .warm).byte a = if decide (a < 0x100000000000) = true then
      ({ m.zeroSealed with sealedInForce := m.zeroSealed.sealedSlots } : Memory).zeroSealed.byte a else 0#8 :=
    smGet_filter_key (Memory.wf_zeroSealed hset) (fun p => decide (p < 0x100000000000)) a
  have hsame : ({ m.zeroSealed with sealedInForce := m.zeroSealed.sealedSlots } : Memory).byte a = m.zeroSealed.byte a := rfl
  rw [hsame] at hsecond
  simp only [decide_eq_true_eq] at hlast
  refine ⟨fun ha => ?_, fun ha hlt => ?_, fun ha => ?_⟩
  · rw [if_pos (by omega)] at hlast
    rcases hsecond with hs | ⟨-, hs⟩
    · rcases hfirst with hf | ⟨-, hf⟩
      · exact .inr (hlast.trans (hs.trans hf))
      · exact .inl (hlast.trans (hs.trans hf))
    · exact .inl (hlast.trans hs)
  · rw [if_pos hlt] at hlast
    rcases hsecond with hs | ⟨hbad, -⟩
    · rcases hfirst with hf | ⟨hbad, -⟩
      · exact hlast.trans (hs.trans hf)
      · omega
    · omega
  · rw [if_neg (by omega)] at hlast
    exact hlast

/-- No interrupt is pending after a reset. -/
theorem sourcesAfter_pending (m : SMap IrqSource) (scope : Scope) (n : Nat) : (smGet {} (sourcesAfter m scope) n).pending = false := by
  refine smGet_forall (P := fun (k : IrqSource) => k.pending = false) rfl ?_ n
  intro p hp
  cases scope
  case warm =>
    obtain ⟨q, -, rfl⟩ := List.mem_map.1 (List.mem_of_mem_filter hp)
    rfl
  all_goals cases hp

/-- What every reset leaves alike. -/
def Restarted (s t : State) (cause : BitVec 8) : Prop :=
  t.device = .bootLimited ∧ t.clkc = 0 ∧ t.power.bootStep = 1 ∧ t.power.resetCause = cause ∧
    t.rel.epoch = s.rel.epoch + 1 ∧ t.rel.bundle = none ∧ t.rel.histories = s.rel.histories ∧ t.cores = [] ∧ t.dict.accessLevel = 0 ∧
    t.sec.staging = [] ∧ t.sec.nonce = none ∧ t.sec.lifecycle = s.sec.lifecycle ∧ t.sec.seed = s.sec.seed ∧ t.meter.die = s.meter.die ∧
    t.fabric.moduleId = none ∧ (∀ n, (smGet {} t.sources n).pending = false)

theorem restart_restarted (s : State) (scope : Scope) (cause : BitVec 8) : Restarted s (restart s scope cause) cause := by
  have hpending := sourcesAfter_pending s.sources scope
  cases scope <;> exact ⟨rfl, rfl, rfl, rfl, rfl, rfl, rfl, rfl, rfl, rfl, rfl, rfl, rfl, rfl, rfl, hpending⟩

/-- What a power-on or a pin reset loses. -/
theorem restart_lost (s : State) {scope : Scope} (hscope : scope ≠ .warm) (cause : BitVec 8) : let t := restart s scope cause
    t.mem.cells = [] ∧ t.contexts = [] ∧ t.counters = [] ∧ t.sources = [] ∧ t.sec.override = 0 ∧ t.rel.recordCount = 0 := by
  cases scope
  case warm => exact absurd rfl hscope
  all_goals exact ⟨rfl, rfl, rfl, rfl, rfl, rfl⟩

theorem warmRestart_eq (hreg : s.power.regulators = true) (hst : s.starting = false) (cause : BitVec 8) :
    warmRestart s cause = restart s .warm cause := by
  rw [warmRestart, hreg, hst]
  rfl

/-! #### Pins and supplies (R445, R446, R463) -/

theorem powerStart_eq (hreg : s.power.regulators = false) (hen : s.power.powerEnable = true) (hin : s.power.inputLost = false)
    (hlatch : s.power.thermalLatch = false) : powerStart s = restart s .powerOn s.power.offCause := by
  rw [powerStart, hreg, hen, hin, hlatch]
  rfl

theorem powerOn_keeps {w : ResetWhy} (hw : w ≠ .inputReset) (h : s.power.regulators = true ∨ s.power.inputLost = true) : powerOn s w = s := by
  rw [powerOn, if_neg hw, powerStart, if_pos]
  rcases h with h | h <;> rw [h] <;> simp

theorem inputReset_starts (hreg : s.power.regulators = false) (hen : s.power.powerEnable = true) (hlatch : s.power.thermalLatch = false) :
    Goes (exec (.powerOnReset .inputReset) s) (fun t => (Restarted s t s.power.offCause ∧ (t.mem.cells = [] ∧ t.contexts = [] ∧
      t.counters = [] ∧ t.sources = [] ∧ t.sec.override = 0 ∧ t.rel.recordCount = 0) ∧ t.power.regulators = true ∧ t.power.inputLost = false)) := by
  refine ⟨_, congrArg Host.Outcome.next (powerStart_eq (s := { s with power := { s.power with inputLost := false } }) hreg hen rfl hlatch), ?_⟩
  exact ⟨restart_restarted { s with power := { s.power with inputLost := false } } .powerOn s.power.offCause, restart_lost _ (by decide) _, rfl, rfl⟩

theorem resetPin_restarts (hen : s.power.powerEnable = true) (hreg : s.power.regulators = true) (hst : s.startingPower = false) :
    Goes (exec .moduleResetPin s) (fun t => Restarted s t 2 ∧ (t.mem.cells = [] ∧ t.contexts = [] ∧
      t.counters = [] ∧ t.sources = [] ∧ t.sec.override = 0 ∧ t.rel.recordCount = 0) ∧ t.power.pinHeld = true ∧ t.power.resetN = false) := by
  have hpin : resetPinLow s = restart { s with power := { s.power with resetN := false } } .pin 2 := by
    have hst' : ({ s with power := { s.power with resetN := false } } : State).startingPower = false := hst
    refine (if_pos ?_).trans (if_neg ?_)
    · rw [show ({ s.power with resetN := false } : Power).powerEnable = true from hen,
        show ({ s.power with resetN := false } : Power).regulators = true from hreg]
      rfl
    · rw [show ({ s.power with resetN := false } : Power).regulators = true from hreg, hst']
      decide
  refine ⟨_, congrArg Host.Outcome.next hpin, ?_⟩
  exact ⟨restart_restarted { s with power := { s.power with resetN := false } } .pin 2, restart_lost _ (by decide) _, rfl, rfl⟩

theorem resetPin_held (hen : s.power.powerEnable = false) :
    exec .moduleResetPin s = .next { s with power := { s.power with resetN := false } } := by
  refine congrArg Host.Outcome.next ?_
  simp only [resetPinLow, hen]
  rfl

theorem enableHigh_starts (hreg : s.power.regulators = false) (hin : s.power.inputLost = false) (hlatch : s.power.thermalLatch = false) :
    Goes (exec .powerEnableHigh s) (fun t => Restarted s t s.power.offCause ∧ t.mem.cells = [] ∧ t.contexts = [] ∧
      t.counters = [] ∧ t.sources = [] ∧ t.sec.override = 0 ∧ t.rel.recordCount = 0) := by
  refine ⟨_, congrArg Host.Outcome.next (powerStart_eq (s := { s with power := { s.power with powerEnable := true } }) hreg rfl hin hlatch), ?_⟩
  exact ⟨restart_restarted { s with power := { s.power with powerEnable := true } } .powerOn s.power.offCause, restart_lost _ (by decide) _⟩

theorem enableHigh_on (hreg : s.power.regulators = true) :
    exec .powerEnableHigh s = .next { s with power := { s.power with powerEnable := true } } := by
  refine congrArg Host.Outcome.next (if_pos ?_)
  rw [show ({ s.power with powerEnable := true } : Power).regulators = true from hreg]
  rfl

theorem enableLow_off (hreg : s.power.regulators = true) : Goes (exec .powerEnableLow s) (fun t =>
    t.power.regulators = false ∧ t.power.powerEnable = false ∧ t.power.thermalLatch = false ∧ t.mem.cells = [] ∧ t.contexts = [] ∧
      t.meter.die = s.meter.die ∧ t.rel.histories = s.rel.histories) := by
  refine ⟨_, congrArg Host.Outcome.next (if_pos ?_), rfl, rfl, rfl, rfl, rfl, rfl, rfl⟩
  exact hreg

/-! #### Warm resets (R447, R450) -/

theorem warmReset_firmware (hreg : s.power.regulators = true) (hst : s.starting = false) (hdrain : s.power.draining = none) :
    warmReset s .warmFirmware = restart s .warm 5 := by
  rw [warmReset, hdrain]
  exact warmRestart_eq hreg hst 5

theorem warmReset_drains (hreg : s.power.regulators = true) (hst : s.starting = false) {w : ResetWhy} (hdrain : s.power.draining = some w) :
    Goes (exec (.warmReset w) s) (fun t => t.device = .bootLimited ∧ t.power.resetCause = warmCause w ∧ t.power.draining = none ∧
      t.rel.epoch = s.rel.epoch + 1 ∧ t.cores = []) := by
  have h := steady_writeRest (steady_closeAll (steady_refl s))
  have hfix : warmReset s w = warmRestart (writeRest (closeAll s)) (warmCause w) := by unfold warmReset; rw [hdrain]
  obtain ⟨hpower, -, hdev, -, hepoch⟩ := h
  refine ⟨_, congrArg Host.Outcome.next hfix, ?_⟩
  generalize writeRest (closeAll s) = t at hpower hdev hepoch
  have hreg' : t.power.regulators = true := (congrArg Power.regulators hpower :).trans hreg
  have hfail : t.power.bootFailed = s.power.bootFailed := (congrArg Power.bootFailed hpower :)
  have hst' : t.starting = false := by rw [State.starting, hreg', hdev, hfail, ← hreg]; exact hst
  rw [warmRestart_eq hreg' hst']
  exact ⟨rfl, rfl, rfl, hepoch ▸ rfl, rfl⟩

theorem warmReset_idle (h : s.power.regulators = false ∨ s.starting = true) (hdrain : s.power.draining = none) (w : ResetWhy) :
    exec (.warmReset w) s = .next s := by
  refine congrArg Host.Outcome.next ?_
  unfold warmReset
  rw [hdrain]
  have hno (c : BitVec 8) : warmRestart s c = s := if_pos (by rcases h with h | h <;> rw [h] <;> simp)
  have hno' : (s.power.regulators && !s.starting) = false := by rcases h with h | h <;> rw [h] <;> simp
  cases w <;> simp only [hno, hno'] <;> rfl

theorem drainEnd_idle (hdrain : s.power.draining = none) : exec .warmResetDrainEnd s = .next s :=
  congrArg Host.Outcome.next (by rw [drainEnd, hdrain]; rfl)

end

/-! #### A descriptor that stays listed while its call ends -/

/-- The queue lists the descriptor. -/
structure Lists (x q : Nat) (n : BitVec 64) (t : State) : Prop where
  contexts : smWf {} t.contexts = true
  queues : smWf {} (t.ctx x).queues = true
  desc : (t.desc? x q n).isSome = true

/-- The queue holds the number. -/
def Queue.holds (k : Queue) (n : BitVec 64) : Bool := (k.descs.find? (fun d => decide (d.seq = n))).isSome

section
variable {s t u : State} {x q : Nat} {n : BitVec 64}

theorem desc?_of_contexts (h : u.contexts = t.contexts) : u.desc? x q n = t.desc? x q n := by
  have hctx : u.ctx x = t.ctx x := congrArg (fun (m : SMap Context) => smGet ({} : Context) m x) h
  rw [State.desc?, State.desc?, hctx]

theorem lists_same (h : Lists x q n t) (hc : u.contexts = t.contexts) : Lists x q n u := by
  have hctx : u.ctx x = t.ctx x := congrArg (fun (m : SMap Context) => smGet ({} : Context) m x) hc
  refine ⟨hc ▸ h.contexts, hctx ▸ h.queues, ?_⟩
  rw [State.desc?, hctx]
  exact h.desc

theorem lists_setCtx (h : Lists x q n t) (y : Nat) {c : Context}
    (hc : y = x → smWf {} c.queues = true ∧ (smGet {} c.queues q).holds n = true) : Lists x q n (t.setCtx y c) := by
  have hctx := State.ctx_setCtx_wf h.contexts y x c
  refine ⟨smWf_smSet h.contexts .., ?_, ?_⟩
  · rw [hctx]
    split
    · next hx => exact (hc hx.symm).1
    · exact h.queues
  · rw [State.desc?, hctx]
    split
    · next hx => exact (hc hx.symm).2
    · exact h.desc

/-- What a context says beside its queues may change. -/
theorem lists_setCtx_queues (h : Lists x q n t) (y : Nat) {c : Context} (hc : c.queues = (t.ctx y).queues) : Lists x q n (t.setCtx y c) :=
  lists_setCtx h y fun hy => by
    rw [hc, hy]
    exact ⟨h.queues, h.desc⟩

theorem lists_modQueue (h : Lists x q n t) (y r : Nat) {f : Queue → Queue} (hf : ∀ k : Queue, k.holds n = true → (f k).holds n = true) :
    Lists x q n (t.modQueue y r f) :=
  lists_setCtx h y fun hy => by
    subst hy
    have hq := smGet_smSet h.queues r q (f (smGet {} (t.ctx y).queues r))
    refine ⟨smWf_smSet h.queues .., ?_⟩
    show (smGet {} (smSet {} (t.ctx y).queues r _) q).holds n = true
    rw [hq]
    split
    · next hr => exact hf _ (hr ▸ h.desc)
    · exact h.desc

theorem lists_settle (h : Lists x q n t) (y r : Nat) : Lists x q n (t.modQueue y r Queue.settle) := lists_modQueue h y r fun _ hk => hk

theorem find?_seq_mapWhere {l : List HostDesc} {p : HostDesc → Bool} {f : HostDesc → HostDesc} (hf : ∀ d, (f d).seq = d.seq) :
    ((mapWhere p f l).find? (fun d => decide (d.seq = n))).isSome = (l.find? (fun d => decide (d.seq = n))).isSome := by
  induction l with
  | nil => rfl
  | cons d l ih =>
    have hseq : (if p d = true then f d else d).seq = d.seq := by split <;> simp [hf]
    rw [mapWhere, List.map_cons, List.find?_cons, List.find?_cons, hseq]
    split
    · rfl
    · exact ih

theorem lists_modDesc (h : Lists x q n t) (y r : Nat) (m : BitVec 64) {f : HostDesc → HostDesc} (hf : ∀ d, (f d).seq = d.seq) :
    Lists x q n (t.modDesc y r m f) :=
  lists_modQueue h y r fun _ hk => (find?_seq_mapWhere hf).trans hk

theorem lists_sendFrame (h : Lists x q n t) (f k) : Lists x q n (sendFrame t f k) := lists_same h (by unfold sendFrame; split <;> rfl)

theorem lists_modInst (h : Lists x q n t) (comm seq f) : Lists x q n (t.modInst comm seq f) :=
  lists_same h (by unfold State.modInst; split <;> rfl)
theorem lists_freeInst (h : Lists x q n t) (i status) : Lists x q n (t.freeInst i status) :=
  lists_same h (by unfold State.freeInst; split <;> rfl)

theorem lists_foldl {α : Type} {f : State → α → State} (hf : ∀ t a, Lists x q n t → Lists x q n (f t a)) (l : List α)
    (h : Lists x q n t) : Lists x q n (l.foldl f t) :=
  List.foldlRecOn (motive := Lists x q n) l f h fun t h a _ => hf t a h

theorem lists_blame (h : Lists x q n t) (i : Instance) (status) : Lists x q n (i.blame t status) := by
  unfold Instance.blame
  split
  · split
    · exact lists_modDesc h _ _ _ (by intro d; split <;> rfl)
    · exact h
  · exact h

theorem lists_clearBarrier (h : Lists x q n t) (y k) :
    Lists x q n (if (t.barrier y k).poisoned then t.setBarrier y k (t.barrier y k).clear else t) := by
  split
  · exact lists_setCtx_queues h _ rfl
  · exact h

theorem lists_failFlip (h : Lists x q n t) (y status) : Lists x q n (failFlip t y status) := by
  unfold failFlip
  dsimp only
  split
  · exact h
  · have hc := lists_setCtx_queues h y (c := { t.ctx y with permute := none, flipTensors := [], flipping := false, flipStage := 0 }) rfl
    generalize t.setCtx y { t.ctx y with permute := none, flipTensors := [], flipping := false, flipStage := 0 } = u at hc
    have hb := lists_clearBarrier hc y flipSlot
    generalize (if (u.barrier y flipSlot).poisoned then u.setBarrier y flipSlot (u.barrier y flipSlot).clear else u) = v at hb
    split
    · exact hb
    · exact lists_settle (lists_modDesc hb _ _ _ (f := fun d => d.closeWith status) fun _ => rfl) _ _

theorem lists_dropPermute (h : Lists x q n t) (i status) : Lists x q n (dropPermute t i status) := by
  unfold dropPermute
  grind [lists_failFlip]

theorem lists_abortDown (h : Lists x q n t) (i status) : Lists x q n (abortDown t i status) := by
  unfold abortDown
  grind [lists_modInst, lists_foldl, lists_sendFrame, lists_blame, lists_dropPermute, lists_freeInst]

theorem lists_abortUp (h : Lists x q n t) (i status) : Lists x q n (abortUp t i status) := by
  unfold abortUp
  grind [lists_sendFrame, lists_abortDown]

theorem lists_memberAbort (h : Lists x q n t) (i status) : Lists x q n (memberAbort t i status) := by
  unfold memberAbort
  grind [lists_blame, lists_modInst, lists_abortUp]

theorem lists_endCall (h : Lists x q n t) (c seq status) : Lists x q n (endCall t c seq status) := by
  unfold endCall
  split
  · exact lists_memberAbort h ..
  · exact lists_foldl (fun t f h => lists_sendFrame h ..) _ (lists_same h rfl)

theorem lists_advanceCall (h : Lists x q n t) (y comm) : Lists x q n (advanceCall t y comm) := by
  unfold advanceCall
  dsimp only
  split
  · exact h
  · exact lists_setCtx_queues h _ rfl

theorem lists_abortCall (h : Lists x q n t) (y d status) : Lists x q n (abortCall t y d status) := by
  unfold abortCall
  grind [lists_endCall, lists_advanceCall]

theorem lists_closeDesc (h : Lists x q n t) (y r status d) : Lists x q n (closeDesc t y r status d) := by
  unfold closeDesc
  have hl : Lists x q n (leaveWaits (abortCall t y d) (hostActor y r d.seq)) := lists_same (lists_abortCall h y d stCancelled) rfl
  exact lists_settle (lists_modDesc hl y r d.seq (f := fun d => d.closeWith status) fun _ => rfl) y r

theorem journalWrite_contexts (t : State) (x q : Nat) (m : BitVec 64) (off : Nat) (bs : Bytes) :
    (journalWrite t x q m off bs).contexts = t.contexts := by
  unfold journalWrite
  exact List.foldlRecOn (motive := fun (u : State) => u.contexts = t.contexts) _ _ rfl fun u hu c _ => hu

theorem sendEcho_contexts (t : State) (x q : Nat) (c : Bool) (m : BitVec 64) (b : Bytes) : (sendEcho t x q c m b).contexts = t.contexts :=
  (congrArg State.contexts (sendEcho_sent t x q c m b).2 :)

/-- The one descriptor, completed (R447). -/
theorem commitWith_commits (h : Lists x q n t) {d : HostDesc} (hd : d.seq = n) (status flips checks) :
    ∃ d', (commitWith t x q d status flips checks).desc? x q n = some d' ∧ d'.phase = .committed ∧ d'.status = BitVec.ofNat 16 status ∧
      d'.flags = BitVec.ofNat 16 (recordFlags d) ∧ d'.flips = BitVec.ofNat 8 flips := by
  subst hd
  unfold commitWith
  dsimp only
  have hj := journalWrite_contexts t x q d.seq 192 (commitBlock t 2 (if checks.isEmpty then 0 else d.attempts) status (recordFlags d) d.seq flips checks)
  generalize commitBlock t 2 (if checks.isEmpty then 0 else d.attempts) status (recordFlags d) d.seq flips checks = b at hj
  have hl := lists_same h hj
  generalize journalWrite t x q d.seq 192 b = u at hl
  obtain ⟨e, he⟩ := Option.isSome_iff_exists.1 hl.desc
  have hm := desc?_modDesc he (f := fun k => { k with phase := .committed, status := BitVec.ofNat 16 status
                                                      flags := BitVec.ofNat 16 (recordFlags d), flips := BitVec.ofNat 8 flips, echoed := false }) fun _ => rfl
  exact ⟨_, (desc?_of_contexts (sendEcho_contexts ..)).trans hm, rfl, rfl, rfl, rfl⟩

end

section
variable {s t : State}

theorem drainEnd_commits {w : ResetWhy} {x q : Nat} {d : HostDesc} (hdrain : s.power.draining = some w)
    (hone : s.contexts = [(x, { s.ctx x with queues := [(q, { s.queue x q with descs := [d] })] })]) (hdec : d.decided = false) :
    Goes (exec .warmResetDrainEnd s) (fun t => ∃ d', t.desc? x q d.seq = some d' ∧ d'.phase = .committed ∧
      d'.status = BitVec.ofNat 16 stCancelled ∧ d'.flags = 0 ∧ d'.flips = 0) := by
  have hclose : drainEnd s = commitWith (closeDesc s x q stCancelled d) x q { d.closeWith stCancelled with attempts := 0 } stCancelled 0 [] := by
    unfold drainEnd closeAll
    rw [hdrain, hone]
    simp [hdec]
  have hctx : s.ctx x = { s.ctx x with queues := [(q, { s.queue x q with descs := [d] })] } := by
    have hget := congrArg (fun (m : SMap Context) => smGet ({} : Context) m x) hone
    exact hget.trans (by simp [smGet])
  have hqueues : (s.ctx x).queues = [(q, { s.queue x q with descs := [d] })] := congrArg Context.queues hctx
  have hl : Lists x q d.seq s := by
    refine ⟨?_, ?_, ?_⟩
    · rw [hone]
      simp [smWf, smWfFrom]
    · rw [hqueues]
      simp [smWf, smWfFrom]
    · rw [State.desc?, hqueues]
      simp [smGet]
  exact ⟨_, congrArg Host.Outcome.next hclose, commitWith_commits (lists_closeDesc hl ..) (d := { d.closeWith stCancelled with attempts := 0 }) rfl ..⟩

/-! #### Die resets (R453) -/

/-- The contexts, counters, cores, signals and dips may change. -/
def Downs (s t : State) : Prop :=
  { t with contexts := s.contexts, counters := s.counters, cores := s.cores, signals := s.signals
           power := { t.power with dips := s.power.dips } } = s

theorem downs_refl (s : State) : Downs s s := rfl

theorem downs_foldl {α : Type} {f : State → α → State} (hf : ∀ t a, Downs s t → Downs s (f t a)) (l : List α)
    (h : Downs s t) : Downs s (l.foldl f t) :=
  List.foldlRecOn (motive := fun (t : State) => Downs s t) l f h fun t h a _ => hf t a h

theorem downs_modDesc (h : Downs s t) (x q seq f) : Downs s (t.modDesc x q seq f) := h
theorem downs_modEntry (h : Downs s t) (u g seq f) : Downs s (t.modEntry u g seq f) := h
theorem downs_setDip (h : Downs s t) (d k) : Downs s (t.setDip d k) := h
theorem downs_returnHeld (h : Downs s t) (m) : Downs s (returnHeld t m) := by
  unfold returnHeld
  split <;> exact h

theorem downs_blame (h : Downs s t) (a status) : Downs s (t.blame a status) := by
  unfold State.blame
  grind [downs_modDesc, downs_modEntry]

theorem downs_abandonRecompute (h : Downs s t) (d) : Downs s (abandonRecompute t d) := by
  unfold abandonRecompute
  have hf := downs_foldl (fun t (m : HeldSignal) h => downs_returnHeld h m.msg) (t.dip d).heldSignals
    (downs_foldl (fun t r h => downs_blame h (unitActor r.2.1 (Fin.ofNat 192 r.1) r.2.2.1) (BitVec.ofNat 16 stData)) (t.dip d).recompute h)
  exact hf

theorem downs_blameLost (h : Downs s t) (need status) : Downs s (blameLost t need status) := by
  unfold blameLost outcome
  refine downs_foldl (fun t x h => downs_foldl (fun t d h => ?_) _ h) _ h
  split
  · exact h
  · exact h

theorem downs_failInFlight (h : Downs s t) (g u) : Downs s (failInFlight t g u) := by
  unfold failInFlight
  refine downs_foldl (fun t e h => ?_) _ h
  exact h

theorem downs_recoverHolders (h : Downs s t) (d) : Downs s (recoverHolders t d) := by
  unfold recoverHolders
  refine downs_foldl (fun t x h => ?_) _ h
  split
  · exact h
  · exact h

/-- A die reset begins: its mark is set and counted, staging is cleared, and of what else it does, memory and security stay (R453). -/
theorem dieResetBegin_begins {d : Nat} (hreg : s.power.regulators = true) (hst : s.starting = false)
    (hdrain : s.power.draining = none) : (dieResetBegin s d).dieResetting d = true ∧
      (dieResetBegin s d).power.dieResets = (if s.dieResetting d then s.power.dieResets else satAdd s.power.dieResets 1) ∧
      (dieResetBegin s d).sec = { s.sec with staging := [], nonce := none } ∧ (dieResetBegin s d).mem = s.mem := by
  have hgo : ¬(!s.power.regulators || s.starting || s.power.draining.isSome) = true := by rw [hreg, hst, hdrain]; decide
  unfold dieResetBegin
  rw [if_neg hgo]
  dsimp only
  generalize hv : ({ setDieResetting (clearStaging s) d true with
    power := { (setDieResetting s d true).power with
      dieResets := if s.dieResetting d then s.power.dieResets else satAdd s.power.dieResets 1 } } : State) = v
  have hfrom : Downs v ((abandonRecompute v d).setDip d {}) := downs_setDip (downs_abandonRecompute (downs_refl v) d) ..
  have hlost := downs_blameLost hfrom (fun x q k => (((abandonRecompute v d).setDip d {}).coresFor x q k.seq).any (fun g => g / 96 == d)) stData
  have hfail := downs_foldl (fun t g h => downs_foldl (fun t u h => downs_failInFlight h (Fin.ofNat 192 g) u) [UnitKind.engine, .vector, .dma] h)
    ((List.range 96).map (d * 96 + ·)) hlost
  have hall := downs_recoverHolders hfail d
  generalize recoverHolders _ d = w at hall ⊢
  have hpower := congrArg State.power hall
  have hsec := congrArg State.sec hall
  have hmem := congrArg State.mem hall
  have hmark : w.dieResetting d = v.dieResetting d := by
    unfold State.dieResetting
    rw [show w.power.dieResetting0 = v.power.dieResetting0 from (congrArg Power.dieResetting0 hpower :),
      show w.power.dieResetting1 = v.power.dieResetting1 from (congrArg Power.dieResetting1 hpower :)]
  refine ⟨hmark.trans ?_, (congrArg Power.dieResets hpower :).trans (hv ▸ rfl), hsec.trans ?_, hmem.trans ?_⟩
  · subst hv
    by_cases h0 : d = 0
    · simp [State.dieResetting, setDieResetting, h0]
    · simp [State.dieResetting, setDieResetting, h0]
  · subst hv
    rfl
  · subst hv
    rfl

/-! ##### The cores of the die -/

/-- Of the cores, the core alone may change; the contexts stay, and no snapshot runs. -/
structure Vacates (g : Nat) (s t : State) : Prop where
  keeps : Keeps s t
  contexts : t.contexts = s.contexts
  idle : t.queueObjs.snapBusy = false
  others : ∀ h, h ≠ g → t.core h = s.core h

theorem vacates_leaveWaits {g : Nat} (h : Vacates g s t) (a) : Vacates g s (leaveWaits t a) :=
  ⟨keeps_leaveWaits h.keeps a, h.contexts, h.idle, h.others⟩

theorem vacates_returnReservation (hs : s.wf = true) {g : Nat} (h : Vacates g s t) (u e) : Vacates g s (returnReservation t u g e) := by
  by_cases hr : e.reserved = true
  · have hidle := h.idle
    have hend : endSnapshot t = t := if_neg (by rw [hidle]; decide)
    have hkeeps := keeps_returnReservation h.keeps u g e
    have heq : returnReservation t u g e = (returnReserve t (trTarget (t.transEntry (t.ownerOf g) (dSigVid e.desc))) (dSigAmt e.desc)).modEntry
        u g e.seq (fun e => { e with reserved := false }) := by
      unfold returnReservation
      rw [if_pos hr, hend]
    rw [heq] at hkeeps ⊢
    refine ⟨hkeeps, h.contexts, h.idle, fun k hk => ?_⟩
    exact (State.core_setCore_wf (State.wf_tables (h.keeps.wf hs)).1 g k _).trans ((if_neg hk).trans (h.others k hk))
  · rw [returnReservation, if_neg hr]
    exact h

theorem vacates_foldl {α : Type} {g : Nat} {f : State → α → State} (hf : ∀ t a, Vacates g s t → Vacates g s (f t a)) (l : List α)
    (h : Vacates g s t) : Vacates g s (l.foldl f t) :=
  List.foldlRecOn (motive := fun (t : State) => Vacates g s t) l f h fun t h a _ => hf t a h

theorem vacates_emptyWindows (hs : s.wf = true) {g : Nat} (hg : g < 192) (h : Vacates g s t) : Vacates g s (emptyWindows t g) := by
  unfold emptyWindows
  have hval : (Fin.ofNat 192 g : CoreId).val = g := Nat.mod_eq_of_lt hg
  dsimp only
  refine vacates_foldl (fun t u h => vacates_foldl (fun t e h => vacates_leaveWaits ?_ _) _ h) _ h
  rw [hval]
  exact vacates_returnReservation hs h u e

/-- Blank cores: those listed, while the others, the contexts and the tables' form stay. -/
structure Blanks (l : List Nat) (s t : State) : Prop where
  keeps : Keeps s t
  contexts : t.contexts = s.contexts
  idle : t.queueObjs.snapBusy = false
  cores : ∀ h, t.core h = if h ∈ l then {} else s.core h

theorem blanks_blankCore (hs : s.wf = true) {l : List Nat} {g : Nat} (hg : g < 192) (h : Blanks l s t) : Blanks (g :: l) s (blankCore t g) := by
  have hwf := h.keeps.wf hs
  have hv := vacates_emptyWindows hwf hg ⟨keeps_refl t, rfl, h.idle, fun _ _ => rfl⟩
  have hcore (k : Nat) := State.core_setCore_wf (State.wf_tables (hv.keeps.wf hwf)).1 g k {}
  refine ⟨keeps_blankCore h.keeps g, hv.contexts.trans h.contexts, hv.idle, fun k => (hcore k).trans ?_⟩
  by_cases hk : k = g
  · simp [hk]
  · rw [if_neg hk, hv.others k hk, h.cores k]
    simp [hk]

theorem blanks_foldl (hs : s.wf = true) (hidle : s.queueObjs.snapBusy = false) (l : List Nat) (hl : ∀ g ∈ l, g < 192) :
    ∃ l', (∀ g, g ∈ l' ↔ g ∈ l) ∧ Blanks l' s (l.foldl blankCore s) := by
  have hgo (l : List Nat) (hl : ∀ g ∈ l, g < 192) : ∀ done t, Blanks done s t → Blanks (l.reverse ++ done) s (l.foldl blankCore t) := by
    induction l with
    | nil => exact fun done t h => h
    | cons g l ih =>
      intro done t h
      have hstep := ih (fun k hk => hl k (List.mem_cons_of_mem g hk)) (g :: done) _ (blanks_blankCore hs (hl g List.mem_cons_self) h)
      simpa using hstep
  refine ⟨l.reverse ++ [], fun g => by simp, hgo l hl [] s ⟨keeps_refl s, rfl, hidle, fun h => by simp⟩⟩

/-- Cores and the states of contexts stay. -/
structure SameStates (s t : State) : Prop where
  keeps : Keeps s t
  cores : t.cores = s.cores
  states : ∀ x, (t.ctx x).st = (s.ctx x).st

theorem sameStates_foldl {α : Type} {f : State → α → State} (hf : ∀ t a, SameStates s t → SameStates s (f t a)) (l : List α)
    (h : SameStates s t) : SameStates s (l.foldl f t) :=
  List.foldlRecOn (motive := fun (t : State) => SameStates s t) l f h fun t h a _ => hf t a h

theorem sameStates_setCtr (h : SameStates s t) (p c) : SameStates s (t.setCtr p c) := ⟨keeps_setCtr h.keeps p c, h.cores, h.states⟩

theorem sameStates_setCtx (hs : s.wf = true) (h : SameStates s t) (x) {c : Context} (hc : c.st = (t.ctx x).st) : SameStates s (t.setCtx x c) := by
  refine ⟨keeps_setCtx h.keeps x c, h.cores, fun y => ?_⟩
  rw [State.ctx_setCtx_wf (State.wf_tables (h.keeps.wf hs)).2.2]
  split
  · next hy => rw [hc, ← hy, h.states]
  · exact h.states y

theorem sameStates_clearBarriers (hs : s.wf = true) (h : SameStates s t) (d x) :
    SameStates s (if (t.ctx x).barrierDie = d then t.setCtx x { t.ctx x with barriers := smMap {} (fun _ b => b.clear) (t.ctx x).barriers } else t) := by
  split
  · exact sameStates_setCtx hs h x rfl
  · exact h

theorem sameStates_resetDieSync (hs : s.wf = true) (h : SameStates s t) (d x) : SameStates s (resetDieSync t d x) := by
  unfold resetDieSync
  refine sameStates_clearBarriers hs (sameStates_foldl (fun t r h => ?_) _ h) d x
  dsimp only
  split
  · exact sameStates_setCtr h ..
  · exact h

theorem sameStates_clearTraining (h : SameStates s t) (hs : s.wf = true) : SameStates s (clearTraining t) := by
  refine ⟨keeps_clearTraining h.keeps, h.cores, fun x => ?_⟩
  have hget : (clearTraining t).ctx x = { t.ctx x with flipCount := 0 } :=
    smGet_smMap (f := fun _ (c : Context) => { c with flipCount := 0 }) (State.wf_tables (h.keeps.wf hs)).2.2 (fun _ => rfl) x
  rw [hget]
  exact h.states x

theorem dieResetEnd_ends {d : Nat} (hd : d < 2) (hmark : s.dieResetting d = true) :
    (dieResetEnd s d).dieResetting d = false ∧ (dieResetEnd s d).clkc = s.clkc ∧ (dieResetEnd s d).rel.epoch = s.rel.epoch := by
  have hgo : ¬(!(s.dieResetting d)) = true := by rw [hmark]; decide
  unfold dieResetEnd
  rw [if_neg hgo]
  dsimp only
  generalize hv : setDieResetting s d false = v
  have hblank := steady_foldl (fun t g h => steady_blankCore h g) ((List.range 96).map (d * 96 + ·)) (steady_refl v)
  generalize ((List.range 96).map (d * 96 + ·)).foldl blankCore v = w at hblank ⊢
  have hclear : Steady v (clearTraining { w with mem := w.mem.zeroDie d }) := steady_mk hblank
  generalize clearTraining { w with mem := w.mem.zeroDie d } = u at hclear ⊢
  have hsync := steady_foldl (fun t (x : Nat × Context) h => steady_resetDieSync h d x.1) u.contexts hclear
  generalize u.contexts.foldl (fun s x => resetDieSync s d x.1) u = r at hsync ⊢
  have hall : Steady v (r.contexts.foldl (fun s x => if (s.ctx x.1).st = .recovering then replayStart s x.1 else s) r) :=
    steady_foldl (fun t x h => steady_ite (steady_replayStart h x.1) h) _ hsync
  generalize r.contexts.foldl _ r = t at hall ⊢
  obtain ⟨hpower, hclkc, -, -, hepoch⟩ := hall
  subst hv
  refine ⟨?_, hclkc, hepoch⟩
  have h0 : t.power.dieResetting0 = (setDieResetting s d false).power.dieResetting0 := (congrArg Power.dieResetting0 hpower :)
  have h1 : t.power.dieResetting1 = (setDieResetting s d false).power.dieResetting1 := (congrArg Power.dieResetting1 hpower :)
  unfold State.dieResetting
  by_cases hzero : d = 0
  · rw [if_pos hzero, h0]; simp [setDieResetting, hzero]
  · rw [if_neg hzero, h1]; simp [setDieResetting, hzero]

theorem dieResetEnd_cores {d : Nat} (hd : d < 2) (hmark : s.dieResetting d = true) (hs : s.wf = true)
    (hidle : s.queueObjs.snapBusy = false) (hst : ∀ x, (s.ctx x).st ≠ .recovering) (g : Nat) (hg : g < 192) :
    (dieResetEnd s d).core g = if g / 96 = d then {} else s.core g := by
  have hgo : ¬(!(s.dieResetting d)) = true := by rw [hmark]; decide
  unfold dieResetEnd
  rw [if_neg hgo]
  dsimp only
  have hs' : (setDieResetting s d false).wf = true := (keeps_setDieResetting (keeps_refl s) d false).wf hs
  obtain ⟨l, hl, hblank⟩ := blanks_foldl hs' hidle ((List.range 96).map (d * 96 + ·)) (by simp; omega)
  generalize ((List.range 96).map (d * 96 + ·)).foldl blankCore (setDieResetting s d false) = w at hblank ⊢
  obtain ⟨hkeeps, hctx, -, hcores⟩ := hblank
  have hw := hkeeps.wf hs'
  have hzero : SameStates w { w with mem := w.mem.zeroDie d } :=
    ⟨keeps_mk (keeps_refl w) (smWf_filter _) id id id id id id id id id id, rfl, fun _ => rfl⟩
  have hclear := sameStates_clearTraining hzero hw
  generalize clearTraining { w with mem := w.mem.zeroDie d } = u at hclear ⊢
  have hsync := sameStates_foldl (fun t (x : Nat × Context) h => sameStates_resetDieSync hw h d x.1) u.contexts hclear
  generalize u.contexts.foldl (fun s x => resetDieSync s d x.1) u = r at hsync ⊢
  have hnone (x : Nat) : (r.ctx x).st ≠ .recovering := by
    have hctx' : w.ctx x = s.ctx x := congrArg (fun (m : SMap Context) => smGet ({} : Context) m x) hctx
    rw [hsync.states x, hctx']
    exact hst x
  have hlast : r.contexts.foldl (fun s x => if (s.ctx x.1).st = .recovering then replayStart s x.1 else s) r = r :=
    List.foldlRecOn (motive := fun (t : State) => t = r) _ _ rfl fun t ht x _ => by rw [ht, if_neg (hnone x.1)]
  rw [hlast]
  have hcore : r.core g = w.core g := congrArg (fun (m : SMap Core) => smGet ({} : Core) m g) hsync.cores
  rw [hcore, hcores g]
  have hmem : g ∈ l ↔ g / 96 = d := by
    rw [hl, List.mem_map]
    constructor
    · rintro ⟨i, hi, rfl⟩
      have := List.mem_range.1 hi
      omega
    · exact fun h => ⟨g % 96, List.mem_range.2 (Nat.mod_lt _ (by decide)), by omega⟩
  simp only [hmem]
  rfl

/-! #### Reset commands (R447, R453) -/

theorem ownObject_resetCommand : OwnObject 0x2210 1 1 := by constructor <;> decide +kernel

theorem writePlain_reset (s : State) (acc : Accessor) (v : BitVec 8) : writePlain s acc 0x2210 1 [v] = resetCommand s v.toNat := by
  have hv : leNat [v] = v.toNat := by simp [leNat]
  exact hv ▸ rfl

theorem resetCommand_refused {v : Nat} (hv : 1 ≤ v ∧ v ≤ 3)
    (h : (s.power.draining.isSome || s.startingWarm) = true ∨ v ≠ 1 ∧ s.dieResetting (v - 2) = true) : resetCommand s v = aborted s abState := by
  unfold resetCommand
  rw [if_neg (by omega)]
  by_cases hbusy : (s.power.draining.isSome || s.startingWarm) = true
  · rw [if_pos hbusy]
  · obtain ⟨hne, hdie⟩ := h.resolve_left hbusy
    rw [if_neg hbusy, if_neg hne, if_pos hdie]

theorem resetCommand_warm (hbusy : (s.power.draining.isSome || s.startingWarm) = false) (hreg : s.power.regulators = true)
    (hst : s.starting = false) : resetCommand s 1 = accepted { s with power := { s.power with draining := some .warmCommand } } := by
  have hdrain : s.power.draining.isSome = false := (Bool.or_eq_false_iff.1 hbusy).1
  unfold resetCommand
  rw [if_neg (by decide), if_neg (by rw [hbusy]; decide), if_pos rfl, warmCommanded, if_neg (by rw [hreg, hst, hdrain]; decide)]

theorem resetCommand_die {d : Fin 2} (hbusy : (s.power.draining.isSome || s.startingWarm) = false) (hdie : s.dieResetting d = false) :
    resetCommand s (2 + d.val) = accepted (dieResetBegin s d) := by
  unfold resetCommand
  rw [if_neg (by omega), if_neg (by rw [hbusy]; decide), if_neg (by omega), Nat.add_sub_cancel_left, if_neg (by rw [hdie]; decide)]

theorem toNat_dieCommand (d : Fin 2) : (BitVec.ofNat 8 (2 + d.val)).toNat = 2 + d.val := by
  rw [BitVec.toNat_ofNat]
  omega

theorem resetCommands_refused {acc : Accessor} (hadm : Admitted s acc 0x2210 1 = true) {v : BitVec 8} (hv : 1 ≤ v.toNat ∧ v.toNat ≤ 3)
    (h : (s.power.draining.isSome || s.startingWarm) = true ∨ v.toNat ≠ 1 ∧ s.dieResetting (v.toNat - 2) = true) :
    .next (dictCommand s acc 0x2210 1 [v]) = Refused s acc abState :=
  dictCommand_refuses hadm ownObject_resetCommand rfl ((writePlain_reset s acc v).trans (resetCommand_refused hv h))

theorem dieResetCommand_refused {acc : Accessor} (hadm : Admitted s acc 0x2210 1 = true) (d : Fin 2)
    (h : (s.power.draining.isSome || s.startingWarm) = true ∨ s.dieResetting d = true) :
    exec (.dieResetCommand acc d) s = Refused s acc abState := by
  refine resetCommands_refused hadm ?_ ?_
  · rw [toNat_dieCommand]; omega
  · rw [toNat_dieCommand, Nat.add_sub_cancel_left]
    exact h.imp_right fun h => ⟨by omega, h⟩

theorem warmResetCommand_drains {acc : Accessor} (hadm : Admitted s acc 0x2210 1 = true)
    (hbusy : (s.power.draining.isSome || s.startingWarm) = false) (hreg : s.power.regulators = true) (hst : s.starting = false) :
    exec (.warmResetCommand acc) s = Replied acc { s with power := { s.power with draining := some .warmCommand } } :=
  dictCommand_takes hadm ownObject_resetCommand rfl ((writePlain_reset s acc 1).trans (resetCommand_warm hbusy hreg hst))

theorem dieResetCommand_begins {acc : Accessor} (hadm : Admitted s acc 0x2210 1 = true)
    (hbusy : (s.power.draining.isSome || s.startingWarm) = false) (hreg : s.power.regulators = true) (hst : s.starting = false)
    {d : Fin 2} (hdie : s.dieResetting d = false) : Answered (exec (.dieResetCommand acc d) s) acc (fun u =>
      u.dieResetting d = true ∧ u.power.dieResets = satAdd s.power.dieResets 1 ∧ u.sec.staging = [] ∧ u.mem = s.mem) := by
  have hdrain : s.power.draining = none := Option.isSome_eq_false_iff.1 (Bool.or_eq_false_iff.1 hbusy).1 |> Option.isNone_iff_eq_none.1
  obtain ⟨hmark, hcount, hsec, hmem⟩ := dieResetBegin_begins (d := d.val) hreg hst hdrain
  refine ⟨dieResetBegin s d, ?_, hmark, ?_, (congrArg Security.staging hsec :), hmem⟩
  · refine dictCommand_takes hadm ownObject_resetCommand rfl ((writePlain_reset ..).trans ?_)
    rw [toNat_dieCommand]
    exact resetCommand_die hbusy hdie
  · rw [hcount, if_neg (by rw [hdie]; decide)]

theorem dieReset_idle {d : Nat} (h : s.power.regulators = false ∨ s.starting = true) (hdie : s.dieResetting d = false) : dieReset s d = s := by
  have hbegin : dieResetBegin s d = s := if_pos (by rcases h with h | h <;> rw [h] <;> simp)
  have hend : dieResetEnd s d = s := if_pos (by rw [hdie]; rfl)
  rw [dieReset, if_neg (by rw [hdie]; decide), hbegin, hend]

theorem dieReset_resetting {d : Nat} (hdie : s.dieResetting d = true) : dieReset s d = dieResetEnd s d := by
  rw [dieReset, if_pos hdie]

end

/-- Settles O50: the parts of the reset state, the frame of completing descriptors (`Steady`), and the blank cores of a die. -/
theorem resetsKeepAndClear : Obligations.ResetsKeepAndClear := by
  unfold Obligations.ResetsKeepAndClear
  intro s
  refine ⟨fun acc hadm => ⟨fun hbusy => ⟨?_, fun d => dieResetCommand_refused hadm d (.inl hbusy)⟩, fun hbusy hreg hst =>
      ⟨warmResetCommand_drains hadm hbusy hreg hst, fun d hd => dieResetCommand_refused hadm d (.inr hd),
        fun d hd => dieResetCommand_begins hadm hbusy hreg hst hd⟩⟩,
    fun hreg hst hdrain => ⟨_, congrArg Host.Outcome.next (warmReset_firmware hreg hst hdrain), restart_restarted s .warm 5, fun hs => ?_, rfl, rfl, rfl⟩,
    fun hreg hst w hdrain => warmReset_drains hreg hst hdrain, fun h hdrain w => warmReset_idle h hdrain w, drainEnd_idle,
    fun w x q d hdrain hone hdec => drainEnd_commits hdrain hone hdec, fun d hd => ?_,
    fun d h hd => congrArg Host.Outcome.next (dieReset_idle h hd),
    fun hreg hen hlatch => ⟨inputReset_starts hreg hen hlatch, fun hin w hw => congrArg Host.Outcome.next (powerOn_keeps hw (.inr hin))⟩,
    fun hreg w hw => congrArg Host.Outcome.next (powerOn_keeps hw (.inl hreg)), resetPin_restarts, resetPin_held, rfl, enableHigh_starts,
    enableHigh_on, enableLow_off⟩
  · exact resetCommands_refused hadm (v := 1) (by decide) (.inl hbusy)
  · have hbytes := s.mem.byte_warm (State.wf_iff.1 hs).1
    exact ⟨fun a => (hbytes a).1, fun a => (hbytes a).2.1, fun a => (hbytes a).2.2⟩
  · obtain ⟨hmark, hclkc, hepoch⟩ := dieResetEnd_ends (d := d.val) d.isLt hd
    refine ⟨_, congrArg Host.Outcome.next (dieReset_resetting hd), hmark, hclkc, hepoch, fun hs hidle hst => ?_⟩
    have hcore (g : CoreId) := dieResetEnd_cores (d := d.val) d.isLt hd hs hidle hst g.val g.isLt
    exact ⟨fun g hg => (hcore g).trans (if_pos hg), fun g hg => (hcore g).trans (if_neg hg)⟩

end Sys2Proof.Machine
end

section
/-! PROOFS. Power, temperature, the input warning and the rails (O49). -/

namespace Sys2Proof.Machine

/-! ### Power and temperature (R438 to R440, R443, R444) -/

/-! #### What a record leaves of the reliability state (R380 to R386) -/

/-- Records, the Ephemeris log and its histories may change. -/
def Logs (r r' : Reliability) : Prop :=
  { r' with records := r.records, recordCount := r.recordCount, oldest := r.oldest, recentCe := r.recentCe, logSecond := r.logSecond
            logInSecond := r.logInSecond, histories := r.histories, flashBlocks := r.flashBlocks, flashErased := r.flashErased
            dropped := r.dropped } = r

section
variable {r r' : Reliability} {s t : State}

theorem logs_refl (r : Reliability) : Logs r r := rfl

theorem logs_mk (h : Logs r r') {records recordCount oldest recentCe} :
    Logs r { r' with records := records, recordCount := recordCount, oldest := oldest, recentCe := recentCe } := h

theorem logs_log (h : Logs r r') (sec : Nat) (entry : Bytes) : Logs r (r'.log sec entry) := by
  have hf := congrArg (fun (q : Reliability) => { q with
    records := r.records, recordCount := r.recordCount, oldest := r.oldest, recentCe := r.recentCe, logSecond := r.logSecond
    logInSecond := r.logInSecond, histories := r.histories, flashBlocks := r.flashBlocks, flashErased := r.flashErased
    dropped := r.dropped }) (r'.log_frame sec entry)
  exact hf.trans h

theorem logs_ephEvent (h : Logs r r') (k : EphKey) : Logs r (ephEvent r' k).1 := by
  unfold ephEvent
  dsimp only
  split <;> exact h

theorem logs_writeRecord (h : Logs r t.rel) (n : FaultNote) (v w : Nat) : Logs r (writeRecord t n v w).rel := by
  unfold writeRecord
  simp only [apply_ite State.rel, emcy_rel, raise_rel, ite_self]
  generalize (if decide (t.rel.records.length ≥ 1024) = true then t.rel.records.drop 1 ++ [faultBytes t n v w]
    else t.rel.records ++ [faultBytes t n v w]) = records
  generalize (if decide (t.rel.records.length ≥ 1024) = true then t.rel.oldest + 1 else t.rel.oldest) = oldest
  have hm := logs_mk h (records := records) (recordCount := t.rel.recordCount + 1) (oldest := oldest) (recentCe := t.rel.recentCe)
  exact logs_log hm ..

theorem logs_suspect (h : Logs r t.rel) (sus : Bool) (sec : Nat) (entry : Bytes) :
    Logs r (if sus = true then raise { t with rel := t.rel.log sec entry } 0x381 else t).rel := by
  split
  · rw [raise_rel]
    exact logs_log h ..
  · exact h

theorem logs_fault (h : Logs r t.rel) (n : FaultNote) : Logs r (fault t n).rel := by
  unfold fault
  have hev := logs_ephEvent h n.ephKey
  split
  · rcases ephEvent t.rel n.ephKey with ⟨r', v, w, sus⟩
    dsimp only at hev ⊢
    refine logs_suspect ?_ ..
    split
    · split
      · exact hev
      · refine logs_writeRecord ?_ ..
        exact hev
    · refine logs_writeRecord ?_ ..
      exact hev
  · exact logs_writeRecord h ..

end

section
variable {s t : State}

/-! #### Samples of the input power -/

theorem settleSteps_frame (s : State) : { settleSteps s with
    power := { (settleSteps s).power with step0 := s.power.step0, step1 := s.power.step1, stepChanges := s.power.stepChanges } } = s := by
  unfold settleSteps
  split <;> rfl

theorem slowest_three (a b : BitVec 2) : slowest (slowest a 3) b = 3 := by
  revert a b
  decide

theorem settleSteps_slowest (hc : s.controlled = true) (hp : s.power.powerStep = 3) :
    (settleSteps s).power.powerStep = 3 ∧ (settleSteps s).power.step0 = 3 ∧ (settleSteps s).power.step1 = 3 := by
  unfold settleSteps
  rw [if_neg (by rw [hc]; decide)]
  dsimp only
  rw [hp]
  exact ⟨rfl, slowest_three .., slowest_three ..⟩

/-- A sample that the controllers take. -/
theorem samplePower_controlled (hc : s.controlled = true) (mw : Nat) :
    samplePower s mw = settleSteps { s with power := powerStepOf s.power mw } := by
  have hreg : s.power.regulators = true := (Bool.and_eq_true_iff.1 hc).1
  unfold samplePower
  rw [if_neg (by rw [hreg]; decide), if_pos hc]

theorem samplePower_idle (hreg : s.power.regulators = true) (hc : s.controlled = false) (mw : Nat) :
    samplePower s mw = { s with power := { s.power with samples := (mw :: s.power.samples).take 100 } } := by
  unfold samplePower
  rw [if_neg (by rw [hreg]; decide), if_neg (by rw [hc]; decide)]

/-- A sample changes no gate of the controllers. -/
theorem powerStepOf_gates (p : Power) (mw : Nat) :
    (powerStepOf p mw).regulators = p.regulators ∧ (powerStepOf p mw).bootStep = p.bootStep := by
  unfold powerStepOf
  dsimp only
  split_ifs <;> exact ⟨rfl, rfl⟩

theorem powerStepOf_high (p : Power) {mw : Nat} (h : 3300000 < mw) : (powerStepOf p mw).powerStep = 3 := by
  unfold powerStepOf
  dsimp only
  rw [if_pos (.inr (.inr h))]

theorem meanOf_take (l : List Nat) : meanOf 10 (l.take 100) = meanOf 10 l := by
  rw [meanOf, meanOf, List.take_take]
  rfl

theorem powerStepOf_above {p : Power} {mw : Nat} (hwarn : p.inputWarn = false) (hhold : p.inputHold ≤ 1) (hfast : p.fasterHold = 0)
    (hsince : 9 ≤ p.sinceSlower) (hlen : 9 ≤ p.samples.length) (hmw : mw ≤ 3300000)
    (habove : p.limitW.toNat * 1000 < meanOf 10 (mw :: p.samples)) :
    (powerStepOf p mw).powerStep = slower p.powerStep ∧ (powerStepOf p mw).sinceSlower = 0 := by
  have hmean : (decide (10 ≤ ((mw :: p.samples).take 100).length) &&
      decide (p.limitW.toNat * 1000 < meanOf 10 ((mw :: p.samples).take 100))) = true := by
    rw [meanOf_take, List.length_take, List.length_cons]
    simp only [Bool.and_eq_true, decide_eq_true_eq]
    omega
  unfold powerStepOf
  dsimp only
  rw [if_neg (by simp only [hwarn, Bool.false_eq_true, false_or]; omega), if_neg (by omega), if_pos hmean, if_pos hsince]
  exact ⟨rfl, rfl⟩

/-! #### Samples of the temperature -/

/-- The source is pending. -/
def Pends (m : Nat) (t : State) : Prop := (smGet {} t.sources m).pending = true

section
variable {m : Nat}

theorem pends_mk (h : Pends m t) {pending out draws clkc device mem cores slotMap spares counters syncFaults tailDiscards signals addends
    contexts queueObjs training fabric coll drinex dict dests rel sec meter power} :
    Pends m (State.mk pending out draws clkc device mem cores slotMap spares counters syncFaults tailDiscards signals addends
      contexts queueObjs training fabric coll drinex dict t.sources dests rel sec meter power) := h

theorem pends_raise (h : Pends m t) (n) : Pends m (raise t n) := raise_pending_of h n

theorem pends_emcy (h : Pends m t) (code unit) : Pends m (emcy t code unit) := by
  unfold Pends at h ⊢
  rwa [emcy_sources]

theorem pends_writeRecord (h : Pends m t) (n v w) : Pends m (writeRecord t n v w) := by
  unfold writeRecord
  grind [pends_mk, pends_raise, pends_emcy]

theorem pends_fault (h : Pends m t) (n) : Pends m (fault t n) := by
  unfold fault
  grind [pends_mk, pends_raise, pends_writeRecord]

/-- A hot group is counted and announced (R443). -/
theorem hotEpisode_reports (s : State) (d : Nat) :
    Reports { s with power := { s.power with hotEpisodes := satAdd s.power.hotEpisodes 1 } } (hotEpisode s d) :=
  reports_fault (reports_emcy (reports_raise (reports_refl _) _) ..) _

theorem hotEpisode_pends (s : State) (d : Nat) : Pends 0x385 (hotEpisode s d) :=
  pends_fault (pends_emcy (raise_pending (sourceDead_global (by decide) (by decide) _)) ..) _

theorem pends_hotEpisode (h : Pends m t) (d) : Pends m (hotEpisode t d) :=
  pends_fault (pends_emcy (pends_raise (pends_mk h) _) ..) _

end

theorem hotEpisode_if (s : State) (d : Nat) (c : Bool) :
    Reports { s with power := { s.power with hotEpisodes := if c then satAdd s.power.hotEpisodes 1 else s.power.hotEpisodes } }
      (if c then hotEpisode s d else s) := by
  cases c
  · exact reports_refl s
  · exact hotEpisode_reports s d

/-- The power after a thermal sample, but for what the dies run at. -/
def Power.heated (p : Power) : Power :=
  let a := thermalStepOf p.thermalStep0 (groupHot p.temps 0) (groupCool p.temps 0) p.hotTicks0 p.coolTicks0
  let b := thermalStepOf p.thermalStep1 (groupHot p.temps 1) (groupCool p.temps 1) p.hotTicks1 p.coolTicks1
  let one (c : Bool) (n : BitVec 32) : BitVec 32 := if c then satAdd n 1 else n
  { p with thermalStep0 := a.1, hotTicks0 := a.2.1, coolTicks0 := a.2.2, hot0 := groupHot p.temps 0
           thermalStep1 := b.1, hotTicks1 := b.2.1, coolTicks1 := b.2.2, hot1 := groupHot p.temps 1
           hotEpisodes := one (groupHot p.temps 1 && !p.hot1) (one (groupHot p.temps 0 && !p.hot0) p.hotEpisodes) }

theorem emcyClear_sources (s : State) : (emcyClear s).sources = s.sources := (congrArg State.sources (emcyClear_frame s) :)
theorem settleSteps_sources (s : State) : (settleSteps s).sources = s.sources := (congrArg State.sources (settleSteps_frame s) :)

theorem thermalControl_leaves (s : State) : (thermalControl s).mem = s.mem ∧ (thermalControl s).contexts = s.contexts ∧
    { (thermalControl s).power with step0 := s.power.step0, step1 := s.power.step1, stepChanges := s.power.stepChanges } = s.power.heated := by
  unfold thermalControl Power.heated
  dsimp only
  generalize thermalStepOf s.power.thermalStep0 _ _ _ _ = a
  generalize thermalStepOf s.power.thermalStep1 _ _ _ _ = b
  generalize hc0 : (groupHot s.power.temps 0 && !s.power.hot0) = c0
  generalize hc1 : (groupHot s.power.temps 1 && !s.power.hot1) = c1
  generalize hv : ({ s with power := { s.power with
    thermalStep0 := a.1, hotTicks0 := a.2.1, coolTicks0 := a.2.2, hot0 := groupHot s.power.temps 0
    thermalStep1 := b.1, hotTicks1 := b.2.1, coolTicks1 := b.2.2, hot1 := groupHot s.power.temps 1 } } : State) = v
  have h0 := hotEpisode_if v 0 c0
  generalize (if c0 = true then hotEpisode v 0 else v) = w at h0 ⊢
  have h1 := hotEpisode_if w 1 c1
  generalize (if c1 = true then hotEpisode w 1 else w) = x at h1 ⊢
  have hclear := emcyClear_frame x
  generalize emcyClear x = y at hclear ⊢
  have hsettle := settleSteps_frame y
  generalize settleSteps y = z at hsettle ⊢
  have hyx : y.power = x.power := (congrArg State.power hclear :)
  have hpower : y.power = { v.power with hotEpisodes := if c1 then satAdd (if c0 then satAdd v.power.hotEpisodes 1 else v.power.hotEpisodes) 1
      else (if c0 then satAdd v.power.hotEpisodes 1 else v.power.hotEpisodes) } := by
    rw [hyx, h1.power, h0.power]
  have hz := congrArg (fun (t : State) => { t.power with step0 := s.power.step0, step1 := s.power.step1, stepChanges := s.power.stepChanges }) hsettle
  subst hv
  refine ⟨?_, ?_, ?_⟩
  · exact (congrArg State.mem hsettle :).trans ((congrArg State.mem hclear :).trans (h1.mem.trans h0.mem))
  · exact (congrArg State.contexts hsettle :).trans ((congrArg State.contexts hclear :).trans (h1.contexts.trans h0.contexts))
  · refine Eq.trans hz ?_
    dsimp only
    rw [hpower]

theorem pends_hotEpisode_if {m : Nat} (h : Pends m t) (d : Nat) (c : Bool) : Pends m (if c then hotEpisode t d else t) := by
  cases c
  · exact h
  · exact pends_hotEpisode h d

theorem thermalControl_pends (hhot : groupHot s.power.temps 0 = true) (hwas : s.power.hot0 = false) : Pends 0x385 (thermalControl s) := by
  have hc0 : (groupHot s.power.temps 0 && !s.power.hot0) = true := by rw [hhot, hwas]; rfl
  unfold Pends thermalControl
  dsimp only
  rw [settleSteps_sources, emcyClear_sources, hc0]
  generalize (groupHot s.power.temps 1 && !s.power.hot1) = c1
  exact pends_hotEpisode_if (hotEpisode_pends _ 0) 1 c1

/-! ##### The sample -/

theorem sampleTemps_once (hreg : s.power.regulators = true) {temps : List (BitVec 16)}
    (hno : beyondLimit temps = false ∨ s.power.overLimit = false) :
    sampleTemps s temps = if s.controlled then thermalControl { s with power := { s.power with temps := temps, overLimit := beyondLimit temps } }
      else { s with power := { s.power with temps := temps, overLimit := beyondLimit temps } } := by
  unfold sampleTemps
  rw [if_neg (by rw [hreg]; decide)]
  exact if_neg (by rcases hno with h | h <;> rw [h] <;> simp)

theorem thermalStepOf_slower {step : BitVec 2} {hot cool : Bool} {n c : Nat} (hhot : hot = true) (hn : 9 ≤ n) :
    (thermalStepOf step hot cool n c).1 = slower step := by
  rw [thermalStepOf, if_pos hhot, if_pos hn]

theorem sampleTemps_controls (hc : s.controlled = true) {temps : List (BitVec 16)} (hno : beyondLimit temps = false ∨ s.power.overLimit = false) :
    Goes (exec (.thermalSample temps) s) (fun t =>
      t.power.temps = temps ∧ t.power.hot0 = groupHot temps 0 ∧ t.power.hot1 = groupHot temps 1 ∧
      (groupHot temps 0 = true → 9 ≤ s.power.hotTicks0 → t.power.thermalStep0 = slower s.power.thermalStep0) ∧
      (groupHot temps 0 = true → s.power.hot0 = false → (smGet {} t.sources 0x385).pending = true) ∧
      (groupHot temps 0 = true → s.power.hot0 = false → s.power.hot1 = true → t.power.hotEpisodes = satAdd s.power.hotEpisodes 1) ∧
      t.mem = s.mem ∧ t.contexts = s.contexts) := by
  have hreg : s.power.regulators = true := (Bool.and_eq_true_iff.1 hc).1
  have heq := sampleTemps_once hreg hno
  rw [if_pos hc] at heq
  refine ⟨_, congrArg Host.Outcome.next heq, ?_⟩
  generalize hv : ({ s with power := { s.power with temps := temps, overLimit := beyondLimit temps } } : State) = v
  have hpower : v.power = { s.power with temps := temps, overLimit := beyondLimit temps } := by rw [← hv]
  obtain ⟨hmem, hctx, hheat⟩ := thermalControl_leaves v
  have hpend := thermalControl_pends (s := v)
  generalize thermalControl v = t at hmem hctx hheat hpend
  have htemps : t.power.temps = v.power.temps := (congrArg Power.temps hheat :)
  have hh0 : t.power.hot0 = groupHot v.power.temps 0 := (congrArg Power.hot0 hheat :)
  have hh1 : t.power.hot1 = groupHot v.power.temps 1 := (congrArg Power.hot1 hheat :)
  have hstep : t.power.thermalStep0 = (thermalStepOf v.power.thermalStep0 (groupHot v.power.temps 0) (groupCool v.power.temps 0) v.power.hotTicks0
      v.power.coolTicks0).1 := (congrArg Power.thermalStep0 hheat :)
  have hepisodes : t.power.hotEpisodes = v.power.heated.hotEpisodes := (congrArg Power.hotEpisodes hheat :)
  rw [hpower] at htemps hh0 hh1 hstep hepisodes
  refine ⟨htemps, hh0, hh1, fun hhot hn => ?_, fun hhot hwas => hpend (by rwa [hpower]) (by rwa [hpower]), fun hhot hwas hwas1 => ?_, ?_, ?_⟩
  · rw [hstep]
    exact thermalStepOf_slower hhot hn
  · rw [hepisodes]
    simp [Power.heated, hhot, hwas, hwas1]
  · rw [hmem, ← hv]
  · rw [hctx, ← hv]

theorem sampleTemps_shuts (hreg : s.power.regulators = true) {temps : List (BitVec 16)} (hbeyond : beyondLimit temps = true)
    (hwas : s.power.overLimit = true) : Goes (exec (.thermalSample temps) s) (fun t =>
      t.power.regulators = false ∧ t.power.thermalLatch = true ∧ t.power.offCause = 6 ∧ t.rel.shutdowns = satAdd s.rel.shutdowns 1 ∧
      t.mem.cells = [] ∧ t.cores = [] ∧ t.contexts = [] ∧ t.meter.die = s.meter.die) := by
  obtain ⟨v, n, hv, hrel, heq⟩ : ∃ v n, v.meter = s.meter ∧ v.rel = s.rel ∧ sampleTemps s temps = powerOff { fault v n with
      rel := { (fault v n).rel with shutdowns := satAdd (fault v n).rel.shutdowns 1 }
      power := { (fault v n).power with thermalLatch := true } } 6 := by
    refine ⟨{ s with power := { s.power with temps := temps, overLimit := beyondLimit temps } },
      { src := 9, sev := 4, cls := 0x0A, key := hottestSensor temps, syn := leBytes 2 (temps.getD (hottestSensor temps) 0#16).toNat }, rfl, rfl, ?_⟩
    unfold sampleTemps
    rw [if_neg (by rw [hreg]; decide)]
    exact if_pos (by rw [hbeyond, hwas]; rfl)
  have hmeter : (fault v n).meter = v.meter := (congrArg State.meter (reports_fault (reports_refl v) n) :)
  have hshut : (fault v n).rel.shutdowns = v.rel.shutdowns := (congrArg Reliability.shutdowns (logs_fault (logs_refl v.rel) n) :)
  refine ⟨_, congrArg Host.Outcome.next heq, rfl, rfl, rfl, ?_, rfl, rfl, rfl, ?_⟩
  · rw [← hrel, ← hshut]
    rfl
  · rw [← hv, ← hmeter]
    rfl

/-! #### The input warning (R440) -/

/-- A warning below 42 V commits the metering register (R425). -/
def lowInput (s : State) (mv : Nat) : State := if mv < 42000 then meterEvent (commitRegister s) 2 0 (mv / 10) else s

/-- What commits and logs leaves. -/
theorem lowInput_frame (s : State) (mv : Nat) : { lowInput s mv with meter := s.meter } = s := by
  unfold lowInput
  split <;> rfl

theorem lowInput_meter (s : State) (mv : Nat) :
    (mv < 42000 → (lowInput s mv).meter.committed = s.meter.die.energy ∧ (lowInput s mv).meter.die.eventCount = s.meter.die.eventCount + 1) ∧
      (42000 ≤ mv → (lowInput s mv).meter = s.meter) := by
  unfold lowInput
  constructor
  · intro h
    rw [if_pos h]
    exact ⟨rfl, rfl⟩
  · intro h
    rw [if_neg (Nat.not_lt.2 h)]

theorem inputEvent_away (hwarn : s.power.inputWarn = false) (hreg : s.power.regulators = true) (mv : Nat) :
    inputEvent s true mv = settleSteps (emcy (raise (lowInput { s with power := { s.power with inputWarn := true, powerStep := 3 } } mv) 0x383) 0x3120 0) := by
  unfold inputEvent
  rw [if_pos rfl, if_neg (by rw [hwarn]; decide)]
  refine if_pos ?_
  have hpower : (lowInput { s with power := { s.power with inputWarn := true, powerStep := 3 } } mv).power =
      { s.power with inputWarn := true, powerStep := 3 } := (congrArg State.power (lowInput_frame ..) :)
  exact (congrArg Power.regulators hpower :).trans hreg

theorem inputWarning_announced (hwarn : s.power.inputWarn = false) (hreg : s.power.regulators = true) (mv : BitVec 16) :
    Goes (exec (.inputWarning true mv) s) (fun t =>
      t.power.inputWarn = true ∧ t.power.powerStep = 3 ∧ (smGet {} t.sources 0x383).pending = true ∧
      t.dict.errorRegister = s.dict.errorRegister ||| 5 ∧
      (mv.toNat < 42000 → t.meter.committed = s.meter.die.energy ∧ t.meter.die.eventCount = s.meter.die.eventCount + 1) ∧
      (42000 ≤ mv.toNat → t.meter = s.meter) ∧ t.mem = s.mem) := by
  refine ⟨_, congrArg Host.Outcome.next (inputEvent_away hwarn hreg mv.toNat), ?_⟩
  generalize hv : ({ s with power := { s.power with inputWarn := true, powerStep := 3 } } : State) = v
  have hlow := lowInput_frame v mv.toNat
  have hmeter := lowInput_meter v mv.toNat
  generalize lowInput v mv.toNat = w at hlow hmeter ⊢
  have hpend : Pends 0x383 (emcy (raise w 0x383) 0x3120 0) := pends_emcy (raise_pending (sourceDead_global (by decide) (by decide) _)) ..
  have hreports : Reports w (emcy (raise w 0x383) 0x3120 0) := reports_emcy (reports_raise (reports_refl w) _) ..
  have herr : (emcy (raise w 0x383) 0x3120 0).dict.errorRegister = w.dict.errorRegister ||| 5 := by
    have hdict : (raise w 0x383).dict = w.dict := (congrArg State.dict (raise_frame w 0x383) :)
    rw [emcy_errorRegister, hdict]
    show _ ||| 4 ||| 1 = _ ||| 5
    rw [BitVec.or_assoc]
    rfl
  generalize emcy (raise w 0x383) 0x3120 0 = x at hpend hreports herr ⊢
  have hsettle := settleSteps_frame x
  have hwp : w.power = v.power := (congrArg State.power hlow :)
  have hsp := congrArg State.power hsettle
  have hm : (settleSteps x).meter = w.meter := (congrArg State.meter hsettle :).trans (congrArg State.meter hreports :)
  subst hv
  refine ⟨?_, ?_, ?_, ?_, ?_, ?_, ?_⟩
  · exact (congrArg Power.inputWarn hsp :).trans (by rw [hreports.power, hwp])
  · exact (congrArg Power.powerStep hsp :).trans (by rw [hreports.power, hwp])
  · rw [settleSteps_sources]
    exact hpend
  · refine (congrArg (fun (t : State) => t.dict.errorRegister) hsettle :).trans (herr.trans ?_)
    exact (congrArg (fun (t : State) => t.dict.errorRegister ||| 5) hlow :)
  · rw [hm]
    exact hmeter.1
  · rw [hm]
    exact hmeter.2
  · exact (congrArg State.mem hsettle :).trans (hreports.mem.trans (congrArg State.mem hlow :))

theorem inputWarning_ends (hwarn : s.power.inputWarn = true) (mv : BitVec 16) :
    Goes (exec (.inputWarning false mv) s) (fun t =>
      t.power.inputWarn = false ∧ t.power.inputHold = 100 ∧ { t with power := s.power, dict := s.dict, out := s.out } = s) := by
  refine ⟨_, congrArg Host.Outcome.next (if_pos hwarn), ?_⟩
  have hclear := emcyClear_frame { s with power := { s.power with inputWarn := false, inputHold := 100 } }
  have hpower := congrArg State.power hclear
  refine ⟨(congrArg Power.inputWarn hpower :), (congrArg Power.inputHold hpower :), ?_⟩
  have h := congrArg (fun (t : State) => { t with power := s.power }) hclear
  exact h

theorem inputWarning_repeated {away : Bool} (hwarn : s.power.inputWarn = away) (mv : BitVec 16) : exec (.inputWarning away mv) s = .next s := by
  refine congrArg Host.Outcome.next ?_
  unfold inputEvent
  cases away
  · rw [if_neg (by decide), if_neg (by rw [hwarn]; decide)]
  · rw [if_pos rfl, if_pos hwarn]

/-! #### References and rails (R438, R440) -/

theorem pinReset_eq (hreg : s.power.regulators = true) (hst : s.startingPower = false) (cause : BitVec 8) :
    pinReset s cause = restart s .pin cause := by
  unfold pinReset
  rw [hreg, hst]
  rfl

theorem loseReference_resets (hreg : s.power.regulators = true) (hst : s.startingPower = false) :
    loseReference s = restart { s with power := { s.power with refLost := true } } .pin 8 := by
  unfold loseReference
  rw [if_neg (by rw [hreg]; decide)]
  exact pinReset_eq (s := { s with power := { s.power with refLost := true } }) hreg hst 8

/-! ##### Ports of a lost I/O die -/

theorem reports_emcyClear (h : Reports s t) : Reports s (emcyClear t) := by
  refine h.trans ?_
  have hf := congrArg (fun (u : State) => { u with rel := t.rel, draws := t.draws, sources := t.sources, dests := t.dests, cores := t.cores
                                                   drinex := t.drinex }) (emcyClear_frame t)
  exact hf

theorem reports_foldl {α : Type} {f : State → α → State} (hf : ∀ t a, Reports s t → Reports s (f t a)) (l : List α)
    (h : Reports s t) : Reports s (l.foldl f t) :=
  List.foldlRecOn (motive := fun (t : State) => Reports s t) l f h fun t h a _ => hf t a h

/-- A change of a port is reported, and changes no other port (R310). -/
theorem setPort_reports (s : State) (p : Nat) (k : Port) : ∃ lost, Reports
    { s with fabric := { s.fabric with ports := smSet {} s.fabric.ports p k, lostPlanes := lost } } (setPort s p k) := by
  unfold setPort
  apply Exists.intro
  dsimp only
  have hraise (c : Bool) {v w : State} (h : Reports v w) (n : Nat) : Reports v (if c = true then raise w n else w) := by
    cases c
    · exact h
    · exact reports_raise h n
  split
  · exact hraise _ (reports_refl _) _
  · refine reports_emcyClear (reports_foldl (fun t i h => ?_) _ (reports_raise (hraise _ (reports_refl _) _) _))
    split
    · exact reports_emcy h ..
    · exact h

theorem setPort_port (hp : smWf {} s.fabric.ports = true) (p : Nat) (k : Port) :
    (setPort s p k).mem = s.mem ∧ smWf {} (setPort s p k).fabric.ports = true ∧
      ∀ q, (setPort s p k).port q = if q = p then k else s.port q := by
  obtain ⟨lost, h⟩ := setPort_reports s p k
  have hports : (setPort s p k).fabric.ports = smSet {} s.fabric.ports p k := (congrArg Fabric.ports h.fabric :)
  refine ⟨h.mem, hports ▸ smWf_smSet hp p k, fun q => ?_⟩
  rw [State.port, hports]
  exact smGet_smSet hp p q k

/-- The port neither trains nor is up; another port stays. -/
structure PortOff (p : Nat) (s t : State) : Prop where
  mem : t.mem = s.mem
  wf : smWf {} t.fabric.ports = true
  notTraining : (t.port p).st ≠ 1
  notUp : (t.port p).st ≠ 2
  others : ∀ q, q ≠ p → t.port q = s.port q

theorem portOff_setPort (hp : smWf {} s.fabric.ports = true) (p : Nat) {k : Port} (h1 : k.st ≠ 1) (h2 : k.st ≠ 2) : PortOff p s (setPort s p k) := by
  obtain ⟨hmem, hwf, hport⟩ := setPort_port hp p k
  refine ⟨hmem, hwf, ?_, ?_, fun q hq => (hport q).trans (if_neg hq)⟩
  · rwa [hport, if_pos rfl]
  · rwa [hport, if_pos rfl]

theorem portOff_portFault {p : Nat} (h : PortOff p s t) (key target) : PortOff p s (portFault t p key target) := by
  have hr : Reports t (portFault t p key target) := reports_fault (reports_refl t) _
  have hport (q : Nat) : (portFault t p key target).port q = t.port q := by rw [State.port, hr.fabric]; rfl
  refine ⟨hr.mem.trans h.mem, hr.fabric ▸ h.wf, ?_, ?_, fun q hq => (hport q).trans (h.others q hq)⟩
  · rw [hport]; exact h.notTraining
  · rw [hport]; exact h.notUp

theorem portDown_off (hp : smWf {} s.fabric.ports = true) (p : Nat) : PortOff p s (portDown s p) := by
  unfold portDown
  dsimp only
  by_cases h1 : (s.port p).st = 1
  · rw [if_pos h1]
    exact portOff_setPort hp p (k := { s.port p with st := 0 }) (show (0 : BitVec 3) ≠ 1 by decide) (show (0 : BitVec 3) ≠ 2 by decide)
  · rw [if_neg h1]
    by_cases h2 : (s.port p).st = 2
    · rw [if_neg (not_not.2 h2)]
      generalize (if (s.port p).downHour = s.rel.hours then (s.port p).downsInHour + 1 else 1) = n
      have hst (m : BitVec 3) (hm : m ≠ 1 ∧ m ≠ 2) := portOff_setPort hp p (k := { (s.port p).idle with
        st := m, downs := satAdd (s.port p).downs 1, downHour := s.rel.hours, downsInHour := n }) hm.1 hm.2
      by_cases hn : n < 8
      · rw [if_pos hn, if_pos hn]
        exact hst 0 (by decide)
      · rw [if_neg hn, if_neg hn]
        exact portOff_portFault (hst 5 (by decide)) ..
    · rw [if_pos h2]
      exact ⟨rfl, hp, h1, h2, fun _ _ => rfl⟩

/-- The ports of a list that are off. -/
structure PortsOff (l : List Nat) (s t : State) : Prop where
  mem : t.mem = s.mem
  wf : smWf {} t.fabric.ports = true
  off : ∀ q ∈ l, (t.port q).st ≠ 1 ∧ (t.port q).st ≠ 2

theorem portsOff_cons {l : List Nat} (h : PortsOff l s t) {p : Nat} {u : State} (hu : PortOff p t u) : PortsOff (p :: l) s u := by
  refine ⟨hu.mem.trans h.mem, hu.wf, fun q hq => ?_⟩
  by_cases hqp : q = p
  · exact hqp ▸ ⟨hu.notTraining, hu.notUp⟩
  · rw [hu.others q hqp]
    exact h.off q ((List.mem_cons.1 hq).resolve_left hqp)

/-- One port of the die is brought down, if it is not disabled. -/
theorem portsOff_step {done : List Nat} {io : Nat} (h : PortsOff (done.filter (· / 4 % 2 = io)) s t) (p : Nat) :
    PortsOff ((p :: done).filter (· / 4 % 2 = io)) s (if p / 4 % 2 = io && (t.port p).st ≠ 4 then portDown t p else t) := by
  by_cases hp : p / 4 % 2 = io
  · rw [List.filter_cons_of_pos (by simpa using hp)]
    by_cases h4 : (t.port p).st = 4
    · rw [if_neg (by simp [h4])]
      exact portsOff_cons h ⟨rfl, h.wf, by rw [h4]; decide, by rw [h4]; decide, fun _ _ => rfl⟩
    · rw [if_pos (by rw [decide_eq_true hp, decide_eq_true h4]; rfl)]
      exact portsOff_cons h (portDown_off h.wf p)
  · rw [List.filter_cons_of_neg (by simpa using hp), if_neg (by simp [hp])]
    exact h

theorem portsOff_foldl {io : Nat} (l : List Nat) {done : List Nat} (h : PortsOff (done.filter (· / 4 % 2 = io)) s t) :
    PortsOff ((l.reverse ++ done).filter (· / 4 % 2 = io)) s
      (l.foldl (fun s p => if p / 4 % 2 = io && (s.port p).st ≠ 4 then portDown s p else s) t) := by
  induction l generalizing done t with
  | nil => exact h
  | cons p l ih =>
    rw [List.reverse_cons, List.append_assoc]
    exact ih (portsOff_step h p)

theorem setDrinex_reports (s : State) (d : Drinex) : Reports s (setDrinex s d) := by
  unfold setDrinex
  have h := reports_mk (reports_refl s) (out := s.out) (draws := s.draws) (cores := s.cores) (drinex := d) (dict := s.dict)
    (sources := s.sources) (dests := s.dests) (rel := s.rel)
  dsimp only
  split
  · exact h
  · exact reports_raise h _

theorem drinexDown_reports (s : State) : Reports s (drinexDown s) := by
  unfold drinexDown
  dsimp only
  split
  · exact reports_refl s
  · exact setDrinex_reports s _

theorem serdesLost_off (hp : smWf {} s.fabric.ports = true) (io : Nat) : (serdesLost s io).mem = s.mem ∧
    ∀ q < 64, q / 4 % 2 = io → ((serdesLost s io).port q).st ≠ 1 ∧ ((serdesLost s io).port q).st ≠ 2 := by
  have hoff := portsOff_foldl (io := io) (List.range 64) (done := []) (s := s) (t := s) ⟨rfl, hp, by simp⟩
  unfold serdesLost
  dsimp only
  generalize (List.range 64).foldl _ s = u at hoff ⊢
  have hu : ∀ q < 64, q / 4 % 2 = io → (u.port q).st ≠ 1 ∧ (u.port q).st ≠ 2 := fun q hq hio => hoff.off q (by simp [hq, hio])
  split
  · have hr := drinexDown_reports u
    refine ⟨hr.mem.trans hoff.mem, ?_⟩
    simp only [State.port, hr.fabric]
    exact hu
  · exact ⟨hoff.mem, hu⟩

/-! ##### Stacks and channels of a lost rail -/

/-- A mask without one of its bits. -/
theorem getLsbD_clearBit {w : Nat} (m : BitVec w) (i : Nat) {h : Nat} (hh : h < w) :
    (m &&& ~~~(1#w <<< i)).getLsbD h = (m.getLsbD h && decide (h ≠ i)) := by
  rw [BitVec.getLsbD_and, BitVec.getLsbD_not, BitVec.getLsbD_shiftLeft, BitVec.getLsbD_one]
  rcases Nat.lt_trichotomy h i with hlt | rfl | hlt
  · simp [hh, hlt, Nat.ne_of_lt hlt]
  · simp [hh]; omega
  · simp [hh, Nat.ne_of_gt hlt, show ¬h < i by omega, show ¬h - i = 0 by omega]

theorem downs_replayOthers (h : Downs s t) : Downs s (replayOthers t) := by
  unfold replayOthers outcome
  refine downs_foldl (fun t x h => downs_foldl (fun t d h => ?_) _ h) _ h
  split
  · exact h
  · exact h

theorem loseStack_stacks (s : State) (i : Nat) : (loseStack s i).mem = { s.mem with hbmStacks := s.mem.hbmStacks &&& ~~~(1#12 <<< i) } :=
  (congrArg State.mem (downs_replayOthers (downs_blameLost (downs_refl _) _ stData)) :)

theorem loseChannel_channels (s : State) (i : Nat) :
    (loseChannel s i).mem = { s.mem with channels := s.mem.channels &&& ~~~(1#8 <<< i) } :=
  (congrArg State.mem (downs_blameLost (downs_refl _) _ stData) :)

theorem relocate_channels (s : State) (i : Nat) : (relocate s i).mem.channels = s.mem.channels := by
  unfold relocate
  dsimp only
  split
  · rfl
  · have hr : (raise { s with mem := { s.mem with journal := s.mem.journal.filter (· ≠ i) } } 0x38D).mem.channels = s.mem.channels := by
      rw [(reports_raise (reports_refl _) _).mem]
    generalize raise _ 0x38D = u at hr ⊢
    split
    · exact hr
    · exact hr

/-- What each of the parts loses its bit of. -/
theorem foldl_clears {w : Nat} {f : State → Nat → State} {m : State → BitVec w} (hf : ∀ t i, m (f t i) = m t &&& ~~~(1#w <<< i))
    (l : List Nat) (s : State) {h : Nat} (hh : h < w) : (m (l.foldl f s)).getLsbD h = ((m s).getLsbD h && decide (h ∉ l)) := by
  induction l generalizing s with
  | nil => simp
  | cons i l ih =>
    rw [List.foldl_cons, ih, hf, getLsbD_clearBit _ _ hh, Bool.and_assoc]
    congr 1
    simp [not_or]

theorem mem_block {n k h : Nat} (hn : 0 < n) : h ∈ (List.range n).map (n * k + ·) ↔ h / n = k := by
  rw [List.mem_map]
  constructor
  · rintro ⟨i, hi, rfl⟩
    rw [Nat.mul_add_div hn, Nat.div_eq_of_lt (List.mem_range.1 hi), Nat.add_zero]
  · rintro rfl
    exact ⟨h % n, List.mem_range.2 (Nat.mod_lt _ hn), Nat.div_add_mod h n⟩

theorem railReset_stacks (hreg : s.power.regulators = true) {rail : Nat} (hr : rail = 10 ∨ rail = 11) {h : Nat} (hh : h < 12) :
    (railReset s rail).mem.hbmStacks.getLsbD h = (s.mem.hbmStacks.getLsbD h && decide (h / 6 ≠ rail - 10)) := by
  have heq : railReset s rail = ((List.range 6).map (6 * (rail - 10) + ·)).foldl loseStack s := by
    rcases hr with rfl | rfl <;> exact if_pos hreg
  rw [heq, foldl_clears (m := fun t => t.mem.hbmStacks) (fun t i => by rw [loseStack_stacks]) _ s hh]
  simp only [mem_block (show 0 < 6 by decide)]

theorem railReset_channels (hreg : s.power.regulators = true) {rail : Nat} (hr : rail = 12 ∨ rail = 13) {c : Nat} (hc : c < 8) :
    (railReset s rail).mem.channels.getLsbD c = (s.mem.channels.getLsbD c && decide (c / 4 ≠ rail - 12)) := by
  have heq : railReset s rail = ((List.range 4).map (4 * (rail - 12) + ·)).foldl (fun s m => relocate (loseChannel s m) m) s := by
    rcases hr with rfl | rfl <;> exact if_pos hreg
  rw [heq, foldl_clears (m := fun t => t.mem.channels) (fun t i => by rw [relocate_channels, loseChannel_channels]) _ s hc]
  simp only [mem_block (show 0 < 4 by decide)]

theorem railReset_die {rail d : Nat} (hd : d < 2) (hr : rail = 2 + d ∨ rail = 4 + d) : railReset s rail = dieResetBegin s d := by
  have hcases : d = 0 ∨ d = 1 := by omega
  rcases hcases with rfl | rfl <;> rcases hr with rfl | rfl <;> rfl

theorem railReset_pin {rail : Nat} (hr : rail = 6 ∨ rail = 7 ∨ rail = 14) : railReset s rail = pinReset s 9 := by
  rcases hr with rfl | rfl | rfl <;> rfl

theorem railReset_serdes (hreg : s.power.regulators = true) {rail : Nat} (hr : rail = 8 ∨ rail = 9) :
    railReset s rail = serdesLost s (rail - 8) := by
  rcases hr with rfl | rfl <;> exact if_pos hreg

end

theorem powerSamples (s : State) (mw : BitVec 32) :
    (s.power.regulators = false → exec (.powerSample mw) s = .next s) ∧
    (s.controlled = true → 3300000 < mw.toNat → Goes (exec (.powerSample mw) s) (fun t =>
      t.power.powerStep = 3 ∧ t.power.step0 = 3 ∧ t.power.step1 = 3 ∧ { t with power := s.power } = s)) ∧
    (s.controlled = true → s.power.inputWarn = false → s.power.inputHold ≤ 1 → s.power.fasterHold = 0 → 9 ≤ s.power.sinceSlower →
      9 ≤ s.power.samples.length → mw.toNat ≤ 3300000 → s.power.limitW.toNat * 1000 < meanOf 10 (mw.toNat :: s.power.samples) →
      Goes (exec (.powerSample mw) s) (fun t =>
        t.power.powerStep = slower s.power.powerStep ∧ t.power.sinceSlower = 0 ∧ { t with power := s.power } = s)) ∧
    (s.power.regulators = true → s.controlled = false → exec (.powerSample mw) s =
      .next { s with power := { s.power with samples := (mw.toNat :: s.power.samples).take 100 } }) := by
  obtain ⟨hreg, hboot⟩ := powerStepOf_gates s.power mw.toNat
  have hcontrolled : ({ s with power := powerStepOf s.power mw.toNat } : State).controlled = s.controlled := by
    simp only [State.controlled, hreg, hboot]
  have hsettle := settleSteps_frame { s with power := powerStepOf s.power mw.toNat }
  have hframe := congrArg (fun (t : State) => { t with power := s.power }) hsettle
  have hpower := congrArg State.power hsettle
  refine ⟨fun hoff => congrArg Host.Outcome.next (if_pos (by rw [hoff]; rfl)), fun hc hmw => ?_,
    fun hc hwarn hhold hfast hsince hlen hmw habove => ?_, fun hreg hc => congrArg Host.Outcome.next (samplePower_idle hreg hc mw.toNat)⟩
  · obtain ⟨hstep, h0, h1⟩ := settleSteps_slowest (hcontrolled.trans hc) (powerStepOf_high s.power hmw)
    exact ⟨_, congrArg Host.Outcome.next (samplePower_controlled hc mw.toNat), hstep, h0, h1, hframe⟩
  · obtain ⟨hstep, hzero⟩ := powerStepOf_above hwarn hhold hfast hsince hlen hmw habove
    exact ⟨_, congrArg Host.Outcome.next (samplePower_controlled hc mw.toNat), (congrArg Power.powerStep hpower :).trans hstep,
      (congrArg Power.sinceSlower hpower :).trans hzero, hframe⟩

/-- Settles O49: the samples, the input warning, and the rails one by one; what a lost part's announcements leave is in `Reports` and `Downs`. -/
theorem powerAndTemperatureControl : Obligations.PowerAndTemperatureControl := by
  unfold Obligations.PowerAndTemperatureControl
  intro s
  refine ⟨powerSamples s, fun temps hreg => ⟨fun hc hno => ?_, fun hc hno => sampleTemps_controls hc hno,
      fun hbeyond hwas => sampleTemps_shuts hreg hbeyond hwas⟩,
    fun mv => ⟨fun hwarn hreg => inputWarning_announced hwarn hreg mv, fun hwarn => inputWarning_ends hwarn mv,
      fun away hwarn => inputWarning_repeated hwarn mv⟩,
    fun hreg hst => ⟨_, congrArg Host.Outcome.next (loseReference_resets hreg hst), rfl, rfl, rfl, rfl, rfl⟩,
    fun hreg => congrArg Host.Outcome.next (if_pos (by rw [hreg]; rfl)), rfl, fun rail => ⟨fun h => ?_, fun h => ?_, fun d hr hreg hst hdrain => ?_,
      fun hr hreg hst => ?_, fun hr hs hreg => ?_, fun hr hreg => ?_, fun hr hreg => ?_⟩⟩
  · have heq := sampleTemps_once hreg hno
    rw [if_neg (by rw [hc]; decide)] at heq
    exact congrArg Host.Outcome.next heq
  · refine congrArg Host.Outcome.next ?_
    rw [h]
    rfl
  · refine ⟨_, congrArg Host.Outcome.next (congrArg (railReset s) h), rfl, rfl, rfl, rfl⟩
  · obtain ⟨hmark, hcount, hsec, hmem⟩ := dieResetBegin_begins (d := d.val) hreg hst hdrain
    exact ⟨_, congrArg Host.Outcome.next (railReset_die d.isLt hr), hmark, hcount, (congrArg Security.nonce hsec :), hmem⟩
  · exact ⟨_, congrArg Host.Outcome.next ((railReset_pin hr).trans (pinReset_eq hreg hst 9)), rfl, rfl, rfl⟩
  · obtain ⟨-, -, -, -, -, -, -, hports, -⟩ := State.wf_iff.1 hs
    obtain ⟨hmem, hoff⟩ := serdesLost_off hports (rail.val - 8)
    exact ⟨_, congrArg Host.Outcome.next (railReset_serdes hreg hr), hoff, hmem⟩
  · exact ⟨_, rfl, fun h hh => railReset_stacks hreg hr hh⟩
  · exact ⟨_, rfl, fun c hc => railReset_channels hreg hr hc⟩

end Sys2Proof.Machine
end

section
/-! PROOFS. Re-tests, compaction and the checkpoint (O41). -/

namespace Sys2Proof.Machine

/-! ### Re-tests, compaction and checkpoints (R385, R386, R391) -/

section
variable {r : Reliability} {s : State} {k : EphKey}

theorem Reliability.history_setHistory_other {h : EphHistory} (hk : h.key ≠ k) : (r.setHistory h).history k = r.history k := by
  have hfind : (r.setHistory h).histories.find? (fun x => decide (x.key = k)) = r.histories.find? (fun x => decide (x.key = k)) := by
    rw [Reliability.setHistory, List.find?_cons_of_neg (by simpa using hk), List.find?_filter]
    congr 1
    funext x
    by_cases hx : x.key = k
    · simp [hx, Ne.symm hk]
    · simp [hx]
  rw [Reliability.history, Reliability.history, hfind]

theorem logEntry_frame (s : State) (cls unit key verdict : Nat) (syn : Bytes) :
    { logEntry s cls unit key verdict syn with rel := s.rel } = s ∧ Logs s.rel (logEntry s cls unit key verdict syn).rel ∧
      (logEntry s cls unit key verdict syn).rel.histories = s.rel.histories :=
  ⟨rfl, logs_log (logs_refl s.rel) .., Reliability.log_histories ..⟩

/-- A history that is permanent stays so through an event at its unit. -/
theorem ephEvent_keeps_permanent {j : EphKey} (hj : j.unit = k.unit) (hv : (r.history k).verdict = 3)
    (hin : r.permanentUnit k.unit = true) : 3 ≤ ((ephEvent r j).1.history k).verdict := by
  by_cases hjk : j = k
  · rw [hjk]
    exact ephEvent_permanent hin
  · have hfirst : (ephEvent r j).1 = r.setHistory { r.history j with
        events := r.now :: (r.history j).events.filter (fun t => decide (r.now < t + 144)), verdict := max (r.history j).verdict 3 } := by
      unfold ephEvent
      rw [hj]
      dsimp only
      rw [if_pos hin]
    have hother : (ephEvent r j).1.history k = r.history k := by
      rw [hfirst]
      exact Reliability.history_setHistory_other (fun h => hjk ((r.history_key j).symm.trans h))
    rw [hother, hv]

theorem permanentUnit_setHistory {h : EphHistory} (hk : h.key = k) (hv : h.verdict = 3) :
    (r.setHistory h).permanentUnit k.unit = true := by
  unfold Reliability.permanentUnit Reliability.setHistory
  rw [List.any_cons, hk, hv]
  simp

/-! #### The verdict of a re-test (R391) -/

theorem retest_passes (h : (s.rel.history k).verdict = 2) (test : Nat) :
    (retestResult s k true test).rel.history k = { s.rel.history k with verdict := 1, events := [] } ∧
      (retestResult s k true test).rel.passed = satAdd s.rel.passed 1 ∧ { retestResult s k true test with rel := s.rel } = s := by
  have heq : retestResult s k true test = logEntry { s with rel :=
      { s.rel.setHistory { s.rel.history k with verdict := 1, events := [] } with passed := satAdd s.rel.passed 1 } } 0xF1 k.unit.toNat k.key.toNat 1 [] := by
    unfold retestResult
    rw [if_neg (by rw [h]; decide)]
    rfl
  rw [heq]
  generalize hu : ({ s with rel := { s.rel.setHistory { s.rel.history k with verdict := 1, events := [] } with
    passed := satAdd s.rel.passed 1 } } : State) = u
  obtain ⟨hframe, hlogs, hhist⟩ := logEntry_frame u 0xF1 k.unit.toNat k.key.toNat 1 []
  refine ⟨?_, ?_, ?_⟩
  · rw [Reliability.history_congr hhist]
    subst hu
    exact Reliability.history_setHistory (s.rel.history_key k)
  · refine (congrArg Reliability.passed hlogs :).trans ?_
    subst hu
    rfl
  · have h := congrArg (fun (t : State) => { t with rel := s.rel }) hframe
    refine Eq.trans h ?_
    subst hu
    rfl

theorem retest_fails (h : (s.rel.history k).verdict = 2) (test : Nat) : ∃ u, retestResult s k false test = retireUnit u k ∧
    3 ≤ (u.rel.history k).verdict ∧ u.rel.failed = satAdd s.rel.failed 1 ∧ (smGet {} u.sources 0x381).pending = true ∧
    u.mem = s.mem ∧ u.contexts = s.contexts := by
  obtain ⟨id, heq⟩ : ∃ id, retestResult s k false test = retireUnit (raise (logEntry (fault { s with rel :=
      { s.rel.setHistory { s.rel.history k with verdict := 3 } with failed := satAdd s.rel.failed 1 } }
      { unit := k.unit.toNat, src := 8, sev := 4, cls := 0x0B, key := test, syn := id }) 0xF1 k.unit.toNat k.key.toNat 3 []) 0x381) k := by
    unfold retestResult
    rw [if_neg (by rw [h]; decide)]
    exact ⟨_, rfl⟩
  generalize hr : ({ s.rel.setHistory { s.rel.history k with verdict := 3 } with failed := satAdd s.rel.failed 1 } : Reliability) = r at heq
  have hperm : r.permanentUnit k.unit = true := by
    subst hr
    exact permanentUnit_setHistory (s.rel.history_key k) rfl
  have hverdict : (r.history k).verdict = 3 := by
    subst hr
    exact congrArg EphHistory.verdict (Reliability.history_setHistory (r := s.rel) (h := { s.rel.history k with verdict := 3 }) (s.rel.history_key k))
  have hfailed : r.failed = satAdd s.rel.failed 1 := by
    subst hr
    rfl
  have hn : (FaultNote.ephKey { unit := k.unit.toNat, src := 8, sev := 4, cls := 0x0B, key := test, syn := id }).unit = k.unit :=
    BitVec.ofNat_toNat ..
  generalize hnote : ({ unit := k.unit.toNat, src := 8, sev := 4, cls := 0x0B, key := test, syn := id } : FaultNote) = n at heq hn
  have hcls : n.cls = 0x0B := by rw [← hnote]
  have hhist : (fault { s with rel := r } n).rel.histories = (ephEvent r n.ephKey).1.histories := by
    obtain ⟨-, -, -, h⟩ := fault_recorded (s := { s with rel := r }) (n := n) (by rw [hcls]; decide)
    exact h.trans (if_pos (by rw [hcls]; decide))
  have hreports := reports_fault (reports_refl { s with rel := r }) n
  have hlogs : Logs r (fault { s with rel := r } n).rel := logs_fault (logs_refl r) n
  generalize fault { s with rel := r } n = f at hreports hhist hlogs heq
  have hlogged : Reports { s with rel := r } (logEntry f 0xF1 k.unit.toNat k.key.toNat 3 []) := reports_mk hreports
  have hall := reports_raise hlogged 0x381
  have hlog : Logs r (logEntry f 0xF1 k.unit.toNat k.key.toNat 3 []).rel := logs_log hlogs ..
  have hhist' := (logEntry_frame f 0xF1 k.unit.toNat k.key.toNat 3 []).2.2
  refine ⟨_, heq, ?_, ?_, raise_pending (sourceDead_global (by decide) (by decide) _), hall.mem, hall.contexts⟩
  · rw [raise_rel, Reliability.history_congr (hhist'.trans hhist)]
    exact ephEvent_keeps_permanent hn hverdict hperm
  · rw [raise_rel, show _ = r.failed from (congrArg Reliability.failed hlog :)]
    exact hfailed

/-! #### Compaction (R385) -/

/-- Appending keeps what the log holds, adds the entry, and changes only the blocks (R384). -/
theorem append_appends (r : Reliability) (e : Bytes) : (∀ x, x ∈ (r.append e).flashBlocks.flatten ↔ x ∈ r.flashBlocks.flatten ∨ x = e) ∧
    (r.append e).oldestBlock = r.oldestBlock ∧ (r.append e).histories = r.histories := by
  unfold Reliability.append
  split
  · next b older hrev =>
    have hblocks : r.flashBlocks = older.reverse ++ [b] := by
      have h := congrArg List.reverse hrev
      rwa [List.reverse_reverse, List.reverse_cons] at h
    split
    · refine ⟨fun x => ?_, rfl, rfl⟩
      simp [hblocks, or_assoc]
    · exact ⟨fun x => by simp [hblocks, or_assoc], rfl, rfl⟩
  · next hrev =>
    have hblocks : r.flashBlocks = [] := List.reverse_eq_nil_iff.1 hrev
    exact ⟨fun x => by simp [hblocks], rfl, rfl⟩

theorem foldl_appends (l : List Bytes) (r : Reliability) :
    (∀ x, x ∈ (l.foldl (fun (r : Reliability) e => r.append e) r).flashBlocks.flatten ↔ x ∈ r.flashBlocks.flatten ∨ x ∈ l) ∧
    (l.foldl (fun (r : Reliability) e => r.append e) r).oldestBlock = r.oldestBlock ∧
    (l.foldl (fun (r : Reliability) e => r.append e) r).histories = r.histories := by
  induction l generalizing r with
  | nil => simp
  | cons e l ih =>
    obtain ⟨hflat, hold, hhist⟩ := append_appends r e
    obtain ⟨hflat', hold', hhist'⟩ := ih (r.append e)
    refine ⟨fun x => ?_, hold'.trans hold, hhist'.trans hhist⟩
    rw [List.foldl_cons, hflat', hflat, List.mem_cons, or_assoc]

theorem compact_compacts {b : List Bytes} {rest : List (List Bytes)} (hfull : s.rel.flashErased < 16) (hblocks : s.rel.flashBlocks = b :: rest) :
    (∀ e ∈ liveEntries b rest.flatten, ∃ blk ∈ (compact s).rel.flashBlocks, e ∈ blk) ∧ (∀ e ∈ rest.flatten, e ∈ (compact s).rel.flashBlocks.flatten) ∧
      (compact s).rel.oldestBlock = (s.rel.oldestBlock + 1) % 1024 ∧ (compact s).rel.histories = s.rel.histories ∧ { compact s with rel := s.rel } = s := by
  obtain ⟨hflat, hold, hhist⟩ := foldl_appends (liveEntries b rest.flatten) { s.rel with flashBlocks := rest }
  unfold compact
  rw [if_neg (Nat.not_le.2 hfull), hblocks]
  dsimp only
  refine ⟨fun e he => List.mem_flatten.1 ((hflat e).2 (.inr he)), fun e he => (hflat e).2 (.inl he), ?_, hhist, rfl⟩
  rw [hold]

/-! #### The checkpoint (R386) -/

theorem hoursTick_counts (s : State) : (hoursTick s).rel.now = s.rel.now + 1 ∧ (hoursTick s).rel.histories = s.rel.histories ∧
    { hoursTick s with rel := s.rel } = s := by
  unfold hoursTick
  dsimp only
  generalize hr : (if s.rel.sixths = 5 then { s.rel with hours := s.rel.hours + 1, sixths := 0 }
    else { s.rel with sixths := s.rel.sixths + 1 } : Reliability) = r
  obtain ⟨hframe, hlogs, hhist⟩ := logEntry_frame { s with rel := r } 0xF2 0 0 0 (leBytes 4 r.hours ++ leBytes 1 r.sixths)
  have hnow : (logEntry { s with rel := r } 0xF2 0 0 0 (leBytes 4 r.hours ++ leBytes 1 r.sixths)).rel.now = r.now := (congrArg Reliability.now hlogs :)
  refine ⟨hnow.trans ?_, hhist.trans ?_, (congrArg (fun (t : State) => { t with rel := s.rel }) hframe :)⟩
  · subst hr
    unfold Reliability.now
    split
    · next h => dsimp only; omega
    · dsimp only; omega
  · subst hr
    split <;> rfl

end

/-- Settles O41: the histories of a re-test, the entries that compaction copies, and the checkpoint. -/
theorem retestsDecideVerdicts : Obligations.RetestsDecideVerdicts := by
  unfold Obligations.RetestsDecideVerdicts
  intro s k h decides
  have hdecides (hv : h.verdict = 2) (c : Bool → Instr) (hc : ∀ pass, exec (c pass) s =
      .next (retestResult s.draw k pass ((Config.syndromeBits s.draws).toNat % 4096))) : decides c := by
    refine ⟨?_, ?_⟩
    · obtain ⟨hhist, hpassed, hframe⟩ := retest_passes (s := s.draw) hv ((Config.syndromeBits s.draws).toNat % 4096)
      exact ⟨_, hc true, hhist, hpassed, congrArg (fun (t : State) => { t with draws := s.draws }) hframe⟩
    · exact ⟨_, hc false, retest_fails (s := s.draw) hv _⟩
  refine ⟨fun hv hidle => hdecides hv _ fun pass => congrArg Host.Outcome.next (if_pos hidle),
    fun hidle pass => congrArg Host.Outcome.next (if_neg (by rw [hidle]; decide)), fun hv => hdecides hv _ fun pass => rfl,
    fun hfull => congrArg Host.Outcome.next (if_pos hfull), fun b rest hfull hblocks => ⟨_, rfl, compact_compacts hfull hblocks⟩,
    ⟨_, rfl, hoursTick_counts s⟩⟩

end Sys2Proof.Machine
end

section
/-! PROOFS. The Almanac (O42). -/

namespace Sys2Proof.Machine

/-! ### The Almanac (R388 to R391, R396) -/

section
variable {s : State} {acc : Accessor}

theorem ownObject_almanac : OwnObject 0x3820 1 16 := by constructor <;> decide +kernel

/-- A command of the Almanac is answered with what it leaves. -/
theorem dictCommandWith_almanac (h : Admitted s acc 0x3820 1 = true) {b : Bytes} (hl : b.length = 16) (fails : List (EphKey × Nat)) :
    dictCommandWith s acc 0x3820 1 b fails = (countAbort (almanacCommand s b fails).1 (almanacCommand s b fails).2).send
      (.dictReply acc.cls (BitVec.ofNat 32 (almanacCommand s b fails).2) []) := by
  obtain ⟨hsize, hfabric⟩ := ownObject_almanac
  obtain ⟨r, hr, hsel, hlen⟩ := plainSize_row hsize
  have ht := touchSelects_unselected h hfabric
  refine dictCommandWith_answers h hr (hl.trans hlen.symm) ?_
  rw [ht]
  simp [writeObject, hsel]
  rfl

/-- The word of a command (R389, R390). -/
theorem commandBytes_long {op v : Nat} (hop : op < 256) (hv : v < 2 ^ 64) : byteAt (commandBytes op 0 v) 0 = op ∧
    zeroRange (commandBytes op 0 v) 1 8 = true ∧ leAt (commandBytes op 0 v) 8 8 = v := by
  have hword : leAt (commandBytes op 0 v) 8 8 = leNat (leBytes 8 v) := rfl
  have hbyte : byteAt (commandBytes op 0 v) 0 = op := Nat.mod_eq_of_lt hop
  have hzero : leAt (commandBytes op 0 v) 1 7 = leNat (leBytes 1 0 ++ leBytes 6 0) := rfl
  have hpow : (256 : Nat) ^ 8 = 2 ^ 64 := by norm_num
  refine ⟨hbyte, beq_iff_eq.2 (hzero.trans (by decide)), hword.trans (leNat_leBytes_of_lt ?_)⟩
  rw [hpow]
  exact hv

theorem almanac_takes (h : Admitted s acc 0x3820 1 = true) {op v : Nat} {fails : List (EphKey × Nat)} {u : State}
    (hw : almanacCommand s (commandBytes op 0 v) fails = accepted u) :
    .next (dictCommandWith s acc 0x3820 1 (commandBytes op 0 v) fails) = Replied acc u := by
  rw [dictCommandWith_almanac h rfl, hw]
  rfl

theorem almanac_refuses (h : Admitted s acc 0x3820 1 = true) {op v : Nat} {fails : List (EphKey × Nat)} {e : Nat}
    (hw : almanacCommand s (commandBytes op 0 v) fails = aborted s e) :
    .next (dictCommandWith s acc 0x3820 1 (commandBytes op 0 v) fails) = Refused s acc e := by
  rw [dictCommandWith_almanac h rfl, hw]
  rfl

theorem almanacCommand_load {v : Nat} (hv : v < 2 ^ 64) : almanacCommand s (commandBytes 1 0 v) [] = accepted (almanacLoad s v) := by
  obtain ⟨hbyte, hzero, hword⟩ := commandBytes_long (op := 1) (by decide) hv
  unfold almanacCommand
  rw [hzero, hbyte, hword]
  rfl

theorem almanacCommand_scheduled {v : Nat} (hv : v < 2 ^ 64) (hunit : unitCodeOk v = true) (fails : List (EphKey × Nat)) :
    almanacCommand s (commandBytes 4 0 v) fails = if s.rel.bundle.isNone then aborted s abState else accepted (scheduledRun s v fails) := by
  obtain ⟨hbyte, hzero, hword⟩ := commandBytes_long (op := 4) (by decide) hv
  unfold almanacCommand
  rw [hzero, hbyte, hword]
  have hgo : ¬(!(unitCodeOk v)) = true := by rw [hunit]; decide
  exact if_neg hgo

/-! #### Loading, runs and failures -/

theorem almanacLoad_loads {a : Nat} {b : Bytes} (hb : bundleAt s a = some b) (hok : bundleOk s.sec b = true) :
    almanacLoad s a = { s with rel := { s.rel with bundle := some b } } := by
  unfold almanacLoad
  rw [hb]
  exact if_pos hok

theorem almanacLoad_rejects {a : Nat} (hno : ∀ b, bundleAt s a = some b → bundleOk s.sec b = false) :
    almanacLoad s a = fault s { src := 6, sev := 0, cls := 0x0D, key := 4, syn := leBytes 8 a } := by
  unfold almanacLoad
  cases hb : bundleAt s a with
  | none => rfl
  | some b => exact if_neg (by rw [hno b hb]; decide)

/-- What a fault records, and the counts of the Almanac that it leaves. -/
theorem fault_rel {t : State} {n : FaultNote} (hn : n.cls ≠ 1) : let f := fault t n
    f.rel.recordCount = t.rel.recordCount + 1 ∧ f.rel.failed = t.rel.failed ∧ f.rel.bundle = t.rel.bundle ∧ f.mem = t.mem ∧ f.contexts = t.contexts := by
  obtain ⟨hcount, -⟩ := fault_recorded (s := t) hn
  have hlogs := logs_fault (logs_refl t.rel) n
  have hr := reports_fault (reports_refl t) n
  exact ⟨hcount, (congrArg Reliability.failed hlogs :), (congrArg Reliability.bundle hlogs :), hr.mem, hr.contexts⟩

theorem testFailed_counts (s : State) (unit test : Nat) : let t := testFailed s unit test
    t.rel.failed = satAdd s.rel.failed 1 ∧ t.rel.recordCount = s.rel.recordCount + 1 ∧ t.mem = s.mem ∧ t.contexts = s.contexts := by
  obtain ⟨n, hn, heq⟩ : ∃ n, n.cls = 0x0B ∧ testFailed s unit test = fault { s with rel := { s.rel with failed := satAdd s.rel.failed 1 } } n :=
    ⟨_, rfl, rfl⟩
  obtain ⟨hcount, hfailed, -, hmem, hctx⟩ := fault_rel (t := { s with rel := { s.rel with failed := satAdd s.rel.failed 1 } }) (n := n) (by rw [hn]; decide)
  rw [heq]
  exact ⟨hfailed, hcount, hmem, hctx⟩

/-- The end of a scheduled run. -/
theorem scheduledRun_leaves {scope : Nat} {fails : List (EphKey × Nat)} {u : State}
    (hu : (fails.filter (fun f => testedUnit s scope f.1)).foldl (fun s f => testFailed s f.1.unit.toNat f.2) s = u) :
    let t := scheduledRun s scope fails
    t.rel.failed = u.rel.failed ∧ t.rel.recordCount = u.rel.recordCount ∧ t.rel.bundle = u.rel.bundle ∧ t.mem = u.mem ∧ t.contexts = u.contexts ∧
      { t with rel := u.rel, draws := u.draws } = u := by
  unfold scheduledRun
  rw [hu]
  dsimp only
  generalize hv : ({ u with rel := { u.rel with passed := satAdd u.rel.passed (Config.scheduledPasses u.draws) }, draws := u.draws + 1 } : State) = v
  obtain ⟨hframe, hlogs, -⟩ := logEntry_frame v 0xF4 0 0 0 (bytesOf 14 (Config.runSummaryByte u.draws))
  have hfailed := congrArg Reliability.failed hlogs
  have hbundle := congrArg Reliability.bundle hlogs
  have hcount : (logEntry v 0xF4 0 0 0 (bytesOf 14 (Config.runSummaryByte u.draws))).rel.recordCount = v.rel.recordCount := Reliability.log_recordCount ..
  have hmem := congrArg State.mem hframe
  have hctx := congrArg State.contexts hframe
  have hall := congrArg (fun (t : State) => { t with rel := u.rel, draws := u.draws }) hframe
  subst hv
  exact ⟨hfailed, hcount, hbundle, hmem, hctx, hall⟩

theorem scheduledRun_none (scope : Nat) : (scheduledRun s scope []).rel.failed = s.rel.failed ∧ (scheduledRun s scope []).rel.bundle = s.rel.bundle ∧
    { scheduledRun s scope [] with rel := s.rel, draws := s.draws } = s := by
  obtain ⟨hfailed, -, hbundle, -, -, hframe⟩ := scheduledRun_leaves (s := s) (scope := scope) (fails := []) rfl
  exact ⟨hfailed, hbundle, hframe⟩

theorem scheduledRun_one {scope : Nat} {f : EphKey × Nat} (hf : testedUnit s scope f.1 = true) : let u := scheduledRun s scope [f]
    u.rel.failed = satAdd s.rel.failed 1 ∧ u.rel.recordCount = s.rel.recordCount + 1 ∧ u.mem = s.mem ∧ u.contexts = s.contexts := by
  have hfold : ([f].filter (fun f => testedUnit s scope f.1)).foldl (fun s f => testFailed s f.1.unit.toNat f.2) s =
      testFailed s f.1.unit.toNat f.2 := by
    rw [List.filter_cons_of_pos (by exact hf)]
    rfl
  obtain ⟨hfailed, hcount, -, hmem, hctx, -⟩ := scheduledRun_leaves hfold
  obtain ⟨hf1, hf2, hf3, hf4⟩ := testFailed_counts s f.1.unit.toNat f.2
  exact ⟨hfailed.trans hf1, hcount.trans hf2, hmem.trans hf3, hctx.trans hf4⟩

theorem scheduledRun_other {scope : Nat} {f : EphKey × Nat} (hf : testedUnit s scope f.1 = false) : let u := scheduledRun s scope [f]
    u.rel.failed = s.rel.failed ∧ u.rel.recordCount = s.rel.recordCount ∧ u.mem = s.mem ∧ u.contexts = s.contexts := by
  have hfold : ([f].filter (fun f => testedUnit s scope f.1)).foldl (fun s f => testFailed s f.1.unit.toNat f.2) s = s := by
    rw [List.filter_cons_of_neg (by rw [hf]; decide)]
    rfl
  obtain ⟨hfailed, hcount, -, hmem, hctx, -⟩ := scheduledRun_leaves hfold
  exact ⟨hfailed, hcount, hmem, hctx⟩

/-! #### Idle steps (R390) -/

theorem idleStep_runs {g test : Nat} {b : Bytes} (hb : s.rel.bundle = some b) (hon : s.rel.idleRunning = true) (hg : s.present g = true)
    (hidle : coreIdle (s.core g) = true) (htest : test < leAt b 28 4) (pass : Bool) : idleStep s g test pass =
      if pass then { s with rel := { s.rel with passed := satAdd s.rel.passed 1 } } else testFailed s (s.coreUnit g) test := by
  unfold idleStep
  rw [hb]
  dsimp only
  rw [if_neg (by rw [hon, hg, hidle]; simp [htest])]

theorem idleStep_off (hoff : s.rel.idleRunning = false) (g test : Nat) (pass : Bool) : idleStep s g test pass = s := by
  unfold idleStep
  split
  · rfl
  · exact if_pos (by rw [hoff]; rfl)

end

/-- Settles O42: the commands of the Almanac on its object, and what a failed test counts. -/
theorem almanacCommandsAct : Obligations.AlmanacCommandsAct := by
  unfold Obligations.AlmanacCommandsAct
  intro s
  refine ⟨fun acc hadm => ⟨fun a b hb hok => ?_, fun a hno => ?_, ?_, ?_, ?_, fun scope hunit => ?_⟩,
    fun g test b hb hon hg hidle htest => ⟨congrArg Host.Outcome.next (idleStep_runs hb hon hg hidle htest true),
      _, congrArg Host.Outcome.next (idleStep_runs hb hon hg hidle htest false), testFailed_counts ..⟩,
    fun g test pass hoff => congrArg Host.Outcome.next (idleStep_off hoff ..)⟩
  · exact almanac_takes hadm ((almanacCommand_load a.isLt).trans (congrArg accepted (almanacLoad_loads hb hok)))
  · obtain ⟨hcount, -, hbundle, hmem, -⟩ := fault_rel (t := s) (n := { src := 6, sev := 0, cls := 0x0D, key := 4, syn := leBytes 8 a.toNat })
      (show (0x0D : Nat) ≠ 1 by decide)
    exact ⟨_, almanac_takes hadm ((almanacCommand_load a.isLt).trans (congrArg accepted (almanacLoad_rejects hno))), hbundle, hcount, hmem⟩
  · exact almanac_takes hadm rfl
  · exact almanac_takes hadm rfl
  · exact almanac_takes hadm rfl
  · have hcommand := almanacCommand_scheduled (s := s) scope.isLt hunit
    have hruns (hb : s.rel.bundle ≠ none) (fails : List (EphKey × Nat)) :
        exec (.runScheduled acc scope fails) s = Replied acc (scheduledRun s scope.toNat fails) :=
      almanac_takes hadm ((hcommand fails).trans (if_neg (by simpa using hb)))
    refine ⟨fun hb => ⟨_, hruns hb [], scheduledRun_none _⟩, fun hb f hf => ⟨_, hruns hb [f], scheduledRun_one hf⟩,
      fun hb f hf => ⟨_, hruns hb [f], scheduledRun_other hf⟩, fun hb fails => ?_⟩
    exact almanac_refuses hadm ((hcommand fails).trans (if_pos (by rw [hb]; rfl)))

end Sys2Proof.Machine
end

section
/-! PROOFS. Supply dips and parity errors of control cores (O43). -/

namespace Sys2Proof.Machine

/-! ### Supply dips and parity errors of control cores (R378, R392 to R395, R440) -/

/-! #### What reporting leaves of the cores -/

/-- Of the cores, their interrupt lines may change. -/
structure Lines (s t : State) : Prop where
  wf : smWf {} t.cores = true
  core : ∀ g, { t.core g with line := (s.core g).line } = s.core g

section
variable {s t : State}

theorem lines_refl (h : smWf {} s.cores = true) : Lines s s := ⟨h, fun _ => rfl⟩

theorem lines_mk (h : Lines s t) {pending out draws clkc device mem slotMap spares counters syncFaults tailDiscards signals addends
    contexts queueObjs training fabric coll drinex dict sources dests rel sec meter power} :
    Lines s (State.mk pending out draws clkc device mem t.cores slotMap spares counters syncFaults tailDiscards signals addends contexts
      queueObjs training fabric coll drinex dict sources dests rel sec meter power) := ⟨h.wf, h.core⟩

theorem lines_line (h : Lines s t) (g) : Lines s (t.setCore g { t.core g with line := true }) := by
  refine ⟨smWf_smSet h.wf .., fun k => ?_⟩
  rw [State.core_setCore_wf h.wf]
  split
  · next hk => exact hk ▸ h.core k
  · exact h.core k

theorem lines_sendIntr (h : Lines s t) (v) : Lines s (sendIntr t v) := by
  have hc : (sendIntr t v).cores = t.cores := (congrArg State.cores (sendIntr_frame t v) :)
  refine ⟨hc ▸ h.wf, fun g => ?_⟩
  have hg : (sendIntr t v).core g = t.core g := congrArg (fun (m : SMap Core) => smGet ({} : Core) m g) hc
  rw [hg]
  exact h.core g

theorem lines_deliver (h : Lines s t) (d) : Lines s (deliver t d) := by
  unfold deliver
  have hd (m : SMap IrqDest) : Lines s { t with dests := m } := lines_mk h
  dsimp only
  split
  · exact lines_sendIntr (hd _) _
  · split
    · exact lines_line (hd _) _
    · exact hd _

theorem lines_destEvent (h : Lines s t) (d) : Lines s (destEvent t d) := by
  unfold destEvent deliverIfDue
  grind [lines_deliver, lines_mk]

theorem lines_raise (h : Lines s t) (n) : Lines s (raise t n) := by
  unfold raise
  grind [lines_destEvent, lines_mk]

theorem lines_emcy (h : Lines s t) (code unit) : Lines s (emcy t code unit) := by
  unfold emcy emcyOut
  grind [lines_mk]

theorem lines_writeRecord (h : Lines s t) (n v w) : Lines s (writeRecord t n v w) := by
  unfold writeRecord
  grind [lines_raise, lines_emcy, lines_mk]

theorem lines_fault (h : Lines s t) (n) : Lines s (fault t n) := by
  unfold fault
  grind [lines_writeRecord, lines_raise, lines_mk]

theorem Lines.unitOf (h : Lines s t) (u : UnitKind) (g : Nat) : t.unitOf u g = s.unitOf u g := by
  have hg := congrArg (fun (c : Core) => c.unit u) (h.core g)
  cases u <;> exact hg

/-! #### Parity errors (R378) -/

/-- The entry has failed, or it is as it was. -/
def Ended (e e' : WinEntry) : Prop := e'.phase = .executed ∧ (e.status = 0 → e'.status = BitVec.ofNat 16 stData)

/-- Every entry of the unit stands, and those of the numbers have ended. -/
structure Ends (u : UnitKind) (g : Nat) (l : List (BitVec 64)) (s t : State) : Prop where
  wf : smWf {} t.cores = true
  entry : ∀ e ∈ (s.unitOf u g).window, ∃ e' ∈ (t.unitOf u g).window, e'.seq = e.seq ∧ e'.desc = e.desc ∧
    (e'.phase = e.phase ∧ e'.status = e.status ∨ Ended e e') ∧ (e.seq ∈ l → Ended e e')
  others : ∀ v, v ≠ u → t.unitOf v g = s.unitOf v g

theorem ends_step {u : UnitKind} {g : Nat} {l : List (BitVec 64)} (h : Ends u g l s t) (q : BitVec 64) (clkc : BitVec 64) :
    Ends u g (q :: l) s (t.modEntry u g q (fun e => { e with
      phase := .executed, status := if e.status = 0 ∨ e.status = 1 then BitVec.ofNat 16 stData else e.status
      issueTime := if e.phase = .fetched ∨ e.phase = .waiting then clkc else e.issueTime })) := by
  refine ⟨smWf_smSet h.wf .., fun e he => ?_, fun v hv => ?_⟩
  · obtain ⟨e', hin, hseq, hdesc, hsame, hend⟩ := h.entry e he
    rw [State.unitOf_modEntry_wf h.wf, if_pos ⟨rfl, rfl⟩]
    refine ⟨_, List.mem_map_of_mem hin, ?_⟩
    by_cases hq : e'.seq = q
    · rw [if_pos (by simpa using hq)]
      have hended : Ended e { e' with
          phase := .executed, status := if e'.status = 0 ∨ e'.status = 1 then BitVec.ofNat 16 stData else e'.status
          issueTime := if e'.phase = .fetched ∨ e'.phase = .waiting then clkc else e'.issueTime } := by
        refine ⟨rfl, fun hz => ?_⟩
        rcases hsame with ⟨-, hstatus⟩ | ⟨-, hstatus⟩
        · exact if_pos (.inl (hstatus.trans hz))
        · dsimp only
          rw [hstatus hz]
          exact if_neg (by decide)
      exact ⟨hseq, hdesc, .inr hended, fun _ => hended⟩
    · rw [if_neg (by simpa using hq)]
      refine ⟨hseq, hdesc, hsame, fun hmem => hend ((List.mem_cons.1 hmem).resolve_left fun h => hq (hseq.trans h))⟩
  · rw [State.unitOf_modEntry_wf h.wf, if_neg (fun hvu => hv hvu.1)]
    exact h.others v hv

theorem ends_failInFlight {g : CoreId} {u : UnitKind} (h : smWf {} s.cores = true) :
    Ends u g (((s.unitOf u g).window.filter (fun e => decide (e.phase ≠ .retired))).map (·.seq)) s (failInFlight s g u) := by
  have hfold (l : List WinEntry) : ∀ done t, Ends u g done s t → ∃ done', (∀ q, q ∈ done ∨ q ∈ l.map (·.seq) → q ∈ done') ∧
      Ends u g done' s (l.foldl (fun s e => (leaveWaits s (unitActor u g e.seq)).modEntry u g e.seq (fun e => { e with
        phase := .executed, status := if e.status = 0 ∨ e.status = 1 then BitVec.ofNat 16 stData else e.status
        issueTime := if e.phase = .fetched ∨ e.phase = .waiting then s.clkc else e.issueTime })) t) := by
    induction l with
    | nil => exact fun done t h => ⟨done, fun q hq => by simpa using hq, h⟩
    | cons e l ih =>
      intro done t h
      have hleft : Ends u g done s (leaveWaits t (unitActor u g e.seq)) := ⟨h.wf, h.entry, h.others⟩
      obtain ⟨done', hin, hends⟩ := ih (e.seq :: done) _ (ends_step hleft e.seq t.clkc)
      refine ⟨done', fun q hq => hin q ?_, hends⟩
      simp only [List.map_cons, List.mem_cons] at hq ⊢
      tauto
  obtain ⟨done, hin, hends⟩ := hfold ((s.unitOf u g).window.filter (fun e => decide (e.phase ≠ .retired))) [] s
    ⟨h, fun e he => ⟨e, he, rfl, rfl, .inl ⟨rfl, rfl⟩, fun hno => by cases hno⟩, fun _ _ => rfl⟩
  refine ⟨hends.wf, fun e he => ?_, hends.others⟩
  obtain ⟨e', hin', hseq, hdesc, hsame, hend⟩ := hends.entry e he
  exact ⟨e', hin', hseq, hdesc, hsame, fun hmem => hend (hin e.seq (.inr hmem))⟩

/-- What is open in any unit of the core has ended. -/
theorem failInFlights_end {g : CoreId} (h : smWf {} s.cores = true) (u : UnitKind) {e : WinEntry} (he : e ∈ (s.unitOf u g).window)
    (hopen : e.phase ≠ .retired) : ∃ e' ∈ (([UnitKind.engine, .vector, .dma].foldl (fun s u => failInFlight s g u) s).unitOf u g).window,
      e'.seq = e.seq ∧ e'.desc = e.desc ∧ Ended e e' := by
  have hseq {v : UnitKind} {t : State} (hin : e ∈ (t.unitOf v g).window) :
      e.seq ∈ ((t.unitOf v g).window.filter (fun e => decide (e.phase ≠ .retired))).map (·.seq) :=
    List.mem_map_of_mem (List.mem_filter.2 ⟨hin, decide_eq_true hopen⟩)
  have h1 := ends_failInFlight (g := g) (u := .engine) h
  have h2 := ends_failInFlight (g := g) (u := .vector) h1.wf
  have h3 := ends_failInFlight (g := g) (u := .dma) h2.wf
  simp only [List.foldl_cons, List.foldl_nil]
  have hended {v : UnitKind} {l : List (BitVec 64)} {t t' : State} (hends : Ends v g l t t') (hin : e ∈ (t.unitOf v g).window)
      (hl : e.seq ∈ l) : ∃ e' ∈ (t'.unitOf v g).window, e'.seq = e.seq ∧ e'.desc = e.desc ∧ Ended e e' := by
    obtain ⟨e', hin', hs, hd, -, hend⟩ := hends.entry e hin
    exact ⟨e', hin', hs, hd, hend hl⟩
  cases u with
  | engine =>
    rw [h3.others _ (by decide), h2.others _ (by decide)]
    exact hended h1 he (hseq he)
  | vector =>
    have he' := he
    rw [← h1.others _ (by decide)] at he'
    rw [h3.others _ (by decide)]
    exact hended h2 he' (hseq he')
  | dma =>
    have he' := he
    rw [← h1.others _ (by decide), ← h2.others _ (by decide)] at he'
    exact hended h3 he' (hseq he')

theorem controlParity_fails (hs : s.wf = true) {g : CoreId} (hg : s.present g = true) : let t := controlParity s g
    t.rel.recordCount = s.rel.recordCount + 1 ∧ t.mem = s.mem ∧ t.addends = s.addends ∧
      (∀ u, ∀ e ∈ (s.unitOf u g).window, e.phase ≠ .retired →
        ∃ e' ∈ (t.unitOf u g).window, e'.seq = e.seq ∧ e'.desc = e.desc ∧ e'.phase = .executed ∧
          (e.status = 0 → e'.status = BitVec.ofNat 16 stData)) := by
  obtain ⟨n, hn, heq⟩ : ∃ n : FaultNote, n.cls = 3 ∧ controlParity s g =
      [UnitKind.engine, .vector, .dma].foldl (fun s u => failInFlight s g u) (fault s n).draw := by
    refine ⟨{ parityNote s with unit := s.coreUnit g, src := 9 }, rfl, ?_⟩
    unfold controlParity
    rw [if_neg (by rw [hg]; decide)]
  have hcores := (State.wf_tables hs).1
  have hreports := reports_fault (reports_refl s) n
  have hlines := lines_fault (lines_refl hcores) n
  obtain ⟨hcount, -⟩ := fault_recorded (s := s) (n := n) (by rw [hn]; decide)
  have hadd : (fault s n).addends = s.addends := (congrArg State.addends hreports :)
  rw [heq]
  dsimp only
  generalize fault s n = f at hreports hlines hcount hadd ⊢
  have hdowns := downs_foldl (fun t u h => downs_failInFlight h g u) [UnitKind.engine, .vector, .dma] (downs_refl f.draw)
  have hmem := congrArg State.mem hdowns
  have hrel := congrArg State.rel hdowns
  have haddends := congrArg State.addends hdowns
  have hdraw : smWf {} f.draw.cores = true := hlines.wf
  refine ⟨(congrArg Reliability.recordCount hrel :).trans hcount, hmem.trans hreports.mem, haddends.trans hadd, fun u e he hopen => ?_⟩
  rw [← hlines.unitOf u g] at he
  exact failInFlights_end hdraw u he hopen

/-! #### Dips (R392 to R395) -/

theorem dip_setDip (h : smWf {} s.power.dips = true) (die j : Nat) (d : Dip) : (s.setDip die d).dip j = if j = die then d else s.dip j :=
  smGet_smSet h ..

theorem collects_dipCalls (h : Collects s t) : Collects s (dipCalls t) := by
  unfold dipCalls
  refine collects_foldl (fun t i h => ?_) _ h
  split
  · exact collects_blame h ..
  · exact h

/-- The dip of a die once it begins (R392, R393). -/
def Dip.begun (d : Dip) (die : Nat) (clkc : BitVec 64) : Dip :=
  { d with low := true, dipStart := clkc, second := clkcSecond clkc
           inSecond := if d.second = clkcSecond clkc then d.inSecond + 1 else 1
           window := d.window || decide (die < 2), begin := if d.window then d.begin else clkc }

theorem dipStart_begins {die rail mv : Nat} (hlow : (s.dip die).low = false)
    (hn : (if (s.dip die).second = clkcSecond s.clkc then (s.dip die).inSecond + 1 else 1) ≤ 16) : let t := dipStart s die rail mv
    t.power = { s.power with
      dips := smSet {} s.power.dips die ((s.dip die).begun die s.clkc)
      dipCount := if [2, 3, 6, 7].contains rail then satAdd s.power.dipCount 1 else s.power.dipCount } ∧
    Pends 0x384 t ∧ t.dict.errorRegister = s.dict.errorRegister ||| 5 ∧ t.mem = s.mem ∧ t.rel.recordCount = s.rel.recordCount ∧ t.clkc = s.clkc := by
  generalize hv : (({ s with power := { s.power with
    dipCount := if [2, 3, 6, 7].contains rail then satAdd s.power.dipCount 1 else s.power.dipCount } } : State).setDip die
      ((s.dip die).begun die s.clkc)) = v
  have heq : dipStart s die rail mv = if die < 2 then emcy (raise v 0x384) 0x3220 (dieUnit die)
      else dipCalls (emcy (raise v 0x384) 0x3220 (dieUnit die)) := by
    unfold dipStart
    dsimp only
    rw [if_neg (by rw [hlow]; decide), if_pos (by omega)]
    rw [← hv]
    rfl
  have hreports : Reports v (emcy (raise v 0x384) 0x3220 (dieUnit die)) := reports_emcy (reports_raise (reports_refl v) _) ..
  have hpend : Pends 0x384 (emcy (raise v 0x384) 0x3220 (dieUnit die)) := pends_emcy (raise_pending (sourceDead_global (by decide) (by decide) _)) ..
  have herr : (emcy (raise v 0x384) 0x3220 (dieUnit die)).dict.errorRegister = v.dict.errorRegister ||| 5 := by
    have hdict : (raise v 0x384).dict = v.dict := (congrArg State.dict (raise_frame v 0x384) :)
    rw [emcy_errorRegister, hdict]
    show _ ||| 4 ||| 1 = _ ||| 5
    rw [BitVec.or_assoc]
    rfl
  have hrel : (emcy (raise v 0x384) 0x3220 (dieUnit die)).rel = v.rel := by rw [emcy_rel, raise_rel]
  generalize emcy (raise v 0x384) 0x3220 (dieUnit die) = w at heq hreports hpend herr hrel
  have hc : Collects w (if die < 2 then w else dipCalls w) := by
    split
    · exact collects_refl w
    · exact collects_dipCalls (collects_refl w)
  rw [heq]
  dsimp only
  generalize (if die < 2 then w else dipCalls w) = x at hc ⊢
  have hpower := congrArg State.power hc
  have hsources := congrArg State.sources hc
  have hdict := congrArg State.dict hc
  have hmem := congrArg State.mem hc
  have hrel' := congrArg State.rel hc
  have hclkc := congrArg State.clkc hc
  subst hv
  refine ⟨hpower.trans hreports.power, ?_, ?_, hmem.trans hreports.mem, ?_, hclkc.trans hreports.clkc⟩
  · unfold Pends
    rw [show x.sources = w.sources from hsources]
    exact hpend
  · exact (congrArg Dict.errorRegister hdict :).trans herr
  · exact (congrArg Reliability.recordCount (hrel'.trans hrel) :)

theorem dipFinish_ends (hd : smWf {} s.power.dips = true) {die rail mv nanos : Nat} (hlow : (s.dip die).low = true) :
    let t := dipFinish s die rail mv nanos
    t.dip die = { s.dip die with low := false } ∧ t.rel.recordCount = s.rel.recordCount + 1 ∧
      t.power.lastDip = leBytes 8 (s.dip die).dipStart.toNat ++ leBytes 1 rail ++ [0#8] ++ leBytes 2 mv ++ leBytes 4 nanos ∧
      t.mem = s.mem ∧ t.contexts = s.contexts := by
  obtain ⟨n, hn, heq⟩ : ∃ n : FaultNote, n.cls = 9 ∧ dipFinish s die rail mv nanos =
      emcyClear (fault { s.setDip die { s.dip die with low := false } with power := { (s.setDip die { s.dip die with low := false }).power with
        lastDip := leBytes 8 (s.dip die).dipStart.toNat ++ leBytes 1 rail ++ [0#8] ++ leBytes 2 mv ++ leBytes 4 nanos } } n) := by
    refine ⟨{ unit := dieUnit die, src := 9, sev := 2, cls := 9, key := rail
              syn := leBytes 2 mv ++ leBytes 4 nanos ++ leBytes 4 (s.dip die).recompute.length }, rfl, ?_⟩
    unfold dipFinish
    dsimp only
    rw [if_neg (by rw [hlow]; decide)]
  have hget := dip_setDip hd die die { s.dip die with low := false }
  rw [if_pos rfl] at hget
  generalize hv : ({ s.setDip die { s.dip die with low := false } with power := { (s.setDip die { s.dip die with low := false }).power with
    lastDip := leBytes 8 (s.dip die).dipStart.toNat ++ leBytes 1 rail ++ [0#8] ++ leBytes 2 mv ++ leBytes 4 nanos } } : State) = v at heq
  have hr : Reports v (emcyClear (fault v n)) := reports_emcyClear (reports_fault (reports_refl v) n)
  have hcount : (emcyClear (fault v n)).rel.recordCount = v.rel.recordCount + 1 := by
    obtain ⟨hcount, -⟩ := fault_recorded (s := v) (n := n) (by rw [hn]; decide)
    exact (congrArg (fun (t : State) => t.rel.recordCount) (emcyClear_frame (fault v n)) :).trans hcount
  rw [heq]
  dsimp only
  generalize emcyClear (fault v n) = t at hr hcount ⊢
  subst hv
  refine ⟨?_, hcount, ?_, hr.mem, hr.contexts⟩
  · rw [State.dip, hr.power]
    exact hget
  · rw [hr.power]

theorem markRecomputed_contexts {s t : State} (h : { t with contexts := s.contexts } = s) (a : Actor) :
    { markRecomputed t a with contexts := s.contexts } = s := by
  unfold markRecomputed
  split <;> exact h

theorem windowEnd_ends (hd : smWf {} s.power.dips = true) {die : Nat} (hw : (s.dip die).window = true) (hlow : (s.dip die).low = false) :
    let t := windowEnd s die
    t.dip die = { s.dip die with window := false, recompute := [], heldSignals := [] } ∧
      t.signals = s.signals ++ (s.dip die).heldSignals.map (·.msg) ∧ t.mem = s.mem ∧ t.cores = s.cores := by
  obtain ⟨l, f, n, heq⟩ : ∃ (l : List (Nat × UnitKind × BitVec 64)) (f : Nat × UnitKind × BitVec 64 → Actor) (n : Nat), windowEnd s die =
      let t := l.foldl (fun s r => markRecomputed s (f r)) s
      let u := t.setDip die { t.dip die with window := false, recompute := [], heldSignals := [] }
      { u with signals := u.signals ++ (s.dip die).heldSignals.map (·.msg)
               power := { u.power with dipRecomputed := satAdd u.power.dipRecomputed n } } := by
    unfold windowEnd
    dsimp only
    rw [if_neg (by rw [hw, hlow]; decide)]
    exact ⟨_, _, _, rfl⟩
  have hmark : { l.foldl (fun s r => markRecomputed s (f r)) s with contexts := s.contexts } = s :=
    List.foldlRecOn (motive := fun (t : State) => { t with contexts := s.contexts } = s) l _ rfl fun t ht r _ => markRecomputed_contexts ht (f r)
  rw [heq]
  dsimp only
  generalize l.foldl (fun s r => markRecomputed s (f r)) s = t at hmark ⊢
  have hpower := congrArg State.power hmark
  have hdip : t.dip die = s.dip die := congrArg (fun (p : Power) => smGet ({} : Dip) p.dips die) hpower
  have hget := dip_setDip (s := t) (hpower ▸ hd) die die { t.dip die with window := false, recompute := [], heldSignals := [] }
  rw [if_pos rfl, hdip] at hget
  rw [hdip]
  exact ⟨hget, (congrArg (fun (t : State) => t.signals ++ (s.dip die).heldSignals.map (·.msg)) hmark :), (congrArg State.mem hmark :),
    (congrArg State.cores hmark :)⟩

/-- A rail that feeds no die's core leaves a record alone (R440). -/
theorem otherDip_records {rail mv nanos : Nat} (hr : rail = 1 ∨ 8 ≤ rail) : let t := otherDip s rail mv nanos
    t.rel.recordCount = s.rel.recordCount + 1 ∧ t.power = s.power ∧ t.mem = s.mem ∧ t.contexts = s.contexts := by
  obtain ⟨n, hn, heq⟩ : ∃ n : FaultNote, n.cls = 9 ∧ otherDip s rail mv nanos = fault s n := by
    refine ⟨{ src := 9, sev := 1, cls := 9, key := rail, syn := leBytes 2 mv ++ leBytes 4 nanos }, rfl, ?_⟩
    unfold otherDip
    rw [if_neg (by omega), if_neg (by simp; omega)]
  obtain ⟨hcount, -⟩ := fault_recorded (s := s) (n := n) (by rw [hn]; decide)
  have hreports := reports_fault (reports_refl s) n
  rw [heq]
  exact ⟨hcount, hreports.power, hreports.mem, hreports.contexts⟩

theorem otherDip_dips (hd : smWf {} s.power.dips = true) {rail mv nanos die : Nat} (hlo : 2 ≤ rail) (hhi : rail ≤ 7)
    (hdie : die = if rail < 4 then rail - 2 else rail - 4) (hlow : (s.dip die).low = false)
    (hn : (if (s.dip die).second = clkcSecond s.clkc then (s.dip die).inSecond + 1 else 1) ≤ 16) : let t := otherDip s rail mv nanos
    (t.dip die).low = false ∧ t.rel.recordCount = s.rel.recordCount + 1 ∧
      t.power.lastDip = leBytes 8 s.clkc.toNat ++ leBytes 1 rail ++ [0#8] ++ leBytes 2 mv ++ leBytes 4 nanos ∧ t.mem = s.mem := by
  have heq : otherDip s rail mv nanos = dipFinish (dipStart s die rail mv) die rail mv nanos := by
    unfold otherDip
    rw [if_neg (by omega), if_pos (by simp [hlo, hhi]), ← hdie]
    exact if_neg (by rw [hlow]; decide)
  obtain ⟨hpower, -, -, hmem, hcount, -⟩ := dipStart_begins (rail := rail) (mv := mv) hlow hn
  rw [heq]
  dsimp only
  generalize dipStart s die rail mv = t at hpower hmem hcount ⊢
  have hdips : t.power.dips = smSet {} s.power.dips die ((s.dip die).begun die s.clkc) := (congrArg Power.dips hpower :)
  have hget : t.dip die = (s.dip die).begun die s.clkc := by
    rw [State.dip, hdips]
    exact (smGet_smSet hd die die _).trans (if_pos rfl)
  have hwf : smWf {} t.power.dips = true := by
    rw [hdips]
    exact smWf_smSet hd ..
  obtain ⟨hdip, hcount', hlast, hmem', -⟩ := dipFinish_ends hwf (rail := rail) (mv := mv) (nanos := nanos) (die := die) (by rw [hget]; rfl)
  refine ⟨by rw [hdip], by rw [hcount', hcount], ?_, hmem'.trans hmem⟩
  rw [hlast, hget]
  rfl

end

/-- The core rails count as dips (R396). -/
theorem coreRail_core : ∀ die : Fin 4, [2, 3, 6, 7].contains (coreRail die.val) = true := by decide

/-- Settles O43: the windows of dips, the rails, and the entries that a parity error ends. -/
theorem dipsAndControlCoreFaults : Obligations.DipsAndControlCoreFaults := by
  unfold Obligations.DipsAndControlCoreFaults
  intro s hs
  obtain ⟨-, -, -, -, -, -, hd, -⟩ := State.wf_iff.1 hs
  refine ⟨fun die mv => ⟨fun h => ?_, fun hmv hlow hn => ?_, fun nanos => ⟨fun hlow => ?_, fun hlow => ?_⟩⟩,
    fun die => ⟨fun h => ?_, fun hw hlow => ⟨_, rfl, windowEnd_ends hd hw hlow⟩⟩,
    fun rail mv nanos => ⟨fun h => ?_, fun h => ⟨_, rfl, otherDip_records h⟩, fun die _ hlo hhi hdie hlow hn => ⟨_, rfl, otherDip_dips hd hlo hhi hdie hlow hn⟩⟩,
    fun g => ⟨fun h => ?_, fun h => ⟨_, rfl, controlParity_fails hs h⟩⟩⟩
  · refine congrArg Host.Outcome.next ?_
    split
    · exact if_pos (h.resolve_left (by omega))
    · rfl
  · obtain ⟨hpower, hpend, herr, hmem, -⟩ := dipStart_begins (rail := coreRail die.val) (mv := mv.toNat) hlow hn
    refine ⟨_, congrArg Host.Outcome.next (if_pos hmv), ?_⟩
    generalize dipStart s die.val (coreRail die.val) mv.toNat = t at hpower hpend herr hmem ⊢
    have hdips : t.power.dips = smSet {} s.power.dips die.val ((s.dip die).begun die s.clkc) := (congrArg Power.dips hpower :)
    have hget : t.dip die = (s.dip die).begun die s.clkc := by
      rw [State.dip, hdips]
      exact (smGet_smSet hd die.val die.val _).trans (if_pos rfl)
    rw [hget, hpower, coreRail_core die]
    exact ⟨rfl, rfl, rfl, rfl, rfl, hpend, herr, hmem⟩
  · exact congrArg Host.Outcome.next (if_pos (by rw [hlow]; rfl))
  · exact ⟨_, rfl, dipFinish_ends hd hlow⟩
  · refine congrArg Host.Outcome.next (if_pos ?_)
    rcases h with h | h <;> rw [h] <;> simp
  · exact congrArg Host.Outcome.next (if_pos h)
  · exact congrArg Host.Outcome.next (if_pos (by rw [h]; rfl))

end Sys2Proof.Machine
end

section
/-! PROOFS. Packets that leave; USDO and the test port (O35). -/

namespace Sys2Proof.Machine

/-! ### Packets that leave (R270 to R275) -/

/-- The streams and ports, and what is sent, may change. -/
def Emits (s t : State) : Prop := { t with fabric := s.fabric, out := s.out } = s

section
variable {s t u : State}

theorem emits_refl (s : State) : Emits s s := rfl

theorem emits_mk (h : Emits s t) {fabric out} : Emits s { t with fabric := fabric, out := out } := h

theorem Emits.trans (h : Emits s t) (h' : Emits t u) : Emits s u := by
  have hf := congrArg (fun (x : State) => { x with fabric := s.fabric, out := s.out }) h'
  exact Eq.trans hf h

theorem Emits.mem (h : Emits s t) : t.mem = s.mem := (congrArg State.mem h :)
theorem Emits.dict (h : Emits s t) : t.dict = s.dict := (congrArg State.dict h :)

theorem emits_send (h : Emits s t) (o) : Emits s (t.send o) := h
theorem emits_setStream (h : Emits s t) (dst n) : Emits s (t.setStream dst n) := h
theorem emits_transmit (h : Emits s t) (p pkt) : Emits s (transmit t p pkt) := h

theorem emits_drainPort (h : Emits s t) (n k) : Emits s (drainPort n t k) := by
  induction n generalizing t with
  | zero => exact h
  | succ n ih =>
    unfold drainPort
    dsimp only
    split
    · exact h
    · exact ih (emits_transmit (emits_mk h) ..)

theorem emits_portSend (h : Emits s t) (p pkt) : Emits s (portSend t p pkt) := emits_drainPort (emits_mk h) ..

theorem emits_emitPacket (h : Emits s t) (dst typ tag address payload tail again avoid trunc) :
    Emits s (emitPacket t dst typ tag address payload tail again avoid trunc).1 := by
  unfold emitPacket
  grind [emits_portSend, emits_setStream, emits_send]

theorem emits_emit (h : Emits s t) (dst typ tag address payload tail trunc) : Emits s (emit t dst typ tag address payload tail trunc).1 := by
  unfold emit
  grind [emits_emitPacket]

theorem emits_answer (h : Emits s t) (dst typ tag payload) : Emits s (answer t dst typ tag payload) := emits_emit h ..

end

/-! ### USDO (R355, R360, R361) -/

section
variable {s t : State} {p : UsdoPath}

theorem countAbort_zero (s : State) : countAbort s 0 = s := rfl

theorem serveTap_idle (h : s.dict.tapRequest = none) : serveTap s = s := by
  unfold serveTap
  rw [h]

/-- A reply changes no session and no memory. -/
theorem usdoReply_leaves (s : State) (p : UsdoPath) (code : Nat) (data : Bytes) :
    (usdoReply s p code data).dict.sessions = s.dict.sessions ∧ (usdoReply s p code data).mem = s.mem := by
  unfold usdoReply
  cases p with
  | can => exact ⟨rfl, rfl⟩
  | fabric src tag =>
    have h := emits_answer (emits_refl s) src.toNat 0x0B tag
      (padTo (roundUp (max (Config.usdoResponse code data).length 8) 8) (Config.usdoResponse code data))
    exact ⟨by rw [h.dict], h.mem⟩
  | tap => exact ⟨rfl, rfl⟩

theorem session_of_sessions (h : t.dict.sessions = s.dict.sessions) (o : Nat) : t.session o = s.session o := by
  rw [State.session, State.session, h]

theorem usdoReply_session (s : State) (p : UsdoPath) (code : Nat) (data : Bytes) (o : Nat) :
    (usdoReply s p code data).session o = s.session o :=
  session_of_sessions (usdoReply_leaves s p code data).1 o

theorem session_openSession {e : UsdoSession} (h : s.session e.owner = none) : (openSession s e).session e.owner = some e := by
  unfold State.session at h ⊢
  show (s.dict.sessions ++ [e]).find? _ = _
  rw [List.find?_append, h]
  simp

theorem session_dropSession (s : State) (o : Nat) : (dropSession s o).session o = none := by
  unfold State.session
  show (s.dict.sessions.filter _).find? _ = _
  rw [List.find?_filter, List.find?_eq_none]
  simp

theorem session_owner {o : Nat} {e : UsdoSession} (h : s.session o = some e) : e.owner = o := by
  simpa using List.find?_some h

theorem beginTransfer_idle (h : s.session (usdoOwner p) = none) : beginTransfer s p = s := by
  unfold beginTransfer
  rw [h]
  rfl

theorem sessions_setSelects (s : State) (a : Accessor) (k : Selects) : (s.setSelects a k).dict.sessions = s.dict.sessions ∧
    (s.setSelects a k).mem = s.mem := by
  unfold State.setSelects
  split
  · exact ⟨rfl, rfl⟩
  · exact ⟨rfl, rfl⟩
  · exact ⟨rfl, rfl⟩
  · exact ⟨by unfold Dict.setFabric; rfl, rfl⟩
  · exact ⟨rfl, rfl⟩

theorem touchSelects_leaves (s : State) (a : Accessor) :
    (touchSelects s a).dict.sessions = s.dict.sessions ∧ (touchSelects s a).mem = s.mem := by
  unfold touchSelects
  split
  · exact sessions_setSelects ..
  · exact ⟨rfl, rfl⟩

theorem readObject_dict (s : State) (k : Selects) (r : ObjRow) (idx sub : Nat) : (readObject s k r idx sub).1.dict = s.dict := by
  have heffect : (readEffect s k idx sub).dict = s.dict := by
    unfold readEffect
    split_ifs <;> rfl
  unfold readObject
  split
  · rfl
  · dsimp only
    split
    · rfl
    · exact heffect

/-! #### Uploads -/

theorem usdoUpload_reads {idx sub : Nat} {r : ObjRow} {v : Bytes} (hnone : s.session (usdoOwner p) = none)
    (hcheck : checkAccess (touchSelects s (usdoAccessor p)) (usdoAccessor p).cls false idx sub = .ok r)
    (hread : readObject (touchSelects s (usdoAccessor p)) ((touchSelects s (usdoAccessor p)).selects (usdoAccessor p)) r idx sub = (t, 0, v))
    (hlong : r.size ≤ usdoRoom ∨ sessionsFull s p = false) : usdoUpload s p idx sub =
      if v.length ≤ usdoRoom then usdoReply t p 0 (v.take usdoRoom)
      else openSession (usdoReply t p 0 (v.take usdoRoom)) { owner := usdoOwner p, download := false, index := BitVec.ofNat 16 idx
                                                             sub := BitVec.ofNat 8 sub, data := v.drop usdoRoom } := by
  have hrow := checkAccess_row hcheck
  unfold usdoUpload
  rw [beginTransfer_idle hnone, hrow]
  dsimp only
  have hopen : ¬(decide (usdoRoom < r.size) && sessionsFull s p) = true := by
    rcases hlong with h | h
    · simp [Nat.not_lt.2 h]
    · simp [h]
  have hdict : dictRead s (usdoAccessor p) idx sub = (t, 0, v) := by
    unfold dictRead
    dsimp only
    rw [hcheck]
    dsimp only
    rw [hread]
    rfl
  rw [if_neg hopen, hdict]

theorem usdoUpload_whole {idx sub : Nat} {r : ObjRow} {v : Bytes} (hnone : s.session (usdoOwner p) = none)
    (hcheck : checkAccess (touchSelects s (usdoAccessor p)) (usdoAccessor p).cls false idx sub = .ok r)
    (hread : readObject (touchSelects s (usdoAccessor p)) ((touchSelects s (usdoAccessor p)).selects (usdoAccessor p)) r idx sub = (t, 0, v))
    (hsize : r.size ≤ usdoRoom) (hv : v.length ≤ usdoRoom) : usdoUpload s p idx sub = usdoReply t p 0 v := by
  rw [usdoUpload_reads hnone hcheck hread (.inl hsize), if_pos hv, List.take_of_length_le hv]

theorem usdoUpload_opens {idx : BitVec 16} {sub : BitVec 8} {r : ObjRow} {v : Bytes} (hnone : s.session (usdoOwner p) = none)
    (hcheck : checkAccess (touchSelects s (usdoAccessor p)) (usdoAccessor p).cls false idx.toNat sub.toNat = .ok r)
    (hread : readObject (touchSelects s (usdoAccessor p)) ((touchSelects s (usdoAccessor p)).selects (usdoAccessor p)) r idx.toNat sub.toNat = (t, 0, v))
    (hv : usdoRoom < v.length) (hfull : sessionsFull s p = false) :
    (usdoUpload s p idx.toNat sub.toNat).out = (usdoReply t p 0 (v.take usdoRoom)).out ∧
      (usdoUpload s p idx.toNat sub.toNat).session (usdoOwner p) =
        some { owner := usdoOwner p, download := false, index := idx, sub := sub, data := v.drop usdoRoom } := by
  rw [usdoUpload_reads hnone hcheck hread (.inr hfull), if_neg (Nat.not_le.2 hv), BitVec.ofNat_toNat, BitVec.ofNat_toNat, BitVec.setWidth_eq,
    BitVec.setWidth_eq]
  have htdict : t.dict = (touchSelects s (usdoAccessor p)).dict := by
    have h := readObject_dict (touchSelects s (usdoAccessor p)) ((touchSelects s (usdoAccessor p)).selects (usdoAccessor p)) r idx.toNat sub.toNat
    rwa [hread] at h
  have hsessions : t.dict.sessions = s.dict.sessions := by rw [htdict, (touchSelects_leaves s (usdoAccessor p)).1]
  refine ⟨rfl, session_openSession ?_⟩
  dsimp only
  rw [usdoReply_session, session_of_sessions hsessions, hnone]

/-! #### Downloads -/

theorem usdoDownload_writes {idx sub : Nat} {r : ObjRow} {b : Bytes} (hnone : s.session (usdoOwner p) = none)
    (hcheck : checkAccess (touchSelects s (usdoAccessor p)) (usdoAccessor p).cls true idx sub = .ok r) (hl : b.length = r.size)
    (hwrite : writeObject (touchSelects s (usdoAccessor p)) (usdoAccessor p) r idx sub b [] = (t, 0)) :
    usdoDownload s p idx sub (some b) = usdoReply t p 0 [] := by
  unfold usdoDownload dictWrite applyWrite
  rw [beginTransfer_idle hnone]
  dsimp only
  rw [hcheck]
  dsimp only
  rw [if_neg (not_not.2 hl), hwrite]
  rfl

theorem usdoDownload_opens {idx : BitVec 16} {sub : BitVec 8} {r : ObjRow} (hnone : s.session (usdoOwner p) = none)
    (hcheck : checkAccess (touchSelects s (usdoAccessor p)) (usdoAccessor p).cls true idx.toNat sub.toNat = .ok r)
    (hfull : sessionsFull s p = false) : let u := usdoDownload s p idx.toNat sub.toNat none
    u.session (usdoOwner p) = some { owner := usdoOwner p, download := true, index := idx, sub := sub, data := [] } ∧ u.mem = s.mem := by
  obtain ⟨hsessions, hmem⟩ := touchSelects_leaves s (usdoAccessor p)
  have hfull' : sessionsFull (touchSelects s (usdoAccessor p)) p = false := by
    unfold sessionsFull at hfull ⊢
    rw [hsessions]
    exact hfull
  unfold usdoDownload
  rw [beginTransfer_idle hnone]
  dsimp only
  rw [hcheck]
  dsimp only
  rw [if_neg (by rw [hfull']; decide), BitVec.ofNat_toNat, BitVec.ofNat_toNat, BitVec.setWidth_eq, BitVec.setWidth_eq]
  refine ⟨?_, (usdoReply_leaves ..).2.trans hmem⟩
  rw [usdoReply_session]
  exact session_openSession ((session_of_sessions hsessions _).trans hnone)

/-! #### Segments -/

theorem openSession_again {o : Nat} {e : UsdoSession} (he : e.owner = o) : (openSession (dropSession s o) e).session o = some e := by
  subst he
  exact session_openSession (session_dropSession s e.owner)

theorem usdoSegment_adds {e : UsdoSession} (he : s.session (usdoOwner p) = some e) (hdown : e.download = true) (data : Bytes) :
    let u := usdoSegment s p data false
    u.session (usdoOwner p) = some { e with data := e.data ++ data } ∧ u.mem = s.mem := by
  unfold usdoSegment
  rw [he]
  dsimp only
  rw [if_pos hdown, if_neg (by decide)]
  refine ⟨?_, (usdoReply_leaves ..).2.trans (touchSelects_leaves ..).2⟩
  rw [usdoReply_session]
  exact openSession_again (e := { e with data := e.data ++ data }) (session_owner he :)

theorem usdoSegment_writes {e : UsdoSession} (he : s.session (usdoOwner p) = some e) (hdown : e.download = true) {data : Bytes} {r : ObjRow}
    (hr : objectRow moduleObjects e.index.toNat e.sub.toNat = some r) (hl : (e.data ++ data).length = r.size)
    (hwrite : writeObject (dropSession (touchSelects s (usdoAccessor p)) (usdoOwner p)) (usdoAccessor p) r e.index.toNat e.sub.toNat
      (e.data ++ data) [] = (t, 0)) : usdoSegment s p data true = usdoReply t p 0 [] := by
  unfold usdoSegment finishDownload applyWrite
  rw [he]
  dsimp only
  rw [if_pos hdown, if_pos rfl, hr]
  dsimp only
  rw [if_neg (not_not.2 hl), hwrite]
  rfl

theorem usdoSegment_sends {e : UsdoSession} (he : s.session (usdoOwner p) = some e) (hup : e.download = false) (last : Bool) :
    let u := usdoSegment s p [] last
    u.out = (usdoReply (dropSession (touchSelects s (usdoAccessor p)) (usdoOwner p)) p 0 (e.data.take usdoRoom)).out ∧
      u.session (usdoOwner p) = (if e.data.length ≤ usdoRoom then none else some { e with data := e.data.drop usdoRoom }) ∧ u.mem = s.mem := by
  have hmem : (dropSession (touchSelects s (usdoAccessor p)) (usdoOwner p)).mem = s.mem := (touchSelects_leaves ..).2
  have hreply := usdoReply_leaves (dropSession (touchSelects s (usdoAccessor p)) (usdoOwner p)) p 0 (e.data.take usdoRoom)
  have hnone : (usdoReply (dropSession (touchSelects s (usdoAccessor p)) (usdoOwner p)) p 0 (e.data.take usdoRoom)).session (usdoOwner p) = none := by
    rw [usdoReply_session, session_dropSession]
  unfold usdoSegment
  rw [he]
  dsimp only
  rw [if_neg (by rw [hup]; decide)]
  split
  · exact ⟨rfl, hnone, hreply.2.trans hmem⟩
  · have howner := session_owner he
    refine ⟨rfl, ?_, hreply.2.trans hmem⟩
    rw [← howner] at hnone ⊢
    exact session_openSession (e := { e with data := e.data.drop usdoRoom }) hnone

/-! #### The test port (R361) -/

theorem tapDict_shifts (hreg : s.power.regulators = true) (n : Nat) (request : Bytes) : let t := tapDict s n request
    let rest := s.dict.tapResponses.drop 1
    (n = 0 → t.dict.tapRequest = s.dict.tapRequest ∧ t.dict.tapResponses = rest) ∧
      (n ≠ 0 → s.dict.tapRequest = none → t.dict.tapRequest = some (request.take n) ∧ t.dict.tapResponses = rest) ∧
      (n ≠ 0 → s.dict.tapRequest ≠ none → t.dict.tapRequest = s.dict.tapRequest ∧
        t.dict.tapResponses = rest ++ [Config.usdoResponse 0x05040005 []]) ∧
      t.out = .tap 544 ((s.dict.tapResponses.headD []).length + 256 * leNat ((s.dict.tapResponses.headD []).take 64)) :: s.out ∧
      { t with dict := s.dict, sec := s.sec, out := s.out } = s := by
  unfold tapDict
  rw [if_neg (by rw [hreg]; decide)]
  dsimp only
  by_cases hn : n = 0
  · rw [if_pos hn]
    exact ⟨fun _ => ⟨rfl, rfl⟩, fun h => absurd hn h, fun h => absurd hn h, rfl, rfl⟩
  · rw [if_neg hn]
    by_cases hsome : s.dict.tapRequest.isSome = true
    · rw [if_pos (by exact hsome)]
      exact ⟨fun h => absurd h hn, fun _ h => absurd hsome (by rw [(h : s.dict.tapRequest = none)]; decide), fun _ _ => ⟨rfl, rfl⟩, rfl, rfl⟩
    · rw [if_neg (by exact hsome)]
      exact ⟨fun h => absurd h hn, fun _ _ => ⟨rfl, rfl⟩, fun _ h => absurd (Option.not_isSome_iff_eq_none.1 hsome) h, rfl, rfl⟩

/-- A request that reaches the dictionary while none waits at the test port. -/
theorem usdo_reached {α : State → State} (hreach : s.reached (usdoAccessor p).cls = true) (htap : s.dict.tapRequest = none) :
    (if s.reached (usdoAccessor p).cls = true then α (serveTap s) else s) = α s := by
  rw [if_pos hreach, serveTap_idle htap]

end

/-- Settles O35: transfers and their sessions; what a reply on each path leaves. -/
theorem usdoSessionsAndTestPort : Obligations.UsdoSessionsAndTestPort := by
  unfold Obligations.UsdoSessionsAndTestPort
  refine ⟨fun s p => ?_, fun s p h => congrArg Host.Outcome.next (if_pos h), fun s n request hreg => ?_⟩
  · intro acc o s' hreach htap
    have hstep (α : State → State) : Host.Outcome.next (if s.reached (usdoAccessor p).cls = true then α (serveTap s) else s) =
        (Host.Outcome.next (α s) : Host.Outcome State Fault Refusal) := congrArg Host.Outcome.next (usdo_reached hreach htap)
    refine ⟨fun idx sub r t v hnone hcheck hread => ⟨fun hsize hv => ?_, fun hv hfull => ?_⟩,
      fun idx sub r hnone hcheck => ⟨fun b t hl hwrite => ?_, fun hfull => ?_⟩, fun e data he hdown => ?_,
      fun e data r t he hdown hr hl hwrite => ?_, fun e last he hup => ?_⟩
    · exact (hstep (usdoUpload · p idx.toNat sub.toNat)).trans (congrArg Host.Outcome.next (usdoUpload_whole hnone hcheck hread hsize hv))
    · exact ⟨_, hstep (usdoUpload · p idx.toNat sub.toNat), usdoUpload_opens hnone hcheck hread hv hfull⟩
    · exact (hstep (usdoDownload · p idx.toNat sub.toNat (some b))).trans (congrArg Host.Outcome.next (usdoDownload_writes hnone hcheck hl hwrite))
    · exact ⟨_, hstep (usdoDownload · p idx.toNat sub.toNat none), usdoDownload_opens hnone hcheck hfull⟩
    · exact ⟨_, hstep (usdoSegment · p data false), usdoSegment_adds he hdown data⟩
    · exact (hstep (usdoSegment · p data true)).trans (congrArg Host.Outcome.next (usdoSegment_writes he hdown hr hl hwrite))
    · exact ⟨_, hstep (usdoSegment · p [] last), usdoSegment_sends he hup last⟩
  · obtain ⟨hzero, hnone, hsome, hout, hframe⟩ := tapDict_shifts hreg n.toNat request
    have hn : n = 0 ↔ n.toNat = 0 := by rw [← BitVec.toNat_inj]; rfl
    exact ⟨_, rfl, fun h => hzero (hn.1 h), fun h => hnone (fun h' => h (hn.2 h')), fun h => hsome (fun h' => h (hn.2 h')), hout, hframe⟩

end Sys2Proof.Machine
end

section
/-! PROOFS. The Drinex link and its flits (O30). -/

namespace Sys2Proof.Machine

/-! ### The Drinex link (R320 to R325, R337) -/

/-- The link stands as it was; what waits, what is unacknowledged and the credits may change. -/
def Drinex.SameLink (d d' : Drinex) : Prop :=
  { d' with txNext := d.txNext, replay := d.replay, ackDue := d.ackDue, creditP := d.creditP, creditC := d.creditC, creditE := d.creditE
            owedP := d.owedP, owedN := d.owedN, owedE := d.owedE, heldIntr := d.heldIntr, echoes := d.echoes
            echoResends := d.echoResends, waiting := d.waiting } = d

/-- The link stands as a record says, and memory stays. -/
structure Links (d : Drinex) (m : Memory) (t : State) : Prop where
  link : d.SameLink t.drinex
  mem : t.mem = m

section
variable {d e : Drinex} {m : Memory} {s t : State}

theorem Drinex.sameLink_place (h : d.SameLink e) (c n) : d.SameLink (e.place c n) := by
  unfold Drinex.place Drinex.addCredit
  dsimp only
  split <;> exact h

theorem links_refl (t : State) : Links t.drinex t.mem t := ⟨rfl, rfl⟩

theorem links_mk (h : Links d m t) {pending out draws clkc device cores slotMap spares counters syncFaults tailDiscards signals addends
    contexts queueObjs training fabric coll dict sources dests rel sec meter power} :
    Links d m (State.mk pending out draws clkc device t.mem cores slotMap spares counters syncFaults tailDiscards signals addends
      contexts queueObjs training fabric coll t.drinex dict sources dests rel sec meter power) := ⟨h.link, h.mem⟩

theorem links_returnCredits (h : Links d m t) : Links d m (returnCredits t) := by
  have howed (a b c : Nat) (out : List Output) :
      Links d m { t with drinex := { t.drinex with owedP := a, owedN := b, owedE := c }, out := out } := ⟨h.link, h.mem⟩
  unfold returnCredits
  dsimp only
  split
  · exact h
  · exact howed ..

theorem links_drainTxns (h : Links d m t) (n) : Links d m (drainTxns n t) := by
  induction n generalizing t with
  | zero => exact h
  | succ n ih =>
    unfold drainTxns
    split
    · exact h
    · split
      · exact h
      · next c slots o rest _ =>
        refine ih (links_returnCredits ⟨?_, h.mem⟩)
        exact Drinex.sameLink_place (e := { t.drinex with waiting := rest }) h.link c slots

theorem links_sendTxn (h : Links d m t) (c n o) : Links d m (sendTxn t c n o) := by
  unfold sendTxn
  refine links_drainTxns ?_ _
  exact ⟨h.link, h.mem⟩

theorem links_sendIntr (h : Links d m t) (v) : Links d m (sendIntr t v) := by
  unfold sendIntr
  split
  · exact links_sendTxn h ..
  · split
    · exact h
    · exact ⟨h.link, h.mem⟩

theorem links_foldl {α : Type} {f : State → α → State} (hf : ∀ t a, Links d m t → Links d m (f t a)) (l : List α)
    (h : Links d m t) : Links d m (l.foldl f t) :=
  List.foldlRecOn (motive := Links d m) l f h fun t h a _ => hf t a h

theorem links_deliver (h : Links d m t) (n) : Links d m (deliver t n) := by
  unfold deliver
  have hd (x : SMap IrqDest) : Links d m { t with dests := x } := links_mk h
  dsimp only
  split
  · exact links_sendIntr (hd _) _
  · split
    · exact links_mk (hd _)
    · exact hd _

theorem links_destEvent (h : Links d m t) (n) : Links d m (destEvent t n) := by
  unfold destEvent deliverIfDue
  grind [links_deliver, links_mk]

theorem links_raise (h : Links d m t) (n) : Links d m (raise t n) := by
  unfold raise
  grind [links_destEvent, links_mk]

theorem links_setDrinex (e : Drinex) (h : t.mem = m) : Links e m (setDrinex t e) := by
  have hset : Links e m { t with drinex := e } := ⟨rfl, h⟩
  unfold setDrinex
  dsimp only
  split
  · exact hset
  · exact links_raise hset _

theorem links_releaseIntr (h : Links d m t) : Links d m (releaseIntr t) := by
  unfold releaseIntr
  split
  · exact links_foldl (fun t v h => links_sendIntr h v) _ ⟨h.link, h.mem⟩
  · exact h

theorem links_sendEcho (h : Links d m t) (x q k seq data) : Links d m (sendEcho t x q k seq data) := by
  unfold sendEcho
  refine links_sendTxn ?_ ..
  exact ⟨h.link, h.mem⟩

theorem links_resendEchoes (h : Links d m t) : Links d m (resendEchoes t) := by
  unfold resendEchoes
  refine links_foldl (fun t e h => links_sendEcho ?_ ..) _ ⟨h.link, h.mem⟩
  split
  · exact ⟨h.link, h.mem⟩
  · exact ⟨h.link, h.mem⟩

/-! #### While the link is down -/

/-- The link is down, and what is unacknowledged stays. -/
structure Offline (r : List (BitVec 12)) (t : State) : Prop where
  down : t.linkUp = false
  replay : t.drinex.replay = r

variable {r : List (BitVec 12)}

theorem offline_mk (h : Offline r t) {pending out draws clkc device mem cores slotMap spares counters syncFaults tailDiscards signals addends
    contexts queueObjs training fabric coll dict sources dests rel sec meter power} :
    Offline r (State.mk pending out draws clkc device mem cores slotMap spares counters syncFaults tailDiscards signals addends
      contexts queueObjs training fabric coll t.drinex dict sources dests rel sec meter power) := ⟨h.down, h.replay⟩

theorem offline_sendIntr (h : Offline r t) (v) : Offline r (sendIntr t v) := by
  unfold sendIntr
  rw [if_neg (by rw [h.down]; simp)]
  split
  · exact h
  · exact ⟨h.down, h.replay⟩

theorem offline_deliver (h : Offline r t) (n) : Offline r (deliver t n) := by
  unfold deliver
  have hd (x : SMap IrqDest) : Offline r { t with dests := x } := offline_mk h
  dsimp only
  split
  · exact offline_sendIntr (hd _) _
  · split
    · exact offline_mk (hd _)
    · exact hd _

theorem offline_raise (h : Offline r t) (n) : Offline r (raise t n) := by
  unfold raise destEvent deliverIfDue
  grind [offline_deliver, offline_mk]

theorem drinexTrain_offline (s : State) (lanes : BitVec 8) (x8 : Bool) : Offline s.drinex.replay (drinexTrain s lanes x8) := by
  have hset : Offline s.drinex.replay { s with drinex := { s.drinex with st := 1, lanesAllowed := lanes, laneMap := 0, fromX8 := x8 } } := ⟨rfl, rfl⟩
  unfold drinexTrain setDrinex
  dsimp only
  split
  · exact hset
  · exact offline_raise hset _

/-! #### Training and going up (R320 to R322) -/

theorem drinexTrain_trains (s : State) (lanes : BitVec 8) (x8 : Bool) : let t := drinexTrain s lanes x8
    t.drinex.st = 1 ∧ t.drinex.lanesAllowed = lanes ∧ t.mem = s.mem := by
  have h : Links _ s.mem (drinexTrain s lanes x8) :=
    links_setDrinex { s.drinex with st := 1, lanesAllowed := lanes, laneMap := 0, fromX8 := x8 } rfl
  exact ⟨(congrArg Drinex.st h.link :), (congrArg Drinex.lanesAllowed h.link :), h.mem⟩

theorem drinexUp_fails {lanes : BitVec 8} (huse : chooseLanes (lanes &&& s.drinex.lanesAllowed) = 0) (last res p c e) :
    let t := drinexUp s lanes last res p c e
    t.drinex.st = 0 ∧ t.mem = s.mem := by
  unfold drinexUp
  dsimp only
  rw [if_pos huse]
  have h : Links _ s.mem (setDrinex s { s.drinex with st := 0, laneMap := 0, fromX8 := false }) := links_setDrinex _ rfl
  exact ⟨(congrArg Drinex.st h.link :), h.mem⟩

theorem acked_link (d : Drinex) (a : BitVec 12) : d.SameLink (d.acked a) := by
  unfold Drinex.acked
  split <;> rfl

theorem links_resume (u : State) {d : Drinex} {up : BitVec 3} (last : BitVec 12) :
    Links { d.acked last with st := up } u.mem (drainTxns (d.acked last).waiting.length
      (if (d.acked last).replay.isEmpty = true then setDrinex u { d.acked last with st := up }
        else (setDrinex u { d.acked last with st := up }).send (.flit 0 ((d.acked last).rxNext - 1) (d.acked last).replay))) := by
  have h : Links { d.acked last with st := up } u.mem (setDrinex u { d.acked last with st := up }) := links_setDrinex _ rfl
  refine links_drainTxns ?_ _
  split
  · exact h
  · exact ⟨h.link, h.mem⟩

/-- The link's record as it goes up, before the mode is chosen (R321, R322). -/
def Drinex.joined (d : Drinex) (use : BitVec 8) (p c e : Nat) : Drinex :=
  { d with owedP := 0, owedN := 0, owedE := 0, laneMap := use, creditP := p, creditC := c, creditE := e, retryTime := none, fromX8 := false
           degrades := if d.fromX8 && !decide (use = 0xFF) then satAdd d.degrades 1 else d.degrades }

theorem drinexUp_eq {lanes use : BitVec 8} {last : BitVec 12} {res : Bool} {p c e : Nat}
    (hu : chooseLanes (lanes &&& s.drinex.lanesAllowed) = use) (huse : use ≠ 0) : drinexUp s lanes last res p c e =
      let d := s.drinex.joined use p c e
      let up : BitVec 3 := if decide (use = 0xFF) then 2 else 3
      releaseIntr (if d.resume && res && d.holds last then
        drainTxns (d.acked last).waiting.length (if (d.acked last).replay.isEmpty then setDrinex (sendParameters s) { d.acked last with st := up }
          else (setDrinex (sendParameters s) { d.acked last with st := up }).send (.flit 0 ((d.acked last).rxNext - 1) (d.acked last).replay))
      else resendEchoes (setDrinex (sendParameters s) { d with
        st := up, replay := [], waiting := [], txNext := 0, rxNext := 0, ackDue := false, resume := true, epoch := d.epoch + 1 })) := by
  unfold drinexUp
  dsimp only
  rw [hu, if_neg huse]
  rfl

/-- What going up leaves, in resume and in fresh mode (R322). -/
theorem drinexUp_goes {lanes : BitVec 8} {last : BitVec 12} {res : Bool} {p c e : Nat}
    (huse : chooseLanes (lanes &&& s.drinex.lanesAllowed) ≠ 0) : ∃ d : Drinex, Links d s.mem (drinexUp s lanes last res p c e) ∧
      d.st = (if chooseLanes (lanes &&& s.drinex.lanesAllowed) = 0xFF then 2 else 3) ∧
      d.laneMap = chooseLanes (lanes &&& s.drinex.lanesAllowed) ∧
      (s.drinex.resume = true → res = true → s.drinex.holds last = true → d.epoch = s.drinex.epoch ∧ d.rxNext = s.drinex.rxNext) ∧
      (¬(s.drinex.resume = true ∧ res = true ∧ s.drinex.holds last = true) → d.epoch = s.drinex.epoch + 1 ∧ d.rxNext = 0 ∧ d.resume = true) := by
  generalize hu : chooseLanes (lanes &&& s.drinex.lanesAllowed) = use at huse ⊢
  have heq := drinexUp_eq (last := last) (res := res) (p := p) (c := c) (e := e) hu huse
  have hmem : (sendParameters s).mem = s.mem := rfl
  have hlane : (s.drinex.joined use p c e).laneMap = use := rfl
  have hresume : (s.drinex.joined use p c e).resume = s.drinex.resume := rfl
  have hholds : (s.drinex.joined use p c e).holds last = s.drinex.holds last := rfl
  have hepoch : (s.drinex.joined use p c e).epoch = s.drinex.epoch := rfl
  have hrx : (s.drinex.joined use p c e).rxNext = s.drinex.rxNext := rfl
  have hst : (if decide (use = 0xFF) = true then (2 : BitVec 3) else 3) = if use = 0xFF then 2 else 3 := by
    by_cases h : use = 0xFF
    · rw [if_pos (decide_eq_true h), if_pos h]
    · rw [if_neg (by simpa using h), if_neg h]
  dsimp only at heq
  generalize s.drinex.joined use p c e = M at heq hlane hresume hholds hepoch hrx
  generalize (if decide (use = 0xFF) = true then (2 : BitVec 3) else 3) = up at heq hst
  rw [heq]
  by_cases hcond : (M.resume && res && M.holds last) = true
  · rw [if_pos hcond]
    have hack := acked_link M last
    refine ⟨_, links_releaseIntr (links_resume (sendParameters s) last), hst, (congrArg Drinex.laneMap hack :).trans hlane, fun _ _ _ =>
      ⟨(congrArg Drinex.epoch hack :).trans hepoch, (congrArg Drinex.rxNext hack :).trans hrx⟩, fun hno => absurd ?_ hno⟩
    rw [hresume, hholds] at hcond
    simp only [Bool.and_eq_true] at hcond
    exact ⟨hcond.1.1, hcond.1.2, hcond.2⟩
  · rw [if_neg hcond]
    refine ⟨_, links_releaseIntr (links_resendEchoes (links_setDrinex _ hmem)), hst, hlane, fun h1 h2 h3 => absurd ?_ hcond, fun _ => ⟨?_, rfl, rfl⟩⟩
    · rw [hresume, hholds, h1, h2, h3]
      rfl
    · dsimp only
      rw [hepoch]

theorem drinexTrained_goes {lanes : BitVec 8} {last : BitVec 12} {res : Bool} {p c e : Nat} {epoch : BitVec 32} (hst : s.drinex.st = 1) :
    let use := chooseLanes (lanes &&& s.drinex.lanesAllowed)
    Goes (exec (.drinexTrained lanes epoch last res p c e) s) (fun t =>
      (use = 0 → t.drinex.st = 0) ∧ (use = 0xFF → t.drinex.st = 2) ∧ (use ≠ 0 → use ≠ 0xFF → t.drinex.st = 3) ∧
      (use ≠ 0 → t.drinex.laneMap = use) ∧
      (use ≠ 0 → s.drinex.resume = true → res = true → s.drinex.holds last = true → t.drinex.epoch = s.drinex.epoch ∧ t.drinex.rxNext = s.drinex.rxNext) ∧
      (use ≠ 0 → ¬(s.drinex.resume = true ∧ res = true ∧ s.drinex.holds last = true) → t.drinex.epoch = s.drinex.epoch + 1 ∧ t.drinex.rxNext = 0 ∧
        t.drinex.resume = true) ∧ t.mem = s.mem) := by
  refine ⟨_, congrArg Host.Outcome.next (if_pos hst), ?_⟩
  by_cases huse : chooseLanes (lanes &&& s.drinex.lanesAllowed) = 0
  · obtain ⟨hdown, hmem⟩ := drinexUp_fails huse last res p c e
    exact ⟨fun _ => hdown, fun h => absurd (huse.symm.trans h) (by decide), fun h => absurd huse h, fun h => absurd huse h, fun h => absurd huse h,
      fun h => absurd huse h, hmem⟩
  · obtain ⟨d, ⟨hlink, hmem⟩, hup, hlane, hresume, hfresh⟩ := drinexUp_goes (last := last) (res := res) (p := p) (c := c) (e := e) huse
    generalize drinexUp s lanes last res p c e = t at hlink hmem ⊢
    have hst : t.drinex.st = d.st := (congrArg Drinex.st hlink :)
    have hepoch : t.drinex.epoch = d.epoch := (congrArg Drinex.epoch hlink :)
    have hrx : t.drinex.rxNext = d.rxNext := (congrArg Drinex.rxNext hlink :)
    have hres : t.drinex.resume = d.resume := (congrArg Drinex.resume hlink :)
    have hmap : t.drinex.laneMap = d.laneMap := (congrArg Drinex.laneMap hlink :)
    rw [hst, hepoch, hrx, hres, hmap]
    exact ⟨fun h => absurd h huse, fun h => hup.trans (if_pos h), fun _ h => hup.trans (if_neg h), fun _ => hlane, fun _ => hresume, fun _ => hfresh, hmem⟩

/-! #### Going down, and the commands (R320, R323) -/

theorem drinexDown_downs (h0 : s.drinex.st ≠ 0) (h4 : s.drinex.st ≠ 4) : let t := drinexDown s
    t.drinex.st = 0 ∧ t.drinex.downs = (if s.linkUp then satAdd s.drinex.downs 1 else s.drinex.downs) ∧ t.mem = s.mem := by
  unfold drinexDown
  rw [if_neg (not_or.2 ⟨h0, h4⟩)]
  have h : Links _ s.mem (setDrinex s { s.drinex with
    st := 0, downs := if s.linkUp then satAdd s.drinex.downs 1 else s.drinex.downs, laneMap := 0, fromX8 := false }) := links_setDrinex _ rfl
  exact ⟨(congrArg Drinex.st h.link :), (congrArg Drinex.downs h.link :), h.mem⟩

theorem linkUp_states (h : s.linkUp = true) : s.drinex.st ≠ 0 ∧ s.drinex.st ≠ 4 := by
  simp only [State.linkUp, Bool.or_eq_true, decide_eq_true_eq] at h
  rcases h with h | h <;> rw [h] <;> decide

theorem plainSize_drinexCommand : plainSize 0x3300 4 = some 1 := by decide +kernel

theorem touchSelects_drinex (s : State) (acc : Accessor) : (touchSelects s acc).drinex = s.drinex := by
  unfold touchSelects
  split
  · unfold State.setSelects
    split <;> rfl
  · rfl

/-- A command of the link that it takes. -/
theorem drinexCommand_takes {acc : Accessor} (h : Admitted s acc 0x3300 4 = true) {v : BitVec 8} {u : State}
    (hw : drinexCommand (touchSelects s acc) v.toNat = .ok u) : .next (dictCommand s acc 0x3300 4 [v]) = Replied acc u := by
  refine dictCommand_replied h plainSize_drinexCommand ?_
  have hv : leNat [v] = v.toNat := by simp [leNat]
  have hplain : writePlain (touchSelects s acc) acc 0x3300 4 [v] = answerOf (touchSelects s acc) (drinexCommand (touchSelects s acc) v.toNat) := hv ▸ rfl
  rw [hplain, hw]
  rfl

theorem drinexEnable_down {acc : Accessor} (h : Admitted s acc 0x3300 4 = true) (hst : s.drinex.st = 4) :
    Answered (exec (.drinexEnable acc) s) acc (fun u => u.drinex.st = 0) := by
  have hd : (touchSelects s acc).drinex.st = 4 := by rw [touchSelects_drinex, hst]
  have hl : Links _ (touchSelects s acc).mem (setDrinex (touchSelects s acc) { (touchSelects s acc).drinex with st := 0 }) := links_setDrinex _ rfl
  refine ⟨_, drinexCommand_takes h (v := 1) (congrArg Except.ok (if_pos hd)), ?_⟩
  exact (congrArg Drinex.st hl.link :)

theorem drinexDisable_disables {acc : Accessor} (h : Admitted s acc 0x3300 4 = true) :
    Answered (exec (.drinexDisable acc) s) acc (fun u => u.drinex.st = 4 ∧ u.drinex.laneMap = 0) := by
  have hl : Links _ (touchSelects s acc).mem (setDrinex (touchSelects s acc) { (touchSelects s acc).drinex with st := 4, laneMap := 0, fromX8 := false }) :=
    links_setDrinex _ rfl
  exact ⟨_, drinexCommand_takes h (v := 2) rfl, (congrArg Drinex.st hl.link :), (congrArg Drinex.laneMap hl.link :)⟩

theorem drinexRetrain_trains {acc : Accessor} (h : Admitted s acc 0x3300 4 = true) (hst : s.drinex.st ≠ 4) :
    Answered (exec (.drinexRetrain acc) s) acc (fun u => u.drinex.st = 1 ∧ u.drinex.lanesAllowed = 0xFF) := by
  have hd : ¬(touchSelects s acc).drinex.st = 4 := by rwa [touchSelects_drinex]
  obtain ⟨ht, hallowed, -⟩ := drinexTrain_trains (touchSelects s acc) 0xFF (decide ((touchSelects s acc).drinex.st = 2))
  exact ⟨_, drinexCommand_takes h (v := 3) (congrArg Except.ok (if_neg hd)), ht, hallowed⟩

/-! #### Flits (R323 to R325) -/

theorem takeFlit_takes (hw : s.drinex.waiting = []) (f : Flit) : takeFlit s f = { s with drinex :=
    let d := if f.ackValid then s.drinex.acked f.ackSeq else s.drinex
    { d with creditP := d.creditP + f.creditP.toNat, creditC := d.creditC + f.creditC.toNat, creditE := d.creditE + f.creditE.toNat } } := by
  have hlen : (if f.ackValid = true then s.drinex.acked f.ackSeq else s.drinex).waiting = [] := by
    split
    · exact (show _ = s.drinex.waiting from (by unfold Drinex.acked; split <;> rfl)).trans hw
    · exact hw
  unfold takeFlit
  dsimp only
  rw [hlen]
  rfl

/-- A good data flit on a link that is up. -/
theorem dataFlit_eq {f : Flit} (hup : s.linkUp = true) (hgood : flitGood f = true) (hkind : f.kind = 0) : exec (.dataFlit f) s =
    .next (let t := countFlit s f
      if f.seq ≠ t.drinex.rxNext then discardFlit t
      else takeFlit { t with drinex := { t.drinex with rxNext := t.drinex.rxNext + 1, retryTime := none, ackDue := true } } f) := by
  have hup' : (countFlit s f).linkUp = true := hup
  show execDataFlit f s = _
  unfold execDataFlit
  rw [if_pos hup]
  dsimp only
  rw [if_neg (by rw [hup']; decide), if_neg (by rw [hgood]; decide), if_neg (by rw [hkind]; decide), if_neg (by rw [hkind]; decide)]

theorem dataFlit_taken {f : Flit} (hup : s.linkUp = true) (hgood : flitGood f = true) (hkind : f.kind = 0) (hw : s.drinex.waiting = [])
    (hseq : f.seq = (countFlit s f).drinex.rxNext) : exec (.dataFlit f) s = .next (takeFlit { countFlit s f with
      drinex := { (countFlit s f).drinex with rxNext := (countFlit s f).drinex.rxNext + 1, retryTime := none, ackDue := true } } f) := by
  rw [dataFlit_eq hup hgood hkind]
  exact congrArg Host.Outcome.next (if_neg (not_not.2 hseq))

theorem discardFlit_asks (h : s.drinex.retryTime = none) :
    discardFlit s = { s with drinex := { s.drinex with retryTime := some s.clkc } }.send (.flit 2 (s.drinex.rxNext - 1) []) := by
  unfold discardFlit
  dsimp only
  rw [h]
  rfl

theorem discardFlit_waits {t : BitVec 64} (h : s.drinex.retryTime = some t) (ht : (s.clkc - t).toNat < 2400) : discardFlit s = s := by
  unfold discardFlit
  dsimp only
  rw [h]
  exact if_neg (by simpa using ht)

/-- A retry request on a link that is up (R325). -/
theorem retryRequest_resends {f : Flit} (hup : s.linkUp = true) (hgood : flitGood f = true) (hkind : f.kind = 2) (hack : f.ackValid = true)
    (hw : s.drinex.waiting = []) : let u := countFlit s f
    Goes (exec (.retryRequest f) s) (fun t =>
      t.drinex.replay = (u.drinex.acked f.ackSeq).replay ∧ t.drinex.replays = satAdd u.drinex.replays 1 ∧
      t.out = .flit 0 (u.drinex.rxNext - 1) (u.drinex.acked f.ackSeq).replay :: u.out ∧ { t with drinex := u.drinex, out := u.out } = u) := by
  have hup' : (countFlit s f).linkUp = true := hup
  have hw' : (countFlit s f).drinex.waiting = [] := hw
  have htake := takeFlit_takes hw' f
  rw [if_pos hack] at htake
  have heq : exec (.retryRequest f) s = .next (let t := takeFlit (countFlit s f) f
      { t with drinex := { t.drinex with replays := satAdd t.drinex.replays 1 } }.send (.flit 0 (t.drinex.rxNext - 1) t.drinex.replay)) := by
    show execRetryRequest f s = _
    unfold execRetryRequest
    rw [if_pos hup]
    dsimp only
    rw [if_neg (by rw [hup']; decide), if_neg (by rw [hgood]; decide), if_neg (by rw [hkind]; decide)]
  rw [htake] at heq
  have hlink := acked_link (countFlit s f).drinex f.ackSeq
  have hrx : ((countFlit s f).drinex.acked f.ackSeq).rxNext = (countFlit s f).drinex.rxNext := (congrArg Drinex.rxNext hlink :)
  have hreplays : ((countFlit s f).drinex.acked f.ackSeq).replays = (countFlit s f).drinex.replays := (congrArg Drinex.replays hlink :)
  generalize countFlit s f = u at heq hrx hreplays ⊢
  refine ⟨_, heq, rfl, ?_, ?_, rfl⟩
  · show satAdd (u.drinex.acked f.ackSeq).replays 1 = _
    rw [hreplays]
  · show Output.flit 0 ((u.drinex.acked f.ackSeq).rxNext - 1) _ :: _ = _
    rw [hrx]

theorem returnCredits_all (howes : s.drinex.owes = true) (hp : s.drinex.owedP ≤ 255) (hn : s.drinex.owedN ≤ 255) (he : s.drinex.owedE ≤ 255) :
    returnCredits s = { s with drinex := { s.drinex with owedP := 0, owedN := 0, owedE := 0 }
                               out := .drinexCredits s.drinex.owedP s.drinex.owedN s.drinex.owedE :: s.out } := by
  unfold returnCredits
  dsimp only
  rw [if_neg (by rw [howes]; decide), Nat.sub_eq_zero_of_le hp, Nat.sub_eq_zero_of_le hn, Nat.sub_eq_zero_of_le he, Nat.min_eq_left hp,
    Nat.min_eq_left hn, Nat.min_eq_left he]

theorem idleFlit_acks (hup : s.linkUp = true) (h : s.drinex.ackDue = true ∨ s.drinex.owes = true) : exec .idleFlitTimer s =
    .next ((returnCredits { s with drinex := { s.drinex with ackDue := false } }).send (.flit 1 (s.drinex.rxNext - 1) [])) :=
  congrArg Host.Outcome.next (if_pos (by rw [hup]; rcases h with h | h <;> rw [h] <;> simp))

end

/-- Settles O30: the link's own record through every event (`SameLink`), and the flits. -/
theorem drinexLinkAndFlits : Obligations.DrinexLinkAndFlits := by
  unfold Obligations.DrinexLinkAndFlits
  intro s
  refine ⟨fun hst htrains => ?_, fun lanes epoch last res p c e hst => drinexTrained_goes hst, fun lane hst => ?_,
    fun h0 h4 => ⟨_, rfl, drinexDown_downs h0 h4⟩, fun hup hreplay => ?_,
    fun acc hadm => ⟨drinexEnable_down hadm, fun hst => ?_, drinexDisable_disables hadm, drinexRetrain_trains hadm, fun hst => ?_⟩,
    fun f hup hgood hkind hw => ⟨fun hseq => ?_, fun hseq hnone => ?_, fun hseq t hsome ht => ?_⟩,
    fun f hup hgood hkind hack hw => retryRequest_resends hup hgood hkind hack hw, idleFlit_acks, returnCredits_all⟩
  · exact ⟨_, congrArg Host.Outcome.next (if_pos (by rw [hst, htrains]; rfl)), drinexTrain_trains ..⟩
  · obtain ⟨ht, hallowed, -⟩ := drinexTrain_trains s (if lane.val < 4 then 0xF0 else 0x0F) true
    exact ⟨_, congrArg Host.Outcome.next (if_pos hst), ht, hallowed, (drinexTrain_offline ..).replay⟩
  · obtain ⟨h0, h4⟩ := linkUp_states hup
    obtain ⟨hst, hdowns, hmem⟩ := drinexDown_downs h0 h4
    rw [if_pos hup] at hdowns
    exact ⟨_, congrArg Host.Outcome.next (if_pos (by simp [hup, hreplay])), hst, hdowns, hmem⟩
  · exact drinexCommand_takes hadm (v := 1) (congrArg Except.ok (if_neg (by rwa [touchSelects_drinex])))
  · exact drinexCommand_takes hadm (v := 3) (congrArg Except.ok (if_pos (by rwa [touchSelects_drinex])))
  · exact (dataFlit_taken hup hgood hkind hw hseq).trans (congrArg Host.Outcome.next (takeFlit_takes (s := { countFlit s f with
      drinex := { (countFlit s f).drinex with rxNext := (countFlit s f).drinex.rxNext + 1, retryTime := none, ackDue := true } }) hw f))
  · rw [dataFlit_eq hup hgood hkind]
    exact congrArg Host.Outcome.next ((if_pos hseq).trans (discardFlit_asks hnone))
  · rw [dataFlit_eq hup hgood hkind]
    exact congrArg Host.Outcome.next ((if_pos hseq).trans (discardFlit_waits hsome ht))

end Sys2Proof.Machine
end

section
/-! PROOFS. Host transactions (O31). -/

namespace Sys2Proof.Machine

/-! ### Host transactions (R328 to R332, R334) -/

section
variable {s : State} {h : TxnHdr}

/-- The slots of a posted transaction: its own, and one per 16 bytes (R328). -/
theorem tookTxn_posted (s : State) (n : Nat) : tookTxn s 0 n = { s with drinex := { s.drinex with owedP := s.drinex.owedP + 1 + (n + 15) / 16 } } := by
  have hsum : s.drinex.owedP + (1 + ceilDiv n 16) = s.drinex.owedP + 1 + (n + 15) / 16 := (Nat.add_assoc ..).symm
  rw [← hsum]
  rfl

/-- A transaction that is taken changes the slots owed alone. -/
theorem tookTxn_owes (s : State) (c : BitVec 2) (n : Nat) : { tookTxn s c n with drinex :=
    { (tookTxn s c n).drinex with owedP := s.drinex.owedP, owedN := s.drinex.owedN, owedE := s.drinex.owedE } } = s := by
  unfold tookTxn Drinex.freed
  dsimp only
  split <;> rfl

theorem tookTxn_echoes (s : State) (c : BitVec 2) (n : Nat) : (tookTxn s c n).drinex.echoes = s.drinex.echoes :=
  (congrArg (fun t : State => t.drinex.echoes) (tookTxn_owes s c n) :)

theorem tookTxn_echoUnmatched (s : State) (c : BitVec 2) (n : Nat) : (tookTxn s c n).drinex.echoUnmatched = s.drinex.echoUnmatched :=
  (congrArg (fun t : State => t.drinex.echoUnmatched) (tookTxn_owes s c n) :)

/-! #### Memory access (R329) -/

theorem execMwr_eq (hup : s.linkUp = true) (hok : hdrOk h 0 0 4096 false = true) {a : BitVec 48} {data : Bytes}
    (hlen : data.length = h.length.toNat) : exec (.mwr h a data .clean) s = .next (let u := tookTxn s h.cls h.length.toNat
      if s.device ≠ .service then hostRefused u else hostStore u a.toNat data .clean) := by
  show execMwr h a data .clean s = _
  unfold execMwr
  rw [hup, hok, hlen]
  simp only [Bool.not_true, Bool.false_eq_true, if_false, ne_eq, not_true_eq_false, decide_false, Bool.or_false]
  rfl

theorem hostStore_writes {a : Nat} {data : Bytes} {m : Memory} (hne : data ≠ []) (hr : s.rangeOk none a data.length = true)
    (hw : hostWrite s (data.length / 64 + 2) s.mem a data = (m, none)) : hostStore s a data .clean = { s with mem := m } := by
  have hempty : data.isEmpty = false := List.isEmpty_eq_false_iff.2 hne
  unfold hostStore hostDetect
  rw [hempty, hr]
  dsimp only
  rw [hw]
  rfl

theorem hostStore_refuses {a : Nat} {data : Bytes} (hne : data ≠ []) (hr : s.rangeOk none a data.length = false) :
    hostStore s a data .clean = refusedAt s a := by
  have hempty : data.isEmpty = false := List.isEmpty_eq_false_iff.2 hne
  unfold hostStore
  rw [hempty, hr]
  rfl

theorem execMrd_eq (hup : s.linkUp = true) (hok : hdrOk h 1 0 4096 true = true) (a : BitVec 48) :
    exec (.mrd h a .clean) s = .next (let u := tookTxn s h.cls 0
      if s.device = .bootLimited then cpl u h.tag 2 [] else hostLoad u h.tag a.toNat h.length.toNat .clean) := by
  show execMrd h a .clean s = _
  unfold execMrd
  rw [hup, hok]
  rfl

theorem hostLoad_reads {tag : BitVec 8} {a n : Nat} {bs : Bytes} (hn : n ≠ 0) (hr : s.rangeOk none a n = true)
    (hread : readMem s s.mem n a = .ok bs) : hostLoad s tag a n .clean = cpl s tag 0 bs := by
  unfold hostLoad hostDetect
  rw [if_neg hn, hr]
  dsimp only
  rw [hread]
  rfl

/-! #### Doorbells (R330) and the dictionary (R331, R332) -/

/-- What a doorbell on an open queue does: it moves the pointers, or counts a reject. -/
theorem doorbell_rings {x : CtxId} {q : QueueId} {newTail newRelease : BitVec 64} (hup : s.linkUp = true) (hok : hdrOk h 0 16 16 false = true)
    (hdev : s.device = .service) (hsnap : s.queueObjs.snapBusy = false) (hst : (s.ctx x).st ≠ .free) (hq : q.val < (s.ctx x).queueCount)
    (hconf : (s.queue x q).configured = true) (hfab : (s.queue x q).fabric = false) :
    exec (.doorbell h x q newTail newRelease) s = .next (ringDoorbell (tookTxn s h.cls h.length.toNat) x q newTail newRelease) := by
  show execDoorbell h x q newTail newRelease s = _
  have hguard : ¬((s.ctx x).st = .free ∨ (s.ctx x).queueCount ≤ q.val) := by
    rintro (hfree | hle)
    · exact hst hfree
    · exact absurd hq (Nat.not_lt.2 hle)
  have hdoor : hostDoorbell (tookTxn s h.cls h.length.toNat) x q newTail newRelease =
      ringDoorbell (endSnapshot (tookTxn s h.cls h.length.toNat)) x q newTail newRelease :=
    (if_neg hguard).trans (if_neg (show ¬(!(s.queue x q).configured || (s.queue x q).fabric) = true by rw [hconf, hfab]; decide))
  rw [endSnapshot_idle (by exact hsnap)] at hdoor
  unfold execDoorbell
  rw [hup, hok]
  exact congrArg Host.Outcome.next ((if_neg (by decide)).trans ((if_neg (by
    show ¬(!true || decide (s.device ≠ .service)) = true
    rw [hdev]; decide)).trans hdoor))

/-- A configured queue that is changed and stays configured reads back. -/
theorem modQueue_goes {x q : Nat} {f : Queue → Queue} (hf : (f (s.queue x q)).configured = true) :
    (s.modQueue x q f).queue x q = f (s.queue x q) ∧ { s.modQueue x q f with contexts := s.contexts } = s :=
  ⟨queue_modQueue fun h => Bool.false_ne_true ((congrArg Queue.configured h).symm.trans hf), modQueue_frame ..⟩

theorem dictRd_answers {idx : BitVec 16} {sub : BitVec 8} {r : ObjRow} {t : State} {v : Bytes} (hup : s.linkUp = true)
    (hok : hdrOk h 1 0 0 true = true) (htap : s.dict.tapRequest = none) :
    let u := tookTxn s h.cls h.length.toNat
    checkAccess u .host false idx.toNat sub.toNat = .ok r → readObject u s.dict.host r idx.toNat sub.toNat = (t, 0, v) →
    exec (.dictRd h idx sub) s = .next (dictCpl t h.tag 0 v) := by
  intro u hcheck hread
  have hdict : dictRead (serveTap u) { cls := .host, src := 0 } idx.toNat sub.toNat = (t, 0, v) := by
    rw [serveTap_idle (by exact htap)]
    unfold dictRead
    dsimp only [touchSelects]
    rw [hcheck]
    dsimp only [State.selects]
    rw [show u.dict.host = s.dict.host from rfl, hread]
    exact congrArg (·, 0, v) (countAbort_zero t)
  show execDictRd h idx sub s = _
  unfold execDictRd
  rw [hup, hok]
  show Host.Outcome.next (let (t, code, v) := dictRead (serveTap u) _ _ _; dictCpl t h.tag code v) = _
  rw [hdict]

theorem dictWr_answers {idx : BitVec 16} {sub : BitVec 8} {r : ObjRow} {t : State} {b : Bytes} (hup : s.linkUp = true)
    (hok : hdrOk h 1 1 256 true = true) (hlen : b.length = h.length.toNat) (htap : s.dict.tapRequest = none) :
    let u := tookTxn s h.cls h.length.toNat
    checkAccess u .host true idx.toNat sub.toNat = .ok r → b.length = r.size →
    writeObject u { cls := .host, src := 0 } r idx.toNat sub.toNat b [] = (t, 0) →
    exec (.dictWr h idx sub b) s = .next (dictCpl t h.tag 0 []) := by
  intro u hcheck hsize hwrite
  have hdict : dictWrite (serveTap u) { cls := .host, src := 0 } idx.toNat sub.toNat b [] = (t, 0) := by
    rw [serveTap_idle (by exact htap)]
    unfold dictWrite
    dsimp only [touchSelects]
    rw [hcheck]
    dsimp only
    unfold applyWrite
    rw [if_neg (not_not.2 hsize), hwrite]
    exact congrArg (·, 0) (countAbort_zero t)
  show execDictWr h idx sub b s = _
  unfold execDictWr
  rw [hup, hok, hlen]
  have hkeep : (!true || decide (h.length.toNat ≠ h.length.toNat)) = false := by simp
  dsimp only
  rw [hkeep]
  show Host.Outcome.next (let (t, code) := dictWrite (serveTap u) { cls := .host, src := 0 } idx.toNat sub.toNat b []; dictCpl t h.tag code []) = _
  rw [hdict]

/-! #### Echoes (R334) -/

theorem echoAck_takes {x : CtxId} {q : QueueId} {ck : Bool} {seq : BitVec 64} (hup : s.linkUp = true) (hok : hdrOk h 3 0 0 false = true) :
    exec (.echoAck h x q ck seq) s = .next (takeEchoAck (tookTxn s h.cls h.length.toNat) x q ck seq) := by
  show execEchoAck h x q ck seq s = _
  unfold execEchoAck
  rw [hup, hok]
  rfl

theorem sweepEnd_idle (h : s.power.sweeping = false) : sweepEnd s = s := by
  unfold sweepEnd
  rw [h]
  rfl

/-- What an acknowledgement does to the queue that was echoed. -/
def Queue.acknowledged (k : Queue) (commitKind : Bool) (seq : BitVec 64) : Queue :=
  if commitKind then { k with descs := mapWhere (fun d => decide (d.seq = seq)) (fun d => { d with echoed := true }) k.descs }
  else { k with acceptEchoed := k.acceptEchoed || decide ((k.accepting.map (·.seq)) = some seq) }

/-- An acknowledgement of an outstanding echo, while no sweep runs. -/
theorem takeEchoAck_eq {x q : Nat} {ck : Bool} {seq : BitVec 64} (hsweep : s.power.sweeping = false)
    (he : s.drinex.echoes.contains (x, q, ck, seq) = true) : takeEchoAck s x q ck seq =
      { s with drinex := { s.drinex with echoes := s.drinex.echoes.filter (fun k => decide (k ≠ (x, q, ck, seq))) } }.modQueue x q
        (fun k => k.acknowledged ck seq) := by
  unfold takeEchoAck
  dsimp only
  rw [if_pos he]
  exact sweepEnd_idle hsweep

theorem takeEchoAck_unmatched {x q : Nat} {ck : Bool} {seq : BitVec 64} (he : s.drinex.echoes.contains (x, q, ck, seq) = false) :
    takeEchoAck s x q ck seq = { s with drinex := { s.drinex with echoUnmatched := satAdd s.drinex.echoUnmatched 1 } } := by
  unfold takeEchoAck
  dsimp only
  rw [if_neg (by rw [he]; decide)]

theorem contains_filter_self {α : Type} [DecidableEq α] [BEq α] [LawfulBEq α] (l : List α) (e : α) :
    (l.filter (fun k => decide (k ≠ e))).contains e = false := by
  simp

theorem contains_filter_other {α : Type} [DecidableEq α] [BEq α] [LawfulBEq α] (l : List α) {e k : α} (h : k ≠ e) :
    (l.filter (fun k => decide (k ≠ e))).contains k = l.contains k := by
  simp [h]

theorem accept_acknowledged {x q : Nat} {seq : BitVec 64} {d : HostDesc} (hd : (s.queue x q).accepting = some d) (hseq : d.seq = seq) :
    ((s.modQueue x q (fun k => k.acknowledged false seq)).queue x q).acceptEchoed = true := by
  have hecho : ((s.queue x q).acknowledged false seq).acceptEchoed = true := by simp [Queue.acknowledged, hd, hseq]
  rw [queue_modQueue fun h => Bool.false_ne_true ((congrArg Queue.acceptEchoed h).symm.trans hecho)]
  exact hecho

theorem commit_acknowledged {x q : Nat} {seq : BitVec 64} {d : HostDesc} (hd : s.desc? x q seq = some d) :
    (s.modQueue x q (fun k => k.acknowledged true seq)).desc? x q seq = some { d with echoed := true } :=
  desc?_modDesc (f := fun d => { d with echoed := true }) hd fun _ => rfl

end

/-- Settles O31: each transaction's own equation, in a state whose link is up. -/
theorem hostTransactionsAreServed : Obligations.HostTransactionsAreServed := by
  unfold Obligations.HostTransactionsAreServed
  intro s h hup
  dsimp only
  refine ⟨fun hcls => ?_, fun hcls => ?_, fun a data m hok hlen => ?_, fun a bs hok => ?_,
    fun x q newTail newRelease hok hdev hsnap hst hq hconf hfab => ?_, fun idx sub r t v hok htap => dictRd_answers hup hok htap,
    fun idx sub b r t hok hlen htap => dictWr_answers hup hok hlen htap, fun x q ck seq hok hsweep => ?_⟩
  · rw [hcls, tookTxn_posted]
  · rw [hcls]
    rfl
  · have hserve (hdev : s.device = .service) := (execMwr_eq hup hok hlen (a := a)).trans (congrArg Host.Outcome.next (if_neg (not_not.2 hdev)))
    refine ⟨fun hdev hne hr hw => (hserve hdev).trans (congrArg Host.Outcome.next (hostStore_writes hne hr hw)), fun hdev hnil => ?_,
      fun hdev hne hr => (hserve hdev).trans (congrArg Host.Outcome.next (hostStore_refuses hne hr)),
      fun hdev => (execMwr_eq hup hok hlen).trans (congrArg Host.Outcome.next (if_pos hdev))⟩
    rw [hserve hdev, hnil]
    rfl
  · have hserve (hdev : s.device ≠ .bootLimited) := (execMrd_eq hup hok a).trans (congrArg Host.Outcome.next (if_neg hdev))
    refine ⟨fun hdev hn hr hread => (hserve hdev).trans (congrArg Host.Outcome.next (hostLoad_reads (fun h0 => hn (BitVec.eq_of_toNat_eq h0)) hr hread)),
      fun hdev hn => ?_, fun hdev => (execMrd_eq hup hok a).trans (congrArg Host.Outcome.next (if_pos hdev))⟩
    rw [hserve hdev, hn]
    rfl
  · have hring := doorbell_rings hup hok hdev hsnap hst hq hconf hfab (newTail := newTail) (newRelease := newRelease)
    exact ⟨fun hgood => ⟨_, hring.trans (congrArg Host.Outcome.next (if_neg hgood)), modQueue_goes hconf⟩,
      fun hbad => ⟨_, hring.trans (congrArg Host.Outcome.next (if_pos hbad)), modQueue_goes hconf⟩⟩
  · have hserve := echoAck_takes (x := x) (q := q) (ck := ck) (seq := seq) hup hok
    rw [← tookTxn_echoes s h.cls h.length.toNat, ← tookTxn_echoUnmatched s h.cls h.length.toNat]
    refine ⟨fun he => ⟨_, hserve.trans (congrArg Host.Outcome.next (takeEchoAck_eq hsweep he)), contains_filter_self .., fun k hk =>
      contains_filter_other _ hk, fun hck d hd hseq => ?_, fun hck d hd => ⟨{ d with echoed := true }, ?_, rfl⟩, rfl⟩,
      fun he => hserve.trans (congrArg Host.Outcome.next (takeEchoAck_unmatched he))⟩
    · rw [hck]
      exact accept_acknowledged hd hseq
    · rw [hck]
      exact commit_acknowledged hd

end Sys2Proof.Machine
end

section
/-! PROOFS. A host reads back what it wrote (O32). -/

namespace Sys2Proof.Machine

/-! ### A host reads back what it wrote (R329) -/

section
variable {s t : State}

/-! #### Blocks of 64 bytes lie together in memory -/

/-- A division into parts of whole blocks, from a base of whole blocks, does not part a block. -/
theorem sub_div_block {p i : Nat} (h : p % 64 + i < 64) (b k : Nat) : (p + i - 64 * b) / (64 * k) = (p - 64 * b) / (64 * k) := by
  rw [← Nat.div_div_eq_div_mul, ← Nat.div_div_eq_div_mul, show (p + i - 64 * b) / 64 = (p - 64 * b) / 64 by omega]

theorem sub_mod_block {a b : Nat} (hb : b % 64 = 0) (h : b ≤ a) : (a - b) % 64 = a % 64 := by omega

theorem mod_block {p i : Nat} (h : p % 64 + i < 64) (k : Nat) : (p + i) % (64 * k) = p % (64 * k) + i := by
  rw [Nat.mod_mul, Nat.mod_mul, show (p + i) / 64 = p / 64 by omega, show (p + i) % 64 = p % 64 + i by omega]
  omega

/-- The memory behind the channels is whole blocks. -/
theorem ddrWindow_blocks (m : Memory) : m.ddrWindow % 64 = 0 := by
  have hblocks : (m.ddrGib * 2 ^ 30 - journalBytes) % 64 = 0 := by
    unfold journalBytes
    omega
  unfold Memory.ddrWindow
  rw [Nat.mul_mod, hblocks, Nat.mul_zero, Nat.zero_mod]

/-! One lemma for each region of the address map (R136 to R144): of two addresses of a block, the lower lies in the region that holds the higher. -/

section
variable {a i j r p : Nat} {v : Nat × Nat} (hblock : a % 64 + j < 64) (hij : i ≤ j) (ha : s.region a = some (r, p))

include hblock hij ha

theorem region_block_hbm (hj : s.region (a + j) = some v) (hhbm : a < 960 * 2 ^ 30) : s.region (a + i) = some (r, p + i) ∧ p % 64 = a % 64 := by
  have hpage : (a + i) / 4096 = a / 4096 ∧ (a + i) % 4096 = a % 4096 + i := by omega
  unfold State.region at ha hj ⊢
  dsimp only at ha hj ⊢
  rw [if_pos (by omega)] at ha hj ⊢
  have hj' : a + j < s.mem.hbmDecoded := by
    by_contra hc
    rw [if_neg hc] at hj
    cases hj
  rw [if_pos (by omega)] at ha ⊢
  obtain ⟨rfl, rfl⟩ := Prod.mk.inj (Option.some.inj ha)
  rw [hpage.1, hpage.2, ← Nat.add_assoc]
  refine ⟨rfl, ?_⟩
  unfold stackBase
  omega

theorem region_block_stack (hj : s.region (a + j) = some v) (hst : 0x10000000000 ≤ a ∧ a < 0x28000000000) :
    s.region (a + i) = some (r, p + i) ∧ p % 64 = a % 64 := by
  have hi : a % 64 + i < 64 := by omega
  unfold State.region at ha hj ⊢
  dsimp only at ha hj ⊢
  rw [if_neg (by omega)] at ha hj ⊢
  have hstack (k : Nat) (h : a % 64 + k < 64) : (a + k - 0x10000000000) / 2 ^ 37 = (a - 0x10000000000) / 2 ^ 37 :=
    sub_div_block h 0x400000000 0x80000000
  have hoff (k : Nat) (h : a % 64 + k < 64) : (a + k) % 2 ^ 37 = a % 2 ^ 37 + k := mod_block h 0x80000000
  rw [if_pos (by simp; omega)] at ha hj ⊢
  have hj' : (a + j) % 2 ^ 37 < 80 * 2 ^ 30 - s.mem.sealedBytes / 12 := by
    by_contra hc
    rw [if_neg hc] at hj
    cases hj
  rw [hoff j hblock] at hj'
  rw [hoff i hi, hstack i hi]
  rw [if_pos (by omega)] at ha ⊢
  obtain ⟨rfl, rfl⟩ := Prod.mk.inj (Option.some.inj ha)
  rw [← Nat.add_assoc]
  refine ⟨rfl, ?_⟩
  unfold stackBase
  omega

theorem region_block_ddr (hddr : 0x40000000000 ≤ a ∧ a + j < 0x40000000000 + s.mem.ddrWindow) :
    s.region (a + i) = some (r, p + i) ∧ p % 64 = a % 64 := by
  unfold State.region at ha ⊢
  dsimp only at ha ⊢
  rw [if_neg (by omega), if_neg (by simp; omega)] at ha ⊢
  have hw (k : Nat) : a + k - 0x40000000000 = a - 0x40000000000 + k := by omega
  have hmod : (a - 0x40000000000) % 64 = a % 64 := sub_mod_block (by norm_num) hddr.1
  rw [if_pos (by simp; omega)] at ha ⊢
  obtain ⟨w, hwa⟩ : ∃ w, a - 0x40000000000 = w := ⟨_, rfl⟩
  rw [hwa] at ha hw hmod
  rw [hw, show (w + i) / 4096 = w / 4096 by omega, show (w + i) % 4096 = w % 4096 + i by omega]
  obtain ⟨rfl, rfl⟩ := Prod.mk.inj (Option.some.inj ha)
  rw [← Nat.add_assoc]
  refine ⟨rfl, ?_⟩
  unfold channelBase journalBytes
  omega

theorem region_block_local (hddr : 0x40000000000 + s.mem.ddrWindow ≤ a + j) (hlow : 0x100000000000 ≤ a) (hlocal : a < 0x1000C0000000) :
    s.region (a + i) = some (r, p + i) ∧ p % 64 = a % 64 := by
  have hi : a % 64 + i < 64 := by omega
  have hwindow := ddrWindow_blocks s.mem
  unfold State.region at ha ⊢
  dsimp only at ha ⊢
  rw [if_neg (by omega), if_neg (by simp; omega), if_neg (by simp; omega)] at ha ⊢
  have hgroup : (a + i - 0x100000000000) / 2 ^ 24 = (a - 0x100000000000) / 2 ^ 24 := sub_div_block hi 0x4000000000 0x40000
  rw [if_pos (by simp; omega)] at ha ⊢
  rw [hgroup]
  by_cases hpresent : s.present ((a - 0x100000000000) / 2 ^ 24) = true
  · rw [if_pos hpresent] at ha ⊢
    obtain ⟨rfl, rfl⟩ := Prod.mk.inj (Option.some.inj ha)
    exact ⟨rfl, rfl⟩
  · rw [if_neg hpresent] at ha
    cases ha

theorem region_block_scratch (hddr : 0x40000000000 + s.mem.ddrWindow ≤ a + j) (hscratch : 0x100100000000 ≤ a ∧ a < 0x100400000000) :
    s.region (a + i) = some (r, p + i) ∧ p % 64 = a % 64 := by
  have hi : a % 64 + i < 64 := by omega
  have hwindow := ddrWindow_blocks s.mem
  unfold State.region at ha ⊢
  dsimp only at ha ⊢
  rw [if_neg (by omega), if_neg (by simp; omega), if_neg (by simp; omega), if_neg (by simp; omega)] at ha ⊢
  have hcluster : (a + i - 0x100100000000) / 0x20000000 = (a - 0x100100000000) / 0x20000000 := sub_div_block hi 0x4004000000 0x800000
  have hgranule : (a + i - 0x100100000000) % 0x20000000 / 2 ^ 24 = (a - 0x100100000000) % 0x20000000 / 2 ^ 24 := by
    have hparts (w : Nat) : w % 0x20000000 / 2 ^ 24 = w / 2 ^ 24 % 32 := Nat.mod_mul_left_div_self w (2 ^ 24) 32
    have hpart : (a + i - 0x100100000000) / 2 ^ 24 = (a - 0x100100000000) / 2 ^ 24 := sub_div_block hi 0x4004000000 0x40000
    rw [hparts, hparts, hpart]
  rw [if_pos (by simp; omega)] at ha ⊢
  rw [hcluster, hgranule]
  split at ha
  · rename_i hheld
    rw [if_pos hheld]
    obtain ⟨rfl, rfl⟩ := Prod.mk.inj (Option.some.inj ha)
    exact ⟨rfl, rfl⟩
  · cases ha

/-- The addresses of one block that a region holds translate in step: the whole block lies together, aligned as its addresses are. -/
theorem region_block (hj : s.region (a + j) = some v) : s.region (a + i) = some (r, p + i) ∧ p % 64 = a % 64 := by
  by_cases hhbm : a < 960 * 2 ^ 30
  · exact region_block_hbm hblock hij ha hj hhbm
  by_cases hst : 0x10000000000 ≤ a ∧ a < 0x28000000000
  · exact region_block_stack hblock hij ha hj hst
  by_cases hddr : 0x40000000000 ≤ a ∧ a + j < 0x40000000000 + s.mem.ddrWindow
  · exact region_block_ddr hblock hij ha hddr
  by_cases hlow : a < 0x100000000000
  · unfold State.region at hj
    dsimp only at hj
    rw [if_neg (by omega), if_neg (by simp; omega), if_neg (by simp; omega), if_neg (by simp; omega), if_neg (by simp; omega)] at hj
    cases hj
  by_cases hlocal : a < 0x1000C0000000
  · exact region_block_local hblock hij ha (by omega) (by omega) hlocal
  by_cases hscratch : 0x100100000000 ≤ a ∧ a < 0x100400000000
  · exact region_block_scratch hblock hij ha (by omega) hscratch
  · have hwindow := ddrWindow_blocks s.mem
    unfold State.region at ha
    dsimp only at ha
    rw [if_neg (by omega), if_neg (by simp; omega), if_neg (by simp; omega), if_neg (by simp; omega), if_neg (by simp; omega)] at ha
    cases ha

end

/-- The addresses of one block are live together. -/
theorem cellLive_block {p i : Nat} (h : p % 64 + i < 64) : s.cellLive (p + i) = s.cellLive p := by
  have h1 : (p + i) / 4096 = p / 4096 := by omega
  have h2 : (p + i < 0x28000000000) = (p < 0x28000000000) := by apply propext; omega
  have h3 : (p + i < 0x100000000000) = (p < 0x100000000000) := by apply propext; omega
  have h4 : (p + i - 0x10000000000) / 2 ^ 37 = (p - 0x10000000000) / 2 ^ 37 :=
    sub_div_block h 0x400000000 0x80000000
  have h5 : (p + i - 0x80000000000) / 2 ^ 38 = (p - 0x80000000000) / 2 ^ 38 :=
    sub_div_block h 0x2000000000 0x100000000
  unfold State.cellLive
  simp only [h1, h2, h3, h4, h5]

/-- The addresses of one block are dark together. -/
theorem dark_block {p i : Nat} (h : p % 64 + i < 64) : s.dark (p + i) = s.dark p := by
  have h1 : (p + i < 0x28000000000) = (p < 0x28000000000) := by apply propext; omega
  have h2 : (p + i < 0x100000000000) = (p < 0x100000000000) := by apply propext; omega
  have h3 : (p + i < 0x100100000000) = (p < 0x100100000000) := by apply propext; omega
  have h4 : (p + i - 0x10000000000) / 2 ^ 37 = (p - 0x10000000000) / 2 ^ 37 :=
    sub_div_block h 0x400000000 0x80000000
  have h5 : (p + i - 0x100000000000) / 2 ^ 24 = (p - 0x100000000000) / 2 ^ 24 :=
    sub_div_block h 0x4000000000 0x40000
  have h6 : (p + i - 0x100100000000) / 0x20000000 = (p - 0x100100000000) / 0x20000000 :=
    sub_div_block h 0x4004000000 0x800000
  unfold State.dark
  simp only [h1, h2, h3, h4, h5, h6]

/-- A range that is in order and lies in one block is translated in step. -/
theorem rangeOk_block {a n : Nat} (hn : n ≠ 0) (hblock : a % 64 + n ≤ 64) (h : s.rangeOk none a n = true) :
    ∃ p, p % 64 = a % 64 ∧ ∀ i < n, s.translate (a + i) = some (p + i) := by
  unfold State.rangeOk at h
  rw [beq_false_of_ne hn, Bool.false_or] at h
  cases ha : s.region a with
  | none => rw [ha] at h; cases h
  | some v =>
    obtain ⟨r, p⟩ := v
    cases hl : s.region (a + n - 1) with
    | none => rw [ha, hl] at h; cases h
    | some w =>
      have hlast : s.region (a + (n - 1)) = some w := by rwa [show a + (n - 1) = a + n - 1 by omega]
      rw [ha, hl] at h
      simp only [Bool.and_eq_true] at h
      obtain ⟨⟨⟨⟨-, hlive⟩, -⟩, -⟩, -⟩ := h
      have hmod := (region_block (i := 0) (by omega) (Nat.zero_le _) ha hlast).2
      refine ⟨p, hmod, fun i hi => ?_⟩
      obtain ⟨hreg, -⟩ := region_block (i := i) (by omega) (by omega) ha hlast
      unfold State.translate
      rw [hreg]
      dsimp only
      rw [cellLive_block (by omega), hlive]
      rfl

/-! #### The write and the read -/

/-- A host write of one block is one block's write. -/
theorem hostWrite_one_block {m m' : Memory} {a : Nat} {bs : Bytes} (hne : bs ≠ []) (hfit : a % 64 + bs.length ≤ 64)
    (hw : writeBlock s m none a bs = .ok m') : hostWrite s (bs.length / 64 + 2) m a bs = (m', none) := by
  obtain ⟨htake, hdrop⟩ := take_drop_one_block hfit
  simp [hostWrite, hne, htake, hdrop, hw]

/-- What a write of one block stores: the bytes, and the block is sound afterwards. -/
theorem writeBlock_stores {m : Memory} {a p : Nat} {bs : Bytes} (ha : s.translate a = some p) (hdark : s.dark p = false)
    (hp : m.poisoned p = false ∨ bs.length = 64) : ∃ m' : Memory, writeBlock s m none a bs = .ok (m'.putBytes p bs) ∧ m'.poisoned p = false ∧
      { m' with poison := m.poison } = m := by
  unfold writeBlock
  rw [ha]
  dsimp only
  rw [if_neg (by rw [hdark]; decide)]
  by_cases hlen : bs.length = 64
  · rw [if_neg (by simp [hlen]), if_pos hlen]
    exact ⟨_, rfl, by simp [Memory.poisoned], rfl⟩
  · have hsound := hp.resolve_right hlen
    rw [if_neg (by simp [hsound]), if_neg hlen]
    exact ⟨_, rfl, hsound, rfl⟩

theorem readMem_ok {m : Memory} {a : Nat} {bs : Bytes} (h : ∀ (i : Nat) (hi : i < bs.length), ∃ q, s.translate (a + i) = some q ∧ s.dark q = false ∧
    m.poisoned q = false ∧ m.byte q = bs[i]) : readMem s m bs.length a = .ok bs := by
  induction bs generalizing a with
  | nil => rfl
  | cons b bs ih =>
    obtain ⟨q, hq, hdark, hp, hbyte⟩ := h 0 (Nat.succ_pos _)
    have hrest := ih (a := a + 1) fun i hi => by
      have hnext := h (i + 1) (Nat.succ_lt_succ hi)
      rwa [show a + (i + 1) = a + 1 + i by omega] at hnext
    rw [Nat.add_zero] at hq
    simp only [List.length_cons, readMem, hq, hdark, hp, hrest]
    simpa using hbyte

/-! #### Stores leave the address map -/

/-- `t` is `s` but for the link's record and the bytes stored. -/
def StoredIn (s t : State) : Prop :=
  { t with drinex := s.drinex, mem := { t.mem with cells := s.mem.cells, poison := s.mem.poison } } = s

theorem StoredIn.translate (h : StoredIn s t) (a : Nat) : t.translate a = s.translate a := (congrArg (State.translate · a) h :)

theorem StoredIn.region (h : StoredIn s t) (a : Nat) : t.region a = s.region a := (congrArg (State.region · a) h :)

theorem StoredIn.dark (h : StoredIn s t) (p : Nat) : t.dark p = s.dark p := (congrArg (State.dark · p) h :)

theorem StoredIn.cellLive (h : StoredIn s t) (p : Nat) : t.cellLive p = s.cellLive p := (congrArg (State.cellLive · p) h :)

theorem StoredIn.pagesLive (h : StoredIn s t) (n p l : Nat) : pagesLive t n p l = pagesLive s n p l := by
  induction n generalizing p with
  | zero => rfl
  | succ n ih => simp only [Sys2Proof.Machine.pagesLive, ih, h.translate]

theorem StoredIn.rangeOk (h : StoredIn s t) (a n : Nat) : t.rangeOk none a n = s.rangeOk none a n := by
  have hgranules : t.rel.granules = s.rel.granules := (congrArg (fun s : State => s.rel.granules) h :)
  have hstacks : t.mem.hbmStacks = s.mem.hbmStacks := (congrArg (fun s : State => s.mem.hbmStacks) h :)
  have hchannels : t.mem.channels = s.mem.channels := (congrArg (fun s : State => s.mem.channels) h :)
  have hpopulation : t.mem.population = s.mem.population := (congrArg (fun s : State => s.mem.population) h :)
  unfold State.rangeOk
  simp only [h.region, h.cellLive, h.pagesLive, hgranules, hstacks, hchannels, hpopulation]

theorem putBytes_stores (m : Memory) (p : Nat) (bs : Bytes) : { m.putBytes p bs with cells := m.cells } = m := by
  induction bs generalizing m p with
  | nil => rfl
  | cons b bs ih => exact congrArg (fun k : Memory => { k with cells := m.cells }) (ih (m.setByte p b) (p + 1))

/-- A host write of one sound block stores the bytes at its address, and leaves the block sound. -/
theorem hostWrite_stores {a p : Nat} {bs : Bytes} (hwf : s.mem.wf = true) (hne : bs ≠ []) (hfit : a % 64 + bs.length ≤ 64)
    (ha : s.translate a = some p) (hmod : p % 64 = a % 64) (hdark : s.dark p = false) (hp : s.mem.poisoned p = false ∨ bs.length = 64) :
    ∃ m, hostWrite s (bs.length / 64 + 2) s.mem a bs = (m, none) ∧ { m with cells := s.mem.cells, poison := s.mem.poison } = s.mem ∧
      ∀ (i : Nat) (hi : i < bs.length), m.poisoned (p + i) = false ∧ m.byte (p + i) = bs[i] := by
  obtain ⟨m, hw, hsound, hm⟩ := writeBlock_stores ha hdark hp
  have hcells : m.cells = s.mem.cells := (congrArg Memory.cells hm :)
  have hmwf : m.wf = true := by
    unfold Memory.wf at hwf ⊢
    rwa [hcells]
  refine ⟨_, hostWrite_one_block hne hfit hw, ?_, fun i hi => ⟨?_, Memory.byte_putBytes_inside hmwf p bs hi⟩⟩
  · have hput := putBytes_stores m p bs
    rw [hcells] at hput
    exact (congrArg (fun k : Memory => { k with poison := s.mem.poison }) hput).trans hm
  · have hblock : (p + i) / 64 = p / 64 := by omega
    show (m.putBytes p bs).poison.contains ((p + i) / 64) = false
    rw [Memory.putBytes_poison, hblock]
    exact hsound

theorem storedIn_tookTxn (h : StoredIn s t) (c : BitVec 2) (n : Nat) : StoredIn s (tookTxn t c n) := h

theorem tookTxn_linkUp (s : State) (c : BitVec 2) (n : Nat) : (tookTxn s c n).linkUp = s.linkUp :=
  (congrArg State.linkUp (tookTxn_owes s c n) :)

end

/-- Settles O32: the write puts the bytes where the block lies, and the read of the same addresses finds them there. -/
theorem hostReadsBackWhatItWrote : Obligations.HostReadsBackWhatItWrote := by
  unfold Obligations.HostReadsBackWhatItWrote
  intro s h r a data hwf hup hdev hok hlen hrok hrlen hne hfit hrange hsound
  have hn : data.length ≠ 0 := fun h => hne (List.length_eq_zero_iff.1 h)
  obtain ⟨p, hmod, htr⟩ := rangeOk_block hn hfit hrange
  have hp := htr 0 (Nat.pos_of_ne_zero hn)
  obtain ⟨hdark, hpoison⟩ := hsound p hp
  obtain ⟨u, hu⟩ : ∃ u, tookTxn s h.cls h.length.toNat = u := ⟨_, rfl⟩
  have hsu : StoredIn s u := by rw [← hu]; exact storedIn_tookTxn (s := s) (t := s) rfl ..
  have humem : u.mem = s.mem := by rw [← hu]; rfl
  have hudev : u.device = .service := by rw [← hu]; exact hdev
  have huup : u.linkUp = true := by rw [← hu, tookTxn_linkUp, hup]
  have hmemwf : u.mem.wf = true := by rw [humem]; exact (State.wf_iff.1 hwf).1
  obtain ⟨m, hw, hmframe, hbytes⟩ := hostWrite_stores hmemwf hne hfit ((hsu.translate _).trans hp) hmod ((hsu.dark p).trans hdark)
    (by rwa [humem])
  have hst : StoredIn s { u with mem := m } := by
    rw [humem] at hmframe
    exact (congrArg (fun k : Memory => ({ u with drinex := s.drinex, mem := k } : State)) hmframe).trans (by rw [← hu]; rfl)
  refine ⟨{ u with mem := m }, ?_, ?_, by rw [← humem, hu]⟩
  · rw [execMwr_eq hup hok hlen, hu, if_neg (not_not.2 hdev)]
    exact congrArg Host.Outcome.next (hostStore_writes hne ((hsu.rangeOk _ _).trans hrange) hw)
  · have hread : StoredIn s (tookTxn { u with mem := m } r.cls 0) := storedIn_tookTxn hst ..
    rw [execMrd_eq (by exact huup) hrok, if_neg (by rw [hudev]; decide), hrlen, ← hlen]
    refine congrArg Host.Outcome.next (hostLoad_reads hn ((hread.rangeOk _ _).trans hrange) (readMem_ok fun i hi => ⟨p + i, ?_, ?_, hbytes i hi⟩))
    · exact (hread.translate _).trans (htr i hi)
    · rw [hread.dark, dark_block (by omega), hdark]

end Sys2Proof.Machine
end

section
/-! PROOFS. Fabric ports (O24). -/

namespace Sys2Proof.Machine

/-! ### Fabric ports (R267 to R269) -/

section
variable {s t : State}

/-- A change of a port is reported, and no fault is recorded. -/
theorem setPort_rel (s : State) (p : Nat) (k : Port) : (setPort s p k).rel = s.rel := by
  have hemcys (l : List Nat) (c : Nat → Bool) (t : State) : (l.foldl (fun s i => if c i then emcy s 0xFF02 0 else s) t).rel = t.rel :=
    List.foldlRecOn (motive := fun u : State => u.rel = t.rel) l _ rfl fun u h i _ => by
      split
      · exact (emcy_rel ..).trans h
      · exact h
  have hclear (t : State) : (emcyClear t).rel = t.rel := (congrArg State.rel (emcyClear_frame t) :)
  have hraise (c : Bool) (t : State) (n : Nat) : (if c = true then raise t n else t).rel = t.rel := by
    cases c
    · rfl
    · exact raise_rel t n
  unfold setPort
  dsimp only
  split
  · exact (hraise ..).trans rfl
  · rw [hclear, hemcys, raise_rel, hraise]

/-- A port reads back as it was set, and the rest of the fabric's record but the planes lost stays. -/
theorem setPort_fabric (s : State) (p : Nat) (k : Port) : { (setPort s p k).fabric with ports := s.fabric.ports, lostPlanes := s.fabric.lostPlanes } = s.fabric := by
  obtain ⟨lost, h⟩ := setPort_reports s p k
  rw [h.fabric]

theorem port_setPort (hp : smWf {} s.fabric.ports = true) (p : Nat) (k : Port) : (setPort s p k).port p = k := by
  rw [(setPort_port hp p k).2.2, if_pos rfl]

/-- A port that stays up or stays down leaves every plane as it was. -/
theorem planesMask_smSet (hp : smWf {} s.fabric.ports = true) {p : Nat} {k : Port} (hst : k.st = (s.port p).st) (l : BitVec 8) :
    planesMask { s.fabric with ports := smSet {} s.fabric.ports p k, lostPlanes := l } = planesMask s.fabric := by
  have hport (q : Nat) : (smGet ({} : Port) (smSet {} s.fabric.ports p k) q).st = (smGet {} s.fabric.ports q).st := by
    rw [smGet_smSet hp]
    split
    · next h => rw [hst, h]; rfl
    · rfl
  have hup (n : Nat) : Fabric.planeUp { s.fabric with ports := smSet {} s.fabric.ports p k, lostPlanes := l } n = s.fabric.planeUp n := by
    unfold Fabric.planeUp
    simp only [hport]
  unfold planesMask
  simp only [hup]

/-- A change of a port's record that is none of its state is not announced. -/
theorem setPort_same (hp : smWf {} s.fabric.ports = true) {p : Nat} {k : Port} (hst : k.st = (s.port p).st) :
    ∃ lost, setPort s p k = { s with fabric := { s.fabric with ports := smSet {} s.fabric.ports p k, lostPlanes := lost } } := by
  unfold setPort
  dsimp only
  rw [hst, planesMask_smSet hp hst s.fabric.lostPlanes, decide_eq_false (not_not.2 rfl)]
  exact ⟨_, if_pos rfl⟩

/-! #### Training and the identity exchange -/

/-- A record of a port's fault leaves the fabric's own record. -/
theorem portFault_recorded (s : State) (p key target : Nat) : (portFault s p key target).rel.recordCount = s.rel.recordCount + 1 ∧
    (portFault s p key target).fabric = s.fabric ∧ (portFault s p key target).mem = s.mem :=
  ⟨(fault_recorded (by show (7 : Nat) ≠ 1; decide)).1, (reports_fault (reports_refl s) _).fabric, fault_mem ..⟩

/-- A port that is MISCABLED, with its record. -/
theorem miscabled (hp : smWf {} s.fabric.ports = true) (p : Nat) (k : Port) (target : Nat) :
    let t := portFault (setPort s p { k with st := 3 }) p 0x11 target
    (t.port p).st = 3 ∧ t.rel.recordCount = s.rel.recordCount + 1 := by
  obtain ⟨hcount, hfab, -⟩ := portFault_recorded (setPort s p { k with st := 3 }) p 0x11 target
  refine ⟨?_, by rw [hcount, setPort_rel]⟩
  have hport : (portFault (setPort s p { k with st := 3 }) p 0x11 target).port p = { k with st := 3 } := by
    rw [State.port, hfab]
    exact port_setPort hp ..
  exact (congrArg Port.st hport :)

/-- What a trained port holds of what its switch said. -/
def Port.told (k : Port) (plane : Nat) (sw : BitVec 32) (swPort : BitVec 16) (said : SwitchSays) : Port :=
  { k with peer := leBytes 4 sw.toNat ++ leBytes 2 swPort.toNat ++ leBytes 1 plane ++ [0#8]
           reported := some said.moduleId, plane := some plane, credits := said.credits }

theorem portTrained_eq {p plane : Nat} {sw : BitVec 32} {swPort : BitVec 16} {said : SwitchSays} (hst : (s.port p).st = 1) :
    portTrained s p plane sw swPort said =
      let k := (s.port p).told plane sw swPort said
      let s := setPort s p k
      if plane ≠ p / 8 then portFault (setPort s p { k with st := 3 }) p 0x11 said.moduleId.toNat else settlePort s p :=
  if_neg (not_not.2 hst)

theorem settlePort_eq {p : Nat} {m r : BitVec 14} (hm : s.fabric.moduleId = some m) (hst : (s.port p).st = 1) (hr :
    (s.port p).reported = some r) :
    settlePort s p = if r = m ∧ (s.port p).plane = some (p / 8) then setPort s p { (s.port p).idle with st := 2 }
      else portFault (setPort s p { s.port p with st := 3 }) p 0x11 r.toNat := by
  unfold settlePort
  dsimp only
  rw [hm, hr]
  exact if_neg (not_not.2 hst)

/-- A port that trains under another ID than the module's. -/
theorem settlePort_miscabled {p : Nat} {m r : BitVec 14} (hp : smWf {} s.fabric.ports = true) (hm : s.fabric.moduleId = some m)
    (hst : (s.port p).st = 1) (hr : (s.port p).reported = some r) (hne : r ≠ m) :
    ((settlePort s p).port p).st = 3 ∧ (settlePort s p).rel.recordCount = s.rel.recordCount + 1 := by
  rw [settlePort_eq hm hst hr, if_neg (fun h => hne h.1)]
  exact miscabled hp p (s.port p) r.toNat

theorem settlePort_idle {p : Nat} (h : (s.port p).st ≠ 1 ∨ s.fabric.moduleId = none) : settlePort s p = s := by
  unfold settlePort
  dsimp only
  split
  · next hm hr =>
    exact if_pos (h.resolve_right (by rw [hm]; simp))
  · rfl

/-- What settling a port leaves. -/
structure PortAlone (p : Nat) (s t : State) : Prop where
  mem : t.mem = s.mem
  wf : smWf {} t.fabric.ports = true
  moduleId : t.fabric.moduleId = s.fabric.moduleId
  others : ∀ q, q ≠ p → t.port q = s.port q

theorem portAlone_setPort (hp : smWf {} s.fabric.ports = true) (p : Nat) (k : Port) : PortAlone p s (setPort s p k) := by
  obtain ⟨hmem, hwf, hport⟩ := setPort_port hp p k
  exact ⟨hmem, hwf, (congrArg Fabric.moduleId (setPort_fabric s p k) :), fun q hq => (hport q).trans (if_neg hq)⟩

theorem portAlone_portFault {p : Nat} (h : PortAlone p s t) (key target : Nat) : PortAlone p s (portFault t p key target) := by
  obtain ⟨-, hfab, hmem⟩ := portFault_recorded t p key target
  exact ⟨hmem.trans h.mem, hfab ▸ h.wf, hfab ▸ h.moduleId, fun q hq => (by rw [State.port, hfab]; exact h.others q hq)⟩

theorem settlePort_alone (hp : smWf {} s.fabric.ports = true) (p : Nat) : PortAlone p s (settlePort s p) := by
  have hrefl : PortAlone p s s := ⟨rfl, hp, rfl, fun _ _ => rfl⟩
  unfold settlePort
  dsimp only
  split
  · split
    · exact hrefl
    · split
      · exact portAlone_setPort hp ..
      · exact portAlone_portFault (portAlone_setPort hp ..) ..
  · exact hrefl

/-- A port that has reported goes up, or is MISCABLED, once the module has an ID (R267). -/
theorem settlePort_state (hp : smWf {} s.fabric.ports = true) {p : Nat} {m r : BitVec 14} (hm : s.fabric.moduleId = some m)
    (hst : (s.port p).st = 1) (hr : (s.port p).reported = some r) :
    ((settlePort s p).port p).st = if r = m ∧ (s.port p).plane = some (p / 8) then 2 else 3 := by
  rw [settlePort_eq hm hst hr]
  by_cases hgood : r = m ∧ (s.port p).plane = some (p / 8)
  · rw [if_pos hgood, if_pos hgood, port_setPort hp]
  · rw [if_neg hgood, if_neg hgood]
    exact (miscabled hp p (s.port p) r.toNat).1

/-- One port of the ports that settle: it is as it was until its turn, and settled from then on. -/
structure Settling (p : Nat) (st : BitVec 3) (m : BitVec 14) (s t : State) (turn : Prop) : Prop where
  mem : t.mem = s.mem
  wf : smWf {} t.fabric.ports = true
  moduleId : t.fabric.moduleId = some m
  waits : ¬turn → t.port p = s.port p
  settled : turn → (t.port p).st = st

theorem settling_foldl {p : Nat} {m r : BitVec 14} (hst : (s.port p).st = 1) (hr :
    (s.port p).reported = some r) (l : List Nat) {turn : Prop}
    (h : Settling p (if r = m ∧ (s.port p).plane = some (p / 8) then 2 else 3) m s t turn) :
    Settling p (if r = m ∧ (s.port p).plane = some (p / 8) then 2 else 3) m s (l.foldl settlePort t) (turn ∨ p ∈ l) := by
  induction l generalizing t turn with
  | nil => simpa using h
  | cons q l ih =>
    have halone := settlePort_alone h.wf q
    have hstep : Settling p (if r = m ∧ (s.port p).plane = some (p / 8) then 2 else 3) m s (settlePort t q) (turn ∨ p = q) := by
      refine ⟨halone.mem.trans h.mem, halone.wf, halone.moduleId.trans h.moduleId, fun hn => ?_, fun ht => ?_⟩
      · rw [halone.others p fun hpq => hn (.inr hpq)]
        exact h.waits fun ht => hn (.inl ht)
      · by_cases hturn : turn
        · have hdone := h.settled hturn
          by_cases hpq : p = q
          · rw [settlePort_idle (.inl (by rw [← hpq, hdone]; split <;> decide))]
            exact hdone
          · rw [halone.others p hpq]
            exact hdone
        · have hpq := ht.resolve_left hturn
          have hport := h.waits hturn
          subst hpq
          rw [settlePort_state h.wf h.moduleId (by rw [hport, hst]) (by rw [hport, hr]), hport]
    have hall := ih hstep
    rwa [or_assoc, ← List.mem_cons] at hall

theorem adoptId_eq {m : BitVec 14} (hnone : s.fabric.moduleId = none) (hm : mostReported s.fabric = some m) :
    adoptId s = (List.range 64).foldl settlePort { s with fabric := { s.fabric with moduleId := some m } } := by
  unfold adoptId
  rw [hnone, hm]

/-- A port that has reported, once the module adopts its ID (R267). -/
theorem adoptId_settles (hp : smWf {} s.fabric.ports = true) {p : Fin 64} {m r : BitVec 14} (hnone : s.fabric.moduleId = none)
    (hm : mostReported s.fabric = some m) (hst : (s.port p).st = 1) (hr : (s.port p).reported = some r) :
    Settling p (if r = m ∧ (s.port p).plane = some (p.val / 8) then 2 else 3) m s (adoptId s) True := by
  have hstart : Settling p (if r = m ∧ (s.port p).plane = some (p.val / 8) then 2 else 3) m s
      { s with fabric := { s.fabric with moduleId := some m } } False := ⟨rfl, hp, rfl, fun _ => rfl, False.elim⟩
  have hall := settling_foldl hst hr (List.range 64) hstart
  rw [adoptId_eq hnone hm]
  have hturn : (False ∨ p.val ∈ List.range 64) = True := by simp
  rwa [hturn] at hall

/-! The cases of a trained port. -/

section
variable {p plane : Nat} {sw : BitVec 32} {swPort : BitVec 16} {m : BitVec 14} {cr : List Nat}

/-- The port that has been told is set, and the module's ID stays. -/
theorem told_set (hp : smWf {} s.fabric.ports = true) (said : SwitchSays) :
    let k := (s.port p).told plane sw swPort said
    (setPort s p k).port p = k ∧ (setPort s p k).fabric.moduleId = s.fabric.moduleId ∧ smWf {} (setPort s p k).fabric.ports = true :=
  ⟨port_setPort hp .., (portAlone_setPort hp ..).moduleId, (portAlone_setPort hp ..).wf⟩

theorem portTrained_waits (hp : smWf {} s.fabric.ports = true) (hst :
    (s.port p).st = 1) (hplane : plane = p / 8) (hnone : s.fabric.moduleId = none) :
    let t := portTrained s p plane sw swPort { moduleId := m, credits := cr }
    (t.port p).st = 1 ∧ (t.port p).reported = some m ∧ (t.port p).plane = some plane ∧ (t.port p).credits = cr := by
  intro t
  obtain ⟨hport, hid, -⟩ := told_set (s := s) (p := p) (plane := plane) (sw := sw) (swPort := swPort) hp { moduleId := m, credits := cr }
  have ht : t = _ := portTrained_eq hst
  rw [if_neg (not_not.2 hplane), settlePort_idle (.inr (hid.trans hnone))] at ht
  rw [ht, hport]
  exact ⟨hst, rfl, rfl, rfl⟩

theorem portTrained_up (hp : smWf {} s.fabric.ports = true) (hst :
    (s.port p).st = 1) (hplane : plane = p / 8) (hm : s.fabric.moduleId = some m) :
    let t := portTrained s p plane sw swPort { moduleId := m, credits := cr }
    (t.port p).st = 2 ∧ (t.port p).reported = some m ∧ (t.port p).rxCount = 0 ∧ (t.port p).txCount = 0 ∧ (t.port p).credits = cr := by
  intro t
  obtain ⟨hport, hid, hwf⟩ := told_set (s := s) (p := p) (plane := plane) (sw := sw) (swPort := swPort) hp { moduleId := m, credits := cr }
  have ht : t = _ := portTrained_eq hst
  rw [if_neg (not_not.2 hplane), settlePort_eq (hid.trans hm) (by rw [hport]; exact hst) (by rw [hport]; rfl), hport,
    if_pos ⟨rfl, congrArg some hplane⟩] at ht
  rw [ht, port_setPort hwf]
  exact ⟨rfl, rfl, rfl, rfl, rfl⟩

theorem portTrained_miscabled (hp : smWf {} s.fabric.ports = true) (hst : (s.port p).st = 1)
    (hbad : plane ≠ p / 8 ∨ ∃ m', s.fabric.moduleId = some m' ∧ m' ≠ m) :
    let t := portTrained s p plane sw swPort { moduleId := m, credits := cr }
    (t.port p).st = 3 ∧ t.rel.recordCount = s.rel.recordCount + 1 := by
  intro t
  obtain ⟨hport, hid, hwf⟩ := told_set (s := s) (p := p) (plane := plane) (sw := sw) (swPort := swPort) hp { moduleId := m, credits := cr }
  have ht : t = _ := portTrained_eq hst
  dsimp only at ht
  rw [← setPort_rel s p ((s.port p).told plane sw swPort { moduleId := m, credits := cr })]
  by_cases hplane : plane = p / 8
  · obtain ⟨m', hm', hne⟩ := hbad.resolve_left (not_not.2 hplane)
    rw [if_neg (not_not.2 hplane)] at ht
    rw [ht]
    exact settlePort_miscabled hwf (hid.trans hm') (by rw [hport]; exact hst) (by rw [hport]; rfl) (Ne.symm hne)
  · rw [if_pos hplane] at ht
    rw [ht]
    exact miscabled hwf p ((s.port p).told plane sw swPort { moduleId := m, credits := cr }) m.toNat

end

/-! #### Ports that go down -/

/-- What a port keeps of its time up, when it goes down for the n-th time in its hour (R268). -/
def Port.fallen (k : Port) (hour n : Nat) : Port :=
  { k.idle with st := if n < 8 then 0 else 5, downs := satAdd k.downs 1, downHour := hour, downsInHour := n }

theorem fallen_not_up (k : Port) (hour n : Nat) : (k.fallen hour n).st ≠ 2 := by
  unfold Port.fallen
  dsimp only
  split <;> decide

theorem portDown_training {p : Nat} (hst : (s.port p).st = 1) : portDown s p = setPort s p { s.port p with st := 0 } := if_pos hst

theorem portDown_up {p : Nat} (hst : (s.port p).st = 2) : portDown s p =
    let n := if (s.port p).downHour = s.rel.hours then (s.port p).downsInHour + 1 else 1
    if n < 8 then setPort s p ((s.port p).fallen s.rel.hours n) else portFault (setPort s p ((s.port p).fallen s.rel.hours n)) p 0x12 (setPort s p ((s.port p).fallen s.rel.hours n)).me := by
  unfold portDown
  dsimp only
  rw [if_neg (by rw [hst]; decide), if_neg (not_not.2 hst)]
  rfl

/-- A port that was up and goes down. -/
theorem portDown_falls (hp : smWf {} s.fabric.ports = true) {p : Nat} (hst : (s.port p).st = 2) :
    (portDown s p).port p = (s.port p).fallen s.rel.hours (if (s.port p).downHour = s.rel.hours then (s.port p).downsInHour + 1 else 1) := by
  rw [portDown_up hst]
  dsimp only
  generalize (if (s.port p).downHour = s.rel.hours then (s.port p).downsInHour + 1 else 1) = n
  by_cases hn : n < 8
  · rw [if_pos hn]
    exact port_setPort hp ..
  · rw [if_neg hn, State.port, (portFault_recorded _ p 0x12 _).2.1]
    exact port_setPort hp ..

/-- A port that was up, and has not gone down too often in this hour. -/
theorem portDown_once (hp : smWf {} s.fabric.ports = true) {p : Nat} (hst : (s.port p).st = 2)
    (hlim : ¬((s.port p).downHour = s.rel.hours ∧ 7 ≤ (s.port p).downsInHour)) : ((portDown s p).port p).st = 0 ∧
    ((portDown s p).port p).downs = satAdd (s.port p).downs 1 ∧ (portDown s p).rel.recordCount = s.rel.recordCount ∧ (portDown s p).mem = s.mem := by
  have hn : (if (s.port p).downHour = s.rel.hours then (s.port p).downsInHour + 1 else 1) < 8 := by
    split
    · next hhour =>
      exact Nat.succ_lt_succ (Nat.lt_of_not_le fun h => hlim ⟨hhour, h⟩)
    · decide
  refine ⟨?_, ?_, ?_, ?_⟩
  · rw [portDown_falls hp hst]
    exact if_pos hn
  · rw [portDown_falls hp hst]
    rfl
  · rw [portDown_up hst, if_pos hn, setPort_rel]
  · rw [portDown_up hst, if_pos hn, (setPort_port hp ..).1]

/-- A port that goes down for the eighth time in an hour (R268). -/
theorem portDown_eighth (hp : smWf {} s.fabric.ports = true) {p : Nat} (hst : (s.port p).st = 2) (hhour :
    (s.port p).downHour = s.rel.hours)
    (hlim : 7 ≤ (s.port p).downsInHour) : ((portDown s p).port p).st = 5 ∧ ((portDown s p).port p).downs = satAdd (s.port p).downs 1 := by
  rw [portDown_falls hp hst, if_pos hhour]
  exact ⟨if_neg (by omega), rfl⟩

/-! #### Credits and resends (R269) -/

theorem ready_single {k : Port} {q : Packet} (hq : k.queue = [q]) (hcost : q.cost ≤ k.credits.getD q.vc.toNat 0) : k.ready = some q := by
  have hlane (n : Nat) : (match k.queue.find? (fun q => q.vc.toNat == n) with
      | none => none
      | some q => if q.cost ≤ k.credits.getD n 0 then some q else none) = if q.vc.toNat = n then some q else none := by
    rw [hq]
    by_cases h : q.vc.toNat = n
    · subst h
      rw [List.find?_cons_of_pos (by simp), if_pos rfl]
      exact if_pos hcost
    · rw [List.find?_cons_of_neg (by simpa using h), if_neg h]
      rfl
  refine (congrArg (fun f => List.findSome? f (List.range 4)) (funext hlane)).trans ?_
  have hv := q.vc.isLt
  generalize q.vc.toNat = v at hv
  interval_cases v <;> rfl

theorem foldl_send (l : List Packet) (t : State) : l.foldl (fun s q => s.send (.packet q)) t = { t with out := (l.map Output.packet).reverse ++ t.out } := by
  induction l generalizing t with
  | nil => rfl
  | cons q l ih => rw [List.foldl_cons, ih]; simp [State.send]

/-- A link control frame at a port that is up. -/
theorem linkControl_eq {p : Fin 64} {ctl : LinkControl} (hst : (s.port p).st = 2) : exec (.linkControlFrame p ctl) s =
    .next (match ctl with
      | .credits vc units => drainPort (s.port p).queue.length
          (setPort s p { s.port p with credits := (s.port p).credits.set vc ((s.port p).credits.getD vc 0 + units) }) p
      | .resend count =>
        if (s.port p).txCount ≤ count then s
        else if (s.port p).resent.1 = count ∧ 7 ≤ (s.port p).resent.2 then portDown (linkResend s p count) p
        else linkResend s p count) :=
  congrArg Host.Outcome.next (if_neg (not_not.2 hst))

/-- The one packet that waits at a port goes out when its credits are there. -/
theorem drainPort_sends (hp : smWf {} s.fabric.ports = true) {p : Nat} {q : Packet} (hq : (s.port p).queue = [q])
    (hcost : q.cost ≤ (s.port p).credits.getD q.vc.toNat 0) : let t := drainPort 1 s p
    (t.port p).queue = [] ∧ (t.port p).txCount = (s.port p).txCount + 1 ∧
    (t.port p).credits = (s.port p).credits.set q.vc.toNat ((s.port p).credits.getD q.vc.toNat 0 - q.cost) ∧ t.out = .packet q :: s.out := by
  obtain ⟨k, hk⟩ : ∃ k, k = { s.port p with queue := [] } := ⟨_, rfl⟩
  obtain ⟨u, hu⟩ : ∃ u, u = { s with fabric := { s.fabric with ports := smSet {} s.fabric.ports p k } } := ⟨_, rfl⟩
  have hdrain : drainPort 1 s p = transmit u p q := by
    unfold drainPort
    dsimp only
    rw [ready_single hq hcost, hq]
    simp only [List.erase_cons_head]
    rw [hu, hk]
    rfl
  have hup : smWf {} u.fabric.ports = true := by rw [hu]; exact smWf_smSet hp ..
  have hport : u.port p = k := by rw [hu]; exact (smGet_smSet hp ..).trans (if_pos rfl)
  have hsent : (transmit u p q).port p = { k with
      txCount := k.txCount + 1, replay := trimReplay (k.replay ++ [q])
      credits := k.credits.set q.vc.toNat (k.credits.getD q.vc.toNat 0 - q.cost) } := by
    rw [← hport]
    exact (smGet_smSet hup ..).trans (if_pos rfl)
  intro t
  have ht : t = transmit u p q := hdrain
  rw [ht, hsent, hk]
  refine ⟨rfl, rfl, rfl, ?_⟩
  rw [hu]
  rfl

/-- The credits of a virtual channel are returned, and a packet of its own takes them. -/
theorem credits_spent {l : List Nat} {v units cost : Nat} (hv : v < l.length) :
    ((l.set v (l.getD v 0 + units)).getD v 0 = l.getD v 0 + units) ∧
    (l.set v (l.getD v 0 + units)).set v ((l.set v (l.getD v 0 + units)).getD v 0 - cost) = l.set v (l.getD v 0 + units - cost) := by
  have hget : (l.set v (l.getD v 0 + units)).getD v 0 = l.getD v 0 + units := by simp [List.getD, hv]
  exact ⟨hget, by rw [hget, List.set_set]⟩

theorem credits_send (hp : smWf {} s.fabric.ports = true) {p : Fin 64} {vc : Fin 4} {units : Nat} {q : Packet} (hst : (s.port p).st = 2)
    (hq : (s.port p).queue = [q]) (hvc : q.vc.toNat = vc.val) (hlen : (s.port p).credits.length = 4)
    (hcost : q.cost ≤ (s.port p).credits.getD vc 0 + units) : Goes (exec (.linkControlFrame p (.credits vc units)) s) (fun t =>
      (t.port p).queue = [] ∧ (t.port p).txCount = (s.port p).txCount + 1 ∧
      (t.port p).credits = (s.port p).credits.set vc ((s.port p).credits.getD vc 0 + units - q.cost) ∧ t.out = .packet q :: s.out) := by
  obtain ⟨k, hk⟩ : ∃ k, { s.port p with credits := (s.port p).credits.set vc ((s.port p).credits.getD vc 0 + units) } = k := ⟨_, rfl⟩
  obtain ⟨lost, hset⟩ := setPort_same hp (p := p.val) (k := k) (by rw [← hk])
  have hport := port_setPort hp p.val k
  have hwf := (portAlone_setPort hp p.val k).wf
  have hout : (setPort s p k).out = s.out := by rw [hset]
  have hexec : exec (.linkControlFrame p (.credits vc units)) s = .next (drainPort 1 (setPort s p k) p) := by
    rw [linkControl_eq hst, ← hk, hq]
    rfl
  obtain ⟨hget, hspent⟩ := credits_spent (l := (s.port p).credits) (v := vc) (units := units) (cost := q.cost) (by rw [hlen]; exact vc.isLt)
  have hcredits : k.credits = (s.port p).credits.set vc ((s.port p).credits.getD vc 0 + units) := by rw [← hk]
  generalize setPort s p k = u at *
  have hsent := drainPort_sends hwf (p := p) (q := q) (by rw [hport, ← hk]; exact hq) (by rw [hport, hvc, hcredits, hget]; exact hcost)
  rw [hport, hvc, hcredits, hspent, hout] at hsent
  obtain ⟨hqueue, hcount, hrest⟩ := hsent
  exact ⟨_, hexec, hqueue, by rw [hcount, ← hk], hrest⟩

/-- What a resend leaves: the port's record of it, and the packets that go out again. -/
theorem linkResend_resends (hp : smWf {} s.fabric.ports = true) (p n : Nat) : let k := s.port p
    (linkResend s p n).port p = { k with retries := satAdd k.retries 1, resent := (n, if k.resent.1 = n then k.resent.2 + 1 else 1) } ∧
    (linkResend s p n).out = ((k.replay.drop (k.replay.length - (k.txCount - n))).map Output.packet).reverse ++ s.out ∧
    smWf {} (linkResend s p n).fabric.ports = true := by
  intro k
  unfold linkResend
  dsimp only
  rw [foldl_send]
  exact ⟨(smGet_smSet hp ..).trans (if_pos rfl), rfl, smWf_smSet hp ..⟩

/-! #### The port's commands (R268, R283) -/

theorem ownObject_port : OwnObject 0x3001 4 1 := by constructor <;> decide +kernel

/-- A command of the selected port that it takes. -/
theorem portCommand_takes {acc : Accessor} (h : Admitted s acc 0x3001 4 = true) {v : BitVec 8} {u : State}
    (hw : portCommand s (s.selects acc).port.toNat v.toNat = .ok u) : .next (dictCommand s acc 0x3001 4 [v]) = Replied acc u := by
  refine dictCommand_takes h ownObject_port rfl ?_
  have hv : leNat [v] = v.toNat := by simp [leNat]
  have hplain : writePlain s acc 0x3001 4 [v] = answerOf s (portCommand s (s.selects acc).port.toNat v.toNat) := hv ▸ rfl
  rw [hplain, hw]
  rfl

section
variable {acc : Accessor} (hadm : Admitted s acc 0x3001 4 = true)

include hadm

theorem portCommand_answers {v : BitVec 8} {k : Port} (hp : smWf {} s.fabric.ports = true)
    (hw : portCommand s (s.selects acc).port.toNat v.toNat = .ok (setPort s (s.selects acc).port.toNat k)) :
    ∃ u, .next (dictCommand s acc 0x3001 4 [v]) = Replied acc u ∧ u.port (s.selects acc).port.toNat = k :=
  ⟨_, portCommand_takes hadm hw, port_setPort hp ..⟩

theorem portEnable_enables (hp : smWf {} s.fabric.ports = true) (hst :
    (s.port (s.selects acc).port.toNat).st = 4 ∨ (s.port (s.selects acc).port.toNat).st = 5) :
    Answered (exec (.portEnable acc) s) acc (fun u => (u.port (s.selects acc).port.toNat).st = 0 ∧ (u.port (s.selects acc).port.toNat).downsInHour = 0) := by
  obtain ⟨u, hu, hport⟩ := portCommand_answers hadm (v := 1) hp (congrArg Except.ok (if_pos (by simpa using hst)))
  exact ⟨u, hu, (congrArg Port.st hport :), (congrArg Port.downsInHour hport :)⟩

theorem portEnable_keeps (h4 : (s.port (s.selects acc).port.toNat).st ≠ 4) (h5 : (s.port (s.selects acc).port.toNat).st ≠ 5) :
    exec (.portEnable acc) s = Replied acc (touchSelects s acc) := by
  rw [touchSelects_unselected hadm ownObject_port.2]
  exact portCommand_takes hadm (v := 1) (congrArg Except.ok (if_neg (by simpa using ⟨h4, h5⟩)))

theorem portDisable_disables (hp : smWf {} s.fabric.ports = true) (h5 : (s.port (s.selects acc).port.toNat).st ≠ 5) :
    Answered (exec (.portDisable acc) s) acc (fun u => u.port (s.selects acc).port.toNat = { (s.port (s.selects acc).port.toNat).idle with st := 4 }) :=
  portCommand_answers hadm (v := 2) hp (congrArg Except.ok (if_neg h5))

theorem portRetrain_trains (hp : smWf {} s.fabric.ports = true) (h4 : (s.port (s.selects acc).port.toNat).st ≠ 4)
    (h5 : (s.port (s.selects acc).port.toNat).st ≠ 5) : Answered (exec (.portRetrain acc) s) acc (fun u =>
      u.port (s.selects acc).port.toNat = { (s.port (s.selects acc).port.toNat).idle with st := 1, reported := none, plane := none }) :=
  portCommand_answers hadm (v := 3) hp (congrArg Except.ok (if_neg (by simpa using ⟨h4, h5⟩)))

theorem portRetrain_keeps (hst : (s.port (s.selects acc).port.toNat).st = 4 ∨ (s.port (s.selects acc).port.toNat).st = 5) :
    exec (.portRetrain acc) s = Replied acc (touchSelects s acc) := by
  rw [touchSelects_unselected hadm ownObject_port.2]
  exact portCommand_takes hadm (v := 3) (congrArg Except.ok (if_pos (by simpa using hst)))

end

end

/-- Settles O24: the port's own record through every event. -/
theorem fabricPortsChangeState : Obligations.FabricPortsChangeState := by
  unfold Obligations.FabricPortsChangeState
  intro s p hs
  have hp : smWf {} s.fabric.ports = true := (State.wf_iff.1 hs).2.2.2.2.2.2.2.1
  dsimp only
  refine ⟨fun hst htrain => ⟨_, congrArg Host.Outcome.next (if_pos (by rw [hst, htrain]; rfl)), port_setPort hp .., (setPort_port hp ..).1⟩,
    fun plane sw swPort m cr hst => ⟨fun hplane hnone => ?_, fun hplane hm => ?_, fun hbad => ?_⟩,
    fun m r hnone hm hst hr => ?_, fun why => ⟨fun hst => ?_, fun hst hlim => ?_, fun hst hhour hlim => ?_⟩,
    fun acc hadm => ⟨portEnable_enables hadm hp, portEnable_keeps hadm, portDisable_disables hadm hp, portRetrain_trains hadm hp,
      portRetrain_keeps hadm⟩,
    fun vc units hst => ⟨fun hq => ?_, fun q hq hvc hlen hcost => ?_⟩,
    fun n hst => ⟨fun hle => ?_, fun hlt hlim => ?_, fun hlt hn hlim => ?_⟩, fun n hst => ?_⟩
  · exact ⟨_, rfl, portTrained_waits hp hst hplane hnone⟩
  · exact ⟨_, rfl, portTrained_up hp hst hplane hm⟩
  · exact ⟨_, rfl, portTrained_miscabled hp hst hbad⟩
  · have hall := adoptId_settles hp hnone hm hst hr
    exact ⟨_, rfl, hall.moduleId, hall.settled trivial, hall.mem⟩
  · exact ⟨_, congrArg Host.Outcome.next (portDown_training hst), port_setPort hp ..⟩
  · exact ⟨_, rfl, portDown_once hp hst hlim⟩
  · exact ⟨_, rfl, portDown_eighth hp hst hhour hlim⟩
  · obtain ⟨lost, hset⟩ := setPort_same hp (p := p)
      (k := { s.port p with credits := (s.port p).credits.set vc ((s.port p).credits.getD vc 0 + units) }) rfl
    have hport := port_setPort hp p { s.port p with credits := (s.port p).credits.set vc ((s.port p).credits.getD vc 0 + units) }
    refine ⟨_, (linkControl_eq hst).trans (by rw [hq]; rfl), hport, ?_⟩
    rw [hset]
  · exact credits_send hp hst hq hvc hlen hcost
  · exact (linkControl_eq hst).trans (congrArg Host.Outcome.next (if_pos hle))
  · obtain ⟨hport, hout, -⟩ := linkResend_resends hp p.val n
    exact ⟨_, (linkControl_eq hst).trans (congrArg Host.Outcome.next ((if_neg (Nat.not_le.2 hlt)).trans (if_neg hlim))), hport, hout⟩
  · obtain ⟨hport, -, hwf⟩ := linkResend_resends hp p.val n
    have hfall := portDown_falls hwf (p := p) (by rw [hport]; exact hst)
    refine ⟨_, (linkControl_eq hst).trans (congrArg Host.Outcome.next ((if_neg (Nat.not_le.2 hlt)).trans (if_pos ⟨hn, hlim⟩))), ?_, ?_⟩
    · rw [hfall]
      exact fallen_not_up _ _ _
    · rw [hfall, hport]
      rfl
  · obtain ⟨lost, hset⟩ := setPort_same hp (p := p)
      (k := { s.port p with uncorrectable := satAdd (s.port p).uncorrectable 1, discard := n }) rfl
    refine ⟨_, congrArg Host.Outcome.next (if_neg (not_not.2 hst)), port_setPort hp .., ?_⟩
    rw [hset]
    rfl

end Sys2Proof.Machine
end

section
/-! PROOFS. Packets that come again (O26). -/

namespace Sys2Proof.Machine

/-! ### Packets taken in and answered (R270 to R274) -/

/-- Packets have come and gone: the ports and streams, the count of discarded packets and what is sent may change. -/
def Replies (s t : State) : Prop :=
  { t with fabric := { t.fabric with ports := s.fabric.ports, streams := s.fabric.streams, crcDiscards := s.fabric.crcDiscards }, out := s.out } = s

section
variable {s t u : State}

theorem replies_refl (s : State) : Replies s s := rfl

theorem replies_mk (h : Replies s t) {ports streams crc out} :
    Replies s { t with fabric := { t.fabric with ports := ports, streams := streams, crcDiscards := crc }, out := out } := h

theorem Replies.trans (h : Replies s t) (h' : Replies t u) : Replies s u := by
  have hf := congrArg (fun (x : State) => { x with
    fabric := { x.fabric with ports := s.fabric.ports, streams := s.fabric.streams, crcDiscards := s.fabric.crcDiscards }, out := s.out }) h'
  exact Eq.trans hf h

theorem Replies.tracker (h : Replies s t) (n : Nat) : t.tracker n = s.tracker n := (congrArg (State.tracker · n) h :)
theorem Replies.device (h : Replies s t) : t.device = s.device := (congrArg State.device h :)

/-- What the packets leave: everything but the fabric's own record and what is sent. -/
theorem Replies.emits (h : Replies s t) : Emits s t := (congrArg (fun x : State => { x with fabric := s.fabric }) h :)

theorem replies_send (h : Replies s t) (o) : Replies s (t.send o) := h
theorem replies_setStream (h : Replies s t) (dst n) : Replies s (t.setStream dst n) := h
theorem replies_transmit (h : Replies s t) (p pkt) : Replies s (transmit t p pkt) := h

theorem replies_foldl {α : Type} {f : State → α → State} (hf : ∀ t a, Replies s t → Replies s (f t a)) (l : List α)
    (h : Replies s t) : Replies s (l.foldl f t) :=
  List.foldlRecOn (motive := fun (t : State) => Replies s t) l f h fun t h a _ => hf t a h

theorem replies_drainPort (h : Replies s t) (n k) : Replies s (drainPort n t k) := by
  induction n generalizing t with
  | zero => exact h
  | succ n ih =>
    unfold drainPort
    dsimp only
    split
    · exact h
    · exact ih (replies_transmit (replies_mk h) ..)

theorem replies_portSend (h : Replies s t) (p pkt) : Replies s (portSend t p pkt) := replies_drainPort (replies_mk h) ..

theorem replies_emitPacket (h : Replies s t) (dst typ tag address payload tail again avoid trunc) :
    Replies s (emitPacket t dst typ tag address payload tail again avoid trunc).1 := by
  unfold emitPacket
  grind [replies_portSend, replies_setStream, replies_send]

theorem replies_emit (h : Replies s t) (dst typ tag address payload tail trunc) : Replies s (emit t dst typ tag address payload tail trunc).1 := by
  unfold emit
  grind [replies_emitPacket]

theorem replies_answer (h : Replies s t) (dst typ tag payload) : Replies s (answer t dst typ tag payload) := replies_emit h ..

theorem replies_sendAck (h : Replies s t) (src tag base) : Replies s (sendAck t src tag base) := replies_answer h ..

/-- A NACK with a reason other than 5 draws nothing. -/
theorem replies_nack (h : Replies s t) (p : Packet) {reason : Nat} (hr : reason ≠ 5) : Replies s (nack t p reason) := by
  unfold nack
  dsimp only
  rw [if_neg hr]
  exact replies_answer h ..

theorem replies_takeIn (h : Replies s t) (p pkt) : Replies s (takeIn t p pkt) := by
  unfold takeIn
  dsimp only
  split
  · exact replies_mk h
  · refine replies_foldl (fun t vc h => ?_) _ (replies_mk h)
    split
    · exact h
    · exact replies_send h _

/-- A packet that is handled is taken in first; one that is not is discarded. -/
theorem replies_withPacket {p : Packet} {typ : Nat} {k : State → State} (hk : ∀ t, Replies s t → Replies s (k t)) :
    Replies s (withPacket s p typ k) := by
  unfold withPacket
  dsimp only
  split
  · exact replies_refl s
  split
  · exact replies_mk (replies_refl s)
  have htaken : Replies s (if decide (s.fabric.moduleId = some p.src) = true then s else takeIn s p.port p) := by
    split
    · exact replies_refl s
    · exact replies_takeIn (replies_refl s) ..
  generalize (if decide (s.fabric.moduleId = some p.src) = true then s else takeIn s p.port p) = t at htaken ⊢
  split
  · exact replies_mk htaken
  · exact hk t htaken

/-! ### Packets that come again (R274) -/

section
variable {p : Packet} (hlive : (s.tracker p.src.toNat).live = true) (hseen : (s.tracker p.src.toNat).seen p.tag = true)

include hlive hseen

/-- A request that was applied is answered again, or refused in Boot/Limited. -/
theorem tagged_seen (again : State → State) (serve : State → Except Nat State) : tagged s p again serve =
    if decide (s.device = .bootLimited) && stateRefuses s p.typ.toNat then nack s p 3 else again s := by
  unfold tagged
  dsimp only
  rw [hlive, hseen]
  rfl

theorem served_seen (again : State → State) (serve : State → State × Option Nat) : served s p again serve =
    if decide (s.device = .bootLimited) && stateRefuses s p.typ.toNat then nack s p 3 else again s := by
  unfold served
  dsimp only
  split
  · exact tagged_seen hlive hseen ..
  · rw [if_neg (by rw [hseen]; simp)]
    exact tagged_seen hlive hseen ..

end

theorem replies_ackAgain (h : Replies s t) (p : Packet) : Replies s (ackAgain p t) := replies_sendAck h ..

theorem replies_atomicAgain (h : Replies s t) (p : Packet) : Replies s (atomicAgain p t) := by
  unfold atomicAgain
  dsimp only
  split
  · exact replies_answer h ..
  · exact replies_ackAgain h p

/-- What answering an applied request again leaves. -/
theorem replies_again (h : Replies s t) {p : Packet} {again : State → State} (hagain : Replies s (again t)) :
    Replies s (if decide (t.device = .bootLimited) && stateRefuses t p.typ.toNat then nack t p 3 else again t) := by
  split
  · exact replies_nack h p (by decide)
  · exact hagain

end

/-- Settles O26: an applied request is answered again, and nothing else is done. -/
theorem repeatedPacketsAreNotAppliedAgain : Obligations.RepeatedPacketsAreNotAppliedAgain := by
  unfold Obligations.RepeatedPacketsAreNotAppliedAgain
  intro s p hlive hseen
  have plain (t : State) (h : Replies s t) : (t.mem = s.mem ∧ t.contexts = s.contexts ∧ t.counters = s.counters ∧ t.cores = s.cores ∧
      t.signals = s.signals ∧ ∀ src, t.tracker src = s.tracker src) ∧ { t with fabric := s.fabric, out := s.out } = s :=
    ⟨⟨h.emits.mem, (congrArg State.contexts h.emits :), (congrArg State.counters h.emits :), (congrArg State.cores h.emits :),
      (congrArg State.signals h.emits :), h.tracker⟩, h.emits⟩
  have hl {t : State} (h : Replies s t) : (t.tracker p.src.toNat).live = true := by rw [h.tracker]; exact hlive
  have hs {t : State} (h : Replies s t) : (t.tracker p.src.toNat).seen p.tag = true := by rw [h.tracker]; exact hseen
  have hagain {t : State} (h : Replies s t) := replies_again h (p := p) (replies_ackAgain h p)
  refine ⟨⟨_, rfl, plain _ (replies_withPacket fun t h => ?_)⟩, ⟨_, rfl, plain _ (replies_withPacket fun t h => ?_)⟩,
    ⟨_, rfl, plain _ (replies_withPacket fun t h => ?_)⟩, ⟨_, rfl, plain _ (replies_withPacket fun t h => ?_)⟩,
    ⟨_, rfl, plain _ (replies_withPacket fun t h => ?_)⟩, ⟨_, rfl, plain _ (replies_withPacket fun t h => ?_)⟩,
    ⟨_, rfl, plain _ (replies_withPacket fun t h => ?_)⟩⟩
  · rw [served_seen (hl h) (hs h)]
    exact hagain h
  · rw [served_seen (hl h) (hs h)]
    exact hagain h
  · rw [if_neg (by rw [hs h]; simp), tagged_seen (hl h) (hs h)]
    exact hagain h
  · rw [served_seen (hl h) (hs h)]
    exact replies_again h (replies_atomicAgain h p)
  · rw [tagged_seen (hl h) (hs h)]
    exact hagain h
  · dsimp only
    split
    · rw [tagged_seen (hl h) (hs h)]
      exact hagain h
    · rw [if_neg (by rw [hs h]; simp), tagged_seen (hl h) (hs h)]
      exact hagain h
  · rw [tagged_seen (hl h) (hs h)]
    exact hagain h

end Sys2Proof.Machine
end

section
/-! PROOFS. Requests from other modules (O25). -/

namespace Sys2Proof.Machine

/-! ### Requests served (R273 to R275, R280 to R282) -/

section
variable {s t : State} {p : Packet}

theorem replies_arrived (s : State) (p : Packet) : Replies s (s.arrived p) := by
  unfold State.arrived
  split
  · exact replies_refl s
  · exact replies_takeIn (replies_refl s) ..

/-- A packet that arrives in order is taken in and handled. -/
theorem withPacket_arrives {typ : Nat} (h : Arrives s p typ = true) (k : State → State) : withPacket s p typ k = k (s.arrived p) := by
  unfold Arrives at h
  simp only [Bool.and_eq_true, Bool.or_eq_true, decide_eq_true_eq] at h
  obtain ⟨⟨⟨⟨⟨⟨hdst, hown⟩, hcrc⟩, htyp⟩, hunits⟩, hlen⟩, hpay⟩ := h
  have hgood : (!p.crcOk || decide (p.typ.toNat ≠ typ) || decide (48 < p.units.toNat) || decide (p.units.toNat * 8 ≠ p.payload.length) ||
      !(payloadOk p)) = false := by simp [hcrc, htyp, hlen, hpay, Nat.not_lt.2 hunits]
  unfold withPacket State.arrived
  dsimp only
  rw [hgood]
  by_cases hsrc : s.fabric.moduleId = some p.src
  · rw [if_pos hsrc, decide_eq_true hsrc, if_neg (by simp [hdst]), if_neg (by simp)]
    rfl
  · obtain ⟨hst, hdiscard⟩ := hown.resolve_left hsrc
    rw [if_neg hsrc, decide_eq_false hsrc, if_neg (by simp [hdst, hst]), if_neg (by simp [hdiscard])]
    rfl

theorem arrives_typ {typ : Nat} (h : Arrives s p typ = true) : p.typ.toNat = typ ∧ payloadOk p = true := by
  unfold Arrives at h
  simp only [Bool.and_eq_true, decide_eq_true_eq] at h
  exact ⟨h.1.1.1.2, h.2⟩

/-- A fresh request is fresh once the packet has been taken in. -/
theorem fresh_arrived (h : FreshRequest s p = true) : FreshRequest (s.arrived p) p = true := by
  have hr := replies_arrived s p
  unfold FreshRequest stateRefuses at h ⊢
  rwa [hr.tracker, hr.device]

theorem fresh_live (h : FreshRequest s p = true) : (s.tracker p.src.toNat).live = true := by
  unfold FreshRequest at h
  simp only [Bool.and_eq_true] at h
  exact h.1.1.1.1

theorem tagged_fresh (h : FreshRequest s p = true) (again : State → State) (serve : State → Except Nat State) : tagged s p again serve =
    match serve s with
    | .error r => nack s p r
    | .ok s => markApplied s p := by
  unfold FreshRequest at h
  simp only [Bool.and_eq_true, Bool.not_eq_true', decide_eq_true_eq] at h
  obtain ⟨⟨⟨⟨hlive, hseen⟩, hwindow⟩, hdev⟩, hrefuse⟩ := h
  unfold tagged
  dsimp only
  rw [hlive, hseen, hrefuse, decide_eq_false hdev, if_neg (by decide), if_neg (by decide), if_neg (by decide), if_neg (by decide),
    if_neg (Nat.not_le.2 hwindow)] <;> rfl

/-- A fresh request that is served is marked applied. -/
theorem served_fresh (h : FreshRequest s p = true) (again : State → State) {serve : State → State × Option Nat} {u : State}
    (hserve : serve s = (u, none)) : served s p again serve = markApplied u p := by
  unfold served
  dsimp only
  rw [hserve]
  dsimp only
  rw [tagged_fresh h, hserve]

/-! #### A tag that is marked -/

/-- Marking a tag changes the trackers alone of what packets leave. -/
def Marks (s t : State) : Prop := Replies s { t with fabric := { t.fabric with trackers := s.fabric.trackers } }

theorem Marks.mem (h : Marks s t) : t.mem = s.mem := (congrArg State.mem (Replies.emits h) :)
theorem Marks.counters (h : Marks s t) : t.counters = s.counters := (congrArg State.counters (Replies.emits h) :)
theorem Marks.contexts (h : Marks s t) : t.contexts = s.contexts := (congrArg State.contexts (Replies.emits h) :)

theorem marks_replies {u : State} (h : Marks s t) (hu : Replies t u) : Marks s u := by
  have hf := congrArg (fun (x : State) => { x with fabric := { x.fabric with
    ports := s.fabric.ports, streams := s.fabric.streams, crcDiscards := s.fabric.crcDiscards, trackers := s.fabric.trackers }, out := s.out }) hu
  exact Eq.trans hf h

theorem marks_setTracker (h : Marks s t) (n : Nat) (k : Tracker) : Marks s (t.setTracker n k) := h

/-- The trailer that a packet carries (R275). -/
def heldOf (p : Packet) : List HeldTrailer :=
  if p.tail then
    let b := pktTrailer p
    [{ tag := p.tag, count := BitVec.ofNat 32 (leAt b 0 4), ctx := BitVec.ofNat 8 (byteAt b 4), cancel := bitAt (byteAt b 5) 0
       amount := BitVec.ofNat 7 (byteAt b 5 / 2), vid := BitVec.ofNat 12 (leAt b 6 2)
       addr := p.address.toNat, len := if p.typ = 4#6 then byteAt p.payload 0 % 64 else p.payload.length - 8
       trunc := p.trunc : HeldTrailer }]
  else []

/-- The tracker with a tag applied, its trailer held, and `cum` past what is applied next to it (R274). -/
def Tracker.marked (t : Tracker) (p : Packet) : Tracker :=
  advanceCum (t.applied.length + 1) { t with applied := p.tag :: t.applied, trailers := t.trailers ++ heldOf p, fresh := t.fresh + 1 }

theorem markApplied_eq (s : State) (p : Packet) : markApplied s p =
    let t := (s.tracker p.src.toNat).marked p
    if t.fresh < 64 then s.setTracker p.src.toNat t
    else sendAck ((s.setTracker p.src.toNat t).setTracker p.src.toNat { t with fresh := 0 }) p.src.toNat (t.cum - 1) t.cum := rfl

theorem markApplied_marks (s : State) (p : Packet) : Marks s (markApplied s p) := by
  have hrefl : Marks s s := replies_refl s
  rw [markApplied_eq]
  dsimp only
  split
  · exact marks_setTracker hrefl ..
  · exact marks_replies (marks_setTracker (marks_setTracker hrefl ..) ..) (replies_sendAck (replies_refl _) ..)

theorem advanceCum_leaves (n : Nat) (t : Tracker) : { advanceCum n t with applied := t.applied, cum := t.cum } = t := by
  induction n generalizing t with
  | zero => rfl
  | succ n ih =>
    unfold advanceCum
    split
    · exact congrArg (fun k : Tracker => { k with applied := t.applied, cum := t.cum }) (ih _)
    · rfl

theorem marked_trailers (t : Tracker) (p : Packet) : (t.marked p).live = t.live ∧ (t.marked p).trailers = t.trailers ++ heldOf p := by
  have h := advanceCum_leaves (t.applied.length + 1)
    { t with applied := p.tag :: t.applied, trailers := t.trailers ++ heldOf p, fresh := t.fresh + 1 }
  exact ⟨(congrArg Tracker.live h :), (congrArg Tracker.trailers h :)⟩

/-- A tracker that is live reads back as it is set. -/
theorem tracker_setTracker {n : Nat} {k : Tracker} (hk : k.live = true) : (s.setTracker n k).tracker n = k :=
  smGet_smSet_ne (fun h => by rw [h] at hk; cases hk) ..

theorem markApplied_tracker (hlive : (s.tracker p.src.toNat).live = true) : ((markApplied s p).tracker p.src.toNat).live = true ∧
    ((markApplied s p).tracker p.src.toNat).trailers = (s.tracker p.src.toNat).trailers ++ heldOf p := by
  obtain ⟨hl, htrailers⟩ := marked_trailers (s.tracker p.src.toNat) p
  rw [hlive] at hl
  rw [markApplied_eq]
  dsimp only
  split
  · rw [tracker_setTracker hl]
    exact ⟨hl, htrailers⟩
  · rw [(replies_sendAck (replies_refl _) ..).tracker, tracker_setTracker (by exact hl)]
    exact ⟨hl, htrailers⟩

/-! #### Loads, stores and atomics (R273) -/

section
variable {m : Memory} {bs : Bytes}

theorem serveLoad_reads (hn : 0 < leAt p.payload 0 2 % 512) (hn' : leAt p.payload 0 2 % 512 ≤ 384)
    (hreach : reachable s p.address.toNat (leAt p.payload 0 2 % 512) = none)
    (hread : readMem s s.mem (leAt p.payload 0 2 % 512) p.address.toNat = .ok bs) :
    serveLoad s p = (answer s p.src.toNat 2 p.tag (padTo (roundUp (leAt p.payload 0 2 % 512) 8) bs), none) := by
  unfold serveLoad
  dsimp only
  rw [if_neg (by simp; omega), hreach]
  dsimp only
  rw [hread]

theorem serveStore_writes (hreach : reachable s p.address.toNat bs.length = none)
    (hw : writeMem s s.mem none p.address.toNat bs = (m, none)) : serveStore s p bs = ({ s with mem := m }, none) := by
  unfold serveStore
  dsimp only
  rw [hreach]
  dsimp only
  rw [hw]

theorem serveAtomic_changes {old : Bytes} {v : Nat} (hb : byteAt p.payload 1 = 4 ∨ byteAt p.payload 1 = 8)
    (halign : p.address.toNat % byteAt p.payload 1 = 0) (hreach : reachable s p.address.toNat (byteAt p.payload 1) = none)
    (hatomic : atomicMemory s p.address.toNat = true) (hread : readMem s s.mem (byteAt p.payload 1) p.address.toNat = .ok old)
    (hop : intOp (byteAt p.payload 0) (8 * byteAt p.payload 1) (leNat old) (leAt p.payload 8 (byteAt p.payload 1)) = some v)
    (hw : writeMem s s.mem none p.address.toNat (leBytes (byteAt p.payload 1) v) = (m, none)) :
    serveAtomic s p = (answer (keepResult { s with mem := m } p.src p.tag (BitVec.ofNat 64 (leNat old))) p.src.toNat 7 p.tag
      (leBytes 8 (leNat old)), none) := by
  unfold serveAtomic
  dsimp only
  rw [if_neg (by omega), if_neg (not_not.2 halign), hreach]
  dsimp only
  rw [hatomic, if_neg (by decide), hread]
  dsimp only
  rw [hop]
  dsimp only
  rw [hw]

end

/-- The results that the I/O die of a source keeps. -/
def State.resultsOf (s : State) (src : Nat) : List (BitVec 14 × BitVec 32 × BitVec 64) :=
  if src % 2 = 0 then s.fabric.results0 else s.fabric.results1

theorem Replies.resultsOf (h : Replies s t) (n : Nat) : t.resultsOf n = s.resultsOf n := (congrArg (State.resultsOf · n) h :)
theorem Marks.resultsOf (h : Marks s t) (n : Nat) : t.resultsOf n = s.resultsOf n := (congrArg (State.resultsOf · n) h :)

theorem keepResult_first (s : State) (src : BitVec 14) (tag : BitVec 32) (v : BitVec 64) :
    ((keepResult s src tag v).resultsOf src.toNat).head? = some (src, tag, v) ∧ (keepResult s src tag v).mem = s.mem := by
  refine ⟨?_, rfl⟩
  unfold keepResult State.resultsOf
  dsimp only
  split <;> rfl

/-! #### Doorbells (R273) -/

theorem queue_of_contexts (h : t.contexts = s.contexts) (x q : Nat) : t.queue x q = s.queue x q := by
  unfold State.queue State.ctx
  rw [h]

/-- A doorbell within its bounds moves the queue's pointers. -/
theorem ringDoorbell_moves {x q : Nat} {nt nr : BitVec 64} (hconf : (s.queue x q).configured = true) (hnt : nt ≠ BitVec.allOnes 64)
    (hnr : nr ≠ BitVec.allOnes 64) (htail : (s.queue x q).tail.toNat ≤ nt.toNat)
    (htail' : nt.toNat ≤ (s.queue x q).accept.toNat + 2 ^ (s.queue x q).ringLog2) (hrel : (s.queue x q).release.toNat ≤ nr.toNat)
    (hrel' : nr.toNat ≤ (s.queue x q).complete.toNat) : (ringDoorbell s x q nt nr).queue x q = { s.queue x q with tail := nt, release := nr } ∧
      (ringDoorbell s x q nt nr).mem = s.mem := by
  have hring : ringDoorbell s x q nt nr = s.modQueue x q (fun k => { k with tail := nt, release := nr }) := by
    unfold ringDoorbell
    dsimp only
    rw [if_neg hnt, if_neg hnr, if_neg (by omega)]
  rw [hring]
  exact ⟨(modQueue_goes hconf).1, rfl⟩

/-! #### Trailers (R275) -/

theorem byteAt_lt (b : Bytes) (i : Nat) : byteAt b i < 256 := (b.getD i 0).isLt

/-- What the trailer of a packet says (R275). -/
theorem heldOf_says (htail : p.tail = true) : ∃ h, heldOf p = [h] ∧ h.tag = p.tag ∧ h.ctx.toNat = byteAt (pktTrailer p) 4 ∧
    h.amount.toNat = byteAt (pktTrailer p) 5 / 2 ∧ h.cancel = bitAt (byteAt (pktTrailer p) 5) 0 := by
  have h4 := byteAt_lt (pktTrailer p) 4
  have h5 := byteAt_lt (pktTrailer p) 5
  refine ⟨_, if_pos htail, rfl, ?_, ?_, rfl⟩
  · exact (BitVec.toNat_ofNat ..).trans (Nat.mod_eq_of_lt h4)
  · exact (BitVec.toNat_ofNat ..).trans (Nat.mod_eq_of_lt (by omega))

theorem noteArrival_frame (s : State) (src x : Nat) (h : HeldTrailer) : { noteArrival s src x h with coll := s.coll } = s := by
  unfold noteArrival
  dsimp only
  split
  · rfl
  · unfold State.modInst
    split <;> rfl

theorem noteArrival_counters (s : State) (src x : Nat) (h : HeldTrailer) : (noteArrival s src x h).counters = s.counters :=
  (congrArg State.counters (noteArrival_frame s src x h) :)

theorem noteArrival_fabric (s : State) (src x : Nat) (h : HeldTrailer) : (noteArrival s src x h).fabric = s.fabric :=
  (congrArg State.fabric (noteArrival_frame s src x h) :)

/-- The first trailer that `cum` has passed leaves the tracker. -/
def State.trailerTaken (s : State) (n : Nat) (h : HeldTrailer) : State :=
  s.setTracker n { s.tracker n with trailers := (s.tracker n).trailers.filter (fun k => decide (k.tag ≠ h.tag)) }

theorem applyTrailer_eq {src : BitVec 14} {h : HeldTrailer}
    (hfind : (s.tracker src.toNat).trailers.find? (fun h => decide ((h.tag - (s.tracker src.toNat).cum).toNat ≥ 2 ^ 31)) = some h) :
    applyTrailer s src =
      let u := s.trailerTaken src.toNat h
      let e := s.transEntry h.ctx.toNat h.vid.toNat
      let p := trTarget e
      if trValid e && trKind e == 0 then
        if (s.ctr p).frozen then trailerFault (signalCounter u p 0 (.fabricAgent src h.tag) false) src h 0
        else if h.cancel then markCounter u p
        else noteArrival (signalCounter u p h.amount.toNat (.fabricAgent src h.tag) false) src.toNat h.ctx.toNat h
      else
        answer (trailerFault { u with fabric := { u.fabric with tailInvalid := satAdd u.fabric.tailInvalid 1 } } src h 2) src.toNat 0x0D h.tag
          (leBytes 4 2 ++ leBytes 4 0) := by
  unfold applyTrailer
  dsimp only
  rw [hfind]
  rfl

/-! #### The requests one by one -/

theorem intAtomic_keeps {old : Bytes} {v : Nat} {m : Memory} (harr : Arrives s p 6 = true) (hfresh : FreshRequest s p = true)
    (hserve : serveAtomic (s.arrived p) p = (answer (keepResult { s.arrived p with mem := m } p.src p.tag (BitVec.ofNat 64 (leNat old))) p.src.toNat 7
      p.tag (leBytes 8 v), none)) : Goes (exec (.intAtomic p) s) (fun t => t.mem = m ∧
        (t.resultsOf p.src.toNat).head? = some (p.src, p.tag, BitVec.ofNat 64 (leNat old))) := by
  have hexec : exec (.intAtomic p) s = .next (markApplied (answer (keepResult { s.arrived p with mem := m } p.src p.tag (BitVec.ofNat 64 (leNat old)))
      p.src.toNat 7 p.tag (leBytes 8 v)) p) := by
    show execIntAtomic p s = _
    unfold execIntAtomic
    rw [withPacket_arrives harr, served_fresh (fresh_arrived hfresh) _ hserve]
  obtain ⟨hfirst, hmem⟩ := keepResult_first { s.arrived p with mem := m } p.src p.tag (BitVec.ofNat 64 (leNat old))
  refine ⟨_, hexec, ?_, ?_⟩
  · rw [(markApplied_marks ..).mem, (replies_answer (replies_refl _) ..).emits.mem]
    exact hmem
  · rw [(markApplied_marks ..).resultsOf, (replies_answer (replies_refl _) ..).resultsOf]
    exact hfirst

theorem signal_holds (harr : Arrives s p 8 = true) (hfresh : FreshRequest s p = true) : Goes (exec (.signal p) s) (fun t =>
    (∃ h, (t.tracker p.src.toNat).trailers = (s.tracker p.src.toNat).trailers ++ [h] ∧ h.tag = p.tag ∧ h.ctx.toNat = byteAt (pktTrailer p) 4 ∧
      h.amount.toNat = byteAt (pktTrailer p) 5 / 2 ∧ h.cancel = bitAt (byteAt (pktTrailer p) 5) 0) ∧ t.mem = s.mem ∧ t.counters = s.counters) := by
  have hexec : exec (.signal p) s = .next (markApplied (s.arrived p) p) := by
    show execSignal p s = _
    unfold execSignal
    rw [withPacket_arrives harr, tagged_fresh (fresh_arrived hfresh)]
  have hr := replies_arrived s p
  have htail : p.tail = true := by
    obtain ⟨htyp, hpay⟩ := arrives_typ harr
    simp [payloadOk, htyp] at hpay
    exact hpay.2.1
  obtain ⟨h, hheld, htag, hctx, hamount, hcancel⟩ := heldOf_says htail
  have htracker := (markApplied_tracker (fresh_live (fresh_arrived hfresh))).2
  rw [hr.tracker, hheld] at htracker
  exact ⟨_, hexec, ⟨h, htracker, htag, hctx, hamount, hcancel⟩, (markApplied_marks ..).mem.trans hr.emits.mem,
    (markApplied_marks ..).counters.trans (congrArg State.counters hr.emits :)⟩

theorem Replies.contexts (h : Replies s t) : t.contexts = s.contexts := (congrArg State.contexts h.emits :)

theorem ctx_of_contexts (h : t.contexts = s.contexts) (x : Nat) : t.ctx x = s.ctx x := by
  unfold State.ctx
  rw [h]

theorem fabricDoorbell_eq (harr : Arrives s p 9 = true) (hfresh : FreshRequest s p = true)
    (hpeer : (s.ctx (byteAt p.payload 0)).peerOpen = true) (hconf : (s.queue (byteAt p.payload 0) (byteAt p.payload 1 % 8)).configured = true)
    (hfab : (s.queue (byteAt p.payload 0) (byteAt p.payload 1 % 8)).fabric = true)
    (hnames : namesPeer (s.ctx (byteAt p.payload 0)) p.src.toNat = true) : exec (.fabricDoorbell p) s =
      .next (markApplied (ringDoorbell (endSnapshot (s.arrived p)) (byteAt p.payload 0) (byteAt p.payload 1 % 8)
        (BitVec.ofNat 64 (leAt p.payload 8 8)) (BitVec.ofNat 64 (leAt p.payload 16 8))) p) := by
  have hcontexts := (replies_arrived s p).contexts
  have hctx : (s.arrived p).ctx (byteAt p.payload 0) = s.ctx (byteAt p.payload 0) := ctx_of_contexts hcontexts _
  show execFabricDoorbell p s = _
  unfold execFabricDoorbell
  rw [withPacket_arrives harr]
  dsimp only
  rw [hctx, queue_of_contexts hcontexts, hpeer, hconf, hfab, hnames, if_pos (by decide), tagged_fresh (fresh_arrived hfresh)]

/-- The state in which the tracker of a source has begun anew (R280). -/
def State.resynced (s : State) (n : Nat) (tag : BitVec 32) : State :=
  let lost := (s.tracker n).trailers.length
  let s := s.setTracker n { live := true, cum := tag }
  { s with fabric := { s.fabric with tailInvalid := satAdd s.fabric.tailInvalid lost, resyncs := satAdd s.fabric.resyncs 1 } }

theorem resync_begins (harr : Arrives s p 0x0E = true) (hdev : s.device ≠ .bootLimited)
    (hlive : (s.tracker p.src.toNat).live = true ∨ trackerFree s p.src.toNat = true) : Goes (exec (.resync p) s) (fun t =>
      t.tracker p.src.toNat = { live := true, cum := p.tag } ∧
      t.fabric.tailInvalid = satAdd s.fabric.tailInvalid (s.tracker p.src.toNat).trailers.length ∧
      t.fabric.resyncs = satAdd s.fabric.resyncs 1 ∧ t.mem = s.mem) := by
  have hr := replies_arrived s p
  have hfree : trackerFree (s.arrived p) p.src.toNat = trackerFree s p.src.toNat := (congrArg (trackerFree · p.src.toNat) hr :)
  have htail : (s.arrived p).fabric.tailInvalid = s.fabric.tailInvalid := (congrArg (fun u : State => u.fabric.tailInvalid) hr :)
  have hresyncs : (s.arrived p).fabric.resyncs = s.fabric.resyncs := (congrArg (fun u : State => u.fabric.resyncs) hr :)
  have hmem := hr.emits.mem
  have htracker := hr.tracker p.src.toNat
  have hnofree : ¬(!((s.arrived p).tracker p.src.toNat).live && !(trackerFree (s.arrived p) p.src.toNat)) = true := by
    rw [htracker, hfree]
    rcases hlive with h | h <;> simp [h]
  have hexec : exec (.resync p) s = .next (sendAck ((s.arrived p).resynced p.src.toNat p.tag) p.src.toNat p.tag p.tag) := by
    show execResync p s = _
    unfold execResync
    rw [withPacket_arrives harr]
    dsimp only
    rw [if_neg (by rw [hr.device]; exact hdev), if_neg hnofree]
    rfl
  generalize s.arrived p = u at *
  have hack := replies_sendAck (replies_refl (u.resynced p.src.toNat p.tag)) p.src.toNat p.tag p.tag
  refine ⟨_, hexec, ?_, ?_, ?_, ?_⟩
  · rw [hack.tracker]
    exact tracker_setTracker (s := u) (k := { live := true, cum := p.tag }) rfl
  · refine (congrArg (fun u : State => u.fabric.tailInvalid) hack :).trans ?_
    rw [← htracker, ← htail]
    rfl
  · refine (congrArg (fun u : State => u.fabric.resyncs) hack :).trans ?_
    rw [← hresyncs]
    rfl
  · rw [hack.emits.mem, ← hmem]
    rfl

/-! #### Trailers one by one -/

section
variable {n : BitVec 14} {h : HeldTrailer} (hlive : (s.tracker n.toNat).live = true)

include hlive

/-- What a trailer taken off its tracker leaves. -/
theorem trailerTaken_tracker : ((s.trailerTaken n.toNat h).tracker n.toNat).trailers =
    (s.tracker n.toNat).trailers.filter (fun k => decide (k.tag ≠ h.tag)) := by
  unfold State.trailerTaken
  rw [tracker_setTracker (by exact hlive)]

end

theorem tracker_of_trackers (h : t.fabric.trackers = s.fabric.trackers) (n : Nat) : t.tracker n = s.tracker n := by
  unfold State.tracker
  rw [h]

/-- A trailer's signal that its counter takes (R186, R188, R275). -/
theorem trailer_signals (hs : s.wf = true) {n : BitVec 14} {h : HeldTrailer} (hlive : (s.tracker n.toNat).live = true)
    (hfind : (s.tracker n.toNat).trailers.find? (fun h => decide ((h.tag - (s.tracker n.toNat).cum).toNat ≥ 2 ^ 31)) = some h)
    (hvalid : trValid (s.transEntry h.ctx.toNat h.vid.toNat) = true) (hkind : trKind (s.transEntry h.ctx.toNat h.vid.toNat) = 0) :
    let p := trTarget (s.transEntry h.ctx.toNat h.vid.toNat)
    (s.ctr p).frozen = false → h.cancel = false →
      ((s.ctr p).monotonic = true ∨ (s.ctr p).produced.toNat + h.amount.toNat ≤ (s.ctr p).buffers.toNat) →
      (applyTrailer s n).ctr p = { s.ctr p with produced := (s.ctr p).produced + BitVec.ofNat 64 h.amount.toNat } ∧
      ((applyTrailer s n).tracker n.toNat).trailers = (s.tracker n.toNat).trailers.filter (fun k => decide (k.tag ≠ h.tag)) := by
  intro p hfrozen hcancel hroom
  have hcounters := (State.wf_tables hs).2.1
  have hsignal : signalCounter (s.trailerTaken n.toNat h) p h.amount.toNat (.fabricAgent n h.tag) false =
      (s.trailerTaken n.toNat h).setCtr p { s.ctr p with produced := (s.ctr p).produced + BitVec.ofNat 64 h.amount.toNat } := by
    cases hm : (s.ctr p).monotonic with
    | true => exact signalCounter_monotonic (s := s.trailerTaken n.toNat h) hfrozen hm ..
    | false => exact signalCounter_within (s := s.trailerTaken n.toNat h) hfrozen hm (hroom.resolve_left (by rw [hm]; decide)) ..
  have happly : applyTrailer s n = noteArrival ((s.trailerTaken n.toNat h).setCtr p
      { s.ctr p with produced := (s.ctr p).produced + BitVec.ofNat 64 h.amount.toNat }) n.toNat h.ctx.toNat h := by
    rw [applyTrailer_eq hfind]
    dsimp only
    rw [hvalid, hkind, if_pos (by decide), if_neg (by rw [hfrozen]; decide), hcancel, if_neg (by decide), hsignal]
  rw [happly]
  refine ⟨?_, ?_⟩
  · rw [State.ctr_congr (noteArrival_counters ..), State.ctr_setCtr_wf (by exact hcounters), if_pos rfl]
  · rw [tracker_of_trackers (congrArg Fabric.trackers (noteArrival_fabric ..))]
    exact trailerTaken_tracker hlive

/-- A trailer that cancels marks its counter (R194, R275). -/
theorem trailer_marks (hs : s.wf = true) {n : BitVec 14} {h : HeldTrailer}
    (hfind : (s.tracker n.toNat).trailers.find? (fun h => decide ((h.tag - (s.tracker n.toNat).cum).toNat ≥ 2 ^ 31)) = some h)
    (hvalid : trValid (s.transEntry h.ctx.toNat h.vid.toNat) = true) (hkind : trKind (s.transEntry h.ctx.toNat h.vid.toNat) = 0)
    (hfrozen : (s.ctr (trTarget (s.transEntry h.ctx.toNat h.vid.toNat))).frozen = false) (hcancel : h.cancel = true) :
    (applyTrailer s n).ctr (trTarget (s.transEntry h.ctx.toNat h.vid.toNat)) =
      { s.ctr (trTarget (s.transEntry h.ctx.toNat h.vid.toNat)) with cancelled := true, waiters := [] } := by
  have hcounters := (State.wf_tables hs).2.1
  rw [applyTrailer_eq hfind]
  dsimp only
  rw [hvalid, hkind, if_pos (by decide), if_neg (by rw [hfrozen]; decide), hcancel, if_pos rfl, markCounter_ctr (by exact hcounters), if_pos rfl]
  rfl

/-- A discarded trailer is recorded. -/
theorem trailerFault_records (s : State) (src : BitVec 14) (h : HeldTrailer) (reason : Nat) :
    (trailerFault s src h reason).rel.recordCount = s.rel.recordCount + 1 ∧ Reports s (trailerFault s src h reason) :=
  ⟨(fault_recorded (by show (7 : Nat) ≠ 1; decide)).1, reports_fault (reports_refl s) _⟩

/-- What a trailer that is discarded leaves. -/
structure Dropped (s t : State) (n : BitVec 14) (h : HeldTrailer) : Prop where
  counters : t.counters = s.counters
  recorded : t.rel.recordCount = s.rel.recordCount + 1
  trailers : (t.tracker n.toNat).trailers = (s.tracker n.toNat).trailers.filter (fun k => decide (k.tag ≠ h.tag))

theorem endSnapshot_tracker (s : State) (n : Nat) : (endSnapshot s).tracker n = s.tracker n :=
  tracker_of_trackers (congrArg Fabric.trackers (endSnapshot_fabric s)) n

theorem endSnapshot_transEntry (s : State) (x v : Nat) : (endSnapshot s).transEntry x v = s.transEntry x v := by
  unfold State.transEntry
  rw [ctx_of_contexts (endSnapshot_contexts s)]

theorem endSnapshot_ctr (s : State) (p : Nat) : (endSnapshot s).ctr p = s.ctr p := State.ctr_congr (endSnapshot_counters s) p

theorem endSnapshot_tailDiscards (s : State) :
    (endSnapshot s).tailDiscards = s.tailDiscards := (congrArg State.tailDiscards (endSnapshot_frame s) :)

theorem Dropped.of_endSnapshot {n : BitVec 14} {h : HeldTrailer} (hd : Dropped (endSnapshot s) t n h) : t.counters = s.counters ∧
    t.rel.recordCount = s.rel.recordCount + 1 ∧ (t.tracker n.toNat).trailers = (s.tracker n.toNat).trailers.filter (fun k => decide (k.tag ≠ h.tag)) := by
  obtain ⟨hcounters, hcount, htrailers⟩ := hd
  rw [endSnapshot_counters] at hcounters
  rw [endSnapshot_rel] at hcount
  rw [endSnapshot_tracker] at htrailers
  exact ⟨hcounters, hcount, htrailers⟩

/-- A trailer at a frozen counter is discarded (R187, R275). -/
theorem trailer_at_frozen {n : BitVec 14} {h : HeldTrailer} (hlive : (s.tracker n.toNat).live = true)
    (hfind : (s.tracker n.toNat).trailers.find? (fun h => decide ((h.tag - (s.tracker n.toNat).cum).toNat ≥ 2 ^ 31)) = some h)
    (hvalid : trValid (s.transEntry h.ctx.toNat h.vid.toNat) = true) (hkind : trKind (s.transEntry h.ctx.toNat h.vid.toNat) = 0)
    (hfrozen : (s.ctr (trTarget (s.transEntry h.ctx.toNat h.vid.toNat))).frozen = true) :
    Dropped s (applyTrailer s n) n h ∧ (applyTrailer s n).tailDiscards = satAdd s.tailDiscards 1 := by
  have hsignal : signalCounter (s.trailerTaken n.toNat h) (trTarget (s.transEntry h.ctx.toNat h.vid.toNat)) 0 (.fabricAgent n h.tag) false =
      { s.trailerTaken n.toNat h with tailDiscards := satAdd s.tailDiscards 1 } := if_pos hfrozen
  obtain ⟨hcount, hr⟩ := trailerFault_records { s.trailerTaken n.toNat h with tailDiscards := satAdd s.tailDiscards 1 } n h 0
  rw [applyTrailer_eq hfind]
  dsimp only
  rw [hvalid, hkind, if_pos (by decide), if_pos hfrozen, hsignal]
  refine ⟨⟨hr.counters, hcount, ?_⟩, (congrArg State.tailDiscards hr :)⟩
  rw [tracker_of_trackers (congrArg Fabric.trackers hr.fabric)]
  exact trailerTaken_tracker hlive

/-- A trailer whose translation names no counter is discarded (R275). -/
theorem trailer_invalid {n : BitVec 14} {h : HeldTrailer} (hlive : (s.tracker n.toNat).live = true)
    (hfind : (s.tracker n.toNat).trailers.find? (fun h => decide ((h.tag - (s.tracker n.toNat).cum).toNat ≥ 2 ^ 31)) = some h)
    (hbad : trValid (s.transEntry h.ctx.toNat h.vid.toNat) = false ∨ trKind (s.transEntry h.ctx.toNat h.vid.toNat) ≠ 0) :
    Dropped s (applyTrailer s n) n h ∧ (applyTrailer s n).fabric.tailInvalid = satAdd s.fabric.tailInvalid 1 := by
  obtain ⟨u, hu⟩ : ∃ u : State, { s.trailerTaken n.toNat h with fabric := { (s.trailerTaken n.toNat h).fabric with
    tailInvalid := satAdd (s.trailerTaken n.toNat h).fabric.tailInvalid 1 } } = u := ⟨_, rfl⟩
  obtain ⟨hcount, hr⟩ := trailerFault_records u n h 2
  have ha := replies_answer (replies_refl (trailerFault u n h 2)) n.toNat 0x0D h.tag (leBytes 4 2 ++ leBytes 4 0)
  rw [applyTrailer_eq hfind]
  dsimp only
  rw [if_neg (by rcases hbad with h | h <;> simp [h]), hu]
  refine ⟨⟨?_, ?_, ?_⟩, ?_⟩
  · rw [(congrArg State.counters ha.emits :), hr.counters, ← hu]
    rfl
  · rw [(congrArg (fun t : State => t.rel.recordCount) ha.emits :), hcount, ← hu]
    rfl
  · rw [ha.tracker, tracker_of_trackers (congrArg Fabric.trackers hr.fabric), ← hu]
    exact trailerTaken_tracker hlive
  · rw [(congrArg (fun t : State => t.fabric.tailInvalid) ha :), hr.fabric, ← hu]
    rfl

end

/-- Settles O25: a request that arrives fresh is served and marked applied, and a trailer that `cum` has passed takes its effect. -/
theorem fabricRequestsAreServed : Obligations.FabricRequestsAreServed := by
  unfold Obligations.FabricRequestsAreServed
  intro s p
  dsimp only
  refine ⟨fun harr hfresh bs hn hn' hreach hread => ?_, fun m harr hfresh halign hreach hw => ?_, fun m harr hfresh hreach hw => ?_,
    fun harr hfresh hserve => ?_, fun b old v m harr hfresh hsize hb halign hreach hatomic hread hop hw => ?_, fun harr hfresh => ?_,
    fun harr hfresh hpeer hconf hfab hnames hnt hnr htail htail' hrel hrel' => ?_, fun harr hfresh => ?_, fun harr hdev hlive => ?_,
    fun n h hs hlive hfind hvalid hkind hfrozen => ⟨fun hcancel hroom => ?_, fun hcancel => ?_⟩,
    fun n h hs hlive hfind => ⟨fun hvalid hkind hfrozen => ?_, fun hbad => ?_⟩⟩
  · show execLoadReq p s = _
    unfold execLoadReq
    rw [withPacket_arrives harr, served_fresh (fresh_arrived hfresh) _ (serveLoad_reads hn hn' hreach hread)]
  · show execStore p s = _
    unfold execStore
    rw [withPacket_arrives harr,
      served_fresh (fresh_arrived hfresh) _ ((if_neg (not_not.2 halign)).trans (serveStore_writes hreach hw))]
  · show execStoreBytes p s = _
    unfold execStoreBytes
    rw [withPacket_arrives harr, served_fresh (fresh_arrived hfresh) _ (serveStore_writes hreach hw)]
  · show execSkeinAdd p s = _
    unfold execSkeinAdd
    rw [withPacket_arrives harr]
    dsimp only
    rw [hserve, tagged_fresh (fresh_arrived hfresh), if_neg (by simp)]
    rfl
  · subst hsize
    exact intAtomic_keeps harr hfresh (serveAtomic_changes hb halign hreach hatomic hread hop hw)
  · exact signal_holds harr hfresh
  · have hend := queue_of_contexts ((endSnapshot_contexts (s.arrived p)).trans (replies_arrived s p).contexts) (byteAt p.payload 0)
      (byteAt p.payload 1 % 8)
    obtain ⟨hmoved, hmem⟩ := ringDoorbell_moves (s := endSnapshot (s.arrived p)) (by rw [hend]; exact hconf) hnt hnr (by rw [hend]; exact htail)
      (by rw [hend]; exact htail') (by rw [hend]; exact hrel) (by rw [hend]; exact hrel')
    refine ⟨_, fabricDoorbell_eq harr hfresh hpeer hconf hfab hnames, ?_, ?_⟩
    · rw [queue_of_contexts (markApplied_marks ..).contexts, hmoved, hend]
    · rw [(markApplied_marks ..).mem, hmem, endSnapshot_mem, (replies_arrived s p).emits.mem]
  · show execDictReq p s = _
    unfold execDictReq
    rw [withPacket_arrives harr, tagged_fresh (fresh_arrived hfresh)]
  · exact resync_begins harr hdev hlive
  · have h := trailer_signals (s := endSnapshot s) ((keeps_endSnapshot (keeps_refl s)).wf hs) (n := n) (h := h)
    simp only [endSnapshot_tracker, endSnapshot_transEntry, endSnapshot_ctr] at h
    exact ⟨_, rfl, h hlive hfind hvalid hkind hfrozen hcancel hroom⟩
  · have h := trailer_marks (s := endSnapshot s) ((keeps_endSnapshot (keeps_refl s)).wf hs) (n := n) (h := h)
    simp only [endSnapshot_tracker, endSnapshot_transEntry, endSnapshot_ctr] at h
    exact ⟨_, rfl, h hfind hvalid hkind hfrozen hcancel⟩
  · have h := trailer_at_frozen (s := endSnapshot s) (n := n) (h := h)
    simp only [endSnapshot_tracker, endSnapshot_transEntry, endSnapshot_ctr] at h
    obtain ⟨hdropped, hcount⟩ := h hlive hfind hvalid hkind hfrozen
    exact ⟨_, rfl, hdropped.of_endSnapshot, hcount.trans (by rw [endSnapshot_tailDiscards])⟩
  · have h := trailer_invalid (s := endSnapshot s) (n := n) (h := h)
    simp only [endSnapshot_tracker, endSnapshot_transEntry] at h
    obtain ⟨hdropped, hcount⟩ := h hlive hfind hbad
    exact ⟨_, rfl, hdropped.of_endSnapshot, hcount.trans (by rw [endSnapshot_fabric])⟩

end Sys2Proof.Machine
end

section
/-! PROOFS. Streams (O27). -/

namespace Sys2Proof.Machine

/-! ### Streams (R271, R274, R278 to R280) -/

section
variable {s t u : State}

/-! #### What leaves the streams -/

/-- A packet that is taken in changes the ports alone. -/
def TakenIn (s t : State) : Prop := { t with fabric := { t.fabric with ports := s.fabric.ports }, out := s.out } = s

theorem takenIn_takeIn (s : State) (p : Nat) (pkt : Packet) : TakenIn s (takeIn s p pkt) := by
  have hput (k : Port) : TakenIn s { s with fabric := { s.fabric with ports := smSet {} s.fabric.ports p k } } := rfl
  unfold takeIn
  dsimp only
  split
  · exact hput _
  · refine List.foldlRecOn (motive := fun t : State => TakenIn s t) _ _ (hput _) fun t h vc _ => ?_
    split
    · exact h
    · exact h

theorem takenIn_arrived (s : State) (p : Packet) : TakenIn s (s.arrived p) := by
  unfold State.arrived
  split
  · rfl
  · exact takenIn_takeIn ..

theorem TakenIn.stream (h : TakenIn s t) (n : Nat) : t.stream n = s.stream n := (congrArg (State.stream · n) h :)
theorem TakenIn.outPacket (h : TakenIn s t) (n : Nat) (tag : BitVec 32) : t.outPacket n tag = s.outPacket n tag := (congrArg (State.outPacket · n tag) h :)
theorem TakenIn.mem (h : TakenIn s t) : t.mem = s.mem := (congrArg State.mem h :)
theorem TakenIn.rel (h : TakenIn s t) : t.rel = s.rel := (congrArg State.rel h :)
theorem TakenIn.cores (h : TakenIn s t) : t.cores = s.cores := (congrArg State.cores h :)
theorem TakenIn.fabric (h : TakenIn s t) : { t.fabric with ports := s.fabric.ports } = s.fabric := (congrArg State.fabric h :)

/-- A stream that is set to one that is not the default reads back. -/
theorem stream_setStream {n : Nat} {k : Stream} (hk : k ≠ {}) : (s.setStream n k).stream n = k := smGet_smSet_ne hk ..

theorem Stream.ne_of_begun {k : Stream} (h : k.begun = true) : k ≠ {} := fun hk => by rw [hk] at h; cases h

theorem stream_setStream_wf (hs : smWf {} s.fabric.streams = true) (n : Nat) (k : Stream) : (s.setStream n k).stream n = k :=
  (smGet_smSet hs ..).trans (if_pos rfl)

/-! #### Acknowledgement (R274) -/

/-- A stream without the packets that satisfy p; the owners of those with trailers are kept. -/
def Stream.acked (t : Stream) (p : OutPacket → Bool) : Stream :=
  { t with
    unacked := t.unacked.filter (fun o => !(p o))
    tails := (t.tails ++ ((t.unacked.filter (fun o => p o && o.tail)).map (fun o => (o.tag, o.owner)))).filter
      (fun x => decide ((t.next - x.1).toNat ≤ 131072)) }

/-- Packets of an idle stream are acknowledged, and nothing goes out. -/
theorem ackPackets_idle {n : Nat} (h : StreamIdle s n = true) (p : OutPacket → Bool) :
    ackPackets s n p = s.setStream n ((s.stream n).acked p) := by
  unfold StreamIdle at h
  simp only [Bool.and_eq_true, List.isEmpty_iff] at h
  obtain ⟨hbegun, hwaiting⟩ := h
  have hread : (s.setStream n ((s.stream n).acked p)).stream n = (s.stream n).acked p := stream_setStream (Stream.ne_of_begun hbegun)
  show drainWaiting ((s.stream n).waiting.length + 1) (s.setStream n ((s.stream n).acked p)) n = _
  unfold drainWaiting
  dsimp only
  rw [hread, show ((s.stream n).acked p).waiting = [] from hwaiting]

/-- What is acknowledged, as the statements say it. -/
theorem mem_acked {k : Stream} {p : OutPacket → Bool} {o : OutPacket} : o ∈ (k.acked p).unacked ↔ o ∈ k.unacked ∧ ¬p o = true := by
  simp [Stream.acked]

theorem ackPackets_acks {n : Nat} (h : StreamIdle s n = true) (p : OutPacket → Bool) :
    (ackPackets s n p).stream n = (s.stream n).acked p ∧
    (ackPackets s n p).mem = s.mem := by
  rw [ackPackets_idle h]
  unfold StreamIdle at h
  simp only [Bool.and_eq_true] at h
  exact ⟨stream_setStream (Stream.ne_of_begun h.1), rfl⟩

/-! #### Responses (R271, R273) -/

/-- The cluster whose cached lines a load of an owner updates. -/
def loadCluster (a : Actor) : Option Nat :=
  match a with
  | .core _ g _ => some (g.val / 8)
  | _ => none

theorem takeLoad_stores {o : OutPacket} {data : Bytes} {m : Memory} (hdest : o.dest < 2 ^ 48)
    (hw : writeMem s s.mem (loadCluster o.owner) o.dest (data.take (leAt o.payload 0 2)) = (m, none)) : takeLoad s o data = { s with mem := m } := by
  have hbit : bitAt o.dest 62 = false := by
    unfold bitAt
    simp only [beq_eq_false_iff_ne]
    omega
  unfold takeLoad
  dsimp only
  rw [if_neg (by omega), if_neg (by rw [hbit]; decide)]
  show (match writeMem s s.mem (loadCluster o.owner) o.dest (data.take (leAt o.payload 0 2)) with
    | (m, none) => ({ s with mem := m } : State)
    | (m, some e) => failOwner (writeNotes { s with mem := m } o.owner 0x80 [memErrNote s { sev := 3, cls := 2 } e]) o.owner stData) = _
  rw [hw]

/-! #### Owners that end (R279) -/

/-- Owners have ended: cores, contexts and the fabric's record may change. -/
def Fails (s t : State) : Prop := { t with cores := s.cores, contexts := s.contexts, fabric := s.fabric } = s

theorem Fails.rel (h : Fails s t) : t.rel = s.rel := (congrArg State.rel h :)

theorem fails_blame (h : Fails s t) (a : Actor) (st : BitVec 16) : Fails s (t.blame a st) := by
  unfold State.blame
  split <;> exact h

theorem fails_failOwner (h : Fails s t) (a : Actor) (status : Nat) : Fails s (failOwner t a status) := by
  have hcount : Fails s (if status = 0x0701 then { t with fabric := { t.fabric with unreachable := satAdd t.fabric.unreachable 1 } } else t) := by
    split <;> exact h
  unfold failOwner
  dsimp only
  split
  · split
    · exact hcount
    · exact h
  · exact h
  · exact fails_blame hcount _ _

theorem failOwner_streams (s : State) (a : Actor) (status : Nat) : (failOwner s a status).fabric.streams = s.fabric.streams := by
  have hblame (t : State) (st : BitVec 16) : (t.blame a st).fabric = t.fabric := by
    unfold State.blame
    split <;> rfl
  unfold failOwner
  dsimp only
  split
  · split
    · split <;> rfl
    · rfl
  · rfl
  · rw [hblame]
    split <;> rfl

/-- A map of a table, at a key whose value is not the default and does not become it. -/
theorem smGet_smMap_ne {α : Type} [DecidableEq α] {d : α} {f : Nat → α → α} {m : SMap α} {x : Nat} (h : smGet d m x ≠ d)
    (hf : f x (smGet d m x) ≠ d) : smGet d (smMap d f m) x = f x (smGet d m x) := by
  induction m with
  | nil => exact absurd rfl h
  | cons e m ih =>
    obtain ⟨k, v⟩ := e
    have hcons : smMap d f ((k, v) :: m) = if f k v ≠ d then (k, f k v) :: smMap d f m else smMap d f m := by
      by_cases hv : f k v = d <;> simp [smMap, hv]
    rw [smGet] at h hf ⊢
    by_cases hk : k = x
    · subst hk
      rw [if_pos rfl] at h hf ⊢
      rw [hcons, if_pos hf, smGet, if_pos rfl]
    · rw [if_neg hk] at h hf ⊢
      by_cases hlt : x < k
      · rw [if_pos hlt] at h
        exact absurd rfl h
      · rw [if_neg hlt] at h hf ⊢
        rw [hcons]
        split
        · rw [smGet, if_neg hk, if_neg hlt, ih h hf]
        · exact ih h hf

/-- Something of the stream is out. -/
def Stream.busy (t : Stream) : Prop := t.unacked ≠ [] ∨ t.resync ≠ none

theorem Stream.busy.ne {k : Stream} (h : k.busy) : k ≠ {} := by
  rintro rfl
  rcases h with h | h <;> exact h rfl

/-- The stream whose packets of an owner are without one. -/
def Stream.freed (t : Stream) (a : Actor) : Stream :=
  { t with unacked := mapWhere (fun (o : OutPacket) => decide (o.owner = a)) (fun o => { o with owner := .command }) t.unacked
           waiting := mapWhere (fun (o : OutPacket) => decide (o.owner = a)) (fun o => { o with owner := .command }) t.waiting }

theorem Stream.busy.freed {k : Stream} (h : k.busy) (a : Actor) : (k.freed a).busy :=
  h.imp_left fun hk => by simpa [Stream.freed, mapWhere] using hk

theorem endOwner_eq (s : State) (a : Actor) (status : Nat) : endOwner s a status =
    { failOwner s a status with fabric := { (failOwner s a status).fabric with
      streams := smMap {} (fun _ t => t.freed a) (failOwner s a status).fabric.streams } } := rfl

theorem fails_endOwner (h : Fails s t) (a : Actor) (status : Nat) : Fails s (endOwner t a status) := fails_failOwner h a status

theorem endOwner_busy {n : Nat} (h : (s.stream n).busy) (a : Actor) (status : Nat) : ((endOwner s a status).stream n).busy := by
  have hread : (endOwner s a status).stream n = (s.stream n).freed a := by
    rw [endOwner_eq]
    show smGet {} (smMap {} (fun _ t => Stream.freed t a) (failOwner s a status).fabric.streams) n = _
    rw [failOwner_streams]
    exact smGet_smMap_ne (f := fun _ t => Stream.freed t a) h.ne (h.freed a).ne
  rw [hread]
  exact h.freed a

theorem endOwners_each {P : State → Prop} (hP : ∀ t a status, P t → P (endOwner t a status)) (h : P s) (ps : List OutPacket) (status : Nat) :
    P (endOwners s ps status) :=
  List.foldlRecOn (motive := P) _ _ h fun t ht a _ => by
    split
    · exact ht
    · exact hP t a status ht

theorem fails_endOwners (h : Fails s t) (ps : List OutPacket) (status : Nat) : Fails s (endOwners t ps status) :=
  endOwners_each (P := Fails s) (fun _ a st h => fails_endOwner h a st) h ps status

/-- The packets behind a RESYNC that fails are dropped. -/
theorem dropWaiting_drops {n : Nat} (h : (s.stream n).busy) (status : Nat) : ((dropWaiting s n status).stream n).waiting = [] ∧
    (dropWaiting s n status).rel = s.rel := by
  have hbusy := endOwners_each (P := fun t => (t.stream n).busy) (fun t a st h => endOwner_busy h a st) h (s.stream n).waiting status
  have hfails := fails_endOwners (s := s) (t := s) rfl (s.stream n).waiting status
  unfold dropWaiting
  dsimp only
  generalize endOwners s (s.stream n).waiting status = t at hbusy hfails ⊢
  refine ⟨?_, hfails.rel⟩
  rw [stream_setStream (Stream.busy.ne (k := { t.stream n with waiting := [] }) hbusy)]

/-- An abandoned stream: nothing of it is out, and RESYNC will follow (R280). -/
theorem abandonStream_abandons (s : State) (n : Nat) : ((abandonStream s n).stream n).unacked = [] ∧
    ((abandonStream s n).stream n).resyncing = true ∧ (abandonStream s n).rel = s.rel := by
  have hdrop {t : State} (h : Fails s t) : Fails s (dropWaiting t n stUnreachable) := fails_endOwners h ..
  have hrefl : Fails s s := rfl
  have hfails : Fails s (if (s.stream n).resync.isSome then dropWaiting (endOwners s (s.stream n).unacked stUnreachable) n stUnreachable
      else endOwners s (s.stream n).unacked stUnreachable) := by
    split
    · exact hdrop (fails_endOwners hrefl ..)
    · exact fails_endOwners hrefl ..
  unfold abandonStream
  dsimp only
  generalize (if (s.stream n).resync.isSome = true then dropWaiting (endOwners s (s.stream n).unacked stUnreachable) n stUnreachable
      else endOwners s (s.stream n).unacked stUnreachable) = t at hfails ⊢
  rw [stream_setStream (Stream.ne_of_begun rfl)]
  exact ⟨rfl, rfl, hfails.rel⟩

theorem outPacket_busy {n : Nat} {tag : BitVec 32} {o : OutPacket} (h : s.outPacket n tag = some o) : (s.stream n).busy := by
  have hmem := List.mem_of_find?_eq_some h
  rcases List.mem_append.1 hmem with hm | hm
  · exact .inl (List.ne_nil_of_mem hm)
  · refine .inr fun hnone => ?_
    rw [hnone] at hm
    cases hm

/-- An instruction that ends takes the status. -/
theorem endOwner_found {u : UnitKind} {g : CoreId} {q : BitVec 64} {e : WinEntry} (hf : findEntry (s.unitOf u g).window q = some e)
    (hany : ((s.core g).unit u).window.any (fun e => decide (e.seq = q) && (decide (e.status = 0) || decide (e.status = 1))) = true) (status : Nat) :
    ∃ e', findEntry ((endOwner s (.core u g q) status).unitOf u g).window q = some e' ∧ e'.status = BitVec.ofNat 16 status := by
  have hcores : (endOwner s (.core u g q) status).cores = (s.modEntry u g q (fun e => { e with status := BitVec.ofNat 16 status })).cores := by
    rw [endOwner_eq]
    unfold failOwner
    dsimp only
    rw [if_pos hany]
    split <;> rfl
  rw [unitOf_congr hcores]
  exact ⟨_, (modEntry_found hf fun _ => by exact rfl).2, rfl⟩

/-! #### What a fault leaves of the units -/

/-- The rings of every unit stand. -/
def Units (s t : State) : Prop := ∀ u g, t.unitOf u g = s.unitOf u g

theorem units_of_cores (h : Units s t) {u : State} (hc : u.cores = t.cores) : Units s u := fun v g => by
  rw [← h v g]
  unfold State.unitOf State.core
  rw [hc]

theorem units_line (h : Units s t) (g) : Units s (t.setCore g { t.core g with line := true }) := fun u k => by
  have hne : ({ t.core g with line := true } : Core) ≠ {} := fun hd => by
    have hline := congrArg Core.line hd
    cases hline
  rw [← h u k]
  unfold State.unitOf
  by_cases hk : k = g
  · subst hk
    rw [State.core_setCore hne]
    cases u <;> rfl
  · have hcore : (t.setCore g { t.core g with line := true }).core k = t.core k := smGet_smSet_ne_other hne _ hk
    rw [hcore]

theorem units_deliver (h : Units s t) (d) : Units s (deliver t d) := by
  have hdests (m : SMap IrqDest) : Units s { t with dests := m } := units_of_cores h rfl
  unfold deliver
  dsimp only
  split
  · exact units_of_cores (hdests _) (congrArg State.cores (sendIntr_frame _ _) :)
  · split
    · exact units_line (hdests _) _
    · exact hdests _

theorem units_mk (h : Units s t) {pending out draws clkc device mem slotMap spares counters syncFaults tailDiscards signals addends
    contexts queueObjs training fabric coll drinex dict sources dests rel sec meter power} :
    Units s (State.mk pending out draws clkc device mem t.cores slotMap spares counters syncFaults tailDiscards signals addends contexts
      queueObjs training fabric coll drinex dict sources dests rel sec meter power) := fun u g => h u g

theorem units_destEvent (h : Units s t) (d) : Units s (destEvent t d) := by
  unfold destEvent deliverIfDue
  grind [units_deliver, units_mk]

theorem units_raise (h : Units s t) (n) : Units s (raise t n) := by
  unfold raise
  grind [units_destEvent, units_mk]

theorem units_emcy (h : Units s t) (code unit) : Units s (emcy t code unit) :=
  units_of_cores h (congrArg State.cores (emcy_frame t code unit) :)

theorem units_writeRecord (h : Units s t) (n v w) : Units s (writeRecord t n v w) := by
  unfold writeRecord
  grind [units_raise, units_emcy, units_mk]

theorem units_fault (h : Units s t) (n) : Units s (fault t n) := by
  unfold fault
  grind [units_writeRecord, units_raise, units_mk]

/-! #### NACKs (R279, R280) -/

/-- The state in which a NACK with a reason is counted. -/
def State.nackCounted (s : State) (reason : Nat) : State := { s with fabric := { s.fabric with nacks := smMod 0 s.fabric.nacks reason (satAdd · 1) } }

/-- The status that a NACK ends an owner with. -/
def nackStatus (reason : Nat) : Nat := if reason = 4 then stData else stUnreachable

theorem takeNack_eq {n reason : Nat} {tag : BitVec 32} {p : OutPacket} (h : s.outPacket n tag = some p) : takeNack s n tag reason =
    let s := s.nackCounted reason
    if reason = 5 then { s with fabric := { s.fabric with
      retryAfter := s.fabric.retryAfter.filter (fun r => decide (r ≠ (BitVec.ofNat 14 n, tag))) ++ [(BitVec.ofNat 14 n, tag)] } }
    else
      let s := nackFault s n reason tag p.owner
      if reason = 7 then abandonStream s n
      else if p.typ = 0x0E then dropWaiting s n (nackStatus reason)
      else if p.owner = .command then s
      else endOwner s p.owner (nackStatus reason) := by
  have h' : (s.nackCounted reason).outPacket n tag = some p := h
  unfold takeNack
  dsimp only
  rw [show State.outPacket { s with fabric := { s.fabric with nacks := smMod 0 s.fabric.nacks reason (satAdd · 1) } } n tag = some p from h']
  rfl

/-- The fault of a NACK is recorded, and the streams and units stay. -/
theorem nackFault_records (s : State) (n key : Nat) (tag : BitVec 32) (a : Actor) :
    (nackFault s n key tag a).rel.recordCount = s.rel.recordCount + 1 ∧ (nackFault s n key tag a).fabric = s.fabric ∧
    Units s (nackFault s n key tag a) := by
  have hcls : (s.noteOf a { sev := 3, cls := 7, key := key, syn := leBytes 2 n ++ leBytes 4 tag.toNat }).cls ≠ 1 := by
    unfold State.noteOf
    split <;> (show (7 : Nat) ≠ 1; decide)
  exact ⟨(fault_recorded hcls).1, (reports_fault (reports_refl s) _).fabric, units_fault (fun _ _ => rfl) _⟩

theorem stream_of_fabric (h : t.fabric = s.fabric) (n : Nat) : t.stream n = s.stream n := by
  unfold State.stream
  rw [h]

section
variable {n : Nat} {tag : BitVec 32} {p : OutPacket} (hp : s.outPacket n tag = some p)

include hp

theorem takeNack_retry : (takeNack s n tag 5).fabric.retryAfter.contains (BitVec.ofNat 14 n, tag) = true ∧
    (takeNack s n tag 5).stream n = s.stream n := by
  rw [takeNack_eq hp]
  dsimp only
  rw [if_pos rfl]
  exact ⟨by simp, rfl⟩

theorem takeNack_abandons : ((takeNack s n tag 7).stream n).unacked = [] ∧ ((takeNack s n tag 7).stream n).resyncing = true := by
  rw [takeNack_eq hp]
  dsimp only
  rw [if_neg (by decide), if_pos rfl]
  obtain ⟨hunacked, hresyncing, -⟩ := abandonStream_abandons (nackFault (s.nackCounted 7) n 7 tag p.owner) n
  exact ⟨hunacked, hresyncing⟩

theorem takeNack_resync {reason : Nat} (htyp : p.typ = 0x0E) (h5 : reason ≠ 5) (h7 : reason ≠ 7) :
    ((takeNack s n tag reason).stream n).waiting = [] ∧ (takeNack s n tag reason).rel.recordCount = s.rel.recordCount + 1 := by
  obtain ⟨hcount, hfab, -⟩ := nackFault_records (s.nackCounted reason) n reason tag p.owner
  have hbusy : ((nackFault (s.nackCounted reason) n reason tag p.owner).stream n).busy := by
    rw [stream_of_fabric hfab]
    exact outPacket_busy hp
  obtain ⟨hwaiting, hrel⟩ := dropWaiting_drops hbusy (nackStatus reason)
  rw [takeNack_eq hp]
  dsimp only
  rw [if_neg h5, if_neg h7, if_pos htyp]
  exact ⟨hwaiting, by rw [hrel]; exact hcount⟩

/-- An instruction whose packet is refused ends with its status. -/
theorem takeNack_ends {reason : Nat} (htyp : p.typ ≠ 0x0E) (h5 : reason ≠ 5) (h7 : reason ≠ 7) {u : UnitKind} {g : CoreId} {q : BitVec 64}
    {e : WinEntry} (howner : p.owner = .core u g q) (hf : findEntry (s.unitOf u g).window q = some e) (hst : e.status = 0) :
    (takeNack s n tag reason).rel.recordCount = s.rel.recordCount + 1 ∧
    ∃ e', findEntry ((takeNack s n tag reason).unitOf u g).window q = some e' ∧ e'.status = BitVec.ofNat 16 (nackStatus reason) := by
  obtain ⟨hcount, -, hunits⟩ := nackFault_records (s.nackCounted reason) n reason tag p.owner
  rw [takeNack_eq hp]
  dsimp only
  rw [if_neg h5, if_neg h7, if_neg htyp, if_neg (by rw [howner]; simp)]
  rw [howner] at hcount hunits ⊢
  have hunit : (nackFault (s.nackCounted reason) n reason tag (.core u g q)).unitOf u g = s.unitOf u g := hunits u g
  generalize nackFault (s.nackCounted reason) n reason tag (.core u g q) = t at hcount hunit ⊢
  refine ⟨?_, ?_⟩
  · rw [(fails_endOwner (s := t) rfl (.core u g q) (nackStatus reason)).rel]
    exact hcount
  · rw [← hunit] at hf
    have hany : ((t.core g).unit u).window.any (fun e => decide (e.seq = q) && (decide (e.status = 0) || decide (e.status = 1))) = true :=
      List.any_eq_true.2 ⟨e, findEntry_mem hf, by simp [findEntry_seq hf, hst]⟩
    exact endOwner_found hf hany _

end

/-! #### Packets sent again (R277, R278, R280) -/

theorem drainPort_streams (n : Nat) (s : State) (p : Nat) : (drainPort n s p).fabric.streams = s.fabric.streams := by
  induction n generalizing s with
  | zero => rfl
  | succ n ih =>
    unfold drainPort
    dsimp only
    split
    · rfl
    · exact (ih _).trans rfl

theorem portSend_streams (s : State) (p : Nat) (pkt : Packet) :
    (portSend s p pkt).fabric.streams = s.fabric.streams := drainPort_streams ..

theorem stream_of_streams (h : t.fabric.streams = s.fabric.streams) (n : Nat) : t.stream n = s.stream n := by
  unfold State.stream
  rw [h]

/-- The packet that goes out. -/
def State.packetTo (s : State) (dst typ : Nat) (tag : BitVec 32) (address : Nat) (payload : Bytes) (tail again trunc : Bool) (port : Nat) : Packet :=
  Packet.sealed
    { port := Fin.ofNat 64 port, typ := BitVec.ofNat 6 typ, vc := BitVec.ofNat 2 (vcOf typ), tail := tail, retransmit := again
      units := BitVec.ofNat 6 (payload.length / 8), dst := BitVec.ofNat 14 dst, src := BitVec.ofNat 14 s.me, tag := tag
      address := BitVec.ofNat 48 address, payload := payload, crc := 0, symbols := 0, trunc := trunc }

/-- A packet that goes out on a plane turns the rotation of its stream (R277). -/
def State.emittedOn (s : State) (k dst typ : Nat) (tag : BitVec 32) (address : Nat) (payload : Bytes) (tail again trunc : Bool) : State :=
  portSend (s.setStream dst { s.stream dst with rotor := k }) (choosePort s.fabric k (vcOf typ))
    (s.packetTo dst typ tag address payload tail again trunc (choosePort s.fabric k (vcOf typ)))

theorem emitPacket_eq (s : State) (dst typ : Nat) (tag : BitVec 32) (address : Nat) (payload : Bytes) (tail again : Bool) (avoid : List Nat) (trunc : Bool) :
    emitPacket s dst typ tag address payload tail again avoid trunc =
      if s.fabric.moduleId = some (BitVec.ofNat 14 dst) then (s.send (.selfPacket (s.packetTo dst typ tag address payload tail again trunc 0)), 8)
      else match nextPlane s.fabric (avoid ++ (s.stream dst).unreachable) 8 (s.stream dst).rotor with
        | some k => (s.emittedOn k dst typ tag address payload tail again trunc, k)
        | none => match nextPlane s.fabric (s.stream dst).unreachable 8 (s.stream dst).rotor with
          | some k => (s.emittedOn k dst typ tag address payload tail again trunc, k)
          | none => (s, 9) := rfl

/-- A packet to another module on the next plane that it may take. -/
theorem emitPacket_next {dst k : Nat} {avoid : List Nat} (hother : s.fabric.moduleId ≠ some (BitVec.ofNat 14 dst))
    (hk : nextPlane s.fabric (avoid ++ (s.stream dst).unreachable) 8 (s.stream dst).rotor = some k) (typ : Nat) (tag : BitVec 32) (address : Nat)
    (payload : Bytes) (tail again trunc : Bool) : emitPacket s dst typ tag address payload tail again avoid trunc =
      (s.emittedOn k dst typ tag address payload tail again trunc, k) := by
  rw [emitPacket_eq, if_neg hother, hk]

theorem nextPlane_lt {f : Fabric} {bad : List Nat} {n r k : Nat} (h : nextPlane f bad n r = some k) : k < 8 := by
  induction n generalizing r with
  | zero => cases h
  | succ n ih =>
    unfold nextPlane at h
    dsimp only at h
    split at h
    · have hk := Option.some.inj h
      omega
    · exact ih h

/-- What the stream is once a packet has gone out on a plane. -/
theorem emittedOn_stream (s : State) {k dst : Nat} (hk :
    ({ s.stream dst with rotor := k } : Stream) ≠ {}) (typ : Nat) (tag : BitVec 32) (address : Nat)
    (payload : Bytes) (tail again trunc : Bool) :
    (s.emittedOn k dst typ tag address payload tail again trunc).stream dst = { s.stream dst with rotor := k } := by
  unfold State.emittedOn
  rw [stream_of_streams (portSend_streams ..), stream_setStream hk]

theorem emittedOn_wf (hs : smWf {} s.fabric.streams = true) (k dst typ : Nat) (tag : BitVec 32) (address : Nat) (payload : Bytes)
    (tail again trunc : Bool) : (s.emittedOn k dst typ tag address payload tail again trunc).stream dst = { s.stream dst with rotor := k } ∧
    smWf {} (s.emittedOn k dst typ tag address payload tail again trunc).fabric.streams = true := by
  unfold State.emittedOn
  refine ⟨?_, ?_⟩
  · rw [stream_of_streams (portSend_streams ..), stream_setStream_wf hs]
  · rw [portSend_streams]
    exact smWf_smSet hs ..

/-- A packet that goes out leaves the planes that its stream avoids. -/
theorem emitPacket_unreachable {dst : Nat} (h : (s.stream dst).unreachable ≠ []) (typ : Nat) (tag : BitVec 32) (address : Nat)
    (payload : Bytes) (tail again : Bool) (avoid : List Nat) (trunc : Bool) :
    ((emitPacket s dst typ tag address payload tail again avoid trunc).1.stream dst).unreachable = (s.stream dst).unreachable := by
  have hgo (k : Nat) : ((s.emittedOn k dst typ tag address payload tail again trunc).stream dst).unreachable = (s.stream dst).unreachable := by
    rw [emittedOn_stream s (k := k) fun hd => h (congrArg Stream.unreachable hd)]
  rw [emitPacket_eq]
  split
  · rfl
  · split
    · exact hgo _
    · split
      · exact hgo _
      · rfl

/-- The packet of a tag is marked as sent again on its plane. -/
def Stream.moved (t : Stream) (tag : BitVec 32) (k : Nat) (now : BitVec 64) : Stream :=
  let f (o : OutPacket) : OutPacket := if o.tag = tag then { o with plane := k, resent := true } else o
  { t with unacked := t.unacked.map f, resync := t.resync.map f, last := now }

/-- The packet of a tag, once it is marked. -/
theorem moved_find? {t : Stream} {tag : BitVec 32} {k : Nat} {now : BitVec 64} {o : OutPacket}
    (h : (t.unacked ++ t.resync.toList).find? (fun p => decide (p.tag = tag)) = some o) :
    ((t.moved tag k now).unacked ++ (t.moved tag k now).resync.toList).find? (fun p => decide (p.tag = tag)) =
      some { o with plane := k, resent := true } := by
  have htag : o.tag = tag := by simpa using List.find?_some h
  have hlist : (t.moved tag k now).unacked ++ (t.moved tag k now).resync.toList = (t.unacked ++ t.resync.toList).map
      (fun o => if o.tag = tag then { o with plane := k, resent := true } else o) := by
    unfold Stream.moved
    dsimp only
    cases t.resync <;> simp
  have hkeep : (fun p : OutPacket => decide (p.tag = tag)) ∘ (fun o => if o.tag = tag then { o with plane := k, resent := true } else o) =
      fun p => decide (p.tag = tag) := by
    funext p
    by_cases hp : p.tag = tag <;> simp [hp]
  rw [hlist, List.find?_map, hkeep, h]
  exact congrArg some (if_pos htag)

theorem resend_eq {n : Nat} {tag : BitVec 32} {p : OutPacket} (h : s.outPacket n tag = some p) : resend s n tag =
    let r := emitPacket s n p.typ.toNat tag p.address.toNat p.payload p.tail true [p.plane] p.trunc
    if r.2 = 9 then r.1
    else
      let t := r.1.setStream n ((r.1.stream n).moved tag r.2 r.1.clkc)
      { t with fabric := { t.fabric with retransmits := satAdd t.fabric.retransmits 1 } } := by
  unfold resend
  rw [h]
  rfl

theorem resend_none {n : Nat} {tag : BitVec 32} (h : s.outPacket n tag = none) : resend s n tag = s := by
  unfold resend
  rw [h]

/-- A packet that is sent again, or cannot be, leaves memory and the planes that its stream avoids. -/
theorem resend_unreachable {n : Nat} (h : (s.stream n).unreachable ≠ []) (tag : BitVec 32) :
    ((resend s n tag).stream n).unreachable = (s.stream n).unreachable ∧ (resend s n tag).mem = s.mem := by
  cases hout : s.outPacket n tag with
  | none => rw [resend_none hout]; exact ⟨rfl, rfl⟩
  | some p =>
    have hkeep := emitPacket_unreachable h p.typ.toNat tag p.address.toNat p.payload p.tail true [p.plane] p.trunc
    have hmem := (emits_emitPacket (emits_refl s) n p.typ.toNat tag p.address.toNat p.payload p.tail true [p.plane] p.trunc).mem
    rw [resend_eq hout]
    dsimp only
    generalize emitPacket s n p.typ.toNat tag p.address.toNat p.payload p.tail true [p.plane] p.trunc = r at hkeep hmem ⊢
    split
    · exact ⟨hkeep, hmem⟩
    · refine ⟨?_, hmem⟩
      have hset : (r.1.setStream n ((r.1.stream n).moved tag r.2 r.1.clkc)).stream n = (r.1.stream n).moved tag r.2 r.1.clkc :=
        stream_setStream fun hd => h (hkeep.symm.trans (congrArg Stream.unreachable hd))
      exact (congrArg Stream.unreachable hset).trans hkeep

/-- What a packet sent again leaves: it is out on its new plane (R278). -/
theorem resend_moves (hs : smWf {} s.fabric.streams = true) {n : Nat} {tag : BitVec 32} {o : OutPacket} {k : Nat} (hout : s.outPacket n tag = some o)
    (hother : s.fabric.moduleId ≠ some (BitVec.ofNat 14 n)) (hk : nextPlane s.fabric ([o.plane] ++ (s.stream n).unreachable) 8 (s.stream n).rotor = some k) :
    (resend s n tag).outPacket n tag = some { o with plane := k, resent := true } ∧
    (resend s n tag).fabric.retransmits = satAdd s.fabric.retransmits 1 ∧ (resend s n tag).mem = s.mem ∧
    (resend s n tag).fabric.retryAfter = s.fabric.retryAfter := by
  have hr := replies_emitPacket (replies_refl s) n o.typ.toNat tag o.address.toNat o.payload o.tail true [o.plane] o.trunc
  have hne : k ≠ 9 := Nat.ne_of_lt (Nat.lt_trans (nextPlane_lt hk) (by decide))
  rw [resend_eq hout]
  rw [emitPacket_next hother hk] at hr ⊢
  obtain ⟨hstream, hwf⟩ := emittedOn_wf hs k n o.typ.toNat tag o.address.toNat o.payload o.tail true o.trunc
  dsimp only at hr ⊢
  rw [if_neg hne]
  generalize s.emittedOn k n o.typ.toNat tag o.address.toNat o.payload o.tail true o.trunc = t at hr hstream hwf ⊢
  have hset : (t.setStream n ((t.stream n).moved tag k t.clkc)).stream n = (t.stream n).moved tag k t.clkc := stream_setStream_wf hwf ..
  refine ⟨?_, ?_, hr.emits.mem, (congrArg (fun u : State => u.fabric.retryAfter) hr :)⟩
  · show (((t.setStream n ((t.stream n).moved tag k t.clkc)).stream n).unacked ++
      ((t.setStream n ((t.stream n).moved tag k t.clkc)).stream n).resync.toList).find? (fun p => decide (p.tag = tag)) = _
    rw [hset, hstream]
    exact moved_find? hout
  · exact congrArg (satAdd · 1) (congrArg (fun u : State => u.fabric.retransmits) hr :)

/-- A packet that finds its port's queue empty, and its credits there, goes out at once (R269). -/
theorem portSend_sends (hp : smWf {} s.fabric.ports = true) {p : Nat} {pkt : Packet} (hq : (s.port p).queue = [])
    (hcost : pkt.cost ≤ (s.port p).credits.getD pkt.vc.toNat 0) : (portSend s p pkt).out = .packet pkt :: s.out := by
  obtain ⟨u, hu⟩ : ∃ u : State, { s with fabric := { s.fabric with
    ports := smSet {} s.fabric.ports p { s.port p with queue := (s.port p).queue ++ [pkt] } } } = u := ⟨_, rfl⟩
  have hport : u.port p = { s.port p with queue := (s.port p).queue ++ [pkt] } := by
    rw [← hu]
    exact (smGet_smSet hp ..).trans (if_pos rfl)
  have hwf : smWf {} u.fabric.ports = true := by rw [← hu]; exact smWf_smSet hp ..
  have hsent := (drainPort_sends hwf (p := p) (q := pkt) (by rw [hport, hq]; rfl) (by rw [hport]; exact hcost)).2.2.2
  unfold portSend
  dsimp only
  rw [hu, hq]
  refine hsent.trans ?_
  rw [← hu]

/-- RESYNC goes out with the next tag, on the port of its plane whose credits it takes (R269, R280). -/
theorem beginStream_resyncs (hs : s.wf = true) {dst : BitVec 14} {k : Nat} (hother : s.fabric.moduleId ≠ some dst)
    (hk : nextPlane s.fabric (s.stream dst.toNat).unreachable 8 (s.stream dst.toNat).rotor = some k)
    (hq : (s.port (choosePort s.fabric k 0)).queue = []) (hcredit : 0 < (s.port (choosePort s.fabric k 0)).credits.getD 0 0) (a : Actor) :
    (∃ pk, (beginStream s dst.toNat a).out = .packet pk :: s.out ∧ pk.typ = 0x0E ∧ pk.tag = (s.stream dst.toNat).next ∧ pk.dst = dst) ∧
    ∃ o, ((beginStream s dst.toNat a).stream dst.toNat).resync = some o ∧ o.tag = (s.stream dst.toNat).next ∧ o.typ = 0x0E := by
  have hports : smWf {} s.fabric.ports = true := (State.wf_iff.1 hs).2.2.2.2.2.2.2.1
  have hdst : BitVec.ofNat 14 dst.toNat = dst := by simp
  obtain ⟨pkt, hpkt⟩ : ∃ pkt, s.packetTo dst.toNat 0x0E (s.stream dst.toNat).next 0 [] false false false (choosePort s.fabric k 0) = pkt := ⟨_, rfl⟩
  have hemit : emit s dst.toNat 0x0E (s.stream dst.toNat).next 0 [] false =
      (portSend (s.setStream dst.toNat { s.stream dst.toNat with rotor := k }) (choosePort s.fabric k 0) pkt, k) := by
    rw [← hpkt]
    exact emitPacket_next (avoid := []) (by rw [hdst]; exact hother) hk 0x0E _ 0 [] false false false
  have hcost : pkt.cost = 1 := by
    rw [← hpkt]
    show ceilDiv (20 + ([] : Bytes).length) 64 = 1
    decide
  have hvc : pkt.vc = 0 := by rw [← hpkt]; rfl
  have hout := portSend_sends (s := s.setStream dst.toNat { s.stream dst.toNat with rotor := k }) (pkt := pkt) hports hq
    (by rw [hcost, hvc]; exact hcredit)
  unfold beginStream
  dsimp only
  rw [hemit]
  dsimp only
  refine ⟨⟨pkt, hout, ?_, ?_, ?_⟩, ?_⟩
  · rw [← hpkt]; rfl
  · rw [← hpkt]; rfl
  · rw [← hpkt]; exact hdst
  · rw [stream_setStream (Stream.ne_of_begun rfl)]
    exact ⟨_, rfl, rfl, rfl⟩

theorem tracker_setTracker_wf (hs : smWf {} s.fabric.trackers = true) (n m : Nat) (k : Tracker) :
    (s.setTracker n k).tracker m = if m = n then k else s.tracker m := smGet_smSet hs n m k

/-! #### Responses, acknowledgements and reports as they arrive -/

section
variable {p : Packet}

theorem TakenIn.idle (h : TakenIn s t) {n : Nat} (hi : StreamIdle s n = true) : StreamIdle t n = true := by
  unfold StreamIdle at hi ⊢
  rwa [h.stream]

theorem loadRsp_eq (harr : Arrives s p 2 = true) {o : OutPacket} (hout : s.outPacket p.src.toNat p.tag = some o) (htyp : o.typ = 1) :
    exec (.loadRsp p) s = .next (if (pktBody p).length ≠ roundUp (leAt o.payload 0 2 % 512) 8 then
        { s.arrived p with fabric := { (s.arrived p).fabric with crcDiscards := satAdd (s.arrived p).fabric.crcDiscards 1 } }
      else ackPackets (takeLoad (s.arrived p) o (pktBody p)) p.src.toNat (fun k => decide (k.tag = p.tag))) := by
  show execLoadRsp p s = _
  unfold execLoadRsp
  rw [withPacket_arrives harr, (takenIn_arrived s p).outPacket, hout]
  dsimp only
  by_cases hlen : (pktBody p).length ≠ roundUp (leAt o.payload 0 2 % 512) 8
  · rw [if_pos ⟨htyp, hlen⟩, if_pos hlen]
  · rw [if_neg fun h => hlen h.2, if_pos htyp, if_neg hlen]

theorem loadRsp_stores (harr : Arrives s p 2 = true) (hidle : StreamIdle s p.src.toNat = true) {o : OutPacket} {m : Memory}
    (hout : s.outPacket p.src.toNat p.tag = some o) (htyp : o.typ = 1) (hdest : o.dest < 2 ^ 48)
    (hlen : (pktBody p).length = roundUp (leAt o.payload 0 2 % 512) 8)
    (hw : writeMem (s.arrived p) (s.arrived p).mem (loadCluster o.owner) o.dest ((pktBody p).take (leAt o.payload 0 2)) = (m, none)) :
    exec (.loadRsp p) s = .next ({ s.arrived p with mem := m }.setStream p.src.toNat
      ((s.stream p.src.toNat).acked (fun k => decide (k.tag = p.tag)))) := by
  have ha := takenIn_arrived s p
  rw [loadRsp_eq harr hout htyp, if_neg (not_not.2 hlen), takeLoad_stores hdest hw, ackPackets_idle (by exact ha.idle hidle), ← ha.stream]
  rfl

/-- Packets that a response or an acknowledgement frees. -/
theorem acked_frees {n : Nat} {q : OutPacket → Bool} {P : OutPacket → Prop} (hidle : StreamIdle s n = true) (ht : TakenIn s t)
    (hP : ∀ o, q o = true ↔ P o) : (∀ o, o ∈ ((ackPackets t n q).stream n).unacked ↔ o ∈ (s.stream n).unacked ∧ ¬P o) ∧
    (ackPackets t n q).mem = s.mem := by
  obtain ⟨hstream, hmem⟩ := ackPackets_acks (ht.idle hidle) q
  refine ⟨fun o => ?_, hmem.trans ht.mem⟩
  rw [hstream, mem_acked, ht.stream, hP]

/-- The stream that an acknowledgement of its next tag ends the resynchronisation of (R280). -/
def State.resynchronised (s : State) (n : Nat) (cum : BitVec 32) : State :=
  if (s.stream n).resyncing && decide (cum = (s.stream n).next) then
    let s := s.setStream n { s.stream n with resyncing := false, resync := none }
    { s with fabric := { s.fabric with resyncs := satAdd s.fabric.resyncs 1 } }
  else s

theorem resynchronised_stream {n : Nat} (hbegun : (s.stream n).begun = true) (cum : BitVec 32) :
    (s.resynchronised n cum).stream n = (if (s.stream n).resyncing && decide (cum = (s.stream n).next) then
      { s.stream n with resyncing := false, resync := none } else s.stream n) ∧ (s.resynchronised n cum).mem = s.mem := by
  unfold State.resynchronised
  dsimp only
  split
  · exact ⟨stream_setStream (k := { s.stream n with resyncing := false, resync := none }) (Stream.ne_of_begun hbegun), rfl⟩
  · exact ⟨rfl, rfl⟩

/-- An acknowledgement of an idle stream. -/
theorem ack_acks (hidle : StreamIdle s p.src.toNat = true) {cum : BitVec 32} {q : OutPacket → Bool} (ht : TakenIn s t) :
    let st := s.stream p.src.toNat
    let u := ackPackets (t.resynchronised p.src.toNat cum) p.src.toNat q
    (∀ o, o ∈ (u.stream p.src.toNat).unacked ↔ o ∈ st.unacked ∧ ¬q o = true) ∧
    (u.stream p.src.toNat).resyncing = (st.resyncing && !(decide (cum = st.next))) ∧
    (st.resyncing = true → cum = st.next → (u.stream p.src.toNat).resync = none) ∧ u.mem = s.mem := by
  have hidle' := ht.idle hidle
  unfold StreamIdle at hidle'
  simp only [Bool.and_eq_true, List.isEmpty_iff] at hidle'
  obtain ⟨hbegun, hwaiting⟩ := hidle'
  obtain ⟨hstream, hmem⟩ := resynchronised_stream hbegun cum
  have hidle'' : StreamIdle (t.resynchronised p.src.toNat cum) p.src.toNat = true := by
    unfold StreamIdle
    rw [hstream]
    split <;> simp [hbegun, hwaiting]
  obtain ⟨hacked, hackmem⟩ := ackPackets_acks hidle'' q
  rw [ht.stream] at hstream
  intro st u
  refine ⟨fun o => ?_, ?_, fun hres hcum => ?_, by rw [hackmem, hmem, ht.mem]⟩
  · rw [hacked, mem_acked, hstream]
    split <;> rfl
  · rw [hacked]
    show (State.stream _ _).resyncing = _
    rw [hstream]
    show (if (st.resyncing && decide (cum = st.next)) = true then { st with resyncing := false, resync := none } else st).resyncing = _
    cases hres : st.resyncing <;> by_cases hcum : cum = st.next <;> simp [hcum, hres]
  · rw [hacked]
    show (State.stream _ _).resync = _
    rw [hstream]
    exact congrArg Stream.resync (if_pos (by show (st.resyncing && decide (cum = st.next)) = true; simp [hres, hcum]))

/-- A NACK that arrives. -/
theorem nack_eq (harr : Arrives s p 0x0D = true) : exec (.nack p) s = .next (takeNack (s.arrived p) p.src.toNat p.tag (byteAt p.payload 0)) := by
  show execNack p s = _
  unfold execNack
  rw [withPacket_arrives harr]

/-- A plane that a switch reports is not used for the stream again (R278). -/
theorem routeFail_marks (harr : Arrives s p 0x0F = true) : Goes (exec (.routeFail p) s) (fun t =>
    (t.stream (leAt p.payload 2 2 % 2 ^ 14)).unreachable.contains (p.port.val / 8) = true ∧ t.mem = s.mem) := by
  have ha := takenIn_arrived s p
  obtain ⟨n, hn⟩ : ∃ n, leAt p.payload 2 2 % 2 ^ 14 = n := ⟨_, rfl⟩
  obtain ⟨u, hu⟩ : ∃ u, (if ((s.arrived p).stream n).unreachable.contains (p.port.val / 8) then s.arrived p
    else (s.arrived p).setStream n { (s.arrived p).stream n with unreachable := ((s.arrived p).stream n).unreachable ++ [p.port.val / 8] }) = u := ⟨_, rfl⟩
  have hmarked : (u.stream n).unreachable.contains (p.port.val / 8) = true ∧ u.mem = s.mem := by
    rw [← hu]
    split
    · exact ⟨‹_›, ha.mem⟩
    · rw [stream_setStream fun hd => by
        have := congrArg Stream.unreachable hd
        simp at this]
      exact ⟨by simp, ha.mem⟩
  obtain ⟨hkeep, hmem⟩ := resend_unreachable (s := u) (n := n) (fun h => by rw [h] at hmarked; cases hmarked.1) (BitVec.ofNat 32 (leAt p.payload 6 4))
  refine ⟨resend u n (BitVec.ofNat 32 (leAt p.payload 6 4)), ?_, ?_, hmem.trans hmarked.2⟩
  · show execRouteFail p s = _
    unfold execRouteFail
    rw [withPacket_arrives harr]
    dsimp only
    rw [hn, hu]
  · rw [hn, hkeep]
    exact hmarked.1

end

end

/-- Settles O27: responses and acknowledgements, NACKs by their reason, and packets sent again. -/
theorem streamsAreAcknowledgedAndResent : Obligations.StreamsAreAcknowledgedAndResent := by
  unfold Obligations.StreamsAreAcknowledgedAndResent
  refine ⟨fun s p => ?_, fun s dst hs => ?_⟩
  · dsimp only
    have ha := takenIn_arrived s p
    refine ⟨fun o m harr hidle hout htyp hdest hlen hw => ?_, fun o harr hout htyp hlen => ?_, fun harr hidle => ?_, fun harr hidle => ?_,
      fun harr hidle => ?_, fun o harr hout => ⟨fun hr => ?_, fun hr => ?_, fun htyp h5 h7 => ?_, fun htyp h5 h7 u g q e howner hf hst => ?_⟩,
      fun harr => ?_⟩
    · exact loadRsp_stores harr hidle hout htyp hdest hlen hw
    · rw [loadRsp_eq harr hout htyp, if_pos hlen]
    · exact ⟨_, (by show execAtomicRsp p s = _; unfold execAtomicRsp; rw [withPacket_arrives harr]), acked_frees hidle ha fun o => by simp⟩
    · exact ⟨_, (by show execDictRsp p s = _; unfold execDictRsp; rw [withPacket_arrives harr]), acked_frees hidle ha fun o => by simp⟩
    · have hacked := ack_acks hidle (cum := BitVec.ofNat 32 (leAt p.payload 0 4)) (q := fun o => decide (o.typ ≠ 1) && decide (o.typ ≠ 6) &&
        (decide ((o.tag - BitVec.ofNat 32 (leAt p.payload 0 4)).toNat ≥ 2 ^ 31) || (decide ((o.tag - BitVec.ofNat 32 (leAt p.payload 4 4)).toNat < 64) &&
          bitAt (leAt p.payload 8 8) (o.tag - BitVec.ofNat 32 (leAt p.payload 4 4)).toNat))) ha
      obtain ⟨hfreed, hrest⟩ := hacked
      refine ⟨_, (by show execAck p s = _; unfold execAck; rw [withPacket_arrives harr]; rfl), fun o => (hfreed o).trans ?_, hrest⟩
      simp [and_assoc]
    · obtain ⟨hretry, hstream⟩ := takeNack_retry (s := s.arrived p) ((ha.outPacket _ _).trans hout)
      refine ⟨_, nack_eq harr, ?_, ?_⟩
      · rw [hr]
        simpa using hretry
      · rw [hr, hstream, ha.stream]
    · refine ⟨_, nack_eq harr, ?_⟩
      rw [hr]
      exact takeNack_abandons ((ha.outPacket _ _).trans hout)
    · obtain ⟨hwaiting, hcount⟩ := takeNack_resync (s := s.arrived p) ((ha.outPacket _ _).trans hout) htyp h5 h7
      exact ⟨_, nack_eq harr, hwaiting, by rw [hcount, ha.rel]⟩
    · obtain ⟨hcount, e', hf', hst'⟩ := takeNack_ends (s := s.arrived p) ((ha.outPacket _ _).trans hout) htyp h5 h7 howner
        (by rw [unitOf_congr ha.cores]; exact hf) hst
      refine ⟨_, nack_eq harr, by rw [hcount, ha.rel], e', hf', hst'.trans ?_⟩
      unfold nackStatus
      split <;> rfl
    · exact routeFail_marks harr
  · have hstreams : smWf {} s.fabric.streams = true := (State.wf_iff.1 hs).2.2.2.2.2.2.2.2.1
    have htrackers : smWf {} s.fabric.trackers = true := (State.wf_iff.1 hs).2.2.2.2.2.2.2.2.2.1
    have hdst : BitVec.ofNat 14 dst.toNat = dst := by simp
    dsimp only
    refine ⟨fun tag o k hout hother hk => ⟨?_, fun hretry => ?_⟩, fun tag o hout => ?_,
      fun k hres hnone hother hk hq hcredit => ⟨_, congrArg Host.Outcome.next ((if_neg (by rw [hres]; decide)).trans (by rw [hnone])),
        beginStream_resyncs hs hother hk hq hcredit _⟩,
      fun o hres ho => congrArg Host.Outcome.next ((if_neg (by rw [hres]; decide)).trans (by rw [ho])),
      fun plane => ⟨_, rfl, stream_setStream_wf hstreams .., rfl⟩, fun hlive hfresh => ?_, fun _ => ⟨_, rfl, ?_, fun n hn => ?_, rfl⟩⟩
    · obtain ⟨hmoved, hcount, hmem, -⟩ := resend_moves hstreams hout (by rw [hdst]; exact hother) hk
      exact ⟨_, rfl, hmoved, hcount, hmem⟩
    · obtain ⟨hmoved, hcount, hmem, hretries⟩ := resend_moves
        (s := { s with fabric := { s.fabric with retryAfter := s.fabric.retryAfter.filter (fun r => decide (r ≠ (dst, tag))) } })
        hstreams hout (by rw [hdst]; exact hother) hk
      refine ⟨_, congrArg Host.Outcome.next (if_pos hretry), ⟨hmoved, hcount, hmem⟩, ?_⟩
      rw [hretries]
      exact contains_filter_self ..
    · obtain ⟨hcount, -, -⟩ := nackFault_records s dst.toNat 0x10 tag o.owner
      obtain ⟨hunacked, hresyncing, hrel⟩ := abandonStream_abandons (nackFault s dst.toNat 0x10 tag o.owner) dst.toNat
      refine ⟨abandonStream (nackFault s dst.toNat 0x10 tag o.owner) dst.toNat, ?_, hunacked, hresyncing, by rw [hrel]; exact hcount⟩
      show execFabricDeadline dst tag s = _
      unfold execFabricDeadline
      rw [hout]
    · have hack := replies_sendAck (replies_refl (s.setTracker dst.toNat { s.tracker dst.toNat with fresh := 0 })) dst.toNat
        ((s.tracker dst.toNat).cum - 1) (s.tracker dst.toNat).cum
      exact ⟨_, congrArg Host.Outcome.next (if_neg hfresh), (hack.tracker _).trans (tracker_setTracker hlive), hack.emits.mem⟩
    · rw [tracker_setTracker_wf htrackers, if_pos rfl]
    · rw [tracker_setTracker_wf htrackers, if_neg hn]

end Sys2Proof.Machine
end

section
/-! PROOFS. Phase flips and watched tiles (O23). -/

namespace Sys2Proof.Machine

/-! ### Phase flips and watched tiles (R256, R258 to R264) -/

/-! #### Rows carried to another core (R258) -/

section
variable {α : Type} [DecidableEq α] {d : α} {m l : SMap α} {lo : Nat}

theorem smGet_cons_same (d : α) (k : Nat) (v : α) (m : SMap α) : smGet d ((k, v) :: m) k = v := if_pos rfl

/-- The first entry of a table in canonical form is that of its key alone. -/
theorem smGet_cons_other {k x : Nat} {v : α} (h : smWfFrom d (k + 1) m = true) (hk : k ≠ x) : smGet d ((k, v) :: m) x = smGet d m x := by
  rw [smGet, if_neg hk]
  split
  · exact (smGet_of_wfFrom h (by omega)).symm
  · rfl

/-- What is left of a table in canonical form. -/
theorem smGet_filter (h : smWfFrom d lo m = true) (p : Nat × α → Bool) (x : Nat) :
    smGet d (m.filter p) x = if p (x, smGet d m x) = true then smGet d m x else d := by
  induction m generalizing lo with
  | nil => exact (ite_self _).symm
  | cons c m ih =>
    obtain ⟨k, v⟩ := c
    simp only [smWfFrom, Bool.and_eq_true, decide_eq_true_eq] at h
    obtain ⟨⟨-, -⟩, hm⟩ := h
    have hfilter := ih hm
    have hleft : smWfFrom d (k + 1) (m.filter p) = true := smWfFrom_filter p hm
    by_cases hkx : k = x
    · subst hkx
      simp only [smGet_cons_same]
      by_cases hk : p (k, v) = true
      · rw [List.filter_cons_of_pos hk, smGet_cons_same, if_pos hk]
      · rw [List.filter_cons_of_neg hk, smGet_of_wfFrom hleft (Nat.lt_succ_self k), if_neg hk]
    · simp only [smGet_cons_other hm hkx]
      by_cases hk : p (k, v) = true
      · rw [List.filter_cons_of_pos hk, smGet_cons_other hleft hkx, hfilter]
      · rw [List.filter_cons_of_neg hk, hfilter]

/-- A table whose entries are put into another one hides what was there. -/
theorem smGet_foldl_smSet (hl : smWfFrom d lo l = true) (hm : smWf d m = true) (x : Nat) :
    smGet d (l.foldl (fun m e => smSet d m e.1 e.2) m) x = if smGet d l x ≠ d then smGet d l x else smGet d m x := by
  induction l generalizing lo m with
  | nil => exact (if_neg (not_not.2 rfl)).symm
  | cons e l ih =>
    obtain ⟨k, v⟩ := e
    simp only [smWfFrom, Bool.and_eq_true, decide_eq_true_eq] at hl
    obtain ⟨⟨-, hv⟩, hrest⟩ := hl
    rw [List.foldl_cons, ih hrest (smWf_smSet hm ..)]
    by_cases hkx : k = x
    · subst hkx
      simp only [smGet_cons_same, smGet_of_wfFrom hrest (Nat.lt_succ_self k)]
      rw [if_neg (not_not.2 rfl), if_pos hv, smGet_smSet hm, if_pos rfl]
    · simp only [smGet_cons_other hrest hkx]
      rw [smGet_smSet hm, if_neg (Ne.symm hkx)]

theorem smWf_foldl_smSet (hm : smWf d m = true) (l : SMap α) : smWf d (l.foldl (fun m e => smSet d m e.1 e.2) m) = true :=
  List.foldlRecOn (motive := fun m : SMap α => smWf d m = true) _ _ hm fun _ h e _ => smWf_smSet h ..

end

/-- The rows that a table of tags names, with their entries of a skein. -/
def rowsOfTags (src : SMap Entry) (tags : SMap (BitVec 32)) : List (Nat × BitVec 32 × List (Nat × Entry)) :=
  tags.map (fun t => (t.1, t.2, src.filter (fun e => e.1 / 512 == t.1)))

theorem heldRows_eq (c : Core) : heldRows c = rowsOfTags c.skein (c.tags.filter (fun t => tagValid t.2)) := rfl

/-- The entry of a row that is put into a core. -/
theorem putRow_skein {c : Core} {src : SMap Entry} (hsrc : smWf {} src = true) (hc :
    smWf {} c.skein = true) (r : Nat) (tag : BitVec 32) (k : Nat) :
    smGet {} (putRow c (r, tag, src.filter (fun e => e.1 / 512 == r))).skein k =
      if k / 512 = r then smGet {} src k else smGet {} c.skein k := by
  have hother := smGet_filter_key hc (fun k => k / 512 != r) k
  have hrow := smGet_filter_key hsrc (fun k => k / 512 == r) k
  show smGet {} ((src.filter (fun e => e.1 / 512 == r)).foldl (fun m e => smSet {} m e.1 e.2) (c.skein.filter (fun e => e.1 / 512 != r))) k = _
  rw [smGet_foldl_smSet (smWfFrom_filter _ hsrc) (smWf_filter _ hc), hother, hrow]
  by_cases hk : k / 512 = r
  · simp only [hk, beq_self_eq_true, bne_self_eq_false, if_true, Bool.false_eq_true, if_false]
    split
    · rfl
    · next h => exact (not_not.1 h).symm
  · simp [hk]

/-- The core into which the rows of a table of tags are put. -/
structure PutRows (c c' : Core) (src : SMap Entry) (tags : SMap (BitVec 32)) : Prop where
  tagsWf : smWf 0#32 c'.tags = true
  skeinWf : smWf {} c'.skein = true
  tag : ∀ r, c'.tag r = if smGet 0#32 tags r ≠ 0#32 then smGet 0#32 tags r else c.tag r
  skein : ∀ k, smGet {} c'.skein k = if smGet 0#32 tags (k / 512) ≠ 0#32 then smGet {} src k else smGet {} c.skein k

theorem putRows_foldl {c : Core} {src : SMap Entry} {tags : SMap (BitVec 32)} {lo : Nat} (hsrc : smWf {} src = true)
    (htags : smWfFrom 0#32 lo tags = true) (hct : smWf 0#32 c.tags = true) (hcs : smWf {} c.skein = true) :
    PutRows c ((rowsOfTags src tags).foldl putRow c) src tags := by
  induction tags generalizing c lo with
  | nil => exact ⟨hct, hcs, fun r => (if_neg (not_not.2 rfl)).symm, fun k => (if_neg (not_not.2 rfl)).symm⟩
  | cons e tags ih =>
    obtain ⟨r, v⟩ := e
    simp only [smWfFrom, Bool.and_eq_true, decide_eq_true_eq] at htags
    obtain ⟨⟨-, hv⟩, hrest⟩ := htags
    obtain ⟨htwf, hswf, htag, hskein⟩ := ih (c := putRow c (r, v, src.filter (fun e => e.1 / 512 == r))) hrest (smWf_smSet hct ..)
      (smWf_foldl_smSet (smWf_filter _ hcs) _)
    refine ⟨htwf, hswf, fun q => (htag q).trans ?_, fun k => (hskein k).trans ?_⟩
    · have hput : (putRow c (r, v, src.filter (fun e => e.1 / 512 == r))).tag q = if q = r then v else c.tag q := smGet_smSet hct ..
      rw [hput]
      by_cases hq : r = q
      · subst hq
        simp only [smGet_cons_same, smGet_of_wfFrom hrest (Nat.lt_succ_self r)]
        rw [if_neg (not_not.2 rfl), if_pos trivial, if_pos hv]
      · simp only [smGet_cons_other hrest hq]
        rw [if_neg (Ne.symm hq)]
    · rw [putRow_skein hsrc hcs]
      by_cases hq : r = k / 512
      · subst hq
        simp only [smGet_cons_same, smGet_of_wfFrom hrest (Nat.lt_succ_self _)]
        rw [if_neg (not_not.2 rfl), if_pos trivial, if_pos hv]
      · simp only [smGet_cons_other hrest hq]
        rw [if_neg (Ne.symm hq)]

/-- The valid rows of a core stand on the core that takes them. -/
theorem heldRows_put {c e : Core} (hct : smWf 0#32 c.tags = true) (hcs : smWf {} c.skein = true) (het : smWf 0#32 e.tags = true)
    (hes : smWf {} e.skein = true) {r : Nat} (hr : tagValid (c.tag r) = true) : ((heldRows c).foldl putRow e).tag r = c.tag r ∧
      ∀ col < 512, smGet {} ((heldRows c).foldl putRow e).skein (r * 512 + col) = smGet {} c.skein (r * 512 + col) := by
  have hput := putRows_foldl (c := e) (src := c.skein) (tags := c.tags.filter (fun t => tagValid t.2)) hcs (smWf_filter _ hct) het hes
  have hkept : smGet 0#32 (c.tags.filter (fun t => tagValid t.2)) r = c.tag r := (smGet_filter hct _ r).trans (if_pos hr)
  have hne : c.tag r ≠ 0#32 := fun h => by rw [h] at hr; exact absurd hr (by decide)
  rw [heldRows_eq]
  refine ⟨(hput.tag r).trans ?_, fun col hcol => (hput.skein _).trans ?_⟩
  · simp only [hkept]
    exact if_pos hne
  · have hrow : (r * 512 + col) / 512 = r := by omega
    simp only [hrow, hkept]
    exact if_pos hne

theorem heldRows_ne_nil {c : Core} {r : Nat} (h : tagValid (c.tag r) = true) (hct : smWf 0#32 c.tags = true) : heldRows c ≠ [] := by
  intro hnil
  have hkept : smGet 0#32 (c.tags.filter (fun t => tagValid t.2)) r = c.tag r := (smGet_filter hct _ r).trans (if_pos h)
  have hempty : c.tags.filter (fun t => tagValid t.2) = [] := by
    rw [heldRows_eq] at hnil
    exact List.map_eq_nil_iff.1 hnil
  rw [hempty] at hkept
  have hzero : c.tag r = 0#32 := hkept.symm
  rw [hzero] at h
  exact absurd h (by decide)

/-! #### Flips of one module (R258, R259) -/

section
variable {s t : State} {x : Nat} {p : Plan} {q : Nat}

/-- A flip of the context under way: its record alone has changed. -/
structure FlipAt (s t : State) (x : Nat) (c : Context) : Prop where
  ctx : t.ctx x = c
  wf : smWf {} t.contexts = true
  frame : { t with contexts := s.contexts } = s

theorem FlipAt.set {c : Context} (h : FlipAt s t x c) (c' : Context) : FlipAt s (t.setCtx x c') x c' :=
  ⟨(State.ctx_setCtx_wf h.wf ..).trans (if_pos rfl), smWf_smSet h.wf .., h.frame⟩

/-- The maps of the two phases name this module alone, or the plan has no communicator to flip over. -/
def FlipAlone (s : State) (p : Plan) (a q : Nat) : Prop :=
  (∀ e ∈ p.phases, (e.kind = 2 ∨ e.kind = 3) → (e.phase = a ∨ e.phase = q) → e.modId = s.me) ∨ p.comms.find? (·.flip) = none

theorem flipBarrier_alone {a : Nat} (h : FlipAlone s p a q) (stage : Nat) :
    flipBarrier s x p a q stage = s.setCtx x { s.ctx x with flipStage := stage + 1 } := by
  unfold flipBarrier
  dsimp only
  split
  · next hcomm hfalse hflip =>
    rcases h with hall | hnone
    · have htrue : (p.phases.filter (fun e => (e.kind == 2 || e.kind == 3) && (e.phase == a || e.phase == q))).all (fun e => e.modId == s.me) = true := by
        rw [List.all_eq_true]
        intro e he
        simp only [List.mem_filter, Bool.and_eq_true, Bool.or_eq_true, beq_iff_eq] at he
        exact beq_iff_eq.2 (hall e he.1 he.2.1 he.2.2)
      rw [htrue] at hfalse
      cases hfalse
    · rw [hnone] at hflip
      cases hflip
  · rfl

section
variable {c : Context} (hplan : c.plan = some p) (hnext : nextPhase p c.phase = some q) (hpermute : c.permute = none)
  (halone : FlipAlone s p c.phase q)
include hplan hnext

include halone in
theorem flipSteps_begins (h : FlipAt s t x c) (hstage : c.flipStage = 0) (n : Nat) :
    flipSteps (n + 1) t x = flipSteps n (t.setCtx x { c with flipStage := 2 }) x := by
  have hme : t.me = s.me := (congrArg State.me h.frame :)
  have hbarrier := flipBarrier_alone (s := t) (x := x) (by unfold FlipAlone at halone ⊢; rwa [hme]) 1
  rw [h.ctx] at hbarrier
  change flipBarrier t x p c.phase q 1 = t.setCtx x { c with flipStage := 2 } at hbarrier
  generalize ({ c with flipStage := 2 } : Context) = e at hbarrier ⊢
  rw [flipSteps]
  dsimp only
  rw [h.ctx, hplan]
  dsimp only
  rw [hnext, hstage]
  exact congrArg (flipSteps n · x) hbarrier

include hpermute halone in
theorem flipSteps_moved (h : FlipAt s t x c) (hstage : c.flipStage = 2) (htensors : c.flipTensors = []) (n : Nat) :
    flipSteps (n + 1) t x = flipSteps n (t.setCtx x { c with flipStage := 4 }) x := by
  have hme : t.me = s.me := (congrArg State.me h.frame :)
  have hbarrier := flipBarrier_alone (s := t) (x := x) (by unfold FlipAlone at halone ⊢; rwa [hme]) 3
  rw [h.ctx] at hbarrier
  change flipBarrier t x p c.phase q 3 = t.setCtx x { c with flipStage := 4 } at hbarrier
  generalize ({ c with flipStage := 4 } : Context) = e at hbarrier ⊢
  rw [flipSteps]
  dsimp only
  rw [h.ctx, hplan]
  dsimp only
  rw [hnext, hstage, hpermute, htensors]
  exact congrArg (flipSteps n · x) hbarrier

theorem flipSteps_switches (h : FlipAt s t x c) (hstage : 4 ≤ c.flipStage) (n : Nat) :
    flipSteps (n + 1) t x = (carryRows t x p c.phase q).setCtx x { (carryRows t x p c.phase q).ctx x with
        phase := q, flipping := false, flipStage := 0, flipCount := satAdd c.flipCount 1 } := by
  obtain ⟨m, hm⟩ : ∃ m, c.flipStage = m + 4 := ⟨c.flipStage - 4, by omega⟩
  rw [flipSteps]
  dsimp only
  rw [h.ctx, hplan]
  dsimp only
  rw [hnext, hm]
  rfl

end

/-! The rows at the switch. -/

theorem carryRows_frame (s : State) (x : Nat) (p : Plan) (a q : Nat) : { carryRows s x p a q with cores := s.cores } = s :=
  List.foldlRecOn (motive := fun t : State => { t with cores := s.cores } = s) _ _ rfl fun _ h _ _ => h

theorem carryRows_contexts (s : State) (x : Nat) (p : Plan) (a q : Nat) : (carryRows s x p a q).contexts = s.contexts :=
  (congrArg State.contexts (carryRows_frame s x p a q) :)

theorem carryRows_none {a : Nat} (h : rowMoves s p a q = []) : carryRows s x p a q = s := by
  unfold carryRows
  rw [h]
  rfl

/-- A core with the rows that it takes, if there are any. -/
def Core.taking (c : Core) (rows : List (Nat × BitVec 32 × List (Nat × Entry))) (x : Nat) : Core :=
  if rows.isEmpty then c else { rows.foldl putRow c with owner := some (Fin.ofNat 256 x) }

theorem carryRows_one {a g h : Nat} (hmove : rowMoves s p a q = [(g, h)]) (hg : (s.core g).owner.map (·.val) = some x)
    (hh : (s.core h).owner.map (·.val) = some x ∨ (s.core h).owner = none) :
    carryRows s x p a q = s.setCore h ((s.core h).taking (heldRows (s.core g)) x) := by
  unfold carryRows
  dsimp only
  rw [hmove, List.filter_cons_of_pos (by rcases hh with hh | hh <;> simp [hg, hh])]
  rfl

/-- What a flip of this module leaves (R258, R259). -/
structure Flipped (s : State) (x : Nat) (p : Plan) (a q : Nat) (c : Context) (t : State) : Prop where
  ctx : t.ctx x = c
  cores : rowMoves s p a q = [] → t.cores = s.cores
  carried : ∀ (g h : Nat), rowMoves s p a q = [(g, h)] → (s.core g).owner.map (·.val) = some x →
    ((s.core h).owner.map (·.val) = some x ∨ (s.core h).owner = none) →
    smWf 0#32 (s.core g).tags = true → smWf {} (s.core g).skein = true → smWf 0#32 (s.core h).tags = true → smWf {} (s.core h).skein = true →
      (∀ r, tagValid ((s.core g).tag r) = true → (t.core h).tag r = (s.core g).tag r ∧
        ∀ col < 512, smGet {} (t.core h).skein (r * 512 + col) = smGet {} (s.core g).skein (r * 512 + col)) ∧
      (∀ k, k ≠ h → t.core k = s.core k)
  frame : { t with contexts := s.contexts, cores := s.cores } = s

/-- The switch of a flip, once it stands at its end. -/
theorem flipped_of_switch (hs : s.wf = true) {c : Context} (h : FlipAt s t x c) (a : Nat) (c' : Context) :
    Flipped s x p a q c' ((carryRows t x p a q).setCtx x c') := by
  have hframe := carryRows_frame t x p a q
  have hcontexts := carryRows_contexts t x p a q
  have hmoves : rowMoves t p a q = rowMoves s p a q := (congrArg (rowMoves · p a q) h.frame :)
  have hcores : t.cores = s.cores := (congrArg State.cores h.frame :)
  have hcore (k : Nat) : t.core k = s.core k := by
    unfold State.core
    rw [hcores]
  have hwf : smWf {} t.cores = true := by rw [hcores]; exact (State.wf_tables hs).1
  refine ⟨?_, fun hnone => ?_, fun g k hone hg hk hgt hgs hkt hks => ?_, ?_⟩
  · rw [State.ctx_setCtx_wf (by rw [hcontexts]; exact h.wf), if_pos rfl]
  · rw [carryRows_none (hmoves.trans hnone)]
    exact hcores
  · rw [carryRows_one (hmoves.trans hone) (by rw [hcore]; exact hg) (by rw [hcore]; exact hk), hcore, hcore]
    have hread (j : Nat) : ((t.setCore k ((s.core k).taking (heldRows (s.core g)) x)).setCtx x c').core j =
        if j = k then (s.core k).taking (heldRows (s.core g)) x else s.core j := by
      rw [← hcore j]
      exact State.core_setCore_wf hwf ..
    refine ⟨fun r hr => ?_, fun j hj => (hread j).trans (if_neg hj)⟩
    have hne := heldRows_ne_nil hr hgt
    have htake : (s.core k).taking (heldRows (s.core g)) x = { (heldRows (s.core g)).foldl putRow (s.core k) with owner := some (Fin.ofNat 256 x) } :=
      if_neg (by simpa using hne)
    rw [hread, if_pos rfl, htake]
    exact heldRows_put hgt hgs hkt hks hr
  · exact (congrArg (fun u : State => { u with contexts := s.contexts, cores := s.cores }) hframe).trans
      ((congrArg (fun u : State => { u with cores := s.cores }) h.frame :))

section
variable {c : Context} (hs : s.wf = true) (hplan : c.plan = some p) (hnext : nextPhase p c.phase = some q) (hpermute : c.permute = none)
  (halone : FlipAlone s p c.phase q)
include hs hplan hnext

theorem flipSteps_ends (h : FlipAt s t x c) (hstage : 4 ≤ c.flipStage) (n : Nat) :
    Flipped s x p c.phase q { c with phase := q, flipping := false, flipStage := 0, flipCount := satAdd c.flipCount 1 } (flipSteps (n + 1) t x) := by
  have hctx : (carryRows t x p c.phase q).ctx x = c := by
    rw [ctx_of_contexts (carryRows_contexts ..), h.ctx]
  rw [flipSteps_switches hplan hnext h hstage, hctx]
  exact flipped_of_switch hs h ..

include hpermute halone

theorem flipSteps_ends_moved (h : FlipAt s t x c) (htensors : c.flipTensors = []) (hstage : c.flipStage = 2 ∨ 4 ≤ c.flipStage) (n : Nat) :
    Flipped s x p c.phase q { c with phase := q, flipping := false, flipStage := 0, flipCount := satAdd c.flipCount 1 } (flipSteps (n + 2) t x) := by
  rcases hstage with htwo | hfour
  · rw [flipSteps_moved hplan hnext hpermute halone h htwo htensors]
    exact flipSteps_ends (c := { c with flipStage := 4 }) hs hplan hnext (h.set _) (Nat.le_refl 4) n
  · exact flipSteps_ends hs hplan hnext h hfour _

/-- A flip that begins without tensors to move runs to its switch. -/
theorem flipSteps_flips (h : FlipAt s t x c) (htensors : c.flipTensors = []) (hstage : c.flipStage = 0) (n : Nat) :
    Flipped s x p c.phase q { c with phase := q, flipping := false, flipStage := 0, flipCount := satAdd c.flipCount 1 } (flipSteps (n + 3) t x) := by
  rw [flipSteps_begins hplan hnext halone h hstage]
  exact flipSteps_ends_moved (c := { c with flipStage := 2 }) hs hplan hnext hpermute halone (h.set _) htensors (.inl rfl) n

end

theorem phaseFlip_eq (hplan : (s.ctx x).plan = some p) (hnext : nextPhase p (s.ctx x).phase = some q) : phaseFlip s x =
    if (s.ctx x).flipping then flipSteps ((s.ctx x).flipTensors.length + 6) s x
    else if decide ((s.ctx x).st ≠ .ready) || !(flipReady (s.ctx x) p q) then s
    else flipSteps ((movedTensors p (s.ctx x).phase q).length + 6)
      (s.setCtx x { s.ctx x with flipping := true, flipStage := 0, flipTensors := movedTensors p (s.ctx x).phase q }) x := by
  unfold phaseFlip
  dsimp only
  split
  · next h => rw [hplan] at h; cases h
  · next p' h =>
    obtain rfl : p = p' := Option.some.inj (hplan.symm.trans h)
    split
    · next h => rw [hnext] at h; cases h
    · next q' h =>
      obtain rfl : q = q' := Option.some.inj (hnext.symm.trans h)
      rfl

/-- A flip of this module's own phases (R258). -/
theorem phaseFlip_flips (hs : s.wf = true) (hplan : (s.ctx x).plan = some p) (hnext : nextPhase p (s.ctx x).phase = some q)
    (hpermute : (s.ctx x).permute = none)
    (hmay : ((s.ctx x).flipping = false ∧ (s.ctx x).st = .ready ∧ flipReady (s.ctx x) p q = true ∧ movedTensors p (s.ctx x).phase q = []) ∨
      ((s.ctx x).flipping = true ∧ (s.ctx x).flipTensors = [] ∧ ((s.ctx x).flipStage = 2 ∨ 4 ≤ (s.ctx x).flipStage)))
    (halone : FlipAlone s p (s.ctx x).phase q) : Flipped s x p (s.ctx x).phase q
      { s.ctx x with phase := q, flipping := false, flipStage := 0, flipTensors := [], flipCount := satAdd (s.ctx x).flipCount 1 } (phaseFlip s x) := by
  have hstart : FlipAt s s x (s.ctx x) := ⟨rfl, (State.wf_iff.1 hs).2.2.2.1, rfl⟩
  rw [phaseFlip_eq hplan hnext]
  rcases hmay with ⟨hflip, hst, hready, hmoved⟩ | ⟨hflip, htensors, hstage⟩
  · rw [if_neg (by rw [hflip]; decide), if_neg (by rw [hst, hready]; decide), hmoved]
    exact flipSteps_flips (c := { s.ctx x with flipping := true, flipStage := 0, flipTensors := [] }) hs hplan hnext hpermute halone
      (hstart.set _) rfl rfl 3
  · have hends := flipSteps_ends_moved hs hplan hnext hpermute halone hstart htensors hstage ((s.ctx x).flipTensors.length + 4)
    rw [if_pos hflip]
    rw [show ({ s.ctx x with phase := q, flipping := false, flipStage := 0, flipTensors := [], flipCount := satAdd (s.ctx x).flipCount 1 } : Context) =
      { s.ctx x with phase := q, flipping := false, flipStage := 0, flipCount := satAdd (s.ctx x).flipCount 1 } by rw [← htensors]]
    exact hends

/-! #### Watched tiles (R261 to R263) -/

theorem issueNext_idle {g : Nat} (h : (s.core g).work = []) : issueNext s g = s := by
  unfold issueNext
  dsimp only
  rw [h]

/-- A watch that has been served leaves its core. -/
theorem watch_leaves (h : Lines s t) {g : Nat} (hwork : (s.core g).work = []) :
    ((issueNext (t.setCore g { t.core g with watch := none }) g).core g).watch = none ∧
    { issueNext (t.setCore g { t.core g with watch := none }) g with cores := t.cores } = t := by
  have hwork' : (t.core g).work = [] := (congrArg Core.work (h.core g)).trans hwork
  have hread : (t.setCore g { t.core g with watch := none }).core g = { t.core g with watch := none } :=
    (State.core_setCore_wf h.wf ..).trans (if_pos rfl)
  rw [issueNext_idle (by rw [hread]; exact hwork'), hread]
  exact ⟨rfl, rfl⟩

theorem lines_writeNotes (h : Lines s t) (a : Actor) (op : Nat) (l : List FaultNote) : Lines s (writeNotes t a op l) :=
  List.foldlRecOn (motive := fun t : State => Lines s t) _ _ h fun _ h _ _ => lines_fault h _

/-- One note is one fault record. -/
theorem writeNotes_one (s : State) (a : Actor) (op : Nat) {n : FaultNote} (hn : n.cls ≠ 1) :
    (writeNotes s a op [n]).rel.recordCount = s.rel.recordCount + 1 ∧ (writeNotes s a op [n]).training = s.training ∧
    (writeNotes s a op [n]).mem = s.mem := by
  have hcls : ({ s.noteOf a n with opcode := op } : FaultNote).cls ≠ 1 := by
    have hnote : (s.noteOf a n).cls = n.cls := by
      unfold State.noteOf
      split <;> rfl
    rw [hnote]
    exact hn
  have hr : Reports s (writeNotes s a op [n]) := reports_fault (reports_refl s) _
  exact ⟨(fault_recorded hcls).1, (congrArg State.training hr :), hr.mem⟩

theorem memErrNote_cls (s : State) {n : FaultNote} (e : MemErr) : (memErrNote s n e).cls ≠ 1 := by
  unfold memErrNote
  split
  · exact (by decide : (0x0D : Nat) ≠ 1)
  · exact (by decide : (0x0D : Nat) ≠ 1)
  · exact (by decide : (2 : Nat) ≠ 1)

/-- What a watched tile is counted as. -/
theorem countWatch_counts (hs : smWf {} s.cores = true) (seq : BitVec 64) (d : Bytes) (pairs : List (ExactVal × ExactVal)) :
    let event := ∃ e ∈ pairs, watchCompare e.1 e.2 = none ∨ watchOver s.training.threshold.toInt e.1 e.2 = true
    let t := countWatch s seq d pairs
    Lines s t ∧ t.training.sampled = satAdd s.training.sampled 1 ∧
    (event → t.training.events = satAdd s.training.events 1 ∧ t.training.nextSlot = (s.training.nextSlot + 1) % 16) ∧
    (¬event → t.training.events = s.training.events ∧ t.training.slots = s.training.slots) ∧ t.mem = s.mem := by
  intro event
  have hevent : event ↔ (((pairs.map (fun p => watchCompare p.1 p.2)).any (·.isNone)) ||
      pairs.any (fun p => watchOver s.training.threshold.toInt p.1 p.2)) = true := by
    simp only [Bool.or_eq_true, List.any_eq_true, List.mem_map, Option.isNone_iff_eq_none, event]
    constructor
    · rintro ⟨e, he, h | h⟩
      · exact .inl ⟨_, ⟨e, he, rfl⟩, h⟩
      · exact .inr ⟨e, he, h⟩
    · rintro (⟨_, ⟨e, he, rfl⟩, h⟩ | ⟨e, he, h⟩)
      · exact ⟨e, he, .inl h⟩
      · exact ⟨e, he, .inr h⟩
  have hraise (u : State) : (raise u 0x38F).training = u.training := (congrArg State.training (reports_raise (reports_refl u) 0x38F) :)
  unfold countWatch
  dsimp only
  by_cases he : event
  · rw [if_pos (hevent.1 he), hraise, raise_mem]
    exact ⟨lines_raise (lines_mk (lines_refl hs)) _, rfl, fun _ => ⟨rfl, rfl⟩, fun h => absurd he h, rfl⟩
  · rw [if_neg fun h => he (hevent.2 h)]
    exact ⟨lines_mk (lines_refl hs), rfl, fun h => absurd h he, fun _ => ⟨rfl, rfl⟩, rfl⟩

section
variable {g : CoreId} {seq j : BitVec 64} {d : Bytes} {y : CtxId} {r : QueueId} (hwatch : (s.core g).watch = some (seq, d))
  (howner : (s.core g).owner = some y) (hjob : (s.core g).job = some (r, j))
include hwatch howner hjob

theorem watchRecompute_parity (n : Nat) : watchRecompute s g seq (.parity n) =
    let t := writeNotes s (unitActor .engine g seq) 5 [parityNote s]
    issueNext (t.setCore g { t.core g with watch := none }) g := by
  unfold watchRecompute
  dsimp only
  rw [hwatch, howner, hjob]
  exact if_neg (not_not.2 rfl)

theorem watchRecompute_clean {h : HostDesc} {o : OpRec} (hplan : (s.ctx y).plan = some p) (hdesc : s.desc? y r j = some h)
    (hop : p.op (hOpId h.bytes) = some o) : watchRecompute s g seq .clean =
    let t := match watchPairs s p o h d with
      | .ok pairs => countWatch s seq d pairs
      | .error e => writeNotes s (unitActor .engine g seq) 5 [memErrNote s { sev := 3, cls := 2 } e]
    issueNext (t.setCore g { t.core g with watch := none }) g := by
  have hpre : preDetect s .clean (unitActor .engine g seq) = s := rfl
  unfold watchRecompute
  dsimp only
  rw [hwatch, howner, hjob]
  dsimp only
  rw [if_neg (not_not.2 rfl), hpre, hplan, hdesc]
  dsimp only
  rw [hop] <;> rfl

end

theorem watchRecompute_other {g : CoreId} {seq w : BitVec 64} {d : Bytes} (hwatch :
    (s.core g).watch = some (w, d)) (hne : w ≠ seq) (det : Detect) :
    watchRecompute s g seq det = s := by
  unfold watchRecompute
  dsimp only
  rw [hwatch]
  cases (s.core g).owner with
  | none => exact if_pos hne
  | some x => cases (s.core g).job with
    | none => exact if_pos hne
    | some q => exact if_pos hne

end

/-! #### Bins of the relative difference (R262) -/

theorem ratioAtLeast_iff (m e m' e' k : Int) : ratioAtLeast m e m' e' k = true ↔
    m'.natAbs * 2 ^ (e' + k - e).toNat ≤ m.natAbs * 2 ^ (e - (e' + k)).toNat := by
  have h1 : (e - min e (e' + k)).toNat = (e - (e' + k)).toNat := by omega
  have h2 : (e' + k - min e (e' + k)).toNat = (e' + k - e).toNat := by omega
  unfold ratioAtLeast dyLt
  dsimp only
  rw [h1, h2]
  simp

/-- A ratio that reaches a power reaches every smaller one. -/
theorem ratioAtLeast_mono {m e m' e' k l : Int} (hkl : k ≤ l) (h : ratioAtLeast m e m' e' l = true) : ratioAtLeast m e m' e' k = true := by
  rw [ratioAtLeast_iff] at h ⊢
  calc m'.natAbs * 2 ^ (e' + k - e).toNat ≤ m'.natAbs * 2 ^ (e' + l - e).toNat :=
        Nat.mul_le_mul_left _ (Nat.pow_le_pow_right (by decide) (by omega))
    _ ≤ m.natAbs * 2 ^ (e - (e' + l)).toNat := h
    _ ≤ m.natAbs * 2 ^ (e - (e' + k)).toNat := Nat.mul_le_mul_left _ (Nat.pow_le_pow_right (by decide) (by omega))

/-- The last of the numbers below a bound that satisfies R, two added. -/
def lastOf (R : Nat → Bool) (n : Nat) : Nat := (List.range n).foldl (fun b i => if R i then i + 2 else b) 2

theorem lastOf_succ (R : Nat → Bool) (n : Nat) : lastOf R (n + 1) = if R n then n + 2 else lastOf R n := by
  unfold lastOf
  rw [List.range_succ, List.foldl_append]
  rfl

theorem lastOf_is {R : Nat → Bool} (h0 : R 0 = true) (n : Nat) : ∃ m ≤ n, R m = true ∧ (∀ i ≤ n, R i = true → i ≤ m) ∧ lastOf R (n + 1) = m + 2 := by
  induction n with
  | zero => exact ⟨0, Nat.le_refl 0, h0, fun i hi _ => hi, by rw [lastOf_succ, if_pos h0]⟩
  | succ n ih =>
    obtain ⟨m, hm, hR, hlast, heq⟩ := ih
    rw [lastOf_succ]
    by_cases hn : R (n + 1) = true
    · exact ⟨n + 1, Nat.le_refl _, hn, fun i hi _ => hi, if_pos hn⟩
    · refine ⟨m, Nat.le_succ_of_le hm, hR, fun i hi hRi => ?_, by rw [if_neg hn, heq]⟩
      rcases Nat.lt_or_ge n i with hlt | hge
      · exact absurd (by rwa [show i = n + 1 by omega] at hRi) hn
      · exact hlast i hge hRi

/-- The bin by the powers that a ratio reaches: 1 below 2^(−28), then one for every two powers, 15 from 2^(−2) on. -/
theorem lastOf_eq_iff {R : Nat → Bool} (hanti : ∀ i j, i ≤ j → R j = true → R i = true) (h0 : R 0 = true) (h13 : R 13 = false) {k : Nat} (h2 : 2 ≤ k)
    (h14 : k ≤ 14) : lastOf R 13 = k ↔ R (k - 2) = true ∧ R (k - 1) = false := by
  obtain ⟨m, hm, hR, hlast, heq⟩ := lastOf_is h0 12
  rw [heq]
  constructor
  · intro hk
    obtain rfl : m = k - 2 := by omega
    refine ⟨hR, Bool.eq_false_iff.2 fun hnext => ?_⟩
    rcases Nat.lt_or_ge 12 (k - 1) with hlt | hge
    · rw [show k - 1 = 13 by omega, h13] at hnext
      cases hnext
    · have := hlast (k - 1) hge hnext
      omega
  · rintro ⟨hk, hnext⟩
    have hle := hlast (k - 2) (by omega) hk
    have hge : ¬k - 1 ≤ m := fun hle => by rw [hanti _ _ hle hR] at hnext; cases hnext
    omega

theorem watchBin_eq (mn en mw ew : Int) :
    let lo := min en ew
    let diff := mn * 2 ^ (en - lo).toNat - mw * 2 ^ (ew - lo).toNat
    let R := fun i : Nat => ratioAtLeast diff lo mw ew (2 * ((i : Int) + 2) - 32)
    watchBin mn en mw ew = if diff = 0 then 0 else if mw = 0 then 15 else if R 0 = false then 1 else if R 13 then 15 else lastOf R 13 := by
  intro lo diff R
  unfold watchBin
  dsimp only
  have h0 : R 0 = ratioAtLeast diff lo mw ew (-28) := rfl
  have h13 : R 13 = ratioAtLeast diff lo mw ew (-2) := rfl
  rw [← h0, ← h13]
  cases R 0 <;> rfl

/-- The bins of the relative difference, as R262 numbers them. -/
theorem watchBin_bins (mn en mw ew : Int) :
    let lo := min en ew
    let diff := mn * 2 ^ (en - lo).toNat - mw * 2 ^ (ew - lo).toNat
    (diff = 0 ↔ watchBin mn en mw ew = 0) ∧ (diff ≠ 0 → mw = 0 → watchBin mn en mw ew = 15) ∧
    (∀ k : Nat, 2 ≤ k → k ≤ 14 → (watchBin mn en mw ew = k ↔ diff ≠ 0 ∧ mw ≠ 0 ∧
      ratioAtLeast diff lo mw ew (2 * (k : Int) - 32) = true ∧ ratioAtLeast diff lo mw ew (2 * (k : Int) - 30) = false)) ∧
    (diff ≠ 0 → mw ≠ 0 → (watchBin mn en mw ew = 1 ↔ ratioAtLeast diff lo mw ew (-28) = false)) := by
  intro lo diff
  obtain ⟨R, hR⟩ : ∃ R : Nat → Bool, (fun i : Nat => ratioAtLeast diff lo mw ew (2 * ((i : Int) + 2) - 32)) = R := ⟨_, rfl⟩
  have hpow (i : Nat) : R i = ratioAtLeast diff lo mw ew (2 * ((i : Int) + 2) - 32) := by rw [← hR]
  have hanti (i j : Nat) (hij : i ≤ j) (h : R j = true) : R i = true := by
    rw [hpow] at h ⊢
    exact ratioAtLeast_mono (by omega) h
  have heq : watchBin mn en mw ew = if diff = 0 then 0 else if mw = 0 then 15 else if R 0 = false then 1 else if R 13 then 15 else lastOf R 13 := by
    rw [← hR]
    exact watchBin_eq mn en mw ew
  have h28 : ratioAtLeast diff lo mw ew (-28) = R 0 := (hpow 0).symm
  have hlow (k : Nat) (h2 : 2 ≤ k) : ratioAtLeast diff lo mw ew (2 * (k : Int) - 32) = R (k - 2) := by
    rw [hpow, show 2 * (((k - 2 : Nat) : Int) + 2) - 32 = 2 * (k : Int) - 32 by omega]
  have hhigh (k : Nat) (h2 : 2 ≤ k) : ratioAtLeast diff lo mw ew (2 * (k : Int) - 30) = R (k - 1) := by
    rw [hpow, show 2 * (((k - 1 : Nat) : Int) + 2) - 32 = 2 * (k : Int) - 30 by omega]
  rw [heq, h28]
  by_cases hdiff : diff = 0
  · simp only [hdiff, if_true, ne_eq, not_true_eq_false, false_and, false_implies, and_true, true_and, iff_false]
    exact fun k h2 _ => by omega
  by_cases hmw : mw = 0
  · simp only [hdiff, hmw, if_true, if_false, ne_eq, not_true_eq_false, false_and, and_false, false_implies, iff_false]
    exact ⟨by decide, fun _ _ => trivial, fun k h2 h14 => by omega, fun _ => trivial⟩
  rw [if_neg hdiff, if_neg hmw]
  cases h0 : R 0 with
  | false =>
    rw [if_pos rfl]
    refine ⟨by simp [hdiff], fun _ h => absurd h hmw, fun k h2 h14 => ⟨fun h => by omega, fun ⟨_, _, hk, _⟩ => ?_⟩, fun _ _ => by simp⟩
    rw [hlow k h2] at hk
    rw [hanti 0 _ (Nat.zero_le _) hk] at h0
    cases h0
  | true =>
    rw [if_neg (by decide)]
    cases h13 : R 13 with
    | true =>
      rw [if_pos rfl]
      refine ⟨by simp [hdiff], fun _ h => absurd h hmw, fun k h2 h14 => ⟨fun h => by omega, fun ⟨_, _, _, hk⟩ => ?_⟩, fun _ _ => by simp⟩
      rw [hhigh k h2, hanti _ 13 (by omega) h13] at hk
      cases hk
    | false =>
      rw [if_neg (by decide)]
      obtain ⟨m, -, -, -, hlast⟩ := lastOf_is h0 12
      refine ⟨by simp [hdiff, hlast], fun _ h => absurd h hmw, fun k h2 h14 => ?_, fun _ _ => by simp [hlast]⟩
      rw [hlow k h2, hhigh k h2, lastOf_eq_iff hanti h0 h13 h2 h14]
      simp [hdiff, hmw]

theorem ownObject_watch : OwnObject 0x2810 7 1 := by constructor <;> decide +kernel

/-- Settles O23: flips that run to their switch, watched tiles by what their pairs compare as, and the bins. -/
theorem phasesFlipAndTilesAreWatched : Obligations.PhasesFlipAndTilesAreWatched := by
  unfold Obligations.PhasesFlipAndTilesAreWatched
  refine ⟨⟨fun s x p q hs => ?_, fun s g seq j d x q p h o hs hwatch howner hjob hwork hplan hdesc hop => ?_,
    fun s g seq w d det hwatch hne => congrArg Host.Outcome.next (watchRecompute_other hwatch hne det), fun s acc hadm => ?_⟩,
    watchBin_bins⟩
  · dsimp only
    intro hplan hnext hpermute hmay halone
    obtain ⟨hctx, hcores, hcarried, hframe⟩ := phaseFlip_flips hs hplan hnext hpermute hmay halone
    refine ⟨_, rfl, hctx, hcores, fun g h hmove hg hh hgt hgs hht hhs => ?_, hframe⟩
    exact hcarried g h hmove (by rw [hg]; rfl) (hh.symm.imp (fun hh => by rw [hh]; rfl) id) hgt hgs hht hhs
  · have hcores := (State.wf_tables hs).1
    have hrun {u : State} (hl : Lines s u) (hu : watchRecompute s g seq .clean = issueNext (u.setCore g { u.core g with watch := none }) g) :
        ∃ t, exec (.watchRecompute g seq .clean) s = .next t ∧ (t.core g).watch = none ∧ { t with cores := u.cores } = u :=
      ⟨_, congrArg Host.Outcome.next hu, watch_leaves hl hwork⟩
    have hclean := watchRecompute_clean hwatch howner hjob hplan hdesc hop
    refine ⟨fun pairs hpairs => ?_, fun err herr => ?_, fun n => ?_⟩
    · obtain ⟨hl, hsampled, hevent, hquiet, hmem⟩ := countWatch_counts hcores seq d pairs
      rw [hpairs] at hclean
      obtain ⟨t, hexec, hw, ht⟩ := hrun hl hclean
      have htraining : t.training = (countWatch s seq d pairs).training := (congrArg State.training ht :)
      have hsame : t.mem = (countWatch s seq d pairs).mem := (congrArg State.mem ht :)
      refine ⟨t, hexec, hw, ?_⟩
      rw [htraining, hsame]
      exact ⟨hsampled, hevent, hquiet, hmem⟩
    · obtain ⟨hcount, htraining, hmem⟩ := writeNotes_one s (unitActor .engine g seq) 5 (memErrNote_cls s (n := { sev := 3, cls := 2 }) err)
      rw [herr] at hclean
      obtain ⟨t, hexec, hw, ht⟩ := hrun (lines_writeNotes (lines_refl hcores) ..) hclean
      exact ⟨t, hexec, hw, (congrArg State.training ht :).trans htraining, (congrArg (fun u : State => u.rel.recordCount) ht :).trans hcount,
        (congrArg State.mem ht :).trans hmem⟩
    · obtain ⟨hcount, htraining, hmem⟩ := writeNotes_one s (unitActor .engine g seq) 5 (n := parityNote s) (by show (3 : Nat) ≠ 1; decide)
      obtain ⟨hw, ht⟩ := watch_leaves (lines_writeNotes (lines_refl hcores) (unitActor .engine g seq) 5 [parityNote s]) hwork
      refine ⟨_, congrArg Host.Outcome.next (watchRecompute_parity hwatch howner hjob n), hw, ?_⟩
      exact ⟨(congrArg State.training ht :).trans htraining, (congrArg (fun u : State => u.rel.recordCount) ht :).trans hcount,
        (congrArg State.mem ht :).trans hmem⟩
  · have htouch := touchSelects_unselected hadm ownObject_watch.2
    dsimp only
    rw [htouch]
    exact ⟨dictCommand_takes hadm ownObject_watch rfl rfl, dictCommand_takes hadm ownObject_watch rfl rfl⟩

end Sys2Proof.Machine
end

section
/-! PROOFS. A RERUN that uncovers a RUN (O28). -/

namespace Sys2Proof.Machine

/-! ### A RERUN that uncovers a RUN (R312)

The queues of a context are a table that `State.wf` does not cover. Where one lists its first key twice, with an empty queue first, a change of
that queue drops the first entry and uncovers the second: a RUN that was not there stands dispatched. -/

/-- A plan with one reduction of one element over modules 1 and 2, to which each contributes one unit. -/
def pairPlan : Plan :=
  { ops := [{ opId := 1, kind := 0x20, sign := false, inputs := [], preloads := [], outputs := [], subOp := 0, partialTo := 0
              kTotal := 0, encoding := 0, reduceOp := 0, units := 1, count := 1, rootUnit := 0 }]
    comms := [{ commId := 7, flip := false, members := [1, 2], next := 0 }]
    calls := [{ opId := 1, vid := 0, commId := 7, unitFirst := 0, unitHeld := 1, staging := 0 }] }

def pairComm : Comm := { commId := 7, flip := false, members := [1, 2], next := 0 }

/-- The dispatched RUN of the reduction. -/
def coveredRun : HostDesc := { seq := 5, bytes := List.replicate 16 0#8 ++ [1#8], phase := .dispatched }

/-- The reduction's call, as it is kept. -/
def coveredCall : Instance := { commId := 7, seq := 3, st := 1, desc := some (0, 5) }

/-- Module 2 with the RUN covered by an empty queue, and no stack to read its source from. -/
def coveredState : State :=
  { ({} : State) with
    mem := { ({} : Memory) with hbmStacks := 0 }
    contexts := [(0, { st := .ready, plan := some pairPlan, queues := [(0, {}), (0, { descs := [coveredRun] })] })]
    fabric := { moduleId := some 2 }
    coll := { instances := [(0, coveredCall)] } }

/-- RERUN from module 1, with the second attempt. -/
def secondAttempt : Frame :=
  Frame.sealed { typ := 4, retransmit := false, round := 0, dst := 2, src := 1, comm := 7, seq := 3, stage := 0, tree := 0, attempt := 1
                 index := 0, last := true, payload := leBytes 8 2, crc := 0 }

theorem secondAttempt_arrives : coveredState.wf = true ∧ FrameArrives coveredState secondAttempt 0 pairComm = true ∧
    coveredState.inst? secondAttempt.comm secondAttempt.seq = some coveredCall ∧ byteAt secondAttempt.payload 0 = coveredCall.attempt + 1 ∧
    fromParent coveredState pairComm 0 secondAttempt = true ∧ coveredCall.dispatched coveredState = false := by decide +kernel

/-- The uncovered RUN opens the call, cannot read its source, and aborts it. -/
theorem secondAttempt_aborts : (match exec (.rerun secondAttempt) coveredState with
    | .next t => (t.inst? secondAttempt.comm secondAttempt.seq).map (·.st)
    | _ => none) = some 7 := by decide +kernel

/-- Refutes O28: a RERUN applied while the RUN of its call does not stand dispatched can uncover that RUN in a queue table with a
double key; the call is then opened and aborted, and is left in state 7 instead of 1. -/
theorem not_transitFramesMoveInstances : ¬Obligations.TransitFramesMoveInstances := by
  unfold Obligations.TransitFramesMoveInstances
  intro h
  obtain ⟨hwf, harrives, hinst, hattempt, hparent, hwaits⟩ := secondAttempt_arrives
  obtain ⟨-, -, -, -, hrerun, -⟩ := h coveredState secondAttempt 0 pairComm coveredCall hwf harrives hinst
  obtain ⟨t, hexec, -, -, j, hj, -, hst, -⟩ := hrerun hattempt (by decide) (by decide) hparent (.inl hwaits)
  have hout := secondAttempt_aborts
  rw [hexec] at hout
  dsimp only at hout
  rw [hj, Option.map_some, hst] at hout
  exact absurd hout (by decide)

end Sys2Proof.Machine
end

section
/-! PROOFS. Chunks and the collective timers (O29). -/

namespace Sys2Proof.Machine

/-! ### Instances of collective calls (R291, R292) -/

section
variable {α : Type} [DecidableEq α] {d : α}

theorem le_of_mem_wfFrom {m : SMap α} {lo k : Nat} {v : α} (h : smWfFrom d lo m = true) (hm : (k, v) ∈ m) : lo ≤ k := by
  induction m generalizing lo with
  | nil => cases hm
  | cons p m ih =>
    obtain ⟨j, w⟩ := p
    simp only [smWfFrom, Bool.and_eq_true, decide_eq_true_eq] at h
    rcases List.mem_cons.1 hm with heq | hm
    · cases heq
      exact h.1.1
    · exact Nat.le_of_succ_le (Nat.le_trans (Nat.succ_le_succ h.1.1) (ih h.2 hm))

/-- The value of an entry that is listed is what its key reads. -/
theorem smGet_of_mem {m : SMap α} {lo k : Nat} {v : α} (h : smWfFrom d lo m = true) (hm : (k, v) ∈ m) : smGet d m k = v := by
  induction m generalizing lo with
  | nil => cases hm
  | cons p m ih =>
    obtain ⟨j, w⟩ := p
    simp only [smWfFrom, Bool.and_eq_true, decide_eq_true_eq] at h
    rcases List.mem_cons.1 hm with heq | hm
    · cases heq
      exact smGet_cons_same ..
    · have hlt := le_of_mem_wfFrom h.2 hm
      rw [smGet_cons_other h.2 (by omega), ih h.2 hm]

theorem ne_of_mem_wfFrom {m : SMap α} {lo k : Nat} {v : α} (h : smWfFrom d lo m = true) (hm : (k, v) ∈ m) : v ≠ d := by
  induction m generalizing lo with
  | nil => cases hm
  | cons p m ih =>
    simp only [smWfFrom, Bool.and_eq_true, decide_eq_true_eq] at h
    rcases List.mem_cons.1 hm with heq | hm
    · cases heq
      exact h.1.2
    · exact ih h.2 hm

/-- The first entry of a kind is still the first with another value of that kind. -/
theorem find?_smPut {p : Nat × α → Bool} {m : SMap α} {lo k : Nat} {v w : α} (h : smWfFrom d lo m = true) (hf : m.find? p = some (k, v))
    (hp : p (k, w) = true) : (smPut m k w).find? p = some (k, w) := by
  induction m generalizing lo with
  | nil => cases hf
  | cons e m ih =>
    obtain ⟨j, u⟩ := e
    simp only [smWfFrom, Bool.and_eq_true, decide_eq_true_eq] at h
    cases hj : p (j, u) with
    | true =>
      rw [List.find?_cons_of_pos hj] at hf
      cases hf
      rw [smPut, if_pos rfl, List.find?_cons_of_pos hp]
    | false =>
      rw [List.find?_cons_of_neg (by simp [hj])] at hf
      have hlt := le_of_mem_wfFrom h.2 (List.mem_of_find?_eq_some hf)
      rw [smPut, if_neg (by omega), if_neg (by omega), List.find?_cons_of_neg (by simp [hj])]
      exact ih h.2 hf

end

/-- The table of instances is in canonical form, and a call stands in it. -/
structure Stands (t : State) (comm seq : BitVec 32) (i : Instance) : Prop where
  wf : smWf {} t.coll.instances = true
  found : t.inst? comm seq = some i

section
variable {s t u : State} {comm seq : BitVec 32} {i j : Instance}

theorem stands_of_wf (hs : s.wf = true) (h : s.inst? comm seq = some i) : Stands s comm seq i := by
  obtain ⟨-, -, -, -, -, -, -, -, -, -, hinst⟩ := State.wf_iff.1 hs
  exact ⟨hinst, h⟩

theorem inst?_some (h : s.inst? comm seq = some i) :
    ∃ k, s.coll.instances.find? (fun e => decide (e.2.commId = comm) && decide (e.2.seq = seq)) = some (k, i) := by
  obtain ⟨⟨k, v⟩, hf, rfl⟩ := Option.map_eq_some_iff.1 h
  exact ⟨k, hf⟩

theorem inst?_names (h : s.inst? comm seq = some i) : i.commId = comm ∧ i.seq = seq := by
  obtain ⟨k, hf⟩ := inst?_some h
  have hp := List.find?_some hf
  simp only [Bool.and_eq_true, decide_eq_true_eq] at hp
  exact hp

theorem Stands.names (h : Stands t comm seq i) : i.commId = comm ∧ i.seq = seq := inst?_names h.found

theorem Stands.ne_default (h : Stands t comm seq i) : i ≠ {} := by
  obtain ⟨k, hf⟩ := inst?_some h.found
  exact ne_of_mem_wfFrom h.wf (List.mem_of_find?_eq_some hf)

theorem stands_coll (h : Stands t comm seq i) (hu : u.coll.instances = t.coll.instances) : Stands u comm seq i := by
  obtain ⟨hwf, hfound⟩ := h
  refine ⟨by rwa [hu], ?_⟩
  rw [← hfound, State.inst?, hu]
  rfl

theorem stands_modInst (h : Stands t comm seq i) {f : Instance → Instance} (hcomm : (f i).commId = i.commId) (hseq : (f i).seq = i.seq)
    (hne : f i ≠ {}) : Stands (t.modInst comm seq f) comm seq (f i) := by
  obtain ⟨k, hf⟩ := inst?_some h.found
  obtain ⟨hc, hn⟩ := h.names
  have hslot : t.instSlot comm seq = some k := by rw [State.instSlot, hf]; rfl
  have hget : smGet {} t.coll.instances k = i := smGet_of_mem h.wf (List.mem_of_find?_eq_some hf)
  have hput : (t.modInst comm seq f).coll.instances = smPut t.coll.instances k (f i) := by
    rw [State.modInst, hslot]
    show smMod {} t.coll.instances k f = _
    rw [smMod, hget, smSet, if_neg hne]
  refine ⟨?_, ?_⟩
  · rw [hput]
    exact smWfFrom_smPut hne (Nat.zero_le _) h.wf
  · rw [State.inst?, hput, find?_smPut h.wf hf (by simp [hcomm, hseq, hc, hn])]
    rfl

theorem modInst_frame (s : State) (comm seq f) : { s.modInst comm seq f with coll := s.coll } = s := by
  unfold State.modInst
  split <;> rfl

theorem modInst_contexts (s : State) (comm seq f) : (s.modInst comm seq f).contexts = s.contexts :=
  (congrArg State.contexts (modInst_frame s comm seq f) :)

/-- Of the collectives, a call changed leaves all but the instances. -/
theorem modInst_coll (s : State) (comm seq f) : { (s.modInst comm seq f).coll with instances := s.coll.instances } = s.coll := by
  unfold State.modInst
  split <;> rfl

theorem sendFrame_frame (s : State) (f : Frame) (k : Nat) : { sendFrame s f k with out := s.out } = s := by
  unfold sendFrame
  split <;> rfl

theorem sendFrames_frame {β : Type} (g : State → β → Frame) (n : β → Nat) (l : List β) (s : State) :
    { l.foldl (fun s b => sendFrame s (g s b) (n b)) s with out := s.out } = s :=
  List.foldlRecOn (motive := fun (t : State) => { t with out := s.out } = s) l _ rfl fun t h b _ =>
    (congrArg (fun u : State => { u with out := s.out }) (sendFrame_frame t (g t b) (n b))).trans h

/-! ### RUNs of a call -/

theorem runOf_of_contexts {q : Nat} {e : HostDesc} (h : RunOf s i q e) (hu : u.contexts = s.contexts) : RunOf u i q e := by
  obtain ⟨hdesc, hq, hfind, hphase, hpermute⟩ := h
  refine ⟨hdesc, hq, ?_, hphase, ?_⟩
  · rwa [desc?_of_contexts hu]
  · rwa [ctx_of_contexts hu]

theorem runMet_of_contexts {q : Nat} {e : HostDesc} {st : BitVec 16} (h : RunMet t i q e st) (hu : u.contexts = t.contexts) :
    RunMet u i q e st := by
  obtain ⟨e', hfind, hrest⟩ := h
  exact ⟨e', by rwa [desc?_of_contexts hu], hrest⟩

theorem desc?_descs {x q : Nat} {n : BitVec 64} {e : HostDesc} (h : s.desc? x q n = some e) : (s.queue x q).descs ≠ [] :=
  List.ne_nil_of_mem (List.mem_of_find?_eq_some h)

theorem permute_modDesc {x q : Nat} {n : BitVec 64} {e : HostDesc} (h : s.desc? x q n = some e) (f : HostDesc → HostDesc) :
    ((s.modDesc x q n f).ctx x).permute = (s.ctx x).permute := by
  rw [(modDesc_queue (desc?_descs h) n f).2]
  rfl

theorem RunOf.dispatched {q : Nat} {e : HostDesc} (h : RunOf s i q e) : e.undispatched = false := by
  obtain ⟨-, -, -, hphase, -⟩ := h
  unfold HostDesc.undispatched
  rw [hphase]
  rfl

/-- The RUN of a call meets a status. -/
theorem blame_meets {q : Nat} {e : HostDesc} (h : RunOf s i q e) (status : Nat) :
    RunMet (i.blame s status) i q e (BitVec.ofNat 16 status) ∧ ((i.blame s status).ctx i.ctx).permute = (s.ctx i.ctx).permute := by
  have hdisp := h.dispatched
  obtain ⟨hdesc, hq, hfind, -, -⟩ := h
  let f (d : HostDesc) : HostDesc := if d.undispatched then d.closeWith status
    else { d with outcomes := d.outcomes ++ [BitVec.ofNat 16 status], workDone := true, released := true }
  have heq : i.blame s status = s.modDesc i.ctx q e.seq f := by
    unfold Instance.blame
    rw [hdesc]
    exact if_pos hq
  have hf : ∀ d, (f d).seq = d.seq := fun d => by dsimp only [f]; split <;> rfl
  have hfe : f e = { e with outcomes := e.outcomes ++ [BitVec.ofNat 16 status], workDone := true, released := true } :=
    if_neg (by rw [hdisp]; decide)
  rw [heq]
  refine ⟨⟨f e, desc?_modDesc hfind hf, ?_⟩, permute_modDesc hfind f⟩
  rw [hfe]
  exact ⟨rfl, rfl, rfl⟩

theorem dropPermute_idle (h : (s.ctx i.ctx).permute ≠ some (i.commId, i.seq)) (status : Nat) : dropPermute s i status = s := if_neg h

theorem freeInst_contexts (s : State) (i : Instance) (status : Nat) : (s.freeInst i status).contexts = s.contexts := by
  unfold State.freeInst
  split <;> rfl

/-- The decision ABORT ends the RUN with its status; at a member that has ended it already the status stays. -/
theorem abortDown_meets (hpermute : (s.ctx i.ctx).permute ≠ some (i.commId, i.seq)) (status : Nat) :
    (∀ q e, i.st ≠ 7 → RunOf s i q e → RunMet (abortDown s i status) i q e (BitVec.ofNat 16 status)) ∧
    (i.st = 7 → (abortDown s i status).contexts = s.contexts) := by
  unfold abortDown
  dsimp only
  generalize hfs : (treeChildren 0 (i.members s) s.me).map (fun l => i.frame s 3 0 0 l 0 true (leBytes 8 status)) = fs
  obtain ⟨u, hu⟩ : ∃ u, (fs.foldl (fun s f => sendFrame s f 0) s).modInst i.commId i.seq (fun i => { i with downs := fs }) = u := ⟨_, rfl⟩
  have hsent : (fs.foldl (fun s f => sendFrame s f 0) s).contexts = s.contexts :=
    (congrArg State.contexts (sendFrames_frame (fun _ f => f) (fun _ => 0) fs s) :)
  have hcontexts : u.contexts = s.contexts := by rw [← hu, modInst_contexts, hsent]
  rw [hu]
  constructor
  · intro q e hst hrun
    obtain ⟨hmet, hper⟩ := blame_meets (runOf_of_contexts hrun hcontexts) status
    rw [if_neg hst, dropPermute_idle (by rwa [hper, ctx_of_contexts hcontexts])]
    exact runMet_of_contexts hmet (freeInst_contexts ..)
  · intro hst
    rw [if_pos hst, dropPermute_idle (by rwa [ctx_of_contexts hcontexts]), freeInst_contexts, hcontexts]

/-- Of a RUN that has ended, ABORT going up leaves the contexts. -/
theorem abortUp_contexts (hst : i.st = 7) (hpermute : (s.ctx i.ctx).permute ≠ some (i.commId, i.seq)) (status : Nat) :
    (abortUp s i status).contexts = s.contexts := by
  unfold abortUp
  split
  · exact (congrArg State.contexts (sendFrame_frame ..) :)
  · exact (abortDown_meets hpermute status).2 hst

/-- A member that sends ABORT completes with the status at once. -/
theorem memberAbort_meets {q : Nat} {e : HostDesc} (h : RunOf s i q e) (hrel : i.releaseSent = false) (hst : i.st < 6) (status : Nat) :
    RunMet (memberAbort s i status) i q e (BitVec.ofNat 16 status) := by
  obtain ⟨hmet, hper⟩ := blame_meets h status
  obtain ⟨-, -, -, -, hpermute⟩ := h
  have hidle : (i.releaseSent || decide (6 ≤ i.st)) = false := by rw [hrel, decide_eq_false (by omega)]; rfl
  unfold memberAbort
  rw [hidle]
  obtain ⟨u, hu⟩ : ∃ u, (i.blame s status).modInst i.commId i.seq (fun i => { i with st := 7 }) = u := ⟨_, rfl⟩
  have hcontexts : u.contexts = (i.blame s status).contexts := by rw [← hu, modInst_contexts]
  rw [if_neg (by decide), hu]
  refine runMet_of_contexts (runMet_of_contexts hmet hcontexts) (abortUp_contexts rfl ?_ status)
  rwa [ctx_of_contexts hcontexts, hper]

end

/-! ### What a combiner's work leaves of the collectives (R297, R303) -/

/-- The collectives stay. -/
def SameColl (s t : State) : Prop := t.coll = s.coll

section
variable {s t u : State}

theorem sameColl_emits (h : SameColl s t) (he : Emits t u) : SameColl s u := (congrArg State.coll he :).trans h
theorem sameColl_reports (h : SameColl s t) (hr : Reports t u) : SameColl s u := (congrArg State.coll hr :).trans h
theorem sameColl_mem (h : SameColl s t) (m) : SameColl s { t with mem := m } := h
theorem sameColl_modDesc (h : SameColl s t) (x q seq f) : SameColl s (t.modDesc x q seq f) := h
theorem sameColl_setStream (h : SameColl s t) (dst n) : SameColl s (t.setStream dst n) := h

theorem sameColl_foldl {α : Type} {f : State → α → State} (hf : ∀ t a, SameColl s t → SameColl s (f t a)) (l : List α)
    (h : SameColl s t) : SameColl s (l.foldl f t) :=
  List.foldlRecOn (motive := fun (t : State) => SameColl s t) l f h fun t h a _ => hf t a h

theorem sameColl_sendNow (h : SameColl s t) (dst p) : SameColl s (sendNow t dst p) := by
  unfold sendNow
  grind [sameColl_setStream, sameColl_emits, emits_emitPacket, emits_emit, emits_refl]

theorem sameColl_drainWaiting (h : SameColl s t) (n dst) : SameColl s (drainWaiting n t dst) := by
  induction n generalizing t with
  | zero => exact h
  | succ n ih =>
    unfold drainWaiting
    grind [sameColl_sendNow, sameColl_setStream]

theorem sameColl_beginStream (h : SameColl s t) (dst owner) : SameColl s (beginStream t dst owner) := by
  unfold beginStream
  grind [sameColl_setStream, sameColl_emits, emits_emit, emits_refl]

theorem sameColl_failOwner (h : SameColl s t) (a status) : SameColl s (failOwner t a status) :=
  (congrArg State.coll (fails_failOwner (s := t) rfl a status) :).trans h

theorem sameColl_sendPacket (h : SameColl s t) (dst typ address payload tail owner dest trunc) :
    SameColl s (sendPacket t dst typ address payload tail owner dest trunc) := by
  unfold sendPacket
  grind [sameColl_failOwner, sameColl_beginStream, sameColl_drainWaiting, sameColl_setStream]

theorem sameColl_sendAll (h : SameColl s t) (a entry tail count trunc packets) : SameColl s (sendAll t a entry tail count trunc packets) := by
  induction packets generalizing t with
  | nil => exact h
  | cons p packets ih =>
    unfold sendAll
    grind [sameColl_sendPacket]

theorem sameColl_storeWithSignal (h : SameColl s t) (a dst addr ctx vid bs trunc) : SameColl s (storeWithSignal t a dst addr ctx vid bs trunc) :=
  sameColl_sendAll h ..

theorem sameColl_storeRuns (h : SameColl s t) (a dst base ctx vid runs) : SameColl s (storeRuns t a dst base ctx vid runs) := sameColl_sendAll h ..

theorem sameColl_writeNotes (h : SameColl s t) (a op notes) : SameColl s (writeNotes t a op notes) :=
  sameColl_foldl (fun t _ h => sameColl_reports h (reports_fault (reports_refl t) _)) notes h

theorem sameColl_blame (h : SameColl s t) (i : Instance) (status) : SameColl s (i.blame t status) := by
  unfold Instance.blame
  grind [sameColl_modDesc]

theorem sameColl_writeRuns (h : SameColl s t) (base n) : SameColl s (writeRuns t base n).1 := by
  induction n generalizing t with
  | nil => exact h
  | cons r n ih =>
    unfold writeRuns
    grind [sameColl_mem]

theorem sameColl_writeElems (h : SameColl s t) (i c lo es at_) : SameColl s (writeElems t i c lo es at_) := by
  have hwritten {p : State × Option MemErr} {base runs} (e : writeRuns t base runs = p) : SameColl s p.1 := e ▸ sameColl_writeRuns h ..
  fun_cases writeElems
  case case1 => exact sameColl_writeNotes (sameColl_blame h ..) ..
  case case2 x hw _ _ _ hm => exact hwritten hw
  case case3 x hw _ _ _ _ hm => exact sameColl_writeNotes (sameColl_blame (sameColl_mem (hwritten hw) _) ..) ..

theorem sameColl_raiseNumeric (h : SameColl s t) (c r) : SameColl s (raiseNumeric t c r) := h

theorem sameColl_sendCredits (h : SameColl s t) (i tree chunk kids) : SameColl s (sendCredits t i tree chunk kids) := by
  have hf : (sendCredits t i tree chunk kids).coll = t.coll := (congrArg State.coll (sendFrames_frame (fun s l =>
    mkFrame t 5 2 l.2 i.commId i.seq l.1 tree i.attempt (chunk % 8) true (leBytes 8 chunk)) (fun _ => 0) kids t) :)
  exact hf.trans h

end

/-- A call has combined the chunks listed, and the elements combined so far are counted. -/
structure Combined (t : State) (comm seq : BitVec 32) (n : BitVec 64) (done : List Nat) : Prop where
  wf : smWf {} t.coll.instances = true
  elements : t.coll.combinedElements = n
  inst : ∃ j, t.inst? comm seq = some j ∧ j.combined = done

section
variable {t u : State} {comm seq : BitVec 32} {n : BitVec 64} {done : List Nat} {i : Instance}

theorem combined_same (h : Combined t comm seq n done) (hu : SameColl t u) : Combined u comm seq n done := by
  obtain ⟨hwf, hn, j, hj, hdone⟩ := h
  obtain ⟨hwf', hj'⟩ := stands_coll ⟨hwf, hj⟩ (congrArg Collectives.instances hu :)
  exact ⟨hwf', (congrArg Collectives.combinedElements hu).trans hn, j, hj', hdone⟩

theorem combined_modInst (hne : done ≠ []) (h : Combined t comm seq n done) {f : Instance → Instance} (hcomm : ∀ i, (f i).commId = i.commId)
    (hseq : ∀ i, (f i).seq = i.seq) (hcombined : ∀ i, (f i).combined = i.combined) : Combined (t.modInst comm seq f) comm seq n done := by
  obtain ⟨hwf, hn, j, hj, hdone⟩ := h
  have hst := stands_modInst ⟨hwf, hj⟩ (hcomm j) (hseq j) fun hd => hne (by rw [← hdone, ← hcombined, hd])
  have hn' : (t.modInst comm seq f).coll.combinedElements = t.coll.combinedElements := (congrArg Collectives.combinedElements (modInst_coll t comm seq f) :)
  exact ⟨hst.wf, hn'.trans hn, f j, hst.found, (hcombined j).trans hdone⟩

theorem combined_doneInst (hne : done ≠ []) (h : Combined t comm seq n done) (hi : i.commId = comm ∧ i.seq = seq) :
    Combined (doneInst t i false) comm seq n done := by
  obtain ⟨rfl, rfl⟩ := hi
  unfold doneInst
  split
  · exact h
  · refine combined_modInst hne ?_ (fun _ => rfl) (fun _ => rfl) (fun _ => rfl)
    split
    · exact combined_same h rfl
    · exact h

theorem combined_afterChunk (hne : done ≠ []) (h : Combined t comm seq n done) : Combined (afterChunk t comm seq) comm seq n done := by
  unfold afterChunk
  split
  · exact h
  · next i hi =>
    split
    · exact h
    · have h4 := combined_modInst hne h (f := fun i => { i with st := 4 }) (fun _ => rfl) (fun _ => rfl) (fun _ => rfl)
      grind [combined_doneInst, inst?_names]

theorem combined_foldl {α : Type} {f : State → α → State} (hf : ∀ t a, Combined t comm seq n done → Combined (f t a) comm seq n done) (l : List α)
    (h : Combined t comm seq n done) : Combined (l.foldl f t) comm seq n done :=
  List.foldlRecOn (motive := fun (t : State) => Combined t comm seq n done) l f h fun t h a _ => hf t a h

theorem combined_storeRuns (h : Combined t comm seq n done) (a dst base ctx vid runs) : Combined (storeRuns t a dst base ctx vid runs) comm seq n done :=
  combined_same h (sameColl_storeRuns rfl ..)

theorem combined_send (h : Combined t comm seq n done) (o) : Combined (t.send o) comm seq n done := combined_same h rfl

theorem combined_sendResult (hne : done ≠ []) (h : Combined t comm seq n done) (hi : i.commId = comm ∧ i.seq = seq) (c k chunk lo ts) :
    Combined (sendResult t i c k chunk lo ts) comm seq n done := by
  obtain ⟨rfl, rfl⟩ := hi
  unfold sendResult
  have hsums := combined_modInst hne h (f := keepSums t c k lo ts) (fun _ => rfl) (fun _ => rfl) (fun _ => rfl)
  dsimp only
  split
  · refine combined_foldl (fun t j h => ?_) _ hsums
    split
    · exact h
    · exact combined_send h _
  · split
    · exact combined_foldl (fun t m h => combined_storeRuns h ..) _ h
    · refine combined_foldl (fun t l h => ?_) _ h
      split
      · exact h
      · exact combined_storeRuns h ..

/-- The states that a chunk's work has once its inputs are read: the elements counted, the chunk combined, and its inputs gone. -/
def State.combine (s : State) (comm seq : BitVec 32) (chunk n : Nat) : State :=
  { s with coll := { s.coll with combinedElements := satAdd s.coll.combinedElements n } }.modInst comm seq
    (fun i => { i with combined := i.combined ++ [chunk], inputs := i.inputs.filter (fun e => e.2.1 != chunk) })

theorem combine_combined {s : State} (hs : s.wf = true) (hi : s.inst? comm seq = some i) (chunk n : Nat) :
    Combined (s.combine comm seq chunk n) comm seq (satAdd s.coll.combinedElements n) (i.combined ++ [chunk]) := by
  obtain ⟨t, ht⟩ : ∃ t : State, { s with coll := { s.coll with combinedElements := satAdd s.coll.combinedElements n } } = t := ⟨_, rfl⟩
  have hst : Stands t comm seq i := stands_coll (stands_of_wf hs hi) (by rw [← ht])
  have hn : t.coll.combinedElements = satAdd s.coll.combinedElements n := by rw [← ht]
  obtain ⟨hwf, hfound⟩ := stands_modInst hst
    (f := fun i => { i with combined := i.combined ++ [chunk], inputs := i.inputs.filter (fun e => e.2.1 != chunk) }) rfl rfl
    (fun hd => List.append_ne_nil_of_right_ne_nil _ (List.cons_ne_nil chunk []) (congrArg Instance.combined hd))
  unfold State.combine
  rw [ht]
  exact ⟨hwf, (congrArg Collectives.combinedElements (modInst_coll t comm seq _) :).trans hn, _, hfound, rfl⟩

/-- A chunk whose inputs are all there is combined (R297, R303). -/
theorem workChunk_combines {s : State} {chunk : Nat} {c : Call} {own : List Term} {got : List (List Term)}
    (hs : s.wf = true) (hi : s.inst? comm seq = some i) (hcall : callOf s i = some c) (hst : i.st = 3) (hchunk : chunk < c.chunks)
    (htransit : c.transit = false) (hnew : i.combined.contains chunk = false)
    (hkids : ∀ l ∈ treeChildren (chunk % 2) c.comm.members s.me, ∃ e ∈ i.inputs, e.1 = l.2 ∧ e.2.1 = chunk)
    (hcredit : (treeParent (chunk % 2) c.comm.members s.me).isSome = true → 8 ≤ chunk → i.credits.contains (chunk - 8) = true)
    (hown : packageTerms s i c (c.coding s) (c.span chunk).1 (c.span chunk).2 = .ok own)
    (hgot : childChunks s c (c.coding s) chunk (c.span chunk).2 (treeChildren (chunk % 2) c.comm.members s.me) = .ok got) :
    Combined (workChunk s comm seq chunk .clean) comm seq (satAdd s.coll.combinedElements (c.span chunk).2) (i.combined ++ [chunk]) := by
  have hne : i.combined ++ [chunk] ≠ [] := by simp
  have hbegun := combine_combined hs hi chunk (c.span chunk).2
  have hbusy : (!(i.st == 3 || i.st == 4) || decide (c.chunks ≤ chunk) || c.transit) = false := by
    rw [hst, decide_eq_false (by omega), htransit]
    rfl
  have hready : (!((treeChildren (chunk % 2) c.comm.members s.me).all fun l =>
      (i.inputs.find? fun e => e.1 == l.2 && e.2.1 == chunk).isSome) ||
      ((treeParent (chunk % 2) c.comm.members s.me).isSome && decide (8 ≤ chunk) && !(i.credits.contains (chunk - 8)))) = false := by
    refine Bool.or_eq_false_iff.2 ⟨?_, ?_⟩
    · simp only [Bool.not_eq_false', List.all_eq_true, List.find?_isSome]
      intro l hl
      obtain ⟨e, he, h1, h2⟩ := hkids l hl
      exact ⟨e, he, by simp [h1, h2]⟩
    · cases hp : (treeParent (chunk % 2) c.comm.members s.me).isSome with
      | false => rfl
      | true =>
        by_cases h8 : 8 ≤ chunk
        · rw [hcredit hp h8]
          simp
        · simp [h8]
  unfold workChunk
  rw [hi]
  dsimp only
  rw [hcall]
  dsimp only
  rw [hbusy, hnew, hready]
  simp only [Bool.false_eq_true, if_false, combinerStop, preDetect, hown, hgot]
  obtain ⟨u, hu⟩ : ∃ u, sendCredits (s.combine comm seq chunk (c.span chunk).2) i (chunk % 2) chunk
      (treeChildren (chunk % 2) c.comm.members s.me) = u := ⟨_, rfl⟩
  have hsent : Combined u comm seq (satAdd s.coll.combinedElements (c.span chunk).2) (i.combined ++ [chunk]) :=
    combined_same hbegun (hu ▸ sameColl_sendCredits rfl ..)
  unfold State.combine at hu
  rw [hu]
  split
  · split
    · exact hsent
    · exact combined_afterChunk hne (combined_same hsent (sameColl_storeWithSignal rfl ..))
  · refine combined_afterChunk hne (combined_modInst hne (combined_sendResult hne ?_ (inst?_names hi) ..) (fun _ => rfl) (fun _ => rfl) fun _ => rfl)
    split
    · exact hsent
    · exact combined_same hsent (sameColl_raiseNumeric (sameColl_writeElems rfl ..) ..)

end

/-! ### The collective timers (R292, R307, R311) -/

section
variable {s t u : State} {comm seq : BitVec 32} {i : Instance}

theorem commOf_of_contexts (h : t.contexts = s.contexts) (comm : BitVec 32) : t.commOf comm = s.commOf comm := by
  unfold State.commOf
  rw [h]

theorem dispatched_of_runOf {q : Nat} {e : HostDesc} (h : RunOf s i q e) : i.dispatched s = true := by
  have hdisp := h.dispatched
  obtain ⟨hdesc, hq, hfind, -, -⟩ := h
  unfold Instance.dispatched
  rw [hdesc]
  dsimp only
  rw [hfind]
  simp [hdisp]

theorem advanceCall_frame (s : State) (x : Nat) (comm : BitVec 32) : { advanceCall s x comm with contexts := s.contexts } = s := by
  unfold advanceCall
  dsimp only
  split <;> rfl

/-- A call that finds no slot is exhausted. -/
def State.exhaust (s : State) (comm seq : BitVec 32) : State :=
  raise { s with coll := { s.coll with
    exhausted := satAdd s.coll.exhausted 1
    slotless := s.coll.slotless.filter (fun e => decide (e ≠ (comm, seq)))
    past := ({ comm := comm, seq := seq, status := 0x0402, downs := [] } :: s.coll.past).take 64 } } 0x389

theorem exhaust_exhausts (s : State) (comm seq : BitVec 32) :
    (s.exhaust comm seq).coll.exhausted = satAdd s.coll.exhausted 1 ∧ (s.exhaust comm seq).coll.slotless.contains (comm, seq) = false ∧
    (s.exhaust comm seq).pastCall comm seq = some { comm := comm, seq := seq, status := 0x0402, downs := [] } ∧
    Pends 0x389 (s.exhaust comm seq) ∧ (s.exhaust comm seq).mem = s.mem := by
  have hcoll : (s.exhaust comm seq).coll = { s.coll with
      exhausted := satAdd s.coll.exhausted 1
      slotless := s.coll.slotless.filter (fun e => decide (e ≠ (comm, seq)))
      past := ({ comm := comm, seq := seq, status := 0x0402, downs := [] } :: s.coll.past).take 64 } :=
    (congrArg State.coll (raise_frame _ _) :)
  unfold State.pastCall
  rw [hcoll]
  refine ⟨rfl, ?_, ?_, raise_pending (sourceDead_global (by decide) (by decide) _), raise_mem ..⟩
  · simp
  · simp

theorem sendAllFrames_frame (s : State) (links : List (Nat × Nat)) (f : Nat → Nat → Frame) : { sendAllFrames s links f with out := s.out } = s := by
  unfold sendAllFrames
  exact sendFrames_frame (fun _ (l : Nat × Nat) => f l.1 l.2) (fun _ => 0) links s

/-- The RUN that waits for a call's slot ends with it. -/
def State.closeWaiting (s : State) (x : Nat) (c : Comm) (comm seq : BitVec 32) : State :=
  match waitingCall s x c seq with
  | none => s
  | some (q, d) =>
    let s := if d.call.isNone then advanceCall s x comm else s
    (s.modDesc x q d.seq (fun d => d.closeWith 0x0402)).modQueue x q Queue.settle

theorem contexts_modDesc (h : { t with contexts := s.contexts } = s) (x q n f) : { t.modDesc x q n f with contexts := s.contexts } = s := h

theorem contexts_modQueue (h : { t with contexts := s.contexts } = s) (x q f) : { t.modQueue x q f with contexts := s.contexts } = s := h

theorem closeWaiting_frame (s : State) (x : Nat) (c : Comm) (comm seq : BitVec 32) :
    { s.closeWaiting x c comm seq with contexts := s.contexts } = s := by
  unfold State.closeWaiting
  split
  · rfl
  · refine contexts_modQueue (contexts_modDesc ?_ ..) ..
    split
    · exact advanceCall_frame ..
    · rfl

theorem slotWaitTimeout_exhausts {x : Nat} {c : Comm} (hslot : s.coll.slotless.contains (comm, seq) = true) (hcomm : s.commOf comm = some (x, c)) :
    ∃ u : State, u.coll = s.coll ∧ u.mem = s.mem ∧ exec (.slotWaitTimeout comm seq) s = .next ((u.exhaust comm seq).closeWaiting x c comm seq) := by
  have hslot' : (endSnapshot s).coll.slotless.contains (comm, seq) = true := by rwa [endSnapshot_coll]
  have hcomm' : (endSnapshot s).commOf comm = some (x, c) := by rwa [commOf_of_contexts (endSnapshot_contexts s)]
  have hsends (links : List (Nat × Nat)) (f : Nat → Nat → Frame) : ∃ u, sendAllFrames (endSnapshot s) links f = u ∧ u.coll = s.coll ∧ u.mem = s.mem := by
    have hsent := sendAllFrames_frame (endSnapshot s) links f
    generalize sendAllFrames (endSnapshot s) links f = u at hsent ⊢
    have hcoll : u.coll = (endSnapshot s).coll := (congrArg State.coll hsent :)
    have hmem : u.mem = (endSnapshot s).mem := (congrArg State.mem hsent :)
    exact ⟨u, rfl, hcoll.trans (endSnapshot_coll s), hmem.trans (endSnapshot_mem s)⟩
  show ∃ u : State, u.coll = s.coll ∧ u.mem = s.mem ∧ execSlotWaitTimeout comm seq s = _
  unfold execSlotWaitTimeout
  dsimp only
  rw [hslot', hcomm']
  dsimp only
  cases treeParent 0 c.members (endSnapshot s).me with
  | some l =>
    obtain ⟨u, hu, hcoll, hmem⟩ := hsends [l] (fun st m => mkFrame (endSnapshot s) 3 0 m comm seq st 0 1 0 true (leBytes 8 0x0402))
    dsimp only
    rw [hu]
    exact ⟨u, hcoll, hmem, rfl⟩
  | none =>
    obtain ⟨u, hu, hcoll, hmem⟩ := hsends (treeChildren 0 c.members (endSnapshot s).me)
      (fun st m => mkFrame (endSnapshot s) 3 0 m comm seq st 0 1 0 true (leBytes 8 0x0402))
    dsimp only
    rw [hu]
    exact ⟨u, hcoll, hmem, rfl⟩

/-- A waiting call without a slot ends at its timeout (R292). -/
theorem slotWaitTimeout_ends {x : Nat} {c : Comm} (hslot : s.coll.slotless.contains (comm, seq) = true) (hcomm : s.commOf comm = some (x, c)) :
    Goes (exec (.slotWaitTimeout comm seq) s) (fun t =>
      t.coll.exhausted = satAdd s.coll.exhausted 1 ∧ t.coll.slotless.contains (comm, seq) = false ∧
      t.pastCall comm seq = some { comm := comm, seq := seq, status := 0x0402, downs := [] } ∧
      (smGet ({} : IrqSource) t.sources 0x389).pending = true ∧ t.mem = s.mem) := by
  obtain ⟨u, hcoll, hmem, hexec⟩ := slotWaitTimeout_exhausts hslot hcomm
  have ht := closeWaiting_frame (u.exhaust comm seq) x c comm seq
  generalize (u.exhaust comm seq).closeWaiting x c comm seq = t at hexec ht
  obtain ⟨hcount, hgone, hpast, hpend, hstays⟩ := exhaust_exhausts u comm seq
  have hc : t.coll = (u.exhaust comm seq).coll := (congrArg State.coll ht :)
  have hsources : t.sources = (u.exhaust comm seq).sources := (congrArg State.sources ht :)
  have hm : t.mem = (u.exhaust comm seq).mem := (congrArg State.mem ht :)
  have hp : t.pastCall comm seq = (u.exhaust comm seq).pastCall comm seq := by
    unfold State.pastCall
    rw [hc]
  refine ⟨t, hexec, ?_, ?_, hp.trans hpast, ?_, hm.trans (hstays.trans hmem)⟩
  · rw [hc, hcount, hcoll]
  · rw [hc, hgone]
  · rw [hsources]
    exact hpend

/-- A UP that waits for its answer is sent again. -/
def Instance.resent (round index : BitVec 3) (i : Instance) : Instance :=
  { i with pendingUp := mapWhere (fun u => decide (u.1.round = round) && decide (u.1.index = index)) (fun u => (u.1, u.2 + 1)) i.pendingUp }

theorem resent_ne_default (h : i ≠ {}) (round index : BitVec 3) : i.resent round index ≠ {} := by
  intro hd
  have hp : (i.resent round index).pendingUp = [] := by rw [hd]
  have hnil : i.pendingUp = [] := by simpa [Instance.resent, mapWhere] using hp
  refine h ?_
  rw [← hd]
  unfold Instance.resent
  rw [hnil]
  show i = { i with pendingUp := [] }
  rw [← hnil]

/-- The frames sent again are counted. -/
def State.countResends (s : State) (n : Nat) : State := { s with coll := { s.coll with resends := satAdd s.coll.resends n } }

theorem transitTimeout_eq {round index : BitVec 3} (h4 : round ≠ 4#3) (h2 : round ≠ 2#3) (hsnap : s.queueObjs.snapBusy = false)
    (hi : s.inst? comm seq = some i) : exec (.transitTimeout comm seq round index) s =
      let due := i.pendingUp.filter (fun u => decide (u.1.round = round) && decide (u.1.index = index))
      .next (((due.foldl (fun s u => sendFrame s u.1 (u.2 + 1)) s).modInst comm seq (Instance.resent round index)).countResends due.length) := by
  show execTransitTimeout comm seq round index s = _
  unfold execTransitTimeout
  rw [endSnapshot_idle hsnap]
  dsimp only
  rw [if_neg h4, hi]
  dsimp only
  rw [if_neg h2]
  rfl

theorem transitTimeout_resends {round index : BitVec 3} (h4 : round ≠ 4#3) (h2 : round ≠ 2#3) (hs : s.wf = true) (hsnap : s.queueObjs.snapBusy = false)
    (hi : s.inst? comm seq = some i) :
    let due (u : Frame × Nat) : Bool := decide (u.1.round = round) && decide (u.1.index = index)
    Goes (exec (.transitTimeout comm seq round index) s) (fun t =>
      (∃ j, t.inst? comm seq = some j ∧ j = { i with pendingUp := mapWhere due (fun u => (u.1, u.2 + 1)) i.pendingUp }) ∧
      t.coll.resends = satAdd s.coll.resends (i.pendingUp.filter due).length ∧ { t with coll := s.coll, out := s.out } = s) := by
  intro due
  have hexec : exec (.transitTimeout comm seq round index) s = .next ((((i.pendingUp.filter due).foldl (fun s u => sendFrame s u.1 (u.2 + 1)) s).modInst
    comm seq (Instance.resent round index)).countResends (i.pendingUp.filter due).length) := transitTimeout_eq h4 h2 hsnap hi
  obtain ⟨u, hu⟩ : ∃ u, (i.pendingUp.filter due).foldl (fun s u => sendFrame s u.1 (u.2 + 1)) s = u := ⟨_, rfl⟩
  have hsent := sendFrames_frame (fun _ (b : Frame × Nat) => b.1) (fun b => b.2 + 1) (i.pendingUp.filter due) s
  beta_reduce at hsent
  rw [hu] at hsent
  have hcoll : u.coll = s.coll := (congrArg State.coll hsent :)
  have hst : Stands u comm seq i := stands_coll (stands_of_wf hs hi) (by rw [hcoll])
  have hnext := stands_modInst hst (f := Instance.resent round index) rfl rfl (resent_ne_default hst.ne_default round index)
  have hres := congrArg Collectives.resends (modInst_coll u comm seq (Instance.resent round index))
  have hframe := modInst_frame u comm seq (Instance.resent round index)
  rw [hexec, hu]
  generalize u.modInst comm seq (Instance.resent round index) = w at hnext hres hframe ⊢
  have hw : { w with coll := s.coll, out := s.out } = s := by
    have hout : { w with coll := u.coll, out := s.out } = { u with out := s.out } := (congrArg (fun (t : State) => { t with out := s.out }) hframe :)
    rw [← hcoll]
    exact hout.trans hsent
  have hstays : (w.countResends (i.pendingUp.filter due).length).coll.instances = w.coll.instances := rfl
  refine ⟨_, rfl, ⟨_, (stands_coll hnext hstays).found, rfl⟩, ?_, hw⟩
  show satAdd w.coll.resends _ = _
  rw [← hcoll]
  exact congrArg (satAdd · _) hres

end

/-- Settles O29: a chunk whose inputs are there, a call without a slot, an UP without an answer, and a member past its deadline. -/
theorem chunksAndCollectiveTimers : Obligations.ChunksAndCollectiveTimers := by
  unfold Obligations.ChunksAndCollectiveTimers
  refine ⟨fun s comm seq chunk i c own got => ?_, fun s comm seq x c hslot hcomm => slotWaitTimeout_ends hslot hcomm,
    fun s comm seq round index i h4 h2 hs hsnap hi => transitTimeout_resends h4 h2 hs hsnap hi,
    fun s comm seq i q e hs hsnap hi hst hrel hrun => ?_⟩
  · intro kids k span hs hsnap hi hcall hst hchunk htransit hnew hkids hcredit hown hgot
    obtain ⟨-, hcount, hinst⟩ := workChunk_combines hs hi hcall hst hchunk htransit hnew hkids hcredit hown hgot
    refine ⟨_, rfl, ?_⟩
    rw [endSnapshot_idle hsnap]
    exact ⟨hcount, hinst⟩
  · have hdisp := dispatched_of_runOf hrun
    have hexec : exec (.collectiveDeadline comm seq) s = .next (memberAbort s i 0x0701) := by
      show execCollectiveDeadline comm seq s = _
      unfold execCollectiveDeadline
      rw [endSnapshot_idle hsnap]
      dsimp only
      rw [hi]
      dsimp only
      rw [if_neg (by omega), hdisp, decide_eq_true hst]
      rfl
    exact ⟨_, hexec, memberAbort_meets hrun hrel (by omega) 0x0701, (congrArg State.mem (collects_memberAbort (collects_refl s) i 0x0701) :)⟩

end Sys2Proof.Machine
end

section
/-! PROOFS. Replay and cascades. -/

namespace Sys2Proof.Machine

/-! ### Replay (R232) -/

/-- The context recovers with a replay set, and memory is as given. -/
structure Recovers (x : Nat) (rs : List (Nat × BitVec 64)) (m : Memory) (t : State) : Prop where
  wf : smWf {} t.contexts = true
  st : (t.ctx x).st = .recovering
  replaySet : (t.ctx x).replaySet = rs
  mem : t.mem = m

section
variable {x : Nat} {rs : List (Nat × BitVec 64)} {m : Memory} {s t u : State}

theorem recovers_same (h : Recovers x rs m t) (hc : u.contexts = t.contexts) (hm : u.mem = t.mem) : Recovers x rs m u := by
  obtain ⟨hwf, hst, hrs, hmem⟩ := h
  refine ⟨by rwa [hc], ?_, ?_, hm.trans hmem⟩
  · rwa [ctx_of_contexts hc]
  · rwa [ctx_of_contexts hc]

/-- A change of a context that leaves its state and its replay set. -/
theorem recovers_setCtx (h : Recovers x rs m t) {y : Nat} {c : Context} (hst : c.st = (t.ctx y).st) (hrs : c.replaySet = (t.ctx y).replaySet) :
    Recovers x rs m (t.setCtx y c) := by
  obtain ⟨hwf, hst', hrs', hmem⟩ := h
  have hread := State.ctx_setCtx_wf hwf y x c
  refine ⟨smWf_smSet hwf .., ?_, ?_, hmem⟩
  · rw [hread]
    split
    · next hy => rw [hst, ← hst', hy]
    · exact hst'
  · rw [hread]
    split
    · next hy => rw [hrs, ← hrs', hy]
    · exact hrs'

theorem recovers_foldl {α : Type} {f : State → α → State} (hf : ∀ t a, Recovers x rs m t → Recovers x rs m (f t a)) (l : List α)
    (h : Recovers x rs m t) : Recovers x rs m (l.foldl f t) :=
  List.foldlRecOn (motive := fun (t : State) => Recovers x rs m t) l f h fun t h a _ => hf t a h

theorem recovers_mk (h : Recovers x rs m t) {pending out draws clkc device cores slotMap spares counters syncFaults tailDiscards signals addends
    queueObjs training fabric coll drinex dict sources dests rel sec meter power} :
    Recovers x rs m (State.mk pending out draws clkc device t.mem cores slotMap spares counters syncFaults tailDiscards signals addends t.contexts
      queueObjs training fabric coll drinex dict sources dests rel sec meter power) := recovers_same h rfl rfl

theorem recovers_modDesc (h : Recovers x rs m t) (y q seq f) : Recovers x rs m (t.modDesc y q seq f) := recovers_setCtx h rfl rfl
theorem recovers_modQueue (h : Recovers x rs m t) (y q f) : Recovers x rs m (t.modQueue y q f) := recovers_setCtx h rfl rfl
theorem recovers_setCtr (h : Recovers x rs m t) (p c) : Recovers x rs m (t.setCtr p c) := recovers_mk h
theorem recovers_setCore (h : Recovers x rs m t) (g c) : Recovers x rs m (t.setCore g c) := recovers_mk h
theorem recovers_modEntry (h : Recovers x rs m t) (u g seq f) : Recovers x rs m (t.modEntry u g seq f) := recovers_mk h
theorem recovers_leaveWaits (h : Recovers x rs m t) (a) : Recovers x rs m (leaveWaits t a) := recovers_mk h

theorem recovers_raise (h : Recovers x rs m t) (n) : Recovers x rs m (raise t n) :=
  recovers_same h (reports_raise (reports_refl t) n).contexts (raise_mem ..)

theorem recovers_fault (h : Recovers x rs m t) (n) : Recovers x rs m (fault t n) :=
  recovers_same h (reports_fault (reports_refl t) n).contexts (fault_mem ..)

theorem recovers_blame (h : Recovers x rs m t) (a status) : Recovers x rs m (t.blame a status) := by
  unfold State.blame
  grind [recovers_modDesc]

theorem recovers_cancelWaiter (h : Recovers x rs m t) (a) : Recovers x rs m (t.cancelWaiter a) := by
  unfold State.cancelWaiter
  grind [recovers_modDesc, recovers_modEntry]

theorem recovers_endSnapshot (h : Recovers x rs m t) : Recovers x rs m (endSnapshot t) :=
  recovers_same h (endSnapshot_contexts t) (endSnapshot_mem t)

theorem recovers_releaseWaiters (h : Recovers x rs m t) (p) : Recovers x rs m (releaseWaiters t p) := by
  unfold releaseWaiters
  grind [recovers_setCtr, recovers_cancelWaiter, recovers_blame, recovers_foldl]

theorem recovers_freezeCounter (h : Recovers x rs m t) (p cause src) : Recovers x rs m (freezeCounter t p cause src) := by
  unfold freezeCounter
  grind [recovers_setCtr, recovers_fault, recovers_raise, recovers_releaseWaiters, recovers_blame, recovers_mk]

theorem recovers_signalCounter (h : Recovers x rs m t) (p a src reserved) : Recovers x rs m (signalCounter t p a src reserved) := by
  unfold signalCounter
  grind [recovers_blame, recovers_setCtr, recovers_freezeCounter, recovers_mk]

theorem recovers_returnCredit (h : Recovers x rs m t) (p) : Recovers x rs m (returnCredit t p) := by
  unfold returnCredit
  grind [recovers_setCtr, recovers_signalCounter]

theorem recovers_returnReservation (h : Recovers x rs m t) (u g e) : Recovers x rs m (returnReservation t u g e) := by
  unfold returnReservation returnReserve
  grind [recovers_setCtr, recovers_endSnapshot, recovers_modEntry]

theorem recovers_abandonOne (h : Recovers x rs m t) (u g e) : Recovers x rs m (abandonOne u g t e) := by
  unfold abandonOne
  grind [recovers_returnReservation, recovers_returnCredit, recovers_setCtr]

theorem recovers_stopUnit (h : Recovers x rs m t) (u g) : Recovers x rs m (stopUnit u g t) := by
  unfold stopUnit
  grind [recovers_abandonOne, recovers_setCore, recovers_foldl]

theorem recovers_stopCore (h : Recovers x rs m t) (g) : Recovers x rs m (stopCore t g) :=
  recovers_stopUnit (recovers_stopUnit (recovers_stopUnit h ..) ..) ..

theorem recovers_stopContext (h : Recovers x rs m t) (y) : Recovers x rs m (stopContext t y) :=
  recovers_foldl (fun _ g h => recovers_stopCore h g) _ h

theorem recovers_emptyWindows (h : Recovers x rs m t) (g) : Recovers x rs m (emptyWindows t g) := by
  unfold emptyWindows
  grind [recovers_leaveWaits, recovers_returnReservation, recovers_foldl]

theorem recovers_releaseCores (h : Recovers x rs m t) (y q seq) : Recovers x rs m (releaseCores t y q seq) :=
  recovers_setCtx (recovers_foldl (fun _ _ h => recovers_setCore h ..) _ h) rfl rfl

theorem recovers_rollBack (h : Recovers x rs m t) (set p) : Recovers x rs m (rollBack t set p) := by
  unfold rollBack
  grind [recovers_setCtr]

theorem recovers_startCore (h : Recovers x rs m t) (g) : Recovers x rs m (startCore t g) := recovers_setCore h ..

theorem recovers_withdrawCore (h : Recovers x rs m t) (g) : Recovers x rs m (withdrawCore t g) := recovers_setCore h ..

/-- The descriptors of a replay set stand ready to be dispatched again. -/
def State.redispatch (s : State) (x : Nat) (set : List (Nat × HostDesc)) : State :=
  set.foldl (fun s d => (s.modDesc x d.1 d.2.seq (fun k => k.again (waitsAnew s x set k))).modQueue x d.1 Queue.settle) s

/-- The replay set of a context with some descriptors more. -/
def State.replaySetWith (s : State) (x : Nat) (set : List (Nat × HostDesc)) : List (Nat × BitVec 64) :=
  ((s.ctx x).replaySet ++ set.map (fun d => (d.1, d.2.seq))).eraseDups

theorem recovers_begins (hs : smWf {} s.contexts = true) {c : Context} (hst : c.st = .recovering) : Recovers x c.replaySet s.mem (s.setCtx x c) := by
  have hread : (s.setCtx x c).ctx x = c := (State.ctx_setCtx_wf hs x x c).trans (if_pos rfl)
  exact ⟨smWf_smSet hs .., by rw [hread, hst], by rw [hread], rfl⟩

/-- What a replay comes to: from a context that recovers, its counters are rolled back, its calls are run again, and it dispatches again. -/
theorem replayStart_eq {k : Nat} {h : HostDesc} {set : List (Nat × HostDesc)} (hs : s.wf = true) (hhead : replayHead s x = some (k, h))
    (hst : (s.ctx x).st = .ready ∨ (s.ctx x).st = .recovering) (hset : replayGroup s x h = set) (hwait : replayWaits s x set = false) :
    ∃ u, Recovers x (s.replaySetWith x set) s.mem u ∧ replayStart s x =
      (set.foldl (fun s d => rerunCall s d.2) ((replayCounters set).foldl (fun s p => rollBack s set p) u)).redispatch x set := by
  obtain ⟨-, -, -, hcontexts, -⟩ := State.wf_iff.1 hs
  have hready : [CtxState.ready, .recovering].contains (s.ctx x).st = true := by
    rcases hst with hst | hst <;> rw [hst] <;> rfl
  unfold replayStart
  rw [hhead]
  dsimp only
  rw [hready, hset, hwait, if_neg (by decide)]
  refine ⟨_, ?_, rfl⟩
  refine recovers_foldl (fun t d h => recovers_modDesc (recovers_leaveWaits h _) ..) _ ?_
  refine recovers_foldl (fun t g h => recovers_startCore h g) _ ?_
  refine recovers_foldl (fun t d h => recovers_releaseCores h ..) _ ?_
  refine recovers_foldl (fun t g h => recovers_setCore h ..) _ ?_
  refine recovers_foldl (fun t g h => recovers_withdrawCore (recovers_emptyWindows h g) g) _ ?_
  refine recovers_stopContext ?_ x
  exact recovers_begins hcontexts (c := { s.ctx x with
    st := .recovering
    replaySet := s.replaySetWith x set
    replayed := ((s.ctx x).replayed ++ (replayCounters set).filter (fun p => !((s.ctr p).monotonic))).eraseDups }) rfl

theorem rerunCall_none {d : HostDesc} (h : d.call = none) : rerunCall t d = t := by
  unfold rerunCall
  rw [h]

theorem redispatch_recovers (h : Recovers x rs m t) (set : List (Nat × HostDesc)) : Recovers x rs m (t.redispatch x set) ∧
    (t.redispatch x set).counters = t.counters := by
  unfold State.redispatch
  constructor
  · exact recovers_foldl (fun t d h => recovers_modQueue (recovers_modDesc h ..) ..) _ h
  · exact List.foldlRecOn (motive := fun (u : State) => u.counters = t.counters) set _ rfl fun u hu d _ => hu

/-- A counter that is not frozen is in monotonic mode. -/
def Rolled (t : State) (p : Nat) : Prop := (t.ctr p).frozen = false → (t.ctr p).monotonic = true

theorem rollBack_rolls (t : State) (set : List (Nat × HostDesc)) (p : Nat) : Rolled (rollBack t set p) p ∧
    ∀ r, Rolled t r → Rolled (rollBack t set p) r := by
  unfold rollBack
  dsimp only
  split
  · next hfrozen => exact ⟨fun h => absurd hfrozen (by rw [h]; decide), fun r h => h⟩
  · next hfrozen =>
    generalize hc : ({ t.ctr p with monotonic := true, produced := _, consumed := _, cancelled := false } : Counter) = c
    have hmono : c.monotonic = true := by rw [← hc]
    have hne : c ≠ {} := fun h => by rw [h] at hmono; cases hmono
    have hown : Rolled (t.setCtr p c) p := fun _ => by
      rw [show (t.setCtr p c).ctr p = c from smGet_smSet_ne hne ..]
      exact hmono
    refine ⟨hown, fun r hr => ?_⟩
    by_cases hrp : r = p
    · exact hrp ▸ hown
    · unfold Rolled
      rw [show (t.setCtr p c).ctr r = t.ctr r from smGet_smSet_ne_other hne _ hrp]
      exact hr

theorem foldl_rollBack_rolls (set : List (Nat × HostDesc)) (l : List Nat) (t : State) :
    ∀ p, p ∈ l ∨ Rolled t p → Rolled (l.foldl (fun s p => rollBack s set p) t) p := by
  induction l generalizing t with
  | nil => exact fun p h => h.resolve_left (List.not_mem_nil)
  | cons q l ih =>
    intro p h
    obtain ⟨hown, hkeep⟩ := rollBack_rolls t set q
    refine ih _ p ?_
    rcases h with h | h
    · rcases List.mem_cons.1 h with rfl | h
      · exact .inr hown
      · exact .inl h
    · exact .inr (hkeep p h)

/-- The head of a replay is a descriptor of the context that was dispatched and has no outcome yet. -/
theorem replayHead_mem {k : Nat} {h : HostDesc} (hhead : replayHead s x = some (k, h)) : (k, h) ∈ (s.ctx x).allDescs ∧
    h.undispatched = false ∧ h.decided = false ∧ h.marked = false := by
  unfold replayHead at hhead
  have hmem (l : List (Nat × HostDesc)) (b : Option (Nat × HostDesc)) (e : Nat × HostDesc) (he : l.foldl (fun b d => match b with
      | none => some d
      | some e => if d.2.turn < e.2.turn then some d else b) b = some e) : b = some e ∨ e ∈ l := by
    induction l generalizing b with
    | nil => exact .inl he
    | cons d l ih =>
      rw [List.foldl_cons] at he
      rcases ih _ he with hb | hl
      · cases b with
        | none => exact .inr (by cases hb; exact List.mem_cons_self)
        | some a =>
          dsimp only at hb
          split at hb
          · exact .inr (by cases hb; exact List.mem_cons_self)
          · exact .inl hb
      · exact .inr (List.mem_cons_of_mem _ hl)
  have hin := (hmem _ none _ hhead).resolve_left (by simp)
  simp only [List.mem_filter, Bool.and_eq_true, Bool.not_eq_true'] at hin
  obtain ⟨hall, ⟨⟨hdisp, hdec⟩, hmark⟩, -⟩ := hin
  exact ⟨hall, hdisp, hdec, hmark⟩

theorem replayGroup_mem {h : HostDesc} {d : Nat × HostDesc} (hd : d ∈ replayGroup s x h) : d ∈ (s.ctx x).allDescs := by
  unfold replayGroup at hd
  simp only [List.mem_append, List.mem_filter] at hd
  rcases hd with ⟨⟨hd, -⟩, -⟩ | ⟨⟨hd, -⟩, -⟩
  · exact hd
  · exact hd

theorem replayHead_group {k : Nat} {h : HostDesc} (hhead : replayHead s x = some (k, h)) : (k, h) ∈ replayGroup s x h := by
  obtain ⟨hall, hdisp, hdec, hmark⟩ := replayHead_mem hhead
  unfold replayGroup
  refine List.mem_append_left _ (List.mem_filter.2 ⟨List.mem_filter.2 ⟨hall, by simp [hdec]⟩, ?_⟩)
  simp [hdisp, hmark]

theorem mem_replayCounters {set : List (Nat × HostDesc)} {d : Nat × HostDesc} {r : Nat × Bool} (hd : d ∈ set) (hr : r ∈ d.2.named) :
    r.1 ∈ replayCounters set :=
  List.mem_eraseDups.2 (List.mem_map_of_mem (List.mem_flatMap.2 ⟨d, hd, hr⟩))

/-- A context that replays recovers, and the counters of the failed descriptor are rolled back. -/
theorem replay_recovers {k : Nat} {h : HostDesc} (hs : s.wf = true) (hhead : replayHead s x = some (k, h))
    (hst : (s.ctx x).st = .ready ∨ (s.ctx x).st = .recovering) (hwait : replayWaits s x (replayGroup s x h) = false)
    (hcall : ∀ e ∈ (s.ctx x).allDescs, e.2.call = none) :
    ((replayStart s x).ctx x).st = .recovering ∧ ((replayStart s x).ctx x).replaySet.contains (k, h.seq) = true ∧
    (∀ r ∈ h.named, Rolled (replayStart s x) r.1) ∧ (replayStart s x).mem = s.mem := by
  have hgroup := replayHead_group hhead
  generalize hset : replayGroup s x h = set at hwait hgroup
  obtain ⟨u, hu, heq⟩ := replayStart_eq hs hhead hst hset hwait
  have hsame (t : State) : set.foldl (fun s d => rerunCall s d.2) t = t :=
    List.foldlRecOn (motive := fun u => u = t) set _ rfl fun u hu d hd => by
      rw [rerunCall_none (hcall d (replayGroup_mem (hset ▸ hd))), hu]
  have hback := recovers_foldl (f := fun s p => rollBack s set p) (fun t p h => recovers_rollBack h set p) (replayCounters set) hu
  have hrolled := foldl_rollBack_rolls set (replayCounters set) u
  rw [hsame] at heq
  generalize (replayCounters set).foldl (fun s p => rollBack s set p) u = w at heq hback hrolled
  obtain ⟨⟨-, hst', hrs, hmem⟩, hctr⟩ := redispatch_recovers hback set
  rw [heq]
  refine ⟨hst', ?_, fun r hr => ?_, hmem⟩
  · rw [hrs]
    unfold State.replaySetWith
    rw [List.contains_iff_mem, List.mem_eraseDups]
    exact List.mem_append_right _ (List.mem_map.2 ⟨(k, h), hgroup, rfl⟩)
  · have hw := hrolled r.1 (.inl (mem_replayCounters hgroup hr))
    unfold Rolled
    rw [State.ctr_congr hctr]
    exact hw

end

/-! ### Cascades (R233) -/

/-- One mark of a cascade is cleared. -/
def State.clearMark (s : State) (x v : Nat) : State :=
  let t := s.transEntry x v
  if !(trValid t) then s
  else match trKind t with
    | 0 => if (s.ctr (trTarget t)).waiters.isEmpty then s.setCtr (trTarget t) (s.ctr (trTarget t)).clear else s
    | 2 => if (s.barrierWaiters x (trTarget t)).isEmpty then
        s.setBarrier x (trTarget t) (s.barrier x (trTarget t)).clear else s
    | _ => s

/-- A mark names a counter that nobody waits on. -/
def MarkFree (s : State) (x v : Nat) : Prop :=
  trValid (s.transEntry x v) = true ∧ trKind (s.transEntry x v) = 0 ∧ (s.ctr (trTarget (s.transEntry x v))).waiters = []

/-- From one state to another the counters of some marks have been cleared. -/
structure Clears (s : State) (x : Nat) (done : List Nat) (t : State) : Prop where
  contexts : smWf {} t.contexts = true
  counters : smWf {} t.counters = true
  trans : (t.ctx x).trans = (s.ctx x).trans
  cascades : (t.ctx x).cascades = (s.ctx x).cascades
  waiters : ∀ p, (t.ctr p).waiters = (s.ctr p).waiters
  cleared : ∀ v ∈ done, MarkFree s x v → (t.ctr (trTarget (s.transEntry x v))).cancelled = false ∧
    (t.ctr (trTarget (s.transEntry x v))).produced = 0
  frame : { t with contexts := s.contexts, counters := s.counters } = s

section
variable {s t : State} {x : Nat} {done : List Nat}

theorem Clears.transEntry (h : Clears s x done t) (v : Nat) : t.transEntry x v = s.transEntry x v := by
  unfold State.transEntry
  rw [h.trans]

theorem clears_setCtr (h : Clears s x done t) (p : Nat) : Clears s x done (t.setCtr p (t.ctr p).clear) ∧
    ∀ q, ((t.setCtr p (t.ctr p).clear).ctr q) = if q = p then (t.ctr p).clear else t.ctr q := by
  have hread := State.ctr_setCtr_wf h.counters p (c := (t.ctr p).clear)
  refine ⟨⟨h.contexts, smWf_smSet h.counters .., h.trans, h.cascades, fun q => ?_, fun v hv hfree => ?_, h.frame⟩, hread⟩
  · rw [hread, ← h.waiters q]
    split
    · next hq => rw [hq]; rfl
    · rfl
  · rw [hread]
    split
    · exact ⟨rfl, rfl⟩
    · exact h.cleared v hv hfree

theorem clears_setBarrier (h : Clears s x done t) (k : Nat) (b : Barrier) : Clears s x done (t.setBarrier x k b) := by
  have hread : (t.setBarrier x k b).ctx x = (t.ctx x).modBarrier k (fun _ => b) := (State.ctx_setCtx_wf h.contexts x x _).trans (if_pos rfl)
  exact ⟨smWf_smSet h.contexts .., h.counters, by rw [hread]; exact h.trans, by rw [hread]; exact h.cascades, h.waiters, h.cleared, h.frame⟩

theorem clears_clearMark (h : Clears s x done t) (v : Nat) : Clears s x done (t.clearMark x v) ∧
    (MarkFree s x v → ((t.clearMark x v).ctr (trTarget (s.transEntry x v))).cancelled = false ∧
      ((t.clearMark x v).ctr (trTarget (s.transEntry x v))).produced = 0) := by
  unfold State.clearMark
  rw [h.transEntry]
  dsimp only
  generalize hp : trTarget (s.transEntry x v) = p
  obtain ⟨hclear, hread⟩ := clears_setCtr h p
  constructor
  · split
    · exact h
    · split
      · split
        · exact hclear
        · exact h
      · split
        · exact clears_setBarrier h ..
        · exact h
      · exact h
  · rintro ⟨hvalid, hkind, hwaits⟩
    have hempty : (t.ctr p).waiters.isEmpty = true := by rw [h.waiters p, ← hp, hwaits]; rfl
    rw [hvalid, hkind]
    simp only [Bool.not_true, Bool.false_eq_true, if_false, hempty, if_true]
    rw [hread, if_pos rfl]
    exact ⟨rfl, rfl⟩

theorem clears_foldl (l : List Nat) (h : Clears s x done t) : Clears s x (l.reverse ++ done) (l.foldl (fun s v => s.clearMark x v) t) := by
  induction l generalizing t done with
  | nil => exact h
  | cons v l ih =>
    obtain ⟨hkeep, hown⟩ := clears_clearMark h v
    have hnext : Clears s x (v :: done) (t.clearMark x v) := ⟨hkeep.contexts, hkeep.counters, hkeep.trans, hkeep.cascades, hkeep.waiters,
      fun w hw hfree => (List.mem_cons.1 hw).elim (fun hwv => by subst hwv; exact hown hfree) (fun hw => hkeep.cleared w hw hfree), hkeep.frame⟩
    rw [List.reverse_cons, List.append_assoc]
    exact ih hnext

/-- A cascade whose descriptors have all gone ends, and its marks with it. -/
theorem cascadeStep_ends {q : Nat} {seq : BitVec 64} {k : Cascade} (hs : s.wf = true)
    (hk : (s.ctx x).cascades.find? (fun k => k.queue == q && decide (k.seq = seq)) = some k) (hstarted : k.started = true)
    (hnext : cascadeNext (s.ctx x) k = none) (hgone : ∀ m ∈ k.members, ∀ d ∈ (s.ctx x).allDescs, ¬(d.1 = m.1 ∧ d.2.seq = m.2))
    (hmark : markUnderWay s x k.vids = false) :
    (∀ e ∈ ((cascadeStep s x q seq).ctx x).cascades, ¬(e.queue = q ∧ e.seq = seq)) ∧
    (∀ v ∈ k.vids, MarkFree s x v → ((cascadeStep s x q seq).ctr (trTarget (s.transEntry x v))).cancelled = false ∧
      ((cascadeStep s x q seq).ctr (trTarget (s.transEntry x v))).produced = 0) ∧
    { cascadeStep s x q seq with contexts := s.contexts, counters := s.counters } = s := by
  obtain ⟨-, -, hcounters, hcontexts, -⟩ := State.wf_iff.1 hs
  have hlive : k.members.any (fun m => (s.ctx x).allDescs.any (fun d => d.1 == m.1 && decide (d.2.seq = m.2))) = false := by
    simp only [List.any_eq_false]
    intro m hm
    rw [Bool.not_eq_true, List.any_eq_false]
    intro d hd
    simpa using hgone m hm d hd
  obtain ⟨c, hc⟩ : ∃ c, { s.ctx x with cascades := (s.ctx x).cascades.filter (fun e => !(e.queue == q && decide (e.seq = seq))) } = c := ⟨_, rfl⟩
  have hcascades : c.cascades = (s.ctx x).cascades.filter (fun e => !(e.queue == q && decide (e.seq = seq))) := by rw [← hc]
  have htrans : c.trans = (s.ctx x).trans := by rw [← hc]
  have heq : cascadeStep s x q seq = k.vids.foldl (fun s v => s.clearMark x v) (s.setCtx x c) := by
    unfold cascadeStep
    dsimp only
    rw [hk]
    dsimp only
    rw [hstarted, hnext, hlive, hmark, hc]
    rfl
  have hread : (s.setCtx x c).ctx x = c := (State.ctx_setCtx_wf hcontexts x x c).trans (if_pos rfl)
  have hbegin : Clears (s.setCtx x c) x [] (s.setCtx x c) :=
    ⟨smWf_smSet hcontexts .., hcounters, rfl, rfl, fun _ => rfl, fun _ hv => absurd hv List.not_mem_nil, rfl⟩
  have hend := clears_foldl k.vids hbegin
  have htrans' (v : Nat) : (s.setCtx x c).transEntry x v = s.transEntry x v := by
    unfold State.transEntry
    rw [hread, htrans]
  rw [heq]
  generalize k.vids.foldl (fun s v => s.clearMark x v) (s.setCtx x c) = w at hend ⊢
  have hframe : { w with contexts := s.contexts, counters := s.counters } = s :=
    (congrArg (fun u : State => { u with contexts := s.contexts, counters := s.counters }) hend.frame :)
  refine ⟨fun e he => ?_, fun v hv hfree => ?_, hframe⟩
  · rw [hend.cascades, hread, hcascades] at he
    have := (List.mem_filter.1 he).2
    rintro ⟨hq, hseq⟩
    simp [hq, hseq] at this
  · rw [← htrans' v]
    refine hend.cleared v (by simpa using hv) ?_
    unfold MarkFree
    rw [htrans' v]
    exact hfree

theorem cascadeRun_names (s : State) (x : Nat) (k : Cascade) (n : Nat) :
    (cascadeRun s x k n).2.queue = k.queue ∧ (cascadeRun s x k n).2.seq = k.seq := by
  induction n with
  | zero => exact ⟨rfl, rfl⟩
  | succ n ih =>
    unfold cascadeRun
    dsimp only
    split
    · exact ih
    · exact ih

/-- A cascade that has not begun begins. -/
theorem cascadeStep_starts {q : Nat} {seq : BitVec 64} {k : Cascade}
    (hk : (s.ctx x).cascades.find? (fun k => k.queue == q && decide (k.seq = seq)) = some k) (hstarted : k.started = false) :
    ∃ k', k' ∈ ((cascadeStep s x q seq).ctx x).cascades ∧ k'.queue = q ∧ k'.seq = seq ∧ k'.started = true := by
  have hp := List.find?_some hk
  simp only [Bool.and_eq_true, beq_iff_eq, decide_eq_true_eq] at hp
  obtain ⟨hqueue, hseq⟩ := cascadeRun_names s x k (s.ctx x).allDescs.length
  unfold cascadeStep
  dsimp only
  rw [hk]
  dsimp only
  rw [hstarted]
  obtain ⟨r, hr⟩ : ∃ r, cascadeRun s x k (s.ctx x).allDescs.length = r := ⟨_, rfl⟩
  rw [hr] at hqueue hseq ⊢
  rw [if_pos (by simp)]
  have hread (c : Context) (hc : c.cascades ≠ []) : (r.1.setCtx x c).ctx x = c := smGet_smSet_ne (fun h => hc (by rw [h])) ..
  rw [hread _ (by simp)]
  exact ⟨_, List.mem_append_right _ List.mem_cons_self, hqueue.trans hp.1, hseq.trans hp.2, rfl⟩

end

end Sys2Proof.Machine
end

section
/-! PROOFS. Snapshots, relocation and lost parts (O17). -/

namespace Sys2Proof.Machine

/-! ### The end of a snapshot (R236) -/

section
variable {s t u : State}

theorem endSnapshot_twice (s : State) : endSnapshot (endSnapshot s) = endSnapshot s := endSnapshot_idle (endSnapshot_snapBusy s)

/-- A snapshot that is started takes the state as it is. -/
theorem snapshotStart_takes {r : Nat} (hidle : s.queueObjs.snapBusy = false) (halign : s.queueObjs.snapAddress.toNat % 4096 = 0)
    (hrange : s.rangeOk none s.queueObjs.snapAddress.toNat snapshotBytes = true) (hregion : s.regionId s.queueObjs.snapAddress.toNat = some r)
    (hr : r ≤ 16) : snapshotStart s = .ok (takeSnapshot { s with queueObjs := { s.queueObjs with snapBusy := true, snapDone := 0 } }
      s.queueObjs.snapAddress.toNat) := by
  unfold snapshotStart
  dsimp only
  rw [hidle, halign, hrange, hregion]
  simp [hr]

theorem ownObject_snapshotCommand : OwnObject 0x5000 3 1 := by constructor <;> decide +kernel

/-- The commands that end a snapshot before they act. -/
def EndsSnapshot (c : Instr) : Prop := ∀ s, exec c (endSnapshot s) = exec c s

/-- A command ends a snapshot first if all it does follows from the state after the snapshot's end. -/
theorem endsSnapshot_of {c : Instr} {f : State → Host.Outcome State Fault Refusal} (hc : ∀ s, exec c s = f s) (hf : ∀ s, f (endSnapshot s) = f s) :
    EndsSnapshot c := fun s => by rw [hc, hc, hf]

/-- The commands of queues, contexts and the journal that end a snapshot. -/
def hostSteps (x : CtxId) (q : QueueId) (seq : BitVec 64) : List Instr :=
    [Instr.accept x q, .acceptAdvance x q, .run x q, .planLoad x q, .planUnload x q, .planUnloadTakeEffect x, .sync x q, .vtSet x q,
      .commit x q, .commitComplete x q, .replay x, .cancelCascade x q seq, .contextResetFinish x, .journalRelocationComplete]

theorem endsSnapshot_host (x : CtxId) (q : QueueId) (seq : BitVec 64) : ∀ c ∈ hostSteps x q seq, EndsSnapshot c := by
  simp only [hostSteps, List.forall_mem_cons]
  exact ⟨
    endsSnapshot_of (f := execAccept x q) (fun _ => rfl) fun s => by unfold execAccept; rw [endSnapshot_twice],
    endsSnapshot_of (f := execAcceptAdvance x q) (fun _ => rfl) fun s => by unfold execAcceptAdvance; rw [endSnapshot_twice],
    endsSnapshot_of (f := execRun x q) (fun _ => rfl) fun s => by unfold execRun; rw [endSnapshot_twice],
    endsSnapshot_of (f := execPlanLoad x q) (fun _ => rfl) fun s => by unfold execPlanLoad; rw [endSnapshot_twice],
    endsSnapshot_of (f := execPlanUnload x q) (fun _ => rfl) fun s => by unfold execPlanUnload; rw [endSnapshot_twice],
    endsSnapshot_of (f := execPlanUnloadTakeEffect x) (fun _ => rfl) fun s => by unfold execPlanUnloadTakeEffect; rw [endSnapshot_twice],
    endsSnapshot_of (f := execSync x q) (fun _ => rfl) fun s => by unfold execSync; rw [endSnapshot_twice],
    endsSnapshot_of (f := execVtSet x q) (fun _ => rfl) fun s => by unfold execVtSet; rw [endSnapshot_twice],
    endsSnapshot_of (f := execCommit x q) (fun _ => rfl) fun s => by unfold execCommit; rw [endSnapshot_twice],
    endsSnapshot_of (f := execCommitComplete x q) (fun _ => rfl) fun s => by unfold execCommitComplete; rw [endSnapshot_twice],
    endsSnapshot_of (f := execReplay x) (fun _ => rfl) fun s => by unfold execReplay; rw [endSnapshot_twice],
    endsSnapshot_of (f := execCancelCascade x q seq) (fun _ => rfl) fun s => by unfold execCancelCascade; rw [endSnapshot_twice],
    endsSnapshot_of (f := execContextResetFinish x) (fun _ => rfl) fun s => by unfold execContextResetFinish; rw [endSnapshot_twice],
    endsSnapshot_of (f := execJournalRelocationComplete) (fun _ => rfl) fun s => by unfold execJournalRelocationComplete; rw [endSnapshot_twice],
    fun _ hc => absurd hc List.not_mem_nil⟩

/-- The commands of counters and barriers that end a snapshot. -/
def syncSteps (p : Fin 65536) (a : BitVec 32) (w : Actor) (x : CtxId) (k : Fin 256) (m : Nat) : List Instr :=
    [Instr.counterSignal p a w, .counterWait p w, .counterGrant p, .cancelMark p, .barrierEnter x k m w]

theorem endsSnapshot_sync (p : Fin 65536) (a : BitVec 32) (w : Actor) (x : CtxId) (k : Fin 256) (m : Nat) : ∀ c ∈ syncSteps p a w x k m, EndsSnapshot c := by
  simp only [syncSteps, List.forall_mem_cons]
  exact ⟨
    endsSnapshot_of (f := execCounterSignal p a w) (fun _ => rfl) fun s => by unfold execCounterSignal; rw [endSnapshot_twice],
    endsSnapshot_of (f := execCounterWait p w) (fun _ => rfl) fun s => by unfold execCounterWait; rw [endSnapshot_twice],
    endsSnapshot_of (f := execCounterGrant p) (fun _ => rfl) fun s => by unfold execCounterGrant; rw [endSnapshot_twice],
    endsSnapshot_of (f := execCancelMark p) (fun _ => rfl) fun s => by unfold execCancelMark; rw [endSnapshot_twice],
    endsSnapshot_of (f := execBarrierEnter x k m w) (fun _ => rfl) fun s => by unfold execBarrierEnter; rw [endSnapshot_twice],
    fun _ hc => absurd hc List.not_mem_nil⟩

/-- The commands of collectives that end a snapshot, and that of a tail-signal. -/
def collectiveSteps (f : Frame) (comm n : BitVec 32) (j : Nat) (det : Detect) (rd ix : BitVec 3) (src : BitVec 14) : List Instr :=
    [Instr.transitUp f, .transitDown f, .abort f, .rerun f, .credit f, .chunkCombine comm n j det, .slotWaitTimeout comm n,
      .transitTimeout comm n rd ix, .collectiveDeadline comm n, .tailSignalApply src]

theorem endsSnapshot_collectives (f : Frame) (comm n : BitVec 32) (j : Nat) (det : Detect) (rd ix : BitVec 3) (src : BitVec 14) : ∀ c ∈ collectiveSteps f comm n j det rd ix src, EndsSnapshot c := by
  simp only [collectiveSteps, List.forall_mem_cons]
  exact ⟨
    endsSnapshot_of (f := execTransitUp f) (fun _ => rfl) fun s => by unfold execTransitUp; rw [endSnapshot_twice],
    endsSnapshot_of (f := execTransitDown f) (fun _ => rfl) fun s => by unfold execTransitDown; rw [endSnapshot_twice],
    endsSnapshot_of (f := execAbort f) (fun _ => rfl) fun s => by unfold execAbort; rw [endSnapshot_twice],
    endsSnapshot_of (f := execRerun f) (fun _ => rfl) fun s => by unfold execRerun; rw [endSnapshot_twice],
    endsSnapshot_of (f := execCredit f) (fun _ => rfl) fun s => by unfold execCredit; rw [endSnapshot_twice],
    endsSnapshot_of (f := execChunkCombine comm n j det) (fun _ => rfl) fun s => by unfold execChunkCombine; rw [endSnapshot_twice],
    endsSnapshot_of (f := execSlotWaitTimeout comm n) (fun _ => rfl) fun s => by unfold execSlotWaitTimeout; rw [endSnapshot_twice],
    endsSnapshot_of (f := execTransitTimeout comm n rd ix) (fun _ => rfl) fun s => by unfold execTransitTimeout; rw [endSnapshot_twice],
    endsSnapshot_of (f := execCollectiveDeadline comm n) (fun _ => rfl) fun s => by unfold execCollectiveDeadline; rw [endSnapshot_twice],
    endsSnapshot_of (f := execTailSignalApply src) (fun _ => rfl) fun s => by unfold execTailSignalApply; rw [endSnapshot_twice],
    fun _ hc => absurd hc List.not_mem_nil⟩

/-! ### The journal's relocation (R225) -/

/-- A lost journal channel is copied to the lowest other channel that its die has. -/
theorem relocate_begins {lost r c : Nat} {rest : List Nat} (hin : s.mem.journal.contains lost = true) (hlost : s.mem.channels.getLsbD lost = false)
    (hrest : s.mem.journal.filter (· ≠ lost) = r :: rest)
    (hcan : c < 8 ∧ c / 4 = lost / 4 ∧ c ≠ lost ∧ s.mem.channels.getLsbD c = true ∧ c ∉ r :: rest)
    (hfirst : ∀ k < c, ¬(k < 8 ∧ k / 4 = lost / 4 ∧ k ≠ lost ∧ s.mem.channels.getLsbD k = true ∧ k ∉ r :: rest)) :
    (relocate s lost).mem = { s.mem with journal := r :: rest, relocating := some (r, c) } := by
  obtain ⟨hc8, hdie, hne, hch, hnew⟩ := hcan
  have hfind : (List.range 8).find? (fun c => c / 4 == lost / 4 && c != lost && s.mem.channels.getLsbD c && !((r :: rest).contains c)) = some c := by
    rw [List.find?_range_eq_some]
    refine ⟨by simp [hdie, hne, hch]; simpa using hnew, List.mem_range.2 hc8, fun k hk => ?_⟩
    have hno := hfirst k hk
    by_contra hyes
    refine hno ⟨by omega, ?_⟩
    simpa [and_assoc] using hyes
  have hm := raise_mem { s with mem := { s.mem with journal := r :: rest } } 0x38D
  unfold relocate
  dsimp only
  rw [hin, hlost, hrest, hfind]
  dsimp only
  generalize raise _ 0x38D = w at hm ⊢
  show { w.mem with relocating := some (r, c) } = _
  rw [hm]

/-- Bytes of one area put into another. -/
theorem byte_copied {l : SMap (BitVec 8)} {lo r c : Nat} {m : Memory} (hl :
    smWfFrom 0 lo l = true) (hr : ∀ e ∈ l, r ≤ e.1) (hm : m.wf = true) (i : Nat) :
    (l.foldl (fun (m : Memory) e => m.setByte (e.1 - r + c) e.2) m).byte (c + i) =
      if smGet 0 l (r + i) ≠ 0 then smGet 0 l (r + i) else m.byte (c + i) := by
  induction l generalizing lo m with
  | nil => exact (if_neg (not_not.2 rfl)).symm
  | cons e l ih =>
    obtain ⟨k, v⟩ := e
    simp only [smWfFrom, Bool.and_eq_true, decide_eq_true_eq] at hl
    obtain ⟨⟨-, hv⟩, hrest⟩ := hl
    have hk : r ≤ k := hr (k, v) List.mem_cons_self
    rw [List.foldl_cons, ih hrest (fun e he => hr e (List.mem_cons_of_mem _ he)) (Memory.wf_setByte hm ..), Memory.byte_setByte hm]
    by_cases hki : k = r + i
    · subst hki
      rw [smGet_cons_same, smGet_of_wfFrom hrest (Nat.lt_succ_self _), if_neg (not_not.2 rfl), if_pos (by omega), if_pos hv]
    · rw [smGet_cons_other hrest hki, if_neg (show ¬c + i = k - r + c by omega)]

/-- Nothing else changes. -/
theorem byte_notCopied {l : SMap (BitVec 8)} {r c a : Nat} {m : Memory} (hl : ∀ e ∈ l, e.1 - r + c ≠ a) (hm : m.wf = true) :
    (l.foldl (fun (m : Memory) e => m.setByte (e.1 - r + c) e.2) m).byte a = m.byte a := by
  induction l generalizing m with
  | nil => rfl
  | cons e l ih =>
    rw [List.foldl_cons, ih (fun e he => hl e (List.mem_cons_of_mem _ he)) (Memory.wf_setByte hm ..), Memory.byte_setByte hm,
      if_neg (Ne.symm (hl e List.mem_cons_self))]

/-- Memory with an area of n bytes copied from r to c. -/
def Memory.copyArea (m : Memory) (r c n : Nat) : Memory :=
  (m.cells.filter (fun e => decide (r ≤ e.1) && decide (e.1 < r + n))).foldl (fun (m : Memory) e => m.setByte (e.1 - r + c) e.2)
    { m with cells := m.cells.filter (fun e => decide (e.1 < c) || decide (c + n ≤ e.1)) }

theorem copyArea_copies {m : Memory} (hm : m.wf = true) (r c n : Nat) :
    (∀ i < n, (m.copyArea r c n).byte (c + i) = m.byte (r + i)) ∧
    (∀ a, (a < c ∨ c + n ≤ a) → (m.copyArea r c n).byte a = m.byte a) := by
  obtain ⟨kept, hkept⟩ : ∃ m' : Memory, { m with cells := m.cells.filter (fun e => decide (e.1 < c) || decide (c + n ≤ e.1)) } = m' := ⟨_, rfl⟩
  have hwf : kept.wf = true := hkept ▸ smWf_filter _ hm
  have hread (a : Nat) : kept.byte a = if a < c ∨ c + n ≤ a then m.byte a else 0 := by
    rw [← hkept]
    have := smGet_filter_key hm (fun a => decide (a < c) || decide (c + n ≤ a)) a
    simpa [Memory.byte] using this
  have hmoved (i : Nat) (hi : i < n) : smGet 0 (m.cells.filter (fun e => decide (r ≤ e.1) && decide (e.1 < r + n))) (r + i) = m.byte (r + i) := by
    have := smGet_filter_key hm (fun a => decide (r ≤ a) && decide (a < r + n)) (r + i)
    simpa [Memory.byte, hi] using this
  unfold Memory.copyArea
  rw [hkept]
  constructor
  · intro i hi
    have hzero : kept.byte (c + i) = 0 := by rw [hread, if_neg (by omega)]
    rw [byte_copied (smWfFrom_filter _ hm) (fun e he => by simp at he; exact he.2.1) hwf, hmoved i hi, hzero]
    split
    · rfl
    · next h0 => exact (not_not.1 h0).symm
  · intro a ha
    rw [byte_notCopied (fun e he => ?_) hwf, hread, if_pos ha]
    simp at he
    omega

theorem relocationDone_copies {r c : Nat} (hrel : s.mem.relocating = some (r, c)) :
    (relocationDone s).mem = { s.mem.copyArea (channelBase r) (channelBase c) journalBytes with journal := s.mem.journal ++ [c], relocating := none } := by
  unfold relocationDone
  rw [hrel]
  dsimp only
  rw [raise_mem, fault_mem]
  rfl

/-! ### Parts that leave service (R234) -/

/-- The state code of the Drinex link is as given. -/
def LinkAt (n : BitVec 3) (t : State) : Prop := t.drinex.st = n

variable {n : BitVec 3}

theorem linkAt_mk (h : LinkAt n t) {pending out draws clkc device mem cores slotMap spares counters syncFaults tailDiscards signals addends
    contexts queueObjs training fabric coll dict sources dests rel sec meter power} :
    LinkAt n (State.mk pending out draws clkc device mem cores slotMap spares counters syncFaults tailDiscards signals addends contexts
      queueObjs training fabric coll t.drinex dict sources dests rel sec meter power) := h

theorem linkAt_of_eq (h : LinkAt n t) (hu : u.drinex = t.drinex) : LinkAt n u := (congrArg Drinex.st hu).trans h

theorem linkAt_foldl {α : Type} {f : State → α → State} (hf : ∀ t a, LinkAt n t → LinkAt n (f t a)) (l : List α) (h : LinkAt n t) :
    LinkAt n (l.foldl f t) := List.foldlRecOn (motive := fun (t : State) => LinkAt n t) l f h fun t h a _ => hf t a h

theorem linkAt_raise (h : LinkAt n t) (m) : LinkAt n (raise t m) := (congrArg Drinex.st (links_raise (links_refl t) m).link :).trans h
theorem linkAt_emcy (h : LinkAt n t) (code unit) : LinkAt n (emcy t code unit) := linkAt_of_eq h (congrArg State.drinex (emcy_frame t code unit) :)
theorem linkAt_emcyClear (h : LinkAt n t) : LinkAt n (emcyClear t) := linkAt_of_eq h (congrArg State.drinex (emcyClear_frame t) :)

theorem linkAt_writeRecord (h : LinkAt n t) (m v w) : LinkAt n (writeRecord t m v w) := by
  unfold writeRecord
  grind [linkAt_raise, linkAt_emcy, linkAt_mk]

theorem linkAt_fault (h : LinkAt n t) (m) : LinkAt n (fault t m) := by
  unfold fault
  grind [linkAt_writeRecord, linkAt_raise, linkAt_mk]

theorem linkAt_setPort (h : LinkAt n t) (p k) : LinkAt n (setPort t p k) := by
  unfold setPort
  grind [linkAt_raise, linkAt_emcy, linkAt_emcyClear, linkAt_foldl, linkAt_mk]

theorem linkAt_portDown (h : LinkAt n t) (p) : LinkAt n (portDown t p) := by
  unfold portDown portFault
  grind [linkAt_setPort, linkAt_fault]

theorem linkAt_relocate (h : LinkAt n t) (lost) : LinkAt n (relocate t lost) := by
  unfold relocate
  grind [linkAt_raise, linkAt_mk]

theorem linkAt_downs (h : LinkAt n t) (hd : Downs t u) : LinkAt n u := linkAt_of_eq h (congrArg State.drinex hd :)

theorem linkAt_endSnapshot (h : LinkAt n s) : LinkAt n (endSnapshot s) := by
  unfold endSnapshot
  grind [linkAt_raise, linkAt_mk]

/-- The link that is lost is DOWN, unless it is DISABLED. -/
theorem linkLost_down (h : LinkAt n s) : (linkLost s).drinex.st = (if n = 4 then 4 else 0) ∧ (linkLost s).mem = s.mem ∧
    (linkLost s).dict = s.dict := by
  have h : s.drinex.st = n := h
  unfold linkLost
  rw [h]
  split
  · next hst =>
    refine ⟨?_, rfl, rfl⟩
    rcases hst with hst | hst <;> rw [h, hst] <;> rfl
  · next hst =>
    rw [not_or] at hst
    dsimp only
    generalize hu : ({ s with drinex := _ } : State) = u
    have hlink : LinkAt 0 u := by rw [← hu]; rfl
    have hm : u.mem = s.mem := by rw [← hu]
    have hd : u.dict = s.dict := by rw [← hu]
    rw [if_neg hst.2]
    exact ⟨linkAt_raise hlink 0x38C, (raise_mem ..).trans hm, (congrArg State.dict (raise_frame u 0x38C) :).trans hd⟩

theorem getLsbD_clearBits {w : Nat} (f : Nat → Nat) (l : List Nat) (m : BitVec w) {h : Nat} (hh : h < w) :
    (l.foldl (fun m i => m &&& ~~~(1#w <<< f i)) m).getLsbD h = (m.getLsbD h && decide (h ∉ l.map f)) := by
  induction l generalizing m with
  | nil => simp
  | cons i l ih =>
    rw [List.foldl_cons, ih, getLsbD_clearBit _ _ hh, Bool.and_assoc]
    congr 1
    simp [not_or]

/-- An I/O die that is lost takes its channels with it, and die 0 the link and the CAN node. -/
theorem loseIo_loses (s : State) {d : Nat} (hd : d < 2) : (∀ i < 4, (loseIo s d).mem.channels.getLsbD (4 * d + i) = false) ∧
    (d = 0 → (loseIo s d).drinex.st = (if s.drinex.st = 4 then 4 else 0) ∧ (loseIo s d).dict.busState = 2) := by
  unfold loseIo
  dsimp only
  obtain ⟨v, hv⟩ : ∃ v, (List.range 64).foldl (fun s p => if p / 4 % 2 = d then portDown s p else s)
    { s with rel := { s.rel with lostDies := (2 + d) :: s.rel.lostDies.filter (· ≠ 2 + d) } } = v := ⟨_, rfl⟩
  have hvlink : LinkAt s.drinex.st v := by
    rw [← hv]
    refine linkAt_foldl (fun t p h => ?_) _ (linkAt_mk rfl)
    split
    · exact linkAt_portDown h p
    · exact h
  rw [hv]
  generalize hgone : (List.range 4).foldl (fun (m : BitVec 8) i => m &&& ~~~(1#8 <<< (4 * d + i))) v.mem.channels = gone
  have hcleared (i : Nat) (hi : i < 4) : gone.getLsbD (4 * d + i) = false := by
    rw [← hgone, getLsbD_clearBits (4 * d + ·) _ _ (by omega)]
    simp [hi]
  have hdowns := downs_replayOthers (downs_blameLost (downs_refl { v with mem := { v.mem with channels := gone } })
    (fun _ _ k => bindsDdr s false k || touchesLost { v with mem := { v.mem with channels := gone } } k) stData)
  generalize replayOthers _ = w at hdowns ⊢
  have hwch : w.mem.channels = gone := (congrArg (fun u : State => u.mem.channels) hdowns :)
  have hwlink : LinkAt s.drinex.st w := linkAt_downs (linkAt_mk hvlink) hdowns
  obtain ⟨z, hz⟩ : ∃ z, (List.range 4).foldl (fun s i => relocate s (4 * d + i)) w = z := ⟨_, rfl⟩
  have hzch : z.mem.channels = gone := by
    rw [← hz]
    exact List.foldlRecOn (motive := fun u : State => u.mem.channels = gone) _ _ hwch fun u hu i _ => (relocate_channels ..).trans hu
  have hzlink : LinkAt s.drinex.st z := hz ▸ linkAt_foldl (fun t i h => linkAt_relocate h _) _ hwlink
  rw [hz]
  split
  · obtain ⟨hst, hmem, hdict⟩ := linkLost_down (linkAt_mk hzlink (dict := { z.dict with busState := 2 }))
    refine ⟨fun i hi => ?_, fun _ => ⟨hst, ?_⟩⟩
    · rw [hmem]
      exact hzch ▸ hcleared i hi
    · rw [hdict]
  · next hd0 => exact ⟨fun i hi => hzch ▸ hcleared i hi, fun h => absurd h hd0⟩

/-- The cores that are present stay. -/
def SameSlots (s t : State) : Prop := t.slotMap = s.slotMap

theorem sameSlots_foldl {α : Type} {f : State → α → State} (hf : ∀ t a, SameSlots s t → SameSlots s (f t a)) (l : List α)
    (h : SameSlots s t) : SameSlots s (l.foldl f t) :=
  List.foldlRecOn (motive := fun (t : State) => SameSlots s t) l f h fun t h a _ => hf t a h

theorem sameSlots_grantTo (h : SameSlots s t) (a) : SameSlots s (t.grantTo a) := by
  unfold State.grantTo
  split <;> exact h

theorem sameSlots_releaseBarrier (h : SameSlots s t) (x k) : SameSlots s (releaseBarrier t x k) :=
  sameSlots_foldl (fun _ a h => sameSlots_grantTo h a) _ h

theorem sameSlots_setBarrier (h : SameSlots s t) (x k b) : SameSlots s (t.setBarrier x k b) := h

theorem sameSlots_completeRound (h : SameSlots s t) (x k) : SameSlots s (completeRound t x k) := by
  unfold completeRound
  refine sameSlots_releaseBarrier ?_ ..
  exact h

theorem sameSlots_sendFrame (h : SameSlots s t) (f k) : SameSlots s (sendFrame t f k) := (congrArg State.slotMap (sendFrame_frame t f k) :).trans h

theorem sameSlots_sendAllFrames (h : SameSlots s t) (links f) : SameSlots s (sendAllFrames t links f) :=
  (congrArg State.slotMap (sendAllFrames_frame t links f) :).trans h

theorem sameSlots_multiBarrier (h : SameSlots s t) (n x k) : SameSlots s (multiBarrier n t x k) := by
  induction n generalizing t with
  | zero => exact h
  | succ n ih =>
    unfold multiBarrier
    dsimp only
    split
    · exact h
    · split
      · exact h
      · split
        · exact h
        · split
          · split
            · exact h
            · refine sameSlots_sendFrame ?_ ..
              exact h
          · exact ih (sameSlots_completeRound (sameSlots_sendAllFrames h ..) ..)

theorem sameSlots_checkBarrier (h : SameSlots s t) (x k) : SameSlots s (checkBarrier t x k) := by
  unfold checkBarrier
  grind [sameSlots_multiBarrier, sameSlots_releaseBarrier, sameSlots_setBarrier]

theorem sameSlots_leaveBarriers (h : SameSlots s t) (g) : SameSlots s (leaveBarriers t g) := by
  unfold leaveBarriers
  refine sameSlots_foldl (fun t x h => sameSlots_foldl (fun t k h => ?_) _ h) _ h
  dsimp only
  split
  · refine sameSlots_checkBarrier ?_ ..
    exact h
  · exact h

theorem sameSlots_loseStack (h : SameSlots s t) (i) : SameSlots s (loseStack t i) :=
  (congrArg State.slotMap (downs_replayOthers (downs_blameLost (downs_refl { t with mem := { t.mem with hbmStacks := t.mem.hbmStacks &&& ~~~(1#12 <<< i) } })
    _ stData)) :).trans h

/-- A table without a key. -/
theorem smGet_absent {α : Type} {d : α} {m : SMap α} {x : Nat} (h : ∀ e ∈ m, e.1 ≠ x) : smGet d m x = d := by
  by_contra hne
  exact h _ (smGet_mem hne) rfl

/-- A compute die that is lost takes its cores and its stacks with it. -/
theorem loseDie_loses (s : State) {d : Nat} (hd : d < 2) : (∀ g, g / 96 = d → (loseDie s d).present g = false) ∧
    (∀ i < 6, (loseDie s d).mem.hbmStacks.getLsbD (6 * d + i) = false) := by
  unfold loseDie
  dsimp only
  generalize List.foldl (fun (s : State) g => emcy (emptyWindows s g) 0xFF01 (s.coreUnit g)) _ _ = v
  generalize List.filter (fun g => g / 96 == d && _) (List.range 192) = lost
  obtain ⟨w, hw⟩ : ∃ w, { v with slotMap := v.slotMap.filter (fun e => !(e.1 / 96 == d)), cores := v.cores.filter (fun e => !(e.1 / 96 == d)) } = w := ⟨_, rfl⟩
  rw [hw]
  have hwslots : w.slotMap = v.slotMap.filter (fun e => !(e.1 / 96 == d)) := by rw [← hw]
  have hleft : SameSlots w (lost.foldl leaveBarriers w) := sameSlots_foldl (fun _ g h => sameSlots_leaveBarriers h g) _ rfl
  generalize lost.foldl leaveBarriers w = y at hleft ⊢
  obtain ⟨z, hz⟩ : ∃ z : State, { y with
    counters := y.counters.filter (fun e => decide (counterDie e.1 ≠ d))
    rel := { y.rel with lostDies := d :: y.rel.lostDies.filter (fun k => decide (k ≠ d)) } } = z := ⟨_, rfl⟩
  have hzslots : SameSlots w z := by
    rw [← hz]
    exact hleft
  rw [hz]
  have hslots : SameSlots w ((List.range 6).foldl (fun s i => loseStack s (6 * d + i)) z) :=
    sameSlots_foldl (fun _ i h => sameSlots_loseStack h _) _ hzslots
  have hstacks (i : Nat) (hi : i < 6) : ((List.range 6).foldl (fun s i => loseStack s (6 * d + i)) z).mem.hbmStacks.getLsbD (6 * d + i) = false := by
    have hclear := foldl_clears (f := loseStack) (m := fun u => u.mem.hbmStacks) (fun t i => by rw [loseStack_stacks])
      ((List.range 6).map (6 * d + ·)) z (h := 6 * d + i) (by omega)
    rw [List.foldl_map] at hclear
    rw [hclear]
    simp [hi]
  generalize (List.range 6).foldl (fun s i => loseStack s (6 * d + i)) z = p at hslots hstacks ⊢
  have hp : (raise p 0x382).slotMap = v.slotMap.filter (fun e => !(e.1 / 96 == d)) :=
    ((congrArg State.slotMap (raise_frame p 0x382) :).trans hslots).trans hwslots
  refine ⟨fun g hg => ?_, fun i hi => by rw [raise_mem]; exact hstacks i hi⟩
  unfold State.present
  rw [hp, smGet_absent fun e he => ?_]
  · rfl
  · have hin := (List.mem_filter.1 he).2
    rintro rfl
    simp [hg] at hin

end

/-- Settles O17: replay, cascades, snapshots and their end, the journal's relocation, and the parts that leave service. -/
theorem recoverySnapshotsAndLosses : Obligations.RecoverySnapshotsAndLosses := by
  unfold Obligations.RecoverySnapshotsAndLosses
  refine ⟨⟨fun s x k h hs hsnap hhead hst hwait hcall => ?_, fun s x q seq k hs hsnap hk hstarted hnext hgone hmark => ?_,
      fun s x q seq k hs hk hstarted => ?_⟩,
    fun s acc r => ?_, fun s x q seq p a w k m f comm n j det rd ix src c hc => ?_, fun s hbusy => ?_, fun s lost r c rest hin hlost hrest hcan => ?_,
    fun s r c hs hrel => ?_, fun s d => ?_, fun s h => ?_, fun s m => ?_, fun s d => ?_, fun s => ?_⟩
  · refine ⟨_, rfl, ?_⟩
    rw [endSnapshot_idle hsnap]
    exact replay_recovers hs hhead hst hwait hcall
  · refine ⟨_, rfl, ?_⟩
    rw [endSnapshot_idle hsnap]
    obtain ⟨hcascades, hcleared, hframe⟩ := cascadeStep_ends hs hk hstarted hnext hgone hmark
    exact ⟨hcascades, fun v hv hvalid hkind hwaits => hcleared v hv ⟨hvalid, hkind, hwaits⟩, hframe⟩
  · refine ⟨_, rfl, cascadeStep_starts ?_ hstarted⟩
    rwa [ctx_of_contexts (endSnapshot_contexts s)]
  · intro s0 a hadm hidle halign hrange hregion hr
    have htouch : touchSelects s acc = s := touchSelects_unselected hadm ownObject_snapshotCommand.2
    have hs0 : s0 = s := htouch
    rw [hs0] at hrange hregion ⊢
    refine dictCommand_takes hadm ownObject_snapshotCommand rfl ?_
    show answerOf s (snapshotStart s) = _
    rw [snapshotStart_takes hidle halign hrange hregion hr]
    rfl
  · show exec c s = exec c (endSnapshot s)
    refine (?_ : EndsSnapshot c) s |>.symm
    have hc : c ∈ hostSteps x q seq ++ (syncSteps p a w x k m ++ collectiveSteps f comm n j det rd ix src) := hc
    rcases List.mem_append.1 hc with hc | hc
    · exact endsSnapshot_host x q seq c hc
    · rcases List.mem_append.1 hc with hc | hc
      · exact endsSnapshot_sync p a w x k m c hc
      · exact endsSnapshot_collectives f comm n j det rd ix src c hc
  · refine congrArg Host.Outcome.next ?_
    unfold endSnapshot
    exact if_pos hbusy
  · refine ⟨_, rfl, ?_⟩
    obtain ⟨hyes, hfirst⟩ := hcan
    rw [relocate_begins (r := r) (c := c) (rest := rest) (by rwa [endSnapshot_mem]) (by rwa [endSnapshot_mem]) (by rwa [endSnapshot_mem])
      (by rwa [endSnapshot_mem]) (by rwa [endSnapshot_mem]), endSnapshot_mem]
  · obtain ⟨hmem, -⟩ := State.wf_iff.1 hs
    obtain ⟨hin, hout⟩ := copyArea_copies hmem (channelBase r) (channelBase c) journalBytes
    have hnew := relocationDone_copies (s := endSnapshot s) (by rwa [endSnapshot_mem])
    rw [endSnapshot_mem] at hnew
    refine ⟨relocationDone (endSnapshot s), rfl, ?_⟩
    dsimp only
    rw [hnew]
    exact ⟨rfl, rfl, hin, hout⟩
  · have hexec : exec (.partLost (.computeDie d)) s = .next (loseDie (endSnapshot s) d) := rfl
    obtain ⟨hcores, hstacks⟩ := loseDie_loses (endSnapshot s) d.isLt
    rw [hexec]
    generalize loseDie (endSnapshot s) d = t at hcores hstacks ⊢
    exact ⟨t, rfl, fun g hg => hcores g hg, hstacks⟩
  · refine ⟨_, rfl, (loseStack_stacks ..).trans ?_⟩
    rw [endSnapshot_mem]
  · refine ⟨_, rfl, (loseChannel_channels ..).trans ?_⟩
    rw [endSnapshot_mem]
  · have hexec : exec (.partLost (.ioDie d)) s = .next (loseIo (endSnapshot s) d) := rfl
    obtain ⟨hchannels, hlink⟩ := loseIo_loses (endSnapshot s) d.isLt
    have hst : (endSnapshot s).drinex.st = s.drinex.st := linkAt_endSnapshot rfl
    rw [hst] at hlink
    rw [hexec]
    generalize loseIo (endSnapshot s) d = t at hchannels hlink ⊢
    exact ⟨t, rfl, hchannels, hlink⟩
  · obtain ⟨hst, hmem, -⟩ := linkLost_down (linkAt_endSnapshot (s := s) rfl)
    exact ⟨_, rfl, hst, hmem.trans (endSnapshot_mem s)⟩

end Sys2Proof.Machine
end
